-- ==== Sys2Proof/Word.lean ====
section
/-! DEFINITION. The plainest types of the model: bytes, stores of values by address, and the closed lists of names the
spec gives (modes, links, variants, result codes). -/

namespace Sys2Proof

/-- One byte (R10, R13). -/
abbrev Byte := BitVec 8

/-- An octet block, lowest address first. -/
abbrev Bytes := List Byte

/-- A sparse table by number, sorted by number; a number not listed has the type's default (zero, false, none, empty). -/
abbrev Tab (α : Type) := List (Nat × α)

/-- Values by object address (index × 256 + sub-index, R11), raw unsigned. -/
abbrev Store := Tab Nat

/-- Octet blocks by object address. -/
abbrev DomStore := Tab Bytes

/-- The six modes, in mode-code order (Scope, R49). -/
inductive Mode where
  | boot | hold | ready | run | watch | test
  deriving DecidableEq, Repr

/-- The three host links (chapter 13). -/
inductive Link where
  | spt | twa | can
  deriving DecidableEq, Repr

/-- The variants of Table 0.1 (R3). -/
inductive Variant where
  | sv21 | sv31 | sv62 | sv74 | sv84
  deriving DecidableEq, Repr

/-- Result codes of Table 3.4 (R95), in code order 0x00 to 0x0F. -/
inductive Result where
  | ok | busy | notReady | denied | range | check | synthUnlocked | regulatory
  | noCredit | markLost | busStuck | busConflict | configInvalid | mode | noObject | fault
  deriving DecidableEq, Repr

/-- The two ends of a die-to-die link (chapter 1). -/
inductive LinkSide where
  | cx | die
  deriving DecidableEq, Repr


/-- What SFDP discovery finds on one flash's select at BOOT (R472). -/
structure FlashInfo where
  sfdpOk : Bool
  jedec : Nat
  sizeKib : Nat
  sfdpRev : Nat
  readMode : Nat
  addrBytes : Nat
  eraseSizes : Nat
  deriving DecidableEq, Repr

/-- Why a received SPT frame is not accepted or is (R435, R437): what the wire showed. -/
structure SptFrame where
  /-- The bytes clocked on SPT_MOSI in the transaction, first byte first. -/
  bytes : Bytes
  deriving DecidableEq, Repr

/-- One CAN frame on a line. -/
structure CanFrame where
  cobId : Nat
  data : Bytes
  deriving DecidableEq, Repr


/-! Measured facts that an event row carries: what the world outside the part's digital state contributes. -/

/-- One chain's result of a tone measurement (R213): the phase of the tone fitted against its quad's synthesiser, in 0.01°,
the tone power at its LNA input in 0.25 dBm, and how far below the tone the fit residual is, in 0.25 dB. -/
structure ToneMeas where
  chain : Fin 16
  theta : Int
  power : Int
  residual : Int
  deriving DecidableEq, Repr

/-- One chain's converged weights (R151). -/
structure ReedRes where
  chain : Fin 16
  wi : Int
  wq : Int
  deriving DecidableEq, Repr

/-- What a synthesiser's lock brings (R138): µs since the retune started, and the chains of the quad whose offset calibration
failed (Table 4.4). -/
structure SynthRes where
  lockUs : BitVec 32
  failOffset : BitVec 4
  deriving DecidableEq, Repr

/-- What Reed's tracking measures of a chain in 25 µs: REED_RESIDUAL, and θ_fwd,c of the forward detector in 0.01° (R154,
R212). -/
structure TrackRes where
  residual : Int
  theta : Int
  deriving DecidableEq, Repr

/-- One chain's result of a return-loss sweep step (R150): converged weights and return loss, `none` when the
detector gave no reading, and what its capture and its forward detector give for the phase table, κ_c and θ_fwd,c in 0.01°
(Table 6.2). -/
structure SweepRes where
  chain : Fin 16
  wi : Int
  wq : Int
  rl : Option Int
  kappa : Int
  fwd : Int
  deriving DecidableEq, Repr

/-- One reading of the isolation measurement (R207): what chain `dst` of another quad receives at its LNA input while chain
`src` carries Drone at −10 dBm, in 0.25 dBm. -/
structure IsoMeas where
  src : Fin 16
  dst : Fin 16
  level : Int
  deriving DecidableEq, Repr

/-- What a full calibration finds (Table 4.4): the quad-level failures, the chains failing each chain-level
calibration (bit k: chain 4q + k), the die temperature and the run's duration in µs. -/
structure CalRes where
  failOsc : Bool
  failFilter : Bool
  failOffset : BitVec 4
  failImage : BitVec 4
  failPower : BitVec 4
  temp : Int
  durUs : Nat
  deriving DecidableEq, Repr

/-- One receive beam's decode of a slot's reply (R229, R259). -/
structure Decode where
  rxBeam : Fin 16
  rn16 : BitVec 16
  snr : Int
  deriving DecidableEq, Repr

/-- One chain's estimate from a reply's preamble (R224): the power of the reply and of the noise in 0.25 dBm, and the phase of
its complex amplitude in 0.01°. -/
structure PreMeas where
  chain : Fin 16
  amp : Int
  noise : Int
  phase : Int
  deriving DecidableEq, Repr

/-- What Consort makes of a slot's reply (R259): `garbled` a preamble but no valid RN16, otherwise the decodes. -/
structure SlotReply where
  decodes : List Decode
  garbled : Bool
  /-- The DECISION flit reached the leader too late (R33). -/
  late : Bool
  /-- The preamble on each chain, from which COMBINED beams form their weights (R224). -/
  pre : List PreMeas
  deriving DecidableEq, Repr

/-- The reply to ACK (R260, R261): `crcOk` the CRC-16 matched; `challenge` the Challenge response after the EPC. -/
structure EpcReply where
  crcOk : Bool
  pc : BitVec 16
  /-- XPC_W1, read where XI = 1 (R261). -/
  xpc : BitVec 16
  /-- XPC_W2, read where XEB = 1 (R261). -/
  xpc2 : BitVec 16
  epc : Bytes
  challenge : Option Bytes
  /-- The receive beams that decoded it. -/
  rx : List (Fin 16)
  /-- The preamble on each chain (R224). -/
  pre : List PreMeas
  deriving DecidableEq, Repr

/-- What a command of an access operation draws from the tag (R257, R269, R276): no reply in its window, a reply that fails its
CRC-16, a reply whose DECISION came late (R33), the tag's error reply, or the bytes of its reply after the handle and the
header, first byte first; the reply to Req_RN and to Access is its 16-bit word, most significant byte first. -/
inductive TagReply where
  | none | badCrc | late
  | error (code : BitVec 8)
  | data (b : Bytes)
  deriving DecidableEq, Repr

/-- What the correlation of a whole reply gives on one chain (R234): the phase of the backscatter measured at the chain, in
0.01°, POWER in 0.25 dBm and SNR in 0.25 dB. -/
structure RawMeas where
  chain : Fin 16
  theta : Int
  power : Int
  snr : Int
  deriving DecidableEq, Repr

/-- One chain's entry of a measurement block (R235, R236): PHASE in 360°/4,096, POWER in 0.25 dBm, SNR in 0.25 dB. -/
structure ChainMeas where
  chain : Fin 16
  phase : Fin 4096
  power : Int
  snr : Int
  deriving DecidableEq, Repr

/-- What stands in one memory line when it is read (R382, R384): on MX, the bytes that the inner code has left wrong, with
their wrong bits; on SRAM, a single-bit or a double-bit error of a 64-bit word. -/
inductive MemErr where
  | wrong (bytes : List (Fin 132 × Byte))
  | sramSingle
  | sramDouble
  deriving DecidableEq, Repr

/-- What the check of a received card frame finds (R398, R407). -/
inductive FrameCheck where
  | good | badCrc | protocol
  deriving DecidableEq, Repr

/-- Why the HF driver faults (R414). -/
inductive DriverFault where
  | current | temperature | supply
  deriving DecidableEq, Repr

/-- The state of the TWB lines before a START (R482): free, SDA low but released within nine pulses, or held. -/
inductive TwbBus where
  | free | recovers | stuck
  deriving DecidableEq, Repr

/-- How an uncorrupted TWB transfer ends (R480). -/
inductive TwbEnd where
  | done | addrNack | dataNack
  deriving DecidableEq, Repr

/-- A USDO request frame addressed to the part (R456, CiA 1301). -/
inductive UsdoReq where
  | upload (index sub : Nat)
  | uploadSegment
  | downloadExpedited (index sub : Nat) (data : Bytes)
  | downloadInit (index sub size : Nat)
  | downloadSegment (data : Bytes) (last : Bool)
  | abort
  | bulkOrRemote
  deriving DecidableEq, Repr

/-- The die temperatures of one sample, in 0.1 °C (R543, R545). -/
structure Temps where
  cx : Int
  px : Int
  mx : Int
  ux0 : Int
  ux1 : Int
  ux2 : Int
  ux3 : Int
  hx : Int
  deriving DecidableEq, Repr

/-- The supply averages of one sample, in mV (R543, R545). -/
structure Volts where
  vin : BitVec 16
  vioA : BitVec 16
  vioB : BitVec 16
  core : BitVec 16
  aux : BitVec 16
  pxMain : BitVec 16
  pa0 : BitVec 16
  pa1 : BitVec 16
  pa2 : BitVec 16
  pa3 : BitVec 16
  ripple : BitVec 16
  deriving DecidableEq, Repr

/-- The rails a hardware comparator watches (R545, Table 17.2). -/
inductive Rail where
  | vinLow | vinHigh | core | aux | pxMain | pa (quad : Fin 4)
  deriving DecidableEq, Repr

/-- The process deviations of one measurement, in 0.1% (R543, R545). -/
structure Procs where
  cx : Int
  ux0 : Int
  ux1 : Int
  ux2 : Int
  ux3 : Int
  hx : Int
  deriving DecidableEq, Repr

/-- Where an error in firmware working memory lies (R552). -/
inductive WorkErr where
  | corrected | oneCopy | codePage | buffer (region : Fin 7) | bothCopies
  deriving DecidableEq, Repr

/-- What the verification of a loaded firmware slot finds (R528): a CHECK failure (length, digest, magic), a DENIED
failure (signature, SVN), or a slot that verifies with this version and SVN. -/
inductive FwVerdict where
  | check | denied | good (version : BitVec 32) (svn : Fin 65)
  deriving DecidableEq, Repr

/-- The instructions of the IEEE 1149.1 TAP (R540). -/
inductive TapInstr where
  | bypass | idcode | samplePreload | extest
  deriving DecidableEq, Repr

/-- The instants at which the host links start in BOOT (R73, Table 2.8). -/
inductive BootLink where
  | spt | twa | can
  deriving DecidableEq, Repr

end Sys2Proof
end

