-- ==== Sys2Proof/Syntax.lean ====
section
/-! DEFINITION. The commands of the block: one constructor per row of spec/opcode_table.json, in the chapters' order. A
row that a host sends carries its link; a row for what happens in the part or outside carries the facts the step
depends on. -/

namespace Sys2Proof

/-- The commands. The rule named is the row's rule in the opcode table. -/
inductive Instr where
  -- 01 The part as assembled
  /-- FLIT_RECEIVED (R26): a flit arrives at one end of hub `hub`; `codeErr`: an 8b/10b code or disparity error. -/
  | flitReceived (hub : Fin 5) (side : LinkSide) (flit : Bytes) (codeErr : Bool)
  /-- REPLAY_TIMEOUT (R27): `side` is the sender holding the unacknowledged flit. -/
  | replayTimeout (hub : Fin 5) (side : LinkSide)
  /-- LINK_DOWN (R30). -/
  | linkDown (hub : Fin 5)
  /-- LINK_TRAINING_DONE (R32): bit n of `up`/`down`: lane n of that direction passed. -/
  | linkTrainingDone (hub : Fin 5) (up down : Nat)
  /-- LINK_RETRAIN_TIMER (R31, Sequence 1.1 step 7). -/
  | linkRetrainTimer (hub : Fin 5)
  /-- PX_RAIL_FAULT (R20): `some q`: the PA rail of quad q; `none`: the PX main buck. -/
  | pxRailFault (quad : Option (Fin 4))
  /-- TONE_MEASURE_DONE (R213): the gang led by `leader` ends its window, with what each of its chains measured. -/
  | toneMeasureDone (leader : Fin 4) (meas : List ToneMeas)
  /-- REF_LOST (R40). -/
  | refLost
  /-- REFCLK_ACCEPTED (R41). -/
  | refclkAccepted
  /-- DEVICE_TIME_LO_READ (R43). -/
  | deviceTimeLoRead (link : Link)
  /-- WIDE_SHADOW_EXPIRE (R134): 1 ms has passed since the link's shadow was latched. -/
  | wideShadowExpire (link : Link)
  /-- WIDE_VALUE_LO_READ (R134): a read of the lowest part, at this address, of a linked wide value. -/
  | wideValueLoRead (link : Link) (index sub : Nat)
  /-- TAG_REPLY_END (R45): the last symbol of a reply ends at a BELL ball of the beam's gang. -/
  | tagReplyEnd (beam : Fin 4)
  /-- REPLY_DECODED (R259). -/
  | replyDecoded (beam : Fin 4) (reply : SlotReply)
  -- 02 Modes, start-up and the first second
  /-- REQ_HOLD (R59): MODE_REQUEST = 1. -/
  | reqHold (link : Link)
  /-- REQ_READY (R59): MODE_REQUEST = 2. -/
  | reqReady (link : Link)
  /-- REQ_RUN (R59): MODE_REQUEST = 3. -/
  | reqRun (link : Link)
  /-- REQ_WATCH (R59): MODE_REQUEST = 4. -/
  | reqWatch (link : Link)
  /-- REQ_TEST (R83): MODE_REQUEST = 5. -/
  | reqTest (link : Link)
  /-- MODE_TRANSITION_DONE (R49). -/
  | modeTransitionDone
  /-- RESET_REQUEST (R58): 0xA5 written to RESET_REQUEST. -/
  | resetRequest (link : Link)
  /-- RESET_RELEASE (R59, R67): the straps, the GATE levels and what the secure core and SFDP discovery find in the
  flashes (R523, R472), the firmware slots' verification included. -/
  | resetRelease (testen : Bool) (twaAs canId : Fin 8) (gates : BitVec 8) (fwA fwB : FwVerdict) (flashes : List FlashInfo)
  /-- BOOT_REFCLK_ACCEPTED (R42). -/
  | bootRefclkAccepted
  /-- BOOT_LINK_START (R73). -/
  | bootLinkStart (which : BootLink)
  /-- BOOT_END (R70): `durUs` is the time since reset release in µs. -/
  | bootEnd (durUs : BitVec 32)
  /-- TEST_CARRIER_START (R86). -/
  | testCarrierStart (link : Link)
  /-- TEST_CARRIER_STOP (R86). -/
  | testCarrierStop (link : Link)
  /-- TEST_CARRIER_TIMEOUT (R86). -/
  | testCarrierTimeout
  /-- TEST_HF_FIELD_RAISE (R86). -/
  | testHfFieldRaise (link : Link)
  /-- TEST_HF_FIELD_DROP (R86). -/
  | testHfFieldDrop (link : Link)
  /-- TEST_HF_TIMEOUT (R86). -/
  | testHfTimeout
  /-- CAPTURE_GO (R86). -/
  | captureGo (link : Link)
  /-- CAPTURE_DONE (R86): the 49,152 bytes captured. -/
  | captureDone (data : Bytes)
  -- 03 The object dictionary
  /-- OBJECT_WRITE (R14): a write to an object with no row of its own. -/
  | objectWrite (link : Link) (index sub : Nat) (data : Bytes)
  /-- STAGE_WRITE (R97): a write to an RWS or LOCK object. -/
  | stageWrite (link : Link) (index sub : Nat) (data : Bytes)
  /-- COMMIT_STAGED (R106). -/
  | commitStaged (link : Link)
  /-- COMMIT_IMAGE (R106). -/
  | commitImage (link : Link)
  /-- VALIDATION_DONE (R121). -/
  | validationDone
  /-- APPLY_INSTANT (R111). -/
  | applyInstant
  /-- CONFIG_PERSIST_DONE (R115): `ok`: the image was written and read back. -/
  | configPersistDone (ok : Bool)
  /-- DISCARD (R124). -/
  | discard (link : Link)
  /-- CONFIG_IMAGE_APPEND (R124). -/
  | configImageAppend (link : Link) (data : Bytes)
  -- 04 UHF quads and chains
  /-- SYNTH_LOCK (R138). -/
  | synthLock (quad : Fin 4) (res : SynthRes)
  /-- SYNTH_UNLOCK (R140). -/
  | synthUnlock (quad : Fin 4)
  /-- SYNTH_HOLD_TIMEOUT (R143). -/
  | synthHoldTimeout (quad : Fin 4)
  /-- DRONE_RAMP_DONE (R145). -/
  | droneRampDone (chain : Fin 16)
  /-- PA_FAULT (R148): `temp`: the temperature limit, otherwise the current limit. -/
  | paFault (chain : Fin 16) (temp : Bool)
  /-- PA_RAIL_FAULT (R147). -/
  | paRailFault (quad : Fin 4)
  /-- PA_RAIL_RECOVERED (R147). -/
  | paRailRecovered (quad : Fin 4)
  /-- REED_CONVERGED (R151): the converged weights of the chains contributing to the beam. -/
  | reedConverged (beam : Fin 4) (weights : List ReedRes)
  /-- REED_CONVERGE_TIMEOUT (R151). -/
  | reedConvergeTimeout (chain : Fin 16)
  /-- REED_TRACK_TICK (R154): the step each weight takes, the residual carrier then, and θ_fwd,c of the forward detector in
  0.01°, refreshed as often (R212, Table 6.2). -/
  | reedTrackTick (chain : Fin 16) (di dq : Int) (res : TrackRes)
  /-- REED_LIMIT (R156). -/
  | reedLimit (chain : Fin 16)
  /-- BLOCKER (R159). -/
  | blocker (chain : Fin 16)
  /-- RETURN_LOSS_UPDATE (R161): return loss and forward power of the 100 µs average. -/
  | returnLossUpdate (chain : Fin 16) (rl fwd : Int)
  /-- PROBE_SUCCESS (R163). -/
  | probeSuccess (chain : Fin 16)
  /-- SWEEP_CHANNEL_DONE (R150): the results on the sweep's current channel, and after the lowest one the readings of the
  isolation measurement (R207). -/
  | sweepChannelDone (results : List SweepRes) (iso : List IsoMeas)
  /-- TURNROUND_END (R166). -/
  | turnroundEnd (beam : Fin 4)
  /-- FULL_CAL_DONE (R170). -/
  | fullCalDone (quad : Fin 4) (res : CalRes)
  /-- CAL_RETRY_TIMER (R172). -/
  | calRetryTimer (quad : Fin 4)
  /-- CAL_REQUEST (R174). -/
  | calRequest (link : Link) (quad : Fin 4)
  /-- REED_RESEED (R175). -/
  | reedReseed (link : Link) (chain : Fin 16)
  /-- CHAIN_FAULT_CLEAR (R179). -/
  | chainFaultClear (link : Link) (chain : Fin 16)
  -- 05 Regulatory limits
  /-- DESCRIPTOR_RELEASE (R190): the next descriptor of the gang led by `leader`, or a hop to `hop` kHz within its dwell. -/
  | descriptorRelease (leader : Fin 4) (hop : Option (BitVec 32))
  /-- PERMIT_WITHDRAW (R192): `dwell`: the window sum, otherwise the run counter. -/
  | permitWithdraw (entry : Fin 64) (dwell : Bool)
  /-- PERMIT_RETURN (R192). -/
  | permitReturn (entry : Fin 64) (dwell : Bool)
  /-- REG_LOCK_ARM (R197). -/
  | regLockArm (link : Link) (value : BitVec 8)
  /-- REG_LOCK_FIRE (R197). -/
  | regLockFire (link : Link) (value : BitVec 32)
  /-- LOCK_FIRE_DONE (R197): `ok`: the read-back matched. -/
  | lockFireDone (ok : Bool)
  /-- LOCK_ARM_TIMEOUT (R197). -/
  | lockArmTimeout
  /-- VIEW_INDEX_WRITE (R200). -/
  | viewIndexWrite (link : Link) (value : BitVec 8)
  -- 06 The coherent array
  /-- SURVEY_START (R220). -/
  | surveyStart (link : Link)
  /-- SURVEY_ABORT (R221). -/
  | surveyAbort (link : Link)
  /-- SURVEY_TIMEOUT (R221). -/
  | surveyTimeout
  /-- LANE_SELFTEST (R233). -/
  | laneSelftest (lane : Fin 32) (pass : Bool)
  /-- READ_MEASURED (R234): the measured chains in ascending order. -/
  | readMeasured (beam : Fin 4) (meas : List RawMeas)
  -- 07 The air protocol engine
  /-- ROUND_START (R243). -/
  | roundStart (beam : Fin 4)
  /-- POWER_UP_HOLD_END (R245). -/
  | powerUpHoldEnd (beam : Fin 4)
  /-- SLOT_EMPTY_TIMEOUT (R256). -/
  | slotEmptyTimeout (beam : Fin 4)
  /-- EPC_REPLY (R260). -/
  | epcReply (beam : Fin 4) (reply : EpcReply)
  /-- ACCESS_REPLY_TIMEOUT (R257). -/
  | accessReplyTimeout (beam : Fin 4)
  /-- ACCESS_OP_END (R270): the access code 0 to 7 the steps of R269 came to, the tag's error code and the result's data. -/
  | accessOpEnd (beam : Fin 4) (replies : List TagReply) (rx : List (Fin 16)) (pre : List PreMeas)
  /-- ROUND_END (R248). -/
  | roundEnd (beam : Fin 4)
  /-- OP_ARM (R273). -/
  | opArm (link : Link) (slot : Fin 16)
  /-- OP_DISARM (R273). -/
  | opDisarm (link : Link) (slot : Fin 16)
  /-- RESULT_RELEASE (R277). -/
  | resultRelease (link : Link) (id : BitVec 32)
  -- 08 Localisation, passages and traffic counts
  /-- LOC_BATCH (R280): the reads waiting are localised. -/
  | locBatch
  /-- TRACK_JOIN (R280): the oldest located read is joined to its track. -/
  | trackJoin
  /-- TRACK_CLOSE_GAP (R300). -/
  | trackCloseGap (tag : BitVec 32)
  /-- COUNT_INTERVAL_PUBLISH (R302). -/
  | countIntervalPublish
  -- 09 Valve
  /-- PLAN_BOUNDARY (R309): the measured power of the last 1 s in mW. -/
  | planBoundary (measMw : BitVec 16)
  /-- DWELL_START (R315). -/
  | dwellStart (leader : Fin 4)
  /-- DWELL_END (R315). -/
  | dwellEnd (leader : Fin 4)
  /-- POWER_MEASURE (R325): the measured 10 ms average. -/
  | powerMeasure (mw : BitVec 16)
  /-- HF_START_DEFERRED (R326). -/
  | hfStartDeferred
  -- 10 Reports
  /-- PACKET_AGE_TIMEOUT (R349). -/
  | packetAgeTimeout (stream : Fin 3) (kind : Fin 5)
  /-- REPORT_WINDOW_END (R354). -/
  | reportWindowEnd
  /-- CREDIT_GRANT (R363). -/
  | creditGrant (link : Link) (stream : Fin 3) (n : BitVec 32)
  /-- LINK_CREDIT_GRANT (R428): the shortcut of link `target`. -/
  | linkCreditGrant (link : Link) (target : Link) (n : BitVec 32)
  /-- REPORT_NEXT (R364). -/
  | reportNext (link : Link) (stream : Fin 3)
  /-- REPORT_RELEASE (R364). -/
  | reportRelease (link : Link) (stream : Fin 3) (seq : BitVec 32)
  /-- WM_ACK (R367). -/
  | wmAck (link : Link) (stream : Fin 3)
  /-- HOT_READ (R373). -/
  | hotRead (link : Link)
  /-- MARK_SET (R374). -/
  | markSet (link : Link) (stream : Fin 3) (n : BitVec 8)
  /-- MARK_CLEAR (R374). -/
  | markClear (link : Link) (stream : Fin 3) (n : BitVec 8)
  /-- REWIND (R375). -/
  | rewind (link : Link) (stream : Fin 3) (n : BitVec 8)
  /-- REWIND_DONE (R375). -/
  | rewindDone (stream : Fin 3)
  -- 11 The managed store
  /-- SCRUB_STEP (R386): what the read of line `line` of region `region` finds; `last`: it ends the pass. -/
  | scrubStep (region : Fin 7) (line : BitVec 32) (err : MemErr) (last : Bool)
  /-- ROW_REPAIR_DONE (R392). -/
  | rowRepairDone
  /-- REPAIR_MAP_STORED (R392). -/
  | repairMapStored (ok : Bool)
  /-- INNER_COUNT_UPDATE (R381): MX's corrections of the last 1 s. -/
  | innerCountUpdate (n : BitVec 32)
  -- 12 The HF reader and Breath
  /-- HF_DISCOVER (R403). -/
  | hfDiscover (link : Link)
  /-- HF_ACTIVATE (R403). -/
  | hfActivate (link : Link)
  /-- HF_EXCHANGE (R403). -/
  | hfExchange (link : Link)
  /-- HF_RELEASE (R403). -/
  | hfRelease (link : Link)
  /-- HF_ABORT (R403). -/
  | hfAbort (link : Link)
  /-- HF_FRAME_RECEIVED (R407). -/
  | hfFrameReceived (frame : Bytes) (check : FrameCheck)
  /-- HF_REPLY_TIMEOUT (R407). -/
  | hfReplyTimeout
  /-- HF_OP_END (R403): the running operation's protocol has come to `status` with response `rsp`; `cards` are the
  16-byte entries a DISCOVER found (R406) and `more` that it stopped or a collision stayed. -/
  | hfOpEnd (status : Fin 12) (rsp : Bytes) (cards : List Bytes) (more : Bool)
  /-- HF_SESSION_IDLE (R405). -/
  | hfSessionIdle
  /-- SLIDE_TRACK_TICK (R411): the step each code takes, and the impedance then. -/
  | slideTrackTick (dcs dcp : Int) (phase : Int) (z : BitVec 16)
  /-- HF_DRIVER_FAULT (R414). -/
  | hfDriverFault (why : DriverFault)
  /-- HF_FAULT_CLEAR (R413). -/
  | hfFaultClear (link : Link)
  /-- HF_PLL_UNLOCK (R417). -/
  | hfPllUnlock
  /-- HF_RECOVERY_RETRY (R417). -/
  | hfRecoveryRetry (ok : Bool)
  /-- SLIDE_RETUNE (R416). -/
  | slideRetune (link : Link)
  /-- SLIDE_CAL_DONE (R415): the codes found and the impedance with them; `ok`: |phase| ≤ 45°. -/
  | slideCalDone (ok : Bool) (cs cp : Fin 64) (phase : Int) (z : BitVec 16) (temp : Int)
  /-- BREATH_PULSE (R418): the pulse's amplitude, in the receiver's units, and its phase in 0.01°. -/
  | breathPulse (amp : Int) (phase : Int)
  /-- BREATH_SECOND_PULSE (R419). -/
  | breathSecondPulse (amp : Int) (phase : Int)
  /-- BREATH_CONFIRM_END (R420): `sof`: a start of frame was received. -/
  | breathConfirmEnd (sof : Bool)
  /-- BREATH_BASELINE_DONE (R415): the mean of the 8 pulses and whether their spread passes. -/
  | breathBaselineDone (amp : Int) (phase : Int) (ok : Bool)
  -- 13 Host links
  /-- SPT_SELECT_RELEASE (R435): the bytes clocked on SPT_MOSI in the transaction. -/
  | sptSelectRelease (mosi : Bytes)
  /-- SPT_FETCH (R430). -/
  | sptFetch
  /-- SPT_READ (R432). -/
  | sptRead
  /-- SPT_WRITE (R433). -/
  | sptWrite
  /-- SPT_BLOCK_READ (R434). -/
  | sptBlockRead
  /-- TWA_STATUS (R441). -/
  | twaStatus
  /-- TWA_MODE_SET (R441). -/
  | twaModeSet (mode : BitVec 8)
  /-- TWA_EVENTS (R441). -/
  | twaEvents
  /-- TWA_EVENT_ACK (R441). -/
  | twaEventAck (mask : BitVec 64)
  /-- TWA_CREDIT (R441). -/
  | twaCredit (n : BitVec 32)
  /-- TWA_OBJ_READ (R441). -/
  | twaObjRead (index : BitVec 16) (sub : BitVec 8) (n : BitVec 8)
  /-- TWA_OBJ_WRITE (R441). -/
  | twaObjWrite (index : BitVec 16) (sub : BitVec 8) (data : Bytes)
  /-- TWA_DOM_READ (R441). -/
  | twaDomRead (index : BitVec 16) (sub : BitVec 8) (offset : BitVec 16) (n : BitVec 8)
  /-- TWA_DOM_WRITE (R446). -/
  | twaDomWrite (index : BitVec 16) (sub : BitVec 8) (seg : BitVec 8) (data : Bytes)
  /-- TWA_WINDOW (R447). -/
  | twaWindow (ptr : BitVec 8) (data : Bytes)
  /-- TWA_REPLY_READ (R441): `n` bytes clocked after the status byte. -/
  | twaReplyRead (n : Nat)
  /-- TWA_WRITE_REJECT (R443): `excess`: more bytes than the command gives, otherwise a bad PEC or an early STOP. -/
  | twaWriteReject (excess : Bool)
  /-- TWA_ARA (R448): `won`: the part won the arbitration. -/
  | twaAra (won : Bool)
  /-- TWA_ALERT_REASSERT (R448). -/
  | twaAlertReassert
  /-- TWA_BUS_TIMEOUT (R449). -/
  | twaBusTimeout
  /-- MBX_NONCE (R537). -/
  | mbxNonce
  /-- MBX_READ_CERT (R537). -/
  | mbxReadCert
  /-- MBX_TOKEN_WRITE (R537). -/
  | mbxTokenWrite
  /-- MBX_TOKEN_SUBMIT (R537). -/
  | mbxTokenSubmit
  /-- MBX_FW_BEGIN (R537). -/
  | mbxFwBegin
  /-- MBX_FW_WRITE (R537). -/
  | mbxFwWrite
  /-- MBX_FW_FINISH (R537). -/
  | mbxFwFinish
  /-- MBX_RESET (R537). -/
  | mbxReset
  /-- NMT_START (R454). -/
  | nmtStart
  /-- NMT_STOP (R454). -/
  | nmtStop
  /-- NMT_ENTER_PREOP (R454). -/
  | nmtEnterPreop
  /-- NMT_RESET_NODE (R75). -/
  | nmtResetNode
  /-- NMT_RESET_COMM (R75). -/
  | nmtResetComm
  /-- HEARTBEAT_TIMER (R455). -/
  | heartbeatTimer
  /-- USDO_REQUEST (R456). -/
  | usdoRequest (req : UsdoReq)
  /-- USDO_TIMEOUT (R456). -/
  | usdoTimeout
  /-- RPDO_RECEIVED (R460). -/
  | rpdoReceived (n : Fin 4) (data : Bytes)
  /-- SYNC_RECEIVED (R465). -/
  | syncReceived
  /-- TIME_RECEIVED (R503): CANopen TIME of day, ms after midnight and days since 1984-01-01. -/
  | timeReceived (ms : BitVec 28) (days : BitVec 16)
  /-- TPDO_SEND (R459). -/
  | tpdoSend (n : Fin 8)
  /-- TPDO_EVENT_TIMER (R459). -/
  | tpdoEventTimer (n : Fin 8)
  /-- TPDO0_PACKET_SEND (R462). -/
  | tpdo0PacketSend
  /-- TPDO0_FRAGMENT_SENT (R462). -/
  | tpdo0FragmentSent
  /-- EMCY_SEND (R463). -/
  | emcySend
  /-- CAN_ERR_PASSIVE (R453). -/
  | canErrPassive (ctrl : Fin 2)
  /-- CAN_ERROR_ACTIVE (R453). -/
  | canErrorActive (ctrl : Fin 2)
  /-- CAN_BUS_OFF (R453). -/
  | canBusOff (ctrl : Fin 2)
  /-- CAN_BUS_OFF_RECOVERED (R453). -/
  | canBusOffRecovered (ctrl : Fin 2)
  -- 14 Board-side ports
  /-- SPC_READ (R477). -/
  | spcRead (link : Link)
  /-- SPC_PROGRAM (R477). -/
  | spcProgram (link : Link)
  /-- SPC_ERASE_4K (R477). -/
  | spcErase4k (link : Link)
  /-- SPC_ERASE_64K (R477). -/
  | spcErase64k (link : Link)
  /-- SPC_READ_SFDP (R477). -/
  | spcReadSfdp (link : Link)
  /-- SPC_OP_END (R478): the status of Table 14.3; `sfdp` are the SFDP bytes the flash gives a READ_SFDP. -/
  | spcOpEnd (status : Fin 4) (sfdp : Bytes)
  /-- TWB_GO (R481). -/
  | twbGo (link : Link) (bus : TwbBus)
  /-- TWB_RECOVER (R483): `ok`: SDA was sampled high within nine pulses. -/
  | twbRecover (link : Link) (ok : Bool)
  /-- TWB_TRANSFER_END (R480). -/
  | twbTransferEnd (how : TwbEnd) (nackByte : BitVec 8) (rdata : Bytes)
  /-- TWB_SCL_TIMEOUT (R484). -/
  | twbSclTimeout
  /-- TWB_CONFLICT (R485). -/
  | twbConflict
  /-- TWB_RETRY (R485). -/
  | twbRetry (bus : TwbBus)
  /-- GPIO_SET (R488). -/
  | gpioSet (link : Link) (mask : BitVec 32)
  /-- GPIO_CLEAR (R488). -/
  | gpioClear (link : Link) (mask : BitVec 32)
  /-- GATE_EDGE (R490). -/
  | gateEdge (gate : Fin 8) (rising : Bool)
  -- 15 Timers and check-value units
  /-- TIMER_WRAP (R493): a counting tick of the channel at which its count is at or above its reload. -/
  | timerWrap (ch : Fin 16)
  /-- TIMER_MATCH (R495): a counting tick of the channel after which its count equals TMR_MATCH. -/
  | timerMatch (ch : Fin 16)
  /-- TMR_FLAG_CLEAR (R495). -/
  | tmrFlagClear (link : Link) (ch : Fin 16) (mask : BitVec 8)
  /-- TMR_RESTART (R498). -/
  | tmrRestart (link : Link) (ch : Fin 16) (value : BitVec 8)
  /-- TMR_GROUP_LOAD (R500). -/
  | tmrGroupLoad (link : Link) (value : BitVec 8)
  /-- DISC_PHASE_END (R505). -/
  | discPhaseEnd
  /-- DISC_HOLDOVER (R507). -/
  | discHoldover
  /-- SCAN_START (R513): SCAN_GO = 1. -/
  | scanStart (link : Link)
  /-- SCAN_ABORT (R513): SCAN_GO = 2. -/
  | scanAbort (link : Link)
  /-- SCAN_DONE (R513): `flashFail`: the flash went to FLASH_STATE 3. -/
  | scanDone (flashFail : Bool)
  /-- CHECK_SELFTEST (R514): unit `unit`'s self-test passes or fails. -/
  | checkSelftest (unit : Fin 4) (pass : Bool)
  -- 16 Identity, signing and attestation
  /-- DEMAND_PAGE_LOAD (R524): whether the first and the second read of the page match its digest. -/
  | demandPageLoad (first second : Bool)
  /-- FW_UPDATE_BEGIN (R527): FW_UPDATE = 1. -/
  | fwUpdateBegin (link : Link)
  /-- FW_ERASE_DONE (R527). -/
  | fwEraseDone
  /-- FW_IMAGE_APPEND (R527). -/
  | fwImageAppend (link : Link) (data : Bytes)
  /-- FW_UPDATE_FINISH (R527): FW_UPDATE = 2. -/
  | fwUpdateFinish (link : Link)
  /-- FW_VERIFY_DONE (R528): whether every digest of the loaded image matches, and whether its block names the
  firmware key and the signature verifies; the rest of R523 is checked on the image. -/
  | fwVerifyDone (digests sig : Bool)
  /-- FW_UPDATE_ABANDON (R527): FW_UPDATE = 3. -/
  | fwUpdateAbandon (link : Link)
  /-- FW_CONFIRM (R529). -/
  | fwConfirm (link : Link) (value : BitVec 8)
  /-- NONCE_REQUEST (R533). -/
  | nonceRequest (link : Link) (value : BitVec 8)
  /-- NONCE_EXPIRE (R533). -/
  | nonceExpire
  /-- TOKEN_SUBMIT (R534). -/
  | tokenSubmit (link : Link) (value : BitVec 8)
  /-- TOKEN_TEST (R534): the token under verification is a TEST token that passes. -/
  | tokenTest
  /-- TOKEN_RECOVERY (R534). -/
  | tokenRecovery
  /-- TOKEN_DEBUG (R540). -/
  | tokenDebug
  /-- OWNER_RELEASE (R532). -/
  | ownerRelease
  /-- OWNER_ENROL (R530). -/
  | ownerEnrol
  /-- OWNER_ROTATE (R532). -/
  | ownerRotate
  /-- TOKEN_REJECTED (R536): the token under verification fails a check of R534; `badSig`: its signature fails. -/
  | tokenRejected (badSig : Bool)
  /-- SESSION_CLOSE (R535). -/
  | sessionClose (link : Link) (value : BitVec 8)
  /-- SESSION_EXPIRE (R535). -/
  | sessionExpire
  /-- QUOTE_GO (R539). -/
  | quoteGo (link : Link) (value : BitVec 8)
  /-- QUOTE_DONE (R539). -/
  | quoteDone
  /-- DEBUG_DISABLE (R541). -/
  | debugDisable (link : Link) (value : BitVec 8)
  /-- DEBUG_ATTACH (R540): a debugger attaches to application core `core`. -/
  | debugAttach (core : Fin 4)
  /-- TAP_INSTRUCTION (R540). -/
  | tapInstruction (instr : TapInstr)
  -- 17 Health monitors, faults and events
  /-- TEMP_SAMPLE (R545). -/
  | tempSample (temps : Temps)
  /-- VOLTAGE_SAMPLE (R545). -/
  | voltageSample (volts : Volts)
  /-- RAIL_COMPARATOR_TRIP (R545). -/
  | railComparatorTrip (rail : Rail)
  /-- PROCESS_MEASURE (R545). -/
  | processMeasure (procs : Procs)
  /-- CX_PLL_UNLOCK (R548). -/
  | cxPllUnlock
  /-- CX_PLL_RELOCK (R548). -/
  | cxPllRelock
  /-- FAULT_CLEAR (R549). -/
  | faultClear (link : Link) (value : BitVec 8)
  /-- WATCHDOG_BARK (R555): cores 0 to 3 the application cores, 4 the secure core. -/
  | watchdogBark (core : Fin 5)
  /-- WATCHDOG_BITE (R555). -/
  | watchdogBite (core : Fin 5)
  /-- EVT_ACK (R560). -/
  | evtAck (link : Link) (mask : BitVec 64)
  /-- EVENT_LOG_WRITE (R562). -/
  | eventLogWrite
  /-- WORK_MEM_ERROR (R552). -/
  | workMemError (err : WorkErr)
  -- 18 Electrical, thermal and package
  /-- POR_RELEASE (R574): the bank supplies in mV, by which each bank detects its level (R569), and whether the retention
  domain was found unpowered (R191). -/
  | porRelease (vioA vioB : BitVec 16) (unpowered : Bool)
  /-- VIO_BROWN_OUT (R569): `b`: bank B, otherwise bank A. -/
  | vioBrownOut (b : Bool)
  -- the remaining rows
  /-- HF_GUARD_TIME_END (R409). -/
  | hfGuardTimeEnd
  /-- TWA_ADDRESS_NACK (R444). -/
  | twaAddressNack
  /-- TWB_SCL_STUCK (R484). -/
  | twbSclStuck
  /-- TWB_BUS_RELEASED (R485). -/
  | twbBusReleased
  /-- BROWN_OUT (R577). -/
  | brownOut
  /-- RESET_N_ASSERT (R574): a low pulse of at least 1 µs. -/
  | resetNAssert
  deriving DecidableEq, Repr

end Sys2Proof
end

