-- ==== Sys2Proof/Config.lean ====
section
/-! DEFINITION. What an implementation or a single part fixes, and the values the spec leaves open. Every constant here
is opaque: nothing in Lean can evaluate it, so every statement holds whatever it is. -/

namespace Sys2Proof.Config

/-- SERIAL, 12 bytes, unique per part (Table 3.2); byte `i` of it. Log entry 2. -/
opaque serialByte : Nat → Byte

/-- STEPPING, two ASCII characters (Table 3.2). Log entry 2. -/
opaque steppingByte : Nat → Byte

/-- OD_VERSION of the running firmware (R90). Log entry 2. -/
opaque odVersion : BitVec 16

/-- SW_VERSION, 12 bytes (Table 13.11). Log entry 2. -/
opaque swVersionByte : Nat → Byte

/-- Key IDs of the device, firmware and service keys (Table 16 objects), 8 bytes each; first argument 0, 1, 2.
Log entry 2. -/
opaque keyIdByte : Nat → Nat → Byte

/-- DEVICE_CERT, 5,296 bytes (Table 16.9). Log entry 2. -/
opaque deviceCertByte : Nat → Byte

/-- FACTORY_SEED of chain `c` at factory point `i` (840 MHz + 5·i MHz): the weights I and Q (R149). Log entry 2. -/
opaque factoryWeight : Nat → Nat → Int × Int

/-- The factory path delay of chain `c` in ps, from OTP (R286, Table 6.2). Log entry 2. -/
opaque factoryDelay : Nat → Nat

/-- The delay from the tone driver of a quad to a chain's tap in fs, from OTP (R37). Log entry 2. -/
opaque tapDelay : (driver chain : Nat) → Nat

/-- The receive and transmit path terms of chain `c` at calibration point `i` (840 MHz + 5·i MHz), in 0.01°, from OTP
(Table 6.2). Log entry 2. -/
opaque betaRx : (c i : Nat) → Int
opaque betaTx : (c i : Nat) → Int

/-- γ of a chain: the IF filter's phase at the BLF in the operating setting less its phase at 1.000 MHz in the calibration
setting, in 0.01°, for the time constant a filter-bandwidth calibration found (Table 6.2, R217). Log entry 49. -/
opaque filterPhase : (chain rc blfHz m : Nat) → Int

/-- κ_c (`which` 0) and θ_fwd,c (1) of a chain on a channel that no sweep and no Drone has covered, in 0.01°: the spec gives
no value. Log entry 49. -/
opaque unswept : (which chain khz : Nat) → Int

/-- The payload of a flit that the part sends, by its type, its stream and device time (Table 1.4). Log entry 48. -/
opaque flitBody : (type stream now : Nat) → Bytes

/-- Whether a window read of the boot ROM or the secure core leaves flash 0 in continuous-read mode, by its read mode: the
spec only allows it (R474, log entry 51). -/
opaque continuousRead : (readMode : Nat) → Bool

/-- ML-DSA-65 verification of a signature over a message with a context string under a public key (R518). Log entry 3. -/
opaque mldsaVerify : (key context msg sig : Bytes) → Bool

/-- ML-DSA-65 signature by the device identity key, hedged by the `draw`-th draw of entropy (R518, R539). Log entry 3. -/
opaque mldsaSign : (context msg : Bytes) → (draw : Nat) → Bytes

/-- SHAKE256 with the given output length (R518). Log entry 3. -/
opaque shake256 : (msg : Bytes) → (n : Nat) → Bytes

/-- The part's entropy: byte `i` of the `n`-th draw (R533). Log entry 4. -/
opaque entropy : (n i : Nat) → Byte

/-- Rank of channel entry `chan` in the visiting order of a pass (R187): the generator is not described. Log entry 11. -/
opaque hopRank : (pass chan : Nat) → Nat

/-- The CRC-32 of a plan's snapshot, whose layout R332 does not give. Log entry 12. -/
opaque snapshotCrc : Bytes → BitVec 32

/-- A value the spec leaves open, drawn by its number; the counter `State.free` is advanced at every draw.
Log entry 5. -/
opaque freeValue : Nat → Nat

end Sys2Proof.Config
end

