-- ==== Sys2Proof/Machine/Objects.lean ====
section
/-! DEFINITION. The object dictionary's rows, as the object tables of the chapters give them: for every index the
sub-indices in use with type, access, range (R13, R14, R16 and each table's Meaning column) and default, and a
name for the address of every object (`Reg.<NAME>`, index × 256 + sub-index, R11).  Rows of a replicated index
(chain c at 0x3100 + 0x40·c, zone z at 0x4C20 + z, …) are listed once with base, stride and count.  Defaults that
depend on the variant, the node-ID or the entry number are in `Dict.dflt` (Machine/Dict.lean). -/

namespace Sys2Proof.Machine

/-- Object types of Table 0.3 (R13). `dom n` is an octet block of at most `n` bytes. -/
inductive ObjTy where
  | u8 | u16 | u32 | u64 | i8 | i16 | i32 | i64 | bool | f32
  | str (n : Nat) | oct (n : Nat) | dom (n : Nat)
  deriving DecidableEq, Repr

/-- Access codes of Table 0.4 (R14). -/
inductive Acc where
  | ro | rw | wo | const | rws | lock
  deriving DecidableEq, Repr

/-- The range a Meaning column gives a value: reserved bits (R16), limits, or a list of values. The named cases
depend on the variant or on other state and are decided in `Dict.inRange`. -/
inductive Rng where
  | any
  | between (lo hi : Int)
  | oneOf (vs : List Int)
  | bits (mask : Nat)
  | chainMask | chainNo | hfPower | regionId | zoneOrAny | hotRing | ringMib | packetMax | dictIndex
  | tpdoType | gateSrc | opCode
  deriving DecidableEq, Repr

/-- What the object belongs to: an absent die, quad, chain, beam or HF function answers NO_OBJECT (R4), a TEST
object answers so outside TEST (R84). `quadSub` and `chainSub`: one quad or chain per sub-index;
`pairSub`: one pair of quads (4i + j). -/
inductive Pres where
  | always | px | mx | hx | quad | chain | quadSub | chainSub | pairSub | test | testHf
  deriving DecidableEq, Repr

/-- `n` consecutive sub-indices of one kind. -/
structure ObjRow where
  sub : Nat
  n : Nat
  ty : ObjTy
  acc : Acc
  rng : Rng
  dflt : Nat
  pres : Pres
  deriving DecidableEq, Repr

/-- An index, or `count` indices `stride` apart, with its rows. -/
structure ObjGroup where
  idx : Nat
  stride : Nat
  count : Nat
  pres : Pres
  rows : List ObjRow
  deriving DecidableEq, Repr

end Sys2Proof.Machine

/-! Addresses of the objects (R11): index × 256 + sub-index. -/
namespace Sys2Proof.Machine.Reg

def MODE_CURRENT : Nat := 0x200101
def MODE_REQUEST : Nat := 0x200102
def MODE_RESULT : Nat := 0x200103
def HOLD_REASON : Nat := 0x200104
def WAKE_SOURCES : Nat := 0x200105
def WAKE_TO_RUN : Nat := 0x200106
def WAKE_TIMER : Nat := 0x200107
def WAKE_CAUSE : Nat := 0x200108
def BOOT_DURATION : Nat := 0x200109
def STATUS_BYTE : Nat := 0x20010A
def RESET_REQUEST : Nat := 0x20010B
def TEST_CHAIN_MASK : Nat := 0x201001
def TEST_FREQ_KHZ : Nat := 0x201002
def TEST_LEVEL : Nat := 0x201003
def TEST_MODULATION : Nat := 0x201004
def TEST_PROFILE : Nat := 0x201005
def TEST_DURATION_MS : Nat := 0x201006
def TEST_CARRIER : Nat := 0x201007
def TEST_CARRIER_STATE : Nat := 0x201008
def TEST_CARRIER_RESULT : Nat := 0x201009
def TUHF_SEQ : Nat := 0x20100A
def TEST_HF_POWER_MW : Nat := 0x201101
def TEST_HF_DURATION_MS : Nat := 0x201102
def TEST_HF_FIELD : Nat := 0x201103
def TEST_HF_STATE : Nat := 0x201104
def CAPTURE_CHAIN : Nat := 0x201201
def CAPTURE_GO : Nat := 0x201202
def CAPTURE_STATE : Nat := 0x201203
def CAPTURE_DATA : Nat := 0x201204
def TCAP_SEQ : Nat := 0x201205
def VARIANT_CODE : Nat := 0x200001
def DIE_MASK : Nat := 0x200002
def CHAIN_MASK : Nat := 0x200003
def HF_PRESENT : Nat := 0x200004
def STEPPING : Nat := 0x200005
def SERIAL : Nat := 0x200006
def FW_VERSION : Nat := 0x200007
def FW_SLOT : Nat := 0x200008
def OD_VERSION : Nat := 0x200009
def POWER_CAP_MW : Nat := 0x20000A
def COMMIT : Nat := 0x200201
def DISCARD : Nat := 0x200202
def COMMIT_STATE : Nat := 0x200203
def STAGED_COUNT : Nat := 0x200204
def STAGED_BYTES : Nat := 0x200205
def STAGED_LINKS : Nat := 0x200206
def CONFIG_GENERATION : Nat := 0x200207
def CONFIG_CRC : Nat := 0x200208
def PERSIST_STATE : Nat := 0x200209
def COMMIT_RESULT : Nat := 0x20020A
def REJECT_INDEX : Nat := 0x200301
def REJECT_SUB : Nat := 0x200302
def REJECT_REASON : Nat := 0x200303
def REJECT_OTHER_INDEX : Nat := 0x200304
def REJECT_OTHER_SUB : Nat := 0x200305
def REJECT_STAGE : Nat := 0x200306
def REJECT_COUNT : Nat := 0x200307
def REJECT_SEQ : Nat := 0x200308
def CONFIG_IMAGE : Nat := 0x200401
def IMAGE_LOADED_BYTES : Nat := 0x200402
def SPT_LAST_RESULT : Nat := 0x200501
def TWA_LAST_RESULT : Nat := 0x200502
def CAN_LAST_RESULT : Nat := 0x200503
def PEEK_ADDRESS : Nat := 0x200601
def PEEK_STATE : Nat := 0x200602
def PEEK_VALUE : Nat := 0x200603
def PEEK_SEQ : Nat := 0x200604
def QUAD_STATE (i : Nat) : Nat := 0x300001 + 16384 * i
def QUAD_OUT_CAUSE (i : Nat) : Nat := 0x300002 + 16384 * i
def SYNTH_FREQ_KHZ (i : Nat) : Nat := 0x300003 + 16384 * i
def QUAD_DIE_TEMP (i : Nat) : Nat := 0x300004 + 16384 * i
def CAL_TEMP (i : Nat) : Nat := 0x300005 + 16384 * i
def CAL_TIME (i : Nat) : Nat := 0x300006 + 16384 * i
def HOP_LOCK_MAX (i : Nat) : Nat := 0x300007 + 16384 * i
def UNLOCK_COUNT (i : Nat) : Nat := 0x300008 + 16384 * i
def QSTATE_SEQ (i : Nat) : Nat := 0x300009 + 16384 * i
def CAL_DUE_DELTA (i : Nat) : Nat := 0x300101 + 16384 * i
def CAL_REQUEST (i : Nat) : Nat := 0x300102 + 16384 * i
def CAL_COUNT (i : Nat) : Nat := 0x300201 + 16384 * i
def CAL_FAIL_COUNT (i : Nat) : Nat := 0x300202 + 16384 * i
def CAL_LAST_SET (i : Nat) : Nat := 0x300203 + 16384 * i
def CAL_LAST_FAILED (i : Nat) : Nat := 0x300204 + 16384 * i
def CAL_LAST_RESULT (i : Nat) : Nat := 0x300205 + 16384 * i
def CAL_LAST_DURATION (i : Nat) : Nat := 0x300206 + 16384 * i
def TONE_WAIT_MAX (i : Nat) : Nat := 0x300207 + 16384 * i
def QCAL_SEQ (i : Nat) : Nat := 0x300208 + 16384 * i
def LINK_STATE (i : Nat) : Nat := 0x300301 + 16384 * i
def LINK_REPLAYS (i : Nat) : Nat := 0x300302 + 16384 * i
def LINK_REPLAYS_1S (i : Nat) : Nat := 0x300303 + 16384 * i
def LINK_RETRAINS (i : Nat) : Nat := 0x300304 + 16384 * i
def LINK_DOWNS (i : Nat) : Nat := 0x300305 + 16384 * i
def QLINK_SEQ (i : Nat) : Nat := 0x300306 + 16384 * i
def CHAIN_STATE (i : Nat) : Nat := 0x310001 + 16384 * i
def CHAIN_FAULT (i : Nat) : Nat := 0x310002 + 16384 * i
def TX_POWER_NOW (i : Nat) : Nat := 0x310003 + 16384 * i
def FWD_POWER (i : Nat) : Nat := 0x310004 + 16384 * i
def RETURN_LOSS (i : Nat) : Nat := 0x310005 + 16384 * i
def REED_RESIDUAL (i : Nat) : Nat := 0x310006 + 16384 * i
def RX_GAIN_STATE (i : Nat) : Nat := 0x310007 + 16384 * i
def CARRIER_ON_US (i : Nat) : Nat := 0x310008 + 16384 * i
def MUTE_COUNT (i : Nat) : Nat := 0x310009 + 16384 * i
def CSTATE_SEQ (i : Nat) : Nat := 0x31000A + 16384 * i
def CHAIN_ENABLE (i : Nat) : Nat := 0x310101 + 16384 * i
def TX_POWER_MAX (i : Nat) : Nat := 0x310102 + 16384 * i
def CHAIN_FAULT_CLEAR (i : Nat) : Nat := 0x310103 + 16384 * i
def REED_WEIGHT_I (i : Nat) : Nat := 0x310201 + 16384 * i
def REED_WEIGHT_Q (i : Nat) : Nat := 0x310202 + 16384 * i
def REED_DEPTH_ANALOG (i : Nat) : Nat := 0x310203 + 16384 * i
def REED_DEPTH_DIGITAL (i : Nat) : Nat := 0x310204 + 16384 * i
def REED_LIMIT_COUNT (i : Nat) : Nat := 0x310205 + 16384 * i
def REED_RESEED (i : Nat) : Nat := 0x310206 + 16384 * i
def REED_SEQ (i : Nat) : Nat := 0x310207 + 16384 * i
def RX_GAIN_POLICY (i : Nat) : Nat := 0x310301 + 16384 * i
def IF_CENTRE_HZ (i : Nat) : Nat := 0x310302 + 16384 * i
def IF_BANDWIDTH_HZ (i : Nat) : Nat := 0x310303 + 16384 * i
def IMAGE_REJ (i : Nat) : Nat := 0x310304 + 16384 * i
def DC_OFFSET_I (i : Nat) : Nat := 0x310305 + 16384 * i
def DC_OFFSET_Q (i : Nat) : Nat := 0x310306 + 16384 * i
def BLOCKER_COUNT (i : Nat) : Nat := 0x310307 + 16384 * i
def RX_SEQ (i : Nat) : Nat := 0x310308 + 16384 * i
def MISMATCH_WARN_RL (i : Nat) : Nat := 0x310401 + 16384 * i
def MISMATCH_CUT_RL (i : Nat) : Nat := 0x310402 + 16384 * i
def MISMATCH_COUNT (i : Nat) : Nat := 0x310403 + 16384 * i
def CUT_COUNT (i : Nat) : Nat := 0x310404 + 16384 * i
def CUT_RUN (i : Nat) : Nat := 0x310405 + 16384 * i
def SWEEP_MIN_RL (i : Nat) : Nat := 0x310406 + 16384 * i
def PORT_SEQ (i : Nat) : Nat := 0x310407 + 16384 * i
def FACTORY_SEED (i : Nat) : Nat := 0x310501 + 16384 * i
def ACTIVE_SEED (i : Nat) : Nat := 0x310502 + 16384 * i
def SEED_SEQ (i : Nat) : Nat := 0x310503 + 16384 * i
def REGION_ID : Nat := 0x290001
def REGION_COUNT : Nat := 0x290002
def CHANNEL_MASK : Nat := 0x290003
def REG_MARGIN : Nat := 0x290004
def LOCK_STATE : Nat := 0x290005
def REG_LOCK_ARM : Nat := 0x290006
def REG_LOCK_FIRE : Nat := 0x290007
def LOCKED_CRC : Nat := 0x290008
def REGSTATE_SEQ : Nat := 0x290009
def ANT_GAIN (k : Nat) : Nat := 0x290101 + k
def CABLE_LOSS (k : Nat) : Nat := 0x290201 + k
def VIEW_INDEX : Nat := 0x290301
def REGION_NAME : Nat := 0x290302
def REGION_HEADER : Nat := 0x290303
def CHANNEL_TABLE : Nat := 0x290304
def VIEW_SEQ : Nat := 0x290305
def DWELL_LIMIT_COUNT : Nat := 0x290401
def DUTY_LIMIT_COUNT : Nat := 0x290402
def PERMIT_REFUSALS : Nat := 0x290403
def PERMIT_WITHDRAWALS : Nat := 0x290404
def CHANNEL_ON_US : Nat := 0x290405
def REGCNT_SEQ : Nat := 0x290406
def ACTIVE_TX_BEAMS : Nat := 0x380001
def ACTIVE_RX_BEAMS : Nat := 0x380002
def TONE_COUNT : Nat := 0x380003
def TONE_FAIL_COUNT : Nat := 0x380004
def GANG_SPLITS : Nat := 0x380005
def ISO_TIME : Nat := 0x380006
def ASTATE_SEQ : Nat := 0x380007
def DESENSE_MAX : Nat := 0x380101
def STEER_LIMIT : Nat := 0x380102
def TONE_REFRESH_DT : Nat := 0x380103
def ELEMENT_X (k : Nat) : Nat := 0x380201 + k
def ELEMENT_Y (k : Nat) : Nat := 0x380301 + k
def ELEMENT_PHASE (k : Nat) : Nat := 0x380401 + k
def ELEMENT_DELAY (k : Nat) : Nat := 0x380501 + k
def RX_PHASE (k : Nat) : Nat := 0x380601 + k
def RXPH_SEQ : Nat := 0x380611
def TX_PHASE (k : Nat) : Nat := 0x380701 + k
def TXPH_SEQ : Nat := 0x380711
def ISOLATION (k : Nat) : Nat := 0x380801 + k
def ISO_SEQ : Nat := 0x380811
def TXB_STATE (i : Nat) : Nat := 0x381001 + 256 * i
def GANG_MASK (i : Nat) : Nat := 0x381002 + 256 * i
def LEADER (i : Nat) : Nat := 0x381003 + 256 * i
def TXB_CHANNEL_KHZ (i : Nat) : Nat := 0x381004 + 256 * i
def TXB_AZ (i : Nat) : Nat := 0x381005 + 256 * i
def TXB_EL (i : Nat) : Nat := 0x381006 + 256 * i
def TXB_ZONE (i : Nat) : Nat := 0x381007 + 256 * i
def TONE_TIME (i : Nat) : Nat := 0x381008 + 256 * i
def TXB_SEQ (i : Nat) : Nat := 0x381009 + 256 * i
def RXB_MODE (i : Nat) : Nat := 0x382001 + 256 * i
def RXB_AZ (i : Nat) : Nat := 0x382002 + 256 * i
def RXB_EL (i : Nat) : Nat := 0x382003 + 256 * i
def RXB_TAPER (i : Nat) : Nat := 0x382004 + 256 * i
def RXB_CHAIN_MASK (i : Nat) : Nat := 0x382005 + 256 * i
def RXB_DECODES (i : Nat) : Nat := 0x382006 + 256 * i
def RXB_BEST (i : Nat) : Nat := 0x382007 + 256 * i
def RXB_SEQ (i : Nat) : Nat := 0x382008 + 256 * i
def LANES_ACTIVE : Nat := 0x383001
def LANES_RETIRED : Nat := 0x383002
def LANE_LOAD_MAX : Nat := 0x383003
def SPATIAL_COLLISIONS : Nat := 0x383004
def LANE_MAP : Nat := 0x383005
def CONS_SEQ : Nat := 0x383006
def SURVEY_CMD : Nat := 0x383801
def SURVEY_EPC_TAIL : Nat := 0x383802
def SURVEY_AZ : Nat := 0x383803
def SURVEY_EL : Nat := 0x383804
def SURVEY_STATE : Nat := 0x383805
def SURVEY_RESULT : Nat := 0x383806
def SURVEY_READS : Nat := 0x383807
def SURVEY_PHASE : Nat := 0x383808
def SURVEY_DELAY : Nat := 0x383809
def SURVEY_RESIDUAL : Nat := 0x38380A
def SURV_SEQ : Nat := 0x38380B
def LAST_READ_FILTER : Nat := 0x384001
def LAST_READ_BLOCK : Nat := 0x384002
def LREAD_SEQ : Nat := 0x384003
def TARI_NS (i : Nat) : Nat := 0x401001 + 256 * i
def DATA1_RATIO (i : Nat) : Nat := 0x401002 + 256 * i
def PW_RATIO (i : Nat) : Nat := 0x401003 + 256 * i
def MODULATION (i : Nat) : Nat := 0x401004 + 256 * i
def MOD_DEPTH (i : Nat) : Nat := 0x401005 + 256 * i
def DR (i : Nat) : Nat := 0x401006 + 256 * i
def BLF_KHZ (i : Nat) : Nat := 0x401007 + 256 * i
def MILLER (i : Nat) : Nat := 0x401008 + 256 * i
def TREXT (i : Nat) : Nat := 0x401009 + 256 * i
def SESSION (i : Nat) : Nat := 0x40100A + 256 * i
def TARGET (i : Nat) : Nat := 0x40100B + 256 * i
def SEL (i : Nat) : Nat := 0x40100C + 256 * i
def Q0 (i : Nat) : Nat := 0x40100D + 256 * i
def QMIN (i : Nat) : Nat := 0x40100E + 256 * i
def QMAX (i : Nat) : Nat := 0x40100F + 256 * i
def Q_C (i : Nat) : Nat := 0x401010 + 256 * i
def EMPTY_END (i : Nat) : Nat := 0x401011 + 256 * i
def SLOT_MAX (i : Nat) : Nat := 0x401012 + 256 * i
def T2_TPRI (i : Nat) : Nat := 0x401013 + 256 * i
def EPC_RETRIES (i : Nat) : Nat := 0x401014 + 256 * i
def SELECT_MASK (i : Nat) : Nat := 0x401015 + 256 * i
def SELECT_EVERY (i : Nat) : Nat := 0x401016 + 256 * i
def CHALLENGE (i : Nat) : Nat := 0x401017 + 256 * i
def RTCAL_CYC (i : Nat) : Nat := 0x401018 + 256 * i
def TRCAL_CYC (i : Nat) : Nat := 0x401019 + 256 * i
def T1_MIN_CYC (i : Nat) : Nat := 0x40101A + 256 * i
def T1_MAX_CYC (i : Nat) : Nat := 0x40101B + 256 * i
def T2_CYC (i : Nat) : Nat := 0x40101C + 256 * i
def PRE_CYC (i : Nat) : Nat := 0x40101D + 256 * i
def PROF_SEQ (i : Nat) : Nat := 0x40101E + 256 * i
def POWER_UP_US : Nat := 0x400001
def ACCESS_REPLY_TIMEOUT_US : Nat := 0x400002
def CHALLENGE_HOLDOFF_US : Nat := 0x400003
def CHALLENGE_MSG : Nat := 0x400004
def ECFG_SEQ : Nat := 0x400005
def SEL_ENABLE (i : Nat) : Nat := 0x404001 + 256 * i
def SEL_TARGET (i : Nat) : Nat := 0x404002 + 256 * i
def SEL_ACTION (i : Nat) : Nat := 0x404003 + 256 * i
def SEL_MEMBANK (i : Nat) : Nat := 0x404004 + 256 * i
def SEL_POINTER (i : Nat) : Nat := 0x404005 + 256 * i
def SEL_LENGTH (i : Nat) : Nat := 0x404006 + 256 * i
def SEL_MASK (i : Nat) : Nat := 0x404007 + 256 * i
def SEL_SEQ (i : Nat) : Nat := 0x404008 + 256 * i
def ROUND_STATE (i : Nat) : Nat := 0x400401 + 256 * i
def ROUND_ZONE (i : Nat) : Nat := 0x400402 + 256 * i
def ROUND_PROFILE (i : Nat) : Nat := 0x400403 + 256 * i
def Q_NOW (i : Nat) : Nat := 0x400404 + 256 * i
def QFP (i : Nat) : Nat := 0x400405 + 256 * i
def ROUND_NUMBER (i : Nat) : Nat := 0x400406 + 256 * i
def LR_SLOTS (i : Nat) : Nat := 0x400407 + 256 * i
def LR_SINGLES (i : Nat) : Nat := 0x400408 + 256 * i
def LR_EMPTIES (i : Nat) : Nat := 0x400409 + 256 * i
def LR_COLLISIONS (i : Nat) : Nat := 0x40040A + 256 * i
def LR_CRC_ERRORS (i : Nat) : Nat := 0x40040B + 256 * i
def LR_LATE (i : Nat) : Nat := 0x40040C + 256 * i
def LR_END_CAUSE (i : Nat) : Nat := 0x40040D + 256 * i
def LR_FLAGS (i : Nat) : Nat := 0x40040E + 256 * i
def LR_DURATION (i : Nat) : Nat := 0x40040F + 256 * i
def READS_TOTAL (i : Nat) : Nat := 0x400410 + 256 * i
def RSTAT_SEQ (i : Nat) : Nat := 0x400411 + 256 * i
def OP_CODE (i : Nat) : Nat := 0x408001 + 256 * i
def OP_ZONE (i : Nat) : Nat := 0x408002 + 256 * i
def OP_MATCH_LEN (i : Nat) : Nat := 0x408003 + 256 * i
def OP_MATCH_TAIL (i : Nat) : Nat := 0x408004 + 256 * i
def OP_REPEAT (i : Nat) : Nat := 0x408005 + 256 * i
def OP_AUTO_ARM (i : Nat) : Nat := 0x408006 + 256 * i
def OP_BANK (i : Nat) : Nat := 0x408007 + 256 * i
def OP_WORD_PTR (i : Nat) : Nat := 0x408008 + 256 * i
def OP_WORD_COUNT (i : Nat) : Nat := 0x408009 + 256 * i
def OP_DATA (i : Nat) : Nat := 0x40800A + 256 * i
def OP_RETRIES (i : Nat) : Nat := 0x40800B + 256 * i
def OP_VERIFY (i : Nat) : Nat := 0x40800C + 256 * i
def OP_ACCESS_PWD (i : Nat) : Nat := 0x40800D + 256 * i
def OP_KILL_PWD (i : Nat) : Nat := 0x40800E + 256 * i
def OP_ARM (i : Nat) : Nat := 0x40800F + 256 * i
def OP_STATE (i : Nat) : Nat := 0x408010 + 256 * i
def OP_RUNS (i : Nat) : Nat := 0x408011 + 256 * i
def OP_SEQ (i : Nat) : Nat := 0x408012 + 256 * i
def RESULT_COUNT : Nat := 0x410001
def RESULT_OLDEST : Nat := 0x410002
def RESULT_RELEASE : Nat := 0x410003
def RESULT_DEFERRED : Nat := 0x410004
def RESQ_SEQ : Nat := 0x410005
def WATCH_ENABLE (i : Nat) : Nat := 0x411001 + 256 * i
def WATCH_SLOT (i : Nat) : Nat := 0x411002 + 256 * i
def WATCH_TAIL (i : Nat) : Nat := 0x411003 + 256 * i
def WATCH_WORD (i : Nat) : Nat := 0x411004 + 256 * i
def WATCH_MASK (i : Nat) : Nat := 0x411005 + 256 * i
def WATCH_LOW (i : Nat) : Nat := 0x411006 + 256 * i
def WATCH_HIGH (i : Nat) : Nat := 0x411007 + 256 * i
def WATCH_LAST (i : Nat) : Nat := 0x411008 + 256 * i
def WATCH_STATE (i : Nat) : Nat := 0x411009 + 256 * i
def WATCH_TIME (i : Nat) : Nat := 0x41100A + 256 * i
def WATCH_SEQ (i : Nat) : Nat := 0x41100B + 256 * i
def LOC_ENABLE : Nat := 0x440001
def TRACK_ZONE_MASK : Nat := 0x440002
def MOUNT_X : Nat := 0x440003
def MOUNT_Y : Nat := 0x440004
def MOUNT_HEIGHT : Nat := 0x440005
def MOUNT_YAW : Nat := 0x440006
def MOUNT_TILT : Nat := 0x440007
def MOUNT_ROLL : Nat := 0x440008
def POSITION_MODE : Nat := 0x440009
def DEFAULT_CLASS : Nat := 0x44000A
def LCFG_SEQ : Nat := 0x44000B
def ANGLE_MIN_CHAINS : Nat := 0x440101
def ANGLE_MIN_SNR : Nat := 0x440102
def RANGE_SPAN_MS : Nat := 0x440103
def RANGE_SPEED_MAX : Nat := 0x440104
def RANGE_MAX_MM : Nat := 0x440105
def CLOSE_GAP_MS : Nat := 0x440106
def LANE_MIN_VOTES : Nat := 0x440107
def SPEED_MIN : Nat := 0x440108
def COUNT_INTERVAL_S : Nat := 0x440109
def LPAR_SEQ : Nat := 0x44010A
def RANGE_AVAILABLE : Nat := 0x440201
def RANGE_AMBIGUITY_MM : Nat := 0x440202
def READS_IN : Nat := 0x440203
def READS_ANGLE : Nat := 0x440204
def READS_NO_ANGLE : Nat := 0x440205
def READS_AMBIGUOUS : Nat := 0x440206
def READS_UNTRACKED : Nat := 0x440207
def TRACKS_OPEN : Nat := 0x440208
def TRACKS_CAPACITY : Nat := 0x440209
def TRACKS_EVICTED : Nat := 0x44020A
def PASSAGES_CLOSED : Nat := 0x44020B
def LSTATE_SEQ : Nat := 0x44020C
def CLASS_ENABLE (i : Nat) : Nat := 0x441001 + 256 * i
def CLASS_HEIGHT (i : Nat) : Nat := 0x441002 + 256 * i
def CLASS_PREFIX_LEN (i : Nat) : Nat := 0x441003 + 256 * i
def CLASS_PREFIX (i : Nat) : Nat := 0x441004 + 256 * i
def CLASS_SEQ (i : Nat) : Nat := 0x441005 + 256 * i
def LANE_ENABLE (i : Nat) : Nat := 0x442001 + 256 * i
def LANE_X0 (i : Nat) : Nat := 0x442002 + 256 * i
def LANE_X1 (i : Nat) : Nat := 0x442004 + 256 * i
def LANE_X2 (i : Nat) : Nat := 0x442006 + 256 * i
def LANE_X3 (i : Nat) : Nat := 0x442008 + 256 * i
def LANE_Y0 (i : Nat) : Nat := 0x442003 + 256 * i
def LANE_Y1 (i : Nat) : Nat := 0x442005 + 256 * i
def LANE_Y2 (i : Nat) : Nat := 0x442007 + 256 * i
def LANE_Y3 (i : Nat) : Nat := 0x442009 + 256 * i
def LANE_HEADING (i : Nat) : Nat := 0x44200A + 256 * i
def LANE_SEQ (i : Nat) : Nat := 0x44200B + 256 * i
def LL_TIME : Nat := 0x444001
def LL_TAG_INDEX : Nat := 0x444002
def LL_AZ : Nat := 0x444003
def LL_EL : Nat := 0x444004
def LL_RANGE : Nat := 0x444005
def LL_X : Nat := 0x444006
def LL_Y : Nat := 0x444007
def LL_CLASS : Nat := 0x444008
def LL_LANE : Nat := 0x444009
def LL_FLAGS : Nat := 0x44400A
def LL_SEQ : Nat := 0x44400B
def LP_TAG_INDEX : Nat := 0x444101
def LP_CLASS : Nat := 0x444102
def LP_LANE : Nat := 0x444103
def LP_DIRECTION : Nat := 0x444104
def LP_FLAGS : Nat := 0x444105
def LP_ENTRY_TIME : Nat := 0x444106
def LP_EXIT_TIME : Nat := 0x444107
def LP_SPEED : Nat := 0x444108
def LP_READS : Nat := 0x444109
def LP_POSITIONED : Nat := 0x44410A
def LP_LANE_SHARE : Nat := 0x44410B
def LP_SEQ : Nat := 0x44410C
def CNT_WITH (i : Nat) : Nat := 0x445001 + 256 * i
def CNT_AGAINST (i : Nat) : Nat := 0x445002 + 256 * i
def CNT_STATIONARY (i : Nat) : Nat := 0x445003 + 256 * i
def SPEED_MEAN_WITH (i : Nat) : Nat := 0x445004 + 256 * i
def SPEED_MEAN_AGAINST (i : Nat) : Nat := 0x445005 + 256 * i
def SPEED_MAX (i : Nat) : Nat := 0x445006 + 256 * i
def CNT_COARSE (i : Nat) : Nat := 0x445007 + 256 * i
def CNT_SEQ (i : Nat) : Nat := 0x445008 + 256 * i
def INTERVAL_NUMBER : Nat := 0x446001
def INTERVAL_START : Nat := 0x446002
def INTERVAL_END : Nat := 0x446003
def CNT_UNASSIGNED : Nat := 0x446004
def CNT_PARTIAL : Nat := 0x446005
def CNT_LATE : Nat := 0x446006
def INTERVAL_FLAGS : Nat := 0x446007
def COUNT_SEQ : Nat := 0x446008
def PLAN_PERIOD_MS : Nat := 0x4C0001
def DWELL_MIN_MS : Nat := 0x4C0002
def DWELL_MAX_MS : Nat := 0x4C0003
def STAGGER_ENABLE : Nat := 0x4C0004
def STAGGER_PERIOD_US : Nat := 0x4C0005
def STAGGER_TIMER_BASE : Nat := 0x4C0006
def THETA_JA : Nat := 0x4C0007
def AMBIENT_MAX : Nat := 0x4C0008
def DERATE_START : Nat := 0x4C0009
def DERATE_HYST : Nat := 0x4C000A
def LEVEL_DERATE_MAX : Nat := 0x4C000B
def PIN_CONCURRENCY : Nat := 0x4C000C
def PIN_QUAD_OUT : Nat := 0x4C000D
def VCFG_SEQ : Nat := 0x4C000E
def HOT_RING_MIB : Nat := 0x4C0101
def ARCHIVE_MODE : Nat := 0x4C0102
def SQ_KIB : Nat := 0x4C0103
def STCFG_SEQ : Nat := 0x4C0104
def PLAN_NUMBER : Nat := 0x4C0201
def PLAN_TIME : Nat := 0x4C0202
def CONCURRENCY_NOW : Nat := 0x4C0203
def BUDGET_MW : Nat := 0x4C0204
def MODEL_MW : Nat := 0x4C0205
def MEAS_CORR : Nat := 0x4C0206
def DERATE_STEP : Nat := 0x4C0207
def PINS_RELAXED : Nat := 0x4C0208
def PLAN_INPUT_CRC : Nat := 0x4C0209
def PLAN_CRC : Nat := 0x4C020A
def REPLANS : Nat := 0x4C020B
def REPLAN_MAX_US : Nat := 0x4C020C
def DWELL_TABLE : Nat := 0x4C020D
def PLAN_SEQ : Nat := 0x4C020E
def SQ_USED : Nat := 0x4C0301
def HOT_SPAN_MS : Nat := 0x4C0302
def ARCHIVE_SPAN_S : Nat := 0x4C0303
def SPILL_COUNT : Nat := 0x4C0304
def STORE_SEQ : Nat := 0x4C0305
def ZONE_ENABLE (i : Nat) : Nat := 0x4C2001 + 256 * i
def ZONE_PROFILE (i : Nat) : Nat := 0x4C2002 + 256 * i
def ZONE_PRIORITY (i : Nat) : Nat := 0x4C2003 + 256 * i
def ZONE_WEIGHT (i : Nat) : Nat := 0x4C2004 + 256 * i
def ZONE_LEADER (i : Nat) : Nat := 0x4C2005 + 256 * i
def ZONE_TX_POWER (i : Nat) : Nat := 0x4C2006 + 256 * i
def ZONE_TX_AZ (i : Nat) : Nat := 0x4C2007 + 256 * i
def ZONE_TX_EL (i : Nat) : Nat := 0x4C2008 + 256 * i
def ZONE_RX_MODE (i : Nat) : Nat := 0x4C2009 + 256 * i
def ZONE_RX_TAPER (i : Nat) : Nat := 0x4C200A + 256 * i
def ZONE_RX_COUNT (i : Nat) : Nat := 0x4C200B + 256 * i
def ZONE_RX_AZ (i k : Nat) : Nat := 0x4C200C + 256 * i + k
def ZONE_RX_EL (i k : Nat) : Nat := 0x4C2010 + 256 * i + k
def ZONE_CHANNEL_MASK (i : Nat) : Nat := 0x4C2014 + 256 * i
def GOAL_READ_RATE (i : Nat) : Nat := 0x4C2015 + 256 * i
def GOAL_LATENCY_MS (i : Nat) : Nat := 0x4C2016 + 256 * i
def ZONE_SEQ (i : Nat) : Nat := 0x4C2018 + 256 * i
def ZS_STATE (i : Nat) : Nat := 0x4C4001 + 256 * i
def ZS_LEADER (i : Nat) : Nat := 0x4C4002 + 256 * i
def ZS_WEIGHT_EFF (i : Nat) : Nat := 0x4C4003 + 256 * i
def ZS_READ_RATE (i : Nat) : Nat := 0x4C4004 + 256 * i
def ZS_GAP_MAX_MS (i : Nat) : Nat := 0x4C4005 + 256 * i
def ZS_TIME_SHARE (i : Nat) : Nat := 0x4C4006 + 256 * i
def ZS_SEQ (i : Nat) : Nat := 0x4C4007 + 256 * i
def REPORT_WINDOW_MS : Nat := 0x480001
def PACKET_MAX : Nat := 0x480002
def PACKET_AGE_MS : Nat := 0x480003
def RING_MIB : Nat := 0x480004
def DEESC_PCT : Nat := 0x480005
def RCFG_SEQ : Nat := 0x480006
def DICT_CAPACITY : Nat := 0x480101
def DICT_USED : Nat := 0x480102
def DICT_EVICTIONS : Nat := 0x480103
def DICT_TOO_LONG : Nat := 0x480104
def DICT_LOOKUP : Nat := 0x480105
def DICT_ENTRY : Nat := 0x480106
def DICT_SEQ : Nat := 0x480107
def HOT_CURSOR : Nat := 0x480201
def HOT_READ : Nat := 0x480202
def HOT_OLDEST : Nat := 0x480203
def HOT_RECORDS : Nat := 0x480204
def HOT_SEQ : Nat := 0x480205
def STREAM_ENABLE (i : Nat) : Nat := 0x481001 + 256 * i
def STREAM_LINK (i : Nat) : Nat := 0x481002 + 256 * i
def STREAM_ZONES (i : Nat) : Nat := 0x481003 + 256 * i
def TIER_BASE (i : Nat) : Nat := 0x481004 + 256 * i
def TIER_MAX (i : Nat) : Nat := 0x481005 + 256 * i
def ESC_HIGH (i : Nat) : Nat := 0x481006 + 256 * i
def ESC_LOW (i : Nat) : Nat := 0x481007 + 256 * i
def ESC_HOLD (i : Nat) : Nat := 0x481008 + 256 * i
def STREAM_CAPACITY (i : Nat) : Nat := 0x481009 + 256 * i
def CREDIT_LOW (i : Nat) : Nat := 0x48100A + 256 * i
def WM_LEVEL (i : Nat) : Nat := 0x48100B + 256 * i
def SCFG_SEQ (i : Nat) : Nat := 0x48100C + 256 * i
def TIER_NOW (i : Nat) : Nat := 0x482001 + 256 * i
def CREDITS (i : Nat) : Nat := 0x482002 + 256 * i
def CREDIT_GRANT (i : Nat) : Nat := 0x482003 + 256 * i
def SQ_FILL (i : Nat) : Nat := 0x482004 + 256 * i
def WM_LATCHED (i : Nat) : Nat := 0x482005 + 256 * i
def WM_ACK (i : Nat) : Nat := 0x482006 + 256 * i
def NEXT_SEQ (i : Nat) : Nat := 0x482007 + 256 * i
def CAP_EST (i : Nat) : Nat := 0x482008 + 256 * i
def OFFERED (i : Nat) : Nat := 0x482009 + 256 * i
def REPORT_NEXT (i : Nat) : Nat := 0x48200A + 256 * i
def REPORT_RELEASE (i : Nat) : Nat := 0x48200B + 256 * i
def TIER_CHANGES (i : Nat) : Nat := 0x48200C + 256 * i
def SSTATE_SEQ (i : Nat) : Nat := 0x48200D + 256 * i
def LOST_T1_LO (i : Nat) : Nat := 0x483001 + 256 * i
def LOST_T1_HI (i : Nat) : Nat := 0x483002 + 256 * i
def LOST_T2_LO (i : Nat) : Nat := 0x483003 + 256 * i
def LOST_T2_HI (i : Nat) : Nat := 0x483004 + 256 * i
def LOST_T3_LO (i : Nat) : Nat := 0x483005 + 256 * i
def LOST_T3_HI (i : Nat) : Nat := 0x483006 + 256 * i
def LOST_ARCHIVE_LO (i : Nat) : Nat := 0x483007 + 256 * i
def LOST_ARCHIVE_HI (i : Nat) : Nat := 0x483008 + 256 * i
def LOST_MEMORY_LO (i : Nat) : Nat := 0x483009 + 256 * i
def LOST_MEMORY_HI (i : Nat) : Nat := 0x48300A + 256 * i
def LOST_UNINDEXED_LO (i : Nat) : Nat := 0x48300B + 256 * i
def LOST_UNINDEXED_HI (i : Nat) : Nat := 0x48300C + 256 * i
def LOSS_SEQ (i : Nat) : Nat := 0x48300D + 256 * i
def MARK_SEQ (i k : Nat) : Nat := 0x484001 + 256 * i + k
def MARK_VALID (i : Nat) : Nat := 0x484009 + 256 * i
def MARK_LOST (i : Nat) : Nat := 0x48400A + 256 * i
def MARK_SET (i : Nat) : Nat := 0x48400B + 256 * i
def MARK_CLEAR (i : Nat) : Nat := 0x48400C + 256 * i
def REWIND (i : Nat) : Nat := 0x48400D + 256 * i
def REWIND_ACTIVE (i : Nat) : Nat := 0x48400E + 256 * i
def REWIND_LOST_RECORDS (i : Nat) : Nat := 0x48400F + 256 * i
def MARKS_SEQ (i : Nat) : Nat := 0x484010 + 256 * i
def STORE_MEDIUM : Nat := 0x270001
def STORE_DATA_KIB : Nat := 0x270002
def MX_TEMP : Nat := 0x270003
def REFRESH_RATE : Nat := 0x270004
def INIT_MIB : Nat := 0x270005
def SCRUB_PASSES : Nat := 0x270006
def SCRUB_LAST_END : Nat := 0x270007
def MSTATE_SEQ : Nat := 0x270008
def SCRUB_PERIOD_H : Nat := 0x270101
def REPAIR_THRESHOLD : Nat := 0x270102
def MCFG_SEQ : Nat := 0x270103
def INNER_CORRECTED : Nat := 0x270201
def OUTER_CORR_1 : Nat := 0x270202
def OUTER_CORR_2 : Nat := 0x270203
def SRAM_CORRECTED : Nat := 0x270204
def UNCORRECTABLE : Nat := 0x270205
def LAST_ERR_KIND : Nat := 0x270206
def LAST_ERR_REGION : Nat := 0x270207
def LAST_ERR_OFFSET : Nat := 0x270208
def LAST_ERR_TIME : Nat := 0x270209
def HOT_LOST : Nat := 0x27020A
def DICT_LOST : Nat := 0x27020B
def MERR_SEQ : Nat := 0x27020C
def SPARE_ROWS_TOTAL : Nat := 0x270301
def SPARE_ROWS_USED : Nat := 0x270302
def LINES_RETIRED : Nat := 0x270303
def REPAIRS : Nat := 0x270304
def REPAIR_MAP_STATE : Nat := 0x270305
def MREP_SEQ : Nat := 0x270306
def REGION_MAP : Nat := 0x270401
def MMAP_SEQ : Nat := 0x270402
def HF_STATE : Nat := 0x3C0001
def HF_OUT_CAUSE : Nat := 0x3C0002
def HF_TX_POWER_NOW : Nat := 0x3C0003
def HF_DRIVER_CURRENT : Nat := 0x3C0004
def HF_DIE_TEMP : Nat := 0x3C0005
def HF_FIELD_ON_US : Nat := 0x3C0006
def HF_OPS : Nat := 0x3C0007
def HF_FAULT_COUNT : Nat := 0x3C0008
def HF_FAULT_CLEAR : Nat := 0x3C0009
def HSTATE_SEQ : Nat := 0x3C000A
def HF_ENABLE : Nat := 0x3C0101
def HF_TX_POWER_MW : Nat := 0x3C0102
def HF_TECH_MASK : Nat := 0x3C0103
def HF_MAX_RATE_A : Nat := 0x3C0104
def HF_MAX_RATE_B : Nat := 0x3C0105
def HF_V_RATE : Nat := 0x3C0106
def HF_V_MOD : Nat := 0x3C0107
def HF_GUARD_US : Nat := 0x3C0108
def HF_RETRIES : Nat := 0x3C0109
def HF_SESSION_IDLE_MS : Nat := 0x3C010A
def HF_FWT_MAX_MS : Nat := 0x3C010B
def HCFG_SEQ : Nat := 0x3C010C
def SLIDE_Z_TARGET : Nat := 0x3C0201
def SLIDE_PHASE_WARN : Nat := 0x3C0202
def SLIDE_Z_CUT_LOW : Nat := 0x3C0203
def SLIDE_Z_CUT_HIGH : Nat := 0x3C0204
def SLIDE_RETUNE : Nat := 0x3C0205
def SLIDE_CS : Nat := 0x3C0206
def SLIDE_CP : Nat := 0x3C0207
def SLIDE_PHASE : Nat := 0x3C0208
def SLIDE_Z : Nat := 0x3C0209
def SLIDE_MISMATCH_COUNT : Nat := 0x3C020A
def SLIDE_CAL_TEMP : Nat := 0x3C020B
def SLIDE_CAL_TIME : Nat := 0x3C020C
def SLIDE_SEQ : Nat := 0x3C020D
def HF_OP : Nat := 0x3C0301
def HF_OP_ARG : Nat := 0x3C0302
def HF_CMD_DATA : Nat := 0x3C0303
def HF_OP_STATE : Nat := 0x3C0304
def HF_OP_LAST : Nat := 0x3C0305
def HF_OP_STATUS : Nat := 0x3C0306
def HF_RSP_DATA : Nat := 0x3C0307
def HF_CARD_COUNT : Nat := 0x3C0308
def HF_CARD_LIST : Nat := 0x3C0309
def HF_OP_DURATION : Nat := 0x3C030A
def HOP_SEQ : Nat := 0x3C030B
def BREATH_PERIOD_MS : Nat := 0x3C0401
def BREATH_PULSE_US : Nat := 0x3C0402
def BREATH_AMP_THRESH : Nat := 0x3C0403
def BREATH_PHASE_THRESH : Nat := 0x3C0404
def BREATH_CONFIRM_TECH : Nat := 0x3C0405
def BREATH_BACKOFF : Nat := 0x3C0406
def BREATH_STATE : Nat := 0x3C0407
def BREATH_PERIOD_NOW : Nat := 0x3C0408
def BREATH_PULSES : Nat := 0x3C0409
def BREATH_TRIGGERS : Nat := 0x3C040A
def BREATH_FALSE : Nat := 0x3C040B
def BREATH_SEQ : Nat := 0x3C040C
def DEVICE_TYPE : Nat := 0x100000
def ERROR_REGISTER : Nat := 0x100100
def COB_ID_SYNC : Nat := 0x100500
def DEVICE_NAME : Nat := 0x100800
def SW_VERSION : Nat := 0x100A00
def COB_ID_TIME : Nat := 0x101200
def COB_ID_EMCY : Nat := 0x101400
def INHIBIT_EMCY : Nat := 0x101500
def HEARTBEAT_TIME : Nat := 0x101700
def VENDOR_ID : Nat := 0x101801
def PRODUCT_CODE : Nat := 0x101802
def REVISION : Nat := 0x101803
def SERIAL_NUMBER : Nat := 0x101804
def RPDO_COB_ID (i : Nat) : Nat := 0x140001 + 256 * i
def RPDO_TYPE (i : Nat) : Nat := 0x140002 + 256 * i
def RPDO_MAP_COUNT (i : Nat) : Nat := 0x160000 + 256 * i
def RPDO_MAP (i k : Nat) : Nat := 0x160001 + 256 * i + k
def TPDO_COB_ID (i : Nat) : Nat := 0x180001 + 256 * i
def TPDO_TYPE (i : Nat) : Nat := 0x180002 + 256 * i
def INHIBIT_TIME (i : Nat) : Nat := 0x180003 + 256 * i
def EVENT_TIMER (i : Nat) : Nat := 0x180005 + 256 * i
def TPDO_MAP_COUNT (i : Nat) : Nat := 0x1A0000 + 256 * i
def TPDO_MAP (i k : Nat) : Nat := 0x1A0001 + 256 * i + k
def CAN_LINES : Nat := 0x240001
def CAN_NOMINAL_RATE : Nat := 0x240002
def CAN_DATA_RATE : Nat := 0x240003
def CAN_NODE_ID_BASE : Nat := 0x240004
def CANCFG_SEQ : Nat := 0x240005
def CAN_NODE_ID : Nat := 0x240101
def CAN_NMT_STATE : Nat := 0x240102
def CAN_ACTIVE_LINE : Nat := 0x240103
def CAN0_STATE : Nat := 0x240104
def CAN1_STATE : Nat := 0x240105
def CAN0_ERR_COUNTS : Nat := 0x240106
def CAN1_ERR_COUNTS : Nat := 0x240107
def CAN_BUSOFF_COUNT : Nat := 0x240108
def USDO_ABORTS : Nat := 0x240109
def RPDO_REFUSED : Nat := 0x24010A
def EMCY_DROPPED : Nat := 0x24010B
def CANSTATE_SEQ : Nat := 0x24010C
def SPT_FRAMES : Nat := 0x240201
def SPT_FRAME_ERRORS : Nat := 0x240202
def SPT_BUSY_DISCARDS : Nat := 0x240203
def SPT_ALIVE_REPEATS : Nat := 0x240204
def SPT_LAST_ERROR : Nat := 0x240205
def SPT_SEQ : Nat := 0x240206
def TWA_ADDRESS : Nat := 0x240301
def TWA_REQUESTS : Nat := 0x240302
def TWA_PEC_ERRORS : Nat := 0x240303
def TWA_BUSY_NACKS : Nat := 0x240304
def TWA_ARA_ANSWERS : Nat := 0x240305
def TWA_ARA_LOST : Nat := 0x240306
def TWA_TIMEOUTS : Nat := 0x240307
def TWA_SEQ : Nat := 0x240308
def TWA_ALERT_REASSERT_MS : Nat := 0x240401
def TWACFG_SEQ : Nat := 0x240402
def USDO_TIMEOUT_MS : Nat := 0x240501
def USDOCFG_SEQ : Nat := 0x240502
def SPT_CREDIT_GRANT : Nat := 0x240601
def TWA_CREDIT_GRANT : Nat := 0x240602
def CAN_CREDIT_GRANT : Nat := 0x240603
def SPC_FLASH_COUNT : Nat := 0x250001
def SPC_SELECT_GPIO (k : Nat) : Nat := 0x250002 + k
def SPC_SCK_MAX : Nat := 0x250005
def SPC_USER_BASE : Nat := 0x250006
def SPCCFG_SEQ : Nat := 0x250007
def FLASH_STATE (i : Nat) : Nat := 0x250801 + 256 * i
def JEDEC_ID (i : Nat) : Nat := 0x250802 + 256 * i
def FLASH_SIZE_KIB (i : Nat) : Nat := 0x250803 + 256 * i
def SFDP_REV (i : Nat) : Nat := 0x250804 + 256 * i
def READ_MODE (i : Nat) : Nat := 0x250805 + 256 * i
def ADDR_BYTES (i : Nat) : Nat := 0x250806 + 256 * i
def ERASE_SIZES (i : Nat) : Nat := 0x250807 + 256 * i
def FLASH_ERRORS (i : Nat) : Nat := 0x250808 + 256 * i
def FINFO_SEQ (i : Nat) : Nat := 0x250809 + 256 * i
def SPC_OP_FLASH : Nat := 0x251001
def SPC_OP_ADDRESS : Nat := 0x251002
def SPC_OP_LEN : Nat := 0x251003
def SPC_OP_DATA : Nat := 0x251004
def SPC_OP : Nat := 0x251005
def SPC_OP_STATE : Nat := 0x251006
def SPC_OP_STATUS : Nat := 0x251007
def SPC_RSP_DATA : Nat := 0x251008
def SPC_OP_DURATION : Nat := 0x251009
def SPC_OPS : Nat := 0x25100A
def SPCOP_SEQ : Nat := 0x25100B
def TWB_SPEED : Nat := 0x252001
def TWB_RETRIES : Nat := 0x252002
def TWB_SCL_TIMEOUT_MS : Nat := 0x252003
def TWB_ADDR : Nat := 0x252004
def TWB_WDATA : Nat := 0x252005
def TWB_RLEN : Nat := 0x252006
def TWB_GO : Nat := 0x252007
def TWB_RECOVER : Nat := 0x252008
def TWB_STATE : Nat := 0x252009
def TWB_STATUS : Nat := 0x25200A
def TWB_NACK_BYTE : Nat := 0x25200B
def TWB_RDATA : Nat := 0x25200C
def TWB_CONFLICTS : Nat := 0x25200D
def TWB_STUCKS : Nat := 0x25200E
def TWB_RECOVERIES : Nat := 0x25200F
def TWB_SEQ : Nat := 0x252010
def GPIO_DIR : Nat := 0x253001
def GPIO_OPEN_DRAIN : Nat := 0x253002
def GPIO_PULL_UP : Nat := 0x253003
def GPIO_PULL_DOWN : Nat := 0x253004
def GPIO_INIT : Nat := 0x253005
def GPIO_SET : Nat := 0x253006
def GPIO_CLEAR : Nat := 0x253007
def GPIO_IN : Nat := 0x253008
def GPIO_OWNED : Nat := 0x253009
def GATE_LEVEL (i : Nat) : Nat := 0x254001 + 256 * i
def GATE_FILTER_US (i : Nat) : Nat := 0x254002 + 256 * i
def GATE_EDGE_EVENT (i : Nat) : Nat := 0x254003 + 256 * i
def GATE_RISES (i : Nat) : Nat := 0x254004 + 256 * i
def GATE_FALLS (i : Nat) : Nat := 0x254005 + 256 * i
def GATE_EDGE_TIME (i : Nat) : Nat := 0x254006 + 256 * i
def GATE_SEQ (i : Nat) : Nat := 0x254007 + 256 * i
def IRQ_LEVEL : Nat := 0x255001
def IRQ_ASSERTIONS : Nat := 0x255002
def DEVICE_TIME : Nat := 0x220001
def DEVICE_TIME_LO : Nat := 0x220002
def DEVICE_TIME_HI : Nat := 0x220003
def TICK_RATE_PPB : Nat := 0x220004
def DISC_SOURCE : Nat := 0x220101
def DISC_PPS_GATE : Nat := 0x220102
def DISC_PPS_EDGE : Nat := 0x220103
def DISC_TIME_LATENCY_US : Nat := 0x220104
def DISC_HOLDOVER_S : Nat := 0x220105
def DCFG_SEQ : Nat := 0x220106
def DISC_STATE : Nat := 0x220201
def EXT_OFFSET : Nat := 0x220202
def DISC_ERROR : Nat := 0x220203
def DISC_EVENTS : Nat := 0x220204
def DISC_REJECTS : Nat := 0x220205
def DISC_STEPS : Nat := 0x220206
def DISC_LAST : Nat := 0x220207
def DSTATE_SEQ : Nat := 0x220208
def TMR_GROUP_BASE : Nat := 0x220301
def TMR_GROUP_N : Nat := 0x220302
def TMR_GROUP_LOAD : Nat := 0x220303
def TMR_FLAGS_ALL : Nat := 0x220304
def TMR_CLAIMED : Nat := 0x220305
def TMR_CLOCK (i : Nat) : Nat := 0x221001 + 256 * i
def TMR_RELOAD (i : Nat) : Nat := 0x221002 + 256 * i
def TMR_MATCH (i : Nat) : Nat := 0x221003 + 256 * i
def TMR_GATE_SRC (i : Nat) : Nat := 0x221004 + 256 * i
def TMR_GATE_LEVEL (i : Nat) : Nat := 0x221005 + 256 * i
def TMR_EVENT_MASK (i : Nat) : Nat := 0x221006 + 256 * i
def TMR_COUNT (i : Nat) : Nat := 0x221007 + 256 * i
def TMR_WRAPS (i : Nat) : Nat := 0x221008 + 256 * i
def TMR_FLAGS (i : Nat) : Nat := 0x221009 + 256 * i
def TMR_FLAG_CLEAR (i : Nat) : Nat := 0x22100A + 256 * i
def TMR_RESTART (i : Nat) : Nat := 0x22100B + 256 * i
def TMR_OWNER (i : Nat) : Nat := 0x22100C + 256 * i
def CHK_ROLE (i : Nat) : Nat := 0x230001 + 256 * i
def CHK_UNIT_STATE (i : Nat) : Nat := 0x230002 + 256 * i
def CHK_COVERING (i : Nat) : Nat := 0x230003 + 256 * i
def CHK_CHECKED (i : Nat) : Nat := 0x230004 + 256 * i
def CHK_FAILED (i : Nat) : Nat := 0x230005 + 256 * i
def CHK_SELFTEST_FAILS (i : Nat) : Nat := 0x230006 + 256 * i
def CHK_SEQ (i : Nat) : Nat := 0x230007 + 256 * i
def SCAN_POLY : Nat := 0x231001
def SCAN_SOURCE : Nat := 0x231002
def SCAN_FLASH : Nat := 0x231003
def SCAN_ADDRESS : Nat := 0x231004
def SCAN_LENGTH : Nat := 0x231005
def SCAN_DATA : Nat := 0x231006
def SCAN_TAIL_BITS : Nat := 0x231007
def SCAN_EXPECT : Nat := 0x231008
def SCAN_COMPARE : Nat := 0x231009
def SCAN_GO : Nat := 0x23100A
def SCAN_STATE : Nat := 0x23100B
def SCAN_STATUS : Nat := 0x23100C
def SCAN_VALUE : Nat := 0x23100D
def SCAN_DURATION : Nat := 0x23100E
def SCAN_SEQ : Nat := 0x23100F
def SPT_ALIVE_CHECK : Nat := 0x232001
def SPT_ALIVE_LAST : Nat := 0x232002
def SPT_ALIVE_FIRST : Nat := 0x232003
def DEVICE_KEY_ID : Nat := 0x280001
def DEVICE_CERT : Nat := 0x280002
def FW_KEY_ID : Nat := 0x280003
def SERVICE_KEY_ID : Nat := 0x280004
def FW_SVN_FUSED : Nat := 0x280005
def BOOT_COUNT : Nat := 0x280006
def FW_IMAGE : Nat := 0x280101
def FW_UPDATE : Nat := 0x280102
def FW_UPDATE_STATE : Nat := 0x280103
def FW_LOADED_BYTES : Nat := 0x280104
def FW_UPDATE_RESULT : Nat := 0x280105
def FW_CONFIRM : Nat := 0x280106
def FW_TRIAL : Nat := 0x280107
def FW_OTHER_VERSION : Nat := 0x280108
def FW_OTHER_SVN : Nat := 0x280109
def FWU_SEQ : Nat := 0x28010A
def OWNER_LOCK : Nat := 0x280201
def OWNER_KEY_ID : Nat := 0x280202
def OWNER_KEY : Nat := 0x280203
def OWNER_KEY_CANDIDATE : Nat := 0x280204
def CONFIG_EPOCH_MIN : Nat := 0x280205
def OWNER_BASE_CRC : Nat := 0x280206
def OWN_SEQ : Nat := 0x280207
def NONCE_REQUEST : Nat := 0x280301
def NONCE : Nat := 0x280302
def TOKEN : Nat := 0x280303
def TOKEN_SUBMIT : Nat := 0x280304
def TOKEN_STATE : Nat := 0x280305
def TOKEN_RESULT : Nat := 0x280306
def SESSION_KIND : Nat := 0x280307
def SESSION_LINK : Nat := 0x280308
def SESSION_EXPIRY : Nat := 0x280309
def SESSION_CLOSE : Nat := 0x28030A
def AUTH_FAILS : Nat := 0x28030B
def TOK_SEQ : Nat := 0x28030C
def QUOTE_NONCE : Nat := 0x280401
def QUOTE_GO : Nat := 0x280402
def QUOTE_STATE : Nat := 0x280403
def QUOTE : Nat := 0x280404
def QUOTE_SEQ : Nat := 0x280405
def DEBUG_STATE : Nat := 0x280501
def DEBUG_ATTACHES : Nat := 0x280502
def DEBUG_DISABLE : Nat := 0x280503
def DBG_SEQ : Nat := 0x280504
def TEMP_CX : Nat := 0x210001
def TEMP_PX : Nat := 0x210002
def TEMP_MX : Nat := 0x210003
def TEMP_UX (k : Nat) : Nat := 0x210004 + k
def TEMP_HX : Nat := 0x210008
def T_HOT : Nat := 0x210009
def T_HOT_DIE : Nat := 0x21000A
def T_HOT_MAX : Nat := 0x21000B
def TEMP_SEQ : Nat := 0x21000C
def TEMP_WARN : Nat := 0x210101
def TEMP_WARN_HYST : Nat := 0x210102
def TEMP_CRIT : Nat := 0x210103
def TCFG_SEQ : Nat := 0x210104
def VIN_MV : Nat := 0x210201
def VIO_A_MV : Nat := 0x210202
def VIO_B_MV : Nat := 0x210203
def V_CORE_MV : Nat := 0x210204
def V_AUX_MV : Nat := 0x210205
def V_PXMAIN_MV : Nat := 0x210206
def V_PA_MV (k : Nat) : Nat := 0x210207 + k
def VIN_MIN_MV : Nat := 0x21020B
def VIN_RIPPLE_MV : Nat := 0x21020C
def VOLT_SEQ : Nat := 0x21020D
def VIN_LOW_MV : Nat := 0x210301
def VIN_RIPPLE_MAX_MV : Nat := 0x210302
def PROC_DRIFT_LIMIT : Nat := 0x210303
def VLIM_SEQ : Nat := 0x210304
def PROC_CX : Nat := 0x210401
def PROC_UX (k : Nat) : Nat := 0x210402 + k
def PROC_HX : Nat := 0x210406
def PROC_SEQ : Nat := 0x210407
def FAULT_ACTIVE : Nat := 0x210501
def FAULT_SEEN : Nat := 0x210502
def FAULT_CLEAR : Nat := 0x210503
def FAULT_LAST : Nat := 0x210504
def PLAN_FAULTS : Nat := 0x210505
def CRITICAL_COUNT : Nat := 0x210506
def FAULT_SEQ : Nat := 0x210507
def WDT_TIMEOUT_MS : Nat := 0x210601
def WDT_BARKS : Nat := 0x210602
def RESET_CAUSE : Nat := 0x210603
def RESET_DETAIL : Nat := 0x210604
def WORK_CORRECTED : Nat := 0x210605
def WDOG_SEQ : Nat := 0x210606
def EVT_LATCHED : Nat := 0x260001
def EVT_ACK : Nat := 0x260002
def EVT_EN_ATTN : Nat := 0x260003
def EVT_EN_ALERT : Nat := 0x260004
def EVT_EN_IRQ : Nat := 0x260005
def EVT_EN_EMCY : Nat := 0x260006
def EVT_PENDING : Nat := 0x260007
def EVT_COUNTS : Nat := 0x260101
def EVT_TIMES : Nat := 0x260102
def EVT_DETAILS : Nat := 0x260103
def EVTH_SEQ : Nat := 0x260104
def EVT_LOG_MASK : Nat := 0x260201
def LOG_HEAD : Nat := 0x260202
def LOG_SEQ_NEXT : Nat := 0x260203
def LOG_PENDING : Nat := 0x260204
def LOG_DROPPED : Nat := 0x260205
def LOGS_SEQ : Nat := 0x260206

end Sys2Proof.Machine.Reg

namespace Sys2Proof.Machine

def grp1000 : ObjGroup := ⟨0x1000, 0, 1, .always, [
  ⟨0, 1, .u32, .const, .any, 0, .always⟩]⟩
def grp1001 : ObjGroup := ⟨0x1001, 0, 1, .always, [
  ⟨0, 1, .u8, .ro, .any, 0, .always⟩]⟩
def grp1005 : ObjGroup := ⟨0x1005, 0, 1, .always, [
  ⟨0, 1, .u32, .rws, .bits 0x7FF, 128, .always⟩]⟩
def grp1008 : ObjGroup := ⟨0x1008, 0, 1, .always, [
  ⟨0, 1, .str 8, .const, .any, 0, .always⟩]⟩
def grp100A : ObjGroup := ⟨0x100A, 0, 1, .always, [
  ⟨0, 1, .str 12, .ro, .any, 0, .always⟩]⟩
def grp1012 : ObjGroup := ⟨0x1012, 0, 1, .always, [
  ⟨0, 1, .u32, .rws, .bits 0xC00007FF, 2147483904, .always⟩]⟩
/-- COB_ID_EMCY. Bits 30:11 of it, of 0x1400.01 and of 0x1800.01 are refused with RANGE where they are not 0: the tables name
only bit 31 and bits 10:0 and do not say what the rest are (R16; DESIGN CHOICE, log entry 51). -/
def grp1014 : ObjGroup := ⟨0x1014, 0, 1, .always, [
  ⟨0, 1, .u32, .rws, .bits 0x800007FF, 0, .always⟩]⟩
def grp1015 : ObjGroup := ⟨0x1015, 0, 1, .always, [
  ⟨0, 1, .u16, .rws, .between (0) 10000, 10, .always⟩]⟩
def grp1017 : ObjGroup := ⟨0x1017, 0, 1, .always, [
  ⟨0, 1, .u16, .rws, .any, 1000, .always⟩]⟩
def grp1018 : ObjGroup := ⟨0x1018, 0, 1, .always, [
  ⟨0, 1, .u8, .const, .any, 4, .always⟩,
  ⟨1, 1, .u32, .const, .any, 3711, .always⟩,
  ⟨2, 1, .u32, .const, .any, 0, .always⟩,
  ⟨3, 1, .u32, .ro, .any, 0, .always⟩,
  ⟨4, 1, .u32, .const, .any, 0, .always⟩]⟩
def grp1400 : ObjGroup := ⟨0x1400, 1, 4, .always, [
  ⟨0, 1, .u8, .const, .any, 2, .always⟩,
  ⟨1, 1, .u32, .rws, .bits 0x800007FF, 0, .always⟩,
  ⟨2, 1, .u8, .rws, .oneOf [0xFF], 255, .always⟩]⟩
def grp1600 : ObjGroup := ⟨0x1600, 1, 4, .always, [
  ⟨0, 1, .u8, .rws, .between (0) 8, 1, .always⟩,
  ⟨1, 8, .u32, .rws, .any, 0, .always⟩]⟩
def grp1800 : ObjGroup := ⟨0x1800, 0, 1, .always, [
  ⟨0, 1, .u8, .const, .any, 5, .always⟩,
  ⟨1, 1, .u32, .rws, .bits 0x800007FF, 0, .always⟩,
  ⟨2, 1, .u8, .rws, .oneOf [255], 255, .always⟩,
  ⟨3, 1, .u16, .rws, .any, 0, .always⟩,
  ⟨5, 1, .u16, .rws, .any, 0, .always⟩]⟩
def grp1801 : ObjGroup := ⟨0x1801, 1, 7, .always, [
  ⟨0, 1, .u8, .const, .any, 5, .always⟩,
  ⟨1, 1, .u32, .rws, .bits 0x800007FF, 0, .always⟩,
  ⟨2, 1, .u8, .rws, .tpdoType, 255, .always⟩,
  ⟨3, 1, .u16, .rws, .any, 0, .always⟩,
  ⟨5, 1, .u16, .rws, .any, 0, .always⟩]⟩
def grp1A00 : ObjGroup := ⟨0x1A00, 0, 1, .always, [
  ⟨0, 1, .u8, .const, .any, 0, .always⟩,
  ⟨1, 8, .u32, .const, .any, 0, .always⟩]⟩
def grp1A01 : ObjGroup := ⟨0x1A01, 1, 7, .always, [
  ⟨0, 1, .u8, .rws, .between (0) 8, 0, .always⟩,
  ⟨1, 8, .u32, .rws, .any, 0, .always⟩]⟩
def grp2000 : ObjGroup := ⟨0x2000, 0, 1, .always, [
  ⟨0, 1, .u8, .const, .any, 10, .always⟩,
  ⟨1, 1, .str 8, .const, .any, 0, .always⟩,
  ⟨2, 1, .u8, .const, .any, 0, .always⟩,
  ⟨3, 1, .u16, .const, .any, 0, .always⟩,
  ⟨4, 1, .bool, .const, .any, 0, .always⟩,
  ⟨5, 1, .str 2, .const, .any, 0, .always⟩,
  ⟨6, 1, .oct 12, .const, .any, 0, .always⟩,
  ⟨7, 1, .u32, .ro, .any, 0, .always⟩,
  ⟨8, 1, .u8, .ro, .any, 0, .always⟩,
  ⟨9, 1, .u16, .ro, .any, 0, .always⟩,
  ⟨10, 1, .u16, .const, .any, 0, .always⟩]⟩
def grp2001 : ObjGroup := ⟨0x2001, 0, 1, .always, [
  ⟨0, 1, .u8, .const, .any, 11, .always⟩,
  ⟨1, 1, .u8, .ro, .any, 0, .always⟩,
  ⟨2, 1, .u8, .rw, .any, 255, .always⟩,
  ⟨3, 1, .u8, .ro, .any, 0, .always⟩,
  ⟨4, 1, .u8, .ro, .any, 0, .always⟩,
  ⟨5, 1, .u16, .rws, .bits 0x3F, 0, .always⟩,
  ⟨6, 1, .u16, .rws, .bits 0x3F, 0, .always⟩,
  ⟨7, 1, .u8, .rws, .between (0) 15, 0, .always⟩,
  ⟨8, 1, .u16, .ro, .any, 0, .always⟩,
  ⟨9, 1, .u32, .ro, .any, 0, .always⟩,
  ⟨10, 1, .u8, .ro, .any, 0, .always⟩,
  ⟨11, 1, .u8, .wo, .any, 0, .always⟩]⟩
def grp2002 : ObjGroup := ⟨0x2002, 0, 1, .always, [
  ⟨0, 1, .u8, .const, .any, 10, .always⟩,
  ⟨1, 1, .u8, .wo, .any, 0, .always⟩,
  ⟨2, 1, .u8, .wo, .any, 0, .always⟩,
  ⟨3, 1, .u8, .ro, .any, 0, .always⟩,
  ⟨4, 1, .u16, .ro, .any, 0, .always⟩,
  ⟨5, 1, .u32, .ro, .any, 0, .always⟩,
  ⟨6, 1, .u8, .ro, .any, 0, .always⟩,
  ⟨7, 1, .u32, .ro, .any, 0, .always⟩,
  ⟨8, 1, .u32, .ro, .any, 0, .always⟩,
  ⟨9, 1, .u8, .ro, .any, 0, .always⟩,
  ⟨10, 1, .u8, .ro, .any, 0, .always⟩]⟩
def grp2003 : ObjGroup := ⟨0x2003, 0, 1, .always, [
  ⟨0, 1, .u8, .const, .any, 8, .always⟩,
  ⟨1, 1, .u16, .ro, .any, 0, .always⟩,
  ⟨2, 1, .u8, .ro, .any, 0, .always⟩,
  ⟨3, 1, .u8, .ro, .any, 0, .always⟩,
  ⟨4, 1, .u16, .ro, .any, 0, .always⟩,
  ⟨5, 1, .u8, .ro, .any, 0, .always⟩,
  ⟨6, 1, .u8, .ro, .any, 0, .always⟩,
  ⟨7, 1, .u32, .ro, .any, 0, .always⟩,
  ⟨8, 1, .u32, .ro, .any, 0, .always⟩]⟩
def grp2004 : ObjGroup := ⟨0x2004, 0, 1, .always, [
  ⟨0, 1, .u8, .const, .any, 2, .always⟩,
  ⟨1, 1, .dom 524288, .wo, .any, 0, .always⟩,
  ⟨2, 1, .u32, .ro, .any, 0, .always⟩]⟩
def grp2005 : ObjGroup := ⟨0x2005, 0, 1, .always, [
  ⟨0, 1, .u8, .const, .any, 3, .always⟩,
  ⟨1, 1, .u8, .ro, .any, 0, .always⟩,
  ⟨2, 1, .u8, .ro, .any, 0, .always⟩,
  ⟨3, 1, .u8, .ro, .any, 0, .always⟩]⟩
def grp2006 : ObjGroup := ⟨0x2006, 0, 1, .always, [
  ⟨0, 1, .u8, .const, .any, 4, .always⟩,
  ⟨1, 1, .u32, .rw, .bits 0xFFFFFF, 0, .always⟩,
  ⟨2, 1, .u8, .ro, .any, 0, .always⟩,
  ⟨3, 1, .dom 65536, .ro, .any, 0, .always⟩,
  ⟨4, 1, .u32, .ro, .any, 0, .always⟩]⟩
def grp2010 : ObjGroup := ⟨0x2010, 0, 1, .test, [
  ⟨0, 1, .u8, .const, .any, 10, .always⟩,
  ⟨1, 1, .u16, .rw, .chainMask, 0, .always⟩,
  ⟨2, 1, .u32, .rw, .any, 0, .always⟩,
  ⟨3, 1, .i16, .rw, .between (-40) 68, 65496, .always⟩,
  ⟨4, 1, .u8, .rw, .between (0) 2, 0, .always⟩,
  ⟨5, 1, .u8, .rw, .between (0) 7, 0, .always⟩,
  ⟨6, 1, .u32, .rw, .between (1) 60000, 1000, .always⟩,
  ⟨7, 1, .u8, .wo, .any, 0, .always⟩,
  ⟨8, 1, .u8, .ro, .any, 0, .always⟩,
  ⟨9, 1, .u8, .ro, .any, 0, .always⟩,
  ⟨10, 1, .u32, .ro, .any, 0, .always⟩]⟩
def grp2011 : ObjGroup := ⟨0x2011, 0, 1, .testHf, [
  ⟨0, 1, .u8, .const, .any, 4, .always⟩,
  ⟨1, 1, .u16, .rw, .hfPower, 20, .always⟩,
  ⟨2, 1, .u32, .rw, .between (1) 60000, 1000, .always⟩,
  ⟨3, 1, .u8, .wo, .any, 0, .always⟩,
  ⟨4, 1, .u8, .ro, .any, 0, .always⟩]⟩
def grp2012 : ObjGroup := ⟨0x2012, 0, 1, .test, [
  ⟨0, 1, .u8, .const, .any, 5, .always⟩,
  ⟨1, 1, .u8, .rw, .chainNo, 0, .always⟩,
  ⟨2, 1, .u8, .wo, .any, 0, .always⟩,
  ⟨3, 1, .u8, .ro, .any, 0, .always⟩,
  ⟨4, 1, .dom 65536, .ro, .any, 0, .always⟩,
  ⟨5, 1, .u32, .ro, .any, 0, .always⟩]⟩
def grp2100 : ObjGroup := ⟨0x2100, 0, 1, .always, [
  ⟨0, 1, .u8, .const, .any, 12, .always⟩,
  ⟨1, 1, .i16, .ro, .any, 0, .always⟩,
  ⟨2, 1, .i16, .ro, .any, 0, .px⟩,
  ⟨3, 1, .i16, .ro, .any, 0, .mx⟩,
  ⟨4, 4, .i16, .ro, .any, 0, .quadSub⟩,
  ⟨8, 1, .i16, .ro, .any, 0, .hx⟩,
  ⟨9, 1, .i16, .ro, .any, 0, .always⟩,
  ⟨10, 1, .u8, .ro, .any, 0, .always⟩,
  ⟨11, 1, .i16, .ro, .any, 0, .always⟩,
  ⟨12, 1, .u32, .ro, .any, 0, .always⟩]⟩
def grp2101 : ObjGroup := ⟨0x2101, 0, 1, .always, [
  ⟨0, 1, .u8, .const, .any, 4, .always⟩,
  ⟨1, 1, .i16, .rws, .between (1000) 1490, 1450, .always⟩,
  ⟨2, 1, .i16, .rws, .between (10) 200, 50, .always⟩,
  ⟨3, 1, .i16, .const, .any, 1500, .always⟩,
  ⟨4, 1, .u32, .ro, .any, 0, .always⟩]⟩
def grp2102 : ObjGroup := ⟨0x2102, 0, 1, .always, [
  ⟨0, 1, .u8, .const, .any, 13, .always⟩,
  ⟨1, 1, .u16, .ro, .any, 0, .always⟩,
  ⟨2, 1, .u16, .ro, .any, 0, .always⟩,
  ⟨3, 1, .u16, .ro, .any, 0, .always⟩,
  ⟨4, 1, .u16, .ro, .any, 0, .always⟩,
  ⟨5, 1, .u16, .ro, .any, 0, .always⟩,
  ⟨6, 1, .u16, .ro, .any, 0, .px⟩,
  ⟨7, 4, .u16, .ro, .any, 0, .quadSub⟩,
  ⟨11, 1, .u16, .ro, .any, 0, .always⟩,
  ⟨12, 1, .u16, .ro, .any, 0, .always⟩,
  ⟨13, 1, .u32, .ro, .any, 0, .always⟩]⟩
def grp2103 : ObjGroup := ⟨0x2103, 0, 1, .always, [
  ⟨0, 1, .u8, .const, .any, 4, .always⟩,
  ⟨1, 1, .u16, .rws, .between (4100) 4600, 4400, .always⟩,
  ⟨2, 1, .u16, .rws, .between (20) 500, 100, .always⟩,
  ⟨3, 1, .u16, .rws, .between (10) 200, 50, .always⟩,
  ⟨4, 1, .u32, .ro, .any, 0, .always⟩]⟩
def grp2104 : ObjGroup := ⟨0x2104, 0, 1, .always, [
  ⟨0, 1, .u8, .const, .any, 7, .always⟩,
  ⟨1, 1, .i16, .ro, .any, 0, .always⟩,
  ⟨2, 4, .i16, .ro, .any, 0, .quadSub⟩,
  ⟨6, 1, .i16, .ro, .any, 0, .hx⟩,
  ⟨7, 1, .u32, .ro, .any, 0, .always⟩]⟩
def grp2105 : ObjGroup := ⟨0x2105, 0, 1, .always, [
  ⟨0, 1, .u8, .const, .any, 7, .always⟩,
  ⟨1, 1, .u32, .ro, .any, 0, .always⟩,
  ⟨2, 1, .u32, .ro, .any, 0, .always⟩,
  ⟨3, 1, .u8, .wo, .any, 0, .always⟩,
  ⟨4, 1, .u8, .ro, .any, 255, .always⟩,
  ⟨5, 1, .u32, .ro, .any, 0, .always⟩,
  ⟨6, 1, .u32, .ro, .any, 0, .always⟩,
  ⟨7, 1, .u32, .ro, .any, 0, .always⟩]⟩
def grp2106 : ObjGroup := ⟨0x2106, 0, 1, .always, [
  ⟨0, 1, .u8, .const, .any, 6, .always⟩,
  ⟨1, 1, .u16, .rws, .between (20) 1000, 100, .always⟩,
  ⟨2, 1, .u32, .ro, .any, 0, .always⟩,
  ⟨3, 1, .u8, .ro, .any, 0, .always⟩,
  ⟨4, 1, .u8, .ro, .any, 0, .always⟩,
  ⟨5, 1, .u32, .ro, .any, 0, .always⟩,
  ⟨6, 1, .u32, .ro, .any, 0, .always⟩]⟩
def grp2200 : ObjGroup := ⟨0x2200, 0, 1, .always, [
  ⟨0, 1, .u8, .const, .any, 4, .always⟩,
  ⟨1, 1, .u64, .ro, .any, 0, .always⟩,
  ⟨2, 1, .u32, .ro, .any, 0, .always⟩,
  ⟨3, 1, .u32, .ro, .any, 0, .always⟩,
  ⟨4, 1, .i32, .ro, .any, 0, .always⟩]⟩
def grp2201 : ObjGroup := ⟨0x2201, 0, 1, .always, [
  ⟨0, 1, .u8, .const, .any, 6, .always⟩,
  ⟨1, 1, .u8, .rws, .between (0) 2, 0, .always⟩,
  ⟨2, 1, .u8, .rws, .between (0) 7, 0, .always⟩,
  ⟨3, 1, .u8, .rws, .between (0) 1, 0, .always⟩,
  ⟨4, 1, .u16, .rws, .between (0) 10000, 0, .always⟩,
  ⟨5, 1, .u16, .rws, .between (2) 3600, 10, .always⟩,
  ⟨6, 1, .u32, .ro, .any, 0, .always⟩]⟩
def grp2202 : ObjGroup := ⟨0x2202, 0, 1, .always, [
  ⟨0, 1, .u8, .const, .any, 8, .always⟩,
  ⟨1, 1, .u8, .ro, .any, 0, .always⟩,
  ⟨2, 1, .i64, .ro, .any, 0, .always⟩,
  ⟨3, 1, .i32, .ro, .any, 0, .always⟩,
  ⟨4, 1, .u32, .ro, .any, 0, .always⟩,
  ⟨5, 1, .u32, .ro, .any, 0, .always⟩,
  ⟨6, 1, .u32, .ro, .any, 0, .always⟩,
  ⟨7, 1, .u64, .ro, .any, 0, .always⟩,
  ⟨8, 1, .u32, .ro, .any, 0, .always⟩]⟩
def grp2203 : ObjGroup := ⟨0x2203, 0, 1, .always, [
  ⟨0, 1, .u8, .const, .any, 5, .always⟩,
  ⟨1, 1, .u8, .rw, .between (0) 15, 0, .always⟩,
  ⟨2, 1, .u8, .rw, .between (2) 16, 2, .always⟩,
  ⟨3, 1, .u8, .wo, .any, 0, .always⟩,
  ⟨4, 1, .u32, .ro, .any, 0, .always⟩,
  ⟨5, 1, .u16, .ro, .any, 0, .always⟩]⟩
def grp2210 : ObjGroup := ⟨0x2210, 1, 16, .always, [
  ⟨0, 1, .u8, .const, .any, 12, .always⟩,
  ⟨1, 1, .u8, .rws, .between (0) 2, 1, .always⟩,
  ⟨2, 1, .u32, .rws, .any, 4294967295, .always⟩,
  ⟨3, 1, .u32, .rws, .any, 4294967295, .always⟩,
  ⟨4, 1, .u8, .rws, .gateSrc, 0, .always⟩,
  ⟨5, 1, .u8, .rws, .between (0) 1, 1, .always⟩,
  ⟨6, 1, .u8, .rws, .bits 0x3, 0, .always⟩,
  ⟨7, 1, .u32, .ro, .any, 0, .always⟩,
  ⟨8, 1, .u32, .ro, .any, 0, .always⟩,
  ⟨9, 1, .u8, .ro, .any, 0, .always⟩,
  ⟨10, 1, .u8, .wo, .any, 0, .always⟩,
  ⟨11, 1, .u8, .wo, .any, 0, .always⟩,
  ⟨12, 1, .u8, .ro, .any, 0, .always⟩]⟩
def grp2300 : ObjGroup := ⟨0x2300, 1, 4, .always, [
  ⟨0, 1, .u8, .const, .any, 7, .always⟩,
  ⟨1, 1, .u8, .const, .any, 0, .always⟩,
  ⟨2, 1, .u8, .ro, .any, 0, .always⟩,
  ⟨3, 1, .u8, .ro, .any, 0, .always⟩,
  ⟨4, 1, .u32, .ro, .any, 0, .always⟩,
  ⟨5, 1, .u32, .ro, .any, 0, .always⟩,
  ⟨6, 1, .u32, .ro, .any, 0, .always⟩,
  ⟨7, 1, .u32, .ro, .any, 0, .always⟩]⟩
def grp2310 : ObjGroup := ⟨0x2310, 0, 1, .always, [
  ⟨0, 1, .u8, .const, .any, 15, .always⟩,
  ⟨1, 1, .u8, .rw, .between (0) 5, 5, .always⟩,
  ⟨2, 1, .u8, .rw, .between (0) 1, 0, .always⟩,
  ⟨3, 1, .u8, .rw, .between (0) 3, 0, .always⟩,
  ⟨4, 1, .u32, .rw, .any, 0, .always⟩,
  ⟨5, 1, .u32, .rw, .between (1) 268435456, 0, .always⟩,
  ⟨6, 1, .dom 4096, .rw, .any, 0, .always⟩,
  ⟨7, 1, .u8, .rw, .between (0) 7, 0, .always⟩,
  ⟨8, 1, .u32, .rw, .any, 0, .always⟩,
  ⟨9, 1, .bool, .rw, .any, 0, .always⟩,
  ⟨10, 1, .u8, .wo, .any, 0, .always⟩,
  ⟨11, 1, .u8, .ro, .any, 0, .always⟩,
  ⟨12, 1, .u8, .ro, .any, 0, .always⟩,
  ⟨13, 1, .u32, .ro, .any, 0, .always⟩,
  ⟨14, 1, .u32, .ro, .any, 0, .always⟩,
  ⟨15, 1, .u32, .ro, .any, 0, .always⟩]⟩
def grp2320 : ObjGroup := ⟨0x2320, 0, 1, .always, [
  ⟨0, 1, .u8, .const, .any, 3, .always⟩,
  ⟨1, 1, .bool, .rws, .any, 1, .always⟩,
  ⟨2, 1, .u8, .ro, .any, 0, .always⟩,
  ⟨3, 1, .bool, .ro, .any, 1, .always⟩]⟩
def grp2400 : ObjGroup := ⟨0x2400, 0, 1, .always, [
  ⟨0, 1, .u8, .const, .any, 5, .always⟩,
  ⟨1, 1, .u8, .rws, .between (1) 3, 1, .always⟩,
  ⟨2, 1, .u8, .rws, .between (0) 3, 3, .always⟩,
  ⟨3, 1, .u8, .rws, .between (0) 4, 4, .always⟩,
  ⟨4, 1, .u8, .rws, .between (1) 120, 32, .always⟩,
  ⟨5, 1, .u32, .ro, .any, 0, .always⟩]⟩
def grp2401 : ObjGroup := ⟨0x2401, 0, 1, .always, [
  ⟨0, 1, .u8, .const, .any, 12, .always⟩,
  ⟨1, 1, .u8, .ro, .any, 0, .always⟩,
  ⟨2, 1, .u8, .ro, .any, 0, .always⟩,
  ⟨3, 1, .u8, .ro, .any, 0, .always⟩,
  ⟨4, 1, .u8, .ro, .any, 0, .always⟩,
  ⟨5, 1, .u8, .ro, .any, 0, .always⟩,
  ⟨6, 1, .u32, .ro, .any, 0, .always⟩,
  ⟨7, 1, .u32, .ro, .any, 0, .always⟩,
  ⟨8, 1, .u32, .ro, .any, 0, .always⟩,
  ⟨9, 1, .u32, .ro, .any, 0, .always⟩,
  ⟨10, 1, .u32, .ro, .any, 0, .always⟩,
  ⟨11, 1, .u32, .ro, .any, 0, .always⟩,
  ⟨12, 1, .u32, .ro, .any, 0, .always⟩]⟩
def grp2402 : ObjGroup := ⟨0x2402, 0, 1, .always, [
  ⟨0, 1, .u8, .const, .any, 6, .always⟩,
  ⟨1, 1, .u32, .ro, .any, 0, .always⟩,
  ⟨2, 1, .u32, .ro, .any, 0, .always⟩,
  ⟨3, 1, .u32, .ro, .any, 0, .always⟩,
  ⟨4, 1, .u32, .ro, .any, 0, .always⟩,
  ⟨5, 1, .u8, .ro, .any, 0, .always⟩,
  ⟨6, 1, .u32, .ro, .any, 0, .always⟩]⟩
def grp2403 : ObjGroup := ⟨0x2403, 0, 1, .always, [
  ⟨0, 1, .u8, .const, .any, 8, .always⟩,
  ⟨1, 1, .u8, .ro, .any, 0, .always⟩,
  ⟨2, 1, .u32, .ro, .any, 0, .always⟩,
  ⟨3, 1, .u32, .ro, .any, 0, .always⟩,
  ⟨4, 1, .u32, .ro, .any, 0, .always⟩,
  ⟨5, 1, .u32, .ro, .any, 0, .always⟩,
  ⟨6, 1, .u32, .ro, .any, 0, .always⟩,
  ⟨7, 1, .u32, .ro, .any, 0, .always⟩,
  ⟨8, 1, .u32, .ro, .any, 0, .always⟩]⟩
def grp2404 : ObjGroup := ⟨0x2404, 0, 1, .always, [
  ⟨0, 1, .u8, .const, .any, 2, .always⟩,
  ⟨1, 1, .u16, .rws, .between (1) 1000, 10, .always⟩,
  ⟨2, 1, .u32, .ro, .any, 0, .always⟩]⟩
def grp2405 : ObjGroup := ⟨0x2405, 0, 1, .always, [
  ⟨0, 1, .u8, .const, .any, 2, .always⟩,
  ⟨1, 1, .u16, .rws, .between (100) 10000, 1000, .always⟩,
  ⟨2, 1, .u32, .ro, .any, 0, .always⟩]⟩
def grp2406 : ObjGroup := ⟨0x2406, 0, 1, .always, [
  ⟨0, 1, .u8, .const, .any, 3, .always⟩,
  ⟨1, 1, .u32, .wo, .any, 0, .always⟩,
  ⟨2, 1, .u32, .wo, .any, 0, .always⟩,
  ⟨3, 1, .u32, .wo, .any, 0, .always⟩]⟩
def grp2500 : ObjGroup := ⟨0x2500, 0, 1, .always, [
  ⟨0, 1, .u8, .const, .any, 7, .always⟩,
  ⟨1, 1, .u8, .rws, .between (1) 4, 1, .always⟩,
  ⟨2, 3, .u8, .rws, .between (1) 23, 0, .always⟩,
  ⟨5, 1, .u8, .rws, .between (0) 2, 0, .always⟩,
  ⟨6, 1, .u32, .const, .any, 16777216, .always⟩,
  ⟨7, 1, .u32, .ro, .any, 0, .always⟩]⟩
def grp2508 : ObjGroup := ⟨0x2508, 1, 4, .always, [
  ⟨0, 1, .u8, .const, .any, 9, .always⟩,
  ⟨1, 1, .u8, .ro, .any, 0, .always⟩,
  ⟨2, 1, .u32, .ro, .any, 0, .always⟩,
  ⟨3, 1, .u32, .ro, .any, 0, .always⟩,
  ⟨4, 1, .u16, .ro, .any, 0, .always⟩,
  ⟨5, 1, .u8, .ro, .any, 0, .always⟩,
  ⟨6, 1, .u8, .ro, .any, 3, .always⟩,
  ⟨7, 1, .u8, .ro, .any, 0, .always⟩,
  ⟨8, 1, .u32, .ro, .any, 0, .always⟩,
  ⟨9, 1, .u32, .ro, .any, 0, .always⟩]⟩
def grp2510 : ObjGroup := ⟨0x2510, 0, 1, .always, [
  ⟨0, 1, .u8, .const, .any, 11, .always⟩,
  ⟨1, 1, .u8, .rw, .between (0) 3, 0, .always⟩,
  ⟨2, 1, .u32, .rw, .any, 0, .always⟩,
  ⟨3, 1, .u16, .rw, .any, 1, .always⟩,
  ⟨4, 1, .dom 256, .rw, .any, 0, .always⟩,
  ⟨5, 1, .u8, .wo, .any, 0, .always⟩,
  ⟨6, 1, .u8, .ro, .any, 0, .always⟩,
  ⟨7, 1, .u8, .ro, .any, 0, .always⟩,
  ⟨8, 1, .dom 65536, .ro, .any, 0, .always⟩,
  ⟨9, 1, .u32, .ro, .any, 0, .always⟩,
  ⟨10, 1, .u32, .ro, .any, 0, .always⟩,
  ⟨11, 1, .u32, .ro, .any, 0, .always⟩]⟩
def grp2520 : ObjGroup := ⟨0x2520, 0, 1, .always, [
  ⟨0, 1, .u8, .const, .any, 16, .always⟩,
  ⟨1, 1, .u8, .rws, .between (0) 2, 1, .always⟩,
  ⟨2, 1, .u8, .rws, .between (0) 3, 0, .always⟩,
  ⟨3, 1, .u8, .rws, .between (1) 100, 25, .always⟩,
  ⟨4, 1, .u8, .rw, .bits 0x7F, 0, .always⟩,
  ⟨5, 1, .dom 64, .rw, .any, 0, .always⟩,
  ⟨6, 1, .u8, .rw, .between (0) 64, 0, .always⟩,
  ⟨7, 1, .u8, .wo, .any, 0, .always⟩,
  ⟨8, 1, .u8, .wo, .any, 0, .always⟩,
  ⟨9, 1, .u8, .ro, .any, 0, .always⟩,
  ⟨10, 1, .u8, .ro, .any, 0, .always⟩,
  ⟨11, 1, .u8, .ro, .any, 0, .always⟩,
  ⟨12, 1, .dom 65536, .ro, .any, 0, .always⟩,
  ⟨13, 1, .u32, .ro, .any, 0, .always⟩,
  ⟨14, 1, .u32, .ro, .any, 0, .always⟩,
  ⟨15, 1, .u32, .ro, .any, 0, .always⟩,
  ⟨16, 1, .u32, .ro, .any, 0, .always⟩]⟩
def grp2530 : ObjGroup := ⟨0x2530, 0, 1, .always, [
  ⟨0, 1, .u8, .const, .any, 9, .always⟩,
  ⟨1, 1, .u32, .rws, .bits 0xFFFFFF, 0, .always⟩,
  ⟨2, 1, .u32, .rws, .bits 0xFFFFFF, 0, .always⟩,
  ⟨3, 1, .u32, .rws, .bits 0xFFFFFF, 0, .always⟩,
  ⟨4, 1, .u32, .rws, .bits 0xFFFFFF, 0, .always⟩,
  ⟨5, 1, .u32, .rws, .bits 0xFFFFFF, 0, .always⟩,
  ⟨6, 1, .u32, .wo, .bits 0xFFFFFF, 0, .always⟩,
  ⟨7, 1, .u32, .wo, .bits 0xFFFFFF, 0, .always⟩,
  ⟨8, 1, .u32, .ro, .any, 0, .always⟩,
  ⟨9, 1, .u32, .ro, .any, 1, .always⟩]⟩
def grp2540 : ObjGroup := ⟨0x2540, 1, 8, .always, [
  ⟨0, 1, .u8, .const, .any, 7, .always⟩,
  ⟨1, 1, .bool, .ro, .any, 0, .always⟩,
  ⟨2, 1, .u16, .rws, .between (0) 10000, 10, .always⟩,
  ⟨3, 1, .u8, .rws, .bits 0x3, 0, .always⟩,
  ⟨4, 1, .u32, .ro, .any, 0, .always⟩,
  ⟨5, 1, .u32, .ro, .any, 0, .always⟩,
  ⟨6, 1, .u64, .ro, .any, 0, .always⟩,
  ⟨7, 1, .u32, .ro, .any, 0, .always⟩]⟩
def grp2550 : ObjGroup := ⟨0x2550, 0, 1, .always, [
  ⟨0, 1, .u8, .const, .any, 2, .always⟩,
  ⟨1, 1, .bool, .ro, .any, 0, .always⟩,
  ⟨2, 1, .u32, .ro, .any, 0, .always⟩]⟩
def grp2600 : ObjGroup := ⟨0x2600, 0, 1, .always, [
  ⟨0, 1, .u8, .const, .any, 7, .always⟩,
  ⟨1, 1, .u64, .ro, .any, 0, .always⟩,
  ⟨2, 1, .u64, .wo, .any, 0, .always⟩,
  ⟨3, 1, .u64, .rws, .any, 18446743914787373055, .always⟩,
  ⟨4, 1, .u64, .rws, .any, 2305843009213762053, .always⟩,
  ⟨5, 1, .u64, .rws, .any, 2305843009213762053, .always⟩,
  ⟨6, 1, .u64, .rws, .any, 2305843009213762053, .always⟩,
  ⟨7, 1, .u64, .ro, .any, 0, .always⟩]⟩
def grp2601 : ObjGroup := ⟨0x2601, 0, 1, .always, [
  ⟨0, 1, .u8, .const, .any, 4, .always⟩,
  ⟨1, 1, .dom 65536, .ro, .any, 0, .always⟩,
  ⟨2, 1, .dom 65536, .ro, .any, 0, .always⟩,
  ⟨3, 1, .dom 65536, .ro, .any, 0, .always⟩,
  ⟨4, 1, .u32, .ro, .any, 0, .always⟩]⟩
def grp2602 : ObjGroup := ⟨0x2602, 0, 1, .always, [
  ⟨0, 1, .u8, .const, .any, 6, .always⟩,
  ⟨1, 1, .u64, .rws, .any, 16740328419814272948, .always⟩,
  ⟨2, 1, .u32, .ro, .any, 0, .always⟩,
  ⟨3, 1, .u32, .ro, .any, 0, .always⟩,
  ⟨4, 1, .u8, .ro, .any, 0, .always⟩,
  ⟨5, 1, .u32, .ro, .any, 0, .always⟩,
  ⟨6, 1, .u32, .ro, .any, 0, .always⟩]⟩
def grp2700 : ObjGroup := ⟨0x2700, 0, 1, .always, [
  ⟨0, 1, .u8, .const, .any, 8, .always⟩,
  ⟨1, 1, .u8, .const, .any, 0, .always⟩,
  ⟨2, 1, .u32, .const, .any, 0, .always⟩,
  ⟨3, 1, .i16, .ro, .any, 32768, .always⟩,
  ⟨4, 1, .u8, .ro, .any, 0, .always⟩,
  ⟨5, 1, .u16, .ro, .any, 0, .always⟩,
  ⟨6, 1, .u32, .ro, .any, 0, .always⟩,
  ⟨7, 1, .u64, .ro, .any, 0, .always⟩,
  ⟨8, 1, .u32, .ro, .any, 0, .always⟩]⟩
def grp2701 : ObjGroup := ⟨0x2701, 0, 1, .always, [
  ⟨0, 1, .u8, .const, .any, 3, .always⟩,
  ⟨1, 1, .u16, .rws, .between (1) 168, 24, .always⟩,
  ⟨2, 1, .u8, .rws, .between (1) 16, 4, .always⟩,
  ⟨3, 1, .u32, .ro, .any, 0, .always⟩]⟩
def grp2702 : ObjGroup := ⟨0x2702, 0, 1, .always, [
  ⟨0, 1, .u8, .const, .any, 12, .always⟩,
  ⟨1, 1, .u64, .ro, .any, 0, .always⟩,
  ⟨2, 1, .u32, .ro, .any, 0, .always⟩,
  ⟨3, 1, .u32, .ro, .any, 0, .always⟩,
  ⟨4, 1, .u32, .ro, .any, 0, .always⟩,
  ⟨5, 1, .u32, .ro, .any, 0, .always⟩,
  ⟨6, 1, .u8, .ro, .any, 0, .always⟩,
  ⟨7, 1, .u8, .ro, .any, 255, .always⟩,
  ⟨8, 1, .u32, .ro, .any, 0, .always⟩,
  ⟨9, 1, .u64, .ro, .any, 0, .always⟩,
  ⟨10, 1, .u32, .ro, .any, 0, .always⟩,
  ⟨11, 1, .u32, .ro, .any, 0, .always⟩,
  ⟨12, 1, .u32, .ro, .any, 0, .always⟩]⟩
def grp2703 : ObjGroup := ⟨0x2703, 0, 1, .always, [
  ⟨0, 1, .u8, .const, .any, 6, .always⟩,
  ⟨1, 1, .u16, .const, .any, 0, .always⟩,
  ⟨2, 1, .u16, .ro, .any, 0, .always⟩,
  ⟨3, 1, .u32, .ro, .any, 0, .always⟩,
  ⟨4, 1, .u32, .ro, .any, 0, .always⟩,
  ⟨5, 1, .u8, .ro, .any, 0, .always⟩,
  ⟨6, 1, .u32, .ro, .any, 0, .always⟩]⟩
def grp2704 : ObjGroup := ⟨0x2704, 0, 1, .always, [
  ⟨0, 1, .u8, .const, .any, 2, .always⟩,
  ⟨1, 1, .dom 65536, .ro, .any, 0, .always⟩,
  ⟨2, 1, .u32, .ro, .any, 0, .always⟩]⟩
def grp2800 : ObjGroup := ⟨0x2800, 0, 1, .always, [
  ⟨0, 1, .u8, .const, .any, 6, .always⟩,
  ⟨1, 1, .oct 8, .const, .any, 0, .always⟩,
  ⟨2, 1, .dom 65536, .const, .any, 0, .always⟩,
  ⟨3, 1, .oct 8, .const, .any, 0, .always⟩,
  ⟨4, 1, .oct 8, .const, .any, 0, .always⟩,
  ⟨5, 1, .u8, .ro, .any, 0, .always⟩,
  ⟨6, 1, .u32, .ro, .any, 0, .always⟩]⟩
def grp2801 : ObjGroup := ⟨0x2801, 0, 1, .always, [
  ⟨0, 1, .u8, .const, .any, 10, .always⟩,
  ⟨1, 1, .dom 8388608, .wo, .any, 0, .always⟩,
  ⟨2, 1, .u8, .wo, .any, 0, .always⟩,
  ⟨3, 1, .u8, .ro, .any, 0, .always⟩,
  ⟨4, 1, .u32, .ro, .any, 0, .always⟩,
  ⟨5, 1, .u8, .ro, .any, 0, .always⟩,
  ⟨6, 1, .u8, .wo, .any, 0, .always⟩,
  ⟨7, 1, .u8, .ro, .any, 0, .always⟩,
  ⟨8, 1, .u32, .ro, .any, 0, .always⟩,
  ⟨9, 1, .u16, .ro, .any, 0, .always⟩,
  ⟨10, 1, .u32, .ro, .any, 0, .always⟩]⟩
def grp2802 : ObjGroup := ⟨0x2802, 0, 1, .always, [
  ⟨0, 1, .u8, .const, .any, 7, .always⟩,
  ⟨1, 1, .bool, .ro, .any, 0, .always⟩,
  ⟨2, 1, .oct 8, .ro, .any, 0, .always⟩,
  ⟨3, 1, .dom 65536, .ro, .any, 0, .always⟩,
  ⟨4, 1, .dom 1952, .rw, .any, 0, .always⟩,
  ⟨5, 1, .u32, .ro, .any, 0, .always⟩,
  ⟨6, 1, .u32, .ro, .any, 0, .always⟩,
  ⟨7, 1, .u32, .ro, .any, 0, .always⟩]⟩
def grp2803 : ObjGroup := ⟨0x2803, 0, 1, .always, [
  ⟨0, 1, .u8, .const, .any, 12, .always⟩,
  ⟨1, 1, .u8, .wo, .any, 0, .always⟩,
  ⟨2, 1, .oct 32, .ro, .any, 0, .always⟩,
  ⟨3, 1, .dom 3384, .wo, .any, 0, .always⟩,
  ⟨4, 1, .u8, .wo, .any, 0, .always⟩,
  ⟨5, 1, .u8, .ro, .any, 0, .always⟩,
  ⟨6, 1, .u8, .ro, .any, 0, .always⟩,
  ⟨7, 1, .u8, .ro, .any, 0, .always⟩,
  ⟨8, 1, .u8, .ro, .any, 0, .always⟩,
  ⟨9, 1, .u64, .ro, .any, 0, .always⟩,
  ⟨10, 1, .u8, .wo, .any, 0, .always⟩,
  ⟨11, 1, .u32, .ro, .any, 0, .always⟩,
  ⟨12, 1, .u32, .ro, .any, 0, .always⟩]⟩
def grp2804 : ObjGroup := ⟨0x2804, 0, 1, .always, [
  ⟨0, 1, .u8, .const, .any, 5, .always⟩,
  ⟨1, 1, .oct 32, .rw, .any, 0, .always⟩,
  ⟨2, 1, .u8, .wo, .any, 0, .always⟩,
  ⟨3, 1, .u8, .ro, .any, 0, .always⟩,
  ⟨4, 1, .dom 65536, .ro, .any, 0, .always⟩,
  ⟨5, 1, .u32, .ro, .any, 0, .always⟩]⟩
def grp2805 : ObjGroup := ⟨0x2805, 0, 1, .always, [
  ⟨0, 1, .u8, .const, .any, 4, .always⟩,
  ⟨1, 1, .u8, .ro, .any, 0, .always⟩,
  ⟨2, 1, .u32, .ro, .any, 0, .always⟩,
  ⟨3, 1, .u8, .wo, .any, 0, .always⟩,
  ⟨4, 1, .u32, .ro, .any, 0, .always⟩]⟩
def grp2900 : ObjGroup := ⟨0x2900, 0, 1, .always, [
  ⟨0, 1, .u8, .const, .any, 9, .always⟩,
  ⟨1, 1, .u8, .lock, .regionId, 0, .always⟩,
  ⟨2, 1, .u8, .ro, .any, 0, .always⟩,
  ⟨3, 1, .u64, .rws, .any, 18446744073709551615, .always⟩,
  ⟨4, 1, .i16, .lock, .between (0) 8, 2, .always⟩,
  ⟨5, 1, .u8, .ro, .any, 0, .always⟩,
  ⟨6, 1, .u8, .wo, .any, 0, .always⟩,
  ⟨7, 1, .u32, .wo, .any, 0, .always⟩,
  ⟨8, 1, .u32, .ro, .any, 0, .always⟩,
  ⟨9, 1, .u32, .ro, .any, 0, .always⟩]⟩
def grp2901 : ObjGroup := ⟨0x2901, 0, 1, .always, [
  ⟨0, 1, .u8, .const, .any, 16, .always⟩,
  ⟨1, 16, .i16, .lock, .between (-40) 80, 24, .chainSub⟩]⟩
def grp2902 : ObjGroup := ⟨0x2902, 0, 1, .always, [
  ⟨0, 1, .u8, .const, .any, 16, .always⟩,
  ⟨1, 16, .i16, .lock, .between (0) 40, 0, .chainSub⟩]⟩
def grp2903 : ObjGroup := ⟨0x2903, 0, 1, .always, [
  ⟨0, 1, .u8, .const, .any, 5, .always⟩,
  ⟨1, 1, .u8, .rw, .regionId, 0, .always⟩,
  ⟨2, 1, .str 8, .ro, .any, 0, .always⟩,
  ⟨3, 1, .oct 32, .ro, .any, 0, .always⟩,
  ⟨4, 1, .dom 65536, .ro, .any, 0, .always⟩,
  ⟨5, 1, .u32, .ro, .any, 0, .always⟩]⟩
def grp2904 : ObjGroup := ⟨0x2904, 0, 1, .always, [
  ⟨0, 1, .u8, .const, .any, 6, .always⟩,
  ⟨1, 1, .u32, .ro, .any, 0, .always⟩,
  ⟨2, 1, .u32, .ro, .any, 0, .always⟩,
  ⟨3, 1, .u32, .ro, .any, 0, .always⟩,
  ⟨4, 1, .u32, .ro, .any, 0, .always⟩,
  ⟨5, 1, .dom 65536, .ro, .any, 0, .always⟩,
  ⟨6, 1, .u32, .ro, .any, 0, .always⟩]⟩
def grp3000 : ObjGroup := ⟨0x3000, 64, 4, .quad, [
  ⟨0, 1, .u8, .const, .any, 9, .always⟩,
  ⟨1, 1, .u8, .ro, .any, 0, .always⟩,
  ⟨2, 1, .u8, .ro, .any, 0, .always⟩,
  ⟨3, 1, .u32, .ro, .any, 0, .always⟩,
  ⟨4, 1, .i16, .ro, .any, 0, .always⟩,
  ⟨5, 1, .i16, .ro, .any, 0, .always⟩,
  ⟨6, 1, .u64, .ro, .any, 0, .always⟩,
  ⟨7, 1, .u32, .ro, .any, 0, .always⟩,
  ⟨8, 1, .u32, .ro, .any, 0, .always⟩,
  ⟨9, 1, .u32, .ro, .any, 0, .always⟩]⟩
def grp3001 : ObjGroup := ⟨0x3001, 64, 4, .quad, [
  ⟨0, 1, .u8, .const, .any, 2, .always⟩,
  ⟨1, 1, .i16, .rws, .between (20) 300, 100, .always⟩,
  ⟨2, 1, .u8, .wo, .any, 0, .always⟩]⟩
def grp3002 : ObjGroup := ⟨0x3002, 64, 4, .quad, [
  ⟨0, 1, .u8, .const, .any, 8, .always⟩,
  ⟨1, 1, .u32, .ro, .any, 0, .always⟩,
  ⟨2, 1, .u32, .ro, .any, 0, .always⟩,
  ⟨3, 1, .u8, .ro, .any, 0, .always⟩,
  ⟨4, 1, .u8, .ro, .any, 0, .always⟩,
  ⟨5, 1, .u8, .ro, .any, 0, .always⟩,
  ⟨6, 1, .u32, .ro, .any, 0, .always⟩,
  ⟨7, 1, .u32, .ro, .any, 0, .always⟩,
  ⟨8, 1, .u32, .ro, .any, 0, .always⟩]⟩
def grp3003 : ObjGroup := ⟨0x3003, 64, 4, .quad, [
  ⟨0, 1, .u8, .const, .any, 6, .always⟩,
  ⟨1, 1, .u8, .ro, .any, 0, .always⟩,
  ⟨2, 1, .u32, .ro, .any, 0, .always⟩,
  ⟨3, 1, .u32, .ro, .any, 0, .always⟩,
  ⟨4, 1, .u32, .ro, .any, 0, .always⟩,
  ⟨5, 1, .u32, .ro, .any, 0, .always⟩,
  ⟨6, 1, .u32, .ro, .any, 0, .always⟩]⟩
def grp3100 : ObjGroup := ⟨0x3100, 64, 16, .chain, [
  ⟨0, 1, .u8, .const, .any, 10, .always⟩,
  ⟨1, 1, .u8, .ro, .any, 0, .always⟩,
  ⟨2, 1, .u8, .ro, .any, 0, .always⟩,
  ⟨3, 1, .i16, .ro, .any, 32768, .always⟩,
  ⟨4, 1, .i16, .ro, .any, 32768, .always⟩,
  ⟨5, 1, .i16, .ro, .any, 32768, .always⟩,
  ⟨6, 1, .i16, .ro, .any, 32768, .always⟩,
  ⟨7, 1, .u8, .ro, .any, 0, .always⟩,
  ⟨8, 1, .u64, .ro, .any, 0, .always⟩,
  ⟨9, 1, .u32, .ro, .any, 0, .always⟩,
  ⟨10, 1, .u32, .ro, .any, 0, .always⟩]⟩
def grp3101 : ObjGroup := ⟨0x3101, 64, 16, .chain, [
  ⟨0, 1, .u8, .const, .any, 3, .always⟩,
  ⟨1, 1, .bool, .rws, .any, 1, .always⟩,
  ⟨2, 1, .i16, .rws, .between (-40) 68, 68, .always⟩,
  ⟨3, 1, .u8, .wo, .any, 0, .always⟩]⟩
def grp3102 : ObjGroup := ⟨0x3102, 64, 16, .chain, [
  ⟨0, 1, .u8, .const, .any, 7, .always⟩,
  ⟨1, 1, .i16, .ro, .any, 0, .always⟩,
  ⟨2, 1, .i16, .ro, .any, 0, .always⟩,
  ⟨3, 1, .i16, .ro, .any, 0, .always⟩,
  ⟨4, 1, .i16, .ro, .any, 0, .always⟩,
  ⟨5, 1, .u32, .ro, .any, 0, .always⟩,
  ⟨6, 1, .u8, .wo, .any, 0, .always⟩,
  ⟨7, 1, .u32, .ro, .any, 0, .always⟩]⟩
def grp3103 : ObjGroup := ⟨0x3103, 64, 16, .chain, [
  ⟨0, 1, .u8, .const, .any, 8, .always⟩,
  ⟨1, 1, .u8, .rws, .between (0) 2, 0, .always⟩,
  ⟨2, 1, .u32, .ro, .any, 0, .always⟩,
  ⟨3, 1, .u32, .ro, .any, 0, .always⟩,
  ⟨4, 1, .i16, .ro, .any, 0, .always⟩,
  ⟨5, 1, .i16, .ro, .any, 0, .always⟩,
  ⟨6, 1, .i16, .ro, .any, 0, .always⟩,
  ⟨7, 1, .u32, .ro, .any, 0, .always⟩,
  ⟨8, 1, .u32, .ro, .any, 0, .always⟩]⟩
def grp3104 : ObjGroup := ⟨0x3104, 64, 16, .chain, [
  ⟨0, 1, .u8, .const, .any, 7, .always⟩,
  ⟨1, 1, .i16, .rws, .between (12) 60, 28, .always⟩,
  ⟨2, 1, .i16, .rws, .between (8) 56, 12, .always⟩,
  ⟨3, 1, .u32, .ro, .any, 0, .always⟩,
  ⟨4, 1, .u32, .ro, .any, 0, .always⟩,
  ⟨5, 1, .u8, .ro, .any, 0, .always⟩,
  ⟨6, 1, .i16, .ro, .any, 32768, .always⟩,
  ⟨7, 1, .u32, .ro, .any, 0, .always⟩]⟩
def grp3105 : ObjGroup := ⟨0x3105, 64, 16, .chain, [
  ⟨0, 1, .u8, .const, .any, 3, .always⟩,
  ⟨1, 1, .dom 65536, .ro, .any, 0, .always⟩,
  ⟨2, 1, .dom 65536, .ro, .any, 0, .always⟩,
  ⟨3, 1, .u32, .ro, .any, 0, .always⟩]⟩
def grp3800 : ObjGroup := ⟨0x3800, 0, 1, .always, [
  ⟨0, 1, .u8, .const, .any, 7, .always⟩,
  ⟨1, 1, .u8, .ro, .any, 0, .always⟩,
  ⟨2, 1, .u16, .ro, .any, 0, .always⟩,
  ⟨3, 1, .u32, .ro, .any, 0, .always⟩,
  ⟨4, 1, .u32, .ro, .any, 0, .always⟩,
  ⟨5, 1, .u32, .ro, .any, 0, .always⟩,
  ⟨6, 1, .u64, .ro, .any, 0, .always⟩,
  ⟨7, 1, .u32, .ro, .any, 0, .always⟩]⟩
def grp3801 : ObjGroup := ⟨0x3801, 0, 1, .always, [
  ⟨0, 1, .u8, .const, .any, 3, .always⟩,
  ⟨1, 1, .i16, .rws, .between (0) 40, 12, .always⟩,
  ⟨2, 1, .i16, .rws, .between (1000) 7000, 6000, .always⟩,
  ⟨3, 1, .i16, .rws, .between (5) 100, 20, .always⟩]⟩
def grp3802 : ObjGroup := ⟨0x3802, 0, 1, .always, [
  ⟨0, 1, .u8, .const, .any, 16, .always⟩,
  ⟨1, 16, .i16, .rws, .between (-10000) 10000, 0, .chainSub⟩]⟩
def grp3803 : ObjGroup := ⟨0x3803, 0, 1, .always, [
  ⟨0, 1, .u8, .const, .any, 16, .always⟩,
  ⟨1, 16, .i16, .rws, .between (-10000) 10000, 0, .chainSub⟩]⟩
def grp3804 : ObjGroup := ⟨0x3804, 0, 1, .always, [
  ⟨0, 1, .u8, .const, .any, 16, .always⟩,
  ⟨1, 16, .i16, .rws, .between (-18000) 17999, 0, .chainSub⟩]⟩
def grp3805 : ObjGroup := ⟨0x3805, 0, 1, .always, [
  ⟨0, 1, .u8, .const, .any, 16, .always⟩,
  ⟨1, 16, .u16, .rws, .between (0) 20000, 0, .chainSub⟩]⟩
def grp3806 : ObjGroup := ⟨0x3806, 0, 1, .always, [
  ⟨0, 1, .u8, .const, .any, 17, .always⟩,
  ⟨1, 16, .i16, .ro, .any, 32768, .chainSub⟩,
  ⟨17, 1, .u32, .ro, .any, 0, .always⟩]⟩
def grp3807 : ObjGroup := ⟨0x3807, 0, 1, .always, [
  ⟨0, 1, .u8, .const, .any, 17, .always⟩,
  ⟨1, 16, .i16, .ro, .any, 32768, .chainSub⟩,
  ⟨17, 1, .u32, .ro, .any, 0, .always⟩]⟩
def grp3808 : ObjGroup := ⟨0x3808, 0, 1, .always, [
  ⟨0, 1, .u8, .const, .any, 17, .always⟩,
  ⟨1, 16, .i16, .ro, .any, 32768, .pairSub⟩,
  ⟨17, 1, .u32, .ro, .any, 0, .always⟩]⟩
def grp3810 : ObjGroup := ⟨0x3810, 1, 4, .quad, [
  ⟨0, 1, .u8, .const, .any, 9, .always⟩,
  ⟨1, 1, .u8, .ro, .any, 0, .always⟩,
  ⟨2, 1, .u8, .ro, .any, 0, .always⟩,
  ⟨3, 1, .u8, .ro, .any, 255, .always⟩,
  ⟨4, 1, .u32, .ro, .any, 0, .always⟩,
  ⟨5, 1, .i16, .ro, .any, 32768, .always⟩,
  ⟨6, 1, .i16, .ro, .any, 32768, .always⟩,
  ⟨7, 1, .u8, .ro, .any, 255, .always⟩,
  ⟨8, 1, .u64, .ro, .any, 0, .always⟩,
  ⟨9, 1, .u32, .ro, .any, 0, .always⟩]⟩
def grp3820 : ObjGroup := ⟨0x3820, 1, 16, .chain, [
  ⟨0, 1, .u8, .const, .any, 8, .always⟩,
  ⟨1, 1, .u8, .ro, .any, 0, .always⟩,
  ⟨2, 1, .i16, .ro, .any, 32768, .always⟩,
  ⟨3, 1, .i16, .ro, .any, 32768, .always⟩,
  ⟨4, 1, .u8, .ro, .any, 0, .always⟩,
  ⟨5, 1, .u16, .ro, .any, 0, .always⟩,
  ⟨6, 1, .u32, .ro, .any, 0, .always⟩,
  ⟨7, 1, .u32, .ro, .any, 0, .always⟩,
  ⟨8, 1, .u32, .ro, .any, 0, .always⟩]⟩
def grp3830 : ObjGroup := ⟨0x3830, 0, 1, .always, [
  ⟨0, 1, .u8, .const, .any, 6, .always⟩,
  ⟨1, 1, .u32, .ro, .any, 0, .always⟩,
  ⟨2, 1, .u32, .ro, .any, 0, .always⟩,
  ⟨3, 1, .u8, .ro, .any, 0, .always⟩,
  ⟨4, 1, .u32, .ro, .any, 0, .always⟩,
  ⟨5, 1, .oct 32, .ro, .any, 0, .always⟩,
  ⟨6, 1, .u32, .ro, .any, 0, .always⟩]⟩
def grp3838 : ObjGroup := ⟨0x3838, 0, 1, .always, [
  ⟨0, 1, .u8, .const, .any, 11, .always⟩,
  ⟨1, 1, .u8, .wo, .any, 0, .always⟩,
  ⟨2, 1, .u32, .rw, .any, 0, .always⟩,
  ⟨3, 1, .i16, .rw, .any, 0, .always⟩,
  ⟨4, 1, .i16, .rw, .any, 0, .always⟩,
  ⟨5, 1, .u8, .ro, .any, 0, .always⟩,
  ⟨6, 1, .u8, .ro, .any, 0, .always⟩,
  ⟨7, 1, .u32, .ro, .any, 0, .always⟩,
  ⟨8, 1, .dom 65536, .ro, .any, 0, .always⟩,
  ⟨9, 1, .dom 65536, .ro, .any, 0, .always⟩,
  ⟨10, 1, .dom 65536, .ro, .any, 0, .always⟩,
  ⟨11, 1, .u32, .ro, .any, 0, .always⟩]⟩
def grp3840 : ObjGroup := ⟨0x3840, 0, 1, .always, [
  ⟨0, 1, .u8, .const, .any, 3, .always⟩,
  ⟨1, 1, .u8, .rw, .oneOf [0, 1, 2, 3, 0xFF], 255, .always⟩,
  ⟨2, 1, .dom 65536, .ro, .any, 0, .always⟩,
  ⟨3, 1, .u32, .ro, .any, 0, .always⟩]⟩
def grp3C00 : ObjGroup := ⟨0x3C00, 0, 1, .hx, [
  ⟨0, 1, .u8, .const, .any, 10, .always⟩,
  ⟨1, 1, .u8, .ro, .any, 0, .always⟩,
  ⟨2, 1, .u8, .ro, .any, 0, .always⟩,
  ⟨3, 1, .u16, .ro, .any, 0, .always⟩,
  ⟨4, 1, .u16, .ro, .any, 0, .always⟩,
  ⟨5, 1, .i16, .ro, .any, 0, .always⟩,
  ⟨6, 1, .u64, .ro, .any, 0, .always⟩,
  ⟨7, 1, .u32, .ro, .any, 0, .always⟩,
  ⟨8, 1, .u32, .ro, .any, 0, .always⟩,
  ⟨9, 1, .u8, .wo, .any, 0, .always⟩,
  ⟨10, 1, .u32, .ro, .any, 0, .always⟩]⟩
def grp3C01 : ObjGroup := ⟨0x3C01, 0, 1, .hx, [
  ⟨0, 1, .u8, .const, .any, 12, .always⟩,
  ⟨1, 1, .bool, .rws, .any, 1, .always⟩,
  ⟨2, 1, .u16, .rws, .hfPower, 200, .always⟩,
  ⟨3, 1, .u8, .rws, .bits 0x7, 7, .always⟩,
  ⟨4, 1, .u8, .rws, .between (0) 3, 3, .always⟩,
  ⟨5, 1, .u8, .rws, .between (0) 3, 3, .always⟩,
  ⟨6, 1, .u8, .rws, .bits 0x3, 1, .always⟩,
  ⟨7, 1, .u8, .rws, .between (0) 1, 0, .always⟩,
  ⟨8, 1, .u32, .rws, .between (5000) 20000, 5100, .always⟩,
  ⟨9, 1, .u8, .rws, .between (0) 3, 2, .always⟩,
  ⟨10, 1, .u16, .rws, .between (50) 10000, 1000, .always⟩,
  ⟨11, 1, .u16, .rws, .between (100) 30000, 5000, .always⟩,
  ⟨12, 1, .u32, .ro, .any, 0, .always⟩]⟩
def grp3C02 : ObjGroup := ⟨0x3C02, 0, 1, .hx, [
  ⟨0, 1, .u8, .const, .any, 13, .always⟩,
  ⟨1, 1, .u16, .rws, .between (100) 1000, 500, .always⟩,
  ⟨2, 1, .i16, .rws, .between (500) 4500, 1500, .always⟩,
  ⟨3, 1, .u16, .rws, .between (10) 500, 50, .always⟩,
  ⟨4, 1, .u16, .rws, .between (600) 5000, 2000, .always⟩,
  ⟨5, 1, .u8, .wo, .any, 0, .always⟩,
  ⟨6, 1, .u8, .ro, .any, 0, .always⟩,
  ⟨7, 1, .u8, .ro, .any, 0, .always⟩,
  ⟨8, 1, .i16, .ro, .any, 32768, .always⟩,
  ⟨9, 1, .u16, .ro, .any, 0, .always⟩,
  ⟨10, 1, .u32, .ro, .any, 0, .always⟩,
  ⟨11, 1, .i16, .ro, .any, 0, .always⟩,
  ⟨12, 1, .u64, .ro, .any, 0, .always⟩,
  ⟨13, 1, .u32, .ro, .any, 0, .always⟩]⟩
def grp3C03 : ObjGroup := ⟨0x3C03, 0, 1, .hx, [
  ⟨0, 1, .u8, .const, .any, 11, .always⟩,
  ⟨1, 1, .u8, .wo, .any, 0, .always⟩,
  ⟨2, 1, .u8, .rw, .any, 0, .always⟩,
  ⟨3, 1, .dom 1024, .rw, .any, 0, .always⟩,
  ⟨4, 1, .u8, .ro, .any, 0, .always⟩,
  ⟨5, 1, .u8, .ro, .any, 0, .always⟩,
  ⟨6, 1, .u8, .ro, .any, 0, .always⟩,
  ⟨7, 1, .dom 65536, .ro, .any, 0, .always⟩,
  ⟨8, 1, .u8, .ro, .any, 0, .always⟩,
  ⟨9, 1, .dom 65536, .ro, .any, 0, .always⟩,
  ⟨10, 1, .u32, .ro, .any, 0, .always⟩,
  ⟨11, 1, .u32, .ro, .any, 0, .always⟩]⟩
def grp3C04 : ObjGroup := ⟨0x3C04, 0, 1, .hx, [
  ⟨0, 1, .u8, .const, .any, 12, .always⟩,
  ⟨1, 1, .u16, .rws, .between (20) 1000, 100, .always⟩,
  ⟨2, 1, .u16, .rws, .between (10) 100, 20, .always⟩,
  ⟨3, 1, .u16, .rws, .between (5) 500, 30, .always⟩,
  ⟨4, 1, .i16, .rws, .between (20) 3000, 200, .always⟩,
  ⟨5, 1, .u8, .rws, .bits 0x7, 7, .always⟩,
  ⟨6, 1, .u8, .rws, .between (0) 50, 5, .always⟩,
  ⟨7, 1, .u8, .ro, .any, 0, .always⟩,
  ⟨8, 1, .u16, .ro, .any, 100, .always⟩,
  ⟨9, 1, .u32, .ro, .any, 0, .always⟩,
  ⟨10, 1, .u32, .ro, .any, 0, .always⟩,
  ⟨11, 1, .u32, .ro, .any, 0, .always⟩,
  ⟨12, 1, .u32, .ro, .any, 0, .always⟩]⟩
def grp4000 : ObjGroup := ⟨0x4000, 0, 1, .always, [
  ⟨0, 1, .u8, .const, .any, 5, .always⟩,
  ⟨1, 1, .u32, .rws, .between (500) 5000, 1500, .always⟩,
  ⟨2, 1, .u32, .rws, .between (1000) 20000, 20000, .always⟩,
  ⟨3, 1, .u32, .rws, .between (0) 20000, 2000, .always⟩,
  ⟨4, 1, .dom 64, .rws, .any, 0, .always⟩,
  ⟨5, 1, .u32, .ro, .any, 0, .always⟩]⟩
def grp4004 : ObjGroup := ⟨0x4004, 1, 4, .quad, [
  ⟨0, 1, .u8, .const, .any, 17, .always⟩,
  ⟨1, 1, .u8, .ro, .any, 0, .always⟩,
  ⟨2, 1, .u8, .ro, .any, 255, .always⟩,
  ⟨3, 1, .u8, .ro, .any, 255, .always⟩,
  ⟨4, 1, .u8, .ro, .any, 0, .always⟩,
  ⟨5, 1, .u16, .ro, .any, 0, .always⟩,
  ⟨6, 1, .u32, .ro, .any, 0, .always⟩,
  ⟨7, 1, .u32, .ro, .any, 0, .always⟩,
  ⟨8, 1, .u32, .ro, .any, 0, .always⟩,
  ⟨9, 1, .u32, .ro, .any, 0, .always⟩,
  ⟨10, 1, .u32, .ro, .any, 0, .always⟩,
  ⟨11, 1, .u32, .ro, .any, 0, .always⟩,
  ⟨12, 1, .u32, .ro, .any, 0, .always⟩,
  ⟨13, 1, .u8, .ro, .any, 0, .always⟩,
  ⟨14, 1, .u8, .ro, .any, 0, .always⟩,
  ⟨15, 1, .u32, .ro, .any, 0, .always⟩,
  ⟨16, 1, .u64, .ro, .any, 0, .always⟩,
  ⟨17, 1, .u32, .ro, .any, 0, .always⟩]⟩
def grp4010 : ObjGroup := ⟨0x4010, 1, 8, .always, [
  ⟨0, 1, .u8, .const, .any, 30, .always⟩,
  ⟨1, 1, .u16, .rws, .oneOf [6250, 12500, 25000], 0, .always⟩,
  ⟨2, 1, .u8, .rws, .between (150) 200, 0, .always⟩,
  ⟨3, 1, .u8, .rws, .between (27) 52, 50, .always⟩,
  ⟨4, 1, .u8, .rws, .between (0) 1, 0, .always⟩,
  ⟨5, 1, .u8, .rws, .between (80) 100, 90, .always⟩,
  ⟨6, 1, .u8, .rws, .between (0) 1, 0, .always⟩,
  ⟨7, 1, .u16, .rws, .between (40) 640, 0, .always⟩,
  ⟨8, 1, .u8, .rws, .oneOf [1, 2, 4, 8], 0, .always⟩,
  ⟨9, 1, .bool, .rws, .any, 0, .always⟩,
  ⟨10, 1, .u8, .rws, .between (0) 3, 0, .always⟩,
  ⟨11, 1, .u8, .rws, .between (0) 2, 0, .always⟩,
  ⟨12, 1, .u8, .rws, .between (0) 2, 0, .always⟩,
  ⟨13, 1, .u8, .rws, .between (0) 15, 0, .always⟩,
  ⟨14, 1, .u8, .rws, .between (0) 15, 0, .always⟩,
  ⟨15, 1, .u8, .rws, .between (0) 15, 0, .always⟩,
  ⟨16, 1, .u8, .rws, .between (10) 50, 30, .always⟩,
  ⟨17, 1, .u8, .rws, .between (1) 32, 4, .always⟩,
  ⟨18, 1, .u16, .rws, .between (16) 4096, 0, .always⟩,
  ⟨19, 1, .u8, .rws, .between (3) 12, 3, .always⟩,
  ⟨20, 1, .u8, .rws, .between (0) 3, 0, .always⟩,
  ⟨21, 1, .u16, .rws, .any, 0, .always⟩,
  ⟨22, 1, .bool, .rws, .any, 1, .always⟩,
  ⟨23, 1, .bool, .rws, .any, 0, .always⟩,
  ⟨24, 1, .u32, .ro, .any, 0, .always⟩,
  ⟨25, 1, .u32, .ro, .any, 0, .always⟩,
  ⟨26, 1, .u32, .ro, .any, 0, .always⟩,
  ⟨27, 1, .u32, .ro, .any, 0, .always⟩,
  ⟨28, 1, .u32, .ro, .any, 0, .always⟩,
  ⟨29, 1, .u32, .ro, .any, 0, .always⟩,
  ⟨30, 1, .u32, .ro, .any, 0, .always⟩]⟩
def grp4040 : ObjGroup := ⟨0x4040, 1, 16, .always, [
  ⟨0, 1, .u8, .const, .any, 8, .always⟩,
  ⟨1, 1, .bool, .rws, .any, 0, .always⟩,
  ⟨2, 1, .u8, .rws, .between (0) 4, 4, .always⟩,
  ⟨3, 1, .u8, .rws, .between (0) 7, 0, .always⟩,
  ⟨4, 1, .u8, .rws, .between (1) 3, 1, .always⟩,
  ⟨5, 1, .u32, .rws, .any, 32, .always⟩,
  ⟨6, 1, .u8, .rws, .any, 0, .always⟩,
  ⟨7, 1, .oct 32, .rws, .any, 0, .always⟩,
  ⟨8, 1, .u32, .ro, .any, 0, .always⟩]⟩
def grp4080 : ObjGroup := ⟨0x4080, 1, 16, .always, [
  ⟨0, 1, .u8, .const, .any, 18, .always⟩,
  ⟨1, 1, .u8, .rws, .opCode, 0, .always⟩,
  ⟨2, 1, .u8, .rws, .zoneOrAny, 255, .always⟩,
  ⟨3, 1, .u8, .rws, .between (0) 32, 0, .always⟩,
  ⟨4, 1, .u32, .rws, .any, 0, .always⟩,
  ⟨5, 1, .u8, .rws, .between (0) 1, 0, .always⟩,
  ⟨6, 1, .bool, .rws, .any, 0, .always⟩,
  ⟨7, 1, .u8, .rws, .between (0) 3, 3, .always⟩,
  ⟨8, 1, .u32, .rws, .any, 0, .always⟩,
  ⟨9, 1, .u8, .rws, .any, 1, .always⟩,
  ⟨10, 1, .dom 128, .rws, .any, 0, .always⟩,
  ⟨11, 1, .u8, .rws, .between (0) 3, 1, .always⟩,
  ⟨12, 1, .bool, .rws, .any, 0, .always⟩,
  ⟨13, 1, .u32, .wo, .any, 0, .always⟩,
  ⟨14, 1, .u32, .wo, .any, 0, .always⟩,
  ⟨15, 1, .u8, .wo, .any, 0, .always⟩,
  ⟨16, 1, .u8, .ro, .any, 0, .always⟩,
  ⟨17, 1, .u32, .ro, .any, 0, .always⟩,
  ⟨18, 1, .u32, .ro, .any, 0, .always⟩]⟩
def grp4100 : ObjGroup := ⟨0x4100, 0, 1, .always, [
  ⟨0, 1, .u8, .const, .any, 5, .always⟩,
  ⟨1, 1, .u8, .ro, .any, 0, .always⟩,
  ⟨2, 1, .dom 65536, .ro, .any, 0, .always⟩,
  ⟨3, 1, .u32, .wo, .any, 0, .always⟩,
  ⟨4, 1, .u32, .ro, .any, 0, .always⟩,
  ⟨5, 1, .u32, .ro, .any, 0, .always⟩]⟩
def grp4110 : ObjGroup := ⟨0x4110, 1, 16, .always, [
  ⟨0, 1, .u8, .const, .any, 11, .always⟩,
  ⟨1, 1, .bool, .rws, .any, 0, .always⟩,
  ⟨2, 1, .u8, .rws, .between (0) 15, 0, .always⟩,
  ⟨3, 1, .u32, .rws, .any, 0, .always⟩,
  ⟨4, 1, .u8, .rws, .between (0) 63, 0, .always⟩,
  ⟨5, 1, .u16, .rws, .any, 65535, .always⟩,
  ⟨6, 1, .u16, .rws, .any, 0, .always⟩,
  ⟨7, 1, .u16, .rws, .any, 65535, .always⟩,
  ⟨8, 1, .u16, .ro, .any, 0, .always⟩,
  ⟨9, 1, .u8, .ro, .any, 0, .always⟩,
  ⟨10, 1, .u64, .ro, .any, 0, .always⟩,
  ⟨11, 1, .u32, .ro, .any, 0, .always⟩]⟩
def grp4400 : ObjGroup := ⟨0x4400, 0, 1, .always, [
  ⟨0, 1, .u8, .const, .any, 11, .always⟩,
  ⟨1, 1, .bool, .rws, .any, 0, .always⟩,
  ⟨2, 1, .u32, .rws, .any, 0, .always⟩,
  ⟨3, 1, .i32, .rws, .between (-1000000) 1000000, 0, .always⟩,
  ⟨4, 1, .i32, .rws, .between (-1000000) 1000000, 0, .always⟩,
  ⟨5, 1, .i32, .rws, .between (1000) 100000, 8000, .always⟩,
  ⟨6, 1, .i16, .rws, .between (-18000) 17999, 0, .always⟩,
  ⟨7, 1, .i16, .rws, .between (-9000) 9000, 0, .always⟩,
  ⟨8, 1, .i16, .rws, .between (-18000) 17999, 0, .always⟩,
  ⟨9, 1, .u8, .rws, .between (0) 1, 0, .always⟩,
  ⟨10, 1, .u8, .rws, .between (0) 7, 7, .always⟩,
  ⟨11, 1, .u32, .ro, .any, 0, .always⟩]⟩
def grp4401 : ObjGroup := ⟨0x4401, 0, 1, .always, [
  ⟨0, 1, .u8, .const, .any, 10, .always⟩,
  ⟨1, 1, .u8, .rws, .between (4) 16, 6, .always⟩,
  ⟨2, 1, .i16, .rws, .between (0) 80, 24, .always⟩,
  ⟨3, 1, .u16, .rws, .between (200) 5000, 1000, .always⟩,
  ⟨4, 1, .u16, .rws, .between (0) 2000, 500, .always⟩,
  ⟨5, 1, .i32, .rws, .between (1000) 150000, 40000, .always⟩,
  ⟨6, 1, .u16, .rws, .between (200) 30000, 1500, .always⟩,
  ⟨7, 1, .u8, .rws, .between (1) 50, 3, .always⟩,
  ⟨8, 1, .u16, .rws, .between (0) 2000, 300, .always⟩,
  ⟨9, 1, .u16, .rws, .between (10) 3600, 60, .always⟩,
  ⟨10, 1, .u32, .ro, .any, 0, .always⟩]⟩
def grp4402 : ObjGroup := ⟨0x4402, 0, 1, .always, [
  ⟨0, 1, .u8, .const, .any, 12, .always⟩,
  ⟨1, 1, .bool, .ro, .any, 0, .always⟩,
  ⟨2, 1, .i32, .ro, .any, 0, .always⟩,
  ⟨3, 1, .u64, .ro, .any, 0, .always⟩,
  ⟨4, 1, .u64, .ro, .any, 0, .always⟩,
  ⟨5, 1, .u32, .ro, .any, 0, .always⟩,
  ⟨6, 1, .u32, .ro, .any, 0, .always⟩,
  ⟨7, 1, .u32, .ro, .any, 0, .always⟩,
  ⟨8, 1, .u16, .ro, .any, 0, .always⟩,
  ⟨9, 1, .u16, .const, .any, 0, .always⟩,
  ⟨10, 1, .u32, .ro, .any, 0, .always⟩,
  ⟨11, 1, .u32, .ro, .any, 0, .always⟩,
  ⟨12, 1, .u32, .ro, .any, 0, .always⟩]⟩
def grp4410 : ObjGroup := ⟨0x4410, 1, 8, .always, [
  ⟨0, 1, .u8, .const, .any, 5, .always⟩,
  ⟨1, 1, .bool, .rws, .any, 0, .always⟩,
  ⟨2, 1, .i32, .rws, .between (0) 5000, 1200, .always⟩,
  ⟨3, 1, .u8, .rws, .between (0) 32, 0, .always⟩,
  ⟨4, 1, .u32, .rws, .any, 0, .always⟩,
  ⟨5, 1, .u32, .ro, .any, 0, .always⟩]⟩
def grp4420 : ObjGroup := ⟨0x4420, 1, 16, .always, [
  ⟨0, 1, .u8, .const, .any, 11, .always⟩,
  ⟨1, 1, .bool, .rws, .any, 0, .always⟩,
  ⟨2, 1, .i32, .rws, .between (-1000000) 1000000, 0, .always⟩,
  ⟨3, 1, .i32, .rws, .between (-1000000) 1000000, 0, .always⟩,
  ⟨4, 1, .i32, .rws, .between (-1000000) 1000000, 0, .always⟩,
  ⟨5, 1, .i32, .rws, .between (-1000000) 1000000, 0, .always⟩,
  ⟨6, 1, .i32, .rws, .between (-1000000) 1000000, 0, .always⟩,
  ⟨7, 1, .i32, .rws, .between (-1000000) 1000000, 0, .always⟩,
  ⟨8, 1, .i32, .rws, .between (-1000000) 1000000, 0, .always⟩,
  ⟨9, 1, .i32, .rws, .between (-1000000) 1000000, 0, .always⟩,
  ⟨10, 1, .i16, .rws, .between (-18000) 17999, 0, .always⟩,
  ⟨11, 1, .u32, .ro, .any, 0, .always⟩]⟩
def grp4440 : ObjGroup := ⟨0x4440, 0, 1, .always, [
  ⟨0, 1, .u8, .const, .any, 11, .always⟩,
  ⟨1, 1, .u64, .ro, .any, 0, .always⟩,
  ⟨2, 1, .u32, .ro, .any, 0, .always⟩,
  ⟨3, 1, .i16, .ro, .any, 32768, .always⟩,
  ⟨4, 1, .i16, .ro, .any, 32768, .always⟩,
  ⟨5, 1, .i32, .ro, .any, 4294967295, .always⟩,
  ⟨6, 1, .i32, .ro, .any, 0, .always⟩,
  ⟨7, 1, .i32, .ro, .any, 0, .always⟩,
  ⟨8, 1, .u8, .ro, .any, 0, .always⟩,
  ⟨9, 1, .u8, .ro, .any, 255, .always⟩,
  ⟨10, 1, .u16, .ro, .any, 0, .always⟩,
  ⟨11, 1, .u32, .ro, .any, 0, .always⟩]⟩
def grp4441 : ObjGroup := ⟨0x4441, 0, 1, .always, [
  ⟨0, 1, .u8, .const, .any, 12, .always⟩,
  ⟨1, 1, .u32, .ro, .any, 0, .always⟩,
  ⟨2, 1, .u8, .ro, .any, 0, .always⟩,
  ⟨3, 1, .u8, .ro, .any, 0, .always⟩,
  ⟨4, 1, .u8, .ro, .any, 0, .always⟩,
  ⟨5, 1, .u8, .ro, .any, 0, .always⟩,
  ⟨6, 1, .u64, .ro, .any, 0, .always⟩,
  ⟨7, 1, .u64, .ro, .any, 0, .always⟩,
  ⟨8, 1, .i16, .ro, .any, 0, .always⟩,
  ⟨9, 1, .u16, .ro, .any, 0, .always⟩,
  ⟨10, 1, .u16, .ro, .any, 0, .always⟩,
  ⟨11, 1, .u8, .ro, .any, 0, .always⟩,
  ⟨12, 1, .u32, .ro, .any, 0, .always⟩]⟩
def grp4450 : ObjGroup := ⟨0x4450, 1, 16, .always, [
  ⟨0, 1, .u8, .const, .any, 8, .always⟩,
  ⟨1, 1, .u16, .ro, .any, 0, .always⟩,
  ⟨2, 1, .u16, .ro, .any, 0, .always⟩,
  ⟨3, 1, .u16, .ro, .any, 0, .always⟩,
  ⟨4, 1, .i16, .ro, .any, 32768, .always⟩,
  ⟨5, 1, .i16, .ro, .any, 32768, .always⟩,
  ⟨6, 1, .i16, .ro, .any, 32768, .always⟩,
  ⟨7, 1, .u16, .ro, .any, 0, .always⟩,
  ⟨8, 1, .u32, .ro, .any, 0, .always⟩]⟩
def grp4460 : ObjGroup := ⟨0x4460, 0, 1, .always, [
  ⟨0, 1, .u8, .const, .any, 8, .always⟩,
  ⟨1, 1, .u32, .ro, .any, 0, .always⟩,
  ⟨2, 1, .u64, .ro, .any, 0, .always⟩,
  ⟨3, 1, .u64, .ro, .any, 0, .always⟩,
  ⟨4, 1, .u16, .ro, .any, 0, .always⟩,
  ⟨5, 1, .u16, .ro, .any, 0, .always⟩,
  ⟨6, 1, .u16, .ro, .any, 0, .always⟩,
  ⟨7, 1, .u8, .ro, .any, 0, .always⟩,
  ⟨8, 1, .u32, .ro, .any, 0, .always⟩]⟩
def grp4800 : ObjGroup := ⟨0x4800, 0, 1, .always, [
  ⟨0, 1, .u8, .const, .any, 6, .always⟩,
  ⟨1, 1, .u16, .rws, .between (100) 10000, 1000, .always⟩,
  ⟨2, 1, .u16, .rws, .packetMax, 512, .always⟩,
  ⟨3, 1, .u16, .rws, .between (1) 1000, 50, .always⟩,
  ⟨4, 1, .u16, .rws, .ringMib, 0, .always⟩,
  ⟨5, 1, .u8, .rws, .between (50) 95, 80, .always⟩,
  ⟨6, 1, .u32, .ro, .any, 0, .always⟩]⟩
def grp4801 : ObjGroup := ⟨0x4801, 0, 1, .always, [
  ⟨0, 1, .u8, .const, .any, 7, .always⟩,
  ⟨1, 1, .u32, .const, .any, 0, .always⟩,
  ⟨2, 1, .u32, .ro, .any, 0, .always⟩,
  ⟨3, 1, .u32, .ro, .any, 0, .always⟩,
  ⟨4, 1, .u32, .ro, .any, 0, .always⟩,
  ⟨5, 1, .u32, .rw, .dictIndex, 0, .always⟩,
  ⟨6, 1, .oct 64, .ro, .any, 0, .always⟩,
  ⟨7, 1, .u32, .ro, .any, 0, .always⟩]⟩
def grp4802 : ObjGroup := ⟨0x4802, 0, 1, .always, [
  ⟨0, 1, .u8, .const, .any, 5, .always⟩,
  ⟨1, 1, .u64, .rw, .any, 0, .always⟩,
  ⟨2, 1, .dom 65536, .ro, .any, 0, .always⟩,
  ⟨3, 1, .u64, .ro, .any, 0, .always⟩,
  ⟨4, 1, .u64, .ro, .any, 0, .always⟩,
  ⟨5, 1, .u32, .ro, .any, 0, .always⟩]⟩
def grp4810 : ObjGroup := ⟨0x4810, 1, 3, .always, [
  ⟨0, 1, .u8, .const, .any, 12, .always⟩,
  ⟨1, 1, .bool, .rws, .any, 0, .always⟩,
  ⟨2, 1, .u8, .rws, .between (0) 3, 0, .always⟩,
  ⟨3, 1, .u32, .rws, .any, 4294967295, .always⟩,
  ⟨4, 1, .u8, .rws, .between (0) 3, 0, .always⟩,
  ⟨5, 1, .u8, .rws, .between (0) 3, 3, .always⟩,
  ⟨6, 1, .u32, .rws, .any, 4096, .always⟩,
  ⟨7, 1, .u32, .rws, .any, 512, .always⟩,
  ⟨8, 1, .u8, .rws, .between (1) 255, 10, .always⟩,
  ⟨9, 1, .u32, .rws, .any, 0, .always⟩,
  ⟨10, 1, .u32, .rws, .any, 64, .always⟩,
  ⟨11, 1, .u32, .rws, .any, 2048, .always⟩,
  ⟨12, 1, .u32, .ro, .any, 0, .always⟩]⟩
def grp4820 : ObjGroup := ⟨0x4820, 1, 3, .always, [
  ⟨0, 1, .u8, .const, .any, 13, .always⟩,
  ⟨1, 1, .u8, .ro, .any, 0, .always⟩,
  ⟨2, 1, .u32, .ro, .any, 0, .always⟩,
  ⟨3, 1, .u32, .wo, .any, 0, .always⟩,
  ⟨4, 1, .u32, .ro, .any, 0, .always⟩,
  ⟨5, 1, .bool, .ro, .any, 0, .always⟩,
  ⟨6, 1, .u8, .wo, .any, 0, .always⟩,
  ⟨7, 1, .u32, .ro, .any, 0, .always⟩,
  ⟨8, 1, .u32, .ro, .any, 0, .always⟩,
  ⟨9, 1, .oct 16, .ro, .any, 0, .always⟩,
  ⟨10, 1, .dom 65536, .ro, .any, 0, .always⟩,
  ⟨11, 1, .u32, .wo, .any, 0, .always⟩,
  ⟨12, 1, .u32, .ro, .any, 0, .always⟩,
  ⟨13, 1, .u32, .ro, .any, 0, .always⟩]⟩
def grp4830 : ObjGroup := ⟨0x4830, 1, 3, .always, [
  ⟨0, 1, .u8, .const, .any, 13, .always⟩,
  ⟨1, 1, .u32, .ro, .any, 0, .always⟩,
  ⟨2, 1, .u32, .ro, .any, 0, .always⟩,
  ⟨3, 1, .u32, .ro, .any, 0, .always⟩,
  ⟨4, 1, .u32, .ro, .any, 0, .always⟩,
  ⟨5, 1, .u32, .ro, .any, 0, .always⟩,
  ⟨6, 1, .u32, .ro, .any, 0, .always⟩,
  ⟨7, 1, .u32, .ro, .any, 0, .always⟩,
  ⟨8, 1, .u32, .ro, .any, 0, .always⟩,
  ⟨9, 1, .u32, .ro, .any, 0, .always⟩,
  ⟨10, 1, .u32, .ro, .any, 0, .always⟩,
  ⟨11, 1, .u32, .ro, .any, 0, .always⟩,
  ⟨12, 1, .u32, .ro, .any, 0, .always⟩,
  ⟨13, 1, .u32, .ro, .any, 0, .always⟩]⟩
def grp4840 : ObjGroup := ⟨0x4840, 1, 3, .always, [
  ⟨0, 1, .u8, .const, .any, 16, .always⟩,
  ⟨1, 8, .u32, .ro, .any, 0, .always⟩,
  ⟨9, 1, .u8, .ro, .any, 0, .always⟩,
  ⟨10, 1, .u8, .ro, .any, 0, .always⟩,
  ⟨11, 1, .u8, .wo, .any, 0, .always⟩,
  ⟨12, 1, .u8, .wo, .any, 0, .always⟩,
  ⟨13, 1, .u8, .wo, .any, 0, .always⟩,
  ⟨14, 1, .bool, .ro, .any, 0, .always⟩,
  ⟨15, 1, .u32, .ro, .any, 0, .always⟩,
  ⟨16, 1, .u32, .ro, .any, 0, .always⟩]⟩
def grp4C00 : ObjGroup := ⟨0x4C00, 0, 1, .always, [
  ⟨0, 1, .u8, .const, .any, 14, .always⟩,
  ⟨1, 1, .u16, .rws, .between (20) 1000, 100, .always⟩,
  ⟨2, 1, .u16, .rws, .between (1) 100, 5, .always⟩,
  ⟨3, 1, .u16, .rws, .between (10) 3900, 200, .always⟩,
  ⟨4, 1, .bool, .rws, .any, 1, .always⟩,
  ⟨5, 1, .u16, .rws, .between (40) 1000, 100, .always⟩,
  ⟨6, 1, .u8, .rws, .oneOf [0, 4, 8, 12], 12, .always⟩,
  ⟨7, 1, .u16, .rws, .between (50) 2000, 300, .always⟩,
  ⟨8, 1, .i16, .rws, .between (-400) 1250, 850, .always⟩,
  ⟨9, 1, .i16, .rws, .between (1000) 1450, 1350, .always⟩,
  ⟨10, 1, .i16, .rws, .between (10) 200, 50, .always⟩,
  ⟨11, 1, .i16, .rws, .between (0) 108, 24, .always⟩,
  ⟨12, 1, .u8, .rws, .between (0) 4, 0, .always⟩,
  ⟨13, 1, .u8, .rws, .bits 0xF, 0, .always⟩,
  ⟨14, 1, .u32, .ro, .any, 0, .always⟩]⟩
def grp4C01 : ObjGroup := ⟨0x4C01, 0, 1, .always, [
  ⟨0, 1, .u8, .const, .any, 4, .always⟩,
  ⟨1, 1, .u16, .rws, .hotRing, 0, .always⟩,
  ⟨2, 1, .u8, .rws, .between (0) 1, 0, .always⟩,
  ⟨3, 1, .u16, .const, .any, 0, .always⟩,
  ⟨4, 1, .u32, .ro, .any, 0, .always⟩]⟩
def grp4C02 : ObjGroup := ⟨0x4C02, 0, 1, .always, [
  ⟨0, 1, .u8, .const, .any, 14, .always⟩,
  ⟨1, 1, .u32, .ro, .any, 0, .always⟩,
  ⟨2, 1, .u64, .ro, .any, 0, .always⟩,
  ⟨3, 1, .u8, .ro, .any, 0, .always⟩,
  ⟨4, 1, .u16, .ro, .any, 0, .always⟩,
  ⟨5, 1, .u16, .ro, .any, 0, .always⟩,
  ⟨6, 1, .u16, .ro, .any, 1024, .always⟩,
  ⟨7, 1, .u8, .ro, .any, 0, .always⟩,
  ⟨8, 1, .u8, .ro, .any, 0, .always⟩,
  ⟨9, 1, .u32, .ro, .any, 0, .always⟩,
  ⟨10, 1, .u32, .ro, .any, 0, .always⟩,
  ⟨11, 1, .u32, .ro, .any, 0, .always⟩,
  ⟨12, 1, .u32, .ro, .any, 0, .always⟩,
  ⟨13, 1, .dom 65536, .ro, .any, 0, .always⟩,
  ⟨14, 1, .u32, .ro, .any, 0, .always⟩]⟩
def grp4C03 : ObjGroup := ⟨0x4C03, 0, 1, .always, [
  ⟨0, 1, .u8, .const, .any, 5, .always⟩,
  ⟨1, 1, .u32, .ro, .any, 0, .always⟩,
  ⟨2, 1, .u32, .ro, .any, 0, .always⟩,
  ⟨3, 1, .u32, .ro, .any, 0, .always⟩,
  ⟨4, 1, .u32, .ro, .any, 0, .always⟩,
  ⟨5, 1, .u32, .ro, .any, 0, .always⟩]⟩
def grp4C20 : ObjGroup := ⟨0x4C20, 1, 32, .always, [
  ⟨0, 1, .u8, .const, .any, 24, .always⟩,
  ⟨1, 1, .bool, .rws, .any, 0, .always⟩,
  ⟨2, 1, .u8, .rws, .between (0) 7, 0, .always⟩,
  ⟨3, 1, .u8, .rws, .between (0) 7, 4, .always⟩,
  ⟨4, 1, .u8, .rws, .between (1) 100, 10, .always⟩,
  ⟨5, 1, .u8, .rws, .oneOf [0, 1, 2, 3, 0xFF], 255, .always⟩,
  ⟨6, 1, .i16, .rws, .between (-40) 68, 68, .always⟩,
  ⟨7, 1, .i16, .rws, .any, 0, .always⟩,
  ⟨8, 1, .i16, .rws, .any, 0, .always⟩,
  ⟨9, 1, .u8, .rws, .between (1) 2, 1, .always⟩,
  ⟨10, 1, .u8, .rws, .between (0) 1, 0, .always⟩,
  ⟨11, 1, .u8, .rws, .between (1) 4, 1, .always⟩,
  ⟨12, 4, .i16, .rws, .any, 0, .always⟩,
  ⟨16, 4, .i16, .rws, .any, 0, .always⟩,
  ⟨20, 1, .u64, .rws, .any, 0, .always⟩,
  ⟨21, 1, .u16, .rws, .any, 0, .always⟩,
  ⟨22, 1, .u32, .rws, .between (0) 3600000, 0, .always⟩,
  ⟨24, 1, .u32, .ro, .any, 0, .always⟩]⟩
def grp4C40 : ObjGroup := ⟨0x4C40, 1, 32, .always, [
  ⟨0, 1, .u8, .const, .any, 7, .always⟩,
  ⟨1, 1, .u8, .ro, .any, 0, .always⟩,
  ⟨2, 1, .u8, .ro, .any, 255, .always⟩,
  ⟨3, 1, .u16, .ro, .any, 0, .always⟩,
  ⟨4, 1, .u16, .ro, .any, 0, .always⟩,
  ⟨5, 1, .u32, .ro, .any, 0, .always⟩,
  ⟨6, 1, .u8, .ro, .any, 0, .always⟩,
  ⟨7, 1, .u32, .ro, .any, 0, .always⟩]⟩

def objGroups0 : List ObjGroup := [grp1000, grp1001, grp1005, grp1008, grp100A, grp1012, grp1014, grp1015, grp1017, grp1018, grp1400, grp1600, grp1800, grp1801, grp1A00, grp1A01, grp2000, grp2001, grp2002, grp2003, grp2004, grp2005, grp2006, grp2010]

def objGroups1 : List ObjGroup := [grp2011, grp2012, grp2100, grp2101, grp2102, grp2103, grp2104, grp2105, grp2106, grp2200, grp2201, grp2202, grp2203, grp2210, grp2300, grp2310, grp2320, grp2400, grp2401, grp2402, grp2403, grp2404, grp2405, grp2406]

def objGroups2 : List ObjGroup := [grp2500, grp2508, grp2510, grp2520, grp2530, grp2540, grp2550, grp2600, grp2601, grp2602, grp2700, grp2701, grp2702, grp2703, grp2704, grp2800, grp2801, grp2802, grp2803, grp2804, grp2805, grp2900, grp2901, grp2902]

def objGroups3 : List ObjGroup := [grp2903, grp2904, grp3000, grp3001, grp3002, grp3003, grp3100, grp3101, grp3102, grp3103, grp3104, grp3105, grp3800, grp3801, grp3802, grp3803, grp3804, grp3805, grp3806, grp3807, grp3808, grp3810, grp3820, grp3830]

def objGroups4 : List ObjGroup := [grp3838, grp3840, grp3C00, grp3C01, grp3C02, grp3C03, grp3C04, grp4000, grp4004, grp4010, grp4040, grp4080, grp4100, grp4110, grp4400, grp4401, grp4402, grp4410, grp4420, grp4440, grp4441, grp4450, grp4460, grp4800]

def objGroups5 : List ObjGroup := [grp4801, grp4802, grp4810, grp4820, grp4830, grp4840, grp4C00, grp4C01, grp4C02, grp4C03, grp4C20, grp4C40]

/-- Every index the chapters define, in ascending order of base index. -/
def objGroups : List ObjGroup :=
  objGroups0 ++ objGroups1 ++ objGroups2 ++ objGroups3 ++ objGroups4 ++ objGroups5

/-- The part of `objGroups` that holds every group with an index, so that a lookup passes over few rows. -/
def objGroupsNear (idx : Nat) : List ObjGroup :=
  if idx < 0x2011 then objGroups0
  else if idx < 0x2500 then objGroups1
  else if idx < 0x2903 then objGroups2
  else if idx < 0x3838 then objGroups3
  else if idx < 0x4801 then objGroups4
  else objGroups5

end Sys2Proof.Machine
end

