-- ==== Sys2Proof/Machine/Operands.lean ====
section
/-! DEFINITION. How values are carried: little-endian bytes (R10), two's complement (R13), bit masks, and the check
values of Table 15.2 (R509). -/

namespace Sys2Proof.Machine

/-- The `n` bytes of `v`, lowest first (R10). -/
def leBytes : Nat → Nat → Bytes
  | 0, _ => []
  | n + 1, v => BitVec.ofNat 8 v :: leBytes n (v / 256)

/-- The value of little-endian bytes (R10). -/
def leNat : Bytes → Nat
  | [] => 0
  | b :: bs => b.toNat + 256 * leNat bs

/-- The two's complement value of the low `w` bits (R13). -/
def toInt (w v : Nat) : Int :=
  let m := v % 2 ^ w
  if m < 2 ^ (w - 1) then (m : Int) else (m : Int) - (2 ^ w : Nat)

/-- The `w`-bit two's complement pattern of an integer (R13). -/
def ofInt (w : Nat) (i : Int) : Nat := (i % (2 ^ w : Nat)).toNat

/-- An integer held to the range of a `w`-bit two's complement value. -/
def satI (w : Nat) (i : Int) : Int :=
  max (-(2 ^ (w - 1) : Nat)) (min i ((2 ^ (w - 1) : Nat) - 1))

/-- A natural number held to `w` bits. -/
def satN (w n : Nat) : Nat := min n (2 ^ w - 1)

/-- Whether bit `i` of `v` is set. -/
def bit (v i : Nat) : Bool := v.testBit i

/-- `v` with bit `i` set. -/
def setBit (v i : Nat) : Nat := v ||| 2 ^ i

/-- `v` with bit `i` cleared. -/
def clrBit (v i : Nat) : Nat := if v.testBit i then v - 2 ^ i else v

/-- `v` with bit `i` put to `b`. -/
def putBit (v i : Nat) (b : Bool) : Nat := if b then setBit v i else clrBit v i

/-- `v` with every bit of `m` cleared. -/
def clrMask (v m : Nat) : Nat := v - (v &&& m)

/-- A BOOL's byte (R13). -/
def ofBool (b : Bool) : Nat := if b then 1 else 0

/-- The numbers below `n` whose bit is set in `v`, in ascending order. -/
def bitsOf (n v : Nat) : List Nat := (List.range n).filter v.testBit

/-- How many of the low `n` bits are set. -/
def popcount (n v : Nat) : Nat := (bitsOf n v).length

/-- A mask with the bits of a list set. -/
def maskOf (l : List Nat) : Nat := l.foldl setBit 0

/-- Bytes of a U8 list literal. -/
def bytes (l : List Nat) : Bytes := l.map (BitVec.ofNat 8)

/-- A block brought to exactly `n` bytes, padded with 0x00. -/
def padTo (n : Nat) (b : Bytes) : Bytes := (b ++ List.replicate n 0#8).take n

/-- The `n` bytes of a block from offset `o`, fewer where the block ends. -/
def slice (b : Bytes) (o n : Nat) : Bytes := (b.drop o).take n

/-- The little-endian value of the `n` bytes at offset `o`. -/
def field (b : Bytes) (o n : Nat) : Nat := leNat (slice b o n)

/-- A block with the bytes at offset `o` replaced; the block grows with 0x00 where it is shorter. -/
def splice (b : Bytes) (o : Nat) (d : Bytes) : Bytes :=
  padTo o b ++ d ++ b.drop (o + d.length)

/-! ### Exact rounding -/

/-- Division rounded to nearest, a half away from zero, of an integer by a positive number. -/
def roundDiv (a : Int) (d : Nat) : Int :=
  if 0 ≤ a then (2 * a + d) / (2 * d : Nat) else -((-2 * a + d) / (2 * d : Nat))

/-- An angle in 0.01°, brought to −18,000 to 17,999. -/
def wrapAngle (a : Int) : Int := (a + 18000) % 36000 - 18000

/-- Division rounded up. -/
def ceilDiv (a d : Nat) : Nat := (a + d - 1) / d

/-! ### Check values (Table 15.2) -/

/-- One of the six fixed polynomials, with its parameters (R509). -/
structure Poly where
  width : Nat
  poly : Nat
  preset : Nat
  reflected : Bool
  xorOut : Nat
  deriving DecidableEq, Repr

/-- The polynomial of a code of Table 15.2. -/
def polyOf : Nat → Option Poly
  | 0 => some ⟨5, 0x09, 0x09, false, 0⟩
  | 1 => some ⟨16, 0x1021, 0xFFFF, false, 0xFFFF⟩
  | 2 => some ⟨16, 0x1021, 0xC6C6, true, 0⟩
  | 3 => some ⟨16, 0x1021, 0xFFFF, true, 0xFFFF⟩
  | 4 => some ⟨8, 0x07, 0x00, false, 0⟩
  | 5 => some ⟨32, 0x04C11DB7, 0xFFFFFFFF, true, 0xFFFFFFFF⟩
  | _ => none

/-- The low `w` bits of `v` in reverse order. -/
def revBits : Nat → Nat → Nat
  | 0, _ => 0
  | w + 1, v => (v % 2) * 2 ^ w + revBits w (v / 2)

/-- The bits of a byte in the order a polynomial takes them (R509): a reflected input least significant first. -/
def bitOrder (reflected : Bool) (b : Byte) : List Bool :=
  let l := (List.range 8).map b.toNat.testBit
  if reflected then l else l.reverse

/-- One bit into the register of a polynomial: most significant bit first, or least first when reflected (then `poly`
is the reversed polynomial). -/
def crcBit (p : Poly) (rpoly reg : Nat) (b : Bool) : Nat :=
  if p.reflected then
    if reg.testBit 0 != b then (reg >>> 1) ^^^ rpoly else reg >>> 1
  else
    if reg.testBit (p.width - 1) != b then ((reg * 2) % 2 ^ p.width) ^^^ p.poly else (reg * 2) % 2 ^ p.width

/-- The check value over a bit sequence in input order (R509). -/
def crcBits (p : Poly) (bs : List Bool) : Nat :=
  let rpoly := revBits p.width p.poly
  let start := if p.reflected then revBits p.width p.preset else p.preset
  (bs.foldl (crcBit p rpoly) start) ^^^ p.xorOut

/-- The bits of a block in input order; `tail`, when not 0, uses only that many bits of the last byte (R513). -/
def inputBits (p : Poly) (d : Bytes) (tail : Nat) : List Bool :=
  let l := d.flatMap (bitOrder p.reflected)
  if tail = 0 then l else l.take (l.length - (8 - tail))

/-- The check value of a polynomial code over whole bytes. -/
def crc (code : Nat) (d : Bytes) : Nat :=
  match polyOf code with
  | none => 0
  | some p => crcBits p (inputBits p d 0)

/-- CRC-32 (code 5): SPT frames, packets, images, records (Table 1.3, Table 15.2). -/
def crc32 (d : Bytes) : Nat := crc 5 d

/-- CRC-8 (code 4): the TWA PEC (R442). -/
def crc8 (d : Bytes) : Nat := crc 4 d

/-- CRC-16/Gen2 (code 1). -/
def crc16 (d : Bytes) : Nat := crc 1 d

/-- The nine ASCII bytes over which Table 15.2 states its check values. -/
def checkInput : Bytes := bytes [0x31, 0x32, 0x33, 0x34, 0x35, 0x36, 0x37, 0x38, 0x39]

/-! ### Tables -/

/-- A table with the value at `k` replaced or inserted, the numbers staying in ascending order. -/
def Tab.put {α : Type} : Tab α → Nat → α → Tab α
  | [], k, v => [(k, v)]
  | (a, x) :: r, k, v =>
    if k < a then (k, v) :: (a, x) :: r
    else if k = a then (k, v) :: r
    else (a, x) :: Tab.put r k v

/-- The value a table lists at `k`. -/
def Tab.find {α : Type} : Tab α → Nat → Option α
  | [], _ => none
  | (a, x) :: r, k => if k = a then some x else Tab.find r k

/-- The value at `k`, the type's default where none is listed. -/
def Tab.get {α : Type} [Inhabited α] (t : Tab α) (k : Nat) : α := (Tab.find t k).getD default

/-- A table with the entry at `k` removed. -/
def Tab.del {α : Type} (t : Tab α) (k : Nat) : Tab α := t.filter (fun p => p.1 != k)

/-- A table with the value at `k` changed by a function. -/
def Tab.upd {α : Type} [Inhabited α] (t : Tab α) (k : Nat) (f : α → α) : Tab α := Tab.put t k (f (Tab.get t k))

/-- A table with every entry of a second, sorted, table put over it. -/
def Tab.over {α : Type} (t u : Tab α) : Tab α := u.foldl (fun a p => Tab.put a p.1 p.2) t

end Sys2Proof.Machine
end

