-- ==== Sys2Proof/Machine/Dict.lean ====
section
/-! DEFINITION. Lookups in the object dictionary: what a variant has (R3), the row of an address, whether the object is
present (R4, R84), its default, and whether a value lies in its range (R13, R16, R97). -/

namespace Sys2Proof.Machine

/-! ### Variants (Table 0.1, Table 3.3) -/

/-- Quads present: 0 to n − 1. -/
def Variant.quads : Sys2Proof.Variant → Nat
  | .sv21 | .sv31 => 1
  | .sv62 => 2
  | .sv74 | .sv84 => 4

/-- Whether PX and MX are present (both are, or neither). -/
def Variant.big : Sys2Proof.Variant → Bool
  | .sv21 | .sv31 => false
  | _ => true

/-- Whether HX is present. -/
def Variant.hx : Sys2Proof.Variant → Bool
  | .sv31 | .sv62 | .sv84 => true
  | _ => false

/-- DIE_MASK (Table 3.3). -/
def Variant.dieMask : Sys2Proof.Variant → Nat
  | .sv21 => 0x09 | .sv31 => 0x89 | .sv62 => 0x9F | .sv74 => 0x7F | .sv84 => 0xFF

/-- CHAIN_MASK (Table 3.3). -/
def Variant.chainMask (v : Sys2Proof.Variant) : Nat := 2 ^ (4 * Variant.quads v) - 1

/-- POWER_CAP_MW (Table 3.3). -/
def Variant.powerCap : Sys2Proof.Variant → Nat
  | .sv21 | .sv31 => 3200
  | .sv62 => 6000
  | .sv74 | .sv84 => 9500

/-- The greatest HF output power in mW (Table 12.2). -/
def Variant.hfMax : Sys2Proof.Variant → Nat
  | .sv31 => 250
  | _ => 500

/-- VARIANT_CODE as ASCII. -/
def Variant.code : Sys2Proof.Variant → Bytes
  | .sv21 => bytes [0x53, 0x56, 0x38, 0x2D, 0x32, 0x31, 0, 0]
  | .sv31 => bytes [0x53, 0x56, 0x38, 0x2D, 0x33, 0x31, 0, 0]
  | .sv62 => bytes [0x53, 0x56, 0x38, 0x2D, 0x36, 0x32, 0, 0]
  | .sv74 => bytes [0x53, 0x56, 0x38, 0x2D, 0x37, 0x34, 0, 0]
  | .sv84 => bytes [0x53, 0x56, 0x38, 0x2D, 0x38, 0x34, 0, 0]

/-- PRODUCT_CODE (Table 13.11): 0x00080000 + 0x10·D + U of the ordering code. -/
def Variant.product : Sys2Proof.Variant → Nat
  | .sv21 => 0x00080021 | .sv31 => 0x00080031 | .sv62 => 0x00080062 | .sv74 => 0x00080074 | .sv84 => 0x00080084

/-- DICT_CAPACITY (R361). -/
def Variant.dictCapacity (v : Sys2Proof.Variant) : Nat := if Variant.big v then 16777215 else 65535

/-! ### Rows -/

/-- Which copy of a replicated index `idx` is. -/
def ObjGroup.copyOf (g : ObjGroup) (idx : Nat) : Option Nat :=
  let st := if g.stride = 0 then 1 else g.stride
  if idx < g.idx || g.idx + st * g.count ≤ idx then none
  else if (idx - g.idx) % st = 0 then some ((idx - g.idx) / st) else none

/-- A row found: the group, its copy, the row and the place within the row. -/
structure Found where
  group : ObjGroup
  copy : Nat
  row : ObjRow
  place : Nat
  deriving DecidableEq, Repr

/-- The group of an index, among a list of groups. -/
def Dict.findGroup (idx : Nat) : List ObjGroup → Option (ObjGroup × Nat)
  | [] => none
  | g :: gs =>
    match g.copyOf idx with
    | some c => some (g, c)
    | none => Dict.findGroup idx gs

/-- The row of a sub-index, among a list of rows. -/
def Dict.findRow (sub : Nat) : List ObjRow → Option ObjRow
  | [] => none
  | r :: rs => if r.sub ≤ sub && sub < r.sub + r.n then some r else Dict.findRow sub rs

/-- The row of an address (index × 256 + sub-index). -/
def Dict.find (k : Nat) : Option Found :=
  match Dict.findGroup (k / 256) (objGroupsNear (k / 256)) with
  | none => none
  | some (g, c) =>
    match Dict.findRow (k % 256) g.rows with
    | none => none
    | some r => some ⟨g, c, r, k % 256 - r.sub⟩

/-- The sequence sub-index of the group that an object belongs to (R129): the last sub-index of its index, where that is a U32 of
access RO that starts at 0. 0x2004, 0x2550 and 0x2800 end with such an object that is no sequence sub-index. -/
def Dict.seqOf (k : Nat) : Option Nat :=
  let idx := k / 256
  match Dict.findGroup idx (objGroupsNear idx) with
  | none => none
  | some (g, _) => match g.rows.getLast? with
    | some r =>
      if r.ty = .u32 && r.acc = .ro && r.n = 1 && r.dflt = 0 && !(List.contains [0x2004, 0x2550, 0x2800] idx) then some (idx * 256 + r.sub)
      else none
    | none => none

/-- Whether a presence class holds of copy or place `n` (R4, R84). -/
def Pres.holds (v : Sys2Proof.Variant) (m : Mode) (n : Nat) : Pres → Bool
  | .always => true
  | .px | .mx => Variant.big v
  | .hx => Variant.hx v
  | .quad | .quadSub => n < Variant.quads v
  | .chain | .chainSub => n < 4 * Variant.quads v
  | .pairSub => n / 4 < Variant.quads v && n % 4 < Variant.quads v
  | .test => m = .test
  | .testHf => m = .test && Variant.hx v

/-- Whether the object of a row is present (R4, R84). -/
def Found.present (v : Sys2Proof.Variant) (m : Mode) (f : Found) : Bool :=
  f.group.pres.holds v m f.copy && f.row.pres.holds v m f.place

/-- The size in bytes of a type of fixed size (R13); `none` for a DOM. -/
def ObjTy.size : ObjTy → Option Nat
  | .u8 | .i8 | .bool => some 1
  | .u16 | .i16 => some 2
  | .u32 | .i32 | .f32 => some 4
  | .u64 | .i64 => some 8
  | .str n | .oct n => some n
  | .dom _ => none

/-- Whether the type's value is a block rather than a number. -/
def ObjTy.isBlock : ObjTy → Bool
  | .str _ | .oct _ | .dom _ => true
  | _ => false

/-- A raw value as the type's number. -/
def ObjTy.value (t : ObjTy) (raw : Nat) : Int :=
  match t with
  | .i8 => toInt 8 raw
  | .i16 => toInt 16 raw
  | .i32 => toInt 32 raw
  | .i64 => toInt 64 raw
  | _ => raw

/-! ### Defaults that depend on the variant, the node-ID or the entry -/

/-- Table 7.3 by profile (R253): profiles 4 to 7 as profile 0. -/
def Dict.profileDflt (p sub : Nat) : Nat :=
  let col := fun (a b c d : Nat) => match p with | 1 => b | 2 => c | 3 => d | _ => a
  match sub with
  | 0x01 => col 6250 12500 12500 25000
  | 0x02 => col 150 150 150 200
  | 0x04 => col 0 1 0 1
  | 0x06 => col 1 1 0 1
  | 0x07 => col 640 256 160 256
  | 0x08 => col 1 4 4 4
  | 0x09 => col 0 0 0 1
  | 0x0A => col 1 1 0 1
  | 0x0B => col 0 0 0 2
  | 0x0D => col 4 4 2 4
  | 0x0F => col 15 15 6 15
  | 0x12 => col 1024 1024 64 1024
  | 0x14 => col 1 1 2 1
  | _ => 0

/-- ELEMENT_X of chain `c` (Table 6.9), by position in the quad. -/
def Dict.elementX (c : Nat) : Int :=
  match c % 4 with | 0 => -2460 | 1 => -820 | 2 => 820 | _ => 2460

/-- ELEMENT_Y of chain `c` (Table 6.9), by quad. -/
def Dict.elementY (c : Nat) : Int :=
  match c / 4 with | 0 => 2460 | 1 => 820 | 2 => -820 | _ => -2460

/-- The default of RPDO n's COB-ID (Table 13.11). -/
def Dict.rpdoCob (node n : Nat) : Nat :=
  match n with
  | 0 => 0x200 + node
  | 1 => 0x80000300 + node
  | 2 => 0x80000400 + node
  | _ => 0x80000500 + node

/-- The default of TPDO n's COB-ID (Table 13.11). -/
def Dict.tpdoCob (node n : Nat) : Nat :=
  match n with
  | 0 => 0x180 + node
  | 1 => 0x80000280 + node
  | 2 => 0x80000380 + node
  | 3 => 0x80000480 + node
  | _ => 0x80000000

/-- TPDO 1's default mapping, entry `k` from 0 (Table 13.11): the last passage. -/
def Dict.tpdo1Map (k : Nat) : Nat :=
  match k with
  | 0 => 0x44410120 | 1 => 0x44410308 | 2 => 0x44410408 | 3 => 0x44410508 | 4 => 0x44410740 | 5 => 0x44410810
  | _ => 0

/-- Defaults that the row alone does not give; `none` where the row's own default stands. -/
def Dict.special (v : Sys2Proof.Variant) (node idx sub : Nat) : Option Nat :=
  if 0x4010 ≤ idx && idx < 0x4018 then
    if sub ∈ [0x01, 0x02, 0x04, 0x06, 0x07, 0x08, 0x09, 0x0A, 0x0B, 0x0D, 0x0F, 0x12, 0x14] then
      some (Dict.profileDflt (idx - 0x4010) sub) else none
  else if idx = 0x3802 && 1 ≤ sub && sub ≤ 16 then some (ofInt 16 (Dict.elementX (sub - 1)))
  else if idx = 0x3803 && 1 ≤ sub && sub ≤ 16 then some (ofInt 16 (Dict.elementY (sub - 1)))
  else if 0x4C20 ≤ idx && idx < 0x4C40 && sub = 0x14 then some (2 ^ 64 - 1)
  else if 0x1400 ≤ idx && idx < 0x1404 && sub = 1 then some (Dict.rpdoCob node (idx - 0x1400))
  else if 0x1600 ≤ idx && idx < 0x1604 && sub = 0 then some (if idx = 0x1600 then 1 else 0)
  else if 0x1600 ≤ idx && idx < 0x1604 && 1 ≤ sub then some (if idx = 0x1600 && sub = 1 then 0x24060320 else 0)
  else if 0x1800 ≤ idx && idx < 0x1808 && sub = 1 then some (Dict.tpdoCob node (idx - 0x1800))
  else if 0x1A00 ≤ idx && idx < 0x1A08 && sub = 0 then some (if idx = 0x1A01 then 6 else 0)
  else if 0x1A00 ≤ idx && idx < 0x1A08 && 1 ≤ sub then some (if idx = 0x1A01 then Dict.tpdo1Map (sub - 1) else 0)
  else if 0x2300 ≤ idx && idx < 0x2304 && sub = 1 then some (idx - 0x2300)
  else match idx, sub with
  | 0x1014, 0 => some (0x80 + node)
  | 0x1018, 2 => some (Variant.product v)
  | 0x1018, 4 => some (leNat ((List.range 4).map Config.serialByte))
  | 0x2000, 2 => some (Variant.dieMask v)
  | 0x2000, 3 => some (Variant.chainMask v)
  | 0x2000, 4 => some (ofBool (Variant.hx v))
  | 0x2000, 9 => some Config.odVersion.toNat
  | 0x2000, 10 => some (Variant.powerCap v)
  | 0x2500, 2 => some 1
  | 0x2500, 3 => some 2
  | 0x2500, 4 => some 3
  | 0x2700, 1 => some (if Variant.big v then 1 else 0)
  | 0x2700, 2 => some (if Variant.big v then 4194304 else 14080)
  | 0x2703, 1 => some (if Variant.big v then 14018 else 0)
  | 0x4402, 9 => some (if Variant.big v then 4096 else 512)
  | 0x4800, 4 => some (if Variant.big v then 2048 else 8)
  | 0x4801, 1 => some (Variant.dictCapacity v)
  | 0x4C01, 1 => some (if Variant.big v then 256 else 4)
  | 0x4C01, 3 => some (if Variant.big v then 4096 else 256)
  | _, _ => none

/-- The raw default of a numeric object. -/
def Dict.dflt (v : Sys2Proof.Variant) (node k : Nat) : Nat :=
  match Dict.special v node (k / 256) (k % 256) with
  | some d => d
  | none => match Dict.find k with
    | some f => f.row.dflt
    | none => 0

/-- LANE_MAP at reset (Table 9.5a): the lanes of a unit whose beam is idle stay reserved to it (R334), those of the beams that a
variant has not too, so that no variant has more than the six spare lanes of Table 6.5. -/
def Dict.laneMap : Bytes :=
  (List.range 32).map fun n => BitVec.ofNat 8
    (if n < 16 then 16 * n + 1 else if n < 20 then 16 * (n - 16) + 2 else if n < 22 then 3 else if n < 26 then 4 else 0)

/-- The default of a block object: the constant strings of the part, zeros for a string or octets, else empty. -/
def Dict.domDflt (v : Sys2Proof.Variant) (k : Nat) : Bytes :=
  if k = Reg.VARIANT_CODE then Variant.code v
  else if k = 0x100800 then Variant.code v
  else if k = Reg.STEPPING then (List.range 2).map Config.steppingByte
  else if k = Reg.SERIAL then (List.range 12).map Config.serialByte
  else if k = Reg.LANE_MAP then Dict.laneMap
  else if k = 0x100A00 then (List.range 12).map Config.swVersionByte
  else if k = 0x280001 then (List.range 8).map (Config.keyIdByte 0)
  else if k = 0x280003 then (List.range 8).map (Config.keyIdByte 1)
  else if k = 0x280004 then (List.range 8).map (Config.keyIdByte 2)
  else if k = 0x280002 then (List.range 5296).map Config.deviceCertByte
  else match Dict.find k with
    | some f => match f.row.ty with
      | .str n | .oct n => List.replicate n 0#8
      | _ => []
    | none => []

/-! ### Ranges -/

/-- Whether a value of the type lies in the range of its row (R13, R16, and each table's Meaning column). -/
def Rng.holds (v : Sys2Proof.Variant) (raw : Nat) (x : Int) : Rng → Bool
  | .any => true
  | .between lo hi => lo ≤ x && x ≤ hi
  | .oneOf l => l.contains x
  | .bits m => raw &&& m = raw
  | .chainMask => raw &&& Variant.chainMask v = raw
  | .chainNo => raw < 4 * Variant.quads v
  | .hfPower => 20 ≤ raw && raw ≤ Variant.hfMax v
  | .regionId => raw ≤ 4
  | .zoneOrAny => raw < 32 || raw = 0xFF
  | .hotRing => if Variant.big v then 64 ≤ raw && raw ≤ 1024 else raw = 4
  | .ringMib => if Variant.big v then 1024 ≤ raw && raw ≤ 2560 else raw = 8
  | .packetMax => 64 ≤ raw && raw ≤ 4096 && raw % 32 = 0
  | .dictIndex => raw < Variant.dictCapacity v
  | .tpdoType => raw = 0xFF || (1 ≤ raw && raw ≤ 240)
  | .gateSrc => raw ≤ 11
  | .opCode => raw ≤ 9

/-- Whether a raw value obeys its type (R13): BOOL 0 or 1, F32 neither NaN nor infinite. -/
def ObjTy.legal (t : ObjTy) (raw : Nat) : Bool :=
  match t with
  | .bool => raw ≤ 1
  | .f32 => raw / 2 ^ 23 % 256 != 255
  | _ => true

/-- The check of a written block against a row's length (R94). -/
def ObjTy.lengthOk (t : ObjTy) (d : Bytes) : Bool :=
  match t with
  | .dom m => d.length ≤ m
  | _ => t.size = some d.length

/-- Length, type, range and reserved bits of a write (R94, R97). -/
def Found.writeOk (v : Sys2Proof.Variant) (f : Found) (d : Bytes) : Bool :=
  f.row.ty.lengthOk d &&
    (f.row.ty.isBlock ||
      (f.row.ty.legal (leNat d) && f.row.rng.holds v (leNat d) (f.row.ty.value (leNat d))))

end Sys2Proof.Machine
end

