-- ==== Sys2Proof/Machine/State.lean ====
section
/-! DEFINITION. The state of the block: the object dictionary's values, and what the chapters give the part beside it
(INVENTORY.md, State), with the commands that wait. -/

namespace Sys2Proof.Machine

/-! ### Modes, reset and clocks (chapters 1, 2, 18) -/

/-- Where the part stands between power and BOOT (R574): POR held, reset held with POR released, or released. -/
inductive ResetPhase where
  | porHeld | resetHeld | released
  deriving DecidableEq, Repr

/-- A mode transition in progress (R57, R61): where it ends, whether a cause forced it, the link that asked, and the
HOLD reason to record. -/
structure Trans where
  target : Mode
  forced : Bool
  link : Option Link
  reason : Nat
  deriving DecidableEq, Repr

/-- What drives a pair of switching outputs: nothing, the CX bucks or PX (R576, Table 18.4). -/
inductive LxDrive where
  | off | cx | px
  deriving DecidableEq, Repr, Inhabited

/-- Modes, start-up, the clocks and the supplies. -/
structure Sys where
  phase : ResetPhase
  /-- Straps sampled at reset release (R67). -/
  testen : Bool
  twaAs : Nat
  canId : Nat
  /-- Bank levels detected at POR release: true for 3.3 V (R569). -/
  vioA33 : Bool
  vioB33 : Bool
  /-- The node-ID in force (R452). -/
  node : Nat
  /-- Links whose last request was deferred: the BUSY bit by link code − 1 (R87). -/
  busy : Nat
  /-- The link that holds the write of REG_LOCK_FIRE as executing (R425). -/
  firing : Option Link
  /-- A write that resets the part has been accepted: its link, and the cause and detail of the reset that follows the end of
  its answer (R58, R535, Table 17.6). -/
  resetDue : Option (Link × Nat × Nat)
  /-- Critical sources signalled in this stay in HOLD, or on the way to it, whose events have not been acknowledged since, by
  FAULT_ACTIVE bit (R87). -/
  unacked : Nat
  /-- TWA_ALERT_N released by an Alert Response (R448). -/
  alertOff : Bool
  trans : Option Trans
  /-- REF_LOST persists (R40, R41). -/
  refLost : Bool
  /-- The CX PLL is out of lock (R548). -/
  pllLost : Bool
  /-- Device time and the timers have started (R42, R496). -/
  timeOn : Bool
  /-- Links started in BOOT (Table 2.8). -/
  sptUp : Bool
  twaUp : Bool
  canUp : Bool
  /-- The lowest HOLD reason BOOT has found, 0 none (R64, R70). -/
  bootReason : Nat
  /-- Neither firmware slot verified (R71). -/
  noFirmware : Bool
  /-- A valid committed configuration is in force (R120). -/
  validConfig : Bool
  /-- The last commit failed and none has succeeded since (R65, R87). -/
  commitBad : Bool
  /-- Wake sources latched while WATCH is being entered or served, and whether one asks for RUN (R79, R80). -/
  wakeBits : Nat
  wakeRun : Bool
  /-- Device time of the wake under way: sources of the same tick join it (R79, R422). -/
  wakeAt : Nat
  /-- BOOT completed its return-loss sweep, or the first transition to READY did (R72). -/
  sweepDone : Bool
  /-- What drives LX0 and LX1 (VCORE, VAUX), and LX2 and LX3 (VMAIN, the second VCORE phase); ticks left of PX's soft-start of
  LX2 and LX3 (R576). -/
  lx01 : LxDrive
  lx23 : LxDrive
  softStart : Nat
  deriving DecidableEq, Repr

/-- Device time, the timers' phase and the discipline (chapter 15). -/
structure Tim where
  now : Nat
  /-- The fraction of a tick, 40 bits (R501). -/
  frac : Nat
  /-- REFCLK ticks since device time started, modulo 40,000: the 1 MHz and 1 kHz divisions (R497). -/
  phase : Nat
  /-- The frequency term F and the phase term in ppb (R501). -/
  freq : Int
  slew : Int
  /-- EXT_OFFSET has been fixed (R502). -/
  fixed : Bool
  deriving DecidableEq, Repr

/-- The latched parts of a wide value, kept for the link that read it (R134). -/
structure Shadow where
  link : Link
  /-- The object of the lowest part. -/
  key : Nat
  parts : List Nat
  /-- Device time of the latch. -/
  at_ : Nat
  deriving DecidableEq, Repr

/-! ### Staging and commit (chapter 3) -/

/-- What a commit in progress commits, and its stage: `none` until validation has passed. -/
inductive CommitSrc where
  | staged | image
  deriving DecidableEq, Repr

/-- One copy of the slot record in CX NVM (R118), with the CRC-32 it carries. -/
structure SlotRec where
  seq : Nat
  genA : Nat
  lenA : Nat
  crcA : Nat
  genB : Nat
  lenB : Nat
  crcB : Nat
  /-- The slot marked current: false A, true B. -/
  current : Option Bool
  crc : Nat
  deriving DecidableEq, Repr

/-- The commit machinery. -/
structure Cfg where
  staged : DomStore
  /-- The link that staged each entry of the staged set, by object (STAGED_LINKS); a survey's entries have none. -/
  stagedBy : Tab Link
  image : Bytes
  /-- A commit is in progress (COMMIT_STATE is not 0), and the link that asked. -/
  src : Option CommitSrc
  /-- The configuration that will result, by object address, once validated. -/
  next : Option DomStore
  /-- The two copies of the slot record. -/
  rec0 : Option SlotRec
  rec1 : Option SlotRec
  /-- The slot the configuration in force came from, or was stored in (R115). -/
  slot : Option Bool
  /-- What PERSIST_STATE 1 is storing. -/
  storing : Option Bytes
  /-- The configuration in force came with this signed image (R531). -/
  signed : Option Bytes
  deriving DecidableEq, Repr

/-! ### Events (chapter 17) -/

/-- An EMCY waiting to be sent (R463). -/
structure Emcy where
  code : Nat
  errReg : Nat
  status : Nat
  event : Nat
  time : Nat
  deriving DecidableEq, Repr

/-- A buffered event-log entry (R562, Table 17.8). -/
structure LogEntry where
  time : Nat
  event : Nat
  status : Nat
  cls : Nat
  detA : Nat
  detB : Nat
  deriving DecidableEq, Repr

/-- What the events hold beside their masks. -/
structure Ev where
  /-- EVT_COUNTS, EVT_TIMES and EVT_DETAILS by event number. -/
  counts : Store
  times : Store
  detA : Store
  detB : Store
  /-- Events latched in BOOT, in latch order, until BOOT ends (R69): number, time. -/
  boot : List (Nat × Nat)
  emcy : List Emcy
  log : List LogEntry
  deriving DecidableEq, Repr

/-! ### Check units, security and health (chapters 15, 16, 17) -/

/-- The check units. -/
structure Chk where
  /-- Consecutive self-test failures of units 0 to 3 (R514). -/
  streak : Store
  /-- The unit whose streams unit 3 carries. -/
  covers : Option (Fin 4)
  /-- Device time of the SCAN_GO write of the scan that runs (R513). -/
  scanAt : Nat
  deriving DecidableEq, Repr

/-- The secure core. -/
structure Sec where
  /-- The valid nonce (R533). -/
  nonce : Option Bytes
  /-- The token being verified, and the link that submitted it (R534). -/
  verifying : Option (Link × Bytes)
  /-- Device time of the last authentication failure (R536). -/
  failAt : Option Nat
  /-- The quote under signature (R539). -/
  quote : Option Bytes
  /-- The debug fuse (R541). -/
  debugFuse : Bool
  /-- Halted application cores (R540). -/
  attached : Nat
  /-- What slots A and B hold: version and SVN of a slot that verifies. -/
  slotA : Option (Nat × Nat)
  slotB : Option (Nat × Nat)
  /-- Which firmware loads: the slot an update erases and loads (R527). -/
  updating : Option Bool
  /-- Slots, bit 0 for A, that a BEGIN or an ABANDON has left without an image that verifies (R527). -/
  spoiled : Nat
  /-- Draws of the entropy source made. -/
  draws : Nat
  /-- The instruction the TAP holds (R540). -/
  tap : TapInstr
  deriving DecidableEq, Repr

/-- The monitors and the watchdogs. -/
structure Hlt where
  /-- Events 8, 10, 15 may be latched again (Table 17.2). -/
  warnArmed : Bool
  vinArmed : Bool
  noiseArmed : Bool
  /-- Consecutive ripple updates above the limit, and below 0.8 of it in ms. -/
  rippleHigh : Nat
  rippleLow : Nat
  /-- Consecutive 1 ms samples with every rail within its clearing limits (Table 17.4). -/
  railGood : Nat
  /-- Dies whose process event waits for its acknowledge, by die bit. -/
  procHeld : Nat
  /-- Device time of the last plan fault (R551). -/
  planFaultAt : Option Nat
  /-- Cores whose watchdog has barked and not been served (R555). -/
  barking : Nat
  deriving DecidableEq, Repr

/-! ### Links between dies (chapter 1) -/

/-- A flit beside its acknowledge and its CRC (Tables 1.3 and 1.4): its type, its STREAM field, its SEQ and its payload. -/
structure Flit where
  type : Nat
  stream : Nat
  seq : Nat
  payload : Bytes
  deriving DecidableEq, Repr, Inhabited

/-- One end of a die-to-die link: what it receives, what it sends and what it waits to see acknowledged (R22 to R28). -/
structure LinkEnd where
  /-- SEQ of the last flit received good. -/
  rxLast : Option Nat
  /-- Discarding until the replay of the flit after `rxLast` (R26). -/
  discarding : Bool
  /-- A NAK is due in the next flit this end sends (R26). -/
  nakDue : Bool
  /-- SEQ last acknowledged by the other end. -/
  acked : Option Nat
  /-- Resends since the acknowledge last advanced (R30). -/
  resends : Nat
  /-- Flits in the CX fall-through chain, oldest first (R28). -/
  fifo : List Flit
  /-- The payload this end's consumers last took, by 16·TYPE + STREAM, and the SEQ of the last flit taken (R28, R29). -/
  taken : Tab Bytes
  tookSeq : Option Nat
  /-- Flits waiting to be sent, oldest first, by traffic class (R24). -/
  class0 : List Flit
  class1 : List Flit
  class2 : List Flit
  /-- SEQ of the next new flit. -/
  txNext : Nat
  /-- The replay buffer: flits sent and not acknowledged, oldest first (R25). -/
  unacked : List Flit
  /-- Flits of a replay still to be resent, in the original order (R27). -/
  again : List Flit
  /-- What each active lane carried in the last flit sent, in ascending lane order (R22). -/
  lanes : List Bytes
  /-- How much of the time of the next flit has passed, in sixteenths of a flit (Table 1.2). -/
  beat : Nat
  deriving DecidableEq, Repr, Inhabited

/-- A hub's link. `width` is coded as LINK_STATE: 0 down. -/
structure Hub where
  width : Nat
  cx : LinkEnd
  die : LinkEnd
  /-- Device times of the replays in the sliding 1 s window (R31). -/
  replays : List Nat
  /-- Lane training runs (Sequence 1.1 step 5). -/
  training : Bool
  /-- Event 31 has been raised and the count has not fallen below 500 since (R31). -/
  retryHeld : Bool
  /-- Ticks since the link came up, modulo 1,200: the times of SAMPLES and TELEMETRY flits (log entry 48). -/
  age : Nat
  /-- WIDEBAND flits of a capture still to send, and the chain's position in its quad (R86, Table 1.4). -/
  wide : Nat
  wideOf : Nat
  deriving DecidableEq, Repr, Inhabited

/-! ### Quads, chains and carriers (chapters 4, 5, 6) -/

/-- Who holds a request to carry Drone (R141). -/
inductive HeldBy where
  | dwell | hop | test
  deriving DecidableEq, Repr

/-- A quad, beside its objects. -/
structure Quad where
  /-- The channel the synthesiser is asked for, in kHz; 0 for none. -/
  want : Nat
  held : Option HeldBy
  /-- A full calibration is running, is due, or has failed once at quad level and is being repeated (R170 to R172). -/
  calibrating : Bool
  calDue : Bool
  calRepeat : Bool
  /-- Event 21 has been latched and no calibration has succeeded since (R172). -/
  calFailed : Bool
  /-- Event 20 has been latched since CAL_TEMP was last set (R171). -/
  dueShown : Bool
  /-- Device times of the last losses of lock (R140). -/
  unlocks : List Nat
  /-- Back in service, and offered to Valve at the next plan boundary (Table 9.5). -/
  offered : Bool
  /-- Device time at which its PAs last went off (R245). -/
  offAt : Nat
  /-- The loss of lock put it OUT; it returns after a calibration (R140). -/
  unlockOut : Bool
  /-- The calibration frequency of the running calibration, in kHz (Sequence 4.2 step 2). -/
  calKhz : Nat
  /-- The RC time constant that the last filter-bandwidth calibration found (Table 4.4): a free value (log entry 49). -/
  rc : Nat
  /-- The level that the PA rail is set for, in 0.25 dBm (R147, R48). -/
  rail : Option Int
  /-- A fault of the PA rail persists (R147). -/
  railBad : Bool
  deriving DecidableEq, Repr, Inhabited

/-- A seed entry (Table 4.7). -/
structure Seed where
  khz : Nat
  wi : Int
  wq : Int
  rl : Nat
  flags : Nat
  deriving DecidableEq, Repr, Inhabited

/-- What a chain keeps of a committed channel for its phase table (Table 6.2, R217, R218): κ_c and θ_fwd,c of the last sweep
that covered it, and θ_fwd,c at the end of its last Drone there, in 0.01°. -/
structure ChanPhase where
  kappa : Option Int
  sweepFwd : Option Int
  lastFwd : Option Int
  deriving DecidableEq, Repr, Inhabited

/-- A chain, beside its objects. -/
structure Chain where
  seeds : List Seed
  /-- The set level, in 0.25 dBm, while the chain is asked to carry Drone. -/
  level : Option Int
  /-- Device time at which Drone was raised. -/
  onAt : Nat
  /-- Once per dwell: events 24 and 27 (R159, R162). -/
  warned : Bool
  blocked : Bool
  /-- Excluded from receive for the dwell (R151, R156, R159). -/
  excluded : Bool
  /-- Channel and device time of the last mismatch cut, until probed (R163). -/
  cut : Option (Nat × Nat)
  /-- Channels on which a probe is due since the last plan boundary (R163, R164). -/
  probes : List Nat
  /-- The chain carries a −10 dBm probe on this channel (R163). -/
  probing : Option Nat
  /-- Offered to Valve at the next plan boundary. -/
  offered : Bool
  /-- The transmit rotator's setting, in steps of 360°/1,024 (R218, R223). -/
  rotator : Nat
  /-- θ_tone,c − τ_c in 0.01°, where its quad's lock has been measured (R37, R211). -/
  tone : Option Int
  /-- γ_c and θ_fwd,c in use, in 0.01° (R212, R217, R218). -/
  gamma : Int
  fwd : Int
  /-- The phase terms kept by channel in kHz. -/
  phases : Tab ChanPhase
  /-- Reed has converged in this dwell (R151, R152). -/
  conv : Bool
  /-- Samples recorded in the capture memory by the last capture (R86, R150, R213). -/
  captured : Nat
  /-- A gain state detected in a reply window and waiting for its end (R158). -/
  gainDue : Option Nat
  deriving DecidableEq, Repr, Inhabited

/-- A return-loss sweep in progress (R150): channels left in the order they are swept, and the one chain of a reseed. -/
structure Sweep where
  left : List Nat
  only : Option Nat
  /-- Isolation is measured after the lowest committed channel (R207). -/
  iso : Bool
  began : Nat
  /-- Chains that gave no reading (Table 4.4). -/
  bad : Nat
  /-- Chains whose reseed waits (R175). -/
  queue : List Nat
  deriving DecidableEq, Repr

/-! ### Reads and reports (chapters 6, 8, 10) -/

/-- What localisation adds to a read (Table 8.5). -/
structure Loc where
  az : Nat
  el : Nat
  range : Int
  x : Int
  y : Int
  lane : Nat
  flags : Nat
  /-- The X and Y of its road vector in 10^-18, and φ_r in radians·10^18, where both angles are valid (R286, R288). -/
  dx : Int
  dy : Int
  phi : Int
  deriving DecidableEq, Repr, Inhabited

/-- A read on its way from measurement to the reports and the tracker (Table 6.7, R279). -/
structure Read where
  time : Nat
  khz : Nat
  chan : Nat
  beam : Nat
  best : Nat
  rxMask : Nat
  snr : Int
  power : Int
  flags : Nat
  tag : Nat
  zone : Nat
  isNew : Bool
  epc : Bytes
  meas : List ChainMeas
  /-- The dwell it fell in, by its start, and the locks of its gang in that dwell before it (R298). -/
  dwell : Nat
  lock : Nat
  deriving DecidableEq, Repr, Inhabited

/-- An open packet (R349). -/
structure OpenPkt where
  base : Nat
  count : Nat
  data : Bytes
  /-- Tag indices the records refer to, or announce (R360). -/
  tags : List Nat
  /-- Records of TIER_BASE carried (R371). -/
  baseRecs : Nat
  deriving DecidableEq, Repr, Inhabited

/-- A closed packet. -/
structure Pkt where
  stream : Nat
  seq : Nat
  tier : Nat
  kind : Nat
  base : Nat
  count : Nat
  flags : Nat
  loss : Nat
  data : Bytes
  baseRecs : Nat
  /-- Held only in the archive (R335). -/
  spilled : Bool
  /-- Its slots have been charged (R364). -/
  charged : Bool
  /-- Where it lies, in bytes: in the archive, and in the stream's share of the SRAM queue (log entry 25). -/
  pos : Nat
  sq : Nat
  /-- Wrong bits of its bytes, by offset, that the store's outer code has let pass (R383). -/
  flips : List (Nat × Byte)
  deriving DecidableEq, Repr, Inhabited

/-- A T2 summary being gathered (Table 10.5). -/
structure T2Acc where
  tag : Nat
  zone : Nat
  first : Nat
  last : Nat
  reads : Nat
  powerMax : Int
  /-- Sum of the linear powers, in the units of `linPower`. -/
  powerSum : Nat
  azMin : Option Int
  azMax : Option Int
  elMin : Option Int
  elMax : Option Int
  chans : Nat
  lanes : Store
  rxMask : Nat
  txMask : Nat
  isNew : Bool
  cold : Bool
  deriving DecidableEq, Repr, Inhabited

/-- The packet a stream would have open for one kind at one tier (R368): its length, when it opened, and the indices its
records hold. -/
structure Virt where
  len : Nat
  since : Nat
  tags : List Nat
  deriving DecidableEq, Repr, Inhabited

/-- A report stream, beside its objects. -/
structure Stream where
  opens : Tab OpenPkt
  /-- Closed packets not yet delivered, in SEQ order. -/
  queue : List Pkt
  /-- Packets of a rewind not yet sent (R375). -/
  replay : List Pkt
  /-- Whether the head was returned by REPORT_NEXT (R364). -/
  shown : Bool
  alive : Nat
  t2 : List T2Acc
  virt : Tab Virt
  closedBytes : Store
  /-- Bytes delivered in this window, and whether the queue has held a packet throughout it (R368). -/
  winBytes : Nat
  winBusy : Bool
  /-- The highest SQ_FILL of this window (R369). -/
  peak : Nat
  /-- Windows ended since TIER_NOW last changed. -/
  steady : Nat
  /-- The next byte of the stream's share of the SRAM queue. -/
  sqPtr : Nat
  /-- The packet a CAN FD push is sending, and its bytes after the fragment on the bus (R462). -/
  pushing : Option (Pkt × Bytes)
  deriving DecidableEq, Repr, Inhabited

/-- A tag-dictionary entry (Table 10.8). -/
structure DictEntry where
  pc : Nat
  xpc : Nat
  epc : Bytes
  firstS : Nat
  lastS : Nat
  deriving DecidableEq, Repr, Inhabited

/-- A T0 record of the hot ring, with the place it holds. -/
structure HotRec where
  time : Nat
  slot : Nat
  data : Bytes
  deriving DecidableEq, Repr, Inhabited

/-- The reports: hot ring, archive, dictionary and streams. -/
structure Rep where
  /-- T0 records, oldest first, and the place of the next. -/
  hot : List HotRec
  hotPtr : Nat
  /-- The hot ring and the archive have been written to their end since BOOT or since they were emptied (R385). -/
  hotFull : Bool
  archFull : Bool
  /-- Closed packets, oldest first. -/
  archive : List Pkt
  /-- Bytes written since the archive's write pointer was at its start (R372). -/
  archPtr : Nat
  dict : Tab DictEntry
  /-- The first index never given (R360), after forgotten ones (Table 11.3). -/
  dictNext : Nat
  /-- Tag and zone of the first sightings of this window, and the tags of the window before (R357, R361). -/
  seen : List (Nat × Nat)
  before : List Nat
  streams : Tab Stream
  /-- Reads measured and not yet located, oldest first (R280). -/
  reads : List Read
  /-- Located reads not yet joined to a track, oldest first (R280). -/
  joins : List (Read × Loc)
  /-- Records overwritten in the archive past a mark, by 8·stream + mark (R376). -/
  gone : Store
  deriving DecidableEq, Repr, Inhabited

/-! ### The air protocol engine (chapter 7) -/

/-- A command that Chanter sends (Table 7.1, R243, R265 to R269), with the fields it carries. -/
inductive ReaderCmd where
  | select (target action membank pointer length : Nat) (mask : Bytes)
  | challenge (msg : Bytes)
  | query (dr miller : Nat) (trext : Bool) (sel session target q : Nat)
  | queryRep (session : Nat)
  | queryAdjust (session : Nat) (updn : Int)
  | ack (rn16 : Nat)
  | nak
  /-- Req_RN with the tag's RN16, or with its handle for a fresh word to cover with. -/
  | reqRn (rn : Nat)
  /-- One half of a password, cover-coded. -/
  | access (half handle : Nat)
  | kill (half handle : Nat)
  | read (bank ptr count handle : Nat)
  /-- One word, cover-coded. -/
  | write (bank ptr word handle : Nat)
  | blockWrite (bank ptr : Nat) (words : Bytes) (handle : Nat)
  | blockErase (bank ptr count handle : Nat)
  | lock (payload handle : Nat)
  | blockPermalock (readLock bank ptr range : Nat) (mask : Bytes) (handle : Nat)
  | untraceable (fields handle : Nat)
  | authenticate (msg : Bytes) (handle : Nat)
  deriving DecidableEq, Repr

/-- One command of an access operation before it is sent (R269). -/
inductive OpStep where
  /-- Req_RN for the handle. -/
  | handle
  /-- Req_RN for the word that covers the next half or word. -/
  | cover
  | access (half : Nat)
  | kill (half : Nat) (last : Bool)
  | read (bank ptr count : Nat)
  | write (bank ptr word : Nat)
  | blockWrite (bank ptr : Nat) (words : Bytes)
  | blockErase (bank ptr count : Nat)
  | lock (payload : Nat)
  | blockPermalock (readLock bank ptr range : Nat) (mask : Bytes)
  | untraceable (fields : Nat)
  | authenticate (msg : Bytes)
  /-- The words written are read back and compared. -/
  | verify (bank ptr count : Nat) (want : Bytes)
  deriving DecidableEq, Repr

/-- Where a round stands. -/
inductive RoundStage where
  /-- Drone is held unmodulated before the first command (R245). -/
  | powerUp
  /-- The Selects or the Challenge before the Query are being sent (R243, R246). -/
  | selecting
  /-- A slot is open and its RN16 awaited. -/
  | slot
  /-- The turn-round runs; the command decided is ACK, the next slot's, or the first of an access operation. -/
  | turnAck | turnSlot | turnOp
  /-- ACK has been sent and its reply is awaited. -/
  | ack
  /-- An access operation runs. -/
  | access
  /-- A slot boundary has been reached at which the round ends (R246). -/
  | ending
  deriving DecidableEq, Repr

/-- A round in progress on a transmit beam (R243 to R248). -/
structure Round where
  zone : Nat
  prof : Nat
  stage : RoundStage
  q : Nat
  qfp : Nat
  target : Nat
  slots : Nat
  singles : Nat
  empties : Nat
  colls : Nat
  crc : Nat
  late : Nat
  /-- The slot in progress has had a CRC error, or a late decision; they count with the slot (R247, R259). -/
  crcSlot : Bool
  lateSlot : Bool
  /-- Selects and Challenge still to send, the first in progress, and the 6.25 ns cycles until the next command (R243, R244). -/
  opening : List ReaderCmd
  left : Nat
  /-- What Chanter has sent, oldest first: before the Query all of the round, after it since the last slot boundary, a NAK
  that went before it included. -/
  sent : List ReaderCmd
  /-- Its Query has been sent (R246). -/
  queried : Bool
  /-- Consecutive empty slots at Q = QMIN (R246). -/
  run : Nat
  cold : Bool
  began : Nat
  /-- The end cause that falls due at the next slot boundary (R246). -/
  due : Option Nat
  rn16 : Nat
  best : Nat
  rxMask : Nat
  snr : Int
  spatial : Bool
  /-- ACKs sent for the slot's tag (R260). -/
  acks : Nat
  /-- The slot's outcome, when it is settled: 0 EMPTY, 1 COLLISION, 2 SINGLE. -/
  outcome : Nat
  tag : Nat
  pc : Nat
  /-- The XPC words read with it (R261). -/
  xpc : List Nat
  epc : Bytes
  /-- Device time of the reply's last symbol (R45). -/
  replyAt : Nat
  /-- Slots still to run on the singulated tag, in ascending number; the first is running in stage `access`. -/
  ops : List Nat
  /-- Tags on which each EACH_ROUND slot has run in this round (R271): slot, EPC. -/
  ran : List (Nat × Bytes)
  /-- Times the operation's present command has been sent again (R269). -/
  tries : Nat
  /-- The commands that the operation in progress still has to carry out, the present one first, with the tag's handle and
  the last word to cover with (R269). -/
  steps : List OpStep
  handle : Nat
  cover : Nat
  deriving DecidableEq, Repr

/-- What a zone keeps between rounds (R262, R263). -/
structure ZoneMem where
  /-- Its Qfp in 0.01, when it has one: cold otherwise. -/
  qfp : Option Nat
  /-- The target of its previous round under AB_TOGGLE. -/
  target : Option Nat
  /-- It has had a round since BOOT or the last wake (R263). -/
  warm : Bool
  deriving DecidableEq, Repr, Inhabited

/-- A result entry waiting (Table 7.10). -/
structure ResEntry where
  id : Nat
  data : Bytes
  deriving DecidableEq, Repr

/-- The engine. -/
structure Eng where
  rounds : Tab Round
  zones : Tab ZoneMem
  results : List ResEntry
  nextId : Nat
  /-- Bit n: access slot n is armed (R273). -/
  armed : Nat
  /-- Reads whose measurement block is not complete, by beam (R234). -/
  heard : Tab Read
  deriving DecidableEq, Repr, Inhabited

/-! ### The interlock, the array and Valve (chapters 5, 6, 9) -/

/-- What the interlock keeps for one entry of the region (R191, R192). -/
structure Permit where
  /-- Carrier-on time in µs by 1 s bin, the current bin first. -/
  bins : List Nat
  /-- Continuous carrier-on and carrier-off time in µs. -/
  run : Nat
  off : Nat
  /-- Withdrawn under the dwell rule, or under the continuous rule. -/
  noDwell : Bool
  noCont : Bool
  deriving DecidableEq, Repr, Inhabited

/-- The interlock (retention domain). -/
structure Ilk where
  permits : Tab Permit
  /-- µs into the current 1 s bin, and 25 ns ticks into the current µs. -/
  binUs : Nat
  sub : Nat
  /-- A power-on found the retention domain unpowered, and no region has come into force since: its entries are loaded
  when one does (R191). -/
  fresh : Bool
  /-- µs since that power-on, until a region has come into force. -/
  age : Nat
  deriving DecidableEq, Repr, Inhabited

/-- A survey that runs (R220): what it took at its start, and the deviations by chain: channel in kHz, deviation in
360°/4,096. -/
structure Survey where
  tail : Nat
  az : Int
  el : Int
  acc : Tab (List (Nat × Int))
  deriving DecidableEq, Repr, Inhabited

/-- The tone bus and what gangs last measured (R34 to R36, R213 to R216), by leader. -/
structure ToneMem where
  khz : Nat
  time : Nat
  /-- QUAD_DIE_TEMP of each quad at the measurement. -/
  temps : Tab Int
  deriving DecidableEq, Repr, Inhabited

/-- A chain's weight in a receive beam (R224, R225): its magnitude, a_c in 1/10,000 times 10^(level/80), and its phase in
0.01°. The level is 0 in a STEERED beam; in a COMBINED one it is the preamble's amplitude over the noise power. -/
structure Weight where
  chain : Nat
  taper : Nat
  level : Int
  phase : Int
  deriving DecidableEq, Repr

/-- The array. -/
structure Arr where
  /-- Leaders waiting for the tone bus, the one measuring first, with the device time of the request (R35). -/
  bus : List (Nat × Nat)
  tone : Tab ToneMem
  /-- Leaders whose gang repeats its measurement, with the chains that failed the first (R215). -/
  repeats : Tab Nat
  survey : Option Survey
  /-- Consecutive failed known-answer tests by lane (R233). -/
  laneFails : Store
  /-- Receive beams withdrawn until reset (R334). -/
  rxGone : Nat
  /-- The weights of each STEERED receive beam (R224, R225), and those a COMBINED beam formed for the last reply (R224). -/
  weights : Tab (List Weight)
  /-- Transmit beams whose receive beams change at the next slot boundary (R226, R230). -/
  rxDue : Nat
  deriving DecidableEq, Repr, Inhabited

/-- A dwell of the plan (Table 9.7). -/
structure Dwell where
  start : Nat
  lenUs : Nat
  khz : Nat
  zone : Nat
  leader : Nat
  gang : Nat
  prof : Nat
  level : Int
  rx : Nat
  flags : Nat
  deriving DecidableEq, Repr, Inhabited

/-- A dwell that runs on a gang. -/
structure Running where
  d : Dwell
  /-- Device time at which it started. -/
  at_ : Nat
  /-- Quads of the gang still to lock, and whether the tone has been measured. -/
  unlocked : Nat
  toned : Bool
  /-- Its planned length has passed: no further round starts (R315). -/
  past : Bool
  /-- A hop released and waiting for the round's end (Sequence 4.1). -/
  hop : Option Nat
  /-- Drone is held unmodulated for POWER_UP_US before the next first command (R245). -/
  holding : Bool
  /-- Reed has converged, and Chanter may send its first command (R151). -/
  ready : Bool
  /-- A round of the dwell has started: with SELECT_EVERY = 0 the later ones send no Select (R243). -/
  begun : Bool
  /-- Locks its gang's quads have declared in it (R298). -/
  locks : Nat
  deriving DecidableEq, Repr, Inhabited

/-- What Valve remembers of a zone. -/
structure ZoneVal where
  /-- Start of its last round, since its last cold start (R313). -/
  last : Option Nat
  /-- Event 33 waits until both goals are met, and the last boundary found a goal missed (R317). -/
  missed : Bool
  low : Bool
  /-- Device times of its reads and round starts, and spans of its dwells, in the last 10 s. -/
  reads : List Nat
  starts : List Nat
  spans : List (Nat × Nat)
  deriving DecidableEq, Repr, Inhabited

/-- Valve. -/
structure Val where
  /-- Dwells of the plan not yet started, in start order. -/
  plan : List Dwell
  /-- Descriptors the interlock has passed and that have not started, by leader (R190). -/
  released : Tab Dwell
  running : Tab Running
  zones : Tab ZoneVal
  /-- Pass number and channels visited in the pass, by quad (R187). -/
  pass : Tab (Nat × Nat)
  /-- Events 12 and 13 wait for their re-arming (R324). -/
  capHeld : Bool
  derHeld : Bool
  /-- An HF transaction waits for room (R326), and one runs. -/
  hfWaits : Bool
  /-- The present channel of each gang, by leader (R318). -/
  chan : Store
  /-- Channels on which no dwell is planned until the permit returns (R193, R551). -/
  barred : List Nat
  /-- Stagger channels claimed: the first of the four (R327). -/
  claimed : Option Nat
  deriving DecidableEq, Repr, Inhabited

/-! ### The HF reader (chapter 12) -/

/-- Where a Breath detection stands (R418 to R420). -/
inductive BreathStep where
  | idle
  /-- The first pulse triggered; a second follows. -/
  | second
  /-- The confirmation burst runs; true once its guard time has ended. -/
  | confirming (sent : Bool)
  deriving DecidableEq, Repr, Inhabited

/-- HX, beside its objects. -/
structure Hf where
  /-- The operation that runs, and the device time of its write (R403). -/
  op : Option (Nat × Nat)
  /-- The argument and frame it started with (R410). -/
  arg : Nat
  cmd : Bytes
  /-- The frame that a RAW exchange sends, its flags and CRC as the part sets them (Table 12.3, R398). -/
  sent : Bytes
  /-- Device time since which the field is up. -/
  fieldAt : Option Nat
  /-- The guard time runs (R409). -/
  guarding : Bool
  session : Bool
  /-- The active card's number in HF_CARD_LIST (R404). -/
  active : Option Nat
  /-- Times the frame has been sent again (R407), and the last failure: true for CRC. -/
  resent : Nat
  badCrc : Bool
  /-- Event 58 has been latched in this session, and milliseconds of excess phase (R412). -/
  warned : Bool
  excess : Nat
  /-- A Slide full calibration runs, or falls due at the next field rise (R413, R415). -/
  calRuns : Bool
  calDue : Bool
  /-- Device times of the PLL's last unlocks (R417). -/
  unlocks : List Nat
  /-- The TEST field is up (R86). -/
  test : Bool
  /-- Breath's baseline: amplitude and phase, in 1/64 (R421); a failed baseline is being repeated. -/
  amp : Int
  phase : Int
  again : Bool
  step : BreathStep
  /-- Device times of the false detections of the last 60 s (R421). -/
  falses : List Nat
  /-- Device time at which a wake cut a confirmation burst (R422). -/
  cutAt : Option Nat
  deriving DecidableEq, Repr, Inhabited

/-! ### The tracker (chapter 8) -/

/-- What a track keeps of a read for the speed and range estimates (R286, R297, R298). -/
structure TrackPt where
  time : Nat
  khz : Nat
  beam : Nat
  dwell : Nat
  lock : Nat
  /-- POS_VALID and not AMBIGUOUS, and the position then. -/
  placed : Bool
  x : Int
  y : Int
  /-- AZ_VALID and EL_VALID, with the road vector's X and Y and φ_r then. -/
  both : Bool
  dx : Int
  dy : Int
  phi : Int
  deriving DecidableEq, Repr

/-- An open track (R294, R295). -/
structure Track where
  tag : Nat
  cls : Nat
  partialBegin : Bool
  first : Nat
  last : Nat
  firstIn : Option Nat
  lastIn : Option Nat
  reads : Nat
  positioned : Nat
  /-- Votes by lane (R296). -/
  votes : Store
  /-- Its reads so far, for the speed and range estimates (R286, R297, R298). -/
  points : List TrackPt
  /-- Range fits use its reads from here on: earlier ones were lost with a line of LOC (Table 11.3). -/
  fitFrom : Nat
  deriving DecidableEq, Repr

/-- One lane's counts in an interval. -/
structure LaneCnt where
  withN : Nat
  againstN : Nat
  still : Nat
  sumWith : Nat
  sumAgainst : Nat
  best : Option Nat
  coarse : Nat
  deriving DecidableEq, Repr, Inhabited

/-- A count interval not yet published (R302 to R304). -/
structure Ival where
  start : Nat
  stop : Nat
  short : Bool
  lanes : Tab LaneCnt
  unassigned : Nat
  partialN : Nat
  late : Nat
  deriving DecidableEq, Repr, Inhabited

/-- The tracker; intervals oldest first, the last one in progress. -/
structure Trk where
  tracks : List Track
  startedAt : Nat
  ivals : List Ival
  deriving DecidableEq, Repr

/-- The TEST carrier (R86): the request held and the level in force. -/
structure TestC where
  quads : Nat
  unlocked : Nat
  toned : Bool
  deriving DecidableEq, Repr, Inhabited

/-! ### The store (chapter 11) -/

/-- The store's repair and retirement: rows by number in MX, lines by region and number. -/
structure Mem where
  /-- Rows due for repair, oldest first (R392). -/
  due : List Nat
  /-- Device times of the outer corrections of the last 24 h, by row (R392). -/
  corrected : Tab (List Nat)
  /-- The retirement list in CX NVM (R393). -/
  retired : List (Nat × Nat)
  /-- The spare map: the rows that a spare row stands for, and those of them in the map that CX NVM holds (R392). -/
  rows : List Nat
  mapRows : List Nat
  deriving DecidableEq, Repr

/-! ### Board-side ports (chapter 14) -/

/-- The contents of a flash: bytes by address, addresses rising; an address not listed reads 0xFF (log entry 26). -/
abbrev Memory := List Host.Cell

/-- An SPC operation queued or running, with the values of its write (R477, R478). -/
structure SpcOp where
  code : Nat
  flash : Nat
  addr : Nat
  len : Nat
  data : Bytes
  since : Nat
  deriving DecidableEq, Repr, Inhabited

/-- Where a TWB transfer stands: running, stopped by a conflict until the lines are high, or waiting to start again
(R485). -/
inductive TwbPhase where
  | idle | running | conflict | again
  deriving DecidableEq, Repr, Inhabited

/-- The board settings that BOOT takes from the board record (R471): flashes fitted, selects of flashes 1 to 3, SCK code. -/
structure BoardRec where
  count : Nat
  selects : List Nat
  sck : Nat
  deriving DecidableEq, Repr, Inhabited

/-- The board-side ports. -/
structure Brd where
  flash : Tab Memory
  /-- SPC's read path to flash 0 (R474): the prefetch buffer holds bytes of it, flash 0 is in continuous-read mode, and the
  mode-exit transactions sent to it since reset. -/
  prefetch : Bool
  continuous : Bool
  modeExits : Nat
  /-- Levels of the output pins (R486, R488). -/
  gpioOut : Nat
  spc : Option SpcOp
  twb : TwbPhase
  /-- The transfer's address, bytes to write and bytes to read. -/
  twbAddr : Nat
  twbData : Bytes
  twbLen : Nat
  /-- Retries left, and whether this TWB_GO has had a conflict counted (R485). -/
  twbLeft : Nat
  twbSeen : Bool
  /-- TWB_SCL is held low after an SCL timeout (R484). -/
  sclHeld : Bool
  /-- The settings in force since BOOT, and the board record in CX NVM (R471). -/
  inForce : BoardRec
  stored : Option BoardRec
  deriving DecidableEq, Repr, Inhabited

/-- The link record in CX NVM (R426, R427): CAN_LINES, the rates, CAN_NODE_ID_BASE and HEARTBEAT_TIME. -/
structure LinkRec where
  lines : Nat
  nominal : Nat
  data : Nat
  base : Nat
  heartbeat : Nat
  deriving DecidableEq, Repr, Inhabited

/-- An accepted SPT request that executes (R435): the device time at which it was accepted, and the entry whose answer is
held (R425). -/
structure SptReq where
  opc : Nat
  tag : Nat
  body : Bytes
  since : Nat
  entry : Nat
  deriving DecidableEq, Repr, Inhabited

/-- A held SPT response (Table 13.4). -/
structure SptRsp where
  opc : Nat
  tag : Nat
  result : Nat
  body : Bytes
  deriving DecidableEq, Repr, Inhabited

/-- A segmented USDO transfer that is open (R456): the object's address, its direction, the size announced and the bytes
received, or the bytes still to send. -/
structure Xfer where
  key : Nat
  down : Bool
  size : Nat
  data : Bytes
  deriving DecidableEq, Repr, Inhabited

/-- What the USDO server last answered: a confirmation, data of which `left` bytes follow in segments, or an abort. -/
inductive UsdoRsp where
  | done
  | data (d : Bytes) (left : Nat)
  | abort (code : Nat)
  deriving DecidableEq, Repr

/-- A TPDO: SYNCs counted since it was last assembled, the frame that waits, and the device time of its last sending
(R459). -/
structure Tpdo where
  count : Nat
  frame : Option Bytes
  sentAt : Option Nat
  deriving DecidableEq, Repr, Inhabited

/-- What the host links hold. -/
structure Io where
  /-- The link record in CX NVM, and the one in force since BOOT (R426, R427). -/
  linkRec : Option LinkRec
  inForce : LinkRec
  /-- The data of the last read answered on each link, by link code. -/
  data : Tab Bytes
  /-- SPT: the request that executes, the response held, and the bytes shifted out in the last transaction. -/
  spt : Option SptReq
  rsp : Option SptRsp
  miso : Bytes
  /-- TWA: the reply held after its status byte, or the window from its pointer (R447), and the bytes last sent. -/
  twaReply : Option Bytes
  twaWindow : Bool
  twaPtr : Nat
  twaOut : Bytes
  /-- The open DOM_WRITE transfer: its object and its bytes (R446). -/
  twaDom : Option (Nat × Bytes)
  /-- Firmware slots that failed verification: bit 0 A, bit 1 B (Table 13.7). -/
  slotFail : Nat
  /-- The mailbox of the pointer window (Table 13.7). -/
  mbxCmd : Nat
  mbxState : Nat
  mbxResult : Nat
  mbxLen : Nat
  mbxOffset : Nat
  mbxData : Bytes
  /-- CAN: the frames the last sending command sent, the open USDO transfer, and the server's last answer. -/
  canOut : List CanFrame
  usdo : Option Xfer
  usdoOut : Option UsdoRsp
  tpdo : Tab Tpdo
  /-- The fragment counter of TPDO 0 (Table 13.10). -/
  frag : Nat
  /-- Device time of the last EMCY sent (R463). -/
  emcyAt : Option Nat
  /-- Controllers for which event 49 waits until they are error active again (R453). -/
  passive : Nat
  /-- The answer that a write which resets the part got before its reset took the rest (R58). -/
  said : Option (Link × Result)
  deriving DecidableEq, Repr, Inhabited

/-- The block raises no fault of the model: every command answers a next state. -/
inductive Fault where
  deriving DecidableEq, Repr

/-- Refusals of the model. -/
inductive Refusal where
  /-- A command that has no meaning yet: raised by its arm of `exec` only; safe, the step stops. -/
  | notModelled (mnemonic : String)
  deriving DecidableEq, Repr

/-- The state. -/
structure State where
  variant : Variant
  /-- Objects of up to 8 bytes, raw, by address; an object not listed reads its default (`Dict.dflt`). An RWS or LOCK
  object's value here is its committed value. -/
  regs : Store
  /-- Block objects, by address. -/
  doms : DomStore
  mode : Mode
  sys : Sys
  tim : Tim
  shadows : List Shadow
  cfg : Cfg
  ev : Ev
  chk : Chk
  sec : Sec
  hlt : Hlt
  hubs : Tab Hub
  quads : Tab Quad
  chains : Tab Chain
  sweep : Option Sweep
  rep : Rep
  eng : Eng
  ilk : Ilk
  arr : Arr
  val : Val
  trk : Trk
  hf : Hf
  testC : Option TestC
  mem : Mem
  brd : Brd
  io : Io
  /-- Draws of free values made (log entry 5); the model's own field. -/
  free : Nat
  /-- Commands that wait, first in first out. -/
  pending : List Instr
  deriving DecidableEq, Repr

/-! ### Reset -/

/-- Modes and clocks while reset is held (R59, R67). -/
def Sys.reset : Sys :=
  { phase := .resetHeld, testen := false, twaAs := 0, canId := 0, vioA33 := true, vioB33 := true, node := 0, busy := 0,
    firing := none, resetDue := none, unacked := 0, alertOff := false, trans := none, refLost := false, pllLost := false, timeOn := false, sptUp := false,
    twaUp := false, canUp := false, bootReason := 0, noFirmware := false, validConfig := false, commitBad := false,
    wakeBits := 0, wakeRun := false, wakeAt := 0, sweepDone := false, lx01 := .cx, lx23 := .off, softStart := 0 }

/-- The state of a part of a variant at its first power-on, POR released and RESET_N low: every object at its default
(R54 and the chapters' tables), memories blank, mode BOOT, cause POWER_ON (R556). What the spec gives no value for is
zero or empty (log entry 1). -/
def State.resetOf (v : Variant) : State :=
  { variant := v, regs := [], doms := [], mode := .boot, sys := Sys.reset, tim := ⟨0, 0, 0, 0, 0, false⟩, shadows := [],
    cfg := ⟨[], [], [], none, none, none, none, none, none, none⟩, ev := ⟨[], [], [], [], [], [], []⟩, chk := ⟨[], none, 0⟩,
    sec := ⟨none, none, none, none, false, 0, none, none, none, 0, 0, .idcode⟩,
    hlt := ⟨true, true, true, 0, 0, 0, 0, none, 0⟩, hubs := [], quads := [], chains := [], sweep := none,
    rep := ⟨[], 0, false, false, [], 0, [], 0, [], [], [], [], [], []⟩, eng := ⟨[], [], [], 1, 0, []⟩,
    ilk := ⟨[], 0, 0, true, 0⟩, arr := ⟨[], [], [], none, [], 0, [], 0⟩,
    val := ⟨[], [], [], [], [], false, false, false, [], [], none⟩, trk := ⟨[], 0, []⟩, hf := default, testC := none,
    mem := ⟨[], [], [], [], []⟩, brd := { (default : Brd) with inForce := ⟨1, [1, 2, 3], 0⟩ }, io := default, free := 0,
    pending := [] }

/-- The machine right after reset: an SV8-84, the largest variant (log entry 28). -/
def State.reset : State := State.resetOf .sv84

end Sys2Proof.Machine
end

