-- ==== Sys2Proof/Machine/Ops.lean ====
section
/-! DEFINITION. The named operations over the state: reading and writing objects, group updates (R129), the status byte
(R87), latching an event (R557 to R559, R562), and serving a host's request (R92, R93, R96). -/

namespace Sys2Proof.Machine

/-! ### Names and codes -/

/-- Mode codes (Scope). -/
def Mode.code : Mode → Nat
  | .boot => 0 | .hold => 1 | .ready => 2 | .run => 3 | .watch => 4 | .test => 5

/-- Result codes of Table 3.4. -/
def Result.code : Result → Nat
  | .ok => 0 | .busy => 1 | .notReady => 2 | .denied => 3 | .range => 4 | .check => 5 | .synthUnlocked => 6
  | .regulatory => 7 | .noCredit => 8 | .markLost => 9 | .busStuck => 10 | .busConflict => 11
  | .configInvalid => 12 | .mode => 13 | .noObject => 14 | .fault => 15

/-- Link codes: 1 SPT, 2 TWA, 3 CAN FD (STREAM_LINK, SESSION_LINK, Table 17.6). -/
def Link.code : Link → Nat
  | .spt => 1 | .twa => 2 | .can => 3

/-- The link's *_LAST_RESULT (Table 3.7). -/
def Link.lastResult : Link → Nat
  | .spt => Reg.SPT_LAST_RESULT | .twa => Reg.TWA_LAST_RESULT | .can => Reg.CAN_LAST_RESULT

/-! ### Objects -/

/-- The value of a numeric object: the one held, or its default. For an RWS or LOCK object, the committed value. -/
def State.get (s : State) (k : Nat) : Nat :=
  (Tab.find s.regs k).getD (Dict.dflt s.variant s.sys.node k)

/-- The value of a signed 16-bit object. -/
def State.i16 (s : State) (k : Nat) : Int := toInt 16 (s.get k)

/-- The value of a signed 32-bit object. -/
def State.i32 (s : State) (k : Nat) : Int := toInt 32 (s.get k)

/-- The value of a block object. -/
def State.dom (s : State) (k : Nat) : Bytes := (Tab.find s.doms k).getD (Dict.domDflt s.variant k)

/-- An object that is present (R4, R84). -/
def State.object (s : State) (k : Nat) : Option Found := (Dict.find k).filter fun f => f.present s.variant s.mode

/-- A numeric object written by the part. -/
def State.put (s : State) (k v : Nat) : State := { s with regs := Tab.put s.regs k v }

/-- A block object written by the part. -/
def State.putDom (s : State) (k : Nat) (b : Bytes) : State := { s with doms := Tab.put s.doms k b }

/-- Several objects written. -/
def State.puts (s : State) : List (Nat × Nat) → State
  | [] => s
  | (k, v) :: r => (s.put k v).puts r

/-- A group update has ended: its sequence sub-index has risen by 2 (R129). -/
def State.seq (s : State) (q : Nat) : State := s.put q ((s.get q + 2) % 2 ^ 32)

/-- A group update: the members written and the sequence sub-index counted (R129). -/
def State.record (s : State) (q : Nat) (kvs : List (Nat × Nat)) : State := (s.puts kvs).seq q

/-- A group update, when a member changes (R129). -/
def State.recordIf (s : State) (q : Nat) (kvs : List (Nat × Nat)) : State :=
  if kvs.all fun p => s.get p.1 = p.2 then s else s.record q kvs

/-- A U32 counter counts one more, modulo 2^32 (log entry 6). -/
def State.bump (s : State) (k : Nat) : State := s.put k ((s.get k + 1) % 2 ^ 32)

/-- A U32 counter counts `n` more. -/
def State.add (s : State) (k n : Nat) : State := s.put k ((s.get k + n) % 2 ^ 32)

/-- A counter of 64 bits in two linked parts counts `n` more (R371). -/
def State.addWide (s : State) (lo n : Nat) : State :=
  let v := s.get lo + 2 ^ 32 * s.get (lo + 1) + n
  (s.put lo (v % 2 ^ 32)).put (lo + 1) (v / 2 ^ 32 % 2 ^ 32)

/-- The greater of the held value and `v`. -/
def State.raise (s : State) (k v : Nat) : State := s.put k (max (s.get k) v)

/-- `n` received checks of unit `u`'s streams are made, `bad` of them failing; unit 3 makes those of a failed unit
(R512, R514). -/
def State.checked (s : State) (u n bad : Nat) : State :=
  let w := if s.get (Reg.CHK_UNIT_STATE u) = 1 then 3 else u
  s.record (Reg.CHK_SEQ w)
    [(Reg.CHK_CHECKED w, (s.get (Reg.CHK_CHECKED w) + n) % 2 ^ 32), (Reg.CHK_FAILED w, (s.get (Reg.CHK_FAILED w) + bad) % 2 ^ 32)]

/-- A free value is drawn (log entry 5). -/
def State.draw (s : State) : Nat × State := (Config.freeValue s.free, { s with free := s.free + 1 })

/-! ### Quads, chains, zones present -/

/-- Present quads, ascending. -/
def State.quadList (s : State) : List Nat := List.range (Variant.quads s.variant)

/-- Present chains, ascending. -/
def State.chainList (s : State) : List Nat := List.range (4 * Variant.quads s.variant)

/-- The chains of a quad. -/
def chainsOf (q : Nat) : List Nat := [4 * q, 4 * q + 1, 4 * q + 2, 4 * q + 3]

def State.quad (s : State) (q : Nat) : Quad := Tab.get s.quads q
def State.chain (s : State) (c : Nat) : Chain := Tab.get s.chains c
def State.hub (s : State) (h : Nat) : Hub := Tab.get s.hubs h

/-- A quad's hidden part changed. -/
def State.updQuad (s : State) (q : Nat) (f : Quad → Quad) : State := { s with quads := Tab.upd s.quads q f }

/-- A chain's hidden part changed. -/
def State.updChain (s : State) (c : Nat) (f : Chain → Chain) : State := { s with chains := Tab.upd s.chains c f }

/-- A hub's link changed. -/
def State.updHub (s : State) (h : Nat) (f : Hub → Hub) : State := { s with hubs := Tab.upd s.hubs h f }

/-- Whether quad `q` is in service: present and not OUT (QUAD_STATE 5). -/
def State.quadIn (s : State) (q : Nat) : Bool := q < Variant.quads s.variant && s.get (Reg.QUAD_STATE q) != 5

/-- Whether chain `c` is in service: present, enabled, without fault (R139). CHAIN_FAULT bit 3 does not count: R156
lets Drone continue under it, and clears it only by converging with Drone held (log entry 9). -/
def State.chainIn (s : State) (c : Nat) : Bool :=
  c < 4 * Variant.quads s.variant && s.get (Reg.CHAIN_ENABLE c) = 1 && clrBit (s.get (Reg.CHAIN_FAULT c)) 3 = 0

/-! ### The status byte (R87, R88) -/

/-- Whether event `e` is latched. -/
def State.latched (s : State) (e : Nat) : Bool := (s.get Reg.EVT_LATCHED).testBit e

/-- The critical bits of FAULT_ACTIVE (Table 17.4). -/
def State.critical (s : State) : Nat := s.get Reg.FAULT_ACTIVE &&& 0x1FF

/-- Whether the part is derated (R324). -/
def State.derated (s : State) : Bool := (s.get Reg.FAULT_ACTIVE).testBit 16

/-- Events enabled on any path (EVT_PENDING). -/
def State.pendingEvents (s : State) : Nat :=
  s.get Reg.EVT_LATCHED &&& (s.get Reg.EVT_EN_ATTN ||| s.get Reg.EVT_EN_ALERT ||| s.get Reg.EVT_EN_IRQ |||
    s.get Reg.EVT_EN_EMCY)

/-- ATTN (R558): an event latched and enabled on any path; 0 throughout BOOT (R69). -/
def State.attn (s : State) : Bool := s.mode != .boot && s.pendingEvents != 0

/-- The event of a critical source is latched (Table 17.4). -/
def State.sourceEvent (s : State) : Nat → Bool
  | 0 => s.latched 9
  | 1 | 6 | 8 => s.latched 11
  | 2 => s.latched 17
  | 3 | 4 => s.latched 47
  | 5 => s.latched 61
  | 7 => s.latched 28 || s.latched 29
  | _ => false

/-- FAULT (Table 2.7): HOLD with reason 1, 2 or 5, or derated, until the cause is gone and its event acknowledged
(log entry 7). -/
def State.faultBit (s : State) : Bool :=
  let why := s.get Reg.HOLD_REASON
  (s.mode = .hold &&
    ((why = 1 && (s.sys.refLost || s.latched 16)) ||
     (why = 2 && (s.critical != 0 || (bitsOf 9 s.sys.unacked).any s.sourceEvent)) ||
     (why = 5 && (s.sys.commitBad || s.latched 2)))) ||
  s.derated || s.latched 13

/-- The enabled stream bound to a link (R344, R428). -/
def State.streamOf (s : State) (l : Link) : Option Nat :=
  (List.range 3).find? fun i => s.get (Reg.STREAM_ENABLE i) = 1 && s.get (Reg.STREAM_LINK i) = Link.code l

/-- CREDIT (Table 2.7): the bound stream's credits are at or below CREDIT_LOW. -/
def State.creditBit (s : State) (l : Link) : Bool :=
  match s.streamOf l with
  | none => false
  | some i => s.get (Reg.CREDITS i) ≤ s.get (Reg.CREDIT_LOW i)

/-- The status byte as link `l` carries it (R87, R88). -/
def State.status (s : State) (l : Link) : Nat :=
  ofBool s.attn * 128 + ofBool s.faultBit * 64 + ofBool (!s.cfg.staged.isEmpty) * 32 +
    ofBool (s.creditBit l) * 16 + ofBool (bit s.sys.busy (Link.code l)) * 8 + Mode.code s.mode

/-- ERROR_REGISTER (R464). -/
def State.errorRegister (s : State) : Nat :=
  let e := s.get Reg.EVT_LATCHED
  let named := maskOf [8, 9, 10, 11, 48, 49, 50, 51]
  ofBool s.faultBit + ofBool (s.latched 10 || s.latched 11) * 4 + ofBool (s.latched 8 || s.latched 9) * 8 +
    ofBool (e &&& maskOf [48, 49, 50, 51] != 0) * 16 + ofBool (clrMask e named != 0) * 128

/-- IRQ_N is driven low (R491). -/
def State.irqLow (s : State) : Bool :=
  s.sys.phase = .released && s.mode != .boot && s.get Reg.EVT_LATCHED &&& s.get Reg.EVT_EN_IRQ != 0

/-- TWA_ALERT_N is driven low (R448). -/
def State.alertLow (s : State) : Bool :=
  s.sys.phase = .released && s.mode != .boot && !s.sys.alertOff &&
    s.get Reg.EVT_LATCHED &&& s.get Reg.EVT_EN_ALERT != 0

/-! ### Events (R557 to R562) -/

/-- The class of an event's log entry (Table 17.3, Table 17.8), from the rule that raises it. -/
def Event.cls : Nat → Nat
  | 8 | 10 | 14 | 15 => 1
  | 11 | 18 | 21 | 25 | 26 | 30 | 47 | 58 | 59 | 22 => 2
  | 13 => 3
  | 9 | 17 | 61 => 4
  | _ => 0

/-- An EMCY is queued (R463): in the NMT states that send it, while COB_ID_EMCY lets it, and 16 wait at most. -/
def State.queueEmcy (s : State) (e : Emcy) : State :=
  if s.get Reg.CAN_NMT_STATE = 0x04 || bit (s.get Reg.COB_ID_EMCY) 31 then s
  else if s.ev.emcy.length < 16 then { s with ev := { s.ev with emcy := s.ev.emcy ++ [e] } }
  else (s.bump Reg.EMCY_DROPPED).seq Reg.CANSTATE_SEQ

/-- An occurrence enters the log buffer, and LOG_PENDING counts it, when its mask bit is set or it is a critical fault (R562). -/
def State.logEvent (s : State) (crit : Bool) (cls e a b : Nat) : State :=
  if crit || (s.get Reg.EVT_LOG_MASK).testBit e then
    if s.ev.log.length < 64 then
      let t : State := { s with ev := { s.ev with log := s.ev.log ++ [⟨s.tim.now, e, s.status .can, cls, a, b⟩] } }
      t.seq Reg.LOGS_SEQ
    else (s.bump Reg.LOG_DROPPED).seq Reg.LOGS_SEQ
  else s

/-- The bit, count, time and detail of an occurrence (R557). -/
def State.noteEvent (s : State) (e a b : Nat) : State :=
  let s1 := { s with ev := { s.ev with
    counts := Tab.put s.ev.counts e (min (Tab.get s.ev.counts e + 1) (2 ^ 32 - 1))
    times := Tab.put s.ev.times e s.tim.now
    detA := Tab.put s.ev.detA e a
    detB := Tab.put s.ev.detB e b } }
  (s1.put Reg.EVT_LATCHED (setBit (s1.get Reg.EVT_LATCHED) e)).seq Reg.EVTH_SEQ

/-- What a fresh latch delivers (R558): an EMCY where enabled, and TWA_ALERT_N driven again (R448). In BOOT it is held
until the end of BOOT (R69). -/
def State.deliver (s : State) (e : Nat) : State :=
  if s.mode = .boot then { s with ev := { s.ev with boot := s.ev.boot ++ [(e, s.tim.now)] } }
  else
    let s1 := if (s.get Reg.EVT_EN_ALERT).testBit e then { s with sys := { s.sys with alertOff := false } } else s
    if (s1.get Reg.EVT_EN_EMCY).testBit e then
      s1.queueEmcy ⟨0xFF00 + e, s1.errorRegister, s1.status .can, e, s1.tim.now⟩
    else s1

/-- An event occurs, with its details and the class its log entry carries (R557 to R559, R562). -/
def State.latchAs (s : State) (crit : Bool) (cls e a b : Nat) : State :=
  let fresh := !s.latched e
  let s1 := s.noteEvent e a b
  let s2 := s1.logEvent crit cls e a b
  let s3 := if fresh then s2.deliver e else s2
  if !s.irqLow && s3.irqLow then s3.bump Reg.IRQ_ASSERTIONS else s3

/-- An event occurs (R557), DETAIL_A naming the object `a` and DETAIL_B its value (R559). -/
def State.latch (s : State) (e a b : Nat) : State := s.latchAs false (Event.cls e) e a b

/-- When ATTN has fallen to 0, the EMCY of error code 0x0000 is sent (R463). -/
def State.attnFell (s : State) (before : Bool) : State :=
  if before && !s.attn then s.queueEmcy ⟨0, s.errorRegister, s.status .can, 0, s.tim.now⟩ else s

/-- Events acknowledged (R560). -/
def State.ackEvents (s : State) (mask : Nat) : State :=
  let before := s.attn
  let t := s.put Reg.EVT_LATCHED (clrMask (s.get Reg.EVT_LATCHED) mask)
  ({ t with hlt := { t.hlt with procHeld := if mask.testBit 14 then 0 else t.hlt.procHeld },
            sys := { t.sys with unacked := maskOf ((bitsOf 9 t.sys.unacked).filter t.sourceEvent) } }).attnFell before

/-! ### The supplies (R576, Sequence 18.1) -/

/-- PX takes LX0 and LX1 over from the CX bucks (Sequence 2.1 step 6), and its soft-start of LX2 and LX3 begins: 500 µs
(R576). Variants without PX keep the CX bucks. -/
def State.pxHandover (s : State) : State :=
  if Variant.big s.variant then { s with sys := { s.sys with lx01 := .px, softStart := 20000 } } else s

/-- 25 ns of the soft-start: at its end PX drives LX2 and LX3 (R576). -/
def State.softStartTick (s : State) : State :=
  if s.sys.softStart = 0 then s
  else { s with sys := { s.sys with softStart := s.sys.softStart - 1,
                                    lx23 := if s.sys.softStart = 1 then .px else s.sys.lx23 } }

/-- PX's main buck gives VMAIN (R576, Table 18.4). -/
def State.vmainUp (s : State) : Bool := s.sys.lx23 = .px

/-! ### Reset (R556, R577, and what CX NVM, OTP, flash and the retention domain keep) -/

/-- Objects kept over every reset: OTP and CX NVM (R118, R197, R392, R393, R471, R529, R530), the boot record's count
(R525), the log's place (R562), and what counts since power-on (Table 5.4). -/
def keptKeys : List Nat :=
  [Reg.RESET_CAUSE, Reg.RESET_DETAIL, Reg.LOG_SEQ_NEXT, Reg.LOG_HEAD, Reg.BOOT_COUNT, Reg.FW_SVN_FUSED, Reg.OWNER_LOCK,
   Reg.CONFIG_EPOCH_MIN, Reg.OWNER_BASE_CRC, Reg.LINES_RETIRED, Reg.DWELL_LIMIT_COUNT, Reg.DUTY_LIMIT_COUNT,
   Reg.PERMIT_REFUSALS, Reg.PERMIT_WITHDRAWALS, Reg.REGCNT_SEQ]

/-- Objects kept when the regulatory lock is set (R197). -/
def State.lockedKeys (s : State) : List Nat :=
  if s.get Reg.LOCK_STATE = 2 then
    [Reg.LOCK_STATE, Reg.LOCKED_CRC, Reg.REGION_ID, Reg.REG_MARGIN] ++ (List.range 16).map Reg.ANT_GAIN ++
      (List.range 16).map Reg.CABLE_LOSS
  else []

/-- What a table lists at some keys. -/
def Tab.only {α : Type} (t : Tab α) (ks : List Nat) : Tab α := t.filter fun p => ks.contains p.1

/-- Reset is held: everything that no store keeps is as it is after reset (R58, R59, R556). A reset that follows a lost
supply waits for POR release. -/
def State.resetPart (s : State) (cause detail : Nat) (phase : ResetPhase) : State :=
  let z := State.resetOf s.variant
  let t : State := { z with
    regs := (Tab.only s.regs (keptKeys ++ s.lockedKeys)),
    doms := Tab.only s.doms [Reg.OWNER_KEY, Reg.OWNER_KEY_ID],
    sys := { z.sys with phase := phase, vioA33 := s.sys.vioA33, vioB33 := s.sys.vioB33 },
    cfg := { z.cfg with rec0 := s.cfg.rec0, rec1 := s.cfg.rec1 },
    sec := { z.sec with debugFuse := s.sec.debugFuse, spoiled := s.sec.spoiled, draws := s.sec.draws },
    ilk := s.ilk,
    mem := { z.mem with retired := s.mem.retired, rows := s.mem.mapRows, mapRows := s.mem.mapRows },
    brd := { z.brd with flash := s.brd.flash, continuous := s.brd.continuous, stored := s.brd.stored },
    io := { z.io with linkRec := s.io.linkRec },
    free := s.free, pending := s.pending }
  t.puts [(Reg.RESET_CAUSE, cause), (Reg.RESET_DETAIL, detail), (Reg.SPARE_ROWS_USED, s.mem.mapRows.length)]

/-- The part resets as an accepted write asked (R58, R535). The write's answer has left the part. -/
def State.resets (s : State) : State :=
  match s.sys.resetDue with
  | none => s
  | some (l, cause, detail) =>
    let t := s.resetPart cause detail .resetHeld
    { t with io := { t.io with said := some (l, .ok), miso := s.io.miso, twaOut := s.io.twaOut, usdoOut := s.io.usdoOut } }

/-- An answer on link `l` has ended: the reset that `l` asked for follows it (R58). -/
def State.resetsFor (s : State) (l : Link) : State := if s.sys.resetDue.any fun d => d.1 = l then s.resets else s

/-! ### Serving a host's request (R92, R93, R96) -/

/-- The answer to a request: the link's last result, and its BUSY bit (R87, R96). -/
def State.answer (s : State) (l : Link) (r : Result) : State :=
  ({ s with sys := { s.sys with busy := putBit s.sys.busy (Link.code l) (decide (r = Result.busy)) } }).put
    (Link.lastResult l) (Result.code r)

/-- Whether the link takes requests at all: started in BOOT (Table 2.8), and USDO served in the NMT state
(Table 13.9). -/
def State.linkUp (s : State) (l : Link) : Bool :=
  s.sys.phase = .released &&
    match l with
    | .spt => s.sys.sptUp
    | .twa => s.sys.twaUp
    | .can => s.sys.canUp && s.get Reg.CAN_NMT_STATE != 0x04

/-- The USDO abort code of a result (Table 3.4): `hard` for a write that the access code forbids, `len` for a wrong length,
`sub` where the index exists. -/
def Result.abortCode (hard len sub : Bool) : Result → Nat
  | .ok | .markLost => 0
  | .busy => 0x060A0023
  | .notReady | .mode => 0x08000022
  | .denied => if hard then 0x06010002 else 0x08000021
  | .range => if len then 0x06070010 else 0x06090030
  | .check => 0x08000020
  | .synthUnlocked | .busStuck | .busConflict | .fault => 0x06060000
  | .regulatory => 0x06090031
  | .noCredit => 0x08000024
  | .configInvalid => 0x06040043
  | .noObject => if sub then 0x06090011 else 0x06020000

/-- The USDO server's answer; an abort frame is counted (Table 13.12). -/
def State.usdoAnswer (s : State) (r : UsdoRsp) : State :=
  if s.sys.phase != .released then s else
  let t : State := { s with io := { s.io with usdoOut := some r } }
  match r with
  | .abort _ => t.record Reg.CANSTATE_SEQ [(Reg.USDO_ABORTS, (t.get Reg.USDO_ABORTS + 1) % 2 ^ 32)]
  | _ => t

/-- The SPT response held (R436); a reset leaves none. -/
def State.sptAnswer (s : State) (q : SptReq) (r : Result) (body : Bytes) : State :=
  if s.sys.phase != .released then s
  else { s with io := { s.io with spt := none, rsp := some ⟨q.opc, q.tag, Result.code r, body⟩ } }

/-- The reply held on TWA (R441); a reset leaves none. -/
def State.twaAnswer (s : State) (r : Result) (more : Bytes) : State :=
  if s.sys.phase != .released then s
  else { s with io := { s.io with twaReply := some (BitVec.ofNat 8 (Result.code r) :: more), twaWindow := false } }

/-- A request that its link held as executing is answered (R425): the SPT response with its FAIL_ENTRY (Table 13.3), the
TWA reply, or the USDO response. -/
def State.endHeld (s : State) (l : Link) (r : Result) : State :=
  let t := s.answer l r
  match l with
  | .spt => match t.io.spt with
    | some q => t.sptAnswer q r (leBytes 1 (if r = .ok then 0xFF else q.entry) ++ leBytes 1 0)
    | none => t
  | .twa => t.twaAnswer r []
  | .can => match t.io.usdo with
    | some x =>
      if x.key = Reg.REG_LOCK_FIRE then
        ({ t with io := { t.io with usdo := none } }).usdoAnswer
          (if r = Result.ok then .done else .abort (Result.abortCode false false false r))
      else t
    | none => t

/-- The data a read answers on a link. -/
def State.give (s : State) (l : Link) (b : Bytes) : State :=
  { s with io := { s.io with data := Tab.put s.io.data (Link.code l) b } }

/-- A host's request: ignored while the link is not up; NOT_READY in BOOT, and in WATCH unless the request is served
there (R73, R76, R93); BUSY while the link holds a request as executing (R425), and no answer yet to one that it now
begins to hold so. A reset that the request asked for follows its answer (R58). -/
def State.request (s : State) (l : Link) (inWatch : Bool) (f : State → Result × State) : State :=
  if !s.linkUp l then s
  else if s.mode = .boot || (s.mode = .watch && !inWatch) then s.answer l .notReady
  else if s.sys.firing = some l then s.answer l .busy
  else
    let r := f s
    if r.2.sys.firing = some l || r.2.sys.phase != .released then r.2 else (r.2.answer l r.1).resetsFor l

/-- A request refused by the first failing check, otherwise carried out and answered OK. -/
def checks (l : List (Bool × Result)) (f : State → State) (s : State) : Result × State :=
  match l.find? (fun p => p.1) with
  | some p => (p.2, s)
  | none => (.ok, f s)

/-- A host's read: its result and data are answered on the link. -/
def State.read (s : State) (l : Link) (f : State → Result × Bytes × State) : State :=
  s.request l false fun t => let r := f t; (r.1, r.2.2.give l r.2.1)

end Sys2Proof.Machine
end

