-- ==== Sys2Proof/Machine/Link.lean ====
section
/-! DEFINITION. The die-to-die links (R21 to R32): flits as they are built, striped over the lanes, sent in the order of
their classes, acknowledged and resent; the CX fall-through chain and its consumers; and what a tick sends. -/

namespace Sys2Proof.Machine

/-- The two ends of a link. -/
def Hub.end_ (h : Hub) : LinkSide → LinkEnd
  | .cx => h.cx
  | .die => h.die

/-- One end changed. -/
def Hub.setEnd (h : Hub) (e : LinkEnd) : LinkSide → Hub
  | .cx => { h with cx := e }
  | .die => { h with die := e }

/-- One end of a link changed by a function. -/
def State.updEnd (s : State) (h : Nat) (side : LinkSide) (f : LinkEnd → LinkEnd) : State :=
  s.updHub h fun x => x.setEnd (f (x.end_ side)) side

/-- A link goes down, or comes up again, with both ends empty (Sequence 1.1). -/
def State.linkClear (s : State) (h width : Nat) (training : Bool) : State :=
  s.updHub h fun x => { x with width := width, training := training, cx := default, die := default, age := 0 }

/-! ### Flits (R22, R23) -/

/-- A received flit's type, stream, SEQ and payload (Table 1.3). -/
def readFlit (b : Bytes) : Flit := ⟨field b 0 1 / 16, field b 0 1 % 16, field b 1 1, slice b 4 24⟩

/-- Whether a flit counts as received bad (R22, R23, R26). -/
def flitBad (flit : Bytes) (codeErr : Bool) : Bool :=
  codeErr || flit.length != 32 || 8 ≤ field flit 0 1 / 16 || field flit 3 1 / 4 != 0 ||
    crc32 (flit.take 28) != field flit 28 4

/-- The traffic class of a flit type (Table 1.4); IDLE has none. -/
def flitClass : Nat → Option Nat
  | 1 | 2 => some 0
  | 3 | 4 | 5 => some 1
  | 6 | 7 => some 2
  | _ => none

/-- Whether a flit type travels to the end `side` (Table 1.4): DECISION and SCRIPT down to the die, FAULT, SAMPLES,
TELEMETRY and WIDEBAND up to CX, IDLE and REG both ways. -/
def flitTo (side : LinkSide) (type : Nat) : Bool :=
  match side with
  | .die => [0, 1, 5, 7].contains type
  | .cx => [0, 2, 3, 4, 6, 7].contains type

/-- The bytes of a flit that an end sends now (Table 1.3): every flit carries the acknowledge of the other direction, and
NAK where one is due (R25, R26). -/
def LinkEnd.flitBytes (e : LinkEnd) (f : Flit) : Bytes :=
  let body := leBytes 1 (16 * f.type + f.stream) ++ leBytes 1 f.seq ++ leBytes 1 (e.rxLast.getD 0) ++
    leBytes 1 (ofBool e.rxLast.isSome + 2 * ofBool e.nakDue) ++ padTo 24 f.payload
  body ++ leBytes 4 (crc32 body)

/-- A flit dealt over `n` active lanes: 32/n consecutive bytes on each, in ascending lane order (R22). Which bytes go on
which lane the spec does not say: DESIGN CHOICE, log entry 48. -/
def stripe (n : Nat) (flit : Bytes) : List Bytes := (List.range n).map fun i => slice flit (i * (32 / n)) (32 / n)

/-- The active lanes of the direction away from an end (R22, Sequence 1.1 step 5): upstream from the die, downstream from
CX. -/
def lanesFrom (h width : Nat) (side : LinkSide) : Nat :=
  if h = 4 then 1
  else match side with
    | .die => if width = 1 || width = 4 then 4 else 2
    | .cx => if width ≤ 3 then 2 else 1

/-- The flits of a direction in one tick of 25 ns, in sixteenths (Table 1.2, R32): 30.0, 15.0 and 7.5 M flits/s are 12, 6
and 3. -/
def flitRate (h width : Nat) (side : LinkSide) : Nat := 3 * lanesFrom h width side

/-! ### Sending (R24 to R27) -/

/-- A flit waits to be sent in its class (R24). -/
def LinkEnd.enqueue (e : LinkEnd) (type stream : Nat) (payload : Bytes) : LinkEnd :=
  let f : Flit := ⟨type, stream, 0, payload⟩
  match flitClass type with
  | some 0 => { e with class0 := e.class0 ++ [f] }
  | some 1 => { e with class1 := e.class1 ++ [f] }
  | some 2 => { e with class2 := e.class2 ++ [f] }
  | _ => e

/-- The new flit chosen at a flit boundary (R24): class 0 before class 1 before class 2, IDLE where nothing waits; and the
end without it. -/
def LinkEnd.choose (e : LinkEnd) : Flit × LinkEnd :=
  match e.class0, e.class1, e.class2 with
  | f :: r, _, _ => (f, { e with class0 := r })
  | [], f :: r, _ => (f, { e with class1 := r })
  | [], [], f :: r => (f, { e with class2 := r })
  | [], [], [] => (⟨0, 0, 0, List.replicate 24 0#8⟩, e)

/-- A flit boundary of an end with `n` active lanes: the next flit of a replay goes first, in the original order (R27);
otherwise a new flit, while fewer than 64 are unacknowledged (R25). A NAK due goes with it (R26). -/
def LinkEnd.send (e : LinkEnd) (n : Nat) : LinkEnd :=
  match e.again with
  | f :: r => { e with again := r, lanes := stripe n (e.flitBytes f), nakDue := false }
  | [] =>
    if 64 ≤ e.unacked.length then e
    else
      let c := e.choose
      let f := { c.1 with seq := e.txNext }
      { c.2 with txNext := (e.txNext + 1) % 256, unacked := e.unacked ++ [f], lanes := stripe n (e.flitBytes f), nakDue := false }

/-- One tick of an end's sender: flits leave at the rate of its lanes (Table 1.2). -/
def LinkEnd.sendTick (e : LinkEnd) (rate n : Nat) : LinkEnd :=
  if 16 ≤ e.beat + rate then { e with beat := e.beat + rate - 16 }.send n else { e with beat := e.beat + rate }

/-- The flits after an acknowledged SEQ in the replay buffer; all of them where it holds no such flit. -/
def afterAck (a : Nat) : List Flit → Option (List Flit)
  | [] => none
  | f :: r => if f.seq = a then some r else afterAck a r

/-- An acknowledge reaches a sender (R25): the flits up to it leave the replay buffer, and an advance starts the count of
resends afresh (R30). -/
def LinkEnd.ack (e : LinkEnd) (a : Nat) : LinkEnd :=
  match afterAck a e.unacked with
  | some r => { e with acked := some a, unacked := r, resends := if e.acked = some a then e.resends else 0 }
  | none => { e with acked := some a, resends := if e.acked = some a then e.resends else 0 }

/-- A replay starts (R27): every flit after ACK is sent again. -/
def LinkEnd.resend (e : LinkEnd) : LinkEnd := { e with resends := e.resends + 1, again := e.unacked }

/-! ### Consumers (R28, R29) -/

/-- A flit is handed to the consumer of its type and stream; IDLE, and a type that does not travel this way, carries
nothing for one. -/
def LinkEnd.deliver (e : LinkEnd) (side : LinkSide) (f : Flit) : LinkEnd :=
  { e with tookSeq := some f.seq,
           taken := if f.type != 0 && flitTo side f.type then Tab.put e.taken (16 * f.type + f.stream) f.payload else e.taken }

/-- The consumers of the CX chain read it once: the oldest flit leaves, and on an empty chain they stall (R28). -/
def LinkEnd.consume (e : LinkEnd) : LinkEnd :=
  match e.fifo with
  | [] => e
  | f :: r => { e with fifo := r }.deliver .cx f

/-- A flit accepted in sequence enters the CX chain; at the die's end it goes to its consumer at once. -/
def LinkEnd.accept (e : LinkEnd) (side : LinkSide) (f : Flit) : LinkEnd :=
  let e1 := { e with rxLast := some f.seq, discarding := false, nakDue := false }
  match side with
  | .cx => { e1 with fifo := e1.fifo ++ [f] }
  | .die => e1.deliver .die f

/-! ### The part's own flits -/

/-- A flit waits on a link that is up. Its payload's layout the spec does not give: the free `Config.flitBody` (log entry
48). -/
def State.sendFlit (s : State) (h : Nat) (side : LinkSide) (type stream : Nat) : State :=
  if (s.hub h).width = 0 then s
  else s.updEnd h side fun e => e.enqueue type stream (Config.flitBody type stream s.tim.now)

/-- The SAMPLES flits of a quad that carries Drone: six samples a flit at 4 Msps, so one flit per chain every 60 ticks; and
TELEMETRY every 10 µs (Table 1.4, R160; log entry 48). -/
def State.droneFlits (s : State) (h : Nat) : State :=
  let a := (s.hub h).age
  if 4 ≤ h || s.get (Reg.QUAD_STATE h) != 4 then s
  else
    let s1 := if a % 60 = 0 then (List.range 4).foldl (fun t k => t.sendFlit h .die 3 k) s else s
    if a % 400 = 0 then s1.sendFlit h .die 4 0 else s1

/-- What a quad sends of itself in one tick: the flits of Drone, and of a capture one WIDEBAND flit as the last has left (R86). -/
def State.quadFlits (s : State) (h : Nat) : State :=
  let t := s.droneFlits h
  let x := t.hub h
  if x.wide = 0 || !x.die.class2.isEmpty then t
  else (t.sendFlit h .die 6 x.wideOf).updHub h fun y => { y with wide := y.wide - 1 }

/-- One tick of one link that is up: both ends send, and the consumers of the CX chain read it (R24, R28). -/
def Hub.tick (x : Hub) (h : Nat) : Hub :=
  let cx := x.cx.consume.sendTick (flitRate h x.width .cx) (lanesFrom h x.width .cx)
  let die := x.die.sendTick (flitRate h x.width .die) (lanesFrom h x.width .die)
  { x with cx := cx, die := die, age := (x.age + 1) % 1200 }

/-- One tick of the links. -/
def State.linkTick (s : State) : State :=
  if s.hubs.all fun p => p.2.width = 0 then s
  else (List.range 5).foldl (fun t h => if (t.hub h).width = 0 then t else (t.quadFlits h).updHub h fun x => x.tick h) s

end Sys2Proof.Machine
end

