-- ==== Sys2Proof/Machine/Region.lean ====
section
/-! DEFINITION. Regulatory limits (chapter 5): the region tables, the committed channel list, EIRP and conducted power in
exact integer arithmetic, the interlock's judgement and its counters. -/

namespace Sys2Proof.Machine

/-! ### Region tables (Tables 5.1 to 5.3) -/

/-- A channel entry (Table 5.2); every shipped entry is usable. -/
structure ChanEntry where
  khz : Nat
  eirp : Int
  deriving DecidableEq, Repr, Inhabited

/-- A region table (Table 5.1). -/
structure Region where
  id : Nat
  name : Bytes
  hop : Bool
  minChannels : Nat
  condMax : Int
  windowMs : Nat
  dwellMaxUs : Nat
  contOnMs : Nat
  offMinMs : Nat
  entries : List ChanEntry
  deriving DecidableEq, Repr, Inhabited

/-- NONE. -/
def Region.none : Region := ⟨0, bytes [0x4E, 0x4F, 0x4E, 0x45, 0, 0, 0, 0], false, 0, 0, 0, 0, 0, 0, []⟩

/-- The channels of ETSI-L and ETSI-U (Table 5.3). -/
def etsiL : List ChanEntry := [⟨865700, 140⟩, ⟨866300, 140⟩, ⟨866900, 140⟩, ⟨867500, 140⟩]
def etsiU : List ChanEntry := [⟨916300, 152⟩, ⟨917500, 152⟩, ⟨918700, 152⟩, ⟨919900, 128⟩]

/-- The shipped tables by identifier (R183); `none` for a region not held in NVM. -/
def Region.ofId : Nat → Option Region
  | 0 => some Region.none
  | 1 => some ⟨1, bytes [0x45, 0x54, 0x53, 0x49, 0x2D, 0x4C, 0, 0], false, 1, 116, 0, 0, 4000, 100, etsiL⟩
  | 2 => some ⟨2, bytes [0x45, 0x54, 0x53, 0x49, 0x2D, 0x55, 0, 0], false, 1, 116, 0, 0, 4000, 100, etsiU⟩
  | 3 => some ⟨3, bytes [0x45, 0x54, 0x53, 0x49, 0x2D, 0x4C, 0x55, 0], false, 1, 116, 0, 0, 4000, 100, etsiL ++ etsiU⟩
  | 4 => some ⟨4, bytes [0x46, 0x43, 0x43, 0x2D, 0x31, 0x35, 0, 0], true, 50, 120, 20000, 400000, 0, 0,
      (List.range 50).map fun i => ⟨902750 + 500 * i, 144⟩⟩
  | _ => none

/-- The header's 32 bytes (Table 5.1); NONE's as R200 gives. -/
def Region.header (r : Region) : Bytes :=
  if r.id = 0 then padTo 32 r.name
  else r.name ++ leBytes 1 r.id ++ leBytes 1 r.entries.length ++ leBytes 2 (ofBool r.hop) ++ leBytes 1 r.minChannels ++
    leBytes 1 0 ++ leBytes 2 (ofInt 16 r.condMax) ++ leBytes 4 r.windowMs ++ leBytes 4 r.dwellMaxUs ++
    leBytes 2 r.contOnMs ++ leBytes 2 r.offMinMs ++ leBytes 2 1 ++ leBytes 2 0

/-- The channel entries (Table 5.2). -/
def Region.table (r : Region) : Bytes :=
  r.entries.flatMap fun e => leBytes 4 e.khz ++ leBytes 2 (ofInt 16 e.eirp) ++ bytes [1, 0]

/-- The region in force (R197: REGION_ID's OTP value after the lock is the value `get` reads). -/
def State.region (s : State) : Region := (Region.ofId (s.get Reg.REGION_ID)).getD Region.none

/-- The region viewed through VIEW_INDEX (R200). -/
def State.viewed (s : State) : Region :=
  if s.get Reg.VIEW_INDEX = 0 then s.region else (Region.ofId (s.get Reg.VIEW_INDEX)).getD Region.none

/-- Entry numbers with their channels of a region under a channel mask (R184). -/
def Region.channels (r : Region) (mask : Nat) : List (Nat × ChanEntry) :=
  ((List.range r.entries.length).zip r.entries).filter fun p => mask.testBit p.1

/-- The committed channel list (R184). -/
def State.channels (s : State) : List (Nat × ChanEntry) := s.region.channels (s.get Reg.CHANNEL_MASK)

/-- The entry of the committed channel list at a frequency. -/
def State.channelAt (s : State) (khz : Nat) : Option (Nat × ChanEntry) := s.channels.find? fun p => p.2.khz = khz

/-- The entry number of a frequency in the region in force. -/
def State.entryOf (s : State) (khz : Nat) : Nat :=
  ((((List.range s.region.entries.length).zip s.region.entries).find? fun p => p.2.khz = khz).map (·.1)).getD 0

/-- The lowest committed channel in kHz, 900,000 when the list is empty (Sequence 4.2). -/
def State.lowestKhz (s : State) : Nat := ((s.channels.head?).map (·.2.khz)).getD 900000

/-! ### Powers of ten in exact integers

The amplitudes and powers of R186 are compared as integers, to 24 places (log entry 8). -/

/-- 10^(i/80)·10^24 rounded down, for i from 0 to 79. -/
def tenPow : List Nat :=
  [1000000000000000000000000, 1029200527194428169862119, 1059253725177288878809280, 1090184492385127645707603,
  1122018454301963435591038, 1154781984689458179666482, 1188502227437018437730122, 1223207119049931548378190,
  1258925411794167210423954, 1295686697517019472302508, 1333521432163324025675931, 1372460961007561968824858,
  1412537544622754302155607, 1453784385607661833632603, 1496235656094433411880285, 1539926526059491989570485,
  1584893192461113485202101, 1631172909227838308813955, 1678804018122560313971950, 1727825980507863418529958,
  1778279410038922801225421, 1830206106311056048730877, 1883649089489800535000891, 1938652635952207316879749,
  1995262314968879601352455, 2053525026457146074605752, 2113489039836646795560345, 2175204034019522681942656,
  2238721138568339611954950, 2304092976055845607942493, 2371373705661655261651752, 2440619068041980328635255,
  2511886431509580111085032, 2585234839562190737657331, 2660725059798809634991311, 2738419634264361294188696,
  2818382931264453819101923, 2900681198693153682283246, 2985382618917959617913276, 3072557365267446687455463] ++
  [3162277660168379331998893, 3254617834980458775291573, 3349654391578276595487726, 3447466065731493806852909,
  3548133892335754584332187, 3651741272548377058249952, 3758374042884441673777109, 3868120546330521757567480,
  3981071705534972507702523, 4097321098135415007654980, 4216965034285822485690133, 4340102636447438364889478,
  4466835921509631185562505, 4597269885308721785050057, 4731512589614804789032711, 4869675251658631149352974,
  5011872336272722850015541, 5158221650723056738885028, 5308844442309883522004618, 5463865498818542127156765,
  5623413251903490803949510, 5787619883491206435510476, 5956621435290104605097982, 6130557921498207061676898,
  6309573444801932494343601, 6493816315762113151280328, 6683439175686146083625744, 6878599123088075983180053,
  7079457843841379108022149, 7286181745132277114577292, 7498942093324558273021842, 7717915155850124143743396,
  7943282347242815020659182, 8175230379436500065698449, 8413951416451950911527418, 8659643233600653523531691,
  8912509381337455299531086, 9172759353897795847008750, 9440608762859233803643804, 9716279515771061741673428]

/-- 10^(i/80)·10^64, for i from −3,200 upward. -/
def ten80 (i : Int) : Nat :=
  let d := i / 80
  let m := tenPow.getD (i % 80).toNat 0
  if 0 ≤ d + 40 then m * 10 ^ (d + 40).toNat else 0

/-- A linear power of a level in 0.25 dB: 10^(p/40), in the units of `ten80`. -/
def linPower (p : Int) : Nat := ten80 (2 * p)

/-- A linear amplitude of a level in 0.25 dB: 10^(p/80). -/
def linAmp (p : Int) : Nat := ten80 p

/-- Whether 20·log10 of a sum of amplitudes, rounded up to 0.25 dB, is at most `lim` (R186). -/
def ampWithin (sum : Nat) (lim : Int) : Bool := sum ≤ ten80 lim

/-- Whether 10·log10 of a sum of powers, rounded up to 0.25 dB, is at most `lim` (R186). -/
def powerWithin (sum : Nat) (lim : Int) : Bool := sum ≤ ten80 (2 * lim)

/-- The level in mW·1/1,000,000 (P of Table 9.2): 10^(p/40) mW. -/
def nanoWatt (p : Int) : Nat := linPower p / 10 ^ 58

/-! ### The interlock (R186, R190) -/

/-- A chain's contribution to EIRP in 0.25 dB: P_c − L_c + G_c (R186). -/
def State.eirpOf (s : State) (c : Nat) (p : Int) : Int := p - s.i16 (Reg.CABLE_LOSS c) + s.i16 (Reg.ANT_GAIN c)

/-- The entry of a channel. -/
def State.seed (s : State) (c khz : Nat) : Option Seed := (s.chain c).seeds.find? fun e => e.khz = khz

/-- Whether a channel's entry carries FLAGS bit 2. -/
def State.seedBad (s : State) (c khz : Nat) : Bool := ((s.seed c khz).map fun e => bit e.flags 2).getD false

/-- A chain may carry Drone in a dwell on a channel: in service, offered before the plan was built, and not flagged there
(R164, R318). -/
def State.chainPlanned (s : State) (khz c : Nat) : Bool := s.chainIn c && !(s.chain c).offered && !s.seedBad c khz

/-- The chains of a gang, ascending. -/
def gangChains (gang : Nat) : List Nat := (bitsOf 4 gang).flatMap chainsOf

/-- The chains carrying Drone on a channel with their levels: those whose quad is tuned to it and that are asked to. -/
def State.carrying (s : State) (khz : Nat) : List (Nat × Int) :=
  s.chainList.filterMap fun c =>
    if (s.quad (c / 4)).want = khz then (s.chain c).level.map fun p => (c, p) else none

/-- The chains that the descriptors in force on a channel bring to it, those that carry Drone now first (R190): a gang that
still tunes, or that waits for its tone, counts with the level of its descriptor. -/
def State.onChannel (s : State) (khz : Nat) : List (Nat × Int) :=
  let now := s.carrying khz
  now ++ ((s.val.running.filter fun p => p.2.d.khz = khz).flatMap fun p =>
    ((gangChains p.2.d.gang).filter fun c => s.chainPlanned khz c && !(now.map (·.1)).contains c).map fun c => (c, p.2.d.level))

/-- R186 for a set of chains on a channel of the region. -/
def State.within (s : State) (e : ChanEntry) (l : List (Nat × Int)) : Bool :=
  ampWithin ((l.map fun p => linAmp (s.eirpOf p.1 p.2)).sum) (e.eirp - s.i16 Reg.REG_MARGIN) &&
    powerWithin ((l.map fun p => linPower p.2).sum) (s.region.condMax - s.i16 Reg.REG_MARGIN) &&
    l.all fun p => p.2 ≤ s.i16 (Reg.TX_POWER_MAX p.1)

/-- The interlock's record of an entry. -/
def State.permit (s : State) (e : Nat) : Permit := Tab.get s.ilk.permits e

/-- The permit of an entry stands (R192). -/
def State.permitted (s : State) (e : Nat) : Bool := !(s.permit e).noDwell && !(s.permit e).noCont

/-- The interlock's check of a request for chains on a channel (R190). -/
def State.interlock (s : State) (khz : Nat) (l : List (Nat × Int)) : Bool :=
  match s.channelAt khz with
  | none => false
  | some (n, e) =>
    s.permitted n &&
      s.within e (((s.onChannel khz).filter fun p => !(l.map (·.1)).contains p.1) ++ l)

/-- A request the interlock refuses is counted (R190). -/
def State.refuse (s : State) : State := (s.bump Reg.PERMIT_REFUSALS).seq Reg.REGCNT_SEQ

/-- The window sum of an entry: the current bin and the preceding ⌈DWELL_WINDOW_MS/1,000⌉ (R191). -/
def State.windowSum (s : State) (e : Nat) : Nat :=
  ((s.permit e).bins.take (1 + ceilDiv s.region.windowMs 1000)).sum

/-- Whether any PA is enabled with its synthesiser locked on the channel (R191). -/
def State.carrierOn (s : State) (khz : Nat) : Bool :=
  s.chainList.any fun c =>
    [1, 2, 3].contains (s.get (Reg.CHAIN_STATE c)) && s.get (Reg.SYNTH_FREQ_KHZ (c / 4)) = khz

/-- One µs of an entry's counters (R191). -/
def Permit.count (on newBin : Bool) (keep : Nat) (p : Permit) : Permit :=
  let b := match p.bins with
    | [] => [ofBool on]
    | x :: r => if newBin then ofBool on :: x :: r else (x + ofBool on) :: r
  { p with bins := b.take keep, run := if on then p.run + 1 else 0, off := if on then 0 else p.off + 1 }

/-- CHANNEL_ON_US (Table 5.4). -/
def State.channelOnUs (s : State) : Bytes :=
  (List.range s.region.entries.length).flatMap fun e => leBytes 4 (s.windowSum e)

/-- One µs of the interlock's counters on every entry of the region in force (R191); REGCNT_SEQ counts where CHANNEL_ON_US
changes (R129). -/
def State.ilkMicro (s : State) : State :=
  let newBin := s.ilk.binUs + 1 = 1000000
  let keep := 1 + ceilDiv s.region.windowMs 1000
  let ps := (List.range s.region.entries.length).foldl
    (fun t e => Tab.upd t e (Permit.count (s.carrierOn ((s.region.entries.getD e default).khz)) newBin keep))
    s.ilk.permits
  let t := { s with ilk := { s.ilk with permits := ps, binUs := if newBin then 0 else s.ilk.binUs + 1,
                                        age := if s.ilk.fresh then s.ilk.age + 1 else s.ilk.age } }
  if t.channelOnUs = s.channelOnUs then t else t.seq Reg.REGCNT_SEQ

/-- One 25 ns tick of the interlock: its counters count at 1 MHz (R191). -/
def State.ilkTick (s : State) : State :=
  if s.ilk.sub + 1 = 40 then { s with ilk := { s.ilk with sub := 0 } }.ilkMicro
  else { s with ilk := { s.ilk with sub := s.ilk.sub + 1 } }

/-- The counters of the first region in force after a power-on that found the retention domain unpowered (R191): what they
would hold had its entries been loaded at that power-on, `age` µs ago (log entry 30). -/
def State.ilkLoad (s : State) : State :=
  let keep := 1 + ceilDiv s.region.windowMs 1000
  let p : Permit := { bins := (List.replicate (min keep (s.ilk.age / 1000000)) 0 ++ [s.region.dwellMaxUs - 10000]).take keep,
                      run := 0, off := s.ilk.age, noDwell := false,
                      noCont := s.region.contOnMs != 0 && s.ilk.age < s.region.offMinMs * 1000 }
  { s with ilk := { s.ilk with permits := (List.range 64).map fun e => (e, p), fresh := false } }

end Sys2Proof.Machine
end

