-- ==== Sys2Proof/Machine/Geometry.lean ====
section
/-! DEFINITION. Angles, directions and fits in exact integers (chapters 6 and 8): sine, cosine and argument, the direction
search of R281, the mounting of R288, the range fit of R286, and the speed estimates of R297 and R298. Log entry 47 says how
the spec's real-number formulas are carried out. -/

namespace Sys2Proof.Machine

/-! ### Sine, cosine and argument

Values are in units of 10^-18 and angles in radians·10^18 (log entry 8). -/

/-- A full turn in radians·10^18. -/
def fullTurn : Int := 6283185307179586477

/-- The terms of the sine or cosine series from the n-th, `t` being the present term and `x2` the square of the angle. -/
def series (x2 : Int) : Nat → Nat → Int → Int
  | 0, _, _ => 0
  | n + 1, k, t => t + series x2 n (k + 2) (-(t * x2 / 10 ^ 18) / ((k + 1) * (k + 2) : Nat))

/-- An angle in 0.01° as radians·10^18. -/
def radians (a : Int) : Int := a * fullTurn / 36000

/-- An angle brought to half a turn either side of 0. -/
def wrapTurn (a : Int) : Int :=
  let m := a % fullTurn
  if fullTurn < 2 * m then m - fullTurn else m

/-- The sine of an angle of at most half a turn. -/
def sinRad (x : Int) : Int := series (x * x / 10 ^ 18) 16 1 x

/-- The cosine of an angle of at most half a turn. -/
def cosRad (x : Int) : Int := series (x * x / 10 ^ 18) 16 0 (10 ^ 18)

/-- sin·10^18 of an angle in 0.01°. -/
def sin18 (a : Int) : Int := sinRad (radians a)

/-- cos·10^18 of an angle in 0.01°. -/
def cos18 (a : Int) : Int := cosRad (radians a)

/-- The argument of a point of the first quadrant, from `t` on in steps halving from `step`: the greatest angle up to
which the point lies to the left. -/
def argFrom (x y : Int) : Nat → Int → Int → Int
  | 0, t, _ => t
  | n + 1, t, step =>
    let u := t + step
    argFrom x y n (if 0 ≤ y * cosRad u - x * sinRad u then u else t) (step / 2)

/-- The argument of a complex number. -/
def argOf (re im : Int) : Int :=
  let a := argFrom re.natAbs im.natAbs 60 0 (fullTurn / 8)
  if 0 ≤ re then (if 0 ≤ im then a else -a) else (if 0 ≤ im then fullTurn / 2 - a else a - fullTurn / 2)

/-! ### Steering phases (R222) -/

/-- The direction cosines u and v of a direction in 0.01°, and w toward the array's z axis. -/
def cosines (az el : Int) : Int × Int × Int :=
  (sin18 az * cos18 el / 10 ^ 18, sin18 el, cos18 az * cos18 el / 10 ^ 18)

/-- x_c·u + y_c·v in 0.1 mm·10^-18. -/
def State.offset (s : State) (c : Nat) (az el : Int) : Int :=
  let d := cosines az el
  s.i16 (Reg.ELEMENT_X c) * d.1 + s.i16 (Reg.ELEMENT_Y c) * d.2.1

/-- ψ_c toward a direction at a channel, in 0.01° (R222). -/
def State.steer (s : State) (c khz : Nat) (az el : Int) : Int :=
  roundDiv (36000 * s.offset c az el * khz) (10 * 299792458 * 10 ^ 18)

/-- ψ_c in radians·10^18 (R222). -/
def State.steerRad (s : State) (c khz : Nat) (az el : Int) : Int :=
  fullTurn * s.offset c az el * khz / (10 * 299792458 * 10 ^ 18)

/-! ### The direction of a read (R281, R283) -/

/-- A measured chain's amplitude, in units of 10^-9, and its phase (R281). -/
def chainAmp (m : ChainMeas) : Int := (linAmp m.snr / 10 ^ 55 : Nat)
def chainAngle (m : ChainMeas) : Int := fullTurn * (m.phase.val : Int) / 4096

/-- The sum of R281 toward a direction. -/
def State.beamSum (s : State) (khz : Nat) (c : List ChainMeas) (az el : Int) : Int × Int :=
  c.foldl (fun (a : Int × Int) m =>
    let t := wrapTurn (chainAngle m - s.steerRad m.chain khz az el)
    (a.1 + chainAmp m * cosRad t / 10 ^ 18, a.2 + chainAmp m * sinRad t / 10 ^ 18)) (0, 0)

/-- P toward a direction (R281). -/
def State.beamPower (s : State) (khz : Nat) (c : List ChainMeas) (p : Int × Int) : Int :=
  let z := s.beamSum khz c p.1 p.2
  z.1 * z.1 + z.2 * z.2

/-- The first greatest of a list of directions with their powers. -/
def strongest (l : List ((Int × Int) × Int)) : Option ((Int × Int) × Int) :=
  l.foldl (fun b p => match b with
    | some q => if q.2 < p.2 then some p else b
    | none => some p) none

/-- The values `step` apart, up to `n` either side of a centre, that lie within ±`lim`. -/
def around (centre step lim : Int) (n : Nat) : List Int :=
  ((List.range (2 * n + 1)).map fun (k : Nat) => centre + step * ((k : Int) - n)).filter fun x => -lim ≤ x && x ≤ lim

/-- The directions of a search: all pairs, or azimuths alone at elevation 0. -/
def directions (both : Bool) (step lim : Int) (n : Nat) (c : Int × Int) : List (List (Int × Int)) :=
  (if both then around c.2 step lim n else [0]).map fun e => (around c.1 step lim n).map fun a => (a, e)

/-- The points of a table of powers that no neighbour exceeds. -/
def peaks (t : Array (Array ((Int × Int) × Int))) : List ((Int × Int) × Int) :=
  let at_ := fun (i j : Int) => if i < 0 || j < 0 then (-1 : Int) else
    (((t.getD i.toNat #[]).getD j.toNat ((0, 0), -1)).2)
  (List.range t.size).flatMap fun (i : Nat) =>
    let row := t.getD i #[]
    ((List.range row.size).filter fun (j : Nat) =>
      let v := at_ i j
      [(-1, -1), (-1, 0), (-1, 1), (0, -1), (0, 1), (1, -1), (1, 0), (1, 1)].all fun (d : Int × Int) => at_ (i + d.1) (j + d.2) ≤ v).map
      fun j => row.getD j ((0, 0), 0)

/-- The direction that maximises P, and whether a second local maximum lies within 1 dB of it (R281, R283): a grid of 0.5°,
each of whose peaks is refined to 0.01°. -/
def State.bestDirection (s : State) (khz : Nat) (c : List ChainMeas) (both : Bool) : (Int × Int) × Bool :=
  let lim := s.i16 Reg.STEER_LIMIT
  let f := s.beamPower khz c
  let grid := (directions both 50 lim (lim / 50).toNat (0, 0)).map fun row => (row.map fun p => (p, f p)).toArray
  let fine := (peaks grid.toArray).filterMap fun p =>
    strongest ((directions both 1 lim 50 p.1).flatten.map fun q => (q, f q))
  match strongest fine with
  | none => ((0, 0), false)
  | some b =>
    (b.1, fine.any fun q => (50 < (q.1.1 - b.1.1).natAbs || 50 < (q.1.2 - b.1.2).natAbs) && b.2 * 1000000000 ≤ q.2 * 1258925412)

/-! ### The road frame (R288) -/

/-- A plane turned by an angle in 0.01°. -/
def turned (a : Int) (p : Int × Int) : Int × Int :=
  let c := cos18 a
  let n := sin18 a
  ((p.1 * c - p.2 * n) / 10 ^ 18, (p.1 * n + p.2 * c) / 10 ^ 18)

/-- A direction of the array frame as a road vector·10^18 (R288): at zero angles the array's z, x and y axes point along
+X, −Y and +Z; roll turns up toward the right, tilt turns +X downward, and yaw turns about Z. -/
def State.roadVector (s : State) (az el : Int) : Int × Int × Int :=
  let d := cosines az el
  let r := turned (-s.i16 Reg.MOUNT_ROLL) (d.1, d.2.1)
  let t := turned (-s.i16 Reg.MOUNT_TILT) (d.2.2, r.2)
  let y := turned (s.i16 Reg.MOUNT_YAW) (t.1, -r.1)
  (y.1, y.2, t.2)

/-- The array origin (R288), in mm. -/
def State.mount (s : State) : Int × Int × Int := (s.i32 Reg.MOUNT_X, s.i32 Reg.MOUNT_Y, s.i32 Reg.MOUNT_HEIGHT)

/-- A signed quotient rounded to nearest. -/
def quotient (a b : Int) : Int := if 0 ≤ b then roundDiv a b.toNat else roundDiv (-a) b.natAbs

/-- The position on the plane of height `h`, for a direction at most −0.0349 in Z (R289). -/
def State.planePoint (s : State) (d : Int × Int × Int) (h : Int) : Int × Int :=
  let o := s.mount
  (o.1 + quotient (d.1 * (h - o.2.2)) d.2.2, o.2.1 + quotient (d.2.1 * (h - o.2.2)) d.2.2)

/-- The point at a range along a direction (R289), in mm. -/
def State.rangePoint (s : State) (d : Int × Int × Int) (r : Int) : Int × Int × Int :=
  let o := s.mount
  (o.1 + roundDiv (r * d.1) (10 ^ 18), o.2.1 + roundDiv (r * d.2.1) (10 ^ 18), o.2.2 + roundDiv (r * d.2.2) (10 ^ 18))

/-! ### Range (R285, R286) -/

/-- The runs of a channel list in which no two neighbours are more than 2 MHz apart. -/
def runsOf : List Nat → List (List Nat)
  | [] => []
  | k :: r => match runsOf r with
    | [] => [[k]]
    | [] :: t => [k] :: t
    | (x :: u) :: t => if x ≤ k + 2000 then (k :: x :: u) :: t else [k] :: (x :: u) :: t

/-- The qualifying run of the committed channel list (R285), in kHz. -/
def State.rangeRun (s : State) : Option (List Nat) :=
  (runsOf (s.channels.map fun p => p.2.khz)).find? fun l => 8 ≤ l.length && l.headD 0 + 10000 ≤ l.getLastD 0

/-- The read phase φ_r (R286): the argument of the sum of R281 at the estimated direction, less the phase of the mean of
the chains' factory path delays and ELEMENT_DELAYs. -/
def State.readPhase (s : State) (khz : Nat) (c : List ChainMeas) (az el : Int) : Int :=
  let z := s.beamSum khz c az el
  let ps := (c.map fun m => Config.factoryDelay m.chain + s.get (Reg.ELEMENT_DELAY m.chain)).sum
  wrapTurn (argOf z.1 z.2 - quotient (fullTurn * (khz * ps : Nat)) (c.length * 10 ^ 9 : Nat))

/-- One read of a range fit: channel in kHz, time before the newest read in ticks, and φ_r. -/
structure RangePt where
  khz : Nat
  ago : Nat
  phi : Int
  deriving DecidableEq, Repr

/-- How well a range in mm, and its rate in 0.01 km/h, fit some reads (R286): the greater, the less the circular residual
left once φ0 is chosen best. -/
def rangeFit (l : List RangePt) (r v : Int) : Int :=
  let z := l.foldl (fun (a : Int × Int) p =>
    let mm := r * 360000000 - 25 * v * p.ago
    let t := wrapTurn (p.phi + fullTurn * 2 * p.khz * mm / (299792458 * 360000000))
    (a.1 + cosRad t, a.2 + sinRad t)) (0, 0)
  z.1 * z.1 + z.2 * z.2

/-- The range that fits best, in steps of 10 mm up to `top`, with rates in steps of 0.01 km/h up to `vmax`; at the edge of
the interval there is none (R286, R287). -/
def bestRange (l : List RangePt) (top vmax : Nat) : Option Int :=
  let cells := (List.range (top / 10 + 1)).flatMap fun (k : Nat) =>
    (List.range (2 * vmax + 1)).map fun (j : Nat) => ((10 * (k : Int), (j : Int) - vmax))
  match strongest (cells.map fun p => (p, rangeFit l p.1 p.2)) with
  | none => none
  | some b => if 0 < b.1.1 && b.1.1 + 10 ≤ top then some b.1.1 else none

/-! ### Speed (R297, R298) -/

/-- The unit heading of a lane (R297). -/
def State.heading (s : State) (l : Nat) : Int × Int := (cos18 (s.i16 (Reg.LANE_HEADING l)), sin18 (s.i16 (Reg.LANE_HEADING l)))

/-- A vector along a heading, in its own units. -/
def along (h d : Int × Int) : Int := (d.1 * h.1 + d.2 * h.2) / 10 ^ 18

/-- The coarse speed in µm/s (R297): the least-squares slope against time of the position along the heading, from at least
6 placed reads that span at least 0.5 s. -/
def coarseSpeed (h : Int × Int) (pts : List TrackPt) : Option Int :=
  let l := pts.filter TrackPt.placed
  let t0 := (l.map fun p => p.time).foldl min ((l.map fun p => p.time).headD 0)
  let t1 := (l.map fun p => p.time).foldl max 0
  let n : Int := l.length
  let xs := l.map fun p => (((p.time - t0 : Nat) : Int), p.x * h.1 + p.y * h.2)
  let st := (xs.map fun p => p.1).sum
  let ss := (xs.map fun p => p.2).sum
  let stt := (xs.map fun p => p.1 * p.1).sum
  let sts := (xs.map fun p => p.1 * p.2).sum
  if 6 ≤ l.length && t0 + 20000000 ≤ t1 then
    some (quotient ((n * sts - st * ss) * 40000000000) ((n * stt - st * st) * 10 ^ 18))
  else none

/-- Two reads of a track make a pair (R298): one channel, dwell and transmit beam with no lock between, at most 25 ms
apart, both directions valid, and |d·h| at least 0.5 at their mid-point. -/
def paired (h : Int × Int) (a b : TrackPt) : Bool :=
  a.khz = b.khz && a.beam = b.beam && a.dwell = b.dwell && a.lock = b.lock && a.both && b.both &&
    a.time < b.time && b.time ≤ a.time + 1000000 && 10 ^ 18 ≤ (along h (a.dx + b.dx, a.dy + b.dy)).natAbs

/-- A pair's speed in µm/s, the phase difference unwrapped toward the one the coarse speed predicts (R298). -/
def pairSpeed (h : Int × Int) (coarse : Int) (a b : TrackPt) : Int :=
  let dh := along h (a.dx + b.dx, a.dy + b.dy) / 2
  let dt : Int := (b.time - a.time : Nat)
  let lambda2 : Int := 299792458000
  let predicted := quotient (-(fullTurn * dh * coarse * dt * 2 * a.khz)) (lambda2 * 40000000 * 10 ^ 18)
  let raw := wrapTurn (b.phi - a.phi)
  let d := raw + fullTurn * quotient (predicted - raw) fullTurn
  quotient (-(d * lambda2 * 40000000 * 10 ^ 18)) (fullTurn * 2 * a.khz * dt * dh)

/-- All the pairs of a list, earlier element first. -/
def pairsOf {α : Type} : List α → List (α × α)
  | [] => []
  | a :: r => r.map (a, ·) ++ pairsOf r

/-- The speed of a track along a heading in 0.01 km/h, and whether it is the coarse one (R297, R298): the mean of at least
8 pairs within 10 km/h of the coarse speed. -/
def trackSpeed (h : Int × Int) (pts : List TrackPt) : Option (Int × Bool) :=
  (coarseSpeed h pts).map fun c =>
    let ps := (pairsOf pts).map fun p => if p.1.time ≤ p.2.time then p else (p.2, p.1)
    let l := (ps.filter fun p => paired h p.1 p.2).map fun p => pairSpeed h c p.1 p.2
    let good := l.filter fun v => 36 * (v - c).natAbs ≤ 100000000
    if 8 ≤ good.length then (roundDiv (good.sum * 36) (good.length * 100000), false) else (roundDiv (c * 36) 100000, true)

/-! ### Lanes (R291, R292) -/

/-- A lane's vertices in mm. -/
def State.lane (c : State) (l : Nat) : List (Int × Int) :=
  [(c.i32 (Reg.LANE_X0 l), c.i32 (Reg.LANE_Y0 l)), (c.i32 (Reg.LANE_X1 l), c.i32 (Reg.LANE_Y1 l)),
   (c.i32 (Reg.LANE_X2 l), c.i32 (Reg.LANE_Y2 l)), (c.i32 (Reg.LANE_X3 l), c.i32 (Reg.LANE_Y3 l))]

/-- The cross product of two edges from `a`: positive when `c` lies left of the line from `a` to `b`. -/
def turn (a b c : Int × Int) : Int := (b.1 - a.1) * (c.2 - a.2) - (b.2 - a.2) * (c.1 - a.1)

/-- The edges of a polygon. -/
def edges : List (Int × Int) → List ((Int × Int) × (Int × Int))
  | [] => []
  | v :: r => (v :: r).zip (r ++ [v])

end Sys2Proof.Machine
end

