-- ==== Sys2Proof/Machine/Reports.lean ====
section
/-! DEFINITION. Reports (chapter 10): records, packets, the SRAM queues and the archive, the hot ring, the tag dictionary,
and the loss counters. -/

namespace Sys2Proof.Machine

def State.stream (s : State) (i : Nat) : Stream := Tab.get s.rep.streams i

/-- A stream's hidden part changed. -/
def State.updStream (s : State) (i : Nat) (f : Stream → Stream) : State :=
  { s with rep := { s.rep with streams := Tab.upd s.rep.streams i f } }

/-- The enabled streams. -/
def State.enabledStreams (s : State) : List Nat := (List.range 3).filter fun i => s.get (Reg.STREAM_ENABLE i) = 1

/-- A stream that carries a zone (R344). -/
def State.carries (s : State) (i z : Nat) : Bool := (s.get (Reg.STREAM_ZONES i)).testBit z

/-! ### Record layouts (Tables 10.3 to 10.6) -/

/-- Rounding with halves upward, of x/d (R353). -/
def roundUp (x : Int) (d : Nat) : Int := (2 * x + d) / (2 * d : Nat)

/-- P8 of a power in 0.25 dBm (R353). -/
def p8 (p : Int) : Nat := (max 0 (min 255 (roundUp (p + 512) 2))).toNat

/-- A8 of an angle in 0.01°, 0x80 when it is not valid (R353). -/
def a8 (valid : Bool) (a : Int) : Nat :=
  if valid then ofInt 8 (max (-127) (min 127 (roundUp a 50))) else 0x80

/-- P8 of the mean of linear powers, the P8 rounding applied once (R353): the greatest p whose lower edge the mean
reaches. -/
def p8Mean (sum n : Nat) : Nat :=
  ((List.range 256).filter fun (p : Nat) => p = 0 || ten80 (4 * Int.ofNat p - 1026) * n ≤ sum).getLast?.getD 0

/-- No localisation (R352). -/
def Loc.none : Loc := ⟨0x8000, 0x8000, -1, 0, 0, 0xFF, 0, 0, 0, 0⟩

/-- The T0 record (Table 10.3). -/
def t0Record (r : Read) (l : Loc) (first : Bool) : Bytes :=
  leBytes 8 r.time ++ leBytes 4 r.tag ++ leBytes 1 r.chan ++ leBytes 1 (r.beam + 4 * r.best) ++ leBytes 1 r.zone ++
    leBytes 1 l.lane ++ leBytes 2 (ofInt 16 r.power) ++ leBytes 2 (ofInt 16 r.snr) ++ leBytes 2 l.az ++ leBytes 2 l.el ++
    leBytes 4 (ofInt 32 l.range) ++ leBytes 4 (ofInt 32 l.x) ++ leBytes 4 (ofInt 32 l.y) ++
    leBytes 2 (l.flags % 128 + ofBool (bit r.flags 0) * 128 + ofBool (bit r.flags 1) * 256 + ofBool (bit r.flags 2) * 512 + ofBool (bit r.flags 3) * 1024 +
      ofBool first * 2048 + ofBool r.isNew * 4096) ++
    leBytes 2 r.rxMask

/-- The T1 record, for a packet whose BASE_TIME is `base` (Table 10.4). -/
def t1Record (r : Read) (l : Loc) (first : Bool) (base : Nat) : Bytes :=
  leBytes 3 ((r.time - base) / 40) ++ leBytes 3 (if bit r.tag 31 then 0xFFFFFF else r.tag % 2 ^ 24) ++
    leBytes 1 (r.chan % 64 + 64 * r.beam) ++
    leBytes 1 (r.best + ofBool (bit l.flags 0) * 16 + ofBool (bit l.flags 1) * 32 + ofBool (bit l.flags 5) * 64 +
      ofBool first * 128) ++
    leBytes 1 (r.zone + ofBool (bit r.flags 0) * 32 + ofBool r.isNew * 64 + ofBool (bit r.flags 1) * 128) ++
    leBytes 1 (p8 r.power) ++ leBytes 1 (a8 (bit l.flags 0) (toInt 16 l.az)) ++ leBytes 1 (a8 (bit l.flags 1) (toInt 16 l.el))

/-- The lane with most IN_LANE reads, ties to the lowest; 0xFF when there is none (Table 10.5). -/
def topLane (lanes : Store) : Nat :=
  (lanes.foldl (fun (b : Nat × Nat) p => if b.2 < p.2 then p else b) (0xFF, 0)).1

/-- An optional extreme as A8. -/
def a8Opt : Option Int → Nat
  | some a => a8 true a
  | none => 0x80

/-- The T2 record (Table 10.5). -/
def t2Record (a : T2Acc) (base : Nat) (cut : Bool) : Bytes :=
  let inLane := (a.lanes.map fun p => p.2).sum
  leBytes 3 (a.tag % 2 ^ 24) ++
    leBytes 1 (a.zone + ofBool a.isNew * 32 + ofBool a.cold * 64 + ofBool (65535 < a.reads || 255 < inLane) * 128) ++
    leBytes 4 ((a.first - base) / 40) ++ leBytes 2 (satN 16 (ceilDiv (a.last - a.first) 40000)) ++
    leBytes 2 (satN 16 a.reads) ++ leBytes 1 (p8 a.powerMax) ++ leBytes 1 (p8Mean a.powerSum a.reads) ++
    leBytes 1 (a8Opt a.azMin) ++ leBytes 1 (a8Opt a.azMax) ++ leBytes 1 (a8Opt a.elMin) ++ leBytes 1 (a8Opt a.elMax) ++
    leBytes 1 (popcount 64 a.chans) ++ leBytes 1 (topLane a.lanes) ++ leBytes 2 a.rxMask ++
    leBytes 1 (a.txMask + ofBool cut * 16) ++ leBytes 1 (satN 8 inLane)

/-- The DICT record (Table 10.6). -/
def dictRecord (idx : Nat) (reused : Bool) (pc xpc : Nat) (epc : Bytes) : Bytes :=
  let b := leBytes 3 idx ++ leBytes 1 (ofBool reused) ++ leBytes 2 pc ++ leBytes 2 xpc ++ epc
  padTo ((b.length + 3) / 4 * 4) b

/-- A dictionary entry (Table 10.8). -/
def DictEntry.bytes (e : DictEntry) : Bytes :=
  leBytes 2 e.pc ++ leBytes 2 e.xpc ++ padTo 52 e.epc ++ leBytes 4 e.firstS ++ leBytes 4 e.lastS

/-- Bits of some bytes inverted, by offset (R383). -/
def xorAt (b : Bytes) (flips : List (Nat × Byte)) : Bytes :=
  flips.foldl (fun d p => d.set p.1 (d.getD p.1 0 ^^^ p.2)) b

/-- A dictionary entry read back with wrong bits; the length of its EPC stays (R383, log entry 25). -/
def DictEntry.xorAt (e : DictEntry) (flips : List (Nat × Byte)) : DictEntry :=
  let b := Machine.xorAt e.bytes flips
  { pc := field b 0 2, xpc := field b 2 2, epc := (b.drop 4).take e.epc.length, firstS := field b 56 4, lastS := field b 60 4 }

/-! ### Packets (R347 to R351) -/

/-- LENGTH of a closed packet: header, records, CRC. -/
def Pkt.length (p : Pkt) : Nat := 24 + p.data.length + 4

/-- Slots of 32 bytes (R346). -/
def Pkt.slots (p : Pkt) : Nat := ceilDiv p.length 32

/-- The packet as sent with an alive counter (Table 10.1, R351): ALIVE and the CRC are written as it is sent, over whatever
the store has returned (R383). -/
def Pkt.bytes (p : Pkt) (alive : Nat) : Bytes :=
  let b := xorAt (leBytes 2 p.length ++ leBytes 1 (p.tier + 4 * p.kind) ++ leBytes 1 alive ++ leBytes 4 p.seq ++
    leBytes 8 p.base ++ leBytes 2 p.count ++ leBytes 1 p.stream ++ leBytes 1 p.flags ++ leBytes 4 p.loss ++ p.data)
    (p.flips.filter fun x => x.1 != 3)
  b ++ leBytes 4 (crc32 b)

/-- The queue share of each enabled stream in slots (R346, R336). -/
def State.sqShare (s : State) : Nat := s.get Reg.SQ_KIB * 32 / max 1 s.enabledStreams.length

/-- Slots queued in SRAM. -/
def Stream.fill (st : Stream) : Nat := ((st.queue.filter fun p => !p.spilled).map Pkt.slots).sum

/-- The archive's capacity in bytes (R336): the ring less the hot ring. -/
def State.archCap (s : State) : Nat := (s.get Reg.RING_MIB - s.get Reg.HOT_RING_MIB) * 2 ^ 20

/-- The hot ring's capacity in records. -/
def State.hotCap (s : State) : Nat := s.get Reg.HOT_RING_MIB * 2 ^ 20 / 40

/-- Event 43, again only after its acknowledge (R371). -/
def State.recordsLost (s : State) (key : Nat) : State := if s.latched 43 then s else s.latch 43 key (s.get key)

/-- SQ_FILL, SQ_USED and the watermark follow the queue (R367, R369). -/
def State.fillChanged (s : State) (i : Nat) : State :=
  let old := s.get (Reg.SQ_FILL i)
  let fill := (s.stream i).fill
  let used := 32 * ((List.range 3).map fun j => (s.stream j).fill).sum
  let lvl := s.get (Reg.WM_LEVEL i)
  let s1 := (s.record (Reg.SSTATE_SEQ i) [(Reg.SQ_FILL i, fill)]).record Reg.STORE_SEQ [(Reg.SQ_USED, used)]
  let s2 := s1.updStream i fun st =>
    { st with peak := max st.peak fill, winBusy := st.winBusy && !st.queue.isEmpty }
  if old < lvl && lvl ≤ fill && s.get (Reg.WM_LATCHED i) = 0 then
    (s2.put (Reg.WM_LATCHED i) 1).latch 40 (Reg.SQ_FILL i) fill
  else s2

/-- The marks of a stream that a packet leaving the archive loses (R376). -/
def State.loseMarks (s : State) (i q : Nat) : State :=
  (List.range 8).foldl (fun t n =>
    if (t.get (Reg.MARK_VALID i)).testBit n && t.get (Reg.MARK_SEQ i n) = q then
      ((t.record (Reg.MARKS_SEQ i) [(Reg.MARK_VALID i, clrBit (t.get (Reg.MARK_VALID i)) n),
        (Reg.MARK_LOST i, setBit (t.get (Reg.MARK_LOST i)) n)]).latch 44 (Reg.MARK_SEQ i n) q)
    else t) s

/-- Whether SEQ `q` is `m` or follows it, modulo 2^32. -/
def seqFrom (m q : Nat) : Bool := (q + 2 ^ 32 - m) % 2 ^ 32 < 2 ^ 31

/-- The records of an overwritten packet count against every mark before it (R376). -/
def State.goneBy (s : State) (p : Pkt) : State :=
  let held := fun n => ((s.get (Reg.MARK_VALID p.stream)).testBit n || (s.get (Reg.MARK_LOST p.stream)).testBit n) &&
    seqFrom (s.get (Reg.MARK_SEQ p.stream n)) p.seq
  let gone := ((List.range 8).filter held).foldl (fun (g : Store) n => Tab.upd g (8 * p.stream + n) (· + p.count)) s.rep.gone
  { s with rep := { s.rep with gone := gone } }

/-- The head packet of a stream: a rewind's packets come first (R375). -/
def Stream.head (st : Stream) : Option Pkt :=
  match st.replay with
  | p :: _ => some p
  | [] => st.queue.head?

/-- Packets that the store no longer holds leave a stream: those of its queue that satisfy `q`, those of its replay that
satisfy `r`. -/
def Stream.without (st : Stream) (q r : Pkt → Bool) : Stream :=
  let gone := match st.replay with
    | p :: _ => r p
    | [] => (st.queue.head?.map q).getD false
  { st with queue := st.queue.filter fun p => !q p, replay := st.replay.filter fun p => !r p, shown := st.shown && !gone }

/-- A packet that a rewind sends again, and not one that stands before them (R375). -/
def Pkt.again (p : Pkt) : Bool := bit p.flags 1

/-- The oldest packet of the archive is overwritten (R335, R371, R376). -/
def State.dropOldest (s : State) (p : Pkt) : State :=
  let s1 := ({ s with rep := { s.rep with archive := s.rep.archive.tail } } : State).goneBy p
  let s2 := s1.loseMarks p.stream p.seq
  let hit : Pkt → Bool := fun x => x.seq = p.seq && (x.spilled || x.again)
  let undelivered := p.spilled && (s2.stream p.stream).queue.any hit
  let s3 := s2.updStream p.stream fun st => st.without hit hit
  if undelivered then
    ((s3.addWide (Reg.LOST_ARCHIVE_LO p.stream) p.baseRecs).seq (Reg.LOSS_SEQ p.stream)).recordsLost
      (Reg.LOST_ARCHIVE_LO p.stream)
  else s3

/-- Oldest packets are overwritten until the archive holds `room` bytes more (R335, R372). -/
def State.makeRoom (s : State) (room : Nat) : List Pkt → State
  | [] => s
  | p :: r => if ((p :: r).map Pkt.length).sum + room ≤ s.archCap then s else (s.dropOldest p).makeRoom room r

/-- The retired lines of a region (R393). -/
def State.retiredIn (s : State) (r : Nat) : List Nat := (s.mem.retired.filter fun p => p.1 = r).map (·.2)

/-- Whether `len` bytes from `pos` have a byte in a line (R379). -/
def inLine (pos len line : Nat) : Bool := pos < 128 * (line + 1) && 128 * line < pos + len

/-- The first place at or after `x` for `len` bytes that holds no byte of a retired line (R393). -/
def skipLines (bad : List Nat) (len : Nat) : Nat → Nat → Nat
  | 0, x => x
  | n + 1, x => match bad.find? (inLine x len) with
    | some b => skipLines bad len n (128 * (b + 1))
    | none => x

/-- A packet enters the archive; the write pointer's return to the start latches event 45 (R372). -/
def State.toArchive (s : State) (p : Pkt) : State :=
  let bad := s.retiredIn 4
  let s1 := s.makeRoom (p.length + 128 * bad.length) s.rep.archive
  let pos := skipLines bad p.length (bad.length + 1) s1.rep.archPtr
  let ptr := pos + p.length
  let wrap := s1.archCap ≤ ptr
  let s2 := { s1 with rep := { s1.rep with
    archive := s1.rep.archive ++ [{ p with pos := pos }], archPtr := if wrap then ptr - s1.archCap else ptr,
    archFull := s1.rep.archFull || wrap } }
  if wrap then s2.latch 45 0 0 else s2

/-- A closed packet is placed (R335): in the SRAM queue where it fits, and in the archive under ARCHIVE_MODE, or in
the archive alone as a spill. -/
def State.placePkt (s : State) (p : Pkt) : State :=
  let fits := (s.stream p.stream).fill + p.slots ≤ s.sqShare
  let summary := s.get Reg.ARCHIVE_MODE = 1
  let p' := { p with spilled := !fits, flags := p.flags + ofBool (!fits) }
  let s1 := if fits && summary && p.kind != 2 && p.kind != 3 then s else s.toArchive p'
  let bad := s.retiredIn 6
  let share := 32 * s.sqShare
  let base := share * (s.enabledStreams.filter (· < p.stream)).length
  let at_ := skipLines bad (32 * p.slots) (bad.length + 1) (base + (s.stream p.stream).sqPtr) - base
  let sq := if share < at_ + 32 * p.slots then 0 else at_
  let s2 := s1.updStream p.stream fun st =>
    { st with queue := st.queue ++ [{ p' with sq := base + sq }], sqPtr := if fits then sq + 32 * p.slots else st.sqPtr }
  let s3 := if fits then s2 else (s2.bump Reg.SPILL_COUNT).seq Reg.STORE_SEQ
  s3.fillChanged p.stream

/-- LOSS_TOTAL (Table 10.1). -/
def State.lossTotal (s : State) (i : Nat) : Nat :=
  (s.get (Reg.LOST_ARCHIVE_LO i) + s.get (Reg.LOST_MEMORY_LO i) + s.get (Reg.LOST_UNINDEXED_LO i)) % 2 ^ 32

/-- One open packet closes (R349, R350); a kind with no records has no open packet. -/
def State.closeOne (s : State) (i kind : Nat) : State :=
  match Tab.find (s.stream i).opens kind with
  | none => s
  | some o =>
    let tier := s.get (Reg.TIER_NOW i)
    let p : Pkt :=
      { stream := i, seq := s.get (Reg.NEXT_SEQ i), tier := tier, kind := kind, base := o.base, count := o.count,
        flags := ofBool (s.get (Reg.TIER_BASE i) < tier) * 4, loss := s.lossTotal i, data := o.data,
        baseRecs := o.baseRecs, spilled := false, charged := false, pos := 0, sq := 0, flips := [] }
    let s1 := s.updStream i fun st => { st with opens := Tab.del st.opens kind }
    (s1.record (Reg.SSTATE_SEQ i) [(Reg.NEXT_SEQ i, (p.seq + 1) % 2 ^ 32)]).placePkt p

/-- An open packet closes, the DICT packet that announces an index it refers to closing before it (R360). -/
def State.closePkt (s : State) (i kind : Nat) : State :=
  let tags := fun k => ((Tab.find (s.stream i).opens k).map OpenPkt.tags).getD []
  if kind != 4 && (tags kind).any fun t => (tags 4).contains t then (s.closeOne i 4).closeOne i kind
  else s.closeOne i kind

/-- Every open packet of a stream closes: DICT first. -/
def State.closeAll (s : State) (i : Nat) : State := [4, 0, 1, 2, 3].foldl (fun t k => t.closePkt i k) s

/-! ### What each tier would have closed (R368) -/

/-- A virtual packet closes: its bytes count for its tier. -/
def Stream.virtCount (st : Stream) (n kind : Nat) : Stream :=
  let v := Tab.get st.virt (n * 8 + kind)
  if v.len = 0 then st
  else { st with closedBytes := Tab.upd st.closedBytes n (· + v.len), virt := Tab.del st.virt (n * 8 + kind) }

/-- A virtual packet closes, the DICT packet that announces an index it refers to before it (R360). -/
def Stream.virtClose (st : Stream) (n kind : Nat) : Stream :=
  let tags := fun k => (Tab.get st.virt (n * 8 + k)).tags
  if kind != 4 && (tags kind).any fun t => (tags 4).contains t then (st.virtCount n 4).virtCount n kind
  else st.virtCount n kind

/-- Virtual packets that have aged close (R349). -/
def Stream.virtAge (st : Stream) (ageTicks now : Nat) : Stream :=
  st.virt.foldl (fun t p => if p.2.len != 0 && ageTicks ≤ now - p.2.since then t.virtClose (p.1 / 8) (p.1 % 8) else t) st

/-- Every virtual packet closes, as the open packets do when RUN is left and at an apply instant (R349). -/
def Stream.virtCloseAll (st : Stream) : Stream := st.virt.foldl (fun t p => t.virtClose (p.1 / 8) (p.1 % 8)) st

/-- A virtual packet of tier `n` takes a record of `size` bytes that refers to `tags`. -/
def Stream.virtPlace (st : Stream) (maxLen now kind size : Nat) (tags : List Nat) (n : Nat) : Stream :=
  let k := n * 8 + kind
  let st1 := if maxLen < (Tab.get st.virt k).len + size then st.virtClose n kind else st
  let v := Tab.get st1.virt k
  { st1 with virt := Tab.put st1.virt k (if v.len = 0 then ⟨28 + size, now, tags⟩ else ⟨v.len + size, v.since, v.tags ++ tags⟩) }

/-- The offered bytes of a record at the tiers in `tiers`. -/
def State.offer (s : State) (i : Nat) (tiers : List Nat) (kind size : Nat) (tags : List Nat) : State :=
  s.updStream i fun st => tiers.foldl (Stream.virtPlace · (s.get Reg.PACKET_MAX) s.tim.now kind size tags)
    (st.virtAge (s.get Reg.PACKET_AGE_MS * 40000) s.tim.now)

/-- The summaries of a window as tiers 2 and 3 would have sent them, in packets that close with it (R349, R357, R368). -/
def State.offerT2 (s : State) (i : Nat) : State :=
  let t := ((s.stream i).t2.filter fun a => !bit a.tag 31).foldl (fun t a =>
    t.offer i (if (t.get Reg.TRACK_ZONE_MASK).testBit a.zone then [2] else [2, 3]) 2 24 [a.tag]) s
  t.updStream i fun st => (st.virtClose 2 2).virtClose 3 2

/-! ### Placing records -/

/-- A record of `kind` is placed in its stream's open packet; the packet closes first when it would pass PACKET_MAX
(R349). `mk` builds the record from the packet's BASE_TIME. -/
def State.place (s : State) (i kind size time : Nat) (tags : List Nat) (baseRecs : Nat) (mk : Nat → Bytes) : State :=
  let full : Bool := match Tab.find (s.stream i).opens kind with
    | some o => s.get Reg.PACKET_MAX < 24 + o.data.length + size + 4
    | none => false
  let s1 := if full then s.closePkt i kind else s
  s1.updStream i fun st =>
    let o := (Tab.find st.opens kind).getD ⟨time, 0, [], [], 0⟩
    { st with opens := (Tab.put st.opens kind
        { o with count := o.count + 1, data := o.data ++ mk o.base, tags := o.tags ++ tags, baseRecs := o.baseRecs + baseRecs }) }

/-- The T2 summary of a read's tag and zone takes the read (R354). -/
def T2Acc.take (a : T2Acc) (r : Read) (l : Loc) : T2Acc :=
  let az := toInt 16 l.az
  let el := toInt 16 l.el
  let low := fun (o : Option Int) (x : Int) (ok : Bool) => if ok then some ((o.map (min x)).getD x) else o
  let high := fun (o : Option Int) (x : Int) (ok : Bool) => if ok then some ((o.map (max x)).getD x) else o
  { a with
    last := r.time, reads := a.reads + 1, powerMax := if a.reads = 0 then r.power else max a.powerMax r.power,
    powerSum := a.powerSum + linPower r.power,
    azMin := low a.azMin az (bit l.flags 0), azMax := high a.azMax az (bit l.flags 0),
    elMin := low a.elMin el (bit l.flags 1), elMax := high a.elMax el (bit l.flags 1),
    chans := setBit a.chans r.chan,
    lanes := if bit l.flags 5 then Tab.upd a.lanes l.lane (· + 1) else a.lanes,
    rxMask := a.rxMask ||| r.rxMask, txMask := setBit a.txMask r.beam, isNew := a.isNew || r.isNew,
    cold := a.cold || bit r.flags 0 }

/-- A read enters a stream's summaries, kept in ascending tag and zone (R354). -/
def t2Insert (r : Read) (l : Loc) : List T2Acc → List T2Acc
  | [] => [({ (default : T2Acc) with tag := r.tag, zone := r.zone, first := r.time }).take r l]
  | a :: t =>
    if a.tag = r.tag && a.zone = r.zone then a.take r l :: t
    else if r.tag < a.tag || (r.tag = a.tag && r.zone < a.zone) then
      ({ (default : T2Acc) with tag := r.tag, zone := r.zone, first := r.time }).take r l :: a :: t
    else a :: t2Insert r l t

/-- A base-tier record carried at a higher tier is counted (R371). -/
def State.lost (s : State) (i n : Nat) : State :=
  let k := match n with | 1 => Reg.LOST_T1_LO i | 2 => Reg.LOST_T2_LO i | _ => Reg.LOST_T3_LO i
  (s.addWide k 1).seq (Reg.LOSS_SEQ i)

/-- A read is carried by a stream at its tier in force (R357, R358, R371). -/
def State.carry (s : State) (i : Nat) (r : Read) (l : Loc) (first : Bool) : State :=
  let n := s.get (Reg.TIER_NOW i)
  let base := s.get (Reg.TIER_BASE i)
  let tracked := (s.get Reg.TRACK_ZONE_MASK).testBit r.zone
  let s1 := s.offer i [0] 0 40 [r.tag]
  let s2 := if bit r.tag 31 then s1 else s1.offer i [1] 1 12 [r.tag]
  let s3 := s2.updStream i fun st => { st with t2 := t2Insert r l st.t2 }
  if n = 0 then s3.place i 0 40 r.time [r.tag] 1 fun _ => t0Record r l first
  else if bit r.tag 31 then
    ((s3.addWide (Reg.LOST_UNINDEXED_LO i) 1).seq (Reg.LOSS_SEQ i)).recordsLost (Reg.LOST_UNINDEXED_LO i)
  else if n = 1 then
    let s4 := if base = 0 then s3.lost i 1 else s3
    s4.place i 1 12 r.time [r.tag] 1 fun b => t1Record r l first b
  else if base ≤ 1 then s3.lost i (if n = 3 && tracked then 3 else 2)
  else s3

/-- A read's T0 record enters the hot ring, the oldest being overwritten when it is full (R335). -/
def State.toHot (s : State) (r : Read) (l : Loc) (first : Bool) : State :=
  let bad := s.retiredIn 3
  let x := (skipLines bad 40 (bad.length + 1) (40 * s.rep.hotPtr) + 39) / 40
  let slot := if s.hotCap ≤ x then 0 else x
  let h : List HotRec := (s.rep.hot.filter fun e => e.slot != slot) ++ [⟨r.time, slot, t0Record r l first⟩]
  let full := s.rep.hotFull || s.hotCap ≤ slot + 1
  ({ s with rep := { s.rep with hot := h, hotPtr := slot + 1, hotFull := full } }).record Reg.HOT_SEQ
    [(Reg.HOT_OLDEST, ((h.head?).map fun (e : HotRec) => e.time).getD 0), (Reg.HOT_RECORDS, h.length)]

/-- A read reaches the reports (Sequence 1.2 step 8): the hot ring, and every enabled stream that carries its zone;
its first sighting in the window is marked (R357). -/
def State.report (s : State) (r : Read) (l : Loc) : State :=
  let first := !s.rep.seen.contains (r.tag, r.zone)
  let s1 := s.toHot r l first
  let s2 := if first then { s1 with rep := { s1.rep with seen := s1.rep.seen ++ [(r.tag, r.zone)] } } else s1
  (s2.enabledStreams.filter fun i => s2.carries i r.zone).foldl (fun t i => t.carry i r l first) s2

/-- The gathered summaries of a stream are placed, at the tiers that send them (R354, R357, R370); under tier 3 those
of tracked zones are carried by passages alone. -/
def State.placeT2 (s : State) (i base : Nat) (cut : Bool) : State :=
  let n := s.get (Reg.TIER_NOW i)
  let l := (s.stream i).t2
  let s0 := (s.offerT2 i).updStream i fun st => { st with t2 := [] }
  if n < 2 then s0
  else l.foldl (fun t a =>
    if bit a.tag 31 then t
    else if n = 3 && (t.get Reg.TRACK_ZONE_MASK).testBit a.zone then
      (if t.get (Reg.TIER_BASE i) = 2 then t.lost i 3 else t)
    else t.place i 2 24 base [a.tag] (if t.get (Reg.TIER_BASE i) ≤ 1 then a.reads else 1) fun b => t2Record a b cut) s0

/-- A closed passage's T3 record enters every enabled stream whose zones meet TRACK_ZONE_MASK (R344, R355). -/
def State.reportPassage (s : State) (body : Bytes) (tag reads : Nat) : State :=
  (s.enabledStreams.filter fun i => s.get (Reg.STREAM_ZONES i) &&& s.get Reg.TRACK_ZONE_MASK != 0).foldl
    (fun t i => (t.offer i [0, 1, 2, 3] 3 32 [tag]).place i 3 32 t.tim.now [tag]
      (if t.get (Reg.TIER_NOW i) = 3 then reads else 1) fun _ => body) s

/-! ### The tag dictionary (R360 to R362) -/

/-- The index an EPC holds. -/
def State.indexOf (s : State) (epc : Bytes) : Option Nat := (s.rep.dict.find? fun p => p.2.epc = epc).map (·.1)

/-- The entry that R361 evicts: lowest LAST_SEEN_S, ties to the lowest index, among those that no open track holds
(`tracked`) and that were not read in the current or the previous window. -/
def State.evictable (s : State) (tracked : List Nat) : Option Nat :=
  let l := s.rep.dict.filter fun p =>
    !(tracked.contains p.1 || (s.rep.seen.map (·.1)).contains p.1 || s.rep.before.contains p.1)
  (l.foldl (fun (b : Option (Nat × Nat)) p =>
    match b with
    | none => some (p.1, p.2.lastS)
    | some x => if p.2.lastS < x.2 then some (p.1, p.2.lastS) else b) none).map (·.1)

/-- A DICT record is placed in every enabled stream (R360). -/
def State.announce (s : State) (idx : Nat) (reused : Bool) (pc xpc : Nat) (epc : Bytes) : State :=
  let body := dictRecord idx reused pc xpc epc
  s.enabledStreams.foldl (fun t i =>
    (t.offer i [0, 1, 2, 3] 4 body.length [idx]).place i 4 body.length t.tim.now [idx] 0 fun _ => body) s

/-- An index is given to an EPC, announced, and event 34 latched (R360). -/
def State.assign (s : State) (idx : Nat) (reused : Bool) (pc xpc : Nat) (epc : Bytes) : State :=
  let now := s.tim.now / 40000000
  let s1 := { s with rep := { s.rep with dict := Tab.put s.rep.dict idx ⟨pc, xpc, epc, now, now⟩,
                                         dictNext := max s.rep.dictNext (idx + 1) } }
  let s2 := s1.record Reg.DICT_SEQ ([(Reg.DICT_USED, s1.rep.dict.length)] ++
    if reused then [(Reg.DICT_EVICTIONS, (s.get Reg.DICT_EVICTIONS + 1) % 2 ^ 32)] else [])
  (s2.announce idx reused pc xpc epc).latch 34 Reg.DICT_USED (s2.get Reg.DICT_USED)

/-- The TAG_INDEX of a read's EPC: bits 23:0 with bit 31 clear, or bit 31 alone when none can be given (R360 to
R362); whether this read caused it to be assigned. -/
def State.tagIndex (s : State) (pc xpc : Nat) (epc : Bytes) (tracked : List Nat) : Nat × Bool × State :=
  if 52 < epc.length then (2 ^ 31, false, (s.bump Reg.DICT_TOO_LONG).seq Reg.DICT_SEQ)
  else match s.indexOf epc with
  | some i =>
    (i, false, { s with rep := { s.rep with dict :=
      (Tab.upd s.rep.dict i fun e => { e with lastS := s.tim.now / 40000000 }) } })
  | none =>
    let bad := s.retiredIn 2
    let i := (skipLines bad 64 (bad.length + 1) (64 * s.rep.dictNext)) / 64
    if i < s.get Reg.DICT_CAPACITY then (i, true, s.assign i false pc xpc epc)
    else match s.evictable tracked with
      | some i => (i, true, s.assign i true pc xpc epc)
      | none => (2 ^ 31, false, (s.bump Reg.DICT_TOO_LONG).seq Reg.DICT_SEQ)

/-! ### Credits and delivery (R363 to R366) -/

/-- CREDITS changes; event 41 at a fall to CREDIT_LOW or below (R366). -/
def State.setCredits (s : State) (i v : Nat) : State :=
  let old := s.get (Reg.CREDITS i)
  let low := s.get (Reg.CREDIT_LOW i)
  let s1 := s.record (Reg.SSTATE_SEQ i) [(Reg.CREDITS i, v)]
  if low < old && v ≤ low then s1.latch 41 (Reg.CREDITS i) v else s1

/-- The head packet is charged, once (R364). -/
def State.charge (s : State) (i : Nat) (p : Pkt) : State :=
  if p.charged then s
  else
    let mark := fun (l : List Pkt) => match l with | x :: r => { x with charged := true } :: r | [] => []
    (s.updStream i fun st =>
      match st.replay with
      | _ :: _ => { st with replay := mark st.replay }
      | [] => { st with queue := mark st.queue }).setCredits i (s.get (Reg.CREDITS i) - p.slots)

/-- The head packet is gone: delivered (R364, R368, R375). -/
def State.delivered (s : State) (i : Nat) (p : Pkt) : State :=
  let s1 := s.updStream i fun st =>
    match st.replay with
    | _ :: r => { st with replay := r, shown := false, winBytes := st.winBytes + p.length }
    | [] => { st with queue := st.queue.tail, shown := false, winBytes := st.winBytes + p.length }
  s1.fillChanged i

/-- The head packet is sent: ALIVE rises by 1 (R351); the bytes sent. -/
def State.sendPkt (s : State) (i : Nat) (p : Pkt) : Bytes × State :=
  let a := ((s.stream i).alive + 1) % 256
  (p.bytes a, s.updStream i fun st => { st with alive := a })

/-- The start of the report window in progress (R354). -/
def State.windowStart (s : State) : Nat :=
  let w := s.get Reg.REPORT_WINDOW_MS * 40000
  s.tim.now / w * w

/-- Leaving RUN, or an apply instant: the summaries gathered are placed as cut and every packet closes (R349, R354,
R60). -/
def State.closeReports (s : State) : State :=
  s.enabledStreams.foldl (fun t i => ((t.placeT2 i s.windowStart true).closeAll i).updStream i Stream.virtCloseAll) s

end Sys2Proof.Machine
end

