-- ==== Sys2Proof/Machine/Carrier.lean ====
section
/-! DEFINITION. Quads, chains and their carriers (chapters 4 and 6): Drone raised, ramped down and muted, seeds, phase
tables, gangs and their beams, tone requests, and the starts of calibrations and sweeps. -/

namespace Sys2Proof.Machine

/-- The round in progress on a beam. -/
def State.round (s : State) (t : Nat) : Option Round := Tab.find s.eng.rounds t

/-- A beam's round replaced. -/
def State.putRound (s : State) (t : Nat) (r : Round) : State :=
  { s with eng := { s.eng with rounds := Tab.put s.eng.rounds t r } }

/-- A reply window is open on a beam: a command has been sent and its reply is awaited (R154, R158). -/
def State.inWindow (s : State) (t : Nat) : Bool :=
  (s.round t).any fun r => r.stage = .slot || r.stage = .ack || r.stage = .access

/-- A slot is in progress on a beam: receive weights wait for the next one (R226, R230). -/
def State.inSlot (s : State) (t : Nat) : Bool :=
  (s.round t).any fun r => r.stage != .powerUp && r.stage != .ending

/-- 0x8000: a member without a value (R178). -/
def noValue : Nat := 0x8000

/-! ### Chains -/

/-- The chain's PA carries Drone or ramps it. -/
def State.hasDrone (s : State) (c : Nat) : Bool := [1, 2, 3].contains (s.get (Reg.CHAIN_STATE c))

/-- Any chain of a quad carries Drone. -/
def State.quadDrone (s : State) (q : Nat) : Bool := (chainsOf q).any s.hasDrone

/-- QUAD_STATE shows whether a locked quad carries Drone (Table 4.5). -/
def State.showQuad (s : State) (q : Nat) : State :=
  let st := s.get (Reg.QUAD_STATE q)
  if st = 3 && s.quadDrone q then s.record (Reg.QSTATE_SEQ q) [(Reg.QUAD_STATE q, 4)]
  else if st = 4 && !s.quadDrone q then s.record (Reg.QSTATE_SEQ q) [(Reg.QUAD_STATE q, 3)]
  else s

/-- What a chain keeps of a channel for its phase table. -/
def State.chanPhase (s : State) (c khz : Nat) : ChanPhase := Tab.get (s.chain c).phases khz

/-- The end of a chain's Drone: θ_fwd,c is kept for the next Drone on the channel (R218). -/
def State.keepFwd (s : State) (c : Nat) : State :=
  let khz := s.get (Reg.SYNTH_FREQ_KHZ (c / 4))
  if khz = 0 || !(s.get (Reg.CHAIN_STATE c) = 1 || s.get (Reg.CHAIN_STATE c) = 2) then s
  else s.updChain c fun x => { x with phases := Tab.upd x.phases khz fun p => { p with lastFwd := some x.fwd } }

/-- A chain's PA is off and its state reads `st`; a mute counts (R145, R178). -/
def State.stopChain (s : State) (c st : Nat) (mute : Bool) : State :=
  let on := s.hasDrone c
  let s1 := (s.keepFwd c).record (Reg.CSTATE_SEQ c)
    ([(Reg.CHAIN_STATE c, st), (Reg.TX_POWER_NOW c, noValue), (Reg.FWD_POWER c, noValue), (Reg.RETURN_LOSS c, noValue),
      (Reg.REED_RESIDUAL c, noValue)] ++
     (if on then [(Reg.CARRIER_ON_US c, (s.get (Reg.CARRIER_ON_US c) + (s.tim.now - (s.chain c).onAt) / 40) % 2 ^ 64)] else []) ++
     (if on && mute then [(Reg.MUTE_COUNT c, (s.get (Reg.MUTE_COUNT c) + 1) % 2 ^ 32)] else []))
  let s2 := s1.updChain c fun x => { x with level := none, probing := none }
  let s3 := if on && !s2.quadDrone (c / 4) then s2.updQuad (c / 4) fun x => { x with offAt := s.tim.now } else s2
  s3.showQuad (c / 4)

/-- The state a chain rests in without Drone: OUT under a fault other than REED_LIMIT, else IDLE. -/
def State.restState (s : State) (c : Nat) : Nat := if clrBit (s.get (Reg.CHAIN_FAULT c)) 3 = 0 then 0 else 5

/-- A chain's Drone is muted (R145). -/
def State.muteChain (s : State) (c : Nat) : State := if s.hasDrone c then s.stopChain c 4 true else s

/-- A chain's Drone starts to ramp down (R145). -/
def State.rampDown (s : State) (c : Nat) : State :=
  if s.get (Reg.CHAIN_STATE c) = 1 || s.get (Reg.CHAIN_STATE c) = 2 then
    ((s.keepFwd c).record (Reg.CSTATE_SEQ c) [(Reg.CHAIN_STATE c, 3)]).updChain c fun x => { x with level := none, probing := none }
  else s

/-- A chain's Drone starts to rise to a level (R145). -/
def State.raiseChain (s : State) (c : Nat) (level : Int) : State :=
  ((s.record (Reg.CSTATE_SEQ c) [(Reg.CHAIN_STATE c, 1), (Reg.TX_POWER_NOW c, ofInt 16 level)]).updChain c fun x =>
    { x with level := some level, onAt := if s.hasDrone c then x.onAt else s.tim.now, conv := false }).showQuad (c / 4)

/-- A chain that holds Drone takes another level (R146). -/
def State.setLevel (s : State) (c : Nat) (level : Int) : State :=
  (s.record (Reg.CSTATE_SEQ c) [(Reg.TX_POWER_NOW c, ofInt 16 level)]).updChain c fun x => { x with level := some level }

/-- A chain goes OUT on a fault bit; its Drone is muted (R148, R163). -/
def State.faultChain (s : State) (c b : Nat) : State :=
  (s.record (Reg.CSTATE_SEQ c) [(Reg.CHAIN_FAULT c, setBit (s.get (Reg.CHAIN_FAULT c)) b)]).stopChain c 5 true

/-- Every Drone of a quad is muted. -/
def State.muteQuad (s : State) (q : Nat) : State := (chainsOf q).foldl State.muteChain s

/-- Every Drone of a quad ramps down. -/
def State.rampQuad (s : State) (q : Nat) : State := (chainsOf q).foldl State.rampDown s

/-- Every Drone is muted (R40, R145). -/
def State.muteAll (s : State) : State := s.chainList.foldl State.muteChain s

/-- Every Drone ramps down. -/
def State.rampAll (s : State) : State := s.chainList.foldl State.rampDown s

/-! ### Seeds (R149 to R153) -/

/-- A factory point's weights. -/
def factorySeed (c i : Nat) : Int × Int := Config.factoryWeight c i

/-- Linear interpolation between two factory points at `khz`, rounded to nearest (R149). -/
def seedBetween (c khz : Nat) : Int × Int :=
  let i := min 23 ((khz - 840000) / 5000)
  let d : Int := (khz : Int) - (840000 + 5000 * i : Nat)
  let a := factorySeed c i
  let b := factorySeed c (i + 1)
  (a.1 + roundDiv ((b.1 - a.1) * d) 5000, a.2 + roundDiv ((b.2 - a.2) * d) 5000)

/-- An entry interpolated from the factory points (R149, R153). -/
def seedFor (c khz : Nat) : Seed := ⟨khz, (seedBetween c khz).1, (seedBetween c khz).2, noValue, 2⟩

/-- A seed entry's bytes (Table 4.7). -/
def Seed.bytes (e : Seed) : Bytes :=
  leBytes 4 e.khz ++ leBytes 2 (ofInt 16 e.wi) ++ leBytes 2 (ofInt 16 e.wq) ++ leBytes 2 e.rl ++ leBytes 1 e.flags ++ [0#8]

/-- FACTORY_SEED of a chain (R149, R180). -/
def factoryTable (c : Nat) : Bytes :=
  (List.range 25).flatMap fun i => Seed.bytes ⟨840000 + 5000 * i, (factorySeed c i).1, (factorySeed c i).2, noValue, 0⟩

/-- A channel's entry changed. -/
def State.updSeed (s : State) (c khz : Nat) (f : Seed → Seed) : State :=
  (s.updChain c fun x => { x with seeds := x.seeds.map fun e => if e.khz = khz then f e else e }).seq (Reg.SEED_SEQ c)

/-- ACTIVE_SEED rebuilt for the committed channel list (R153); the phase terms of a channel that leaves it go with its
entry. -/
def State.rebuildSeeds (s : State) : State :=
  s.chainList.foldl (fun t c =>
    (t.updChain c fun x => { x with
      seeds := s.channels.map fun p => (x.seeds.find? fun e => e.khz = p.2.khz).getD (seedFor c p.2.khz)
      phases := x.phases.filter fun p => s.channels.any fun e => e.2.khz = p.1 }).seq (Reg.SEED_SEQ c)) s

/-- Reed's weights for a channel are loaded from ACTIVE_SEED (Sequence 4.1 step 3, R156); it has to converge from them. -/
def State.loadSeed (s : State) (khz c : Nat) : State :=
  let s1 := s.updChain c fun x => { x with conv := false }
  match s1.seed c khz with
  | some e => s1.record (Reg.REED_SEQ c) [(Reg.REED_WEIGHT_I c, ofInt 16 e.wi), (Reg.REED_WEIGHT_Q c, ofInt 16 e.wq)]
  | none => s1

/-! ### Phase tables (Table 6.2, R211, R212) -/

/-- A term given at the 25 points from 840 MHz to 960 MHz, interpolated to a channel (Table 6.2). -/
def atPoints (f : Nat → Int) (khz : Nat) : Int :=
  let i := min 23 ((khz - 840000) / 5000)
  f i + roundDiv ((f (i + 1) - f i) * ((khz : Int) - (840000 + 5000 * i : Nat))) 5000

/-- ε_c at a channel, in 0.01° (Table 6.2). -/
def State.feed (s : State) (c khz : Nat) : Int :=
  s.i16 (Reg.ELEMENT_PHASE c) + roundDiv (36000 * (khz : Int) * (s.get (Reg.ELEMENT_DELAY c) : Int)) 1000000000

/-- τ_c from a driving quad's tone driver, scaled to a channel, in 0.01° (R37, Table 6.2). -/
def tapPhase (driver c khz : Nat) : Int := roundDiv (36000 * (khz : Int) * (Config.tapDelay driver c : Int)) 1000000000000

/-- The swept channels of a chain, nearest to a channel first. -/
def State.sweptNear (s : State) (c khz : Nat) : List (Nat × Int) :=
  let l := (s.chain c).phases.filterMap fun p => p.2.kappa.map fun k => (p.1, k)
  let far := fun (k : Nat) => max k khz - min k khz
  l.foldl (fun acc p => (acc.filter fun q => far q.1 ≤ far p.1) ++ [p] ++ acc.filter fun q => far p.1 < far q.1) []

/-- κ_c at a channel: from the last sweep that covered it (R217), else interpolated from the two nearest swept channels
(R153); the only one's where one has been swept, and a free value where none has (log entry 49). -/
def State.kappa (s : State) (c khz : Nat) : Int :=
  match (s.chanPhase c khz).kappa with
  | some k => k
  | none => match s.sweptNear c khz with
    | [] => Config.unswept 0 c khz
    | [p] => p.2
    | p :: q :: _ => wrapAngle (p.2 + (wrapAngle (q.2 - p.2) * ((khz : Int) - (p.1 : Int))) / ((q.1 : Int) - (p.1 : Int)))

/-- θ_fwd,c at the rise of Drone (R218): recorded at the end of the chain's previous Drone on the channel, else from the last
sweep; a free value where there is neither (log entry 49). -/
def State.riseFwd (s : State) (c khz : Nat) : Int :=
  let p := s.chanPhase c khz
  (p.lastFwd.orElse fun _ => p.sweepFwd).getD (Config.unswept 1 c khz)

/-- Φ_rx,c and Φ_tx,c of a chain (R211, R212): 0x8000 while its quad is not locked or its tone not measured. -/
def State.phasesOf (s : State) (c : Nat) : Nat × Nat :=
  let khz := s.get (Reg.SYNTH_FREQ_KHZ (c / 4))
  let x := s.chain c
  match x.tone with
  | none => (noValue, noValue)
  | some th =>
    if khz = 0 then (noValue, noValue)
    else
      (ofInt 16 (wrapAngle (th + atPoints (Config.betaRx c) khz + x.gamma + s.feed c khz)),
       ofInt 16 (wrapAngle (x.fwd - th + s.kappa c khz + atPoints (Config.betaTx c) khz + s.feed c khz)))

/-- The phase-table entries of some chains are shown (Table 6.8). -/
def State.showPhases (s : State) (cs : List Nat) : State :=
  (s.recordIf Reg.RXPH_SEQ (cs.map fun c => (Reg.RX_PHASE c, (s.phasesOf c).1))).recordIf Reg.TXPH_SEQ
    (cs.map fun c => (Reg.TX_PHASE c, (s.phasesOf c).2))

/-- γ_c is computed for a dwell's BLF and M (R217). -/
def State.setGamma (s : State) (prof c : Nat) : State :=
  s.updChain c fun x => { x with
    gamma := Config.filterPhase c (s.quad (c / 4)).rc (1000 * s.get (Reg.BLF_KHZ prof)) (s.get (Reg.MILLER prof)) }

/-! ### Gangs and beams (R201 to R203, R239) -/

/-- The dwell that runs on the gang led by quad `q`. -/
def State.running (s : State) (q : Nat) : Option Running := Tab.find s.val.running q

/-- The dwell of a leader replaced. -/
def State.putRunning (s : State) (q : Nat) (r : Running) : State :=
  { s with val := { s.val with running := Tab.put s.val.running q r } }

/-- The leader of the gang a quad belongs to. -/
def State.leaderOf (s : State) (q : Nat) : Option Nat :=
  (s.val.running.find? fun p => p.2.d.gang.testBit q).map fun p => p.1

/-- The chains that a dwell uses for receive (R151, R163, R164, R230): planned on its channel, carrying Drone once the gang
does, not a probe, not excluded, not muted. -/
def State.rxChains (s : State) (d : Dwell) : List Nat :=
  let up := (gangChains d.gang).any s.hasDrone
  (gangChains d.gang).filter fun c =>
    s.chainPlanned d.khz c && !(s.chain c).excluded && (s.chain c).probing.isNone && s.get (Reg.CHAIN_STATE c) != 4 &&
      (!up || s.hasDrone c)

/-- The transmit-beam group of quad `q` (Table 6.8). -/
def State.showTx (s : State) (q : Nat) : State :=
  let z := fun (r : Running) => r.d.zone
  match s.running q with
  | some r =>
    s.recordIf (Reg.TXB_SEQ q)
      [(Reg.TXB_STATE q, 1), (Reg.GANG_MASK q, r.d.gang), (Reg.LEADER q, 0xFF), (Reg.TXB_CHANNEL_KHZ q, r.d.khz),
       (Reg.TXB_AZ q, s.get (Reg.ZONE_TX_AZ (z r))), (Reg.TXB_EL q, s.get (Reg.ZONE_TX_EL (z r))), (Reg.TXB_ZONE q, z r)]
  | none =>
    let l := s.leaderOf q
    let khz := (l.bind s.running).elim 0 fun r => r.d.khz
    s.recordIf (Reg.TXB_SEQ q)
      [(Reg.TXB_STATE q, if s.get (Reg.QUAD_STATE q) = 5 then 3 else if l.isSome then 2 else 0), (Reg.GANG_MASK q, 0),
       (Reg.LEADER q, l.getD 0xFF), (Reg.TXB_CHANNEL_KHZ q, khz), (Reg.TXB_AZ q, noValue), (Reg.TXB_EL q, noValue),
       (Reg.TXB_ZONE q, 0xFF)]

/-- The rotator setting of a chain in a dwell: −Φ_tx − ψ toward the zone's direction, to the nearest step (R218, R223). -/
def State.rotatorFor (s : State) (c : Nat) (d : Dwell) : Nat :=
  let a := -(s.i16 (Reg.TX_PHASE c)) - s.steer c d.khz (s.i16 (Reg.ZONE_TX_AZ d.zone)) (s.i16 (Reg.ZONE_TX_EL d.zone))
  (roundDiv (a * 1024) 36000 % 1024).toNat

/-- The rotators of a gang are set, where its chains' phases are known (R218, R223). -/
def State.steerGang (s : State) (d : Dwell) : State :=
  ((gangChains d.gang).filter fun c => s.get (Reg.TX_PHASE c) != noValue).foldl (fun t c =>
    t.updChain c fun x => { x with rotator := s.rotatorFor c d }) s

/-- The taper CHEB25 of a chain among those a beam weights, in 1/10,000 (R225): 0.55 for each axis on which it stands at the
edge. -/
def State.cheb25 (s : State) (cs : List Nat) (c : Nat) : Nat :=
  let edge := fun (at_ : Nat → Int) => cs.all (fun e => at_ c ≤ at_ e) || cs.all (fun e => at_ e ≤ at_ c)
  let n := ofBool (edge fun e => s.i16 (Reg.ELEMENT_X e)) + ofBool (edge fun e => s.i16 (Reg.ELEMENT_Y e))
  match n with
  | 0 => 10000
  | 1 => 5500
  | _ => 3025

/-- The weights of a receive beam toward a direction at a channel (R224, R230): −(Φ_rx + ψ) with the taper. -/
def State.steeredWeights (s : State) (khz : Nat) (az el : Int) (cheb : Bool) (cs : List Nat) : List Weight :=
  (cs.filter fun c => s.get (Reg.RX_PHASE c) != noValue).map fun c =>
    ⟨c, if cheb then s.cheb25 cs c else 10000, 0, wrapAngle (-(s.i16 (Reg.RX_PHASE c) + s.steer c khz az el))⟩

/-- The weights of a COMBINED beam for one reply (R224): the conjugate of each chain's amplitude estimated from the preamble,
over its noise power. Φ_rx applied to the samples leaves the weight on a raw sample as it is. -/
def combinedWeights (cs : List Nat) (pre : List PreMeas) : List Weight :=
  (pre.filter fun m => cs.contains m.chain.val).map fun m => ⟨m.chain.val, 10000, m.amp - 2 * m.noise, wrapAngle (-m.phase)⟩

/-- The weights of receive beam `b` (R224 to R226): those of a beam that its dwell uses, a COMBINED beam keeping what it
formed for its last reply. -/
def State.weightsOf (s : State) (b : Nat) : List Weight :=
  match s.running (b / 4) with
  | some r =>
    let z := r.d.zone
    let k := b % 4
    let cs := s.rxChains r.d
    if !(r.d.rx.testBit k && !s.arr.rxGone.testBit b) then []
    else if s.get (Reg.ZONE_RX_MODE z) = 1 then
      s.steeredWeights r.d.khz (s.i16 (Reg.ZONE_RX_AZ z k)) (s.i16 (Reg.ZONE_RX_EL z k)) (s.get (Reg.ZONE_RX_TAPER z) = 1) cs
    else (Tab.get s.arr.weights b).filter fun w => cs.contains w.chain
  | none => []

/-- The weights of a receive beam set; a beam without weights has no entry. -/
def State.setWeights (s : State) (b : Nat) (w : List Weight) : State :=
  { s with arr := { s.arr with weights := if w.isEmpty then Tab.del s.arr.weights b else Tab.put s.arr.weights b w } }

/-- The weights of receive beam `b` follow its dwell. -/
def State.weigh (s : State) (b : Nat) : State := s.setWeights b (s.weightsOf b)

/-- The receive-beam group of beam `b` (R203, R224, R307, Table 6.8). -/
def State.showRx (s : State) (b : Nat) : State :=
  let k := b % 4
  match s.running (b / 4) with
  | some r =>
    let z := r.d.zone
    let steered := s.get (Reg.ZONE_RX_MODE z) = 1
    if r.d.rx.testBit k && !s.arr.rxGone.testBit b then
      s.recordIf (Reg.RXB_SEQ b)
        [(Reg.RXB_MODE b, s.get (Reg.ZONE_RX_MODE z)),
         (Reg.RXB_AZ b, if steered then s.get (Reg.ZONE_RX_AZ z k) else noValue),
         (Reg.RXB_EL b, if steered then s.get (Reg.ZONE_RX_EL z k) else noValue),
         (Reg.RXB_TAPER b, s.get (Reg.ZONE_RX_TAPER z)), (Reg.RXB_CHAIN_MASK b, maskOf (s.rxChains r.d))]
    else
      s.recordIf (Reg.RXB_SEQ b) [(Reg.RXB_MODE b, 0), (Reg.RXB_AZ b, noValue), (Reg.RXB_EL b, noValue),
        (Reg.RXB_TAPER b, 0), (Reg.RXB_CHAIN_MASK b, 0)]
  | none =>
    s.recordIf (Reg.RXB_SEQ b) [(Reg.RXB_MODE b, 0), (Reg.RXB_AZ b, noValue), (Reg.RXB_EL b, noValue),
      (Reg.RXB_TAPER b, 0), (Reg.RXB_CHAIN_MASK b, 0)]

/-- ACTIVE_TX_BEAMS and ACTIVE_RX_BEAMS. -/
def State.showActive (s : State) : State :=
  s.recordIf Reg.ASTATE_SEQ
    [(Reg.ACTIVE_TX_BEAMS, maskOf (s.quadList.filter fun q => s.get (Reg.TXB_STATE q) = 1)),
     (Reg.ACTIVE_RX_BEAMS, maskOf (s.chainList.filter fun b => s.get (Reg.RXB_MODE b) != 0))]

/-- The receive beams of transmit beam `t` follow the gangs: what waited for the slot's end takes effect (R226, R230). -/
def State.beamsOut (s : State) (t : Nat) : State :=
  (chainsOf t).foldl (fun u b => (u.weigh b).showRx b)
    { s with arr := { s.arr with rxDue := clrBit s.arr.rxDue t } }

/-- The receive beams that wait for a slot's end change now. -/
def State.beamsDue (s : State) (t : Nat) : State := if s.arr.rxDue.testBit t then (s.beamsOut t).showActive else s

/-- Every beam group follows the gangs; the receive beams of a transmit beam whose slot is open wait for its end (R226,
R230). -/
def State.showBeams (s : State) : State :=
  (s.quadList.foldl (fun t q =>
    let u := t.showTx q
    if u.inSlot q then { u with arr := { u.arr with rxDue := setBit u.arr.rxDue q } } else u.beamsOut q) s).showActive

/-- A gang whose chains have all converged may send its first command (R151). -/
def State.reedReady (s : State) (l : Nat) : State :=
  match s.running l with
  | none => s
  | some r => if r.toned && (s.rxChains r.d).all fun c => (s.chain c).conv then s.putRunning l { r with ready := true } else s

/-- Chains have left their beams: the beam groups follow, and a gang that waited for them alone goes on. -/
def State.beamsLost (s : State) : State := s.quadList.foldl State.reedReady s.showBeams

/-- A chain's gain changes, after the reply window where one is open (R158). -/
def State.gainTo (s : State) (c g : Nat) : State :=
  if (s.leaderOf (c / 4)).any s.inWindow then s.updChain c fun x => { x with gainDue := some g }
  else s.recordIf (Reg.CSTATE_SEQ c) [(Reg.RX_GAIN_STATE c, g)]

/-- A reply window of a beam has ended: the gain changes that waited take effect (R158). -/
def State.replyOver (s : State) (t : Nat) : State :=
  match s.running t with
  | none => s
  | some r => (gangChains r.d.gang).foldl (fun u c => match (u.chain c).gainDue with
    | some g => (u.updChain c fun x => { x with gainDue := none }).recordIf (Reg.CSTATE_SEQ c) [(Reg.RX_GAIN_STATE c, g)]
    | none => u) s

/-! ### The tone bus (R34 to R36) -/

/-- The quads of the gang that measures under a leader. -/
def State.toneGang (s : State) (l : Nat) : Nat :=
  match s.testC with
  | some t => t.quads
  | none => match s.running l with
    | some r => r.d.gang
    | none => 2 ^ l

/-- The quad that drives the tone for a gang: its lowest-numbered (R34). -/
def toneDriver (gang : Nat) : Nat := (bitsOf 4 gang).headD 0

/-- A gang's request for the tone bus is withdrawn. -/
def State.dropTone (s : State) (leader : Nat) : State :=
  { s with arr := { s.arr with bus := s.arr.bus.filter fun p => p.1 != leader } }

/-- Whether one request for the tone bus is served before another (R35): in arrival order, those of one tick in ascending
number of the driving quad. -/
def State.servedBefore (s : State) (a b : Nat × Nat) : Bool :=
  a.2 < b.2 || (a.2 = b.2 && toneDriver (s.toneGang a.1) ≤ toneDriver (s.toneGang b.1))

/-- A gang asks for the tone bus, an earlier request of its own standing (R35); its PAs go down first (R34). -/
def State.askTone (s : State) (leader : Nat) : State :=
  let s1 := (bitsOf 4 (s.toneGang leader)).foldl State.rampQuad s
  if s1.arr.bus.any fun p => p.1 = leader then s1
  else
    let r := (leader, s1.tim.now)
    { s1 with arr := { s1.arr with
      bus := (s1.arr.bus.filter fun p => s1.servedBefore p r) ++ [r] ++ s1.arr.bus.filter fun p => !s1.servedBefore p r } }

/-! ### Synthesisers -/

/-- A quad is not locked, or not measured on its channel (Table 6.8): its phases have no value, no measurement that covered
it stands (R36, R216), and a gang that waited for the tone bus with it no longer does. -/
def State.phaseless (s : State) (q : Nat) : State :=
  let s1 := (s.recordIf Reg.RXPH_SEQ ((chainsOf q).map fun c => (Reg.RX_PHASE c, noValue))).recordIf Reg.TXPH_SEQ
    ((chainsOf q).map fun c => (Reg.TX_PHASE c, noValue))
  let s2 := (chainsOf q).foldl (fun t c => t.updChain c fun x => { x with tone := none }) s1
  { s2 with arr := { s2.arr with
    tone := s2.arr.tone.filter fun p => !(p.2.temps.any fun x => x.1 = q)
    bus := s2.arr.bus.filter fun p => !(s2.toneGang p.1).testBit q } }

/-- A quad's synthesiser is asked for a channel: it loses its lock and retunes, its Drone ramped down first (R139,
Sequence 4.1). -/
def State.retune (s : State) (q khz : Nat) (why : Option HeldBy) : State :=
  let s1 := ((s.rampQuad q).phaseless q).updQuad q fun x => { x with want := khz, held := why }
  if (s1.quad q).calibrating then s1
  else s1.record (Reg.QSTATE_SEQ q) [(Reg.QUAD_STATE q, 2), (Reg.SYNTH_FREQ_KHZ q, 0)]

/-- The Drone of a quad is down and its PAs are off (Table 2.1). -/
def State.quadDark (s : State) (q : Nat) : State :=
  (chainsOf q).foldl (fun t c => if t.hasDrone c then t.stopChain c (t.restState c) false else t) s

/-- A quad's synthesiser is off, and its PAs with it (Table 2.1). -/
def State.synthOff (s : State) (q : Nat) : State :=
  let s1 := ((s.quadDark q).phaseless q).updQuad q fun x => { x with want := 0, held := none, calibrating := false, calRepeat := false }
  s1.recordIf (Reg.QSTATE_SEQ q)
    [(Reg.QUAD_STATE q, if s1.get (Reg.QUAD_STATE q) = 5 then 5 else 0), (Reg.SYNTH_FREQ_KHZ q, 0)]

/-- A full calibration of a quad starts (R170): its Drone is ramped down first. -/
def State.startCal (s : State) (q : Nat) : State :=
  let s1 := ((s.rampQuad q).phaseless q).updQuad q fun x =>
    { x with calibrating := true, calDue := false, calKhz := if x.want = 0 then s.lowestKhz else x.want }
  let out := s1.get (Reg.QUAD_STATE q) = 5
  s1.record (Reg.QSTATE_SEQ q) [(Reg.QUAD_STATE q, if out then 5 else 1), (Reg.SYNTH_FREQ_KHZ q, 0)]

/-! ### The return-loss sweep (R150, R207) -/

/-- A chain can be swept (R139, R169): it is in service, and its quad is in service, linked and not calibrating. -/
def State.sweepable (s : State) (c : Nat) : Bool :=
  s.chainIn c && s.quadIn (c / 4) && (s.hub (c / 4)).width != 0 && !(s.quad (c / 4)).calibrating

/-- The chains a sweep covers. -/
def State.sweepChains (s : State) (only : Option Nat) : List Nat :=
  (match only with
  | some c => [c]
  | none => s.chainList).filter s.sweepable

/-- The sweep raises Drone at −10 dBm on a channel, on every chain at once, where the interlock passes it; Reed starts from
the channel's entry. -/
def State.sweepOn (s : State) (khz : Nat) (only : Option Nat) : State :=
  let cs := s.sweepChains only
  let s1 := ((s.quadList.filter fun q => cs.any fun c => c / 4 = q).foldl (fun t q =>
    ((t.phaseless q).updQuad q fun x => { x with want := khz }).record (Reg.QSTATE_SEQ q)
      [(Reg.QUAD_STATE q, 3), (Reg.SYNTH_FREQ_KHZ q, khz)]) s)
  cs.foldl (fun t c => (((t.loadSeed khz c).raiseChain c (-40)).record (Reg.CSTATE_SEQ c) [(Reg.CHAIN_STATE c, 2)])) s1

/-- Whether the interlock passes the sweep on a channel: each chain alone at −10 dBm, since chains sweep one by one
against their own ports and the quads in parallel (R150, R190). -/
def State.sweepPasses (s : State) (khz : Nat) (only : Option Nat) : Bool :=
  s.interlock khz ((s.sweepChains only).map fun c => (c, -40))

/-- The sweep goes on with the next channel that the interlock passes; with no chain to sweep, or no channel left, it is
over. -/
def State.sweepNext (s : State) (w : Sweep) : List Nat → State
  | [] => { s with sweep := none }
  | k :: r =>
    if (s.sweepChains w.only).isEmpty then { s with sweep := none }
    else if s.sweepPasses k w.only then ({ s with sweep := some { w with left := k :: r } }).sweepOn k w.only
    else s.refuse.sweepNext w r

/-- A sweep of some channels starts, in ascending order (R150). -/
def State.startSweep (s : State) (khzs : List Nat) (only : Option Nat) (iso : Bool) : State :=
  let s1 := (s.sweepChains only).foldl (fun t c => t.record (Reg.PORT_SEQ c) [(Reg.SWEEP_MIN_RL c, noValue)]) s
  s1.sweepNext ⟨khzs, only, iso, s.tim.now, 0, []⟩ khzs

/-- The reseeds that wait are swept, one chain after another (R175). -/
def State.sweepQueued (s : State) : List Nat → State
  | [] => s
  | c :: r =>
    let t := s.startSweep (s.channels.map fun p => p.2.khz) (some c) false
    match t.sweep with
    | some w => { t with sweep := some { w with queue := r } }
    | none => t.sweepQueued r

/-- A sweep in progress is cut: its Drone is ramped down (R51, R139). -/
def State.cutSweep (s : State) : State :=
  match s.sweep with
  | none => s
  | some w => (s.sweepChains w.only).foldl State.rampDown { s with sweep := none }

end Sys2Proof.Machine
end

