-- ==== Sys2Proof/Machine/Chanter.lean ====
section
/-! DEFINITION. The air protocol engine's shared operations (chapter 7): slot boundaries and the Q procedure, the end of a
round, reads, the access slots and the result queue. -/

namespace Sys2Proof.Machine

/-- What a zone keeps between rounds. -/
def State.zoneMem (s : State) (z : Nat) : ZoneMem := Tab.get s.eng.zones z

/-- round() of R262: halves upward, of a value in 0.01. -/
def roundQ (qfp : Nat) : Nat := (qfp + 50) / 100

/-! ### Reader commands before the slots (Table 7.1, R243, R244, R265, R266) -/

/-- The `n` low bits of a value, most significant first. -/
def msbBits : Nat → Nat → List Bool
  | 0, _ => []
  | n + 1, v => v.testBit n :: msbBits n v

/-- A Select's pointer as the air standard's extensible bit vector: blocks of seven bits, each but the last led by a 1.
PRESUMED (log entry 52). -/
def ebvBits (v : Nat) : List Bool :=
  let n := 1 + ((List.range 4).filter fun i => 2 ^ (7 * (i + 1)) ≤ v).length
  (List.range n).flatMap fun i => (i + 1 != n) :: msbBits 7 (v / 2 ^ (7 * (n - 1 - i)))

/-- Bits with the CRC-16 over them appended (R266, Table 15.2). -/
def withCrc16 (b : List Bool) : List Bool :=
  b ++ match polyOf 1 with
    | some p => msbBits 16 (crcBits p b)
    | none => []

/-- The bits of the commands that go before a Query (R265, R266): Select with Truncate = 0, and Challenge as the host's bytes
between its command code and CRC-16. The field layout is the air standard's: PRESUMED (log entry 52). -/
def ReaderCmd.openingBits : ReaderCmd → List Bool
  | .select target action membank pointer length mask =>
    withCrc16 (msbBits 4 0b1010 ++ msbBits 3 target ++ msbBits 3 action ++ msbBits 2 membank ++ ebvBits pointer ++
      msbBits 8 length ++ (mask.flatMap (bitOrder false)).take length ++ [false])
  | .challenge msg => withCrc16 (msbBits 8 0b11010100 ++ msg.flatMap (bitOrder false))
  | _ => []

/-- The 6.25 ns cycles that a command takes (R251): the delimiter of 12.5 µs (Table 7.5), Tari and RTcal, then its bits. -/
def State.cmdCycles (s : State) (p : Nat) (c : ReaderCmd) : Nat :=
  let tari := s.get (Reg.TARI_NS p) * 4 / 25
  let rtcal := s.get (Reg.RTCAL_CYC p)
  2000 + tari + rtcal + (c.openingBits.map fun b => if b then rtcal - tari else tari).sum

/-- The cycles from a command without a reply to the next (R244): T4, or CHALLENGE_HOLDOFF_US after Challenge where that is
longer. -/
def State.gapCycles (s : State) (p : Nat) (c : ReaderCmd) : Nat :=
  let t4 := 2 * s.get (Reg.RTCAL_CYC p)
  match c with
  | .challenge _ => max t4 (160 * s.get Reg.CHALLENGE_HOLDOFF_US)
  | _ => t4

/-- The Select command of an entry, its fields as they are (R265). -/
def State.selectCmd (s : State) (e : Nat) : ReaderCmd :=
  .select (s.get (Reg.SEL_TARGET e)) (s.get (Reg.SEL_ACTION e)) (s.get (Reg.SEL_MEMBANK e)) (s.get (Reg.SEL_POINTER e))
    (s.get (Reg.SEL_LENGTH e)) (s.dom (Reg.SEL_MASK e))

/-- The commands before a round's Query (R243): `begun` a round of the dwell has been started before. -/
def State.openingOf (s : State) (p : Nat) (begun : Bool) : List ReaderCmd :=
  (if s.get (Reg.SELECT_EVERY p) = 1 || !begun then (bitsOf 16 (s.get (Reg.SELECT_MASK p))).map s.selectCmd else []) ++
    if s.get (Reg.CHALLENGE p) = 1 then [.challenge (s.dom Reg.CHALLENGE_MSG)] else []

/-- A round's Query (R243, R262). -/
def State.queryCmd (s : State) (n : Round) : ReaderCmd :=
  let p := n.prof
  .query (s.get (Reg.DR p)) (s.get (Reg.MILLER p)) (s.get (Reg.TREXT p) = 1) (s.get (Reg.SEL p)) (s.get (Reg.SESSION p)) n.target n.q

/-- A round goes on with the commands before its Query; with none left the Query is sent and the first slot opens. -/
def State.opens (s : State) (n : Round) : List ReaderCmd → Round
  | [] => { n with stage := .slot, queried := true, opening := [], left := 0, sent := n.sent ++ [s.queryCmd n] }
  | c :: r => { n with stage := .selecting, opening := c :: r, left := s.cmdCycles n.prof c + s.gapCycles n.prof c,
                       sent := n.sent ++ [c] }

/-- No command before the Query is in progress: the interval after one runs. -/
def State.inGap (s : State) (n : Round) : Bool :=
  match n.opening with
  | c :: _ => n.left ≤ s.gapCycles n.prof c
  | [] => true

/-- Four cycles of a round that sends the commands before its Query: the next goes when its instant comes, and an end cause
that waits ends the round after the command in progress (R246). -/
def State.openingTick (s : State) (n : Round) : Round :=
  if n.stage != .selecting then n
  else if 4 < n.left then
    let m := { n with left := n.left - 4 }
    if m.due.isSome && s.inGap m then { m with stage := .ending } else m
  else if n.due.isSome then { n with stage := .ending }
  else
    let m := s.opens n n.opening.tail
    { m with left := m.left - (4 - n.left) }

/-! ### Access slots (R267 to R275) -/

/-- The value of the last four bytes of an EPC, first byte most significant (R267, R220). -/
def epcTail (epc : Bytes) : Nat := leNat (epc.reverse.take 4)

/-- A tag matches a slot (R267). -/
def State.opMatches (s : State) (n zone : Nat) (epc : Bytes) : Bool :=
  let len := s.get (Reg.OP_MATCH_LEN n)
  let z := s.get (Reg.OP_ZONE n)
  (z = zone || z = 0xFF) && len ≤ 8 * epc.length &&
    epcTail epc % 2 ^ len = s.get (Reg.OP_MATCH_TAIL n) % 2 ^ len

/-- The slot that runs on a beam. -/
def Round.opNow (r : Round) : Option Nat := if r.stage = .access then r.ops.head? else none

/-- Whether slot `n` runs on any beam. -/
def State.opRunning (s : State) (n : Nat) : Bool := s.eng.rounds.any fun p => p.2.opNow = some n

/-- Whether slot `n` runs on any beam on the tag with an EPC (R271). -/
def State.opRunningOn (s : State) (n : Nat) (epc : Bytes) : Bool :=
  s.eng.rounds.any fun p => p.2.opNow = some n && p.2.epc = epc

/-- Operations running, each with room kept for its result (R272). -/
def State.opsRunning (s : State) : Nat := (s.eng.rounds.filter fun p => p.2.opNow.isSome).length

/-- OP_STATE follows the arming and the runs (Table 7.8). -/
def State.opState (s : State) (n : Nat) : State :=
  let v := if s.opRunning n then 2 else if s.eng.armed.testBit n then 1 else 0
  if s.get (Reg.OP_STATE n) = v then s else s.record (Reg.OP_SEQ n) [(Reg.OP_STATE n, v)]

/-- A slot armed or disarmed (R273). -/
def State.armOp (s : State) (n : Nat) (on : Bool) : State :=
  ({ s with eng := { s.eng with armed := putBit s.eng.armed n on } }).opState n

/-- Every slot with OP_AUTO_ARM = 1 is armed (R275). -/
def State.autoArm (s : State) : State :=
  (List.range 16).foldl (fun t n => if t.get (Reg.OP_AUTO_ARM n) = 1 then t.armOp n true else t) s

/-- A result entry (Table 7.10). -/
def resultBytes (id time slot op code tagErr beam zone tag pc : Nat) (epc data : Bytes) : Bytes :=
  leBytes 4 id ++ leBytes 8 time ++ leBytes 1 slot ++ leBytes 1 op ++ leBytes 1 code ++ leBytes 1 tagErr ++
    leBytes 1 beam ++ leBytes 1 zone ++ leBytes 2 data.length ++ leBytes 4 tag ++ leBytes 2 pc ++ epc ++ data

/-- RESULT_COUNT and RESULT_OLDEST follow the queue (R277). -/
def State.resultsChanged (s : State) : State :=
  let d := ((s.eng.results.head?).map ResEntry.data).getD []
  (s.putDom Reg.RESULT_OLDEST d).record Reg.RESQ_SEQ [(Reg.RESULT_COUNT, s.eng.results.length)]

/-- An entry is written to the result queue while it has room; entries are never overwritten (R277). -/
def State.pushResult (s : State) (t slot op code tagErr : Nat) (r : Round) (data : Bytes) : State :=
  if 64 ≤ s.eng.results.length then s
  else
    let id := s.eng.nextId
    let e : ResEntry := ⟨id, resultBytes id s.tim.now slot op code tagErr t r.zone r.tag r.pc r.epc data⟩
    ({ s with eng := { s.eng with results := s.eng.results ++ [e], nextId := (id + 1) % 2 ^ 32 } }).resultsChanged

/-- A word of a tag's memory in a block of its bytes: the first byte is the more significant, as a tag sends it. The spec does
not state the order for DATA: DESIGN CHOICE, log entry 50. -/
def wordAt (d : Bytes) (i : Nat) : Nat := (d.getD (2 * i) 0).toNat * 256 + (d.getD (2 * i + 1) 0).toNat

/-- Evaluation of one watch entry on a Read's words (R278); a word beyond them leaves it without a value. -/
def State.watchOne (s : State) (w : Nat) (data : Bytes) : State :=
  let o := s.get (Reg.WATCH_WORD w)
  if data.length < 2 * o + 2 then s.recordIf (Reg.WATCH_SEQ w) [(Reg.WATCH_STATE w, 0)]
  else
    let word := wordAt data o
    let v := word &&& s.get (Reg.WATCH_MASK w)
    let old := s.get (Reg.WATCH_STATE w)
    let new := if v < s.get (Reg.WATCH_LOW w) then 2 else if s.get (Reg.WATCH_HIGH w) < v then 3 else 1
    let s1 := s.record (Reg.WATCH_SEQ w)
      [(Reg.WATCH_LAST w, v), (Reg.WATCH_STATE w, new), (Reg.WATCH_TIME w, s.tim.now)]
    if 2 ≤ new && new != old then s1.latch 39 (Reg.WATCH_STATE w) new else s1

/-- Every enabled watch entry fed by a Read's slot and naming the tag is evaluated (R278). -/
def State.watch (s : State) (slot : Nat) (epc data : Bytes) : State :=
  (List.range 16).foldl (fun t w =>
    if t.get (Reg.WATCH_ENABLE w) = 1 && t.get (Reg.WATCH_SLOT w) = slot && t.get (Reg.WATCH_TAIL w) = epcTail epc
    then t.watchOne w data else t) s

/-- An operation ends with an access code (R270, R271, R278): its result entry, OP_RUNS, the event, the disarming of a
ONCE slot, and the watch entries. -/
def State.opEnds (s : State) (t slot code tagErr : Nat) (r : Round) (data : Bytes) : State :=
  let op := s.get (Reg.OP_CODE slot)
  let s1 := s.pushResult t slot op code (if code = 3 then tagErr else 0xFF) r data
  let s2 := s1.record (Reg.OP_SEQ slot) [(Reg.OP_RUNS slot, (s1.get (Reg.OP_RUNS slot) + 1) % 2 ^ 32)]
  let s3 := if code = 0 then s2.latch 35 (Reg.OP_RUNS slot) (s2.get (Reg.OP_RUNS slot))
    else s2.latch 36 (Reg.OP_RUNS slot) (s2.get (Reg.OP_RUNS slot))
  let s4 := if code = 0 && s3.get (Reg.OP_REPEAT slot) = 0 then s3.armOp slot false else s3.opState slot
  if code = 0 && op = 1 then s4.watch slot r.epc data else s4

/-! ### Round ends (R246 to R248, R262) -/

/-- The round's group while it runs (Table 7.8). -/
def State.showRound (s : State) (t : Nat) (r : Round) : State :=
  s.record (Reg.RSTAT_SEQ t)
    [(Reg.ROUND_STATE t, if r.stage = .access then 3 else if r.stage = .powerUp then 0 else if r.stage = .selecting then 1 else 2),
     (Reg.ROUND_ZONE t, r.zone), (Reg.ROUND_PROFILE t, r.prof), (Reg.Q_NOW t, r.q), (Reg.QFP t, r.qfp)]

/-- The zone keeps the round's Qfp and target, unless no Query was sent (R246, R262, R263). -/
def State.keepZone (s : State) (r : Round) : State :=
  { s with eng := { s.eng with zones := Tab.upd s.eng.zones r.zone fun m =>
      if !r.queried then { m with warm := true }
      else { qfp := some r.qfp, target := some r.target, warm := true } } }

/-- A round's statistics are written, ROUND_NUMBER counts and event 32 is latched (R248). -/
def State.roundStats (s : State) (t cause : Nat) (aborted : Bool) (r : Round) : State :=
  let n := (s.get (Reg.ROUND_NUMBER t) + 1) % 2 ^ 32
  (s.record (Reg.RSTAT_SEQ t)
    [(Reg.ROUND_STATE t, 0), (Reg.ROUND_ZONE t, 0xFF), (Reg.ROUND_PROFILE t, 0xFF),
     (Reg.LR_SLOTS t, r.slots), (Reg.LR_SINGLES t, r.singles), (Reg.LR_EMPTIES t, r.empties),
     (Reg.LR_COLLISIONS t, r.colls), (Reg.LR_CRC_ERRORS t, r.crc), (Reg.LR_LATE t, r.late),
     (Reg.LR_END_CAUSE t, cause), (Reg.LR_FLAGS t, ofBool r.cold + ofBool aborted * 2),
     (Reg.LR_DURATION t, (s.tim.now - r.began) / 40 % 2 ^ 32),
     (Reg.ROUND_NUMBER t, n)]).latch 32 (Reg.ROUND_NUMBER t) n

/-- A round ends with its cause; one ended at once (causes 3 to 5, or a reset of the dwell) is flagged ABORTED, its slot in
progress counting nowhere, and its access operation ends with ABORTED (R247). Changes that waited for its slot or its reply
window take effect (R158, R226). -/
def State.endRound (s : State) (t cause : Nat) (aborted : Bool) : State :=
  match s.round t with
  | none => s
  | some r =>
    let s0 := (s.replyOver t).beamsDue t
    let s1 := { s0 with eng := { s0.eng with rounds := Tab.del s0.eng.rounds t } }
    let s2 := match r.opNow with
      | some n => s1.opEnds t n 7 0xFF r []
      | none => s1
    (s2.keepZone r).roundStats t cause aborted r

/-- An end cause that waits for the slot boundary is noted, the lowest code first (R246, R247). -/
def State.dueRound (s : State) (t cause : Nat) : State :=
  match s.round t with
  | none => s
  | some r =>
    let c := match r.due with | some d => min d cause | none => cause
    let r1 := { r with due := some c }
    if r.stage = .powerUp || (r.stage = .selecting && s.inGap r) then s.putRound t { r1 with stage := .ending }
    else s.putRound t r1

/-! ### Slot boundaries (R246, R262) -/

/-- The slot's outcome enters the counts and Qfp (R259, R262). -/
def Round.outcomeIn (r : Round) (qmin qmax qc : Nat) : Round :=
  let s1 := { r with slots := r.slots + 1, crc := r.crc + ofBool r.crcSlot, late := r.late + ofBool r.lateSlot }
  match r.outcome with
  | 0 => { s1 with empties := r.empties + 1, qfp := max (100 * qmin) (r.qfp - qc),
                   run := if r.q = qmin then r.run + 1 else 0 }
  | 1 => { s1 with colls := r.colls + 1, qfp := min (100 * qmax) (r.qfp + qc), run := 0 }
  | _ => { s1 with singles := r.singles + 1, run := 0 }

/-- The end cause that falls due at a slot boundary: the lowest among those that hold (R246). -/
def Round.causeAt (r : Round) (emptyEnd slotMax qmin : Nat) : Option Nat :=
  if emptyEnd ≤ r.run && r.q = qmin then some 0
  else if slotMax ≤ r.slots then some 1
  else r.due

/-- The command that opens the next slot (R262): QueryAdjust where Q changes, QueryAdjust with updn 0 after the first empty slot
of a run at QMIN, otherwise QueryRep. `r` is the round before the slot counted, `r1` after. -/
def nextSlot (r r1 : Round) (qmin session : Nat) : ReaderCmd :=
  let q := roundQ r1.qfp
  if q != r.q then .queryAdjust session (if r.q < q then 1 else -1)
  else if r.outcome = 0 && r.q = qmin && r1.run = 1 then .queryAdjust session 0
  else .queryRep session

/-- A slot boundary: the slot is counted, and the round ends there or the next slot opens with the Q then due, after NAK where
every ACK has failed (R260, R262). -/
def State.slotBoundary (s0 : State) (t : Nat) (r : Round) : State :=
  let s := (s0.replyOver t).beamsDue t
  let p := r.prof
  let qmin := s.get (Reg.QMIN p)
  let r1 := r.outcomeIn qmin (s.get (Reg.QMAX p)) (s.get (Reg.Q_C p))
  let nak := if r.crcSlot then [ReaderCmd.nak] else []
  let r2 : Round := match r1.causeAt (s.get (Reg.EMPTY_END p)) (s.get (Reg.SLOT_MAX p)) qmin with
    | some c => { r1 with due := some c, stage := .ending, crcSlot := false, lateSlot := false, sent := r.sent ++ nak }
    | none => { r1 with q := roundQ r1.qfp, stage := .slot, outcome := 0, acks := 0, ops := [], spatial := false,
                        crcSlot := false, lateSlot := false, steps := [],
                        sent := nak ++ [nextSlot r r1 qmin (s.get (Reg.SESSION p))] }
  (s.putRound t r2).showRound t r2

/-! ### Access operations on a singulated tag (R268, R269) -/

/-- What an operation carries out (R268, R269): the handle, Access in two halves, the operation itself and its read-back. The
order of a password's halves and of the bits in DATA is log entry 52. -/
def State.opSteps (s : State) (k : Nat) : List OpStep :=
  let op := s.get (Reg.OP_CODE k)
  let bank := s.get (Reg.OP_BANK k)
  let ptr := s.get (Reg.OP_WORD_PTR k)
  let wc := s.get (Reg.OP_WORD_COUNT k)
  let d := s.dom (Reg.OP_DATA k)
  let pwd := s.get (Reg.OP_ACCESS_PWD k)
  let kill := s.get (Reg.OP_KILL_PWD k)
  let secure : List OpStep :=
    if pwd = 0 || op = 6 then [] else [.cover, .access (pwd / 2 ^ 16), .cover, .access (pwd % 2 ^ 16)]
  let body : List OpStep := match op with
    | 1 => [.read bank ptr wc]
    | 2 => (List.range wc).flatMap fun i => [.cover, .write bank (ptr + i) (wordAt d i)]
    | 3 => [.blockWrite bank ptr (d.take (2 * wc))]
    | 4 => [.blockErase bank ptr wc]
    | 5 => [.lock (leNat d % 2 ^ 20)]
    | 6 => [.cover, .kill (kill / 2 ^ 16) false, .cover, .kill (kill % 2 ^ 16) true]
    | 7 => [.blockPermalock (ofBool !d.isEmpty) bank ptr wc d]
    | 8 => [.untraceable (leNat d)]
    | 9 => [.authenticate d]
    | _ => []
  let back : List OpStep :=
    if s.get (Reg.OP_VERIFY k) = 1 && (op = 2 || op = 3) then [.verify bank ptr wc (d.take (2 * wc))] else []
  .handle :: secure ++ body ++ back

/-- The command of a step, sent with the tag's RN16 or handle and covered with the word last drawn (R269). -/
def OpStep.cmd (rn handle cover : Nat) : OpStep → ReaderCmd
  | .handle => .reqRn rn
  | .cover => .reqRn handle
  | .access h => .access (h ^^^ cover) handle
  | .kill h _ => .kill (h ^^^ cover) handle
  | .read b p n => .read b p n handle
  | .write b p w => .write b p (w ^^^ cover) handle
  | .blockWrite b p d => .blockWrite b p d handle
  | .blockErase b p n => .blockErase b p n handle
  | .lock v => .lock v handle
  | .blockPermalock r b p n m => .blockPermalock r b p n m handle
  | .untraceable v => .untraceable v handle
  | .authenticate m => .authenticate m handle
  | .verify b p n _ => .read b p n handle

/-- Steps whose reply comes within ACCESS_REPLY_TIMEOUT_US (R257). -/
def OpStep.delayed : OpStep → Bool
  | .kill _ last => last
  | .write _ _ _ | .blockWrite _ _ _ | .blockErase _ _ _ | .lock _ | .blockPermalock _ _ _ _ _ | .untraceable _
  | .authenticate _ => true
  | _ => false

/-- Whether a reply has the length that its command asks for; one that has not cannot pass its CRC-16. -/
def OpStep.fits (d : Bytes) : OpStep → Bool
  | .handle | .cover | .access _ => d.length = 2
  | .read _ _ n => n = 0 || 64 < n || d.length = 2 * n
  | .verify _ _ n _ => d.length = 2 * n
  | .blockPermalock 0 _ _ n _ => d.length = 2 * n
  | _ => true

/-- The access code of an operation whose step has failed after its retries (Table 7.9); where two names of the table fit, the
one of the step itself: DESIGN CHOICE, log entry 50. -/
def OpStep.failCode (r : TagReply) : OpStep → Nat
  | .handle | .cover => 1
  | .access _ => match r with
    | .badCrc | .data _ => 5
    | _ => 2
  | _ => match r with
    | .badCrc | .data _ => 5
    | _ => 4

/-- The commands sent so far with the present step's. -/
def Round.sending (n : Round) : Round :=
  match n.steps with
  | st :: _ => { n with sent := n.sent ++ [st.cmd n.rn16 n.handle n.cover] }
  | [] => n

/-- The present step is done: the next command is sent. -/
def Round.stepDone (n : Round) (d : Bytes) : Round :=
  match n.steps with
  | [] => n
  | st :: rest =>
    let m := { n with steps := rest, tries := 0 }
    (match st with
      | .handle => { m with handle := wordAt d 0 }
      | .cover => { m with cover := wordAt d 0 }
      | _ => m).sending

/-- A step that has drawn no good reply: it is sent again, or the operation ends (R269). -/
def Round.again (n : Round) (retries : Nat) (r : TagReply) (st : OpStep) : Round × Bytes × Option (Nat × Nat) :=
  if n.tries < retries then ({ n with tries := n.tries + 1 }.sending, [], none) else (n, [], some (st.failCode r, 0xFF))

/-- What one reply does to an operation (R269, R276): the round after it, the result DATA it brings (Table 7.7), and the access
code and tag error where the operation ends. -/
def Round.answered (n : Round) (retries : Nat) (r : TagReply) : Round × Bytes × Option (Nat × Nat) :=
  match n.steps with
  | [] => (n, [], some (0, 0xFF))
  | st :: rest =>
    match r with
    | .error e => (n, [], some (3, e.toNat))
    | .data d =>
      if !st.fits d then n.again retries r st
      else
        let fin : Option (Nat × Nat) := if rest.isEmpty then some (0, 0xFF) else none
        match st with
        | .access _ => if wordAt d 0 = n.handle then (n.stepDone d, [], fin) else (n, [], some (2, 0xFF))
        | .verify _ _ _ want => if d = want then (n.stepDone d, [], fin) else (n, [], some (6, 0xFF))
        | .read _ _ _ | .authenticate _ | .blockPermalock 0 _ _ _ _ => (n.stepDone d, d.take 128, fin)
        | _ => (n.stepDone d, [], fin)
    | _ => n.again retries r st

/-- Replies in order, until the operation ends. -/
def Round.answers (n : Round) (retries : Nat) (got : Bytes) : List TagReply → Round × Bytes × Option (Nat × Nat)
  | [] => (n, got, none)
  | r :: rs =>
    match n.answered retries r with
    | (m, d, some e) => (m, got ++ d, some e)
    | (m, d, none) => m.answers retries (got ++ d) rs

/-- Whether a slot may start on the tag now (R267, R271): a ONCE slot not while it runs on the same tag on another beam. -/
def State.opStartable (s : State) (r : Round) (n : Nat) : Bool :=
  s.eng.armed.testBit n &&
    (if s.get (Reg.OP_REPEAT n) = 0 then !s.opRunningOn n r.epc else !r.ran.contains (n, r.epc))

/-- The result queue has room beside what is kept for the operations that run (R272). -/
def State.resultRoom (s : State) : Bool := s.eng.results.length + s.opsRunning < 64

/-- The next of the slots that match the tag starts with its Req_RN; while the result queue is full each is deferred instead
(R272). With none left, or when an end cause waits, the inventory continues at the slot boundary (R247, R269). -/
def State.nextOp (s : State) (t : Nat) (r : Round) : List Nat → State
  | [] => s.slotBoundary t { r with ops := [] }
  | n :: rest =>
    if r.due.isSome then s.slotBoundary t { r with ops := [] }
    else if !s.opStartable r n then s.nextOp t r rest
    else if !s.resultRoom then
      (((s.bump Reg.RESULT_DEFERRED).seq Reg.RESQ_SEQ)).nextOp t r rest
    else
      let r1 : Round := { r with stage := .access, ops := n :: rest, ran := r.ran ++ [(n, r.epc)], steps := s.opSteps n,
                                 tries := 0, handle := 0, cover := 0 }
      let r2 := r1.sending
      ((s.putRound t r2).opState n).showRound t r2

/-! ### Reads (R234, R260, Table 6.7) -/

/-- The measurement block's bytes (Table 6.7). -/
def Read.block (r : Read) : Bytes :=
  leBytes 8 r.time ++ leBytes 4 r.khz ++ leBytes 1 r.beam ++ leBytes 1 r.best ++ leBytes 2 r.rxMask ++
    leBytes 2 (maskOf (r.meas.map fun m => m.chain.val)) ++ leBytes 2 (ofInt 16 r.snr) ++ leBytes 2 (ofInt 16 r.power) ++
    leBytes 2 r.flags ++ leBytes 4 r.tag ++
    r.meas.flatMap fun m => leBytes 2 m.phase.val ++ leBytes 2 (ofInt 16 m.power) ++ leBytes 2 (ofInt 16 m.snr)

/-- Tags that open tracks hold (R361). -/
def State.openTags (s : State) : List Nat := s.trk.tracks.map Track.tag

/-- The XPC words that a reply carries (R261): XI is bit 9 of the PC word and XEB bit 15 of XPC_W1, as the air standard has
them. PRESUMED, log entry 52. -/
def xpcWords (e : EpcReply) : List Nat :=
  if !e.pc.toNat.testBit 9 then [] else if e.xpc.toNat.testBit 15 then [e.xpc.toNat, e.xpc2.toNat] else [e.xpc.toNat]

/-- A reply to ACK passes (R260, R261): its CRC-16 matches, which covers an EPC as long as the PC word's length field, bits
15:11, says. -/
def epcPasses (e : EpcReply) : Bool := e.crcOk && e.epc.length = 2 * (e.pc.toNat / 2048)

/-- A PC+EPC reply passes its check: the slot's tag is read. Its index is found or given, and the read waits for its
measurement (R234, R360). Its RX_BEAM_MASK, best beam and SNR are those of the slot's RN16 decode, whose decision was used: the
spec does not say which reply's they are, DESIGN CHOICE, log entry 50. -/
def State.readTag (s : State) (t khz : Nat) (r : Round) (e : EpcReply) : Round × State :=
  let ti := s.tagIndex e.pc.toNat ((xpcWords e).headD 0) e.epc s.openTags
  let rd : Read :=
    { time := r.replyAt, khz := khz, chan := s.entryOf khz, beam := t, best := r.best, rxMask := r.rxMask, snr := r.snr,
      power := 0, flags := ofBool r.cold + ofBool r.spatial * 8, tag := ti.1, zone := r.zone, isNew := ti.2.1,
      epc := e.epc, meas := [], dwell := (Tab.get s.val.running t).at_, lock := (Tab.get s.val.running t).locks }
  let s1 := ti.2.2
  let s2 := { s1 with
    eng := { s1.eng with heard := Tab.put s1.eng.heard t rd }
    val := { s1.val with zones := Tab.upd s1.val.zones r.zone fun z => { z with reads := z.reads ++ [s1.tim.now] } } }
  ({ r with tag := ti.1, pc := e.pc.toNat, xpc := xpcWords e, epc := e.epc },
    s2.record (Reg.RSTAT_SEQ t) [(Reg.READS_TOTAL t, (s2.get (Reg.READS_TOTAL t) + 1) % 2 ^ 64)])

end Sys2Proof.Machine
end

