-- ==== Sys2Proof/Machine/Valve.lean ====
section
/-! DEFINITION. Valve (chapter 9): the budget, the groups, the plan of a period and its fallback plans, and the loss of a
quad. -/

namespace Sys2Proof.Machine

/-! ### Air-link figures of a profile -/

/-- The Miller factor's IF bandwidth in Hz (Table 4.3). -/
def ifBandwidth (m blfHz : Nat) : Nat :=
  match m with | 1 => blfHz * 3 / 2 | 2 => blfHz | 4 => blfHz / 2 | _ => blfHz / 4

/-- B + W/2 of a profile, in 1/8 kHz (R206). -/
def State.halfWidth (s : State) (p : Nat) : Nat :=
  let b := s.get (Reg.BLF_KHZ p)
  8 * b + ifBandwidth (s.get (Reg.MILLER p)) (8 * b) / 2

/-- The spectral rule between two gangs (R206). -/
def State.spectral (s : State) (k1 p1 k2 p2 : Nat) : Bool :=
  k1 != k2 && s.halfWidth p1 + s.halfWidth p2 + 160 ≤ 8 * (max k1 k2 - min k1 k2)

/-! ### Temperature and power (R321, R322) -/

/-- P_static in mW (R322). -/
def State.pStatic (s : State) : Nat :=
  let byTemp := (150 * 10 - s.i16 Reg.AMBIENT_MAX).toNat * 10000 / s.get Reg.THETA_JA
  min (s.get Reg.POWER_CAP_MW) byTemp / 100 * 100

/-- BUDGET_MW (R322): the temperature term is exact before the rounding down. -/
def State.budget (s : State) : Nat :=
  let excess := (max 0 (s.i16 Reg.T_HOT - s.i16 Reg.DERATE_START)).toNat
  let th := s.get Reg.THETA_JA
  (s.pStatic * th - excess * 10000) / th / 10 * 10

/-- The RUN base of the power model in mW (Table 9.2). -/
def State.runBase (s : State) : Nat :=
  match s.variant with | .sv21 => 1050 | .sv31 => 1100 | .sv62 => 1550 | .sv74 => 1950 | .sv84 => 2000

/-- The HF term in mW (Table 9.2), when a transaction runs, or waits for the room that Table 9.3 makes for it (R326). -/
def State.hfTerm (s : State) : Nat := 2 * (if s.val.hfWaits then s.get Reg.HF_TX_POWER_MW else s.get Reg.HF_TX_POWER_NOW)

/-- The chain terms of levels, in millionths of a mW (Table 9.2). In SV8-21 and SV8-31 every chain counts at the
highest level (R48, R321). -/
def State.chainTerm (s : State) (ls : List Int) : Nat :=
  let top := ls.foldl max (-40)
  ((ls.map fun p => 70000000 + nanoWatt (if Variant.big s.variant then p else top) * 100 / 22).sum)

/-- The model's figure in mW, to nearest, with MEAS_CORR (R321). -/
def State.modelled (s : State) (quads : Nat) (ls : List Int) (hf : Nat) : Nat :=
  let raw := (s.runBase + 300 * quads + hf) * 1000000 + s.chainTerm ls
  (raw * s.get Reg.MEAS_CORR + 512 * 1000000) / (1024 * 1000000)

/-! ### Groups and zones (R310 to R314) -/

/-- The groups of Table 9.1. -/
def groupsAt (quads k : Nat) : List (List Nat) :=
  match quads, k with
  | 4, 4 => [[0], [1], [2], [3]]
  | 4, 3 => [[0], [1], [2, 3]]
  | 4, 2 => [[0, 1], [2, 3]]
  | 4, _ => [[0, 1, 2, 3]]
  | 2, 2 => [[0], [1]]
  | 2, _ => [[0, 1]]
  | _, _ => [[0]]

/-- A quad is in service for a plan: present, not OUT, and not the one whose loss is planned for. -/
def State.planQuad (s : State) (lost : Option Nat) (q : Nat) : Bool := s.quadIn q && !(s.quad q).offered && lost != some q

/-- The groups in use at K (R310). -/
def State.groups (s : State) (lost : Option Nat) (k : Nat) : List (List Nat) :=
  ((groupsAt (Variant.quads s.variant) k).map fun g => g.filter (s.planQuad lost)).filter fun g => !g.isEmpty

def State.zoneVal (s : State) (z : Nat) : ZoneVal := Tab.get s.val.zones z

/-- A zone's deadline in device time; the present boundary when it has had no round since its cold start (R313). -/
def State.deadline (s : State) (z : Nat) : Nat :=
  match (s.zoneVal z).last with
  | none => s.tim.now
  | some t => t + s.get (Reg.GOAL_LATENCY_MS z) * 40000

/-- The plan period in ticks. -/
def State.period (s : State) : Nat := s.get Reg.PLAN_PERIOD_MS * 40000

/-- The first two cases of R313. -/
def State.regular (s : State) (z : Nat) : Bool :=
  s.get (Reg.GOAL_LATENCY_MS z) ≤ s.get Reg.PLAN_PERIOD_MS || s.get (Reg.GOAL_READ_RATE z) != 0

/-- The enabled zones. -/
def State.enabledZones (s : State) : List Nat := (List.range 32).filter fun z => s.get (Reg.ZONE_ENABLE z) = 1

/-- The zones that take part in the period (R313). -/
def State.takingPart (s : State) : List Nat :=
  s.enabledZones.filter fun z => s.regular z || s.deadline z < s.tim.now + s.period

/-- W_z in 1/16, its cold-start value where none is held (R316). -/
def State.weight (s : State) (z : Nat) : Nat :=
  if s.get (Reg.ZS_WEIGHT_EFF z) = 0 then 16 * s.get (Reg.ZONE_WEIGHT z) else s.get (Reg.ZS_WEIGHT_EFF z)

/-- Zones in ascending order of priority, then number. -/
def State.byPriority (s : State) (zs : List Nat) : List Nat :=
  (List.range 8).flatMap fun p => zs.filter fun z => s.get (Reg.ZONE_PRIORITY z) = p

/-- The place of the least number of a list, ties to the first. -/
def leastAt : List Nat → Nat
  | [] => 0
  | x :: r => if r.all fun y => x ≤ y then 0 else 1 + leastAt r

/-- Zones assigned to groups (R312): group number by zone; `w` gives the weights. -/
def State.assignZones (s : State) (w : Nat → Nat) (gs : List (List Nat)) (zs : List Nat) : List (Nat × Nat) :=
  let pin := fun z => (List.range gs.length).find? fun i => (gs.getD i []).contains (s.get (Reg.ZONE_LEADER z))
  let pinned := zs.filterMap fun z => (pin z).map fun i => (z, i)
  (s.byPriority (zs.filter fun z => (pin z).isNone)).foldl (fun acc z =>
    let load := (List.range gs.length).map fun i => ((acc.filter fun p => p.2 = i).map fun p => w p.1).sum
    acc ++ [(z, leastAt load)]) pinned

/-- The leader of a dwell (R312). -/
def State.dwellLeader (s : State) (g : List Nat) (z : Nat) : Nat :=
  if g.contains (s.get (Reg.ZONE_LEADER z)) then s.get (Reg.ZONE_LEADER z) else g.headD 0

/-- Shares of a period in µs by weight, none below `least` (R314): zones below it are raised and the others scaled
down, until none is below. -/
def sharesOf (least : Nat) : Nat → Nat → List (Nat × Nat) → List Nat → List (Nat × Nat)
  | 0, _, ws, _ => ws.map fun p => (p.1, least)
  | n + 1, total, ws, raised =>
    let free := ws.filter fun p => !raised.contains p.1
    let sum := (free.map fun p => p.2).sum
    let rest := total - least * raised.length
    let low := (free.filter fun p => rest * p.2 < least * sum).map fun p => p.1
    if low.isEmpty then
      ws.map fun p => (p.1, if raised.contains p.1 then least else rest * p.2 / max 1 sum)
    else sharesOf least n total ws (raised ++ low)

/-- A dwell wanted: zone, length in µs, deadline in ticks (`none` for a zone without one). -/
structure Want where
  zone : Nat
  len : Nat
  dead : Option Nat
  deriving DecidableEq, Repr, Inhabited

/-- The dwells of a group's zones in a period (R313, R314). -/
def State.wants (s : State) (zs : List Nat) : List Want :=
  let least := s.get Reg.DWELL_MIN_MS * 1000
  let t := s.get Reg.PLAN_PERIOD_MS * 1000
  let third := zs.filter fun z => !s.regular z
  let reg := zs.filter s.regular
  let sh := sharesOf least 33 (t - least * third.length) (reg.map fun z => (z, s.weight z)) []
  let split := fun (p : Nat × Nat) =>
    let lat := s.get (Reg.GOAL_LATENCY_MS p.1)
    let n := if lat != 0 && lat < s.get Reg.PLAN_PERIOD_MS then ceilDiv (s.get Reg.PLAN_PERIOD_MS) lat else 1
    (List.range n).map fun i => (⟨p.1, max least (p.2 / n),
      if lat = 0 then none else some (s.deadline p.1 + i * lat * 40000)⟩ : Want)
  (third.map fun z => (⟨z, least, some (s.deadline z)⟩ : Want)) ++ sh.flatMap split

/-- Whether one wanted dwell goes before another (R314). -/
def State.before (s : State) (a b : Want) : Bool :=
  let pa := s.get (Reg.ZONE_PRIORITY a.zone)
  let pb := s.get (Reg.ZONE_PRIORITY b.zone)
  let tie := pa < pb || (pa = pb && a.zone ≤ b.zone)
  match a.dead, b.dead with
  | some x, some y => x < y || (x = y && tie)
  | some _, none => true
  | none, some _ => false
  | none, none => tie

/-- Insertion in order. -/
def insertBy {α : Type} (le : α → α → Bool) (x : α) : List α → List α
  | [] => [x]
  | y :: r => if le x y then x :: y :: r else y :: insertBy le x r

/-- A list in order, equal entries keeping theirs. -/
def sortBy {α : Type} (le : α → α → Bool) (l : List α) : List α := l.foldr (insertBy le) []

/-! ### Channels and levels (R318, R319, R186) -/

/-- The channels a zone may use: entries with their numbers. -/
def State.zoneChannels (s : State) (z : Nat) : List (Nat × ChanEntry) :=
  s.channels.filter fun p => (s.get (Reg.ZONE_CHANNEL_MASK z)).testBit p.1

/-- Planned time on a channel in µs, of dwells whose time is still to come (R188). -/
def State.plannedUs (s : State) (ds : List Dwell) (khz : Nat) : Nat :=
  ((ds.filter fun d => d.khz = khz).map fun d => d.lenUs - (s.tim.now - d.start) / 40).sum

/-- The window budget left on an entry in µs beside what is planned on it, under a dwell rule (R188). -/
def State.windowLeft (s : State) (p : Nat × ChanEntry) (ds : List Dwell) : Option Nat :=
  if s.region.windowMs = 0 then none
  else some (s.region.dwellMaxUs - 10000 - s.windowSum p.1 - s.plannedUs ds p.2.khz)

/-- A channel has its off-time before a stretch that starts at `at_` (R188): OFF_MIN_MS after the last planned dwell on it, by
its off counter where none is planned. -/
def State.offEnough (s : State) (p : Nat × ChanEntry) (at_ : Nat) (ds : List Dwell) : Bool :=
  match (ds.filter fun d => d.khz = p.2.khz).map fun d => d.start + d.lenUs * 40 with
  | [] => s.region.offMinMs * 1000 ≤ (s.permit p.1).off + (at_ - s.tim.now) / 40
  | l => l.foldl max 0 + s.region.offMinMs * 40000 ≤ at_

/-- Whether the continuous rule leaves room for a dwell (R188, R318): `run` is the stretch in µs that the dwell would go on
with, none where it starts one. -/
def State.contOk (s : State) (p : Nat × ChanEntry) (run : Option Nat) (lenUs at_ : Nat) (ds : List Dwell) : Bool :=
  s.region.contOnMs = 0 ||
    (run.getD 0 + lenUs + 20000 ≤ s.region.contOnMs * 1000 && (run.isSome || s.offEnough p at_ ds))

/-- The dwells already planned that overlap in time with one, on other gangs. -/
def overlapping (ds : List Dwell) (start lenUs : Nat) : List Dwell :=
  ds.filter fun d => d.khz != 0 && d.start < start + lenUs * 40 && start < d.start + d.lenUs * 40

/-- Whether a channel is a candidate for a dwell (R318): `rivals` overlap it, `ds` are all dwells planned or running. -/
def State.candidate (s : State) (p : Nat × ChanEntry) (run : Option Nat) (lenUs at_ prof : Nat) (rivals ds : List Dwell) : Bool :=
  s.permitted p.1 && !s.val.barred.contains p.2.khz &&
    (rivals.all fun d => s.spectral p.2.khz prof d.khz d.prof) && s.contOk p run lenUs at_ ds

/-- The candidate with the largest off counter, ties to the lowest frequency. -/
def State.longestOff (s : State) : List (Nat × ChanEntry) → Option (Nat × ChanEntry)
  | [] => none
  | p :: r =>
    match s.longestOff r with
    | none => some p
    | some q => if (s.permit q.1).off ≤ (s.permit p.1).off then some p else some q

/-- The highest level, from `top` downward, that meets R186 on a channel with every chain of the gang at it (Table 9.7). -/
def State.levelFor (s : State) (e : ChanEntry) (cs : List Nat) : Nat → Int → Option Int
  | 0, _ => none
  | n + 1, top =>
    if top < -40 then none
    else if s.within e (cs.map fun c => (c, top)) then some top
    else s.levelFor e cs n (top - 1)

/-- The visiting order of a pass for a quad (R187): channel entries by the generator's rank, each quad starting at its
own quarter. -/
def State.hopOrder (s : State) (pass q : Nat) : List (Nat × ChanEntry) :=
  let l := sortBy (fun (a b : Nat × ChanEntry) =>
    Config.hopRank pass a.1 < Config.hopRank pass b.1 || (Config.hopRank pass a.1 = Config.hopRank pass b.1 && a.1 ≤ b.1))
    s.channels
  let k := q * (l.length / 4)
  l.drop k ++ l.take k

/-- The channel of the next visit, and the pass after it (R187, R319). -/
def State.nextHop (s : State) (q : Nat) (pv : Nat × Nat) : Option (Nat × ChanEntry) × (Nat × Nat) :=
  let n := s.channels.length
  let pv' := if n ≤ pv.2 then (pv.1 + 1, 0) else pv
  ((s.hopOrder pv'.1 q)[pv'.2]?, (pv'.1, pv'.2 + 1))

/-- The present channel of a gang, by its leader. -/
def State.chanOf (s : State) (q : Nat) : Nat := Tab.get s.val.chan q

/-- A chain is to be probed on a channel: due, flagged there, OUT for nothing else, and not after three cuts (R163, R164). -/
def State.probeDue (s : State) (khz c : Nat) : Bool :=
  s.seedBad c khz && (s.chain c).probes.contains khz && s.get (Reg.CHAIN_ENABLE c) = 1 &&
    clrBit (clrBit (s.get (Reg.CHAIN_FAULT c)) 3) 2 = 0 && s.get (Reg.CUT_RUN c) < 3

/-- A channel on which a chain of the gang has a probe due (R163). -/
def State.probeChan (s : State) (gang : List Nat) : Option Nat :=
  ((gang.flatMap chainsOf).flatMap fun c => (s.chain c).probes.filter fun k => s.probeDue k c).head?

/-- The builder's state along one group: where time stands, the present channel, the stretch of Drone in progress on it in
µs (`none` where none is), and each leader's pass. -/
structure Along where
  at_ : Nat
  chan : Nat
  run : Option Nat
  pass : Tab (Nat × Nat)
  out : List Dwell
  deriving Repr, Inhabited

/-- The chains of a group that may carry Drone in a dwell on a channel, those to be probed there among them (R163, R186). -/
def State.dwellChains (s : State) (khz : Nat) (cs : List Nat) : List Nat :=
  cs.filter fun c => s.chainPlanned khz c || s.probeDue khz c

/-- One dwell of a group placed (R188, R314, R318, R319); `cut` is the level reduction in 0.25 dB, `flags` the plan's. -/
def State.placeDwell (s : State) (gang : List Nat) (cut : Int) (flags : Nat) (others : List Dwell) (a : Along) (w : Want) :
    Along :=
  let leader := s.dwellLeader gang w.zone
  let prof := s.get (Reg.ZONE_PROFILE w.zone)
  let cs := gang.flatMap chainsOf
  let rivals := overlapping others a.at_ w.len
  let all := others ++ a.out
  let hop := s.region.hop
  let nh := s.nextHop leader (Tab.get a.pass leader)
  let runOn := fun (k : Nat) => if k = a.chan then a.run else none
  let cand := (s.zoneChannels w.zone).filter fun p => s.candidate p (runOn p.2.khz) w.len a.at_ prof rivals all
  let pick : Option (Nat × ChanEntry) :=
    if hop then
      match nh.1 with
      | some p =>
        if s.permitted p.1 && (rivals.all fun d => s.spectral p.2.khz prof d.khz d.prof) &&
            (match s.windowLeft p all with | some b => s.get Reg.DWELL_MIN_MS * 1000 ≤ b | none => true)
        then some p else none
      | none => none
    else match (s.probeChan gang).bind fun k => cand.find? fun p => p.2.khz = k with
      | some p => some p
      | none => match cand.find? fun p => p.2.khz = a.chan with
        | some p => some p
        | none => s.longestOff cand
  let len := match pick with
    | some p => if hop then min w.len ((s.windowLeft p all).getD w.len) else w.len
    | none => w.len
  let level := match pick with
    | some p => (s.levelFor p.2 (s.dwellChains p.2.khz cs) 109 (s.i16 (Reg.ZONE_TX_POWER w.zone))).map fun l =>
        (p, max (-40) (l - cut))
    | none => none
  let khz := (level.map fun x => x.1.2.khz).getD 0
  let held := (runOn khz).isSome && khz != 0
  let d : Dwell :=
    { start := a.at_, lenUs := len, khz := khz, zone := w.zone, leader := leader,
      gang := maskOf gang, prof := prof, level := (level.map fun x => x.2).getD (-40),
      rx := 2 ^ s.get (Reg.ZONE_RX_COUNT w.zone) - 1, flags := flags + ofBool held }
  { at_ := a.at_ + len * 40, chan := if d.khz = 0 then a.chan else d.khz,
    run := if d.khz = 0 then none else some ((runOn khz).getD 0 + len),
    pass := if hop then Tab.put a.pass leader nh.2 else a.pass, out := a.out ++ [d] }

/-- The stretch of Drone that a group carries on its present channel, as it will stand when its plan starts. -/
def State.stretch (s : State) (gang : List Nat) (start : Nat) : Option Nat :=
  if gang.any s.quadDrone then
    some ((s.permit (s.entryOf (s.chanOf (gang.headD 0)))).run + (start - s.tim.now) / 40)
  else none

/-- The dwells of one group. -/
def State.planGroup (s : State) (start : Nat) (cut : Int) (flags : Nat) (others : List Dwell) (gang zs : List Nat) :
    List Dwell :=
  let ws := sortBy s.before (s.wants zs)
  (ws.foldl (s.placeDwell gang cut flags others) ⟨start, s.chanOf (gang.headD 0), s.stretch gang start, s.val.pass, []⟩).out

/-- The instant from which a group's plan runs: the end of the dwell it still runs (R315). -/
def State.groupStart (s : State) (gang : List Nat) : Nat :=
  (gang.map fun q => match s.leaderOf q with
    | some l => match s.running l with
      | some r => r.at_ + r.d.lenUs * 40
      | none => s.tim.now
    | none => s.tim.now).foldl max s.tim.now

/-- The dwells that still run on other quads, with the instants at which they started (R205). -/
def State.runningOn (s : State) (gang : List Nat) : List Dwell :=
  (s.val.running.filter fun p => !gang.any fun q => p.2.d.gang.testBit q).map fun p => { p.2.d with start := p.2.at_ }

/-- A plan's dwells for groups and their zones; those that still run in other groups are among each dwell's rivals (R205). -/
def State.planGroups (s : State) (cut : Int) (flags : Nat) (gz : List (List Nat × List Nat)) : List Dwell :=
  gz.foldl (fun ds p => ds ++ s.planGroup (s.groupStart p.1) cut flags (s.runningOn p.1 ++ ds) p.1 p.2) []

/-! ### The isolation rule (R208) and the plan's power -/

/-- The chains of a dwell that are probed on its channel (R163, R164). -/
def State.probesOf (s : State) (d : Dwell) : List Nat := (gangChains d.gang).filter (s.probeDue d.khz)

/-- The levels at which a dwell's chains carry Drone. -/
def State.dwellLevels (s : State) (d : Dwell) : List (Nat × Int) :=
  if d.khz = 0 then []
  else ((gangChains d.gang).filter (s.chainPlanned d.khz)).map fun c => (c, d.level)

/-- The highest level among a quad's chains in a dwell; `none` where none of them carries Drone. -/
def State.quadLevel (s : State) (d : Dwell) (q : Nat) : Option Int :=
  match ((s.dwellLevels d).filter fun p => p.1 / 4 = q).map fun p => p.2 with
  | [] => none
  | h :: r => some (r.foldl max h)

/-- D_j at most DESENSE_MAX for quad `j` of a dwell against the dwells that run at the same instant (R208): D_j, to nearest
0.25 dB, is at most m exactly when 1 + 10^((F_j + 35)/10) is below 10^((m + 1/2)/40). -/
def State.isolated (s : State) (others : List Dwell) (j : Nat) : Bool :=
  let foreign := (others.flatMap fun o => (bitsOf 4 o.gang).filterMap fun i =>
    (s.quadLevel o i).map fun p => ten80 (2 * (p - toInt 16 (s.get (Reg.ISOLATION (4 * i + j))) + 12 + 140))).sum
  ten80 0 + foreign < ten80 (2 * s.i16 Reg.DESENSE_MAX + 1)

/-- Isolation has been measured between every two present quads (R209). -/
def State.isoKnown (s : State) : Bool :=
  s.quadList.all fun i => s.quadList.all fun j => i = j || s.get (Reg.ISOLATION (4 * i + j)) != noValue

/-- A dwell meets R208 at every instant of it against others: the sums change only where one of them starts. -/
def State.clearOf (s : State) (others : List Dwell) (d : Dwell) : Bool :=
  let o := (overlapping others d.start d.lenUs).filter fun x => x.gang &&& d.gang = 0
  (d.start :: o.map fun x => max d.start x.start).all fun i =>
    let now := o.filter fun x => x.start ≤ i && i < x.start + x.lenUs * 40
    now.isEmpty || (bitsOf 4 d.gang).all (s.isolated now)

/-- A plan of several groups meets R208, also against what still runs, and every dwell of it found a channel (R311). -/
def State.concurrent (s : State) (ds : List Dwell) : Bool :=
  ds.all fun (d : Dwell) =>
    d.khz != 0 && s.clearOf (s.runningOn (bitsOf 4 d.gang) ++ ds.filter fun x => x.leader != d.leader) d

/-- Whether two dwells may run at one instant (R202, R205): distinct channels, the spectral rule, and the isolation rule at
every quad of both, once isolation has been measured (R209). -/
def State.coexist (s : State) (a b : Dwell) : Bool :=
  a.khz = 0 || b.khz = 0 ||
    (s.spectral a.khz a.prof b.khz b.prof && s.isoKnown && (bitsOf 4 a.gang).all (s.isolated [b]) &&
      (bitsOf 4 b.gang).all (s.isolated [a]))

/-- The plan's highest modelled power (R321): at the start of each dwell, with the dwells that run then. -/
def State.planPower (s : State) (quads : Nat) (ds : List Dwell) : Nat :=
  (ds.map fun d =>
    let now := ds.filter fun x => x.start ≤ d.start && d.start < x.start + x.lenUs * 40
    s.modelled quads (now.flatMap fun x => (s.dwellLevels x).map fun p => p.2) s.hfTerm).foldl max
    (s.modelled quads [] s.hfTerm)

/-! ### The plan (R310, R311, R323, R329) -/

/-- A plan built. -/
structure Plan where
  k : Nat
  dwells : List Dwell
  step : Nat
  relaxed : Nat
  power : Nat
  deriving Repr, Inhabited

/-- A plan at a concurrency, with a level reduction and a number of followers removed. -/
structure Try where
  k : Nat
  cut : Int
  gz : List (List Nat × List Nat)
  deriving Repr, Inhabited

/-- Groups with their zones at a concurrency. -/
def State.groupZones (s : State) (lost : Option Nat) (k : Nat) : List (List Nat × List Nat) :=
  let gs := s.groups lost k
  let az := s.assignZones s.weight gs s.takingPart
  ((List.range gs.length).map fun i => (gs.getD i [], (az.filter fun p => p.2 = i).map fun p => p.1)).filter
    fun p => !p.2.isEmpty

/-- Quads locked in a plan. -/
def quadsOf (gz : List (List Nat × List Nat)) : Nat := (gz.map fun p => p.1.length).sum

/-- The dwells of a try and their power. -/
def State.tryPlan (s : State) (flags : Nat) (t : Try) : List Dwell × Nat :=
  let ds := s.planGroups t.cut flags t.gz
  (ds, s.planPower (quadsOf t.gz) ds)

/-- One follower removed: the highest-numbered of the gang with most quads, ties to the highest-numbered leader
(Table 9.3 step 3); `none` when every gang is a single quad. -/
def dropFollower (gz : List (List Nat × List Nat)) : Option (List (List Nat × List Nat)) :=
  let most := (gz.map fun p => p.1.length).foldl max 0
  if most ≤ 1 then none
  else
    let lead := (gz.filter fun p => p.1.length = most).foldl (fun m p => max m (p.1.headD 0)) 0
    some (gz.map fun p => if p.1.length = most && p.1.headD 0 = lead then (p.1.dropLast, p.2) else p)

/-- Step 2: levels lowered in 0.25 dB steps up to LEVEL_DERATE_MAX. -/
def State.lowerLevels (s : State) (flags budget : Nat) (k : Nat) (gz : List (List Nat × List Nat)) :
    Nat → Int → Option (Try × List Dwell × Nat)
  | 0, _ => none
  | n + 1, cut =>
    let t : Try := ⟨k, cut, gz⟩
    let p := s.tryPlan flags t
    if p.2 ≤ budget then some (t, p) else s.lowerLevels flags budget k gz n (cut + 1)

/-- Step 3: followers removed one at a time. -/
def State.dropFollowers (s : State) (flags budget : Nat) (k : Nat) (cut : Int) :
    Nat → List (List Nat × List Nat) → Option (Try × List Dwell × Nat)
  | 0, _ => none
  | n + 1, gz =>
    match dropFollower gz with
    | none => none
    | some gz' =>
      let t : Try := ⟨k, cut, gz'⟩
      let p := s.tryPlan flags t
      if p.2 ≤ budget then some (t, p) else s.dropFollowers flags budget k cut n gz'

/-- The highest K, from `k` downward, that qualifies without the budget (R311). -/
def State.highestK (s : State) (lost : Option Nat) (flags parts : Nat) : Nat → Nat
  | 0 => 1
  | k + 1 =>
    if k = 0 then 1
    else
      let gz := s.groupZones lost (k + 1)
      let gs := s.groups lost (k + 1)
      if s.isoKnown && k + 1 ≤ parts && gs.length = k + 1 && s.concurrent (s.planGroups 0 flags gz) then k + 1
      else s.highestK lost flags parts k

/-- The highest K, from `k` downward, whose plan is within the budget; `none` when not even K = 1 is. -/
def State.budgetK (s : State) (lost : Option Nat) (flags budget : Nat) : Nat → Option (Nat × List Dwell × Nat)
  | 0 => none
  | k + 1 =>
    let gz := s.groupZones lost (k + 1)
    let p := s.tryPlan flags ⟨k + 1, 0, gz⟩
    if p.2 ≤ budget && (k = 0 || s.concurrent p.1) then some (k + 1, p) else s.budgetK lost flags budget k

/-- The pins that yield (Table 9.4): PIN_CONCURRENCY, ZONE_LEADER, ZONE_CHANNEL_MASK. -/
def State.pinsRelaxed (s : State) (k : Nat) (ds : List Dwell) : Nat :=
  let lead := ds.any fun d => s.get (Reg.ZONE_LEADER d.zone) != 0xFF && s.get (Reg.ZONE_LEADER d.zone) != d.leader
  let mask := ds.any fun d => d.khz = 0 && (s.zoneChannels d.zone).length < s.channels.length
  ofBool (s.get Reg.PIN_CONCURRENCY != 0 && s.get Reg.PIN_CONCURRENCY != k) + ofBool lead * 2 + ofBool mask * 4

/-- The plan for the state as it stands, with quad `lost` taken as OUT (R310 to R323, R338). -/
def State.buildPlan (s : State) (lost : Option Nat) (fallback : Bool) : Plan :=
  let budget := s.budget
  let flags := ofBool (budget < s.pStatic) * 2 + ofBool fallback * 4
  let parts := s.takingPart.length
  let top := if s.get Reg.PIN_CONCURRENCY = 0 then Variant.quads s.variant else s.get Reg.PIN_CONCURRENCY
  let want := s.highestK lost flags (if s.get Reg.PIN_CONCURRENCY = 0 then parts else 4) (min top 4)
  match s.budgetK lost flags budget want with
  | some (k, ds, p) =>
    -- R311 keeps K where the first step is not needed; a pinned K that is lowered has taken it
    ⟨k, ds, if k < want && s.get Reg.PIN_CONCURRENCY != 0 then 1 else 0, s.pinsRelaxed k ds, p⟩
  | none =>
    let gz := s.groupZones lost 1
    let cutMax := s.i16 Reg.LEVEL_DERATE_MAX
    match s.lowerLevels flags budget 1 gz cutMax.toNat 1 with
    | some (_, ds, p) => ⟨1, ds, 2, s.pinsRelaxed 1 ds, p⟩
    | none => match s.dropFollowers flags budget 1 cutMax 4 gz with
      | some (_, ds, p) => ⟨1, ds, 3, s.pinsRelaxed 1 ds, p⟩
      | none => ⟨1, [], 4, s.pinsRelaxed 1 [], s.modelled 0 [] s.hfTerm⟩

/-- A dwell's bytes in DWELL_TABLE (Table 9.7). -/
def Dwell.bytes (d : Dwell) : Bytes :=
  leBytes 8 d.start ++ leBytes 4 d.lenUs ++ leBytes 4 d.khz ++ leBytes 1 d.zone ++ leBytes 1 d.leader ++ leBytes 1 d.gang ++
    leBytes 1 d.prof ++ leBytes 2 (ofInt 16 d.level) ++ leBytes 1 d.rx ++ leBytes 1 d.flags

/-- Whether one dwell is listed before another: start order, then leader. -/
def dwellLe (a b : Dwell) : Bool := a.start < b.start || (a.start = b.start && a.leader ≤ b.leader)

/-- DWELL_TABLE's bytes: start order, at most 64 entries. -/
def dwellTable (ds : List Dwell) : Bytes := ((sortBy dwellLe ds).take 64).flatMap Dwell.bytes

/-- What R332 puts in the snapshot, in its order, one block per item. -/
def State.snapshot (s : State) : Bytes :=
  leBytes 4 (s.get Reg.CONFIG_CRC) ++ leBytes 4 (s.get Reg.FW_VERSION) ++ s.dom Reg.SERIAL ++
    (s.val.pass.flatMap fun p => leBytes 1 p.1 ++ leBytes 4 p.2.1) ++
    (s.quadList.flatMap fun q => leBytes 1 (s.get (Reg.QUAD_STATE q))) ++
    (s.chainList.flatMap fun c => leBytes 1 (s.get (Reg.CHAIN_FAULT c))) ++ leBytes 4 (s.get Reg.LANES_RETIRED) ++
    ((List.range s.region.entries.length).flatMap fun e =>
      leBytes 1 (ofBool (s.permitted e)) ++ leBytes 4 (s.windowSum e / 1000) ++ leBytes 4 ((s.permit e).run / 1000) ++
        leBytes 4 ((s.permit e).off / 1000)) ++
    ((List.range 16).flatMap fun k => leBytes 2 (s.get (Reg.ISOLATION k))) ++ leBytes 2 (s.get Reg.T_HOT) ++
    leBytes 2 (s.get Reg.MEAS_CORR) ++
    (s.enabledZones.flatMap fun z => leBytes 1 z ++ leBytes 2 (s.weight z) ++ leBytes 2 (s.get (Reg.ZS_READ_RATE z)) ++
      leBytes 4 (s.get (Reg.ZS_GAP_MAX_MS z)) ++ leBytes 8 (((s.zoneVal z).last.getD 0) / 40000)) ++
    leBytes 8 (s.tim.now / 40000)

/-- Zone state shown: 0 disabled, 1 served, 2 not served, 3 goal missed (Table 9.6). -/
def State.showZones (s : State) (served : List Nat) : State :=
  (List.range 32).foldl (fun t z =>
    let v := if t.get (Reg.ZONE_ENABLE z) = 0 then 0 else if (t.zoneVal z).low then 3
      else if served.contains z then 1 else 2
    t.recordIf (Reg.ZS_SEQ z) [(Reg.ZS_STATE z, v)]) s

/-- Events 12 and 13, and bit 16 of FAULT_ACTIVE, follow a plan (R324). -/
def State.budgetEvents (s : State) (step : Nat) : State :=
  let b := s.budget
  let ps := s.pStatic
  let act := s.get Reg.FAULT_ACTIVE
  let s1 := if b < ps then
      s.recordIf Reg.FAULT_SEQ [(Reg.FAULT_ACTIVE, setBit act 16), (Reg.FAULT_SEEN, setBit (s.get Reg.FAULT_SEEN) 16)]
    else s.recordIf Reg.FAULT_SEQ [(Reg.FAULT_ACTIVE, clrBit act 16)]
  let s2 := if b < ps && !s1.val.derHeld then
      (({ s1 with val := { s1.val with derHeld := true } }).record Reg.FAULT_SEQ [(Reg.FAULT_LAST, 16)]).latch 13
        Reg.BUDGET_MW b
    else if s1.i16 Reg.T_HOT ≤ s1.i16 Reg.DERATE_START - s1.i16 Reg.DERATE_HYST then
      { s1 with val := { s1.val with derHeld := false } }
    else s1
  if step != 0 && b = ps && !s2.val.capHeld then
    ({ s2 with val := { s2.val with capHeld := true } }).latch 12 Reg.DERATE_STEP step
  else if step = 0 then { s2 with val := { s2.val with capHeld := false } }
  else s2

/-- A plan put in force: its dwells wait, and the plan's objects are written (Table 9.6). -/
def State.usePlan (s : State) (p : Plan) : State :=
  let crcIn := (Config.snapshotCrc s.snapshot).toNat
  let tab := dwellTable p.dwells
  let s1 := (s.putDom Reg.DWELL_TABLE tab).record Reg.PLAN_SEQ
    [(Reg.PLAN_NUMBER, (s.get Reg.PLAN_NUMBER + 1) % 2 ^ 32), (Reg.PLAN_TIME, s.tim.now), (Reg.CONCURRENCY_NOW, p.k),
     (Reg.BUDGET_MW, s.budget), (Reg.MODEL_MW, satN 16 p.power), (Reg.DERATE_STEP, p.step), (Reg.PINS_RELAXED, p.relaxed),
     (Reg.PLAN_INPUT_CRC, crcIn), (Reg.PLAN_CRC, crc32 tab)]
  let s2 := { s1 with val := { s1.val with plan := sortBy dwellLe p.dwells, released := [] } }
  (s2.budgetEvents p.step).showZones ((p.dwells.filter fun d => d.khz != 0).map fun d => d.zone)

/-- Valve re-plans from a fresh snapshot (R333). -/
def State.replan (s : State) : State := if s.mode = .run then s.usePlan (s.buildPlan none false) else s

/-- The dwell of a plan that a running one goes on with: the same zone, gang and channel from now on. -/
def Running.goesOn (r : Running) (now : Nat) (ds : List Dwell) : Option Dwell :=
  ds.find? fun d => d.start = now && d.zone = r.d.zone && d.leader = r.d.leader && d.gang = r.d.gang && d.khz = r.d.khz && d.khz != 0

/-- A plan that comes into force at the next round boundary of every gang that runs (R325, R326, R338): it is built as if no
dwell ran; a gang whose dwell it goes on with takes the new level at its next round, and any other ends its dwell there. -/
def State.replanNow (s : State) (lost : Option Nat) (fallback : Bool) : State :=
  let p := ({ s with val := { s.val with running := [] } }).buildPlan lost fallback
  let t := s.usePlan p
  let on := s.val.running.filterMap fun x => x.2.goesOn s.tim.now p.dwells
  { t with val := { t.val with
    plan := t.val.plan.filter fun d => !on.contains d
    running := t.val.running.map fun x => (x.1, match x.2.goesOn s.tim.now p.dwells with
      | some d => { x.2 with d := d }
      | none => { x.2 with past := true }) } }

/-! ### The end of a dwell (R152, R315) -/

/-- The converged weights of a dwell's chains are written back into its channel's entries (R152). -/
def State.writeBack (s : State) (d : Dwell) : State :=
  ((gangChains d.gang).filter fun c => (s.chain c).conv).foldl
    (fun t c => t.updSeed c d.khz fun e =>
      { e with wi := t.i16 (Reg.REED_WEIGHT_I c), wq := t.i16 (Reg.REED_WEIGHT_Q c), flags := setBit e.flags 0 }) s

/-- The dwell of a leader is over: its weights are written back (R152), its time counts for its zone (Table 9.6), its gang is
dissolved, and its request for the tone bus goes. -/
def State.closeDwell (s : State) (l : Nat) : State :=
  match s.running l with
  | none => s.dropTone l
  | some r =>
    let t := s.writeBack r.d
    ({ t with val := { t.val with
      running := Tab.del t.val.running l
      zones := Tab.upd t.val.zones r.d.zone fun z => { z with spans := z.spans ++ [(r.at_, t.tim.now)] } } }).dropTone l

/-- A gang is dissolved: its dwell is over, what waited for it is dropped, and its beam is idle. -/
def State.dissolve (s : State) (leader : Nat) : State :=
  let t := s.closeDwell leader
  { t with val := { t.val with released := Tab.del t.val.released leader } }

/-- A gang's Drone ramps down, its weights are written back and its beam goes idle (R51, R60, R152). -/
def State.gangDown (s : State) (l : Nat) : State :=
  match s.running l with
  | none => s
  | some r => (((bitsOf 4 r.d.gang).foldl State.rampQuad s).dissolve l).showBeams

/-- Every dwell ends: each gang's Drone ramps down (R51), its weights are written back (R152) and its beam goes idle. -/
def State.dropDwells (s : State) : State :=
  (s.val.running.foldl (fun t p => ((bitsOf 4 p.2.d.gang).foldl State.rampQuad t).dissolve p.1) s).showBeams

/-! ### Raising Drone for a gang (R139, R141) -/

/-- A tone measurement of exactly these quads on this channel since their locks, whichever of them led (R216). -/
def State.toneFor (s : State) (gang khz : Nat) : Option ToneMem :=
  (s.arr.tone.find? fun p => p.2.khz = khz && p.2.temps.map (·.1) = bitsOf 4 gang).map (·.2)

/-- Every quad of a dwell's gang is locked on its channel (R139). -/
def State.gangOn (s : State) (d : Dwell) : Bool :=
  (bitsOf 4 d.gang).all fun q =>
    (s.get (Reg.QUAD_STATE q) = 3 || s.get (Reg.QUAD_STATE q) = 4) && s.get (Reg.SYNTH_FREQ_KHZ q) = d.khz

/-- What a dwell's chains carry as Drone rises: its levels, and its probes at −10 dBm (R163). -/
def State.risingLevels (s : State) (d : Dwell) : List (Nat × Int) :=
  (s.dwellLevels d).filter (fun p => !(s.probesOf d).contains p.1) ++ (s.probesOf d).map fun c => (c, -40)

/-- The rail level that each quad's modulator sets at a dwell start: the highest among its chains (R147, R48). -/
def State.setRails (s : State) (gang : Nat) (lv : List (Nat × Int)) : State :=
  (bitsOf 4 gang).foldl (fun t q =>
    let l := (lv.filter fun p => p.1 / 4 = q).map fun p => p.2
    t.updQuad q fun x => { x with rail := l.head?.map fun h => l.foldl max h }) s

/-- A gang whose quads are locked and whose tone has been measured raises Drone where the interlock passes it; what it
refuses is returned to Valve with REGULATORY, its Drone down (R190). -/
def State.raiseGang (s : State) (l : Nat) : State :=
  match s.running l with
  | none => s
  | some r =>
    if r.d.khz = 0 || !s.gangOn r.d then s
    else
      let probes := s.probesOf r.d
      let lv := s.risingLevels r.d
      if s.interlock r.d.khz lv then
        let cold := (bitsOf 4 r.d.gang).any fun q => !s.quadDrone q && 40000 < s.tim.now - (s.quad q).offAt
        let s1 := lv.foldl (fun t p =>
          if t.get (Reg.CHAIN_STATE p.1) = 2 || t.get (Reg.CHAIN_STATE p.1) = 1 then t.setLevel p.1 p.2
          else t.raiseChain p.1 p.2) (s.steerGang r.d)
        let s2 := probes.foldl (fun t c => t.updChain c fun x => { x with probing := some r.d.khz }) s1
        let s3 := (bitsOf 4 r.d.gang).foldl (fun t q => t.updQuad q fun x => { x with held := none }) s2
        let s4 := { s3 with val := { s3.val with chan := (bitsOf 4 r.d.gang).foldl (fun m q => Tab.put m q r.d.khz) s3.val.chan } }
        (chainsOf l).foldl State.weigh (s4.putRunning l
          { r with toned := true, holding := cold, ready := (s4.rxChains r.d).isEmpty })
      else ((((bitsOf 4 r.d.gang).foldl State.rampQuad s.refuse).dissolve l).showBeams).replan

/-- A gang whose quads are all locked: where its tone is fresh Drone rises, or else the tone bus is asked for (R36, R204,
R216). -/
def State.gangLocked (s : State) (l : Nat) : State :=
  match s.running l with
  | none => s
  | some r =>
    if r.unlocked != 0 then s
    else match s.toneFor r.d.gang r.d.khz with
      | some m => if s.tim.now - m.time ≤ 40000000 then s.raiseGang l else s.askTone l
      | none => s.askTone l

/-! ### The loss of a quad (R231, R338) -/

/-- A follower leaves its gang at once (R231). Where the gang waited for its lock, and the quads that remain are locked, it
goes on (R144, R204). -/
def State.leaveGang (s : State) (q : Nat) : State :=
  match s.leaderOf q with
  | none => s
  | some l => match s.running l with
    | none => s
    | some r =>
      let r1 := { r with d := { r.d with gang := clrBit r.d.gang q }, unlocked := clrBit r.unlocked q }
      let t := (s.putRunning l r1).beamsLost
      if !r1.toned && r1.unlocked = 0 && r1.d.khz != 0 then t.gangLocked l else t

/-- The fallback plan for a lost leading quad is put in force; the surviving quads of its gang ramp Drone down, and zones that
move to another gang start at that gang's next round boundary (R338, Sequence 9.1). It is built from a fresh snapshot, as R333
has it of every re-plan point (log entry 42). -/
def State.fallback (s : State) (q gang : Nat) : State :=
  let s1 := ((bitsOf 4 gang).filter fun x => x != q).foldl State.rampQuad s
  let s2 := s1.replanNow (some q) true
  s2.record Reg.PLAN_SEQ [(Reg.REPLANS, (s2.get Reg.REPLANS + 1) % 2 ^ 32)]

/-- A quad is lost to its gang (R231, R337): a follower leaves; a leader's round ends with `cause`, its beam ends and
the fallback plan comes into force. -/
def State.loseQuad (s : State) (q cause : Nat) : State :=
  match s.running q with
  | some r =>
    let s1 := ((s.endRound q cause true).dissolve q).showBeams
    if s1.mode = .run then s1.fallback q r.d.gang else s1
  | none => s.leaveGang q

/-- A quad goes OUT with a cause; event 30 unless the host put it out (R554). -/
def State.quadOut (s : State) (q cause : Nat) : State :=
  let s1 := (s.phaseless q).record (Reg.QSTATE_SEQ q)
    [(Reg.QUAD_STATE q, 5), (Reg.QUAD_OUT_CAUSE q, cause), (Reg.SYNTH_FREQ_KHZ q, 0)]
  let s2 := s1.updQuad q fun x => { x with held := none, offered := false }
  if cause = 5 then s2 else s2.latch 30 (Reg.QUAD_OUT_CAUSE q) cause

/-- A quad comes back into service from a cause, to be offered at the next plan boundary (Table 9.5). -/
def State.quadBack (s : State) (q cause : Nat) : State :=
  if s.get (Reg.QUAD_STATE q) = 5 && s.get (Reg.QUAD_OUT_CAUSE q) = cause then
    (s.record (Reg.QSTATE_SEQ q) [(Reg.QUAD_STATE q, 0), (Reg.QUAD_OUT_CAUSE q, 0)]).updQuad q fun x =>
      { x with offered := true }
  else s

end Sys2Proof.Machine
end

