-- ==== Sys2Proof/Machine/Track.lean ====
section
/-! DEFINITION. Chapter 8's shared operations: placing a read, joining it to a track, closing a track, counting a passage,
publishing an interval, and starting afresh. -/

namespace Sys2Proof.Machine

/-- A passage's fields (Table 8.4). -/
structure Passage where
  tag : Nat
  cls : Nat
  lane : Nat
  dir : Nat
  flags : Nat
  entry : Nat
  exit : Nat
  speed : Nat
  reads : Nat
  positioned : Nat
  share : Nat
  deriving DecidableEq, Repr

/-- The 32 bytes of a passage. -/
def Passage.bytes (p : Passage) : Bytes :=
  leBytes 4 p.tag ++ leBytes 1 p.cls ++ leBytes 1 p.lane ++ leBytes 1 p.dir ++ leBytes 1 p.flags ++ leBytes 8 p.entry ++
    leBytes 8 p.exit ++ leBytes 2 p.speed ++ leBytes 2 p.reads ++ leBytes 2 p.positioned ++ leBytes 1 p.share ++ leBytes 1 0

/-- The lane with more votes than any other, and its votes (R296). -/
def Track.topLane (t : Track) : Option (Nat × Nat) :=
  let m := t.votes.foldl (fun (a : Nat) p => max a p.2) 0
  match t.votes.filter fun (p : Nat × Nat) => p.2 = m with
  | [p] => some p
  | _ => none

/-- The lane with most votes, the lowest-numbered where several have as many (R297). -/
def Track.mostLane (t : Track) : Option Nat :=
  let m := t.votes.foldl (fun (a : Nat) p => max a p.2) 0
  ((t.votes.filter fun (p : Nat × Nat) => p.2 = m).map fun p => p.1).min?

/-- The speed of a track along the heading of the lane with most votes, and whether it is coarse (R297, R298). -/
def State.speedOf (s : State) (t : Track) : Option (Int × Bool) :=
  t.mostLane.bind fun l => trackSpeed (s.heading l) t.points

/-- DIRECTION (R299): 0 STATIONARY, 1 WITH, 2 AGAINST, 3 UNKNOWN. -/
def direction (least : Int) : Option (Int × Bool) → Nat
  | none => 3
  | some (v, _) => if least ≤ v then 1 else if v ≤ -least then 2 else 0

/-- The passage of a track that closes with a flag (R295 to R300). With SPEED_MIN 0 a speed of 0 is STATIONARY by no
clause and WITH by the second. -/
def State.passage (s : State) (t : Track) (flag : Nat) : Passage :=
  let lane := t.topLane.filter fun p => s.get Reg.LANE_MIN_VOTES ≤ p.2
  let v := s.speedOf t
  { tag := t.tag, cls := t.cls, lane := (lane.map fun p => p.1).getD 0xFF, dir := direction (s.get Reg.SPEED_MIN) v,
    flags := ofBool t.partialBegin + flag + (match v with | none => 32 | some (_, c) => ofBool c * 16),
    entry := t.firstIn.getD t.first, exit := t.lastIn.getD t.last,
    speed := (v.map fun p => ofInt 16 (max (-32767) (min 32767 p.1))).getD noValue,
    reads := satN 16 t.reads, positioned := satN 16 t.positioned,
    share := (lane.map fun p => p.2 * 100 / max 1 t.positioned).getD 0 }

/-- A passage enters a lane's counts (R303). -/
def LaneCnt.take (c : LaneCnt) (p : Passage) : LaneCnt :=
  let v := (toInt 16 p.speed).natAbs
  let c1 : LaneCnt := { c with best := some (max v (c.best.getD 0)), coarse := c.coarse + ofBool (bit p.flags 4) }
  match p.dir with
  | 1 => { c1 with withN := c.withN + 1, sumWith := c.sumWith + v }
  | 2 => { c1 with againstN := c.againstN + 1, sumAgainst := c.sumAgainst + v }
  | _ => { c1 with still := c.still + 1 }

/-- A passage enters an interval (R303). -/
def Ival.take (i : Ival) (p : Passage) (late : Bool) : Ival :=
  let i1 : Ival := { i with partialN := i.partialN + ofBool (bit p.flags 0), late := i.late + ofBool late }
  if p.dir = 3 || p.lane = 0xFF then { i1 with unassigned := i.unassigned + 1 }
  else { i1 with lanes := Tab.upd i.lanes p.lane fun c => c.take p }

/-- A passage is counted: in the unpublished interval that holds its exit, else, as late, in the one in progress. -/
def countIn (p : Passage) : List Ival → List Ival
  | [] => []
  | [i] => [i.take p (!(i.start ≤ p.exit && p.exit < i.stop))]
  | i :: r => if i.start ≤ p.exit && p.exit < i.stop then i.take p false :: r else i :: countIn p r

/-- A track closes (R300): LAST_PASSAGE, PASSAGES_CLOSED and event 37, in that order, then the reports. -/
def State.closeTrack (s : State) (t : Track) (flag : Nat) : State :=
  let p := s.passage t flag
  let s1 := { s with trk := { s.trk with tracks := s.trk.tracks.filter fun x => x.tag != t.tag,
                                         ivals := countIn p s.trk.ivals } }
  let s2 := s1.record Reg.LP_SEQ
    [(Reg.LP_TAG_INDEX, p.tag), (Reg.LP_CLASS, p.cls), (Reg.LP_LANE, p.lane), (Reg.LP_DIRECTION, p.dir),
     (Reg.LP_FLAGS, p.flags), (Reg.LP_ENTRY_TIME, p.entry), (Reg.LP_EXIT_TIME, p.exit), (Reg.LP_SPEED, p.speed),
     (Reg.LP_READS, p.reads), (Reg.LP_POSITIONED, p.positioned), (Reg.LP_LANE_SHARE, p.share)]
  let s3 := s2.record Reg.LSTATE_SEQ
    [(Reg.PASSAGES_CLOSED, (s2.get Reg.PASSAGES_CLOSED + 1) % 2 ^ 32), (Reg.TRACKS_OPEN, s2.trk.tracks.length)]
  (s3.latch 37 Reg.LP_TAG_INDEX p.tag).reportPassage p.bytes p.tag t.reads

/-- Every track closes with a flag. -/
def State.closeTracks (s : State) (flag : Nat) : State := s.trk.tracks.foldl (fun t x => t.closeTrack x flag) s

/-- A mean rounded to nearest, 0x8000 of nothing. -/
def meanOf (sum n : Nat) : Nat := if n = 0 then noValue else (2 * sum + n) / (2 * n)

/-- An interval is published: every count group as one update, INTERVAL_NUMBER, then event 38 (R302). -/
def State.publish (s : State) (i : Ival) : State :=
  let s1 := (List.range 16).foldl (fun t l =>
    let c := Tab.get i.lanes l
    t.record (Reg.CNT_SEQ l)
      [(Reg.CNT_WITH l, satN 16 c.withN), (Reg.CNT_AGAINST l, satN 16 c.againstN), (Reg.CNT_STATIONARY l, satN 16 c.still),
       (Reg.SPEED_MEAN_WITH l, meanOf c.sumWith c.withN), (Reg.SPEED_MEAN_AGAINST l, meanOf c.sumAgainst c.againstN),
       (Reg.SPEED_MAX l, c.best.getD noValue), (Reg.CNT_COARSE l, satN 16 c.coarse)]) s
  (s1.record Reg.COUNT_SEQ
    [(Reg.INTERVAL_START, i.start), (Reg.INTERVAL_END, i.stop), (Reg.CNT_UNASSIGNED, satN 16 i.unassigned),
     (Reg.CNT_PARTIAL, satN 16 i.partialN), (Reg.CNT_LATE, satN 16 i.late), (Reg.INTERVAL_FLAGS, ofBool i.short),
     (Reg.INTERVAL_NUMBER, (s1.get Reg.INTERVAL_NUMBER + 1) % 2 ^ 32)]).latch 38 Reg.INTERVAL_NUMBER
       ((s1.get Reg.INTERVAL_NUMBER + 1) % 2 ^ 32)

/-- Ticks of a count interval. -/
def State.ivalTicks (s : State) : Nat := s.get Reg.COUNT_INTERVAL_S * 40000000

/-- The interval in progress is cut short, and every interval not yet published is, oldest first (R304, log entry 20). -/
def State.cutIvals (s : State) : State :=
  let l := s.trk.ivals
  let s1 := { s with trk := { s.trk with ivals := [] } }
  ((l.dropLast ++ (l.getLast?.toList.map fun (i : Ival) => ({ i with stop := min i.stop s.tim.now, short := true } : Ival)))).foldl
    State.publish s1

/-- The interval in progress has ended where device time has reached its end: the next one follows it at once (R302). -/
def State.rollIvals (s : State) : State :=
  match s.trk.ivals.getLast? with
  | none => s
  | some i =>
    if s.tim.now < i.stop then s
    else { s with trk := { s.trk with ivals := s.trk.ivals ++ [{ (default : Ival) with start := i.stop, stop := i.stop + s.ivalTicks }] } }

/-- Tracking starts afresh with no tracks, its first interval short (R301, R304); with LOC_ENABLE 0 none runs (R279). -/
def State.startTracking (s : State) : State :=
  let now := s.tim.now
  let len := s.ivalTicks
  { s with trk := ⟨[], now, if s.get Reg.LOC_ENABLE = 1 then
      [{ (default : Ival) with start := now, stop := (now / len + 1) * len, short := true }] else []⟩ }

/-- Leaving RUN, or an apply instant of R300: tracks close with a flag and the interval is cut. -/
def State.stopTracking (s : State) (flag : Nat) : State := (s.closeTracks flag).cutIvals

/-! ### Placing a read (R279 to R292) -/

/-- The first `n` bits of an EPC, most significant first (R290). -/
def epcBits (epc : Bytes) (n : Nat) : Nat :=
  (padTo 4 epc).foldl (fun a b => 256 * a + b.toNat) 0 / 2 ^ (32 - n)

/-- The class an EPC falls in (R290). -/
def State.classOf (s : State) (epc : Bytes) : Nat :=
  ((List.range 8).find? fun k => s.get (Reg.CLASS_ENABLE k) = 1 &&
    (let n := s.get (Reg.CLASS_PREFIX_LEN k)
     n ≤ 8 * epc.length && epcBits epc n = s.get (Reg.CLASS_PREFIX k) / 2 ^ (32 - n))).getD (s.get Reg.DEFAULT_CLASS)

/-- The class of a read's tag: its open track's, else that of its EPC (R290). -/
def State.readClass (s : State) (r : Read) : Nat :=
  match s.trk.tracks.find? fun t => t.tag = r.tag with
  | some t => t.cls
  | none => s.classOf r.epc

/-- The distinct values of a list. -/
def distinct (l : List Int) : Nat := l.eraseDups.length

/-- The lane that holds a position (R291): the lowest-numbered of the enabled lanes it lies in or on. -/
def State.laneAt (s : State) (p : Int × Int) : Option Nat :=
  (List.range 16).find? fun l => s.get (Reg.LANE_ENABLE l) = 1 && (edges (s.lane l)).all fun e => 0 ≤ turn e.1 e.2 p

/-- A read as its track keeps it (R286, R297, R298). -/
def trackPt (r : Read) (l : Loc) : TrackPt :=
  { time := r.time, khz := r.khz, beam := r.beam, dwell := r.dwell, lock := r.lock,
    placed := bit l.flags 4 && !bit l.flags 2, x := l.x, y := l.y, both := bit l.flags 0 && bit l.flags 1,
    dx := l.dx, dy := l.dy, phi := l.phi }

/-- The reads of a tag kept so far for range fits: those its track has joined, and those located and not yet joined (R286),
but for what a line of LOC has lost (Table 11.3). -/
def State.tagReads (s : State) (tag : Nat) : List TrackPt :=
  let t := s.trk.tracks.find? fun t => t.tag = tag
  ((t.map fun t => t.points).getD [] ++ (s.rep.joins.filter fun p => p.1.tag = tag).map fun p => trackPt p.1 p.2).filter
    fun p => (t.map fun t => t.fitFrom).getD 0 ≤ p.time

/-- The reads a range fit takes for a read with phase `phi`, itself included: none unless the tag's track has a speed of at
most RANGE_SPEED_MAX and the reads cover 8 channels over 10 MHz (R286). -/
def State.rangePts (s : State) (r : Read) (phi : Int) : List RangePt :=
  match s.rangeRun, (s.trk.tracks.find? fun t => t.tag = r.tag).bind s.speedOf with
  | some run, some v =>
    let old := (s.tagReads r.tag).filter fun p =>
      p.both && run.contains p.khz && p.time ≤ r.time && r.time ≤ p.time + s.get Reg.RANGE_SPAN_MS * 40000
    let l := old.map (fun p => ⟨p.khz, r.time - p.time, p.phi⟩) ++ [⟨r.khz, 0, phi⟩]
    let chans := (l.map fun p => p.khz).eraseDups
    if v.1.natAbs ≤ s.get Reg.RANGE_SPEED_MAX && run.contains r.khz && 8 ≤ chans.length &&
        chans.foldl min r.khz + 10000 ≤ chans.foldl max r.khz then l else []
  | _, _ => []

/-- R0 of a read with phase `phi` (R286, R287). -/
def State.rangeOf (s : State) (r : Read) (phi : Int) : Option Int :=
  match s.rangePts r phi with
  | [] => none
  | l => bestRange l (min (s.get Reg.RANGE_AMBIGUITY_MM) (s.get Reg.RANGE_MAX_MM)) (s.get Reg.RANGE_SPEED_MAX)

/-- The measured chains with enough SNR (R281). -/
def State.angleChains (s : State) (r : Read) : List ChainMeas := r.meas.filter fun m => s.i16 Reg.ANGLE_MIN_SNR ≤ m.snr

/-- AZ_VALID, and EL_VALID with it (R282). -/
def State.azValid (s : State) (c : List ChainMeas) : Bool :=
  s.get Reg.ANGLE_MIN_CHAINS ≤ c.length && 2 ≤ distinct (c.map fun m => s.i16 (Reg.ELEMENT_X m.chain))
def State.elValid (s : State) (c : List ChainMeas) : Bool :=
  s.azValid c && 2 ≤ distinct (c.map fun m => s.i16 (Reg.ELEMENT_Y m.chain))

/-- What a read with both angles has besides them: range, position, lane and their flags (R286 to R291). -/
def State.placeRead (s : State) (r : Read) (c : List ChainMeas) (az el : Int) (l : Loc) : Loc :=
  let d := s.roadVector az el
  let h := s.i32 (Reg.CLASS_HEIGHT (s.readClass r))
  let phi := s.readPhase r.khz c az el
  let range := s.rangeOf r phi
  let far := range.map fun x => s.rangePoint d x
  let pos := decide (d.2.2 * 10000 ≤ -(349 * 10 ^ 18))
  let p := match far with
    | some q => if s.get Reg.POSITION_MODE = 1 then (q.1, q.2.1) else s.planePoint d h
    | none => s.planePoint d h
  let lane := if pos then s.laneAt p else none
  let high := far.any fun q => 1000 < (q.2.2 - h).natAbs
  { l with range := range.getD (-1), x := if pos then p.1 else 0, y := if pos then p.2 else 0, lane := lane.getD 0xFF,
           flags := l.flags + ofBool range.isSome * 8 + ofBool pos * 16 + ofBool lane.isSome * 32 + ofBool high * 64
           dx := d.1, dy := d.2.1, phi := phi }

/-- What localisation gives a read (R281 to R291). -/
def State.locate (s : State) (r : Read) : Loc :=
  let c := s.angleChains r
  let cold := ofBool (bit r.flags 0) * 128
  if !s.azValid c then { Loc.none with flags := cold }
  else
    let el := s.elValid c
    let b := s.bestDirection r.khz c el
    let l : Loc := { Loc.none with
      az := ofInt 16 b.1.1, el := if el then ofInt 16 b.1.2 else noValue, flags := 1 + ofBool el * 2 + ofBool b.2 * 4 + cold }
    if el then s.placeRead r c b.1.1 b.1.2 l else l

/-- The counts of localised reads (Table 8.5). -/
def State.countLocated (s : State) (l : Loc) : State :=
  let up := fun k w => (k, (s.get k + 1) % 2 ^ w)
  s.record Reg.LSTATE_SEQ
    ([up Reg.READS_IN 64, if bit l.flags 0 then up Reg.READS_ANGLE 64 else up Reg.READS_NO_ANGLE 32] ++
      if bit l.flags 2 then [up Reg.READS_AMBIGUOUS 32] else [])

/-- One read of a batch: counted, shown as the last location, reported, and kept for the tracker. -/
def State.locateOne (s : State) (r : Read) : State :=
  let l := s.locate r
  let s1 := (s.countLocated l).record Reg.LL_SEQ
    [(Reg.LL_TIME, r.time), (Reg.LL_TAG_INDEX, r.tag), (Reg.LL_AZ, l.az), (Reg.LL_EL, l.el),
     (Reg.LL_RANGE, ofInt 32 l.range), (Reg.LL_X, ofInt 32 l.x), (Reg.LL_Y, ofInt 32 l.y),
     (Reg.LL_CLASS, s.readClass r), (Reg.LL_LANE, l.lane), (Reg.LL_FLAGS, l.flags)]
  let s2 := s1.report r l
  { s2 with rep := { s2.rep with joins := s2.rep.joins ++ [(r, l)] } }

/-- The reads that wait are located, in order. -/
def State.locateAll (s : State) : State := s.rep.reads.foldl State.locateOne { s with rep := { s.rep with reads := [] } }

/-- No localisation runs (R279): the reads that wait are reported without one, and the located ones join no track. -/
def State.locateNone (s : State) : State :=
  let t := s.rep.reads.foldl (fun u r => u.report r Loc.none) { s with rep := { s.rep with reads := [] } }
  { t with rep := { t.rep with joins := [] } }

/-! ### The tracker (R294 to R301) -/

/-- The earliest of the located reads (R280). -/
def earliest : List (Read × Loc) → Option (Read × Loc)
  | [] => none
  | p :: r => match earliest r with
    | some q => if q.1.time < p.1.time then some q else some p
    | none => some p

/-- The track whose last read is oldest (R294). -/
def oldestTrack : List Track → Option Track
  | [] => none
  | t :: r => match oldestTrack r with
    | some u => if u.last < t.last then some u else some t
    | none => some t

/-- A track that opens with a read (R295, R301). -/
def State.openTrack (s : State) (r : Read) : Track :=
  { tag := r.tag, cls := s.classOf r.epc,
    partialBegin := r.time < s.trk.startedAt + s.get Reg.CLOSE_GAP_MS * 40000,
    first := r.time, last := r.time, firstIn := none, lastIn := none, reads := 0, positioned := 0, votes := [],
    points := [], fitFrom := 0 }

/-- A track takes a located read (R295, R296). The position of an AMBIGUOUS read is ignored, and with it its lane (R283; log
entry 51). -/
def Track.take (t : Track) (r : Read) (l : Loc) : Track :=
  let clear := !bit l.flags 2
  let inLane := bit l.flags 5 && clear
  { t with
    last := r.time, reads := t.reads + 1,
    firstIn := if inLane then some (t.firstIn.getD r.time) else t.firstIn,
    lastIn := if inLane then some r.time else t.lastIn,
    positioned := t.positioned + ofBool (bit l.flags 4 && clear),
    votes := if inLane then Tab.upd t.votes l.lane (· + 1) else t.votes, points := t.points ++ [trackPt r l] }

/-- A tag without a track opens one, the oldest being evicted where all are in use (R294). -/
def State.withTrack (s : State) (r : Read) : State :=
  if s.trk.tracks.any fun t => t.tag = r.tag then s
  else
    let s1 := if s.get Reg.TRACKS_CAPACITY ≤ s.trk.tracks.length then
        match oldestTrack s.trk.tracks with
        | some t => ((s.closeTrack t 2).bump Reg.TRACKS_EVICTED).seq Reg.LSTATE_SEQ
        | none => s
      else s
    let s2 := { s1 with trk := { s1.trk with tracks := s1.trk.tracks ++ [s1.openTrack r] } }
    s2.record Reg.LSTATE_SEQ [(Reg.TRACKS_OPEN, s2.trk.tracks.length)]

/-- A located read is joined to its track (R280, R294). -/
def State.join (s : State) (r : Read) (l : Loc) : State :=
  if bit r.tag 31 then (s.bump Reg.READS_UNTRACKED).seq Reg.LSTATE_SEQ
  else
    let s1 := s.withTrack r
    { s1 with trk := { s1.trk with tracks := s1.trk.tracks.map fun t => if t.tag = r.tag then t.take r l else t } }

/-- The earliest located read is joined to its track. -/
def State.joinOne (s : State) : State :=
  match earliest s.rep.joins with
  | none => s
  | some p => ({ s with rep := { s.rep with joins := s.rep.joins.erase p } } : State).join p.1 p.2

/-- Every located read is joined, in order of TIME. -/
def State.joinAll (s : State) : State := s.rep.joins.foldl (fun t _ => t.joinOne) s

end Sys2Proof.Machine
end

