-- ==== Sys2Proof/Machine/HfOps.lean ====
section
/-! DEFINITION. The HF reader's shared operations (chapter 12): the field, sessions, the end of an operation, faults, Slide
calibrations, and Breath's start and stop. -/

namespace Sys2Proof.Machine

/-- HX's hidden part changed. -/
def State.updHf (s : State) (f : Hf → Hf) : State := { s with hf := f s.hf }

/-- HF_STATE as the session and the operation give it (Table 12.8), unless HX is OUT or Breath runs. -/
def State.showHf (s : State) : State :=
  if s.get Reg.HF_STATE = 5 then s
  else
    let v := if s.hf.op.isSome then 3 else if s.hf.session then 2 else if s.get Reg.BREATH_STATE = 1 ||
      s.get Reg.BREATH_STATE = 2 then 4 else if s.mode = .watch || !Variant.hx s.variant then 0 else 1
    s.recordIf Reg.HSTATE_SEQ [(Reg.HF_STATE, v)]

/-- The field rises at a power (R399, R400). -/
def State.raiseField (s : State) (mw : Nat) : State :=
  (s.updHf fun h => { h with fieldAt := some (h.fieldAt.getD s.tim.now) }).record Reg.HSTATE_SEQ [(Reg.HF_TX_POWER_NOW, mw)]

/-- The field drops (R399): its time counts, and the members without a field read so. -/
def State.dropField (s : State) : State :=
  match s.hf.fieldAt with
  | none => s
  | some t =>
    let s1 := s.record Reg.HSTATE_SEQ
      [(Reg.HF_TX_POWER_NOW, 0), (Reg.HF_DRIVER_CURRENT, 0),
       (Reg.HF_FIELD_ON_US, (s.get Reg.HF_FIELD_ON_US + (s.tim.now - t) / 40) % 2 ^ 64)]
    (s1.record Reg.SLIDE_SEQ [(Reg.SLIDE_PHASE, noValue), (Reg.SLIDE_Z, 0)]).updHf fun h =>
      { h with fieldAt := none, guarding := false }

/-- An operation ends (R403): its results as one group update, then event 57. -/
def State.hfEnd (s : State) (status : Nat) (rsp : Bytes) : State :=
  match s.hf.op with
  | none => s
  | some (code, at_) =>
    let s1 := s.updHf fun h => { h with op := none, guarding := false, resent := 0 }
    let s2 := (s1.putDom Reg.HF_RSP_DATA (rsp.take 1024)).record Reg.HOP_SEQ
      [(Reg.HF_OP_STATUS, status), (Reg.HF_OP_LAST, code), (Reg.HF_OP_DURATION, (s.tim.now - at_) / 40 % 2 ^ 32),
       (Reg.HF_OP_STATE, 2)]
    ((s2.record Reg.HSTATE_SEQ [(Reg.HF_OPS, (s2.get Reg.HF_OPS + 1) % 2 ^ 32)]).latch 57 Reg.HF_OP_STATUS status).showHf

/-- The session closes: the field drops and the card list is emptied (R405). -/
def State.closeSession (s : State) : State :=
  if s.hf.session then
    let s1 := s.dropField.updHf fun h => { h with session := false, active := none, warned := false, excess := 0 }
    ((s1.putDom Reg.HF_CARD_LIST []).record Reg.HOP_SEQ [(Reg.HF_CARD_COUNT, 0)]).showHf
  else s

/-- The running operation and the session end with a status (R410); a Slide full calibration that the drop cuts is due again at
the next field rise. -/
def State.hfStop (s : State) (status : Nat) : State :=
  let s1 := { s with val := { s.val with hfWaits := false },
                     hf := { s.hf with calRuns := false, calDue := s.hf.calDue || s.hf.calRuns } }
  (s1.hfEnd status []).closeSession.dropField

/-- The TEST field ends; `fault`: a fault ended it (R86, Table 2.9). -/
def State.endTestField (s : State) (fault : Bool) : State :=
  if s.hf.test then
    ((s.dropField.updHf fun h => { h with test := false, calRuns := false, calDue := h.calDue || h.calRuns }).put Reg.TEST_HF_STATE (if fault then 2 else 0))
  else s

/-- Clock, PLL, driver and Slide faults: the field drops and the operation ends with FIELD_FAULT (R410). -/
def State.hfFieldFault (s : State) : State := (s.hfStop 8).endTestField true

/-- HX goes OUT with a cause (R413, R414, R417). -/
def State.hfOut (s : State) (cause : Nat) : State :=
  s.hfFieldFault.record Reg.HSTATE_SEQ [(Reg.HF_STATE, 5), (Reg.HF_OUT_CAUSE, cause)]

/-- HX leaves OUT (R413, R414, R417). -/
def State.hfBack (s : State) : State := (s.record Reg.HSTATE_SEQ [(Reg.HF_STATE, 1), (Reg.HF_OUT_CAUSE, 0)]).showHf

/-- Event 58 (R412, R413), that of the mismatch at most once per session, a TEST field standing for one. -/
def State.slideMismatch (s : State) (always : Bool) : State :=
  if s.hf.warned && !always then s
  else ((s.updHf fun h => { h with warned := h.fieldAt.isSome && (h.session || h.test) }).record Reg.SLIDE_SEQ
    [(Reg.SLIDE_MISMATCH_COUNT, (s.get Reg.SLIDE_MISMATCH_COUNT + 1) % 2 ^ 32)]).latch 58 Reg.SLIDE_PHASE
      (s.get Reg.SLIDE_PHASE)

/-- Event 59 HF_FAULT, counted (R413, R414). -/
def State.hfFault (s : State) (cause : Nat) : State :=
  ((s.hfOut cause).record Reg.HSTATE_SEQ [(Reg.HF_FAULT_COUNT, (s.get Reg.HF_FAULT_COUNT + 1) % 2 ^ 32)]).latch 59
    Reg.HF_OUT_CAUSE cause

/-- A Slide full calibration starts: the antenna is driven unmodulated at 20 mW (R415). -/
def State.startSlide (s : State) : State := (s.raiseField 20).updHf fun h => { h with calRuns := true, calDue := false }

/-- A Slide full calibration is due by temperature at the next field rise (Table 12.5). -/
def State.slideStale (s : State) : Bool :=
  s.hf.calDue || 200 ≤ (s.i16 Reg.HF_DIE_TEMP - s.i16 Reg.SLIDE_CAL_TEMP).natAbs

/-- Breath starts at a WATCH entry by acquiring its baseline (R415, R418). -/
def State.startBreath (s : State) : State :=
  if Variant.hx s.variant && s.get Reg.HF_ENABLE = 1 && (s.get Reg.WAKE_SOURCES).testBit 0 && s.get Reg.HF_STATE != 5 then
    ((s.updHf fun h => { h with step := .idle, again := false, falses := [] }).record Reg.BREATH_SEQ
      [(Reg.BREATH_STATE, 1), (Reg.BREATH_PERIOD_NOW, s.get Reg.BREATH_PERIOD_MS)]).showHf
  else s.showHf

/-- Breath stops, a confirmation burst being cut (R418, R422). -/
def State.stopBreath (s : State) : State :=
  if s.get Reg.BREATH_STATE = 0 then s
  else ((s.dropField.updHf fun h => { h with
      step := .idle, cutAt := match h.step with | .confirming _ => some s.tim.now | _ => none }).record Reg.BREATH_SEQ [(Reg.BREATH_STATE, 0)]).showHf

end Sys2Proof.Machine
end

