-- ==== Sys2Proof/Machine/Fault.lean ====
section
/-! DEFINITION. Leaving RUN, mode changes, forced entries to HOLD, critical faults and REF_LOST (chapters 2 and 17), and the
ends of the TEST carrier. -/

namespace Sys2Proof.Machine

/-! ### The TEST carrier (R86) -/

/-- The TEST carrier ends in state 3 with a result. -/
def State.endTest (s : State) (r : Result) : State :=
  match s.testC with
  | none => s
  | some _ =>
    ({ s with testC := none }).record Reg.TUHF_SEQ [(Reg.TEST_CARRIER_STATE, 3), (Reg.TEST_CARRIER_RESULT, Result.code r)]

/-! ### A survey cut (R221) -/

/-- A survey ends without result. -/
def State.endSurvey (s : State) (r : Result) : State :=
  if s.arr.survey.isSome then
    ({ s with arr := { s.arr with survey := none } }).record Reg.SURV_SEQ
      [(Reg.SURVEY_STATE, 4), (Reg.SURVEY_RESULT, Result.code r)]
  else s

/-! ### Modes (R49, R60) -/

/-- With RUN every unit of a beam that the variant has, and of the part, is on its lane; outside it no lane carries one (R334). -/
def State.lanesOn (s : State) (on : Bool) : State :=
  let m := s.dom Reg.LANE_MAP
  let held := (List.range 32).filter fun n =>
    let e := (m.getD n 0).toNat
    match e % 16 with
    | 1 => e / 16 < 4 * Variant.quads s.variant
    | 2 => e / 16 < Variant.quads s.variant
    | c => c != 0 && c != 5
  s.recordIf Reg.CONS_SEQ [(Reg.LANES_ACTIVE, if on then maskOf held else 0)]

/-- What ends when the part leaves RUN (R51, R60, R221, R300, R349): the survey; the dwells, every Drone being down; the reads
already decoded, which are located, reported and joined; then the tracks and the reports. -/
def State.leaveRun (s : State) : State :=
  let s1 := (s.endSurvey .busy).dropDwells
  let s2 := s1.quadList.foldl State.quadDark { s1 with val := { s1.val with plan := [], released := [], hfWaits := false } }
  let s3 := (s2.locateAll.joinAll.stopTracking 4).closeReports
  (s3.lanesOn false).showZones []

/-- Quads of a mode that keeps the synthesisers off (Table 2.1). -/
def State.quadsOff (s : State) : State := s.quadList.foldl State.synthOff s

/-- The links of the UX dies go down unpowered (Sequence 1.1 step 7). -/
def State.linksOff (s : State) : State :=
  s.quadList.foldl (fun t q => (t.linkClear q 0 false).recordIf (Reg.QLINK_SEQ q) [(Reg.LINK_STATE q, 0)]) s

/-- The links of the present UX dies train, the dies being powered (Sequence 1.1 steps 4 and 5). -/
def State.linksTrain (s : State) : State :=
  s.quadList.foldl (fun t q => if (t.hub q).width = 0 then t.updHub q fun h => { h with training := true } else t) s

/-- A mode comes into force: its code and event 1 at one instant (R49); HOLD_REASON is 0 outside HOLD (R54). -/
def State.enter (s : State) (m : Mode) (reason : Nat) : State :=
  (({ s with mode := m, sys := { s.sys with trans := none, unacked := if m = Mode.hold then s.sys.unacked else 0 } }).put Reg.HOLD_REASON (if m = Mode.hold then reason else 0)).latch 1
    Reg.MODE_CURRENT (Mode.code m)

/-- A recovery session is open (R64). -/
def State.recovering (s : State) : Bool := s.get Reg.SESSION_KIND = 2

/-- The lower of two HOLD reasons, 0 standing for none. -/
def lowerReason (a b : Nat) : Nat := if a = 0 then b else if b = 0 then a else min a b

/-- A transition in progress is abandoned: its request's MODE_RESULT is FAULT (R61), and no wake source waits for it (R80). -/
def State.abandon (s : State) : State :=
  match s.sys.trans with
  | none => s
  | some t =>
    let s1 := { s with sys := { s.sys with trans := none, wakeBits := 0, wakeRun := false } }
    if t.link.isSome then s1.put Reg.MODE_RESULT (Result.code .fault) else s1

/-- A wake under way that a source of link `l` joins: one of the same tick, or the SPT request whose frame began it (R76,
R79). -/
def State.joinsWake (s : State) (l : Option Link) : Bool :=
  s.mode = .watch && (s.sys.trans.any fun t => !t.forced && t.target != .hold) &&
    (s.sys.wakeAt = s.tim.now || (l = some .spt && s.io.spt.any fun q => q.since = s.sys.wakeAt))

/-- A wake from WATCH starts (R79): WAKE_CAUSE names its sources, Breath stops, and READY, or RUN through READY, is
entered. A source that fires together with it joins it. -/
def State.wake (s : State) (bits : Nat) (run : Bool) (l : Option Link) : State :=
  match s.sys.trans with
  | none =>
    let s1 := s.stopBreath.linksTrain.put Reg.WAKE_CAUSE bits
    { s1 with sys := { s1.sys with trans := some ⟨if run then .run else .ready, false, l, 0⟩, wakeBits := 0, wakeRun := false,
                                   wakeAt := s1.tim.now } }
  | some t =>
    if !s.joinsWake l then s
    else
      let s1 := s.put Reg.WAKE_CAUSE (s.get Reg.WAKE_CAUSE ||| bits)
      { s1 with sys := { s1.sys with
        trans := some { t with target := if run then .run else t.target, link := l.orElse fun _ => t.link } } }

/-- Wake source `b` fires (Table 2.5): in WATCH it wakes the part where enabled; while WATCH is being entered it is
latched (R80). -/
def State.wakeSource (s : State) (b : Nat) : State :=
  if !(s.get Reg.WAKE_SOURCES).testBit b then s
  else
    let run := (s.get Reg.WAKE_TO_RUN).testBit b
    if s.mode = .watch then s.wake (2 ^ b) run none
    else if s.sys.trans.any fun t => t.target = .watch then
      { s with sys := { s.sys with wakeBits := setBit s.sys.wakeBits b, wakeRun := s.sys.wakeRun || run } }
    else s

/-- A cause forces HOLD (R59, R61, R64, R550): the carriers have been dropped by the caller. -/
def State.forceHold (s : State) (reason : Nat) : State :=
  match s.mode with
  | .boot => { s with sys := { s.sys with bootReason := lowerReason s.sys.bootReason reason } }
  | .test => s
  | .hold =>
    let s1 := if s.sys.trans.isSome then s.abandon.cutSweep.quadsOff else s
    if s1.recovering then s1
    else s1.put Reg.HOLD_REASON (lowerReason (s1.get Reg.HOLD_REASON) reason)
  | _ =>
    let old := match s.sys.trans with
      | some t => if t.forced then t.reason else 0
      | none => 0
    let s1 := s.abandon
    { s1 with sys := { s1.sys with trans := some ⟨.hold, true, none, lowerReason old reason⟩ } }

/-- Every UHF carrier and the HF field go off: muted, or ramped down; rounds end at once (R40, R145, R547). -/
def State.carriersOff (s : State) (mute : Bool) : State :=
  let s1 := s.quadList.foldl (fun t q => t.endRound q 5 true) s
  let s2 := if mute then s1.muteAll else s1.rampAll
  let s3 := (s2.endTest .fault).cutSweep
  let s4 := { s3 with val := { s3.val with plan := [], released := [] } }
  (s4.dropDwells.hfFieldFault).stopBreath

/-- The critical condition of a source is signalled: its bits, FAULT_LAST and the count (R547); the FAULT bit waits for its
event's acknowledge (R87). -/
def State.faultBits (s : State) (b : Nat) : State :=
  { s with sys := { s.sys with unacked := setBit s.sys.unacked b } }.record Reg.FAULT_SEQ
    [(Reg.FAULT_ACTIVE, setBit (s.get Reg.FAULT_ACTIVE) b), (Reg.FAULT_SEEN, setBit (s.get Reg.FAULT_SEEN) b),
     (Reg.FAULT_LAST, b), (Reg.CRITICAL_COUNT, (s.get Reg.CRITICAL_COUNT + 1) % 2 ^ 32)]

/-- A critical fault of source `b` (R547, R550); `ev`: the event it latches, with its details, unless the caller's latch
is that occurrence. -/
def State.criticalFault (s : State) (b : Nat) (ev : Option (Nat × Nat × Nat)) : State :=
  let s1 := (s.carriersOff false).faultBits b
  let s2 := match ev with
    | some (e, da, db) => s1.latchAs true 4 e da db
    | none => s1
  s2.forceHold 2

/-- REF_LOST (R40): every carrier is muted, event 16 is latched and HOLD is forced. -/
def State.refGone (s : State) : State :=
  let s1 := ({ s with sys := { s.sys with refLost := true } }).carriersOff true
  (s1.latch 16 0 0).forceHold 1

/-! ### Failure of a held carrier request (R144) -/

/-- A quad cannot carry Drone as asked (R142 to R144): event 18, and the request fails for the follower, the dwell or
the TEST carrier. -/
def State.holdFails (s : State) (q : Nat) : State :=
  let s1 := (s.updQuad q fun x => { x with held := none }).latch 18 (Reg.SYNTH_FREQ_KHZ q) (s.get (Reg.SYNTH_FREQ_KHZ q))
  match s1.testC with
  | some _ => s1.rampAll.endTest .synthUnlocked
  | none => match s1.running q with
    | some r =>
      let s2 := (((s1.endRound q 5 true).dissolve q).showBeams)
      ((bitsOf 4 r.d.gang).foldl State.rampQuad s2).replan
    | none => (s1.updQuad q fun x => { x with offered := true }).leaveGang q

end Sys2Proof.Machine
end

