-- ==== Sys2Proof/Machine/Hub.lean ====
section
/-! DEFINITION. The commands of chapter 1: die-to-die links, tone measurements, REF_LOST, wide values, and replies. -/

namespace Sys2Proof.Machine

/-! ### Links (R22 to R32) -/

/-- A quad's link went down, or HX's (R30, Sequence 1.1, R410): both ends drop what they held, and training starts. -/
def State.linkLost (s : State) (h : Nat) : State :=
  if (s.hub h).width = 0 then s
  else
    let s1 := s.linkClear h 0 true
    if h < 4 then
      let s2 := s1.record (Reg.QLINK_SEQ h) [(Reg.LINK_STATE h, 0), (Reg.LINK_DOWNS h, (s1.get (Reg.LINK_DOWNS h) + 1) % 2 ^ 32)]
      let test := match s2.testC with | some t => t.quads.testBit h | none => false
      let s3 := if test then s2.rampAll.endTest .fault else s2.rampQuad h
      let s4 := s3.updQuad h fun x => { x with calibrating := false, calRepeat := false, want := 0 }
      (s4.quadOut h 1).loseQuad h 5
    else s1.hfFieldFault

/-- A replay at a sender that holds unacknowledged flits (R27): they are sent again in the original order, the replay
counts, event 31 is raised once until the sliding window has fallen below 500 (R31), and the link is declared down at the
eighth resend without an advance (R30). -/
def State.replay (s : State) (h : Nat) (side : LinkSide) : State :=
  let hub := s.hub h
  let e := hub.end_ side
  if e.unacked.isEmpty then s
  else
    let before := hub.replays.filter fun t => s.tim.now - t < 40000000
    let held := hub.retryHeld && 500 ≤ before.length
    let high := 1000 < before.length + 1 && !held
    let s1 := s.updHub h fun x => { x.setEnd e.resend side with replays := s.tim.now :: before, retryHeld := held || high }
    let s2 := if h < 4 then s1.record (Reg.QLINK_SEQ h) [(Reg.LINK_REPLAYS h, (s1.get (Reg.LINK_REPLAYS h) + 1) % 2 ^ 32)] else s1
    let s3 := if high then s2.latch 31 (if h < 4 then Reg.LINK_REPLAYS h else 0) (if h < 4 then s2.get (Reg.LINK_REPLAYS h) else 0)
      else s2
    if 8 ≤ e.resends + 1 then s3.linkLost h else s3

/-- The ACK and NAK of an accepted flit reach the sender at the end it arrived at (R25 to R27). -/
def State.takeAck (s : State) (h : Nat) (side : LinkSide) (flit : Bytes) : State :=
  let b := field flit 3 1
  let s1 := if bit b 0 then s.updEnd h side fun e => e.ack (field flit 2 1) else s
  if bit b 1 then s1.replay h side else s1

/-- The receiver expects this SEQ next; the first flit after the link came up may carry any (DESIGN CHOICE, log entry 48). -/
def LinkEnd.expects (e : LinkEnd) (seq : Nat) : Bool :=
  match e.rxLast with
  | none => true
  | some q => seq = (q + 1) % 256

/-- FLIT_RECEIVED (R22, R23, R25 to R28). A flit with a good CRC whose SEQ is not the next one is taken as a bad one
(DESIGN CHOICE, log entry 48). -/
def execFlitReceived (h : Fin 5) (side : LinkSide) (flit : Bytes) (codeErr : Bool) (s : State) :
    Host.Outcome State Fault Refusal :=
  let e := (s.hub h).end_ side
  let f := readFlit flit
  if (s.hub h).width = 0 then .next s
  else
    let full := side = .cx && 32 ≤ e.fifo.length
    if flitBad flit codeErr || full || !e.expects f.seq then
      if e.discarding && !e.expects f.seq then .next s
      else .next (s.updEnd h side fun x => { x with discarding := true, nakDue := true })
    else .next ((s.updEnd h side fun x => x.accept side f).takeAck h side flit)

/-- REPLAY_TIMEOUT (R27). -/
def execReplayTimeout (h : Fin 5) (side : LinkSide) (s : State) : Host.Outcome State Fault Refusal :=
  .next (if (s.hub h).width = 0 then s else s.replay h side)

/-- LINK_DOWN (R30, Sequence 1.1 steps 2 to 4). -/
def execLinkDown (h : Fin 5) (s : State) : Host.Outcome State Fault Refusal := .next (s.linkLost h)

/-- LINK_STATE for the lanes that passed (Sequence 1.1 step 5, R32); 0 where the link stays down. -/
def linkWidth (h up down : Nat) : Nat :=
  if h = 4 then (if up.testBit 0 && down.testBit 0 then 1 else 0)
  else
    let u := if up % 16 = 15 then 1 else if up.testBit 0 && up.testBit 1 then 2 else if up.testBit 2 && up.testBit 3 then 3 else 0
    let d := if down % 4 = 3 then 0 else if down % 4 = 0 then 7 else 3
    if u = 0 || d = 7 then 0 else u + d

/-- A quad whose link is up goes on where its mode lets it: calibrated where that is due, else locked on the lowest
committed channel (R170, R231, Sequence 2.1 step 10). -/
def State.quadUp (s : State) (q : Nat) : State :=
  let s1 := s.quadBack q 1
  if s1.get (Reg.QUAD_STATE q) = 5 then s1
  else
    let bring := s1.mode = .ready || s1.mode = .run || s1.mode = .test || (s1.mode = .boot && s1.sys.validConfig) ||
      (match s1.sys.trans with | some t => t.target = .ready || t.target = .run | none => false)
    if !bring then s1
    else if s1.get (Reg.CAL_COUNT q) = 0 || (s1.quad q).calDue then s1.startCal q
    else s1.retune q s1.lowestKhz none

/-- HX's link is up in BOOT: the Slide full calibration starts (Sequence 2.1 step 11, R415). -/
def State.hxUp (s : State) : State :=
  if s.mode = .boot && s.sys.validConfig && s.get Reg.HF_ENABLE = 1 && s.critical = 0 && !s.sys.refLost then s.startSlide else s

/-- LINK_TRAINING_DONE (R32, Sequence 1.1 step 5). -/
def execLinkTrainingDone (h : Fin 5) (up down : Nat) (s : State) : Host.Outcome State Fault Refusal :=
  let hub := s.hub h
  if !hub.training then .next s
  else
    let w := linkWidth h up down
    let s1 := s.linkClear h w false
    if h.val < 4 then
      let s2 := s1.record (Reg.QLINK_SEQ h)
        [(Reg.LINK_STATE h, w), (Reg.LINK_RETRAINS h, (s1.get (Reg.LINK_RETRAINS h) + 1) % 2 ^ 32)]
      .next (if w = 0 then s2 else s2.quadUp h)
    else .next (if w = 0 then s1 else s1.hxUp)

/-- LINK_RETRAIN_TIMER (Sequence 1.1 step 7): in the modes in which the UX dies are powered. -/
def execLinkRetrainTimer (h : Fin 5) (s : State) : Host.Outcome State Fault Refusal :=
  if (s.hub h).width = 0 && (s.mode = .hold || s.mode = .ready || s.mode = .run || s.mode = .test) &&
      (if h.val < 4 then h.val < Variant.quads s.variant else Variant.hx s.variant) then
    .next (s.updHub h fun x => { x with training := true })
  else .next s

/-- A PA rail of a quad faults (R147, R20, R545): its PAs mute, CHAIN_FAULT bit 5 is set, the quad goes OUT, unless
another cause holds it OUT, and event 11 is latched, once until the rail has recovered. -/
def State.railLost (s : State) (q : Nat) : State :=
  if Variant.quads s.variant ≤ q || (s.quad q).railBad then s
  else
    let s1 := s.muteQuad q
    let s2 := (chainsOf q).foldl (fun t c =>
      t.record (Reg.CSTATE_SEQ c) [(Reg.CHAIN_FAULT c, setBit (t.get (Reg.CHAIN_FAULT c)) 5), (Reg.CHAIN_STATE c, 5)])
      (s1.updQuad q fun x => { x with railBad := true })
    let test := match s2.testC with | some t => t.quads.testBit q | none => false
    let s3 : State := if test then s2.rampAll.endTest .fault else s2
    let s4 := if s3.get (Reg.QUAD_STATE q) = 5 then s3 else (s3.quadOut q 4).loseQuad q 5
    s4.latchAs false 2 11 (Reg.V_PA_MV q) (s.get (Reg.V_PA_MV q))

/-- The RAIL source, once until it has been cleared (Table 17.2). -/
def State.railCritical (s : State) (key : Nat) : State :=
  let s1 := { s with hlt := { s.hlt with railGood := 0 } }
  if bit (s1.get Reg.FAULT_ACTIVE) 1 then s1 else s1.criticalFault 1 (some (11, key, s1.get key))

/-- PX_RAIL_FAULT (R20), of a PX that has started (R576): a PA rail as R147 gives; the PX main buck is critical
(Table 17.4). -/
def execPxRailFault (quad : Option (Fin 4)) (s : State) : Host.Outcome State Fault Refusal :=
  if s.sys.lx01 != .px then .next s
  else match quad with
    | some q => .next (s.railLost q)
    | none => .next (if s.sys.phase != .released then s else s.railCritical Reg.V_PXMAIN_MV)

/-! ### Tone measurements (R211 to R216) -/

/-- A chain's measurement passes (R213): the tone power is −46 to −34 dBm at its LNA input, and the fit residual at least
35 dB below the tone. -/
def toneOk (m : ToneMeas) : Bool := -184 ≤ m.power && m.power ≤ -136 && 140 ≤ m.residual

/-- What a measurement that passes gives its chain (R37, R211 to R213): θ_tone,c less the delay from the driving quad, the
θ_fwd,c that Drone will rise with (R218), and both entries. -/
def State.setPhase (s : State) (driver khz : Nat) (m : ToneMeas) : State :=
  let c := m.chain.val
  (s.updChain c fun x => { x with tone := some (m.theta - tapPhase driver c khz), fwd := s.riseFwd c khz }).showPhases [c]

/-- The tone measurement enters a quad's last run of calibrations (Table 4.5): it joins the run of a full calibration that it
ends, and is a run of its own otherwise. -/
def State.toneRun (s : State) (began : Nat) (bad : List Nat) (q : Nat) : State :=
  let failed := bad.any fun c => c / 4 = q
  let join := s.get (Reg.CAL_LAST_SET q) = 0x1F
  let set := if join then s.get (Reg.CAL_LAST_SET q) ||| 0x20 else 0x20
  let old := if join then s.get (Reg.CAL_LAST_FAILED q) else 0
  let now := if failed then old ||| 0x20 else old
  s.record (Reg.QCAL_SEQ q)
    [(Reg.CAL_LAST_SET q, set), (Reg.CAL_LAST_FAILED q, now), (Reg.CAL_LAST_RESULT q, Result.code (if now = 0 then .ok else .fault)),
     (Reg.CAL_LAST_DURATION q, ((if join then s.get (Reg.CAL_LAST_DURATION q) else 0) + (s.tim.now - began) / 40) % 2 ^ 32)]

/-- The chains of the mask that are not left out of the TEST carrier: enabled, and not OUT (R86). -/
def State.testChains (s : State) : List Nat := (bitsOf 16 (s.get Reg.TEST_CHAIN_MASK)).filter s.chainIn

/-- The chains that the TEST carrier raises: those of the mask in service on the quads it tunes. -/
def State.testRaised (s : State) : List Nat :=
  s.testChains.filter fun c => s.quadIn (c / 4) && s.testC.any fun t => t.quads.testBit (c / 4)

/-- Drone of a TEST carrier rises on every chain of the mask in service, under the interlock (R86, R141). -/
def State.raiseTest (s : State) : State :=
  let khz := s.get Reg.TEST_FREQ_KHZ
  let qs := (s.testC.map fun t => t.quads).getD 0
  let lv := s.testRaised.map fun c => (c, s.i16 Reg.TEST_LEVEL)
  let on := (bitsOf 4 qs).all fun q => s.get (Reg.SYNTH_FREQ_KHZ q) = khz
  if !on then s
  else if s.interlock khz lv then
    lv.foldl (fun t p => ((t.updChain p.1 fun x => { x with warned := false }).raiseChain p.1 p.2)) (s.setRails qs lv)
  else s.refuse.rampAll.endTest .regulatory

/-- What a gang does once its tone measurement has passed. -/
def State.tonePassed (s : State) (l : Nat) : State :=
  match s.testC with
  | some t => ({ s with testC := some { t with toned := true } }).raiseTest
  | none => s.raiseGang l

/-- A quad's tone fails for good: OUT with cause CAL_FAILED, handled as R172 states (R215). -/
def State.toneOut (s : State) (l : Nat) : State :=
  let test := s.testC.isSome
  let s1 := if test then s.endTest .synthUnlocked else s
  (s1.quadOut l 2).loseQuad l 5

/-- The measurement's window has passed (R34, R213): the ramps of the gang's PAs are over, every chain holds its 1,536
samples, the passing chains' entries are formed, and the gang's measurement is recorded. -/
def State.toneTaken (s : State) (l asked : Nat) (meas : List ToneMeas) : State :=
  let gang := s.toneGang l
  let khz := s.get (Reg.SYNTH_FREQ_KHZ l)
  let cs := (gangChains gang).filter s.chainIn
  let temps := (bitsOf 4 gang).map fun q => (q, s.i16 (Reg.QUAD_DIE_TEMP q))
  let s0 := (bitsOf 4 gang).foldl State.quadDark s
  let s1 := { s0 with arr := { s0.arr with bus := s0.arr.bus.tail, tone := Tab.put s0.arr.tone l ⟨khz, s.tim.now, temps⟩ } }
  let s2 := cs.foldl (fun t c => t.updChain c fun x => { x with captured := 1536 }) s1
  let good := meas.filter fun m => toneOk m && cs.contains m.chain.val
  let bad := cs.filter fun c => !good.any fun m => m.chain.val = c
  let s3 := good.foldl (fun t m => t.setPhase (toneDriver gang) khz m) s2
  let s4 := s3.record (Reg.TXB_SEQ l) [(Reg.TONE_TIME l, s3.tim.now)]
  let s5 := s4.record (Reg.QCAL_SEQ l)
    [(Reg.TONE_WAIT_MAX l, max (s4.get (Reg.TONE_WAIT_MAX l)) ((s4.tim.now - asked) / 40 - 12))]
  let s6 := (bitsOf 4 gang).foldl (fun t q => t.toneRun asked bad q) s5
  s6.record Reg.ASTATE_SEQ [(Reg.TONE_COUNT, (s6.get Reg.TONE_COUNT + 1) % 2 ^ 32)]

/-- A measurement that has not passed counts for nothing (R36). -/
def State.toneVoid (s : State) (l : Nat) : State := { s with arr := { s.arr with tone := Tab.del s.arr.tone l } }

/-- TONE_MEASURE_DONE (R213, R215): by the gang whose turn the bus has (R35). -/
def execToneMeasureDone (leader : Fin 4) (meas : List ToneMeas) (s : State) : Host.Outcome State Fault Refusal :=
  match s.arr.bus with
  | [] => .next s
  | (l, asked) :: _ =>
    if l != leader.val then .next s
    else
      let gang := s.toneGang l
      let cs := (gangChains gang).filter s.chainIn
      let bad := cs.filter fun c => !meas.any fun m => m.chain.val = c && toneOk m
      let s5 := s.toneTaken l asked meas
      let again := Tab.find s5.arr.repeats l
      let clear := { s5 with arr := { s5.arr with repeats := Tab.del s5.arr.repeats l } }
      if bad.isEmpty then .next (clear.tonePassed l)
      else
        let f := (clear.record Reg.ASTATE_SEQ [(Reg.TONE_FAIL_COUNT, (s5.get Reg.TONE_FAIL_COUNT + 1) % 2 ^ 32)]).latch 21
          Reg.TONE_FAIL_COUNT ((s5.get Reg.TONE_FAIL_COUNT + 1) % 2 ^ 32)
        match again with
        | none => .next (({ f with arr := { f.arr with repeats := Tab.put f.arr.repeats l (maskOf bad) } }).toneVoid l |>.askTone l)
        | some first =>
          if first = 2 ^ 16 then .next (f.toneOut l)
          else
            let twice := bad.filter fun c => first.testBit c
            if twice.length = cs.length then
              if gang = 2 ^ l then .next (f.toneOut l)
              else
                let g := ((bitsOf 4 gang).filter fun q => q != l).foldl (fun t q => (t.rampQuad q).leaveGang q) (f.toneVoid l)
                let g1 := g.record Reg.ASTATE_SEQ [(Reg.GANG_SPLITS, (g.get Reg.GANG_SPLITS + 1) % 2 ^ 32)]
                .next (({ g1 with arr := { g1.arr with repeats := Tab.put g1.arr.repeats l (2 ^ 16) } }).askTone l)
            else .next ((twice.foldl (fun t c => t.faultChain c 4) f).tonePassed l)

/-! ### REFCLK (R40, R41) -/

/-- REF_LOST (R40). -/
def execRefLost (s : State) : Host.Outcome State Fault Refusal :=
  .next (if s.sys.refLost || s.sys.phase != .released then s else s.refGone)

/-- REFCLK_ACCEPTED (R41): every synthesiser is calibrated before it may carry Drone again; in TEST at once. -/
def execRefclkAccepted (s : State) : Host.Outcome State Fault Refusal :=
  if !s.sys.refLost then .next s
  else
    let s1 := { s with sys := { s.sys with refLost := false } }
    let s2 := s1.quadList.foldl (fun t q => t.updQuad q fun x => { x with calDue := true }) s1
    .next (if s2.mode = .test then (s2.quadList.filter fun q => (s2.hub q).width != 0).foldl State.startCal s2 else s2)

/-! ### Wide values (R43, R134) -/

/-- The parts of a linked wide value whose lowest part is at `k` (R134, R371, R493). -/
def wideParts (k : Nat) : Nat :=
  if k = Reg.DEVICE_TIME_LO then 2
  else if (List.range 3).any fun i => [Reg.LOST_T1_LO i, Reg.LOST_T2_LO i, Reg.LOST_T3_LO i, Reg.LOST_ARCHIVE_LO i,
      Reg.LOST_MEMORY_LO i, Reg.LOST_UNINDEXED_LO i].contains k then 2
  else if (List.range 16).any fun i => Reg.TMR_COUNT i = k then 2
  else 0

/-- The live value of a part. -/
def State.livePart (s : State) (k : Nat) : Nat :=
  if k = Reg.DEVICE_TIME_LO then s.tim.now % 2 ^ 32
  else if k = Reg.DEVICE_TIME_HI then s.tim.now / 2 ^ 32 % 2 ^ 32
  else s.get k

/-- A read of the lowest part latches every part for the link (R134). -/
def State.latchWide (s : State) (l : Link) (k : Nat) : State :=
  let parts := (List.range (wideParts k)).map fun i => s.livePart (k + i)
  { s with shadows := ⟨l, k, parts, s.tim.now⟩ :: s.shadows.filter fun x => !(x.link = l && x.key = k) }

/-- A shadow still stands: 1 ms has not passed since its latch (R134). -/
def State.shadowLive (s : State) (x : Shadow) : Bool := s.tim.now < x.at_ + 40000

/-- A part as a link reads it: the shadow while one stands; reading the highest part ends it (R43, R134). -/
def State.readPart (s : State) (l : Link) (k : Nat) : Nat × State :=
  if wideParts k != 0 then (s.livePart k, s.latchWide l k)
  else match s.shadows.find? fun x => x.link = l && x.key < k && k < x.key + x.parts.length && s.shadowLive x with
    | none => (s.livePart k, s)
    | some x =>
      (x.parts.getD (k - x.key) 0,
        if k + 1 = x.key + x.parts.length then { s with shadows := s.shadows.filter fun y => y != x } else s)

/-- DEVICE_TIME_LO_READ (R43). -/
def execDeviceTimeLoRead (l : Link) (s : State) : Host.Outcome State Fault Refusal :=
  .next (s.read l fun t => (.ok, leBytes 4 (t.livePart Reg.DEVICE_TIME_LO), t.latchWide l Reg.DEVICE_TIME_LO))

/-- The shadow of a link that was latched first. -/
def State.oldestShadow (s : State) (l : Link) : Option Shadow := (s.shadows.reverse.filter fun x => x.link = l).head?

/-- WIDE_SHADOW_EXPIRE (R134): 1 ms has passed since a link's oldest latch; its later ones stand. -/
def execWideShadowExpire (l : Link) (s : State) : Host.Outcome State Fault Refusal :=
  .next (match s.oldestShadow l with
    | some x => { s with shadows := s.shadows.erase x }
    | none => s)

/-! ### Replies (R45, R229, R259) -/

/-- TAG_REPLY_END (R45): the reply's instant is recorded. -/
def execTagReplyEnd (beam : Fin 4) (s : State) : Host.Outcome State Fault Refusal :=
  match s.round beam with
  | none => .next s
  | some r =>
    .next (if r.stage = .slot || r.stage = .ack || r.stage = .access then s.putRound beam { r with replyAt := s.tim.now } else s)

/-- Consort's decision goes to the leading Chanter in a DECISION flit (Sequence 1.2 step 4, Table 1.4). -/
def State.decision (s : State) (beam : Nat) : State := s.sendFlit beam .cx 1 0

/-- A COMBINED beam forms its weights for a reply from the preamble on its chains (R224). -/
def State.combine (s : State) (pre : List PreMeas) (b : Nat) : State :=
  match s.running (b / 4) with
  | some r => if s.get (Reg.RXB_MODE b) = 2 then s.setWeights b (combinedWeights (s.rxChains r.d) pre) else s
  | none => s

/-- The decode with the highest SNR, ties to the lowest-numbered beam (R229). -/
def bestDecode : List Decode → Option Decode
  | [] => none
  | d :: r =>
    match bestDecode r with
    | none => some d
    | some b => if b.snr < d.snr || (b.snr = d.snr && d.rxBeam.val ≤ b.rxBeam.val) then some d else some b

/-- The COMBINED beams of a transmit beam form their weights for a reply. -/
def State.combineAll (s : State) (t : Nat) (pre : List PreMeas) : State := (chainsOf t).foldl (State.combine · pre) s

/-- A reply has been decoded on a receive beam (Table 6.8). -/
def State.decodedOn (s : State) (b : Nat) : State :=
  s.record (Reg.RXB_SEQ b) [(Reg.RXB_DECODES b, (s.get (Reg.RXB_DECODES b) + 1) % 2 ^ 32)]

/-- REPLY_DECODED (R259, R229, R33): the reply window is over and the decision goes out. However many replies of a slot differ
from the one chosen, the slot counts once in SPATIAL_COLLISIONS: DESIGN CHOICE, log entry 50. -/
def execReplyDecoded (beam : Fin 4) (reply : SlotReply) (s : State) : Host.Outcome State Fault Refusal :=
  match s.round beam with
  | none => .next s
  | some r =>
    let ds := reply.decodes.filter fun d => d.rxBeam.val / 4 = beam.val && s.get (Reg.RXB_MODE d.rxBeam) != 0
    if r.stage != .slot || (ds.isEmpty && !reply.garbled && !reply.late) then .next s
    else
      let s0 := ((s.decision beam).combineAll beam reply.pre).replyOver beam
      let s1 := ds.foldl (fun t d => t.decodedOn d.rxBeam) s0
      match (if reply.late then none else bestDecode ds) with
      | none =>
        .next (s1.putRound beam { r with stage := .turnSlot, outcome := 1, lateSlot := reply.late })
      | some b =>
        let bb := b.rxBeam.val
        let spatial := ds.any fun d => d.rn16 != b.rn16
        let s2 := s1.record (Reg.RXB_SEQ bb) [(Reg.RXB_BEST bb, (s1.get (Reg.RXB_BEST bb) + 1) % 2 ^ 32)]
        let s3 := if spatial then s2.record Reg.CONS_SEQ [(Reg.SPATIAL_COLLISIONS, (s2.get Reg.SPATIAL_COLLISIONS + 1) % 2 ^ 32)]
          else s2
        .next (s3.putRound beam { r with
          stage := .turnAck, outcome := 2, rn16 := b.rn16.toNat, best := bb, snr := b.snr, spatial := spatial,
          rxMask := maskOf ((ds.filter fun d => d.rn16 = b.rn16).map fun d => d.rxBeam.val), acks := 0 })

end Sys2Proof.Machine
end

