-- ==== Sys2Proof/Machine/Uhf.lean ====
section
/-! DEFINITION. The commands of chapter 4: synthesisers, Drone, Reed, the receiver, port mismatch, calibrations and the
return-loss sweep. -/

namespace Sys2Proof.Machine

/-! ### Synthesisers (R138 to R144) -/

/-- A quad has locked on the channel asked for: the TEST carrier or the gang that waits for it goes on, and a quad alone asks
for the tone bus (R36, R141). -/
def State.quadLocked (s : State) (q : Nat) : State :=
  match s.testC with
  | some t =>
    if t.quads.testBit q then
      let t1 := { t with unlocked := clrBit t.unlocked q }
      let s1 := { s with testC := some t1 }
      if t1.unlocked = 0 then s1.askTone (toneDriver t.quads) else s1
    else s
  | none => match s.leaderOf q with
    | none => if s.channels.isEmpty then s else s.askTone q
    | some l => match s.running l with
      | none => s
      | some r => (s.putRunning l { r with unlocked := clrBit r.unlocked q, locks := r.locks + 1 }).gangLocked l

/-- The offset calibration of a chain inside a hop's lock time (Table 4.4): the corrections found are free values (log entry
5); one that fails puts the chain OUT. -/
def State.hopOffset (s : State) (bad : BitVec 4) (c : Nat) : State :=
  let a := s.draw
  let b := a.2.draw
  let s1 := b.2.record (Reg.RX_SEQ c) [(Reg.DC_OFFSET_I c, a.1 % 2 ^ 16), (Reg.DC_OFFSET_Q c, b.1 % 2 ^ 16)]
  if bit bad.toNat (c % 4) then s1.faultChain c 4 else s1

/-- SYNTH_LOCK (R138, Sequence 4.1 steps 2 and 3): offsets are calibrated, and Reed's weights are loaded. -/
def execSynthLock (q : Fin 4) (res : SynthRes) (s : State) : Host.Outcome State Fault Refusal :=
  let x := s.quad q
  if s.get (Reg.QUAD_STATE q) != 2 || x.want = 0 || x.calibrating || s.sys.refLost then .next s
  else
    let s1 := s.record (Reg.QSTATE_SEQ q)
      [(Reg.QUAD_STATE q, 3), (Reg.SYNTH_FREQ_KHZ q, x.want), (Reg.HOP_LOCK_MAX q, max (s.get (Reg.HOP_LOCK_MAX q)) res.lockUs.toNat)]
    .next ((((chainsOf q).foldl (State.hopOffset · res.failOffset) s1 |> fun t => (chainsOf q).foldl (State.loadSeed · x.want) t)).quadLocked q)

/-- A quad relocks on its channel after a loss of lock (R140, Sequence 4.1). -/
def State.relock (s : State) (q : Nat) : State :=
  (s.phaseless q).record (Reg.QSTATE_SEQ q) [(Reg.QUAD_STATE q, 2), (Reg.SYNTH_FREQ_KHZ q, 0)]

/-- A gang waits for a quad of it to lock again, its Drone down (R140, R141). -/
def State.waitLock (s : State) (l q : Nat) : State :=
  match s.running l with
  | none => s
  | some r => (s.putRunning l { r with unlocked := setBit r.unlocked q, toned := false, ready := false }).updQuad q fun x =>
      { x with held := some .dwell }

/-- What waits for a quad that relocks waits for its lock (R140, R141): the TEST carrier, the dwell that it leads, or the
gang that it leads others in; a follower of a gang that carries Drone leaves it. -/
def State.relockIn (s : State) (q : Nat) : State :=
  match s.testC with
  | some t =>
    if t.quads.testBit q then
      ({ s with testC := some { t with unlocked := setBit t.unlocked q, toned := false } }.relock q).updQuad q fun x =>
        { x with held := some .test }
    else s.relock q
  | none => match s.leaderOf q with
    | none => s.relock q
    | some l =>
      if l = q then (((s.endRound q 3 true).relock q).waitLock q q).showBeams
      else if (s.running l).any fun r => (gangChains r.d.gang).any s.hasDrone then
        ((s.leaveGang q).relock q).updQuad q fun x => { x with offered := true }
      else (s.relock q).waitLock l q

/-- A loss of lock while a chain of the quad carries Drone (R140, R86). -/
def State.lockLost (s : State) (q : Nat) : State :=
  let times := (s.tim.now :: (s.quad q).unlocks).filter fun t => s.tim.now - t < 400000000
  let s1 := ((s.muteQuad q).record (Reg.QSTATE_SEQ q) [(Reg.UNLOCK_COUNT q, (s.get (Reg.UNLOCK_COUNT q) + 1) % 2 ^ 32)]).latch 18
    (Reg.UNLOCK_COUNT q) ((s.get (Reg.UNLOCK_COUNT q) + 1) % 2 ^ 32)
  let s2 := s1.updQuad q fun x => { x with unlocks := times }
  let s3 := match s2.testC with
    | some t => if t.quads.testBit q then s2.rampAll.endTest .fault else s2
    | none => s2
  if 3 ≤ times.length then
    let s4 := (s3.quadOut q 3).loseQuad q 3
    (s4.updQuad q fun x => { x with unlockOut := true, unlocks := [] }).startCal q
  else match s3.running q with
    | some _ => s3.relockIn q
    | none => ((s3.leaveGang q).relock q).updQuad q fun x => { x with offered := true }

/-- SYNTH_UNLOCK (R138, R140). -/
def execSynthUnlock (q : Fin 4) (s : State) : Host.Outcome State Fault Refusal :=
  if s.get (Reg.QUAD_STATE q) = 3 || s.get (Reg.QUAD_STATE q) = 4 then
    .next (if s.quadDrone q then s.lockLost q else s.relockIn q)
  else .next s

/-- SYNTH_HOLD_TIMEOUT (R142, R143): a held request fails; one that failed while retuning is followed by a full
calibration. -/
def execSynthHoldTimeout (q : Fin 4) (s : State) : Host.Outcome State Fault Refusal :=
  let x := s.quad q
  if x.held.isNone then .next s
  else
    let s1 := s.holdFails q
    .next (if !x.calibrating && s.get (Reg.QUAD_STATE q) = 2 then s1.startCal q else s1)

/-! ### Drone (R145 to R148) -/

/-- The TEST carrier is up when Drone is at its level on every chain of it in service (R86). -/
def State.testUp (s : State) : State :=
  match s.testC with
  | none => s
  | some _ =>
    if s.get Reg.TEST_CARRIER_STATE = 1 && s.testRaised.all fun c => s.get (Reg.CHAIN_STATE c) = 2 then
      s.record Reg.TUHF_SEQ [(Reg.TEST_CARRIER_STATE, 2), (Reg.TEST_CARRIER_RESULT, 0)]
    else s

/-- DRONE_RAMP_DONE (R145). -/
def execDroneRampDone (c : Fin 16) (s : State) : Host.Outcome State Fault Refusal :=
  if s.get (Reg.CHAIN_STATE c) = 1 then .next ((s.record (Reg.CSTATE_SEQ c) [(Reg.CHAIN_STATE c, 2)]).testUp)
  else if s.get (Reg.CHAIN_STATE c) = 3 then .next (s.stopChain c (s.restState c) false)
  else .next s

/-- A mute of a chain of the TEST carrier ends it with FAULT (R86). -/
def State.testMuted (s : State) (c : Nat) : State :=
  if s.testC.isSome && (s.get Reg.TEST_CHAIN_MASK).testBit c then s.rampAll.endTest .fault else s

/-- PA_FAULT (R148). -/
def execPaFault (c : Fin 16) (temp : Bool) (s : State) : Host.Outcome State Fault Refusal :=
  let b := if temp then 1 else 0
  if 4 * Variant.quads s.variant ≤ c.val || (!s.hasDrone c && bit (s.get (Reg.CHAIN_FAULT c)) b) then .next s
  else
    let s1 := (s.faultChain c b).sendFlit (c / 4) .die 2 0
    .next (((s1.latch 25 (Reg.CHAIN_FAULT c) (s1.get (Reg.CHAIN_FAULT c))).testMuted c).beamsLost)

/-- PA_RAIL_FAULT (R147). -/
def execPaRailFault (q : Fin 4) (s : State) : Host.Outcome State Fault Refusal := .next (s.railLost q)

/-- PA_RAIL_RECOVERED (R147). -/
def execPaRailRecovered (q : Fin 4) (s : State) : Host.Outcome State Fault Refusal :=
  let s1 := (chainsOf q).foldl (fun t c =>
    if bit (t.get (Reg.CHAIN_FAULT c)) 5 then
      let u := t.record (Reg.CSTATE_SEQ c) [(Reg.CHAIN_FAULT c, clrBit (t.get (Reg.CHAIN_FAULT c)) 5)]
      u.recordIf (Reg.CSTATE_SEQ c) [(Reg.CHAIN_STATE c, u.restState c)]
    else t) (s.updQuad q fun x => { x with railBad := false })
  .next (if s1.get (Reg.QUAD_STATE q) = 5 && s1.get (Reg.QUAD_OUT_CAUSE q) = 4 then
      let s2 := s1.quadBack q 4
      if (s2.hub q).width = 0 then s2 else s2.quadUp q
    else s1)

/-! ### Reed (R151 to R156) -/

/-- A chain is excluded from receive for the rest of its dwell (R151, R156, R159, R230). -/
def State.excludeRx (s : State) (c : Nat) : State :=
  ((s.updChain c fun x => { x with excluded := true, gainDue := none }).record (Reg.CSTATE_SEQ c) [(Reg.RX_GAIN_STATE c, 2)]).beamsLost

/-- REED_LIMIT on a chain that carries Drone (R156): its weights are not converged ones. -/
def State.reedLimit (s : State) (c : Nat) : State :=
  let s1 := (s.updChain c fun x => { x with conv := false }).record (Reg.CSTATE_SEQ c)
    [(Reg.CHAIN_FAULT c, setBit (s.get (Reg.CHAIN_FAULT c)) 3)]
  let s2 := s1.record (Reg.REED_SEQ c) [(Reg.REED_LIMIT_COUNT c, (s1.get (Reg.REED_LIMIT_COUNT c) + 1) % 2 ^ 32)]
  (s2.latch 26 (Reg.REED_LIMIT_COUNT c) (s2.get (Reg.REED_LIMIT_COUNT c))).excludeRx c

/-- A weight within its ten bits. -/
def reedClamp (w : Int) : Int := max (-512) (min 511 w)

/-- A weight at full scale (R156). -/
def reedFull (w : Int) : Bool := w ≤ -512 || 511 ≤ w

/-- A chain's Reed has settled on these weights (R151); the depths achieved are free values of at least 45 dB in the analogue
stage. CHAIN_FAULT bit 3 clears; a weight at full scale is a REED_LIMIT instead (R156). -/
def State.converged (s : State) (w : ReedRes) : State :=
  let c := w.chain.val
  let a := s.draw
  let d := a.2.draw
  let s1 := d.2.record (Reg.REED_SEQ c)
    [(Reg.REED_WEIGHT_I c, ofInt 16 (reedClamp w.wi)), (Reg.REED_WEIGHT_Q c, ofInt 16 (reedClamp w.wq)),
     (Reg.REED_DEPTH_ANALOG c, 180 + a.1 % (2 ^ 15 - 180)), (Reg.REED_DEPTH_DIGITAL c, d.1 % 2 ^ 15)]
  if reedFull w.wi || reedFull w.wq then s1.reedLimit c
  else (s1.updChain c fun x => { x with conv := true }).recordIf (Reg.CSTATE_SEQ c)
    [(Reg.CHAIN_FAULT c, clrBit (s1.get (Reg.CHAIN_FAULT c)) 3)]

/-- REED_CONVERGED (R151): the first command may go once every chain that contributes has converged. -/
def execReedConverged (beam : Fin 4) (weights : List ReedRes) (s : State) : Host.Outcome State Fault Refusal :=
  match s.running beam with
  | none => .next s
  | some r =>
    let cs := s.rxChains r.d
    let got := weights.filter fun w => cs.contains w.chain.val && s.get (Reg.CHAIN_STATE w.chain) = 2
    .next ((got.foldl State.converged s).reedReady beam)

/-- REED_CONVERGE_TIMEOUT (R151): the chain is excluded from receive for the dwell. -/
def execReedConvergeTimeout (c : Fin 16) (s : State) : Host.Outcome State Fault Refusal :=
  match s.leaderOf (c.val / 4) with
  | none => .next s
  | some l => match s.running l with
    | none => .next s
    | some r =>
      .next (if r.ready || !s.hasDrone c || (s.chain c).excluded || (s.chain c).conv then s else s.excludeRx c)

/-- REED_TRACK_TICK (R154, R212): each weight moves at most one step, and none between the end of a command and the end of its
reply window; a weight at full scale is a REED_LIMIT (R156). The forward detector renews θ_fwd,c and Φ_tx,c. -/
def execReedTrackTick (c : Fin 16) (di dq : Int) (res : TrackRes) (s : State) : Host.Outcome State Fault Refusal :=
  if s.get (Reg.CHAIN_STATE c) != 2 then .next s
  else
    let held := (s.leaderOf (c.val / 4)).any s.inWindow
    let step := fun (w d : Int) => if held then w else reedClamp (w + max (-1) (min 1 d))
    let wi := step (s.i16 (Reg.REED_WEIGHT_I c)) di
    let wq := step (s.i16 (Reg.REED_WEIGHT_Q c)) dq
    let s1 := (s.record (Reg.REED_SEQ c) [(Reg.REED_WEIGHT_I c, ofInt 16 wi), (Reg.REED_WEIGHT_Q c, ofInt 16 wq)]).record
      (Reg.CSTATE_SEQ c) [(Reg.REED_RESIDUAL c, ofInt 16 res.residual)]
    let s2 := (s1.updChain c fun x => { x with fwd := res.theta }).showPhases [c.val]
    .next (if (reedFull wi || reedFull wq) && !(s.chain c).excluded then s2.reedLimit c else s2)

/-- REED_LIMIT (R156). -/
def execReedLimit (c : Fin 16) (s : State) : Host.Outcome State Fault Refusal :=
  .next (if s.hasDrone c then s.reedLimit c else s)

/-! ### The receiver (R158, R159) -/

/-- BLOCKER (R159): once per dwell and chain; under AUTO the chain goes to LOW, and one that clips on in LOW is excluded. -/
def execBlocker (c : Fin 16) (s : State) : Host.Outcome State Fault Refusal :=
  if (s.leaderOf (c.val / 4)).isNone then .next s
  else
    let n := (s.get (Reg.BLOCKER_COUNT c) + 1) % 2 ^ 32
    let s1 := if (s.chain c).blocked then s
      else ((s.record (Reg.RX_SEQ c) [(Reg.BLOCKER_COUNT c, n)]).latch 27 (Reg.BLOCKER_COUNT c) n).updChain c fun x =>
        { x with blocked := true }
    .next (if (s.chain c).excluded then s1
      else if (s.chain c).blocked && s.get (Reg.RX_GAIN_STATE c) = 1 then s1.excludeRx c
      else if s1.get (Reg.RX_GAIN_POLICY c) = 0 then s1.gainTo c 1 else s1)

/-! ### Port mismatch (R161 to R164) -/

/-- Event 24, once per dwell or TEST carrier and chain (R162). -/
def State.mismatchWarn (s : State) (c : Nat) (rl : Int) : State :=
  if (s.chain c).warned then s
  else
    ((s.updChain c fun x => { x with warned := true }).record (Reg.PORT_SEQ c)
      [(Reg.MISMATCH_COUNT c, (s.get (Reg.MISMATCH_COUNT c) + 1) % 2 ^ 32)]).latch 24 (Reg.RETURN_LOSS c) (ofInt 16 rl)

/-- A mismatch cut (R163). -/
def State.mismatchCut (s : State) (c : Nat) (rl : Int) : State :=
  let khz := s.get (Reg.SYNTH_FREQ_KHZ (c / 4))
  let s1 := ((s.faultChain c 2).sendFlit (c / 4) .die 2 0).updChain c fun x =>
    { x with cut := some (khz, s.tim.now), probes := x.probes.filter fun k => k != khz }
  let s2 := (s1.updSeed c khz fun e => { e with flags := setBit e.flags 2 }).record (Reg.PORT_SEQ c)
    [(Reg.CUT_COUNT c, (s1.get (Reg.CUT_COUNT c) + 1) % 2 ^ 32), (Reg.CUT_RUN c, min 3 (s1.get (Reg.CUT_RUN c) + 1))]
  ((s2.latch 25 (Reg.RETURN_LOSS c) (ofInt 16 rl)).testMuted c).beamsLost

/-- RETURN_LOSS_UPDATE (R161 to R163): on a chain that the return-loss sweep measures nothing acts. -/
def execReturnLossUpdate (c : Fin 16) (rl fwd : Int) (s : State) : Host.Outcome State Fault Refusal :=
  if s.get (Reg.CHAIN_STATE c) != 2 then .next s
  else
    let s1 := s.record (Reg.CSTATE_SEQ c) [(Reg.RETURN_LOSS c, ofInt 16 rl), (Reg.FWD_POWER c, ofInt 16 fwd)]
    if s.sweep.any fun w => (s.sweepChains w.only).contains c.val then .next s1
    else
      let s2 := if rl < s1.i16 (Reg.MISMATCH_WARN_RL c) then s1.mismatchWarn c rl else s1
      .next (if rl < s2.i16 (Reg.MISMATCH_CUT_RL c) then s2.mismatchCut c rl else s2)

/-- PROBE_SUCCESS (R163): the chain takes its planned level at the next round boundary. -/
def execProbeSuccess (c : Fin 16) (s : State) : Host.Outcome State Fault Refusal :=
  match (s.chain c).probing with
  | none => .next s
  | some k =>
    let s1 := s.record (Reg.CSTATE_SEQ c) [(Reg.CHAIN_FAULT c, clrBit (s.get (Reg.CHAIN_FAULT c)) 2)]
    let s2 := (s1.updSeed c k fun e => { e with flags := clrBit e.flags 2 }).record (Reg.PORT_SEQ c) [(Reg.CUT_RUN c, 0)]
    .next ((s2.updChain c fun x => { x with probing := none, cut := none, probes := x.probes.filter fun y => y != k }).showBeams)

/-! ### Calibrations (R169 to R174) -/

/-- No present quad with its link up calibrates. -/
def State.calsDone (s : State) : Bool := s.quadList.all fun q => !(s.quad q).calibrating

/-- In BOOT and in a transition to READY, the sweep follows the quads' calibration where none has run since reset
(R72, R150, Sequence 2.1 steps 10 and 11). -/
def State.calsEnded (s : State) : State :=
  let starting := (s.mode = .boot && s.sys.validConfig) || (s.mode = .hold && s.sys.trans.any fun t => t.target = .ready)
  if !starting || !s.calsDone then s
  else
    if s.sys.sweepDone || s.sweep.isSome || s.critical != 0 || s.sys.refLost then s
    else
      let s2 := s.startSweep (s.channels.map fun p => p.2.khz) none true
      if s2.sweep.isNone then { s2 with sys := { s2.sys with sweepDone := true } } else s2

/-- The chain-level results of a full calibration (R170, R173, Table 4.4): the corrections found are free values, the
image rejection at least 35 dB where its calibration passes. -/
def State.calChain (s : State) (res : CalRes) (c : Nat) : State :=
  let k := c % 4
  let bad := bit res.failOffset.toNat k || bit res.failImage.toNat k || bit res.failPower.toNat k
  let a := s.draw
  let b := a.2.draw
  let d := b.2.draw
  let rej := if bit res.failImage.toNat k then a.1 % 140 else 140 + a.1 % (2 ^ 15 - 140)
  let s1 := d.2.record (Reg.RX_SEQ c)
    [(Reg.IMAGE_REJ c, rej), (Reg.DC_OFFSET_I c, b.1 % 2 ^ 16), (Reg.DC_OFFSET_Q c, d.1 % 2 ^ 16)]
  if bad then s1.faultChain c 4
  else if bit (s1.get (Reg.CHAIN_FAULT c)) 4 then
    let s2 := s1.record (Reg.CSTATE_SEQ c) [(Reg.CHAIN_FAULT c, clrBit (s1.get (Reg.CHAIN_FAULT c)) 4)]
    (s2.record (Reg.CSTATE_SEQ c) [(Reg.CHAIN_STATE c, s2.restState c)]).updChain c fun x => { x with offered := true }
  else s1

/-- The calibrations of the last run that failed, by bit (Table 4.5). -/
def CalRes.failed (r : Sys2Proof.CalRes) : Nat :=
  ofBool r.failOsc + ofBool (r.failOffset != 0) * 2 + ofBool (r.failImage != 0) * 4 + ofBool r.failFilter * 8 +
    ofBool (r.failPower != 0) * 16

/-- A full calibration failed at quad level for the second time (R172): a held request fails at its bound. -/
def State.calFails (s : State) (q : Nat) : State :=
  let held := (s.quad q).held
  let n := (s.get (Reg.CAL_FAIL_COUNT q) + 1) % 2 ^ 32
  let s1 := s.record (Reg.QCAL_SEQ q) [(Reg.CAL_FAIL_COUNT q, n)]
  let s2 := if (s.quad q).calFailed then s1 else s1.latch 21 (Reg.CAL_FAIL_COUNT q) n
  let s3 := if s2.get (Reg.QUAD_STATE q) != 5 then (s2.quadOut q 2).loseQuad q 5
    else if s2.get (Reg.QUAD_OUT_CAUSE q) = 3 then s2.record (Reg.QSTATE_SEQ q) [(Reg.QUAD_OUT_CAUSE q, 2)] else s2
  (s3.updQuad q fun x => { x with calibrating := false, calRepeat := false, calFailed := true, held := held }).calsEnded

/-- A full calibration succeeded for the quad (R170, R172): it stands locked on the calibration frequency, or locks on
the channel asked for since (Sequence 4.2 steps 7 and 8). The time constant found is a free value (log entry 49). -/
def State.calPasses (s : State) (q : Nat) (res : CalRes) : State :=
  let x := s.quad q
  let rc := s.draw
  let s1 := (chainsOf q).foldl (fun t c => t.calChain res c) rc.2
  let s2 := (s1.quadBack q 2)
  let s3 := if x.unlockOut then s2.quadBack q 3 else s2
  let s4 := s3.updQuad q fun y => { y with
    calibrating := false, calRepeat := false, calFailed := false, dueShown := false, unlockOut := false, rc := rc.1,
    want := if y.want = 0 then y.calKhz else y.want }
  let onIt := x.want = 0 || x.want = x.calKhz
  let out := s4.get (Reg.QUAD_STATE q) = 5
  let s5 := s4.record (Reg.QSTATE_SEQ q)
    [(Reg.QUAD_STATE q, if out then 5 else if onIt then 3 else 2), (Reg.SYNTH_FREQ_KHZ q, if onIt && !out then x.calKhz else 0),
     (Reg.CAL_TEMP q, ofInt 16 res.temp), (Reg.CAL_TIME q, s4.tim.now)]
  let n := (s5.get (Reg.CAL_COUNT q) + 1) % 2 ^ 32
  let s6 := ((s5.record (Reg.QCAL_SEQ q) [(Reg.CAL_COUNT q, n)]).latch 19 (Reg.CAL_COUNT q) n).showBeams
  let s7 := if out || !onIt then s6 else ((chainsOf q).foldl (State.loadSeed · x.calKhz) s6).quadLocked q
  s7.calsEnded

/-- FULL_CAL_DONE (R170, R172, R173). -/
def execFullCalDone (q : Fin 4) (res : CalRes) (s : State) : Host.Outcome State Fault Refusal :=
  if !(s.quad q).calibrating then .next s
  else
    let f := CalRes.failed res
    let s1 := s.record (Reg.QCAL_SEQ q)
      [(Reg.CAL_LAST_SET q, 0x1F), (Reg.CAL_LAST_FAILED q, f),
       (Reg.CAL_LAST_RESULT q, Result.code (if f = 0 then .ok else .fault)), (Reg.CAL_LAST_DURATION q, res.durUs % 2 ^ 32)]
    if res.failOsc || res.failFilter then
      if (s.quad q).calRepeat then .next (s1.calFails q)
      else .next (s1.updQuad q fun x => { x with calRepeat := true })
    else .next (s1.calPasses q res)

/-- CAL_RETRY_TIMER (R172): in HOLD and WATCH the repeat waits for the next transition. -/
def execCalRetryTimer (q : Fin 4) (s : State) : Host.Outcome State Fault Refusal :=
  if s.get (Reg.QUAD_STATE q) != 5 || s.get (Reg.QUAD_OUT_CAUSE q) != 2 || (s.quad q).calibrating then .next s
  else if (s.mode = .ready || s.mode = .run || s.mode = .test) && (s.hub q).width != 0 && !s.sys.refLost then
    .next ((s.startCal q).updQuad q fun x => { x with calRepeat := true })
  else .next (s.updQuad q fun x => { x with calDue := true })

/-- A full calibration starts outside a dwell; the TEST carrier's quad locks again after it. -/
def State.calNow (s : State) (q : Nat) : State :=
  let s1 := match s.testC with
    | some t => if t.quads.testBit q then { s with testC := some { t with unlocked := setBit t.unlocked q } } else s
    | none => s
  if (s1.quad q).calibrating then s1 else s1.startCal q

/-- A write of CAL_REQUEST (R174): in a dwell of RUN the calibration waits for the round boundary (R171). -/
def State.calRequest (s : State) (q v : Nat) : Result × State :=
  checks [(decide (Variant.quads s.variant ≤ q), .noObject), (v != 1, .range), (s.mode = .hold, .mode)]
    (fun t => if (t.hub q).width = 0 || (t.mode = .run && (t.leaderOf q).isSome) then t.updQuad q fun x => { x with calDue := true }
      else t.calNow q) s

/-- CAL_REQUEST (R174). -/
def execCalRequest (l : Link) (q : Fin 4) (s : State) : Host.Outcome State Fault Refusal :=
  .next (s.request l false fun t => t.calRequest q 1)

/-- A write of REED_RESEED (R175). -/
def State.reedReseed (s : State) (c v : Nat) : Result × State :=
  checks [(decide (4 * Variant.quads s.variant ≤ c), .noObject), (v != 1, .range), (!(s.mode = .ready || s.mode = .test), .mode)]
    (fun t => match t.sweep with
      | some w => if w.only = some c || w.queue.contains c then t
        else { t with sweep := some { w with queue := w.queue ++ [c] } }
      | none => t.sweepQueued [c]) s

/-- REED_RESEED (R175). -/
def execReedReseed (l : Link) (c : Fin 16) (s : State) : Host.Outcome State Fault Refusal :=
  .next (s.request l false fun t => t.reedReseed c 1)

/-- A write of CHAIN_FAULT_CLEAR (R179); a fault of the PA rail that persists is raised again (R147). -/
def State.chainFaultClear (s : State) (c v : Nat) : Result × State :=
  checks [(decide (4 * Variant.quads s.variant ≤ c), .noObject), (v != 1, .range)]
    (fun t =>
      let st := t.get (Reg.CHAIN_STATE c)
      let s1 := t.record (Reg.CSTATE_SEQ c) [(Reg.CHAIN_FAULT c, 0), (Reg.CHAIN_STATE c, if st = 5 then 0 else st)]
      let s2 := (s1.record (Reg.PORT_SEQ c) [(Reg.CUT_RUN c, 0)]).updChain c fun x => { x with offered := true }
      if (s2.quad (c / 4)).railBad then
        (s2.record (Reg.CSTATE_SEQ c) [(Reg.CHAIN_FAULT c, 32), (Reg.CHAIN_STATE c, 5)]).latchAs false 2 11
          (Reg.V_PA_MV (c / 4)) (s2.get (Reg.V_PA_MV (c / 4)))
      else s2) s

/-- CHAIN_FAULT_CLEAR (R179). -/
def execChainFaultClear (l : Link) (c : Fin 16) (s : State) : Host.Outcome State Fault Refusal :=
  .next (s.request l false fun t => t.chainFaultClear c 1)

/-! ### The return-loss sweep (R150, R164, R207) -/

/-- One chain's result on a swept channel (R150, R164); no reading puts the chain OUT (Table 4.4). Its capture gives κ_c and
θ_fwd,c (R217, R218). -/
def State.sweptChain (s : State) (khz : Nat) (results : List SweepRes) (c : Nat) : State :=
  let s0 := (s.stopChain c (s.restState c) false).updChain c fun x => { x with captured := 16384 }
  match (results.find? fun r => r.chain.val = c).bind fun r => r.rl.map fun x => (r, x) with
  | none =>
    let s1 := s0.faultChain c 4
    { s1 with sweep := s1.sweep.map fun w => { w with bad := setBit w.bad c } }
  | some (r, rl) =>
    let bad := rl < s0.i16 (Reg.MISMATCH_CUT_RL c)
    let s1 := s0.updSeed c khz fun e =>
      { e with wi := reedClamp r.wi, wq := reedClamp r.wq, rl := ofInt 16 rl, flags := putBit (setBit e.flags 0) 2 bad }
    let s2 := s1.updChain c fun x => { x with
      phases := Tab.upd x.phases khz fun p => { p with kappa := some r.kappa, sweepFwd := some r.fwd } }
    let old := s2.get (Reg.SWEEP_MIN_RL c)
    s2.record (Reg.PORT_SEQ c)
      [(Reg.SWEEP_MIN_RL c, if old = noValue then ofInt 16 rl else ofInt 16 (min (toInt 16 old) rl))]

/-- The loss I_kc in 0.25 dB (R207): a reading weaker than −90 dBm, and none at all, count as 80 dB. -/
def isoLoss (iso : List IsoMeas) (k c : Nat) : Int :=
  match iso.find? fun m => m.src.val = k && m.dst.val = c with
  | some m => if m.level < -360 then 320 else -40 - m.level
  | none => 320

/-- ISO_ij of an amplitude Σ_k 10^(−I_kc/20), in 0.25 dB to nearest: −20·log10, by squares of `ten80`. -/
def isoOf (a : Nat) : Int :=
  match (List.range 480).find? fun (n : Nat) => ten80 (-(2 * ((n : Int) - 120) + 1)) * ten80 0 ≤ a * a with
  | some n => (n : Int) - 120
  | none => 360

/-- ISO_ij (R207): the least over the chains of quad `j`, that is the greatest sum of amplitudes over the chains of `i`. -/
def isoPair (iso : List IsoMeas) (i j : Nat) : Int :=
  isoOf (((chainsOf j).map fun c => ((chainsOf i).map fun k => ten80 (-(isoLoss iso k c))).sum).foldl max 0)

/-- The isolation is computed and stored (R207, Table 6.8); a pair with an absent quad, of one quad, or of which a quad has no
chain in the sweep has none. -/
def State.storeIso (s : State) (swept : List Nat) (iso : List IsoMeas) : State :=
  let on := fun q => swept.any fun c => c / 4 = q
  let vals := (List.range 16).map fun k =>
    (Reg.ISOLATION k, if k / 4 != k % 4 && on (k / 4) && on (k % 4) then ofInt 16 (isoPair iso (k / 4) (k % 4)) else noValue)
  (s.record Reg.ISO_SEQ vals).record Reg.ASTATE_SEQ [(Reg.ISO_TIME, s.tim.now)]

/-- The sweep has ended: each quad's last calibrations (Table 4.5), and the reseeds that wait; in HOLD the synthesisers go off
again (Table 2.1). -/
def State.sweepEnds (s : State) (w : Sweep) : State :=
  let qs := match w.only with
    | some c => [c / 4]
    | none => s.quadList
  let s1 := qs.foldl (fun t q =>
    let f := (chainsOf q).any fun c => w.bad.testBit c
    (t.record (Reg.QCAL_SEQ q)
      [(Reg.CAL_LAST_SET q, 0x40), (Reg.CAL_LAST_FAILED q, if f then 0x40 else 0),
       (Reg.CAL_LAST_RESULT q, Result.code (if f then .fault else .ok)),
       (Reg.CAL_LAST_DURATION q, (t.tim.now - w.began) / 40 % 2 ^ 32)])) s
  let s2 := if w.only.isNone then { s1 with sys := { s1.sys with sweepDone := true } } else s1
  let s3 := s2.sweepQueued w.queue
  if s3.mode = .hold && s3.sweep.isNone && !(s3.sys.trans.any fun t => t.target = .ready) then s3.quadsOff else s3

/-- SWEEP_CHANNEL_DONE (R150, R164, R207). -/
def execSweepChannelDone (results : List SweepRes) (iso : List IsoMeas) (s : State) : Host.Outcome State Fault Refusal :=
  match s.sweep with
  | none => .next s
  | some w =>
    match w.left with
    | [] => .next { s with sweep := none }
    | k :: rest =>
      let swept := s.sweepChains w.only
      let s1 := swept.foldl (fun t c => t.sweptChain k results c) s
      let s2 := if w.iso && k = s1.lowestKhz && 1 < Variant.quads s1.variant then s1.storeIso swept iso else s1
      let w1 := (s2.sweep).getD w
      let s3 := s2.sweepNext w1 rest
      .next (if s3.sweep.isNone then s3.sweepEnds w1 else s3)

end Sys2Proof.Machine
end

