-- ==== Sys2Proof/Machine/Validate.lean ====
section
/-! DEFINITION. Configurations (chapter 3): images (R125), the canonical form and CONFIG_CRC, the stages of validation (R106,
Table 3.6) with the cross-object rules of every chapter, and the settled timings of a profile (R252 to R256). -/

namespace Sys2Proof.Machine

/-! ### Configuration objects -/

/-- An object that a configuration holds: access RWS or LOCK. -/
def isConfig (k : Nat) : Bool :=
  match Dict.find k with
  | some f => f.row.acc = .rws || f.row.acc = .lock
  | none => false

/-- A LOCK object. -/
def isLock (k : Nat) : Bool :=
  match Dict.find k with
  | some f => f.row.acc = .lock
  | none => false

/-- The addresses of a group's configuration objects in a variant. -/
def ObjGroup.configKeys (v : Sys2Proof.Variant) (g : ObjGroup) : List Nat :=
  (List.range g.count).flatMap fun c => g.rows.flatMap fun r => (List.range r.n).filterMap fun p =>
    if (r.acc = .rws || r.acc = .lock) && (Found.present v .hold ⟨g, c, r, p⟩) then
      some ((g.idx + g.stride * c) * 256 + r.sub + p) else none

/-- The addresses of every configuration object of a variant, ascending. -/
def configKeys (v : Sys2Proof.Variant) : List Nat :=
  sortBy (fun a b => a ≤ b) (objGroups.flatMap (ObjGroup.configKeys v))

/-- The bytes of an object's value. -/
def State.valueBytes (s : State) (k : Nat) : Bytes :=
  match Dict.find k with
  | none => []
  | some f => if f.row.ty.isBlock then s.dom k else leBytes ((f.row.ty.size).getD 0) (s.get k)

/-- An object's value takes bytes. -/
def State.setBytes (s : State) (k : Nat) (b : Bytes) : State :=
  match Dict.find k with
  | none => s
  | some f => if f.row.ty.isBlock then s.putDom k b else s.put k (leNat b)

/-- A signed object's value, by its type. -/
def State.int (s : State) (k : Nat) : Int :=
  match Dict.find k with
  | none => 0
  | some f => f.row.ty.value (s.get k)

/-- The regulatory lock has been fired (R197): LOCK objects hold their OTP values. -/
def State.regLocked (s : State) : Bool := s.get Reg.LOCK_STATE = 2

/-- The owner lock is set (R530). -/
def State.ownerLocked (s : State) : Bool := s.get Reg.OWNER_LOCK = 1

/-- Every configuration object at its default, but LOCK objects under the regulatory lock (R120, R125). -/
def State.configDefaults (s : State) : State :=
  let keep := fun k => !isConfig k || (isLock k && s.regLocked)
  { s with regs := s.regs.filter fun p => keep p.1, doms := s.doms.filter fun p => keep p.1 }

/-! ### The staged set (R97, R100) -/

/-- Bytes of value in the staged set. -/
def State.stagedBytes (s : State) : Nat := (s.cfg.staged.map fun p => p.2.length).sum

/-- A staged value fits the limits of R100. -/
def State.canStage (s : State) (k : Nat) (b : Bytes) : Bool :=
  let t := Tab.put s.cfg.staged k b
  t.length ≤ 4096 && (t.map fun p => p.2.length).sum ≤ 262144

/-- The value staged for the object that PEEK_ADDRESS names (Table 3.7). -/
def State.peek (s : State) : Option Bytes := Tab.find s.cfg.staged (s.get Reg.PEEK_ADDRESS)

/-- The staged set replaced; where PEEK_STATE and PEEK_VALUE follow it, that is one update of their group (R129). -/
def State.restage (s : State) (staged : DomStore) (by_ : Tab Link) : State :=
  let t := { s with cfg := { s.cfg with staged := staged, stagedBy := by_ } }
  if t.peek = s.peek then t else t.seq Reg.PEEK_SEQ

/-- A value enters the staged set, replacing an earlier one of the same object (R97); `l`: the link that stages it. -/
def State.stagePut (s : State) (l : Option Link) (k : Nat) (b : Bytes) : State :=
  s.restage (Tab.put s.cfg.staged k b) (match l with | some l => Tab.put s.cfg.stagedBy k l | none => Tab.del s.cfg.stagedBy k)

/-! ### Images (R125) -/

/-- An entry of an image, padded to a multiple of 4 bytes. -/
def entryBytes (k : Nat) (b : Bytes) : Bytes :=
  let e := leBytes 2 (k / 256) ++ leBytes 1 (k % 256) ++ [0#8] ++ leBytes 2 b.length ++ b
  e ++ List.replicate ((4 - e.length % 4) % 4) 0#8

/-- The header, entries and CRC of an unsigned image. -/
def imageOf (flags dies count : Nat) (entries : Bytes) : Bytes :=
  let body := leBytes 4 0x49435653 ++ leBytes 2 1 ++ leBytes 2 flags ++ leBytes 4 (36 + entries.length) ++ leBytes 4 count ++
    leBytes 2 Config.odVersion.toNat ++ leBytes 1 dies ++ List.replicate 13 0#8 ++ entries
  body ++ leBytes 4 (crc32 body)

/-- The canonical full-image form of the configuration in force (R125). -/
def State.canonical (s : State) : Bytes :=
  let ks := configKeys s.variant
  imageOf 2 (Variant.dieMask s.variant) ks.length (ks.flatMap fun k => entryBytes k (s.valueBytes k))

/-- CONFIG_CRC: the value of the canonical form's CRC field. -/
def State.configCrc (s : State) : Nat :=
  let i := s.canonical
  field i (i.length - 4) 4

/-- What an image's header gives. -/
structure Header where
  signed : Bool
  full : Bool
  count : Nat
  deriving DecidableEq, Repr

/-- The header of an image, when its fields are valid for the part (stage 1). -/
def header (v : Sys2Proof.Variant) (b : Bytes) : Option Header :=
  let flags := field b 6 2
  if 36 ≤ b.length && field b 0 4 = 0x49435653 && field b 4 2 = 1 && flags < 4 && field b 8 4 = b.length &&
      field b 16 2 / 256 = Config.odVersion.toNat / 256 && field b 18 1 &&& Variant.dieMask v = field b 18 1 &&
      (slice b 19 13).all (· = 0#8)
  then some ⟨bit flags 0, bit flags 1, field b 12 4⟩ else none

/-- The entries of an image from an offset: addresses with values, strictly ascending, and the offset after them. -/
def imageEntries (b : Bytes) (end_ : Nat) : Nat → Nat → Option Nat → Option (List (Nat × Bytes) × Nat)
  | 0, o, _ => some ([], o)
  | n + 1, o, last =>
    let k := field b o 2 * 256 + field b (o + 2) 1
    let len := field b (o + 4) 2
    let next := o + (6 + len + 3) / 4 * 4
    if next ≤ end_ && field b (o + 3) 1 = 0 && (slice b (o + 6 + len) (next - (o + 6 + len))).all (· = 0#8) &&
        (match last with | some l => l < k | none => true) then
      match imageEntries b end_ n next (some k) with
      | some (r, e) => some ((k, slice b (o + 6) len) :: r, e)
      | none => none
    else none

/-- The length of a signature block (R126). -/
def signatureLength : Nat := 3344

/-- An image parsed: header, entries, and the offset of its CRC field; `none` when stage 1 fails. -/
def parseImage (v : Sys2Proof.Variant) (b : Bytes) : Option (Header × DomStore × Nat) :=
  match header v b with
  | none => none
  | some h =>
    let tail := if h.signed then signatureLength + 4 else 4
    if b.length < 32 + tail || b.length / 8 < h.count then none
    else match imageEntries b (b.length - tail) h.count 32 none with
      | some (es, e) => if e + tail = b.length then some (h, es, e) else none
      | none => none

/-! ### The signature block (R518, R531; chapter 16)

Its layout is that of chapter 16: PURPOSE, KEY_ID, EPOCH or SVN, and the signature over the signed bytes. -/

/-- EPOCH of a signature block: bytes 16 to 19 (Table 16.2). -/
def blockEpoch (blk : Bytes) : Nat := field blk 16 4

/-! ### Stage 4 -/

/-- One entry of a commit (stage 4): `none` when it passes. -/
def State.entryFails (s : State) (k : Nat) (b : Bytes) : Option Result :=
  match Dict.find k with
  | none => some .noObject
  | some f =>
    if !f.present s.variant s.mode then some .noObject
    else if f.row.acc != .rws && f.row.acc != .lock then some .denied
    else if f.row.acc = .lock && s.regLocked then (if s.valueBytes k = b then none else some .denied)
    else if k = Reg.REGION_ID && b.length = 1 && (Region.ofId (leNat b)).isNone then some .range
    else if !f.writeOk s.variant b then some .range
    else if k = Reg.WAKE_SOURCES && bit (leNat b) 0 && !Variant.hx s.variant then some .configInvalid
    else none

/-- The first entry of a commit that fails stage 4. -/
def State.firstBad (s : State) : DomStore → Option (Nat × Result)
  | [] => none
  | (k, b) :: r => match s.entryFails k b with
    | some e => some (k, e)
    | none => s.firstBad r

/-! ### Stage 5: the rules that relate objects, over the configuration that would result (R107) -/

/-- A rule broken: the object named, the lowest-addressed other one in the rule (0 for none), and the result. -/
structure Broken where
  key : Nat
  other : Nat
  why : Result
  deriving DecidableEq, Repr

/-- A rule over some objects that fails with CONFIG_INVALID when `b` holds, and the object it is reported at: the one its text
names, or where the text names none the one it binds (log entry 13). -/
def broken (b : Bool) (key : Nat) (objs : List Nat) : List Broken :=
  if b then [⟨key, (objs.filter fun k => k != key).min?.getD 0, .configInvalid⟩] else []

/-- Chapter 4: R165. -/
def State.chainRules (c : State) : List Broken :=
  c.chainList.flatMap fun n =>
    broken (c.i16 (Reg.MISMATCH_WARN_RL n) - 4 < c.i16 (Reg.MISMATCH_CUT_RL n)) (Reg.MISMATCH_CUT_RL n) [Reg.MISMATCH_WARN_RL n]

/-- Chapter 5: R195, R196. R195 names no object for a list below MIN_CHANNELS: it is reported at CHANNEL_MASK (log entry 13). -/
def State.regionRules (c : State) : List Broken :=
  let top := c.channels.foldl (fun (m : Option Int) p => some ((m.map fun x => max x p.2.eirp).getD p.2.eirp)) none
  let enabled := c.chainList.filter fun n => c.get (Reg.CHAIN_ENABLE n) = 1
  let bare := fun (e : ChanEntry) (q : Nat) =>
    c.within e (((chainsOf q).filter fun n => c.get (Reg.CHAIN_ENABLE n) = 1).map fun n => (n, -40))
  broken (c.get Reg.REGION_ID = 0 && !c.enabledZones.isEmpty) Reg.REGION_ID [Reg.ZONE_ENABLE (c.enabledZones.headD 0)] ++
  (if c.region.hop && c.channels.length < c.region.minChannels then
    [⟨Reg.CHANNEL_MASK, Reg.REGION_ID, .regulatory⟩] else []) ++
  (match top with
   | none => []
   | some t => (enabled.filter fun n =>
      t - c.i16 Reg.REG_MARGIN < c.i16 (Reg.TX_POWER_MAX n) - c.i16 (Reg.CABLE_LOSS n) + c.i16 (Reg.ANT_GAIN n)).map fun n =>
        ⟨Reg.TX_POWER_MAX n, Reg.ANT_GAIN n, .regulatory⟩) ++
  c.enabledZones.filterMap fun z =>
    let chans := c.zoneChannels z
    let pin := c.get (Reg.ZONE_LEADER z) != 0xFF
    let qs := if pin then [c.get (Reg.ZONE_LEADER z)] else c.quadList
    if !chans.isEmpty && qs.all fun q => chans.all fun p => !bare p.2 q then
      some ⟨if pin then Reg.ZONE_LEADER z else Reg.ZONE_CHANNEL_MASK z, Reg.REGION_ID, .regulatory⟩
    else none

/-- A direction within STEER_LIMIT (R227). -/
def State.steerable (c : State) (k : Nat) : Bool := (c.i16 k).natAbs ≤ c.get Reg.STEER_LIMIT

/-- Chapter 6: R227. -/
def State.arrayRules (c : State) : List Broken :=
  let enabled := c.chainList.filter fun n => c.get (Reg.CHAIN_ENABLE n) = 1
  let near := fun (a b : Nat) =>
    let dx := c.i16 (Reg.ELEMENT_X a) - c.i16 (Reg.ELEMENT_X b)
    let dy := c.i16 (Reg.ELEMENT_Y a) - c.i16 (Reg.ELEMENT_Y b)
    dx * dx + dy * dy < 250000
  (enabled.flatMap fun a => enabled.flatMap fun b => broken (a < b && near a b) (Reg.ELEMENT_X a)
    [Reg.CHAIN_ENABLE a, Reg.CHAIN_ENABLE b, Reg.ELEMENT_X b, Reg.ELEMENT_Y a, Reg.ELEMENT_Y b]) ++
  (List.range 32).flatMap fun z =>
    let rx := if c.get (Reg.ZONE_RX_MODE z) = 1 then List.range (c.get (Reg.ZONE_RX_COUNT z)) else []
    ([Reg.ZONE_TX_AZ z, Reg.ZONE_TX_EL z] ++ rx.map (Reg.ZONE_RX_AZ z) ++ rx.map (Reg.ZONE_RX_EL z)).flatMap fun k =>
      broken (!c.steerable k) k [Reg.STEER_LIMIT]

/-- The relations of R250 for a profile. -/
def State.profileRules (c : State) (p : Nat) : List Broken :=
  let blf := c.get (Reg.BLF_KHZ p)
  let dr := c.get (Reg.DR p)
  let tari := c.get (Reg.TARI_NS p)
  -- RTcal in 1/100 ns, TRcal in 1/100 ns·(3·BLF)
  let rt := tari * (100 + c.get (Reg.DATA1_RATIO p))
  let tr := if dr = 1 then 64 * 100000000 else 24 * 100000000
  let sel := c.get (Reg.SELECT_MASK p)
  broken (c.get (Reg.Q0 p) < c.get (Reg.QMIN p) || c.get (Reg.QMAX p) < c.get (Reg.Q0 p)) (Reg.Q0 p) [Reg.QMIN p, Reg.QMAX p] ++
  broken (if dr = 1 then blf < 107 || 640 < blf else blf < 40 || 320 < blf) (Reg.DR p) [Reg.BLF_KHZ p] ++
  broken (10 * tr < 11 * rt * 3 * blf || 3 * rt * 3 * blf < tr) (Reg.TARI_NS p)
    [Reg.DATA1_RATIO p, Reg.DR p, Reg.BLF_KHZ p] ++
  broken (c.get (Reg.PW_RATIO p) * tari < 200000) (Reg.TARI_NS p) [Reg.PW_RATIO p] ++
  broken ((bitsOf 16 sel).any fun e => c.get (Reg.SEL_ENABLE e) != 1) (Reg.SELECT_MASK p)
    [Reg.SEL_ENABLE (((bitsOf 16 sel).find? fun e => c.get (Reg.SEL_ENABLE e) != 1).getD 0)] ++
  broken (c.get (Reg.CHALLENGE p) = 1 && (c.dom Reg.CHALLENGE_MSG).isEmpty) (Reg.CHALLENGE p) [Reg.CHALLENGE_MSG]

/-- Chapter 7: R250, R265. The mask's first bit is bit 7 of byte 0. -/
def State.airRules (c : State) : List Broken :=
  (List.range 8).flatMap c.profileRules ++
  (List.range 16).flatMap fun e =>
    let m := c.dom (Reg.SEL_MASK e)
    let set := (List.range 256).any fun i => c.get (Reg.SEL_LENGTH e) ≤ i && (m.getD (i / 8) 0).toNat.testBit (7 - i % 8)
    broken set (Reg.SEL_MASK e) [Reg.SEL_LENGTH e]

/-- Twice the signed area of a polygon. -/
def area2 (p : List (Int × Int)) : Int := ((edges p).map fun e => e.1.1 * e.2.2 - e.2.1 * e.1.2).sum

/-- A convex counter-clockwise polygon of at least 1 m² (R292): every vertex lies left of, or on, every edge, and no edge has
length 0. -/
def goodLane (p : List (Int × Int)) : Bool :=
  ((edges p).all fun e => e.1 != e.2 && p.all fun v => 0 ≤ turn e.1 e.2 v) && 2000000 ≤ area2 p

/-- Two convex polygons share no area: an edge of one has the other wholly on its outer side. -/
def apart (p q : List (Int × Int)) : Bool :=
  ((edges p).any fun e => q.all fun v => turn e.1 e.2 v ≤ 0) || (edges q).any fun e => p.all fun v => turn e.1 e.2 v ≤ 0

/-- Chapter 8: R292, while LOC_ENABLE is 1. -/
def State.laneRules (c : State) : List Broken :=
  if c.get Reg.LOC_ENABLE != 1 then []
  else
    let ls := (List.range 16).filter fun l => c.get (Reg.LANE_ENABLE l) = 1
    let corners := fun (l : Nat) => [Reg.LOC_ENABLE, Reg.LANE_ENABLE l] ++ (List.range 8).map fun i => Reg.LANE_X0 l + i
    (ls.flatMap fun l => broken (!goodLane (c.lane l)) (Reg.LANE_X0 l) (corners l)) ++
    (ls.flatMap fun a => ls.flatMap fun b =>
      broken (a < b && goodLane (c.lane a) && goodLane (c.lane b) && !apart (c.lane a) (c.lane b)) (Reg.LANE_X0 a)
        (corners a ++ corners b)) ++
    (List.range 8).flatMap fun k =>
      let used := c.get (Reg.CLASS_ENABLE k) = 1 || c.get Reg.DEFAULT_CLASS = k
      broken (used && c.i32 Reg.MOUNT_HEIGHT < c.i32 (Reg.CLASS_HEIGHT k) + 500) (Reg.CLASS_HEIGHT k)
        [Reg.LOC_ENABLE, Reg.MOUNT_HEIGHT] ++
      broken (c.get (Reg.CLASS_PREFIX k) % 2 ^ (32 - c.get (Reg.CLASS_PREFIX_LEN k)) != 0) (Reg.CLASS_PREFIX k)
        [Reg.LOC_ENABLE, Reg.CLASS_PREFIX_LEN k]

/-- Channels, one per chosen zone and all distinct, that meet the spectral rule pairwise (R330). -/
def State.placeable (c : State) : List Nat → List (Nat × Nat) → Bool
  | [], _ => true
  | z :: r, taken =>
    let p := c.get (Reg.ZONE_PROFILE z)
    (c.zoneChannels z).any fun e =>
      (taken.all fun t => c.spectral e.2.khz p t.1 t.2) && c.placeable r ((e.2.khz, p) :: taken)

/-- Every choice of one zone from each group that holds one. -/
def choices : List (List Nat) → List (List Nat)
  | [] => [[]]
  | g :: r => g.flatMap fun z => (choices r).map fun t => z :: t

/-- Chapter 9: R308, R328, R330, R584 and DWELL_MAX_MS. R330 names no stage for a PIN_CONCURRENCY above the present quads, or
for a PIN_QUAD_OUT that leaves none: both are judged here, with its other case (log entry 13). The committed channel list is
that of REGION_ID and CHANNEL_MASK (R184). -/
def State.valveRules (c : State) : List Broken :=
  let chans := c.channels.map (·.1)
  let pinOut := c.get Reg.PIN_QUAD_OUT
  let k := c.get Reg.PIN_CONCURRENCY
  let gs := groupsAt (Variant.quads c.variant) k
  let az := c.assignZones (fun z => 16 * c.get (Reg.ZONE_WEIGHT z)) gs c.enabledZones
  let held := ((List.range gs.length).map fun i => (az.filter fun p => p.2 = i).map (·.1)).filter fun g => !g.isEmpty
  let ready := match c.variant with | .sv21 => 950 | .sv31 => 1000 | .sv62 => 1750 | .sv74 => 2300 | .sv84 => 2350
  broken (c.get Reg.DWELL_MAX_MS < c.get Reg.DWELL_MIN_MS) Reg.DWELL_MAX_MS [Reg.DWELL_MIN_MS] ++
  broken (c.pStatic < ready) Reg.THETA_JA [Reg.POWER_CAP_MW, Reg.AMBIENT_MAX] ++
  broken (c.get Reg.STAGGER_ENABLE = 1 && c.get Reg.STAGGER_TIMER_BASE ≤ c.get Reg.WAKE_TIMER &&
    c.get Reg.WAKE_TIMER < c.get Reg.STAGGER_TIMER_BASE + 4) Reg.WAKE_TIMER
    [Reg.STAGGER_ENABLE, Reg.STAGGER_TIMER_BASE] ++
  broken (Variant.quads c.variant < k) Reg.PIN_CONCURRENCY [] ++
  broken (1 < k && k ≤ Variant.quads c.variant && (choices held).any fun l => !c.placeable l []) Reg.PIN_CONCURRENCY
    [Reg.REGION_ID, Reg.CHANNEL_MASK] ++
  broken (!c.enabledZones.isEmpty && c.quadList.all fun q => pinOut.testBit q) Reg.PIN_QUAD_OUT
    [Reg.ZONE_ENABLE (c.enabledZones.headD 0)] ++
  c.enabledZones.flatMap fun z =>
    let m := c.get (Reg.ZONE_CHANNEL_MASK z)
    let lead := c.get (Reg.ZONE_LEADER z)
    let bad := c.profileRules (c.get (Reg.ZONE_PROFILE z))
    broken (!chans.any fun n => m.testBit n) (Reg.ZONE_CHANNEL_MASK z) [Reg.REGION_ID, Reg.CHANNEL_MASK] ++
    broken (c.region.hop && !chans.all fun n => m.testBit n) (Reg.ZONE_CHANNEL_MASK z) [Reg.REGION_ID, Reg.CHANNEL_MASK] ++
    broken (c.get (Reg.ZONE_RX_MODE z) = 2 && c.get (Reg.ZONE_RX_COUNT z) != 1) (Reg.ZONE_RX_MODE z)
      [Reg.ZONE_ENABLE z, Reg.ZONE_RX_COUNT z] ++
    broken (lead != 0xFF && Variant.quads c.variant ≤ lead) (Reg.ZONE_LEADER z) [Reg.ZONE_ENABLE z] ++
    broken (!bad.isEmpty) (Reg.ZONE_PROFILE z) (Reg.ZONE_ENABLE z :: (bad.take 1).flatMap fun b => [b.key, b.other])

/-- Chapter 10: R345. -/
def State.streamRules (c : State) : List Broken :=
  let on := c.enabledStreams
  (on.flatMap fun i => on.flatMap fun j =>
    broken (i < j && c.get (Reg.STREAM_LINK i) = c.get (Reg.STREAM_LINK j)) (Reg.STREAM_LINK i)
      [Reg.STREAM_ENABLE i, Reg.STREAM_ENABLE j, Reg.STREAM_LINK j]) ++
  (on.flatMap fun i => broken (c.get (Reg.STREAM_LINK i) = 0) (Reg.STREAM_LINK i) [Reg.STREAM_ENABLE i]) ++
  ((List.range 3).flatMap fun i =>
    broken (c.get (Reg.TIER_MAX i) < c.get (Reg.TIER_BASE i)) (Reg.TIER_BASE i) [Reg.TIER_MAX i] ++
    broken (c.get (Reg.ESC_HIGH i) ≤ c.get (Reg.ESC_LOW i)) (Reg.ESC_LOW i) [Reg.ESC_HIGH i] ++
    broken (on.contains i && c.sqShare < 2 * c.get (Reg.ESC_HIGH i)) (Reg.ESC_HIGH i)
      ((List.range 3).map Reg.STREAM_ENABLE)) ++
  broken (Variant.big c.variant && c.get Reg.RING_MIB < c.get Reg.HOT_RING_MIB + 256) Reg.HOT_RING_MIB [Reg.RING_MIB]

/-- Chapter 12: R424. -/
def State.hfRules (c : State) : List Broken :=
  if !Variant.hx c.variant then []
  else broken (bit (c.get Reg.WAKE_SOURCES) 0 && c.get Reg.HF_ENABLE = 0) Reg.WAKE_SOURCES [Reg.HF_ENABLE] ++
    broken (clrMask (c.get Reg.BREATH_CONFIRM_TECH) (c.get Reg.HF_TECH_MASK) != 0) Reg.BREATH_CONFIRM_TECH [Reg.HF_TECH_MASK]

/-- The length in bits that a mapping entry of an object has; `none` where the object cannot be mapped (R458). -/
def mapBits (v : Sys2Proof.Variant) (k : Nat) : Option Nat :=
  match Dict.find k with
  | none => none
  | some f => if !f.present v .hold then none else match f.row.ty with
    | .dom _ => none
    | t => match t.size with
      | some n => if t.isBlock && 8 < n then none else some (8 * n)
      | none => none

/-- A mapping's entries are of mappable objects at their type's length (R458). -/
def mapsGood (v : Sys2Proof.Variant) (e : Nat) : Bool := mapBits v (e / 256) = some (e % 256)

/-- An object that an RPDO may map: access RW or WO (R458). -/
def rpdoMaps (e : Nat) : Bool :=
  match Dict.find (e / 256) with
  | some f => f.row.acc = .rw || f.row.acc = .wo
  | none => false

/-- Kilobits per second of the codes of Table 13.8. -/
def nominalRate : Nat → Nat
  | 0 => 125 | 1 => 250 | 2 => 500 | _ => 1000
def dataRate : Nat → Nat
  | 1 => 1000 | 2 => 2000 | 3 => 4000 | _ => 5000

/-- Chapter 13: R451, R458, R465. -/
def State.canRules (c : State) : List Broken :=
  let v := c.variant
  let tmap := fun n => (List.range (c.get (Reg.TPDO_MAP_COUNT n))).map fun k => c.get (Reg.TPDO_MAP n k)
  let rmap := fun n => (List.range (c.get (Reg.RPDO_MAP_COUNT n))).map fun k => c.get (Reg.RPDO_MAP n k)
  let total := fun (l : List Nat) => (l.map fun e => e % 256).sum
  broken (c.get Reg.CAN_DATA_RATE != 0 && dataRate (c.get Reg.CAN_DATA_RATE) < nominalRate (c.get Reg.CAN_NOMINAL_RATE))
    Reg.CAN_DATA_RATE [Reg.CAN_NOMINAL_RATE] ++
  broken (bit (c.get Reg.COB_ID_TIME) 30) Reg.COB_ID_TIME [] ++
  broken (c.get (Reg.TPDO_MAP_COUNT 0) != 0) (Reg.TPDO_MAP_COUNT 0) [] ++
  ((List.range 8).flatMap fun n =>
    ((List.range (tmap n).length).flatMap fun k => broken (!mapsGood v (c.get (Reg.TPDO_MAP n k))) (Reg.TPDO_MAP n k)
      [c.get (Reg.TPDO_MAP n k) / 256]) ++
    broken (63 * 8 < total (tmap n)) (Reg.TPDO_MAP_COUNT n) [Reg.TPDO_MAP n 0]) ++
  (List.range 4).flatMap fun n =>
    ((List.range (rmap n).length).flatMap fun k =>
      broken (!(mapsGood v (c.get (Reg.RPDO_MAP n k)) && rpdoMaps (c.get (Reg.RPDO_MAP n k))))
      (Reg.RPDO_MAP n k) [c.get (Reg.RPDO_MAP n k) / 256]) ++
    broken (64 * 8 < total (rmap n)) (Reg.RPDO_MAP_COUNT n) [Reg.RPDO_MAP n 0]

/-- Chapters 14 and 15: R487, R508. -/
def State.boardRules (c : State) : List Broken :=
  let sel := fun i => if i = 0 then 0 else c.get (Reg.SPC_SELECT_GPIO (i - 1))
  let fl := List.range (c.get Reg.SPC_FLASH_COUNT)
  (fl.flatMap fun a => fl.flatMap fun b => broken (a < b && sel a = sel b) (Reg.SPC_SELECT_GPIO (b - 1))
    (Reg.SPC_FLASH_COUNT :: if a = 0 then [] else [Reg.SPC_SELECT_GPIO (a - 1)])) ++
  broken (c.get Reg.GPIO_PULL_UP &&& c.get Reg.GPIO_PULL_DOWN != 0) Reg.GPIO_PULL_UP [Reg.GPIO_PULL_DOWN] ++
  broken (c.get Reg.DISC_SOURCE = 1 && !bit (c.get Reg.COB_ID_TIME) 31) Reg.DISC_SOURCE [Reg.COB_ID_TIME] ++
  broken (!Variant.hx c.variant && (List.range 16).any fun n => c.get (Reg.TMR_GATE_SRC n) = 10) Reg.DISC_SOURCE
    [Reg.TMR_GATE_SRC (((List.range 16).find? fun n => c.get (Reg.TMR_GATE_SRC n) = 10).getD 0)]

/-- Every rule of stage 5 that a configuration breaks. -/
def State.brokenRules (c : State) : List Broken :=
  c.chainRules ++ c.regionRules ++ c.arrayRules ++ c.airRules ++ c.laneRules ++ c.valveRules ++ c.streamRules ++ c.hfRules ++
    c.canRules ++ c.boardRules

/-- The failure reported: the rule that names the lowest-addressed object (R106, R123). -/
def firstBroken : List Broken → Option Broken
  | [] => none
  | b :: r => match firstBroken r with
    | none => some b
    | some x => if b.key ≤ x.key then some b else some x

/-! ### Settled timings (R251 to R256, Table 7.4) -/

/-- FT in percent, by DR and BLF in kHz (log entry 22). -/
def freqTolerance (dr blf : Nat) : Nat :=
  let near := fun n => 100 * blf ≤ 101 * n && 99 * n ≤ 100 * blf
  if dr = 1 then
    if near 640 then 15 else if near 320 then 10 else if 320 < blf then 22 else if near 256 then 10
    else if 256 < blf then 12 else if 160 ≤ blf then 10 else if 107 ≤ blf then 7 else 5
  else
    if near 320 then 10 else if 320 < blf then 19 else if near 256 then 10 else if 256 < blf then 12
    else if near 160 then 7 else if 160 < blf then 10 else if 107 ≤ blf then 7 else 4

/-- The settled timing fields of a profile, in 6.25 ns cycles. -/
def settled (tari ratio dr blf miller trext t2 : Nat) : List Nat :=
  let rt := tari * (100 + ratio) / 625
  let ft := freqTolerance dr blf
  let tr := if dr = 1 then (2 * 64 * 160000 + 3 * blf) / (2 * 3 * blf) else (2 * 8 * 160000 + blf) / (2 * blf)
  let x := max (rt * blf) 1600000
  let pre := (if miller = 1 then 6 + 12 * trext else (10 + 12 * trext) * miller) * 160000
  [rt, tr, x * (100 - ft) / (100 * blf) - 320, ceilDiv (x * (100 + ft)) (100 * blf) + 320,
   max 960 (ceilDiv (t2 * 160000 * (100 + ft)) (100 * blf)), ceilDiv pre blf]

/-- The settled fields of a profile put (R252). -/
def State.settle (s : State) (p : Nat) : State :=
  let l := settled (s.get (Reg.TARI_NS p)) (s.get (Reg.DATA1_RATIO p)) (s.get (Reg.DR p)) (s.get (Reg.BLF_KHZ p))
    (s.get (Reg.MILLER p)) (s.get (Reg.TREXT p)) (s.get (Reg.T2_TPRI p))
  s.recordIf (Reg.PROF_SEQ p) ((List.range 6).map fun i => (Reg.RTCAL_CYC p + i, l.getD i 0))

end Sys2Proof.Machine
end

