-- ==== Sys2Proof/Machine/Regulatory.lean ====
section
/-! DEFINITION. The commands of chapter 5: descriptors passed by the interlock, permits, the regulatory lock, and the region
view. -/

namespace Sys2Proof.Machine

/-! ### Descriptors and hops (R187, R190) -/

/-- A gang leaves its channel for another within its dwell (Sequence 4.1): Drone ramps down and every quad retunes; each
visit advances the leader's pass (R187). -/
def State.hopTo (s : State) (l khz : Nat) : State :=
  match s.running l with
  | none => s
  | some r =>
    let s1 := (bitsOf 4 r.d.gang).foldl (fun t q => t.retune q khz (some .hop)) s
    let s2 := s1.putRunning l
      { r with d := { r.d with khz := khz }, unlocked := r.d.gang, toned := false, ready := false, hop := none }
    let s3 := { s2 with val := { s2.val with pass := Tab.put s2.val.pass l (s2.nextHop l (Tab.get s2.val.pass l)).2 } }
    s3.showBeams

/-- A dwell descriptor or script segment goes to the quads of a gang in SCRIPT flits (Table 1.4, Sequence 9.1 step 4). -/
def State.sendScript (s : State) (gang : Nat) : State := (bitsOf 4 gang).foldl (fun t q => t.sendFlit q .cx 5 0) s

/-- A dwell's descriptor, planned next for a leader, at the interlock (R190): it waits to start, or is returned to
Valve. -/
def State.releaseDwell (s : State) (l : Nat) : State :=
  if (Tab.find s.val.released l).isSome then s
  else match s.val.plan.find? fun d => d.leader = l with
    | none => s
    | some d =>
      let rest := s.val.plan.filter fun x => x != d
      if d.khz = 0 || s.interlock d.khz (s.dwellLevels d) then
        ({ s with val := { s.val with plan := rest, released := Tab.put s.val.released l d } }).sendScript d.gang
      else ({ s.refuse with val := { s.refuse.val with plan := rest } }).replan

/-- A hop that Valve may ask for: under HOP = 1 the next channel of the leader's permutation (R187, R319). -/
def State.hopMay (s : State) (l khz : Nat) : Bool :=
  !s.region.hop || ((s.nextHop l (Tab.get s.val.pass l)).1.map fun p => p.2.khz) = some khz

/-- A hop within the dwell at the interlock (R190): it takes effect at the round's end (R246, Sequence 4.1). -/
def State.releaseHop (s : State) (l khz : Nat) : State :=
  match s.running l with
  | none => s
  | some r =>
    if !s.hopMay l khz then s
    else if s.interlock khz (s.dwellLevels { r.d with khz := khz }) then
      let t := s.sendScript r.d.gang
      if (t.round l).isSome then (t.putRunning l { r with hop := some khz }).dueRound l 2 else t.hopTo l khz
    else s.refuse.replan

/-- DESCRIPTOR_RELEASE (R190). -/
def execDescriptorRelease (l : Fin 4) (hop : Option (BitVec 32)) (s : State) : Host.Outcome State Fault Refusal :=
  if s.mode != .run then .next s
  else match hop with
    | none => .next (s.releaseDwell l)
    | some k => .next (s.releaseHop l k.toNat)

/-! ### Permits (R192, R193, R551) -/

/-- A channel's permit changed. -/
def State.updPermit (s : State) (e : Nat) (f : Permit → Permit) : State :=
  { s with ilk := { s.ilk with permits := Tab.upd s.ilk.permits e f } }

/-- Leaders whose dwell runs on a channel. -/
def State.leadersOn (s : State) (khz : Nat) : List Nat :=
  (s.val.running.filter fun p => p.2.d.khz = khz).map fun p => p.1

/-- Every PA carrying a channel mutes, and its rounds end with cause PERMIT (R192, R193). -/
def State.clearChannel (s : State) (khz : Nat) : State :=
  let s1 := (s.leadersOn khz).foldl (fun t l => t.endRound l 4 true) s
  let s2 := (s1.chainList.filter fun c => s1.get (Reg.SYNTH_FREQ_KHZ (c / 4)) = khz).foldl State.muteChain s1
  (s1.leadersOn khz).foldl State.dissolve s2

/-- The sweep leaves a channel whose permit is withdrawn. -/
def State.sweepBarred (s : State) (khz : Nat) : State :=
  match s.sweep with
  | none => s
  | some w => if w.left.head? = some khz then s.sweepNext w w.left.tail else s

/-- A plan fault (R193, R551): counted, and the channel is excluded; a second within 1 h is critical. -/
def State.planFault (s : State) (khz : Nat) : State :=
  let s1 := s.record Reg.FAULT_SEQ [(Reg.PLAN_FAULTS, (s.get Reg.PLAN_FAULTS + 1) % 2 ^ 32)]
  let second := s1.hlt.planFaultAt.any fun t => s1.tim.now - t ≤ 144000000000
  let s2 := { s1 with hlt := { s1.hlt with planFaultAt := some s1.tim.now },
                      val := { s1.val with barred := khz :: s1.val.barred } }
  if second then s2.criticalFault 7 none else s2

/-- The permit is withdrawn under the dwell rule, or under the continuous one. -/
def Permit.withdrawn (p : Permit) (dwell : Bool) : Bool := if dwell then p.noDwell else p.noCont

/-- An entry's counters reach the limit of a rule that the region has (R192). -/
def State.overLimit (s : State) (e : Nat) (dwell : Bool) : Bool :=
  if dwell then s.region.windowMs != 0 && s.region.dwellMaxUs ≤ s.windowSum e
  else s.region.contOnMs != 0 && s.region.contOnMs * 1000 ≤ (s.permit e).run

/-- An entry's counters let its permit return (R192). -/
def State.returns (s : State) (e : Nat) (dwell : Bool) : Bool :=
  if dwell then 10 * s.windowSum e ≤ 9 * s.region.dwellMaxUs else s.region.offMinMs * 1000 ≤ (s.permit e).off

/-- PERMIT_WITHDRAW (R192, R193). -/
def execPermitWithdraw (e : Fin 64) (dwell : Bool) (s : State) : Host.Outcome State Fault Refusal :=
  match s.region.entries[e.val]? with
  | none => .next s
  | some ch =>
    let p := s.permit e
    if p.withdrawn dwell || !s.overLimit e dwell then .next s
    else
      let planned := s.mode = .run && !(s.leadersOn ch.khz).isEmpty
      let test := s.testC.isSome && s.get Reg.TEST_FREQ_KHZ = ch.khz
      let k := if dwell then Reg.DWELL_LIMIT_COUNT else Reg.DUTY_LIMIT_COUNT
      let n := (s.get k + 1) % 2 ^ 32
      let s1 := s.updPermit e fun x => if dwell then { x with noDwell := true } else { x with noCont := true }
      let s2 := s1.clearChannel ch.khz
      let s3 := s2.record Reg.REGCNT_SEQ [(k, n), (Reg.PERMIT_WITHDRAWALS, (s2.get Reg.PERMIT_WITHDRAWALS + 1) % 2 ^ 32)]
      let s4 := (s3.latch (if dwell then 28 else 29) k n).sweepBarred ch.khz
      let s5 := if test then s4.rampAll.endTest .regulatory else s4
      .next ((if planned then s5.planFault ch.khz else s5).showBeams.replan)

/-- PERMIT_RETURN (R192). -/
def execPermitReturn (e : Fin 64) (dwell : Bool) (s : State) : Host.Outcome State Fault Refusal :=
  match s.region.entries[e.val]? with
  | none => .next s
  | some ch =>
    let s1 := s.updPermit e fun x => if dwell then { x with noDwell := false } else { x with noCont := false }
    .next (if !(s.permit e).withdrawn dwell || !s.returns e dwell then s
      else if s1.permitted e then { s1 with val := { s1.val with barred := s1.val.barred.filter fun k => k != ch.khz } } else s1)

/-! ### The regulatory lock (R197, R198) -/

/-- LOCK_STATE changes. -/
def State.lockState (s : State) (v : Nat) : State := s.record Reg.REGSTATE_SEQ [(Reg.LOCK_STATE, v)]

/-- What returns an armed lock to 0 (R197): a staging, an append to the image, COMMIT or DISCARD answered OK. -/
def State.disarm (s : State) : State :=
  if s.get Reg.LOCK_STATE = 1 && s.sys.firing.isNone then s.lockState 0 else s

/-- REG_LOCK_ARM (R197, Sequence 5.1 step 1). -/
def State.regLockArm (s : State) (v : Nat) : Result × State :=
  checks
    [(decide (s.get Reg.LOCK_STATE = 2), .denied), (v != 0x4C, .range), (!(s.mode = .hold || s.mode = .ready), .mode),
     (s.sys.firing.isSome, .busy),
     (s.get Reg.REGION_ID = 0 || !s.cfg.staged.isEmpty || s.get Reg.PERSIST_STATE != 0, .configInvalid)]
    (fun t => t.lockState 1) s

/-- REG_LOCK_ARM (R197). -/
def execRegLockArm (l : Link) (v : BitVec 8) (s : State) : Host.Outcome State Fault Refusal :=
  .next (s.request l false fun t => t.regLockArm v.toNat)

/-- A write of REG_LOCK_FIRE (R197, R425): one that starts the OTP write is answered at its end; until then its link holds
it as executing. -/
def State.regLockFire (s : State) (l : Link) (v : Nat) : Result × State :=
  if s.get Reg.LOCK_STATE != 1 then (.denied, s)
  else if s.sys.firing.isSome then (.busy, s)
  else if v != s.get Reg.CONFIG_CRC then (.check, s.lockState 0)
  else (.ok, { s with sys := { s.sys with firing := some l } })

/-- REG_LOCK_FIRE (R197). -/
def execRegLockFire (l : Link) (v : BitVec 32) (s : State) : Host.Outcome State Fault Refusal :=
  .next (s.request l false fun t => t.regLockFire l v.toNat)

/-- The locked objects of a variant, ascending. -/
def lockKeys (v : Sys2Proof.Variant) : List Nat := (configKeys v).filter isLock

/-- LOCKED_CRC over the values held (R198). -/
def State.lockedCrc (s : State) : Nat := crc32 ((lockKeys s.variant).flatMap s.valueBytes)

/-- A locked object takes a free value: OTP that read back wrong cannot be trusted. -/
def State.untrusted (s : State) (k : Nat) : State := s.draw.2.put k (s.draw.1 % 2 ^ (if k = Reg.REGION_ID then 8 else 16))

/-- LOCK_FIRE_DONE (R197, Sequence 5.1 step 3). -/
def execLockFireDone (ok : Bool) (s : State) : Host.Outcome State Fault Refusal :=
  match s.sys.firing with
  | none => .next s
  | some l =>
    let s1 := ({ s with sys := { s.sys with firing := none } }).record Reg.REGSTATE_SEQ
      [(Reg.LOCK_STATE, 2), (Reg.LOCKED_CRC, s.lockedCrc)]
    if ok then .next (s1.endHeld l .ok)
    else
      let s2 := (lockKeys s1.variant).foldl State.untrusted s1
      .next ((s2.criticalFault 8 (some (11, Reg.LOCK_STATE, 2))).endHeld l .fault)

/-- LOCK_ARM_TIMEOUT (R197, Sequence 5.1 step 4). -/
def execLockArmTimeout (s : State) : Host.Outcome State Fault Refusal := .next s.disarm

/-! ### The region view (R200) -/

/-- VIEW_INDEX written (R200). -/
def State.viewIndex (s : State) (v : Nat) : Result × State :=
  checks [((Region.ofId v).isNone, .range)] (fun t => t.record Reg.VIEW_SEQ [(Reg.VIEW_INDEX, v)]) s

/-- VIEW_INDEX_WRITE (R200). -/
def execViewIndexWrite (l : Link) (v : BitVec 8) (s : State) : Host.Outcome State Fault Refusal :=
  .next (s.request l false fun t => t.viewIndex v.toNat)

end Sys2Proof.Machine
end

