-- ==== Sys2Proof/Machine/Array.lean ====
section
/-! DEFINITION. The commands of chapter 6: the feed survey, Consort's lanes, and per-read measurements. -/

namespace Sys2Proof.Machine

/-! ### The survey (R220, R221) -/

/-- A survey starts (R220). -/
def State.surveyStart (s : State) : Result × State :=
  checks [(s.mode != .run, .mode), (s.arr.survey.isSome, .busy)] (fun t =>
    let v : Survey := ⟨t.get Reg.SURVEY_EPC_TAIL, t.i16 Reg.SURVEY_AZ, t.i16 Reg.SURVEY_EL, []⟩
    ({ t with arr := { t.arr with survey := some v } }).record Reg.SURV_SEQ
      [(Reg.SURVEY_STATE, 1), (Reg.SURVEY_RESULT, 0), (Reg.SURVEY_READS, 0)]) s

/-- A write of SURVEY_CMD (Table 6.8). -/
def State.surveyCmd (s : State) (v : Nat) : Result × State :=
  match v with
  | 1 => s.surveyStart
  | 2 => (.ok, s.endSurvey .mode)
  | _ => (.range, s)

/-- SURVEY_START (R220). -/
def execSurveyStart (l : Link) (s : State) : Host.Outcome State Fault Refusal :=
  .next (s.request l false fun t => t.surveyCmd 1)

/-- SURVEY_ABORT (R221). -/
def execSurveyAbort (l : Link) (s : State) : Host.Outcome State Fault Refusal :=
  .next (s.request l false fun t => t.surveyCmd 2)

/-- SURVEY_TIMEOUT (R221). -/
def execSurveyTimeout (s : State) : Host.Outcome State Fault Refusal := .next (s.endSurvey .notReady)

/-- The integer square root: the greatest r, from `r` with step `b`, with r² ≤ n. -/
def isqrt (n : Nat) : Nat → Nat → Nat
  | 0, r => r
  | b + 1, r => let t := r + 2 ^ b; isqrt n b (if t * t ≤ n then t else r)

/-- The turn that a delay of `tau` ps gives at a channel, in units of 10⁻⁸ degree: 36·τ·kHz. -/
def delayTurn (tau : Int) (khz : Nat) : Int := 36 * tau * (khz : Int)

/-- The delay of a chain's deviation in ps, fitted by least squares over frequency (R221); 0 where only the phase is fitted. -/
def fitDelay (fit : Bool) (l : List (Nat × Int)) : Int :=
  let n : Int := l.length
  let sf : Int := (l.map fun p => (p.1 : Int)).sum
  let sd : Int := (l.map fun p => p.2).sum
  let sff : Int := (l.map fun p => (p.1 : Int) * p.1).sum
  let sfd : Int := (l.map fun p => (p.1 : Int) * p.2).sum
  let den := n * sff - sf * sf
  if fit && 0 < den then roundDiv ((n * sfd - sf * sd) * 1000000) (36 * den).toNat else 0

/-- The phase of a chain's deviation in 0.01° beside a delay: the mean of what the delay leaves, which is the least-squares value
for that delay (R221). -/
def fitPhase (tau : Int) (l : List (Nat × Int)) : Int :=
  if l.isEmpty then 0 else roundDiv ((l.map fun p => 1000000 * p.2 - delayTurn tau p.1).sum) (1000000 * l.length)

/-- The mean of a list of integers, to nearest. -/
def meanInt (l : List Int) : Int := if l.isEmpty then 0 else roundDiv l.sum l.length

/-- A survey in which every enabled chain holds 200 reads is done (R221): the proposals, and their staging unless the
owner lock forbids it. A delay is held to the object's range and the phase fitted beside the delay proposed; both are then set to
a mean of 0 over the chains. -/
def State.surveyDone (s : State) (v : Survey) : State :=
  let cs := s.chainList.filter fun c => s.get (Reg.CHAIN_ENABLE c) = 1
  let khzs := (v.acc.flatMap fun p => p.2.map fun x => x.1)
  let span := khzs.foldl max 0 - khzs.foldl min 1000000
  let fit : Bool := 4000 ≤ span
  let taus := cs.map fun c => (c, fitDelay fit ((Tab.find v.acc c).getD []))
  let m1 := meanInt (taus.map fun p => p.2)
  let newDelay := fun (c : Nat) (tau : Int) => max 0 (min 20000 ((s.get (Reg.ELEMENT_DELAY c) : Int) + tau - m1))
  let fits := taus.map fun p =>
    let tau := newDelay p.1 p.2 - (s.get (Reg.ELEMENT_DELAY p.1) : Int) + m1
    (p.1, fitPhase tau ((Tab.find v.acc p.1).getD []), tau)
  let m0 := meanInt (fits.map fun p => p.2.1)
  let phase := fun c => match fits.find? fun p => p.1 = c with
    | some p => wrapAngle (s.i16 (Reg.ELEMENT_PHASE c) + p.2.1 - m0)
    | none => s.i16 (Reg.ELEMENT_PHASE c)
  let delay := fun c => match fits.find? fun p => p.1 = c with
    | some p => (newDelay c p.2.2).toNat
    | none => s.get (Reg.ELEMENT_DELAY c)
  let rms := fun c => match fits.find? fun p => p.1 = c with
    | some p =>
      let l := (Tab.find v.acc c).getD []
      let sq := (l.map fun x => let e := x.2 - p.2.1 - roundDiv (delayTurn p.2.2 x.1) 1000000; (e * e).toNat).sum
      min 32767 (isqrt (sq / max 1 l.length) 20 0)
    | none => 0
  let s1 := { s with arr := { s.arr with survey := none } }
  let s2 := ((s1.putDom Reg.SURVEY_PHASE (s.chainList.flatMap fun c => leBytes 2 (ofInt 16 (phase c)))).putDom Reg.SURVEY_DELAY
    (s.chainList.flatMap fun c => leBytes 2 (delay c))).putDom Reg.SURVEY_RESIDUAL (s.chainList.flatMap fun c => leBytes 2 (rms c))
  if s2.ownerLocked then s2.record Reg.SURV_SEQ [(Reg.SURVEY_STATE, 3), (Reg.SURVEY_RESULT, Result.code .denied)]
  else
    let writes := cs.flatMap fun c =>
      [(Reg.ELEMENT_PHASE c, leBytes 2 (ofInt 16 (phase c)))] ++ (if fit then [(Reg.ELEMENT_DELAY c, leBytes 2 (delay c))] else [])
    let all : Bool := (Tab.over s2.cfg.staged writes).length ≤ 4096
    if all then
      ((writes.foldl (fun (t : State) p => t.stagePut none p.1 p.2) s2).disarm).record Reg.SURV_SEQ
        [(Reg.SURVEY_STATE, 2), (Reg.SURVEY_RESULT, 0)]
    else s2.record Reg.SURV_SEQ [(Reg.SURVEY_STATE, 3), (Reg.SURVEY_RESULT, Result.code .configInvalid)]

/-- A read enters the survey that runs (R220): every chain with at least 20 dB; the deviation in 0.01°. The spec does not say how
deviations are averaged across the ±180° seam: each is wrapped to −180° to 180° and they are averaged and fitted as numbers,
DESIGN CHOICE, log entry 50. -/
def State.surveyRead (s : State) (r : Read) : State :=
  match s.arr.survey with
  | none => s
  | some v =>
    if epcTail r.epc != v.tail then s
    else
      let add := fun (t : Tab (List (Nat × Int))) (m : ChainMeas) =>
        let c := m.chain.val
        let old := (Tab.find t c).getD []
        if m.snr < 80 || s.get (Reg.CHAIN_ENABLE c) != 1 then t
        else
          let d := wrapAngle (roundDiv ((m.phase.val : Int) * 36000) 4096 - s.steer c r.khz v.az v.el)
          Tab.put t c (old ++ [(r.khz, d)])
      let v1 := { v with acc := r.meas.foldl add v.acc }
      let s1 := ({ s with arr := { s.arr with survey := some v1 } }).record Reg.SURV_SEQ
        [(Reg.SURVEY_READS, (s.get Reg.SURVEY_READS + 1) % 2 ^ 32)]
      let cs := s.chainList.filter fun c => s.get (Reg.CHAIN_ENABLE c) = 1
      if cs.all fun c => 200 ≤ ((Tab.find v1.acc c).getD []).length then s1.surveyDone v1 else s1

/-! ### Consort's lanes (R233, R334) -/

/-- The receive beam withdrawn when no spare lane remains (R334): of the lowest-priority zone in service, then its
highest number, then its highest direction; with no zone in service, the highest-numbered beam. -/
def State.beamToDrop (s : State) : Option Nat :=
  let alive := s.chainList.filter fun b => !s.arr.rxGone.testBit b
  let rs := s.val.running.filter fun p => (List.range 4).any fun k => p.2.d.rx.testBit k && alive.contains (4 * p.1 + k)
  let rank := fun (p : Nat × Running) => 64 * s.get (Reg.ZONE_PRIORITY p.2.d.zone) + p.2.d.zone
  let top := rs.foldl (fun (b : Option (Nat × Running)) p => match b with
    | none => some p
    | some x => if rank x < rank p then some p else some x) none
  match top with
  | some p => ((List.range 4).filter fun k => p.2.d.rx.testBit k && alive.contains (4 * p.1 + k)).getLast?.map fun k => 4 * p.1 + k
  | none => alive.getLast?

/-- The first lane whose map entry satisfies a test. -/
def laneWith (m : Bytes) (f : Nat → Bool) : Option Nat := (List.range 32).find? fun n => f (m.getD n 0).toNat

/-- A lane is retired and its unit moves (R233, R334). -/
def State.retireLane (s : State) (n : Nat) : State :=
  let m := s.dom Reg.LANE_MAP
  let u := m.getD n 0
  let m1 := m.set n 5#8
  let s1 := s.record Reg.CONS_SEQ [(Reg.LANES_RETIRED, setBit (s.get Reg.LANES_RETIRED) n)]
  let s2 :=
    if u = 0#8 then s1.putDom Reg.LANE_MAP m1
    else match laneWith m1 fun b => b = 0 with
      | some k => s1.putDom Reg.LANE_MAP (m1.set k u)
      | none => match s1.beamToDrop with
        | none => s1.putDom Reg.LANE_MAP m1
        | some b =>
          let m2 := match laneWith m1 fun x => x = 16 * b + 1 with
            | some k => m1.set k u
            | none => m1
          ({ s1 with arr := { s1.arr with rxGone := setBit s1.arr.rxGone b } }).putDom Reg.LANE_MAP m2
  ((s2.lanesOn (s2.mode = .run)).latch 47 Reg.LANES_RETIRED n).showBeams

/-- LANE_SELFTEST (R233). -/
def execLaneSelftest (lane : Fin 32) (pass : Bool) (s : State) : Host.Outcome State Fault Refusal :=
  if bit (s.get Reg.LANES_RETIRED) lane then .next s
  else
    let n := if pass then 0 else Tab.get s.arr.laneFails lane + 1
    let s1 := { s with arr := { s.arr with laneFails := Tab.put s.arr.laneFails lane n } }
    .next (if 2 ≤ n then s1.retireLane lane else s1)

/-! ### Measurements (R234 to R238) -/

/-- A measured read goes on: localised, or reported without a position (Sequence 1.2 steps 7 and 8, R279). -/
def State.readOn (s : State) (r : Read) : State :=
  if s.mode = .run && s.get Reg.LOC_ENABLE = 1 && (s.get Reg.TRACK_ZONE_MASK).testBit r.zone then
    { s with rep := { s.rep with reads := s.rep.reads ++ [r] } }
  else s.report r Loc.none

/-- The greatest of `p`, `p + 1`, …, `p + n` in 0.25 dB that a mean of `k` linear powers with sum `sum` reaches to nearest. -/
def nearestLevel (sum k : Nat) (p : Int) : Nat → Int
  | 0 => p
  | n + 1 => if k * ten80 (2 * (p + (n + 1)) - 1) ≤ sum then p + (n + 1) else nearestLevel sum k p n

/-- READ_POWER: the mean of the linear powers of the measured chains, in 0.25 dBm to nearest (R236). -/
def readPower (ms : List ChainMeas) : Int :=
  let ps := ms.map fun m => m.power
  let lo := ps.foldl min (ps.headD 0)
  let hi := ps.foldl max (ps.headD 0)
  nearestLevel ((ps.map linPower).sum) ms.length lo (hi - lo).toNat

/-- PHASE of a chain: the measured phase less Φ_rx,c, to the nearest 360°/4,096 (R235). A chain whose entry has no value is no
chain of a running beam; nothing is taken off there. -/
def State.element (s : State) (m : RawMeas) : ChainMeas :=
  let phi := if s.get (Reg.RX_PHASE m.chain) = noValue then 0 else s.i16 (Reg.RX_PHASE m.chain)
  ⟨m.chain, Fin.ofNat 4096 (roundDiv ((m.theta - phi) * 4096) 36000 % 4096).toNat, m.power, m.snr⟩

/-- READ_MEASURED (R234 to R238). -/
def execReadMeasured (beam : Fin 4) (meas : List RawMeas) (s : State) : Host.Outcome State Fault Refusal :=
  match Tab.find s.eng.heard beam with
  | none => .next s
  | some r0 =>
    let cs := match s.running beam with
      | some r => s.rxChains r.d
      | none => s.chainList
    let ms := (meas.filter fun m => cs.contains m.chain.val).map s.element
    let low := ms.any fun m => m.snr < 40
    let gain := ms.any fun m => s.get (Reg.RX_GAIN_STATE m.chain) = 1
    let r := { r0 with meas := ms, power := readPower ms, flags := r0.flags + ofBool low * 2 + ofBool gain * 4 }
    let s1 := { s with eng := { s.eng with heard := Tab.del s.eng.heard beam } }
    let f := s1.get Reg.LAST_READ_FILTER
    let s2 := if f = 0xFF || f = beam.val then (s1.putDom Reg.LAST_READ_BLOCK r.block).seq Reg.LREAD_SEQ else s1
    .next ((s2.surveyRead r).readOn r)

end Sys2Proof.Machine
end

