-- ==== Sys2Proof/Machine/Gen2.lean ====
section
/-! DEFINITION. The commands of chapter 7: rounds, slots, tag replies, access operations and the result queue. -/

namespace Sys2Proof.Machine

/-! ### The start of a round (R243, R245, R262, R263) -/

/-- The target of a round (R262). With two beams on one zone its previous round is the one that ended last, as R264 has it for
Qfp: the spec does not say it of the target, DESIGN CHOICE, log entry 50. -/
def State.targetOf (s : State) (z p : Nat) : Nat :=
  if s.get (Reg.TARGET p) = 2 then ((s.zoneMem z).target.map fun t => 1 - t).getD 0 else s.get (Reg.TARGET p)

/-- A round as it starts on a running dwell: its Selects and Challenge, or its Query, are sent at once, or after the hold of
R245. -/
def State.newRound (s : State) (r : Running) : Round :=
  let z := r.d.zone
  let p := r.d.prof
  let qfp := (s.zoneMem z).qfp.getD (100 * s.get (Reg.Q0 p))
  let n : Round :=
    { zone := z, prof := p, stage := .powerUp, q := roundQ qfp, qfp := qfp, target := s.targetOf z p, slots := 0, singles := 0,
      empties := 0, colls := 0, crc := 0, late := 0, crcSlot := false, lateSlot := false, opening := s.openingOf p r.begun,
      left := 0, sent := [], queried := false, run := 0, cold := !(s.zoneMem z).warm, began := s.tim.now, due := none, rn16 := 0,
      best := 0, rxMask := 0, snr := 0, spatial := false, acks := 0, outcome := 0, tag := 0, pc := 0, xpc := [], epc := [],
      replyAt := 0, ops := [], ran := [], tries := 0, steps := [], handle := 0, cover := 0 }
  if r.holding then n else s.opens n n.opening

/-- Chains of a gang take their planned levels and rotator settings at a round boundary (R146, R163, R218); a level rises only
where the interlock passes all of them (R186, R190). -/
def State.levelGang (s : State) (d : Dwell) : State :=
  let new := (s.dwellLevels d).filter fun p =>
    s.get (Reg.CHAIN_STATE p.1) = 2 && (s.chain p.1).probing.isNone && (s.chain p.1).level != some p.2
  let ok := s.interlock d.khz new
  new.foldl (fun t p => if ok || ((t.chain p.1).level.any fun x => p.2 ≤ x) then t.setLevel p.1 p.2 else t) (s.steerGang d)

/-- A round may start on a gang (R243, R151, R113, R315). -/
def State.roundMay (s : State) (beam : Nat) (r : Running) : Bool :=
  s.mode = .run && s.sys.trans.isNone && s.get Reg.COMMIT_STATE != 2 && (s.round beam).isNone && !r.past && r.hop.isNone &&
    r.toned && r.unlocked = 0 && r.ready && (gangChains r.d.gang).any s.hasDrone

/-- ROUND_START (R243). -/
def execRoundStart (beam : Fin 4) (s : State) : Host.Outcome State Fault Refusal :=
  match s.running beam with
  | none => .next s
  | some r =>
    if !s.roundMay beam r then .next s
    else
      let n := s.newRound r
      let s1 := s.levelGang r.d
      let s2 := { s1 with val := { s1.val with zones := Tab.upd s1.val.zones r.d.zone fun z =>
        { z with last := some s1.tim.now, starts := z.starts ++ [s1.tim.now] } } }
      .next (((s2.putRunning beam { r with begun := true }).putRound beam n).showRound beam n)

/-- POWER_UP_HOLD_END (R245): the first command is sent. -/
def execPowerUpHoldEnd (beam : Fin 4) (s : State) : Host.Outcome State Fault Refusal :=
  match s.round beam with
  | none => .next s
  | some n =>
    if n.stage != .powerUp then .next s
    else
      let n1 := s.opens { n with began := s.tim.now } n.opening
      let s1 := match s.running beam with
        | some r => s.putRunning beam { r with holding := false }
        | none => s
      .next ((s1.putRound beam n1).showRound beam n1)

/-! ### Slots and replies (R256, R260, R261) -/

/-- ACK is sent. -/
def Round.acked (n : Round) : Round := { n with stage := .ack, acks := n.acks + 1, sent := n.sent ++ [.ack n.rn16] }

/-- An ACK has failed (R260), its reply window over: it is sent again at once or after the turn-round, or NAK follows and the
slot counts as a CRC error. -/
def State.ackFailed (s0 : State) (t : Nat) (n : Round) (replied : Bool) : State :=
  let s := s0.replyOver t
  if n.acks ≤ s.get (Reg.EPC_RETRIES n.prof) then s.putRound t (if replied then { n with stage := .turnAck } else n.acked)
  else
    let n1 := { n with crcSlot := true, outcome := 2, stage := .turnSlot }
    if replied then s.putRound t n1 else s.slotBoundary t n1

/-- SLOT_EMPTY_TIMEOUT (R256, R260). -/
def execSlotEmptyTimeout (beam : Fin 4) (s : State) : Host.Outcome State Fault Refusal :=
  match s.round beam with
  | none => .next s
  | some n =>
    match n.stage with
    | .slot => .next ((s.decision beam).slotBoundary beam { n with outcome := 0 })
    | .ack => .next (s.ackFailed beam n false)
    | _ => .next s

/-- The armed slots that match the tag of a round, ascending (R267, R269). -/
def State.opsFor (s : State) (n : Round) : List Nat :=
  (List.range 16).filter fun k => s.eng.armed.testBit k && s.opMatches k n.zone n.epc

/-- EPC_REPLY (R260, R261). A Challenge response takes a place in the result queue only beside those kept for the operations
that run (R272). -/
def execEpcReply (beam : Fin 4) (reply : EpcReply) (s : State) : Host.Outcome State Fault Refusal :=
  match s.round beam with
  | none => .next s
  | some n =>
    let s0 := s.decision beam
    if n.stage != .ack then .next s
    else if !epcPasses reply then .next ((s0.checked 0 1 1).ackFailed beam n true)
    else
      let khz := (s.running beam).elim 0 fun r => r.d.khz
      let (n1, s1) := ((((reply.rx.map Fin.val).foldl State.decodedOn (s0.checked 0 1 0)).combineAll beam reply.pre).replyOver
        beam).readTag beam khz n reply
      let s2 := match reply.challenge with
        | some d => if s1.get (Reg.CHALLENGE n.prof) = 1 && s1.resultRoom then s1.pushResult beam 0xFF 0 8 0xFF n1 (d.take 128) else s1
        | none => s1
      let ops := s2.opsFor n1
      .next (s2.putRound beam { n1 with outcome := 2, ops := ops, stage := if ops.isEmpty then .turnSlot else .turnOp })

/-- TURNROUND_END (R166): the command decided is sent. -/
def execTurnroundEnd (beam : Fin 4) (s : State) : Host.Outcome State Fault Refusal :=
  match s.round beam with
  | none => .next s
  | some n =>
    match n.stage with
    | .turnAck => .next (s.putRound beam n.acked)
    | .turnSlot => .next (s.slotBoundary beam n)
    | .turnOp => .next (s.nextOp beam n n.ops)
    | _ => .next s

/-! ### Access operations (R257, R269 to R273) -/

/-- The operation that runs on a beam ends with an access code (R270), and the next that matches starts. -/
def State.opOver (s : State) (t : Nat) (n : Round) (code tagErr : Nat) (data : Bytes) : State :=
  match n.ops with
  | [] => s
  | k :: rest =>
    let n1 := { n with stage := .turnOp, ops := rest, tries := 0 }
    ((s.putRound t n1).opEnds t k code tagErr n data).nextOp t n1 rest

/-- The replies of an operation are checked by unit 0 (R512): every reply counts, those of another length than asked or with a
wrong CRC-16 as failures. What the check of a reply whose DECISION came late gave is not stated: a free value (log entry 5). -/
def State.accessChecks (s : State) (replies : List TagReply) : State :=
  let late := replies.count .late
  let d := s.draw
  let n := (replies.filter fun r => r != .none).length
  d.2.checked 0 n (replies.count .badCrc + min late d.1)

/-- ACCESS_REPLY_TIMEOUT (R257, R269): the command whose delayed reply is awaited is repeated, or the operation ends with
NO_REPLY; it ends with ABORTED where an end cause lets no further command start (R247). The commands before it have been
answered. An operation without such a command waits for no delayed reply. -/
def execAccessReplyTimeout (beam : Fin 4) (s : State) : Host.Outcome State Fault Refusal :=
  match s.round beam with
  | none => .next s
  | some n => match n.opNow, n.steps.dropWhile (fun st => !st.delayed) with
    | some k, st :: rest =>
      let n1 := { n with steps := st :: rest, tries := if n.steps = st :: rest then n.tries else 0 }
      let s1 := s.replyOver beam
      if n1.tries < s.get (Reg.OP_RETRIES k) && n.due.isNone then .next (s1.putRound beam ({ n1 with tries := n1.tries + 1 }.sending))
      else .next (s1.opOver beam n1 (if n.due.isSome then 7 else 4) 0xFF [])
    | _, _ => .next s

/-- ACCESS_OP_END (R269, R270): the replies to the operation's commands, in order, carry it to its access code; `pre` is the
preamble of the last, and `rx` lists for each reply that decodes the receive beams that decoded it (RXB_DECODES). Commands beyond them draw no reply; where an end cause has fallen due they are not sent, and the operation
is cut (R247). -/
def execAccessOpEnd (beam : Fin 4) (replies : List TagReply) (rx : List (Fin 16)) (pre : List PreMeas) (s : State) :
    Host.Outcome State Fault Refusal :=
  match s.round beam with
  | none => .next s
  | some n => match n.opNow with
    | none => .next s
    | some k =>
      let retries := s.get (Reg.OP_RETRIES k)
      let all := if n.due.isSome then replies else replies ++ List.replicate (retries + 1) .none
      let s1 := (((rx.map Fin.val).foldl State.decodedOn ((s.accessChecks replies).decision beam)).combineAll beam pre).replyOver beam
      match n.answers retries [] all with
      | (m, d, some (code, err)) => .next (s1.opOver beam m code err (if code = 0 then d else []))
      | (m, _, none) => .next (s1.opOver beam m 7 0xFF [])

/-- The DATA length fits an operation as Table 7.7 gives, and a Kill has a password (R273). -/
def State.opFits (s : State) (k : Nat) : Bool :=
  let len := (s.dom (Reg.OP_DATA k)).length
  let wc := s.get (Reg.OP_WORD_COUNT k)
  match s.get (Reg.OP_CODE k) with
  | 2 | 3 => 1 ≤ wc && wc ≤ 32 && len = 2 * wc
  | 5 => len = 4
  | 6 => s.get (Reg.OP_KILL_PWD k) != 0
  | 7 => len = 0 || (1 ≤ wc && wc ≤ 8 && len = 2 * wc)
  | 8 => len = 2
  | _ => true

/-- A write of OP_ARM (R273): 0 disarms, an operation in progress completing. -/
def State.opArm (s : State) (k v : Nat) : Result × State :=
  if v = 0 then (.ok, s.armOp k false)
  else checks [(v != 1 || !s.opFits k, .range), (s.get Reg.COMMIT_STATE != 0, .busy), (s.get (Reg.OP_CODE k) = 0, .configInvalid)]
    (fun t => t.armOp k true) s

/-- OP_ARM (R273). -/
def execOpArm (l : Link) (slot : Fin 16) (s : State) : Host.Outcome State Fault Refusal :=
  .next (s.request l false fun t => t.opArm slot 1)

/-- OP_DISARM (R273). -/
def execOpDisarm (l : Link) (slot : Fin 16) (s : State) : Host.Outcome State Fault Refusal :=
  .next (s.request l false fun t => t.opArm slot 0)

/-- RESULT_RELEASE written (R277). -/
def State.resultRelease (s : State) (id : Nat) : Result × State :=
  checks [(s.eng.results.head?.map ResEntry.id != some id, .range)]
    (fun t => ({ t with eng := { t.eng with results := t.eng.results.tail } }).resultsChanged) s

/-- RESULT_RELEASE (R277). -/
def execResultRelease (l : Link) (id : BitVec 32) (s : State) : Host.Outcome State Fault Refusal :=
  .next (s.request l false fun t => t.resultRelease id.toNat)

/-! ### Round boundaries (R171, R216, R248, R315) -/

/-- A gang's Drone goes down for quads of it that must calibrate, or for a tone measurement (R171, Sequence 6.1). -/
def State.pauseGang (s : State) (l : Nat) (r : Running) (cals : List Nat) : State :=
  let s1 := (bitsOf 4 r.d.gang).foldl State.rampQuad s
  let s2 := cals.foldl (fun t q => (t.startCal q).updQuad q fun x => { x with want := r.d.khz, held := some .dwell }) s1
  s2.putRunning l { r with unlocked := r.unlocked ||| maskOf cals, toned := false, ready := false }

/-- A quad of a gang has moved by TONE_REFRESH_DT since the gang's last tone measurement (R216). -/
def State.toneStale (s : State) (l : Nat) (r : Running) : Bool :=
  let m := Tab.get s.arr.tone l
  (bitsOf 4 r.d.gang).any fun q =>
    match Tab.find m.temps q with
    | some t => s.get Reg.TONE_REFRESH_DT ≤ (s.i16 (Reg.QUAD_DIE_TEMP q) - t).natAbs
    | none => false

/-- Drone of a quad outlives its dwell: the next dwell that holds the quad is due, on the same channel (R320). -/
def State.holdsOn (s : State) (q khz : Nat) : Bool :=
  let next := (s.val.released.map fun p => p.2) ++ s.val.plan
  match next.find? fun d => d.gang.testBit q with
  | some d => d.khz = khz && d.start ≤ s.tim.now
  | none => false

/-- A dwell ends (R152, R315, R320): weights are written back, calibrations due start, and Drone goes down where the
next dwell does not hold it. -/
def State.endDwell (s : State) (l : Nat) : State :=
  match s.running l with
  | none => s
  | some r =>
    let s3 := (bitsOf 4 r.d.gang).foldl (fun t q =>
      if (t.quad q).calDue then t.startCal q
      else if t.holdsOn q r.d.khz then t else (t.rampQuad q).updQuad q fun x => { x with held := none }) (s.closeDwell l)
    s3.showBeams

/-- What falls due at a gang's round boundary: the end of RUN (R60), a hop, the dwell's end, calibrations, a tone refresh. Calibrations that are
due run with the hop, on its channel (R171, R174, Sequence 4.2 step 2). -/
def State.atBoundary (s : State) (l : Nat) : State :=
  match s.running l with
  | none => s
  | some r =>
    let cals := (bitsOf 4 r.d.gang).filter fun q => (s.quad q).calDue
    if s.sys.trans.isSome then s.gangDown l else
    match r.hop with
    | some k => cals.foldl (fun t q => (t.startCal q).updQuad q fun x => { x with held := some .hop }) (s.hopTo l k)
    | none =>
      if r.past then s.endDwell l
      else if !cals.isEmpty then s.pauseGang l r cals
      else if s.toneStale l r then (s.pauseGang l r []).askTone l
      else s

/-- ROUND_END (R248): at a slot boundary at which an end cause has fallen due. -/
def execRoundEnd (beam : Fin 4) (s : State) : Host.Outcome State Fault Refusal :=
  match s.round beam with
  | none => .next s
  | some n =>
    if n.stage != .ending then .next s
    else .next ((s.endRound beam (n.due.getD 0) false).atBoundary beam)

end Sys2Proof.Machine
end

