-- ==== Sys2Proof/Machine/Loc.lean ====
section
/-! DEFINITION. Chapter 8: localising a batch of reads, joining reads to tracks, closing them, and publishing counts. -/

namespace Sys2Proof.Machine

/-- LOC_BATCH (R280 to R291): the reads waiting, in order. -/
def execLocBatch (s : State) : Host.Outcome State Fault Refusal := .next s.locateAll

/-- TRACK_JOIN (R280, R294 to R296). -/
def execTrackJoin (s : State) : Host.Outcome State Fault Refusal := .next s.joinOne

/-- TRACK_CLOSE_GAP (R300). -/
def execTrackCloseGap (tag : BitVec 32) (s : State) : Host.Outcome State Fault Refusal :=
  match s.trk.tracks.find? fun t => t.tag = tag.toNat with
  | none => .next s
  | some t => .next (s.closeTrack t 0)

/-- COUNT_INTERVAL_PUBLISH (R302): the oldest interval that has ended, CLOSE_GAP_MS and 10 ms after its end. -/
def execCountIntervalPublish (s0 : State) : Host.Outcome State Fault Refusal :=
  let s := s0.rollIvals
  match s.trk.ivals with
  | i :: r => .next (if i.stop + (s.get Reg.CLOSE_GAP_MS + 10) * 40000 ≤ s.tim.now then
      ({ s with trk := { s.trk with ivals := r } } : State).publish i else s)
  | [] => .next s

end Sys2Proof.Machine
end

