-- ==== Sys2Proof/Machine/ValveCmds.lean ====
section
/-! DEFINITION. The commands of chapter 9: the plan boundary, the start and the end of a dwell, and the measured power. -/

namespace Sys2Proof.Machine

/-! ### The plan boundary (R309, R316, R317, R325) -/

/-- Ten seconds in ticks. -/
def tenSeconds : Nat := 400000000

/-- The gaps between the instants of a list. -/
def gaps : List Nat → List Nat
  | a :: b :: r => (b - a) :: gaps (b :: r)
  | _ => []

/-- A zone's history cut to the last 10 s; the round start before it stays, since a gap may begin there. -/
def ZoneVal.trim (z : ZoneVal) (now : Nat) : ZoneVal :=
  let cut := now - tenSeconds
  let old := z.starts.filter (· < cut)
  { z with reads := z.reads.filter (cut ≤ ·), starts := (old.getLast?).toList ++ z.starts.filter (cut ≤ ·),
           spans := z.spans.filter fun p => cut < p.2 }

/-- A zone's longest gap between round starts in ms, the gap still open counting (Table 9.6). -/
def ZoneVal.gapMs (z : ZoneVal) (now : Nat) : Nat :=
  if z.starts.isEmpty then 0 else (gaps (z.starts ++ [now])).foldl max 0 / 40000

/-- The time of the last 10 s in a zone's dwells, in percent (Table 9.6). -/
def State.timeShare (s : State) (z : Nat) : Nat :=
  let cut := s.tim.now - tenSeconds
  let open_ := (s.val.running.filter fun p => p.2.d.zone = z).map fun p => (p.2.at_, s.tim.now)
  let on := (((s.zoneVal z).spans ++ open_).map fun p => p.2 - max cut p.1).sum
  min 100 (on * 100 / tenSeconds)

/-- The adjusted weight of a zone (R316). -/
def State.newWeight (s : State) (z : Nat) : Nat :=
  let goal := s.get (Reg.GOAL_READ_RATE z)
  let rate := s.get (Reg.ZS_READ_RATE z)
  let zw := s.get (Reg.ZONE_WEIGHT z)
  let w := s.weight z
  if goal = 0 then w
  else if rate < goal then min (w * 5 / 4) (128 * zw)
  else if 6 * goal ≤ 5 * rate then max (w * 4 / 5) (16 * zw)
  else w

/-- A zone's status, weight and goals at a plan boundary (R316, R317). -/
def State.goals (s : State) (z : Nat) : State :=
  let now := s.tim.now
  let s1 := { s with val := { s.val with zones := Tab.upd s.val.zones z fun v => v.trim now } }
  let v := s1.zoneVal z
  let rate := satN 16 (v.reads.length / 10)
  let s2 := s1.record (Reg.ZS_SEQ z)
    [(Reg.ZS_READ_RATE z, rate), (Reg.ZS_GAP_MAX_MS z, v.gapMs now), (Reg.ZS_TIME_SHARE z, s1.timeShare z)]
  let s3 := s2.recordIf (Reg.ZS_SEQ z) [(Reg.ZS_WEIGHT_EFF z, s2.newWeight z)]
  let goal := s3.get (Reg.GOAL_READ_RATE z)
  let lat := s3.get (Reg.GOAL_LATENCY_MS z)
  let slow := goal != 0 && rate < goal
  let late := lat != 0 && lat < v.gapMs now
  let miss := (slow && s3.weight z = 128 * s3.get (Reg.ZONE_WEIGHT z)) || late
  let s4 := { s3 with val := { s3.val with zones := Tab.upd s3.val.zones z fun x =>
    { x with low := miss, missed := miss || (x.missed && (slow || late)) } } }
  if miss && !v.missed then
    (if late then s4.latch 33 (Reg.ZS_GAP_MAX_MS z) (v.gapMs now) else s4.latch 33 (Reg.ZS_READ_RATE z) rate)
  else s4

/-- MEAS_CORR as a ratio of measured power to the model without correction, in 1/1,024, to nearest (R325). The model's
figure is that of the plan in force. -/
def State.powerRatio (s : State) (mw : Nat) : Nat :=
  let m := s.get Reg.MODEL_MW
  if m = 0 then s.get Reg.MEAS_CORR else (2 * mw * s.get Reg.MEAS_CORR + m) / (2 * m)

/-- MEAS_CORR set. -/
def State.correct (s : State) (v : Nat) : State := s.recordIf Reg.PLAN_SEQ [(Reg.MEAS_CORR, v)]

/-- The probes that fall due at a plan boundary (R163, R164); after three cuts a chain stays OUT, and none is. -/
def State.probesDue (s : State) (c : Nat) : State :=
  let out := 3 ≤ s.get (Reg.CUT_RUN c)
  let cutDue := match (s.chain c).cut with
    | some (k, t) => if tenSeconds ≤ s.tim.now - t then [k] else []
    | none => []
  let flagged := if bit (s.get (Reg.CHAIN_FAULT c)) 2 then []
    else ((s.chain c).seeds.filter fun e => bit e.flags 2).map fun e => e.khz
  s.updChain c fun x => { x with
    probes := if out then [] else x.probes ++ (cutDue ++ flagged).filter fun k => !x.probes.contains k }

/-- Quads and chains back in service, and quads the host no longer holds out, join the plan (R331, Table 9.5). -/
def State.takeOffered (s : State) : State :=
  let s1 := (s.quadList.filter fun q => !bit (s.get Reg.PIN_QUAD_OUT) q).foldl (fun t q => t.quadBack q 5) s
  let s2 := s1.quadList.foldl (fun t q => t.updQuad q fun x => { x with offered := false }) s1
  s2.chainList.foldl (fun t c => t.updChain c fun x => { x with offered := false }) s2

/-- PLAN_BOUNDARY (R309): in RUN, the goals are judged, the correction is taken, and the plan is built; in the other modes, where
no plan is in force, what is offered comes back into service (R331, Table 9.5). -/
def execPlanBoundary (measMw : BitVec 16) (s : State) : Host.Outcome State Fault Refusal :=
  if s.mode != .run then .next s.takeOffered
  else
    let s1 := s.enabledZones.foldl State.goals s
    let s2 := s1.correct (max 922 (min 1331 (s1.powerRatio measMw.toNat)))
    .next (s2.chainList.foldl State.probesDue s2.takeOffered).replan

/-! ### Dwells (R157, R158, R315, R318 to R320) -/

/-- A chain as a dwell starts (R151, R156 to R159, R162, R217): its filter and gain are set, γ_c is computed, and Reed starts
from ACTIVE_SEED unless Drone goes on with weights that are not at a limit. -/
def State.freshChain (s : State) (d : Dwell) (c : Nat) : State :=
  let blf := 1000 * s.get (Reg.BLF_KHZ d.prof)
  let gain := if s.get (Reg.RX_GAIN_POLICY c) = 2 then 1 else 0
  let s1 := s.updChain c fun x =>
    { x with warned := false, blocked := false, excluded := false, conv := false, gainDue := none }
  let s2 := (s1.recordIf (Reg.CSTATE_SEQ c) [(Reg.RX_GAIN_STATE c, gain)]).recordIf (Reg.RX_SEQ c)
    [(Reg.IF_CENTRE_HZ c, blf), (Reg.IF_BANDWIDTH_HZ c, ifBandwidth (s.get (Reg.MILLER d.prof)) blf)]
  let s3 := if s2.hasDrone c && !bit (s2.get (Reg.CHAIN_FAULT c)) 3 then s2 else s2.loadSeed d.khz c
  (s3.setGamma d.prof c).showPhases [c]

/-- A quad of a gang as its dwell starts on a channel: it keeps its lock there, or retunes (R320, Sequence 4.1), a
calibration that is due running first (R171). -/
def State.quadOnto (s : State) (khz q : Nat) : State :=
  if (s.quad q).calDue then (s.startCal q).updQuad q fun x => { x with want := khz, held := some .dwell }
  else if (s.get (Reg.QUAD_STATE q) = 3 || s.get (Reg.QUAD_STATE q) = 4) && s.get (Reg.SYNTH_FREQ_KHZ q) = khz then s
  else s.retune q khz (some .dwell)

/-- The quads of a gang that are not locked on a channel. -/
def State.unlockedOf (s : State) (gang khz : Nat) : Nat :=
  maskOf ((bitsOf 4 gang).filter fun q => s.get (Reg.SYNTH_FREQ_KHZ q) != khz)

/-- A dwell starts (R315): its beams form, its quads go to its channel, its rails are set, and Drone is held where the channel
and the gang stay (R320). -/
def State.startDwell (s : State) (l : Nat) (d : Dwell) : State :=
  let pv := if s.region.hop then Tab.put s.val.pass l (s.nextHop l (Tab.get s.val.pass l)).2 else s.val.pass
  let quads := bitsOf 4 d.gang
  let s1 := (gangChains d.gang).foldl (State.freshChain · d) s
  let s2 := if d.khz = 0 then quads.foldl State.rampQuad s1 else quads.foldl (State.quadOnto · d.khz) s1
  let off := if d.khz = 0 then 0 else s2.unlockedOf d.gang d.khz
  let r : Running :=
    { d := d, at_ := s.tim.now, unlocked := off, toned := false, past := false, hop := none,
      holding := false, ready := false, begun := false, locks := 0 }
  let held := d.khz != 0 && off = 0 && (s2.toneFor d.gang d.khz).isSome && quads.all s2.quadDrone
  let s3 := { s2 with
    val := { s2.val with running := Tab.put s2.val.running l r, released := Tab.del s2.val.released l, pass := pv } }
  let s4 := (s3.setRails d.gang (s3.risingLevels d)).record (Reg.ZS_SEQ d.zone) [(Reg.ZS_LEADER d.zone, l)]
  let s5 := if d.khz = 0 then s4 else if held then s4.raiseGang l else s4.gangLocked l
  s5.showBeams

/-- The gang of a descriptor as its dwell starts (R144, R231, Table 9.5): a follower that is OUT, or that waits to be offered
back at the plan boundary, has left it. -/
def State.gangNow (s : State) (d : Dwell) : Nat :=
  maskOf ((bitsOf 4 d.gang).filter fun q => q = d.leader || (s.quadIn q && !(s.quad q).offered))

/-- A dwell may start (R202, R205, R315): its leader is in service, its quads run no other dwell, and it may run beside every
dwell that runs. -/
def State.dwellMay (s : State) (d : Dwell) : Bool :=
  s.mode = .run && s.sys.trans.isNone && s.sweep.isNone && s.quadIn d.leader && !(s.quad d.leader).offered &&
    ((bitsOf 4 d.gang).all fun q => (s.leaderOf q).isNone) && s.val.running.all fun p => s.coexist d p.2.d

/-- DWELL_START (R315): the descriptor passed by the interlock starts on its gang. -/
def execDwellStart (leader : Fin 4) (s : State) : Host.Outcome State Fault Refusal :=
  match Tab.find s.val.released leader with
  | none => .next s
  | some d0 =>
    let d := { d0 with gang := s.gangNow d0 }
    .next (if s.dwellMay d then s.startDwell leader d else s)

/-- DWELL_END (R315): with no round the dwell ends; a round runs on to its end, ended at a slot boundary once
DWELL_MAX_MS have passed (R246). -/
def execDwellEnd (leader : Fin 4) (s : State) : Host.Outcome State Fault Refusal :=
  match s.running leader with
  | none => .next s
  | some r =>
    if (s.round leader).isNone then .next (s.endDwell leader)
    else
      let s1 := s.putRunning leader { r with past := true }
      .next (if s.get Reg.DWELL_MAX_MS * 40000 ≤ s.tim.now - r.at_ then s1.dueRound leader 2 else s1)

/-! ### Measured power (R325) -/

/-- POWER_MEASURE (R325): an average more than 5% over the budget raises MEAS_CORR, and Valve re-plans at the next round boundary
of every gang. -/
def execPowerMeasure (mw : BitVec 16) (s : State) : Host.Outcome State Fault Refusal :=
  if s.mode = .run && 105 * s.get Reg.BUDGET_MW < 100 * mw.toNat then
    .next ((s.correct (max (s.get Reg.MEAS_CORR) (min 1331 (s.powerRatio mw.toNat)))).replanNow none false)
  else .next s

end Sys2Proof.Machine
end

