-- ==== Sys2Proof/Machine/ReportCmds.lean ====
section
/-! DEFINITION. The commands of chapter 10: packet age, the report window and its tier changes, credits, delivery by pull,
the hot ring, marks and rewinds. -/

namespace Sys2Proof.Machine

/-- PACKET_AGE_TIMEOUT (R349). -/
def execPacketAgeTimeout (stream : Fin 3) (kind : Fin 5) (s : State) : Host.Outcome State Fault Refusal :=
  .next (s.closePkt stream kind)

/-! ### The report window (R354, R368 to R370) -/

/-- What a stream would have closed at each tier in the window, those that aged by its end among them (R349, R368). -/
def State.offeredBytes (s : State) (i : Nat) : Stream := (s.stream i).virtAge (s.get Reg.PACKET_AGE_MS * 40000) s.tim.now

/-- Bytes of a window as a rate in B/s. -/
def State.perSecond (s : State) (n : Nat) : Nat := n * 1000 / s.get Reg.REPORT_WINDOW_MS

/-- The tier that a window's end brings (R369): a rise by the queue's peak, or a fall by the offered rate. -/
def State.nextTier (s : State) (i : Nat) (st : Stream) (o : Nat → Nat) (cap : Nat) : Nat :=
  let n := s.get (Reg.TIER_NOW i)
  let calm := s.get (Reg.ESC_HOLD i) ≤ st.steady + 1 && st.peak ≤ s.get (Reg.ESC_LOW i)
  if s.get (Reg.ESC_HIGH i) ≤ st.peak && n < s.get (Reg.TIER_MAX i) then n + 1
  else if s.get (Reg.TIER_BASE i) < n && calm && (cap = 0 || 100 * o (n - 1) ≤ s.get Reg.DEESC_PCT * cap) then n - 1
  else n

/-- A tier change takes effect (R370). -/
def State.changeTier (s : State) (i n : Nat) : State :=
  if s.get (Reg.TIER_NOW i) = n then s
  else
    let s1 := s.closeAll i
    (s1.record (Reg.SSTATE_SEQ i)
      [(Reg.TIER_NOW i, n), (Reg.TIER_CHANGES i, (s1.get (Reg.TIER_CHANGES i) + 1) % 2 ^ 32)]).latch 42 (Reg.TIER_NOW i) n

/-- A window ends on a stream (R354, R368 to R370): the summaries are placed, the rates are taken, and the tier moves. -/
def State.windowEnd (s : State) (base i : Nat) : State :=
  let s1 := (s.placeT2 i base false).closePkt i 2
  let st := s1.offeredBytes i
  let o := fun n => s1.perSecond (Tab.get st.closedBytes n)
  let fixed := s1.get (Reg.STREAM_CAPACITY i)
  let cap := if fixed != 0 then fixed else if st.winBusy then s1.perSecond st.winBytes else s1.get (Reg.CAP_EST i)
  let n := s1.nextTier i st o cap
  let same := n = s1.get (Reg.TIER_NOW i)
  let s2 := s1.updStream i fun _ =>
    { st with closedBytes := [], winBytes := 0, winBusy := !st.queue.isEmpty, peak := st.fill,
              steady := if same then st.steady + 1 else 0 }
  let s3 := (s2.putDom (Reg.OFFERED i) ((List.range 4).flatMap fun k => leBytes 4 (o k))).record (Reg.SSTATE_SEQ i)
    [(Reg.CAP_EST i, cap)]
  s3.changeTier i n

/-- REPORT_WINDOW_END (R354). -/
def execReportWindowEnd (s : State) : Host.Outcome State Fault Refusal :=
  if s.mode = .boot then .next s
  else
    let w := s.get Reg.REPORT_WINDOW_MS * 40000
    let s1 := s.enabledStreams.foldl (State.windowEnd · ((s.tim.now - 1) / w * w)) s
    .next { s1 with rep := { s1.rep with before := (s1.rep.seen.map (·.1)).eraseDups, seen := [] } }

/-! ### Credits (R363, R428) -/

/-- Credits are granted to a stream (R363). -/
def State.creditGrant (s : State) (i n : Nat) : Result × State :=
  checks [(16777215 < s.get (Reg.CREDITS i) + n, .range), (s.get (Reg.STREAM_ENABLE i) != 1, .configInvalid)]
    (fun t => t.setCredits i (t.get (Reg.CREDITS i) + n)) s

/-- Credits are granted through a link's shortcut (R428). -/
def State.linkGrant (s : State) (target : Link) (n : Nat) : Result × State :=
  match s.streamOf target with
  | none => (.configInvalid, s)
  | some i => s.creditGrant i n

/-- CREDIT_GRANT (R363). -/
def execCreditGrant (l : Link) (stream : Fin 3) (n : BitVec 32) (s : State) : Host.Outcome State Fault Refusal :=
  .next (s.request l false fun t => t.creditGrant stream n.toNat)

/-- LINK_CREDIT_GRANT (R428). -/
def execLinkCreditGrant (l target : Link) (n : BitVec 32) (s : State) : Host.Outcome State Fault Refusal :=
  .next (s.request l false fun t => t.linkGrant target n.toNat)

/-! ### Delivery by pull (R364, R365) -/

/-- A stream delivers by pull: enabled, and bound to SPT or TWA (R344, R364). -/
def State.pulls (s : State) (i : Nat) : Bool := s.get (Reg.STREAM_ENABLE i) = 1 && s.get (Reg.STREAM_LINK i) != 3

/-- The head packet as REPORT_NEXT reads it (R364, R365, R351). -/
def State.reportNext (s : State) (i : Nat) : Result × Bytes × State :=
  if !s.pulls i then (.configInvalid, [], s)
  else match (s.stream i).head with
    | none => (.ok, [], s)
    | some p =>
      if (s.stream i).shown then (.ok, p.bytes (s.stream i).alive, s)
      else if !p.charged && s.get (Reg.CREDITS i) < p.slots then (.noCredit, [], s)
      else
        let r := (s.charge i p).sendPkt i p
        (.ok, r.1, r.2.updStream i fun st => { st with shown := true })

/-- A packet is released (R364). -/
def State.reportRelease (s : State) (i seq : Nat) : Result × State :=
  if !s.pulls i then (.configInvalid, s)
  else match (s.stream i).head with
    | none => (.range, s)
    | some p => if (s.stream i).shown && p.seq = seq then (.ok, s.delivered i p) else (.range, s)

/-- REPORT_NEXT (R364). -/
def execReportNext (l : Link) (stream : Fin 3) (s : State) : Host.Outcome State Fault Refusal :=
  .next (s.read l fun t => t.reportNext stream)

/-- REPORT_RELEASE (R364). -/
def execReportRelease (l : Link) (stream : Fin 3) (seq : BitVec 32) (s : State) : Host.Outcome State Fault Refusal :=
  .next (s.request l false fun t => t.reportRelease stream seq.toNat)

/-- A write of WM_ACK (R367). -/
def State.wmAck (s : State) (i v : Nat) : Result × State :=
  checks [(v != 1, .range)] (fun t => t.record (Reg.SSTATE_SEQ i) [(Reg.WM_LATCHED i, 0)]) s

/-- WM_ACK (R367). -/
def execWmAck (l : Link) (stream : Fin 3) (s : State) : Host.Outcome State Fault Refusal :=
  .next (s.request l false fun t => t.wmAck stream 1)

/-! ### The hot ring (R373) -/

/-- The records HOT_READ returns: in TIME order, from the cursor, at most 25. -/
def State.hotFrom (s : State) (t : Nat) : List HotRec :=
  (sortBy (fun a b => a.time ≤ b.time) (s.rep.hot.filter fun e => t ≤ e.time)).take 25

/-- HOT_READ (R373). -/
def State.hotRead (s : State) : Result × Bytes × State :=
  let c := s.get Reg.HOT_CURSOR
  let l := s.hotFrom c
  (if !s.rep.hot.isEmpty && c < s.get Reg.HOT_OLDEST then .markLost else .ok, l.flatMap fun e => e.data,
    match l.getLast? with
    | some p => s.put Reg.HOT_CURSOR ((p.time + 1) % 2 ^ 64)
    | none => s)

/-- HOT_READ (R373). -/
def execHotRead (l : Link) (s : State) : Host.Outcome State Fault Refusal := .next (s.read l State.hotRead)

/-! ### Marks and rewinds (R374 to R376) -/

/-- A mark is set (R374). -/
def State.markSet (s : State) (i n : Nat) : Result × State :=
  checks [(7 < n, .range)] (fun t =>
    ({ t with rep := { t.rep with gone := Tab.put t.rep.gone (8 * i + n) 0 } } : State).record (Reg.MARKS_SEQ i)
      [(Reg.MARK_SEQ i n, t.get (Reg.NEXT_SEQ i)), (Reg.MARK_VALID i, setBit (t.get (Reg.MARK_VALID i)) n),
       (Reg.MARK_LOST i, clrBit (t.get (Reg.MARK_LOST i)) n)]) s

/-- Both bits of a mark clear. -/
def State.markDrop (s : State) (i n : Nat) : State :=
  s.record (Reg.MARKS_SEQ i)
    [(Reg.MARK_VALID i, clrBit (s.get (Reg.MARK_VALID i)) n), (Reg.MARK_LOST i, clrBit (s.get (Reg.MARK_LOST i)) n)]

/-- A mark is cleared (R374). -/
def State.markClear (s : State) (i n : Nat) : Result × State :=
  checks [(7 < n, .range)] (fun t => t.markDrop i n) s

/-- The replay of a rewind (R375): archived packets of the stream from a SEQ, flagged; a packet that the host has read
and not released, or that is being pushed, stays the head. -/
def State.startReplay (s : State) (i from_ : Nat) : State :=
  let l := (s.rep.archive.filter fun p => p.stream = i && seqFrom from_ p.seq).map fun p =>
    { p with flags := p.flags ||| 2, charged := false }
  (s.updStream i fun st =>
    if (st.shown || st.pushing.isSome) && st.replay.isEmpty then { st with replay := st.queue.take 1 ++ l, queue := st.queue.drop 1 }
    else { st with replay := l }).record (Reg.MARKS_SEQ i) [(Reg.REWIND_ACTIVE i, 1)]

/-- REWIND (R375, R376). -/
def State.rewind (s : State) (i n : Nat) : Result × State :=
  let valid := (s.get (Reg.MARK_VALID i)).testBit n
  let lost := (s.get (Reg.MARK_LOST i)).testBit n
  if 7 < n || !(valid || lost) then (.range, s)
  else if s.get (Reg.REWIND_ACTIVE i) = 1 then (.busy, s)
  else
    let q := s.get (Reg.MARK_SEQ i n)
    if lost then
      (.markLost, ((s.startReplay i q).record (Reg.MARKS_SEQ i)
        [(Reg.REWIND_LOST_RECORDS i, Tab.get s.rep.gone (8 * i + n) % 2 ^ 32)]).markDrop i n)
    else (.ok, s.startReplay i q)

/-- MARK_SET (R374). -/
def execMarkSet (l : Link) (stream : Fin 3) (n : BitVec 8) (s : State) : Host.Outcome State Fault Refusal :=
  .next (s.request l false fun t => t.markSet stream n.toNat)

/-- MARK_CLEAR (R374). -/
def execMarkClear (l : Link) (stream : Fin 3) (n : BitVec 8) (s : State) : Host.Outcome State Fault Refusal :=
  .next (s.request l false fun t => t.markClear stream n.toNat)

/-- REWIND (R375). -/
def execRewind (l : Link) (stream : Fin 3) (n : BitVec 8) (s : State) : Host.Outcome State Fault Refusal :=
  .next (s.request l false fun t => t.rewind stream n.toNat)

/-- REWIND_DONE (R375): the replayed packets have all gone. -/
def execRewindDone (stream : Fin 3) (s : State) : Host.Outcome State Fault Refusal :=
  .next (if s.get (Reg.REWIND_ACTIVE stream) = 1 && (s.stream stream).replay.isEmpty then
    s.record (Reg.MARKS_SEQ stream) [(Reg.REWIND_ACTIVE stream, 0)] else s)

end Sys2Proof.Machine
end

