-- ==== Sys2Proof/Machine/Store.lean ====
section
/-! DEFINITION. Chapter 11: the managed store: patrol scrub, corrections, uncorrectable lines, row repair and retirement. -/

namespace Sys2Proof.Machine

/-! ### Regions (Table 11.2, Table 11.5) -/

/-- A region's medium (true for MX), base and size in KiB; `none` where the variant has none. -/
def State.regionAt (s : State) (r : Nat) : Option (Bool × Nat × Nat) :=
  let hot := 1024 * s.get Reg.HOT_RING_MIB
  let ring := 1024 * s.get Reg.RING_MIB
  if Variant.big s.variant then
    match r with
    | 0 => some (true, 0, 65536)
    | 1 => some (true, 65536, 65536)
    | 2 => some (true, 131072, 1048576)
    | 3 => some (true, 1179648, hot)
    | 4 => some (true, 1179648 + hot, ring - hot)
    | 5 => some (true, 1179648 + ring, 3014656 - ring)
    | _ => some (false, 0, 4096)
  else
    match r with
    | 0 => some (false, 0, 512)
    | 1 => some (false, 512, 1024)
    | 2 => some (false, 1536, 4096)
    | 3 => some (false, 5632, 4096)
    | 4 => some (false, 9728, 4096)
    | 5 => none
    | _ => some (false, 13824, 256)

/-- REGION_MAP (R396). -/
def State.regionMap (s : State) : Bytes :=
  (List.range 7).flatMap fun r => match s.regionAt r with
    | none => []
    | some (mx, base, size) =>
      leBytes 1 r ++ leBytes 1 (ofBool mx) ++ leBytes 2 0 ++ leBytes 4 base ++ leBytes 4 size ++
        leBytes 4 (s.retiredIn r).length

/-- The row of MX that holds a line of a region (R379). -/
def rowOf (base line : Nat) : Nat := base / 8 + line / 64

/-- INIT_MIB (R385): what the dictionary, the hot ring and the archive have written, by 64 KiB blocks. What calibration
captures and located reads have written is a free value (log entry 5) of at most their regions. -/
def State.initMib (s : State) : Nat :=
  let blocks := fun n => ceilDiv n 65536
  let hot := if s.rep.hotFull then s.hotCap * 40 else 40 * s.rep.hotPtr
  let arch := if s.rep.archFull then s.archCap else s.rep.archPtr
  let other := match s.regionAt 0, s.regionAt 1 with
    | some a, some b => Config.freeValue s.free % ((a.2.2 + b.2.2) / 64 + 1)
    | _, _ => 0
  (blocks (64 * s.rep.dictNext) + blocks hot + blocks arch + other) * 64 / 1024

/-! ### The outer code (R382, R383) -/

/-- A product in GF(2⁸) with the field polynomial x⁸ + x⁴ + x³ + x² + 1 (R382). -/
def gfMul (a b : Nat) : Nat :=
  ((List.range 8).foldl (fun (p : Nat × Nat) i =>
    (if a.testBit i then p.1 ^^^ p.2 else p.1, if 128 ≤ p.2 then 2 * p.2 ^^^ 0x11D else 2 * p.2)) (0, b)).1

/-- αᵏ. -/
def gfPow : Nat → Nat
  | 0 => 1
  | k + 1 => gfMul 2 (gfPow k)

/-- The inverse in GF(2⁸): the 254th power. -/
def gfInv (a : Nat) : Nat :=
  let x := (List.range 6).foldl (fun p _ => gfMul (gfMul p p) a) a
  gfMul x x

/-- A quotient in GF(2⁸). -/
def gfDiv (a b : Nat) : Nat := gfMul a (gfInv b)

/-- The syndromes S₀ to S₃ of a line: the code is linear, so they are those of its wrong bytes. Byte i of the line is the
coefficient of xⁱ (log entry 25). -/
def syndrome (wrong : List (Fin 132 × Byte)) (j : Nat) : Nat :=
  wrong.foldl (fun x e => x ^^^ gfMul e.2.toNat (gfPow (j * e.1.val))) 0

/-- The pattern of at most two wrong bytes that has these syndromes, if there is one (R382): its length is unique, the
distance being 5. -/
def patternOf (s0 s1 s2 s3 : Nat) : Option (List (Nat × Nat)) :=
  if s0 = 0 && s1 = 0 && s2 = 0 && s3 = 0 then some []
  else
    let x := gfDiv s1 s0
    if s0 != 0 && gfMul s1 x = s2 && gfMul s2 x = s3 then
      ((List.range 132).find? fun p => gfPow p = x).map fun p => [(p, s0)]
    else
      let det := gfMul s1 s1 ^^^ gfMul s0 s2
      let a := gfDiv (gfMul s1 s2 ^^^ gfMul s0 s3) det
      let b := gfDiv (gfMul s2 s2 ^^^ gfMul s1 s3) det
      match (List.range 132).filter fun p => gfMul (gfPow p) (gfPow p) ^^^ gfMul a (gfPow p) ^^^ b = 0 with
      | [p, q] =>
        let e := gfDiv (s1 ^^^ gfMul s0 (gfPow q)) (gfPow p ^^^ gfPow q)
        if det = 0 || e = 0 || s0 ^^^ e = 0 then none else some [(p, e), (q, s0 ^^^ e)]
      | _ => none

/-- What CX takes for the errors of a line (R382); none where the line is uncorrectable. -/
def lineDecode (wrong : List (Fin 132 × Byte)) : Option (List (Nat × Nat)) :=
  patternOf (syndrome wrong 0) (syndrome wrong 1) (syndrome wrong 2) (syndrome wrong 3)

/-- The data bytes of a line that stay wrong after what CX has corrected: none after a right correction; after an error of
three or more bytes that was taken for another, the data returned (R383). -/
def lineLeft (wrong : List (Fin 132 × Byte)) (fixed : List (Nat × Nat)) : List (Nat × Byte) :=
  (List.range 128).filterMap fun p =>
    let v := fixed.foldl (fun x e => if e.1 = p then x ^^^ BitVec.ofNat 8 e.2 else x)
      (wrong.foldl (fun (x : Byte) e => if e.1.val = p then x ^^^ e.2 else x) 0)
    if v = 0 then none else some (p, v)

/-- Wrong bytes of a line as offsets in what lies from `pos` on for `len` bytes. -/
def flipsAt (line : Nat) (left : List (Nat × Byte)) (pos len : Nat) : List (Nat × Byte) :=
  left.filterMap fun e => if pos ≤ 128 * line + e.1 && 128 * line + e.1 < pos + len then some (128 * line + e.1 - pos, e.2)
    else none

/-- A line of a region keeps wrong data (R383): dictionary entries, T0 records and archived packets are as the line now
gives them. The captures of CAL and the located reads of LOC are held in no line of the model. -/
def State.lineSpoiled (s : State) (r line : Nat) (left : List (Nat × Byte)) : State :=
  if left.isEmpty then s
  else match r with
  | 2 => { s with rep := { s.rep with dict := s.rep.dict.map fun p => (p.1, p.2.xorAt (flipsAt line left (64 * p.1) 64)) } }
  | 3 => { s with rep := { s.rep with hot := s.rep.hot.map fun e => { e with data := xorAt e.data (flipsAt line left (40 * e.slot) 40) } } }
  | 4 =>
    let at_ := fun (p : Pkt) => flipsAt line left p.pos p.length ++
      (flipsAt line left 0 (p.pos + p.length - s.archCap)).map fun x => (x.1 + (s.archCap - p.pos), x.2)
    let spoil := fun (l : List Pkt) => l.map fun p =>
      if s.rep.archive.any fun x => x.stream = p.stream && x.seq = p.seq then { p with flips := p.flips ++ at_ p } else p
    let s1 := { s with rep := { s.rep with archive := spoil s.rep.archive } }
    (List.range 3).foldl (fun t i => t.updStream i fun x =>
      { x with queue := x.queue.map fun p => if p.spilled then (spoil [p]).headD p else p, replay := spoil x.replay }) s1
  | _ => s

/-! ### Corrections and repair (R381, R382, R384, R391, R392) -/

/-- The last error's members, with a counter (R394, Table 11.4). -/
def State.memErr (s : State) (kind r line key : Nat) : State :=
  s.record Reg.MERR_SEQ
    [(key, (s.get key + 1) % 2 ^ 32), (Reg.LAST_ERR_KIND, kind), (Reg.LAST_ERR_REGION, r), (Reg.LAST_ERR_OFFSET, line),
     (Reg.LAST_ERR_TIME, s.tim.now)]

/-- Event 60, again only after its acknowledge (R391). -/
def State.memCorrected (s : State) (key : Nat) : State := if s.latched 60 then s else s.latch 60 key (s.get key)

/-- Spare rows not used, those of repairs that wait taken off. -/
def State.sparesLeft (s : State) : Nat := s.get Reg.SPARE_ROWS_TOTAL - s.get Reg.SPARE_ROWS_USED - s.mem.due.length

/-- A row falls due for repair, where a spare row remains (R392). -/
def State.rowDue (s : State) (row : Nat) : State :=
  if s.mem.due.contains row || s.sparesLeft = 0 then s else { s with mem := { s.mem with due := s.mem.due ++ [row] } }

/-- An outer correction in a row: at REPAIR_THRESHOLD within 24 h the row falls due (R392). -/
def State.rowCorrected (s : State) (row : Nat) : State :=
  let l := s.tim.now :: (Tab.get s.mem.corrected row).filter fun t => s.tim.now - t < 3456000000000
  let s1 := { s with mem := { s.mem with corrected := Tab.put s.mem.corrected row l } }
  if s1.get Reg.REPAIR_THRESHOLD ≤ l.length then s1.rowDue row else s1

/-! ### Uncorrectable lines (R393, R394, Table 11.3) -/

/-- Whether a packet of `len` bytes at `pos` of a ring of `cap` bytes has a byte in a line. -/
def ringInLine (cap pos len line : Nat) : Bool := inLine pos len line || (cap < pos + len && inLine 0 (pos + len - cap) line)

/-- Undelivered records of a stream lost to a memory line (R371). -/
def State.lostMemory (s : State) (i n : Nat) : State :=
  if n = 0 then s
  else ((s.addWide (Reg.LOST_MEMORY_LO i) n).seq (Reg.LOSS_SEQ i)).recordsLost (Reg.LOST_MEMORY_LO i)

/-- Queued packets of a stream that satisfy a test are discarded whole; those undelivered are counted (Table 11.3). -/
def State.discard (s : State) (i : Nat) (hit : Pkt → Bool) : State :=
  let gone := (s.stream i).queue.filter hit
  let s1 := s.updStream i fun x => x.without hit hit
  if gone.isEmpty then s1 else (s1.lostMemory i (gone.map (·.baseRecs)).sum).fillChanged i

/-- A line of the archive: its packets leave it; those that only the archive held are lost, and a rewind passes over
them. -/
def State.archiveLine (s : State) (line : Nat) : State :=
  let hit : Pkt → Bool := fun p => ringInLine s.archCap p.pos p.length line
  let bad := s.rep.archive.filter hit
  let s1 := { s with rep := { s.rep with archive := s.rep.archive.filter fun p => !hit p } }
  (List.range 3).foldl (fun t i =>
    let dead : Pkt → Bool := fun p => bad.any fun b => b.stream = i && b.seq = p.seq
    let u := t.updStream i fun x => x.without (fun _ => false) dead
    u.discard i fun p => p.spilled && dead p) s1

/-- A line of the SRAM queues. -/
def State.queueLine (s : State) (line : Nat) : State :=
  (List.range 3).foldl (fun t i => t.discard i fun p => !p.spilled && !p.again && inLine p.sq (32 * p.slots) line) s

/-- A line of the hot ring: its T0 records are dropped. -/
def State.hotLine (s : State) (line : Nat) : State :=
  let keep := s.rep.hot.filter fun e => !inLine (40 * e.slot) 40 line
  let n := s.rep.hot.length - keep.length
  let s1 := ({ s with rep := { s.rep with hot := keep } }).record Reg.HOT_SEQ
    [(Reg.HOT_OLDEST, ((keep.head?).map fun (e : HotRec) => e.time).getD 0), (Reg.HOT_RECORDS, keep.length)]
  s1.record Reg.MERR_SEQ [(Reg.HOT_LOST, (s1.get Reg.HOT_LOST + n) % 2 ^ 32)]

/-- A line of the dictionary: both entries are forgotten, their indices not given again. -/
def State.dictLine (s : State) (line : Nat) : State :=
  let keep := s.rep.dict.filter fun p => p.1 / 2 != line
  let n := s.rep.dict.length - keep.length
  let s1 := ({ s with rep := { s.rep with dict := keep } }).record Reg.DICT_SEQ [(Reg.DICT_USED, keep.length)]
  s1.record Reg.MERR_SEQ [(Reg.DICT_LOST, (s1.get Reg.DICT_LOST + n) % 2 ^ 32)]

/-- A line of LOC: which tags have a located read in it the spec's layout does not say, so that is a free value (log entry 5). The
range fits of the tags concerned use later reads only. -/
def State.locLine (s : State) : State :=
  let (v, s1) := s.draw
  let lost (t : Track) : Track := if v.testBit (t.tag % 2 ^ 24) then { t with fitFrom := s.tim.now + 1 } else t
  { s1 with trk := { s1.trk with tracks := s1.trk.tracks.map lost } }

/-- Whether a line has been initialised (R385): its block of 64 KiB has been written. Captures, located reads and the SRAM queues
are not laid out by the spec, and each of their lines may have been. -/
def State.lineHeld (s : State) (r line : Nat) : Bool :=
  let first := line / 512 * 65536
  match r with
  | 2 => first < 64 * s.rep.dictNext
  | 3 => s.rep.hotFull || first < 40 * s.rep.hotPtr
  | 4 => s.rep.archFull || first < s.rep.archPtr
  | _ => true

/-- What an uncorrectable line's owner does (Table 11.3). -/
def State.lineLost (s : State) (r line : Nat) : State :=
  match r with
  | 1 => s.locLine
  | 2 => s.dictLine line
  | 3 => s.hotLine line
  | 4 => s.archiveLine line
  | 6 => s.queueLine line
  | _ => s

/-- An uncorrectable line (R392 to R394): event 61, the owner's action, and repair, retirement or, with the list full,
the memory fault of Table 17.4. -/
def State.uncorrectable (s : State) (mx : Bool) (base r line : Nat) : State :=
  let s1 := s.memErr 4 r line Reg.UNCORRECTABLE
  let spare := mx && (s1.mem.due.contains (rowOf base line) || s1.sparesLeft != 0)
  let full := !spare && 4096 ≤ s1.mem.retired.length
  let s2 := if full then s1 else s1.latchAs false 2 61 Reg.LAST_ERR_OFFSET line
  let s3 := s2.lineLost r line
  if spare then s3.rowDue (rowOf base line)
  else if full then s3.criticalFault 5 (some (61, Reg.LAST_ERR_OFFSET, line))
  else if s3.mem.retired.contains (r, line) then s3
  else ({ s3 with mem := { s3.mem with retired := s3.mem.retired ++ [(r, line)] } }).record Reg.MREP_SEQ
    [(Reg.LINES_RETIRED, (s3.get Reg.LINES_RETIRED + 1) % 2 ^ 32)]

/-- A line of MX that CX has corrected in one or two bytes, or used as read (R382, R391). -/
def State.lineCorrected (s : State) (base r line n : Nat) : State :=
  match n with
  | 0 => s
  | 1 => ((s.memErr 1 r line Reg.OUTER_CORR_1).memCorrected Reg.OUTER_CORR_1).rowCorrected (rowOf base line)
  | _ => ((s.memErr 2 r line Reg.OUTER_CORR_2).memCorrected Reg.OUTER_CORR_2).rowCorrected (rowOf base line)

/-- What the read of a line finds, and what it leaves there (R382 to R384); a line that is not initialised reads as zeros without
an access (R385), and no line of RESERVE is ever written (R389). -/
def State.lineRead (s : State) (r line : Nat) (err : MemErr) : State :=
  match s.regionAt r with
  | none => s
  | some (mx, base, size) =>
    if r = 5 || size * 8 ≤ line || !s.lineHeld r line then s
    else match err with
      | .wrong bytes =>
        if !mx then s
        else match lineDecode bytes with
          | none => s.uncorrectable mx base r line
          | some fixed => (s.lineCorrected base r line fixed.length).lineSpoiled r line (lineLeft bytes fixed)
      | .sramSingle => if mx then s else (s.memErr 3 r line Reg.SRAM_CORRECTED).memCorrected Reg.SRAM_CORRECTED
      | .sramDouble => if mx then s else s.uncorrectable mx base r line

/-- SCRUB_STEP (R386): outside BOOT and WATCH. -/
def execScrubStep (region : Fin 7) (line : BitVec 32) (err : MemErr) (last : Bool) (s : State) :
    Host.Outcome State Fault Refusal :=
  if s.mode = .boot || s.mode = .watch then .next s
  else
    let s1 := s.lineRead region line.toNat err
    .next (if last then
      s1.record Reg.MSTATE_SEQ [(Reg.SCRUB_PASSES, (s1.get Reg.SCRUB_PASSES + 1) % 2 ^ 32), (Reg.SCRUB_LAST_END, s1.tim.now)]
    else s1)

/-- ROW_REPAIR_DONE (R392): the copy of the row that has waited longest ends; the spare map goes to CX NVM. -/
def execRowRepairDone (s : State) : Host.Outcome State Fault Refusal :=
  match s.mem.due with
  | [] => .next s
  | row :: rest => .next
    (({ s with mem := { s.mem with due := rest, corrected := Tab.del s.mem.corrected row, rows := s.mem.rows ++ [row] } }).record Reg.MREP_SEQ
      [(Reg.SPARE_ROWS_USED, s.get Reg.SPARE_ROWS_USED + 1), (Reg.REPAIRS, (s.get Reg.REPAIRS + 1) % 2 ^ 32),
       (Reg.REPAIR_MAP_STATE, 1)])

/-- REPAIR_MAP_STORED (R392). -/
def execRepairMapStored (ok : Bool) (s : State) : Host.Outcome State Fault Refusal :=
  if s.get Reg.REPAIR_MAP_STATE != 1 then .next s
  else
    let s1 := s.record Reg.MREP_SEQ [(Reg.REPAIR_MAP_STATE, if ok then 0 else 2)]
    .next (if ok then { s1 with mem := { s1.mem with mapRows := s1.mem.rows } } else s1)

/-- INNER_COUNT_UPDATE (R381): MX's corrections of the last second. -/
def execInnerCountUpdate (n : BitVec 32) (s : State) : Host.Outcome State Fault Refusal :=
  .next (if Variant.big s.variant then
    s.record Reg.MERR_SEQ [(Reg.INNER_CORRECTED, (s.get Reg.INNER_CORRECTED + n.toNat) % 2 ^ 64)] else s)

end Sys2Proof.Machine
end

