-- ==== Sys2Proof/Machine/Hf.lean ====
section
/-! DEFINITION. Chapter 12: HF operations and sessions, Slide, and Breath. -/

namespace Sys2Proof.Machine

/-! ### Cards (Table 12.6) -/

/-- The FLAGS byte of a card-list entry. -/
def State.cardFlags (s : State) (n : Nat) : Nat := ((s.dom Reg.HF_CARD_LIST).getD (16 * n + 15) 0).toNat

/-- A card is ISO-DEP capable: a type A card so flagged, or a type B card. -/
def State.isoDep (s : State) (n : Nat) : Bool := bit (s.cardFlags n) 0

/-- A card's technology: 0 A, 1 B, 2 V. -/
def State.cardTech (s : State) (n : Nat) : Nat := ((s.dom Reg.HF_CARD_LIST).getD (16 * n) 0).toNat

/-- The CRC of a technology's frames, sent low byte first (R398): CRC-A, or CRC-B for B and V. -/
def hfCrc (tech : Nat) (d : Bytes) : Bytes := leBytes 2 (crc (if tech = 0 then 2 else 3) d)

/-- The frame that a RAW exchange sends (Table 12.3): for V with the Sub-carrier flag 0 and the Data-rate flag from HF_V_RATE;
with its CRC where bit 1 of the argument is set. -/
def State.rawFrame (s : State) (tech : Nat) : Bytes :=
  let body := match tech, s.dom Reg.HF_CMD_DATA with
    | 2, b :: r => BitVec.ofNat 8 (putBit (putBit b.toNat 0 false) 1 (bit (s.get Reg.HF_V_RATE) 0)) :: r
    | _, d => d
  if bit (s.get Reg.HF_OP_ARG) 1 then body ++ hfCrc tech body else body

/-- RELEASE of this card sends S(DESELECT): A ISO-DEP or B (Table 12.3). -/
def State.deselects (s : State) (n : Nat) : Bool :=
  s.cardTech n = 1 || (s.cardTech n = 0 && s.isoDep n)

/-- The active card changes; its entry's ACTIVE flag follows. -/
def State.setActive (s : State) (a : Option Nat) : State :=
  let list := ((List.range 8).filter fun n => n < s.get Reg.HF_CARD_COUNT).foldl (fun b n =>
    splice b (16 * n + 15) [BitVec.ofNat 8 (putBit (s.cardFlags n) 2 (a = some n))]) (s.dom Reg.HF_CARD_LIST)
  (s.updHf fun h => { h with active := a }).putDom Reg.HF_CARD_LIST list

/-! ### The field and the session (R399, R402, R405, R416, R326) -/

/-- The field rises for a session: after a full Slide calibration where one is due, then the guard time (Table 12.4,
R416). -/
def State.sessionField (s : State) : State :=
  if s.slideStale then s.startSlide
  else (s.raiseField (s.get Reg.HF_TX_POWER_MW)).updHf fun h => { h with guarding := true }

/-- The plan leaves room for the HF term (R326). -/
def State.hfRoom (s : State) : Bool :=
  let term := 2 * s.get Reg.HF_TX_POWER_MW * s.get Reg.MEAS_CORR
  1024 * s.get Reg.MODEL_MW + term ≤ 1024 * s.get Reg.BUDGET_MW

/-- A session opens (R403): in RUN it waits for room in the plan, which Table 9.3 makes at the next round boundary of every gang
(R326). -/
def State.openSession (s : State) : State :=
  let s1 := s.updHf fun h => { h with session := true, warned := false, excess := 0 }
  if s1.mode = .run && !s1.hfRoom then ({ s1 with val := { s1.val with hfWaits := true } } : State).replanNow none false
  else s1.sessionField

/-- HF_START_DEFERRED (R326): room has been made, and the transaction starts. -/
def execHfStartDeferred (s : State) : Host.Outcome State Fault Refusal :=
  if s.val.hfWaits then .next (({ s with val := { s.val with hfWaits := false } } : State).sessionField).replan else .next s

/-! ### Operations (R403, R404) -/

/-- An accepted operation starts, with the values of its start (R403, R410). -/
def State.opBegins (s : State) (code : Nat) : State :=
  ((s.updHf fun h => { h with op := some (code, s.tim.now), arg := s.get Reg.HF_OP_ARG, cmd := s.dom Reg.HF_CMD_DATA,
                              sent := [], resent := 0, badCrc := false }).record Reg.HOP_SEQ [(Reg.HF_OP_STATE, 1)]).showHf

/-- What an accepted operation does at its start (Table 12.3, R404). -/
def State.hfRun (s : State) (code : Nat) : State :=
  let arg := s.get Reg.HF_OP_ARG
  let t := s.opBegins code
  match code with
  | 1 => if t.hf.session then t.setActive none else t.openSession
  | 2 => if arg < t.get Reg.HF_CARD_COUNT then t.setActive none else t.hfEnd 1 []
  | 3 => match t.hf.active with
    | none => t.hfEnd 10 []
    | some n => if bit arg 0 then t.updHf fun h => { h with sent := t.rawFrame (t.cardTech n) }
      else if t.isoDep n then t else t.hfEnd 10 []
  | 4 => if t.hf.session && (t.hf.active.any t.deselects) then t else (t.hfEnd 0 []).closeSession
  | _ => if s.hf.op.isSome then s.hfStop 7 else (t.hfEnd 0 []).closeSession

/-- A code with its argument is in Table 12.3 (R403, R404). -/
def State.hfArgBad (s : State) (code : Nat) : Bool :=
  let arg := s.get Reg.HF_OP_ARG
  match code with
  | 1 | 4 | 5 => false
  | 2 => 7 < arg
  | 3 => 7 < arg || (s.dom Reg.HF_CMD_DATA).isEmpty
  | _ => true

/-- A write of HF_OP (R403). -/
def State.hfOp (s : State) (code : Nat) : Result × State :=
  checks
    [(!Variant.hx s.variant, .noObject), (s.hfArgBad code, .range), (s.mode != .ready && s.mode != .run, .mode),
     ((s.hf.op.isSome && code != 5) || s.get Reg.COMMIT_STATE != 0, .busy), (s.get Reg.HF_ENABLE = 0, .configInvalid),
     (s.get Reg.HF_STATE = 5, .fault)]
    (fun t => t.hfRun code) s

/-- HF_DISCOVER (R403). -/
def execHfDiscover (l : Link) (s : State) : Host.Outcome State Fault Refusal := .next (s.request l false fun t => t.hfOp 1)

/-- HF_ACTIVATE (R403). -/
def execHfActivate (l : Link) (s : State) : Host.Outcome State Fault Refusal := .next (s.request l false fun t => t.hfOp 2)

/-- HF_EXCHANGE (R403). -/
def execHfExchange (l : Link) (s : State) : Host.Outcome State Fault Refusal := .next (s.request l false fun t => t.hfOp 3)

/-- HF_RELEASE (R403). -/
def execHfRelease (l : Link) (s : State) : Host.Outcome State Fault Refusal := .next (s.request l false fun t => t.hfOp 4)

/-- HF_ABORT (R403). -/
def execHfAbort (l : Link) (s : State) : Host.Outcome State Fault Refusal := .next (s.request l false fun t => t.hfOp 5)

/-- The operation that runs, its field up and its guard time over. -/
def State.hfBusy (s : State) : Option Nat :=
  if s.val.hfWaits || s.hf.guarding || s.hf.calRuns then none else s.hf.op.map fun p => p.1

/-- HF_GUARD_TIME_END (R409): the first command of the session, or of Breath's confirmation burst, is sent. -/
def execHfGuardTimeEnd (s : State) : Host.Outcome State Fault Refusal :=
  .next (if s.hf.step = .confirming false then s.updHf fun h => { h with step := .confirming true }
    else if s.hf.guarding then s.updHf fun h => { h with guarding := false } else s)

/-- The running operation ends with a status; a RELEASE then drops the field and closes the session (Table 12.3). -/
def State.hfEnds (s : State) (code status : Nat) (rsp : Bytes) : State :=
  if code = 4 then (s.hfEnd status []).closeSession else s.hfEnd status rsp

/-- A frame's failure (R407): it is sent again while retries remain; then the operation ends with TIMEOUT or CRC, or with
CARD_LOST when an activated card has stopped answering. DISCOVER goes on without a reply. -/
def State.frameFailed (s : State) (crc : Bool) : State :=
  match s.hfBusy with
  | none => s
  | some code =>
    if s.hf.resent < s.get Reg.HF_RETRIES then s.updHf fun h => { h with resent := h.resent + 1, badCrc := crc }
    else if code = 1 then s.updHf fun h => { h with resent := 0, badCrc := crc }
    else if crc then s.hfEnds code 3 []
    else if s.hf.active.isSome then (s.setActive none).hfEnds code 6 []
    else s.hfEnds code 2 []

/-- The answer of a RAW exchange: without its CRC where the part checked it, the first 1,024 bytes where longer
(Table 12.3, Table 12.7). -/
def State.rawDone (s : State) (frame : Bytes) : State :=
  let body := if bit s.hf.arg 1 then frame.take (frame.length - 2) else frame
  s.hfEnd (if 1024 < body.length then 9 else 0) body

/-- HF_FRAME_RECEIVED (R398, R407): a RAW exchange ends with its reply, whose CRC, where it is checked, the model computes; any
other operation goes on. -/
def execHfFrameReceived (frame : Bytes) (check : FrameCheck) (s : State) : Host.Outcome State Fault Refusal :=
  match s.hfBusy with
  | none => .next s
  | some code =>
    let raw := code = 3 && bit s.hf.arg 0
    let n := frame.length - 2
    let tech := (s.hf.active.map s.cardTech).getD 0
    let good := check = .good && (!raw || (2 ≤ frame.length && frame.drop n = hfCrc tech (frame.take n)))
    .next (if check = .protocol then s.hfEnds code 4 []
      else if raw && !bit s.hf.arg 1 then s.rawDone frame
      else if !good then (s.checked 1 1 1).frameFailed true
      else if raw then (s.checked 1 1 0).rawDone frame
      else (s.checked 1 1 0).updHf fun h => { h with resent := 0 })

/-- HF_REPLY_TIMEOUT (R407). -/
def execHfReplyTimeout (s : State) : Host.Outcome State Fault Refusal := .next (s.frameFailed false)

/-- The cards a DISCOVER found (R406): at most 8, the last flagged MORE where it stopped at 8 or left a collision unresolved. -/
def cardList (cards : List Bytes) (more : Bool) : Bytes :=
  let l := (cards.take 8).map (padTo 16)
  match l.getLast? with
  | none => []
  | some c => (l.dropLast ++ [if more || 8 ≤ cards.length then splice c 15 [c.getD 15 0 ||| 2#8] else c]).flatten

/-- DISCOVER ends (R406). -/
def State.discovered (s : State) (status : Nat) (cards : List Bytes) (more : Bool) : State :=
  let n := min 8 cards.length
  let st := if n != 0 then 0 else if status = 0 then 1 else status
  ((s.putDom Reg.HF_CARD_LIST (cardList cards more)).put Reg.HF_CARD_COUNT n).hfEnd st []

/-- HF_OP_END (R403, R404, R406): what the running operation's protocol has come to. An ACTIVATE gives the ATS of a type A ISO-DEP
card or the answer to ATTRIB, and nothing for another card. -/
def execHfOpEnd (status : Fin 12) (rsp : Bytes) (cards : List Bytes) (more : Bool) (s : State) :
    Host.Outcome State Fault Refusal :=
  match s.hfBusy with
  | none => .next s
  | some code =>
    let s1 := if status.val = 6 then s.setActive none else s
    match code with
    | 1 => .next (s1.discovered status cards more)
    | 2 =>
      let answers := s.cardTech s.hf.arg = 1 || (s.cardTech s.hf.arg = 0 && s.isoDep s.hf.arg)
      .next ((if status.val = 0 then s1.setActive (some s.hf.arg) else s1).hfEnds code status (if answers then rsp else []))
    | _ => .next (s1.hfEnds code (if code = 3 && status.val = 0 && 1024 < rsp.length then 9 else status) rsp)

/-- HF_SESSION_IDLE (R405): reported as a RELEASE with status IDLE_RELEASE; the duration of an operation that was never
written is a free value. -/
def execHfSessionIdle (s : State) : Host.Outcome State Fault Refusal :=
  if !s.hf.session || s.hf.op.isSome then .next s
  else
    let s1 := (s.updHf fun h => { h with op := some (4, s.tim.now) }).hfEnd 11 []
    .next (s1.draw.2.put Reg.HF_OP_DURATION (s1.draw.1 % 2 ^ 32)).closeSession

/-! ### Slide (R411 to R417) -/

/-- The impedance as measured, and the cut of R413: events 58 and 59, and OUT with cause SLIDE. -/
def State.slideSeen (s : State) (phase z : Nat) : State :=
  let s1 := s.record Reg.SLIDE_SEQ [(Reg.SLIDE_PHASE, phase), (Reg.SLIDE_Z, z)]
  if z < s1.get Reg.SLIDE_Z_CUT_LOW || s1.get Reg.SLIDE_Z_CUT_HIGH < z then (s1.slideMismatch true).hfFault 2 else s1

/-- A code stepped by at most one, within 0 to 63. -/
def stepCode (c : Nat) (d : Int) : Nat := if 0 < d then min 63 (c + 1) else if d < 0 then c - 1 else c

/-- SLIDE_TRACK_TICK (R411 to R413): at most one code takes one step. -/
def execSlideTrackTick (dcs dcp phase : Int) (z : BitVec 16) (s : State) : Host.Outcome State Fault Refusal :=
  if s.hf.fieldAt.isNone || s.hf.calRuns || s.mode = .watch || s.get Reg.HF_STATE = 5 then .next s
  else
    let cs := s.get Reg.SLIDE_CS
    let cp := s.get Reg.SLIDE_CP
    let s1 := s.recordIf Reg.SLIDE_SEQ
      (if dcs != 0 then [(Reg.SLIDE_CS, stepCode cs dcs)] else [(Reg.SLIDE_CP, stepCode cp dcp)])
    let beyond := s1.i16 Reg.SLIDE_PHASE_WARN < phase.natAbs
    let s2 := s1.updHf fun h => { h with excess := if beyond then h.excess + 1 else 0 }
    let s3 := s2.slideSeen (ofInt 16 phase) z.toNat
    .next (if 10 ≤ s3.hf.excess && s3.get Reg.HF_STATE != 5 then s3.slideMismatch false else s3)

/-- HF_DRIVER_FAULT (R414): once until it has been cleared. -/
def execHfDriverFault (why : DriverFault) (s : State) : Host.Outcome State Fault Refusal :=
  let cause := match why with | .supply => 5 | _ => 3
  if !Variant.hx s.variant || (s.get Reg.HF_STATE = 5 && s.get Reg.HF_OUT_CAUSE = cause) then .next s
  else .next (s.hfFault cause)

/-- A write of HF_FAULT_CLEAR (R413, R414): after a Slide fault the first field rise calibrates. -/
def State.hfFaultClear (s : State) (v : Nat) : Result × State :=
  checks [(!Variant.hx s.variant, .noObject), (v != 1, .range)] (fun t =>
    let c := t.get Reg.HF_OUT_CAUSE
    if t.get Reg.HF_STATE = 5 && (c = 2 || c = 3 || c = 5) then
      (if c = 2 then t.updHf fun h => { h with calDue := true } else t).hfBack
    else t) s

/-- HF_FAULT_CLEAR (R413). -/
def execHfFaultClear (l : Link) (s : State) : Host.Outcome State Fault Refusal :=
  .next (s.request l false fun t => t.hfFaultClear 1)

/-- HF_PLL_UNLOCK (R410, R417): three unlocks within 10 s take HX out, unless another cause holds it OUT. -/
def execHfPllUnlock (s : State) : Host.Outcome State Fault Refusal :=
  if !Variant.hx s.variant || (s.get Reg.HF_STATE = 5 && s.get Reg.HF_OUT_CAUSE = 1) then .next s
  else
    let times := s.tim.now :: s.hf.unlocks.filter fun t => s.tim.now - t < tenSeconds
    let s1 := ((s.hfFieldFault).updHf fun h => { h with unlocks := times }).latch 22 Reg.HF_OUT_CAUSE 1
    .next (if 3 ≤ times.length && s.get Reg.HF_STATE != 5 then (s1.updHf fun h => { h with unlocks := [] }).hfOut 1 else s1)

/-- A repeated Slide full calibration (R417, Table 12.5): its codes are free values; a failure is one of Table 12.5 again. -/
def State.slideRetry (s : State) (ok : Bool) : State :=
  if ok then
    let (v, s1) := s.draw
    ((s1.updHf fun h => { h with calDue := false }).record Reg.SLIDE_SEQ
      [(Reg.SLIDE_CS, v % 64), (Reg.SLIDE_CP, v / 64 % 64), (Reg.SLIDE_CAL_TEMP, s.get Reg.HF_DIE_TEMP),
       (Reg.SLIDE_CAL_TIME, s.tim.now)]).hfBack
  else (s.latch 21 Reg.HF_OUT_CAUSE 4).slideMismatch true

/-- HF_RECOVERY_RETRY (R417): the PLL lock, or the Slide full calibration in the modes that let it drive the antenna (R52). -/
def execHfRecoveryRetry (ok : Bool) (s : State) : Host.Outcome State Fault Refusal :=
  .next (if s.get Reg.HF_STATE != 5 then s
    else match s.get Reg.HF_OUT_CAUSE with
      | 1 => if ok then s.hfBack else s
      | 4 => if s.get Reg.HF_ENABLE = 1 && (s.mode = .ready || s.mode = .run) then s.slideRetry ok else s
      | _ => s)

/-- A write of SLIDE_RETUNE (R416); HX raises no field while it is OUT or HF_ENABLE is 0. -/
def State.slideRetune (s : State) (v : Nat) : Result × State :=
  checks [(!Variant.hx s.variant, .noObject), (v != 1, .range), (s.mode != .ready && s.mode != .run, .mode), (s.hf.session || s.hf.calRuns, .busy)]
    (fun t => if t.get Reg.HF_STATE = 5 || t.get Reg.HF_ENABLE = 0 then t else t.startSlide) s

/-- SLIDE_RETUNE (R416). -/
def execSlideRetune (l : Link) (s : State) : Host.Outcome State Fault Refusal := .next (s.request l false fun t => t.slideRetune 1)

/-- A full Slide calibration succeeds (R412, R415, R416): where a session waits for it, its field rises. -/
def State.slideCalPasses (s : State) (cs cp : Nat) (phase z temp : Nat) : State :=
  let s1 := (s.updHf fun h => { h with calRuns := false }).record Reg.SLIDE_SEQ
    [(Reg.SLIDE_CS, cs), (Reg.SLIDE_CP, cp), (Reg.SLIDE_CAL_TEMP, temp), (Reg.SLIDE_CAL_TIME, s.tim.now)]
  let s2 := s1.slideSeen phase z
  let s3 := if s2.i16 Reg.SLIDE_PHASE_WARN < (toInt 16 phase).natAbs && s2.get Reg.HF_STATE != 5 then s2.slideMismatch false else s2
  let s4 := if s3.get Reg.HF_STATE = 5 && s3.get Reg.HF_OUT_CAUSE = 4 then s3.hfBack else s3
  if s4.hf.op.isSome && s4.hf.session && s4.get Reg.HF_STATE != 5 then s4.sessionField
  else if s4.hf.test then s4.raiseField (s4.get Reg.TEST_HF_POWER_MW) else s4.dropField

/-- A full Slide calibration fails (Table 12.5). -/
def State.slideCalFails (s : State) : State :=
  let s1 := (s.updHf fun h => { h with calRuns := false }).hfOut 4
  (s1.latch 21 Reg.HF_OUT_CAUSE 4).slideMismatch true

/-- SLIDE_CAL_DONE (R415). -/
def execSlideCalDone (ok : Bool) (cs cp : Fin 64) (phase : Int) (z : BitVec 16) (temp : Int) (s : State) :
    Host.Outcome State Fault Refusal :=
  if !s.hf.calRuns then .next s
  else .next (if ok then s.slideCalPasses cs cp (ofInt 16 phase) z.toNat (ofInt 16 temp) else s.slideCalFails)

/-! ### Breath (R415, R418 to R422) -/

/-- A pulse triggers (R418); the baseline is held in 1/64. -/
def State.triggers (s : State) (amp phase : Int) : Bool :=
  (s.get Reg.BREATH_AMP_THRESH : Int) * s.hf.amp ≤ 1000 * (64 * amp - s.hf.amp).natAbs ||
    64 * s.i16 Reg.BREATH_PHASE_THRESH ≤ (64 * wrapAngle (phase - s.hf.phase / 64) - s.hf.phase % 64).natAbs

/-- The baseline follows an untriggered pulse by 1/64 of the difference (R421). -/
def State.follow (s : State) (amp phase : Int) : State :=
  s.updHf fun h => { h with amp := h.amp + (64 * amp - h.amp) / 64,
                            phase := h.phase + wrapAngle (phase - h.phase / 64), step := .idle }

/-- Sense pulses are counted, with their field time. -/
def State.pulses (s : State) (n : Nat) : State :=
  (s.record Reg.BREATH_SEQ [(Reg.BREATH_PULSES, (s.get Reg.BREATH_PULSES + n) % 2 ^ 32)]).record Reg.HSTATE_SEQ
    [(Reg.HF_FIELD_ON_US, (s.get Reg.HF_FIELD_ON_US + n * s.get Reg.BREATH_PULSE_US) % 2 ^ 64)]

/-- A confirmed detection (R420). -/
def State.cardDetected (s : State) : State :=
  let s1 := s.dropField.updHf fun h => { h with step := .idle, cutAt := none }
  let n := (s1.get Reg.BREATH_TRIGGERS + 1) % 2 ^ 32
  ((s1.record Reg.BREATH_SEQ [(Reg.BREATH_TRIGGERS, n)]).latch 56 Reg.BREATH_TRIGGERS n).wakeSource 0

/-- A detection that is not confirmed (R420, R421): counted, the period backed off, and the baseline acquired again. -/
def State.falseDetection (s : State) : State :=
  let l := s.tim.now :: s.hf.falses.filter fun t => s.tim.now - t < 2400000000
  let back := s.get Reg.BREATH_BACKOFF
  let hit := back != 0 && back ≤ l.length
  let s1 := s.dropField.updHf fun h => { h with step := .idle, again := false, falses := if hit then [] else l }
  s1.record Reg.BREATH_SEQ
    [(Reg.BREATH_FALSE, (s1.get Reg.BREATH_FALSE + 1) % 2 ^ 32), (Reg.BREATH_STATE, 1),
     (Reg.BREATH_PERIOD_NOW, if hit then min 1000 (2 * s1.get Reg.BREATH_PERIOD_NOW) else s1.get Reg.BREATH_PERIOD_NOW)]

/-- BREATH_PULSE (R418, R421). -/
def execBreathPulse (amp phase : Int) (s : State) : Host.Outcome State Fault Refusal :=
  if s.mode != .watch || s.get Reg.BREATH_STATE != 2 || s.hf.step != .idle then .next s
  else
    let s1 := s.pulses 1
    .next (if s1.triggers amp phase then s1.updHf fun h => { h with step := .second } else s1.follow amp phase)

/-- BREATH_SECOND_PULSE (R419). -/
def execBreathSecondPulse (amp phase : Int) (s : State) : Host.Outcome State Fault Refusal :=
  if s.mode != .watch || s.hf.step != .second then .next s
  else
    let s1 := s.pulses 1
    .next (if !s1.triggers amp phase then s1.follow amp phase
      else if s1.get Reg.BREATH_CONFIRM_TECH = 0 then s1.cardDetected
      else (s1.raiseField (s1.get Reg.HF_TX_POWER_MW)).updHf fun h => { h with step := .confirming false })

/-- BREATH_CONFIRM_END (R419, R420): also one that completes in the tick of the wake that cut it (R422). -/
def execBreathConfirmEnd (sof : Bool) (s : State) : Host.Outcome State Fault Refusal :=
  match s.hf.step with
  | .confirming _ => .next (if sof then s.cardDetected else s.falseDetection)
  | _ => .next (if sof && s.hf.cutAt = some s.tim.now then s.cardDetected else s)

/-- BREATH_BASELINE_DONE (Table 12.5). -/
def execBreathBaselineDone (amp phase : Int) (ok : Bool) (s : State) : Host.Outcome State Fault Refusal :=
  if s.mode != .watch || s.get Reg.BREATH_STATE != 1 then .next s
  else
    let s1 := s.pulses 8
    .next (if ok then (s1.updHf fun h => { h with amp := 64 * amp, phase := 64 * phase, again := false, step := .idle }).record
        Reg.BREATH_SEQ [(Reg.BREATH_STATE, 2)]
      else if s1.hf.again then (s1.record Reg.BREATH_SEQ [(Reg.BREATH_STATE, 3)]).showHf
      else s1.updHf fun h => { h with again := true })

end Sys2Proof.Machine
end

