-- ==== Sys2Proof/Machine/Flash.lean ====
section
/-! DEFINITION. The contents of the serial flashes (chapter 14), held in one canonical form: addresses strictly rising, and no
byte listed that equals what an address not listed reads as. -/

namespace Sys2Proof.Machine

/-- What an address not listed reads as: the erased byte. -/
def Memory.blank : Byte := 0xFF#8

/-- The canonical form: rising addresses from `lo` on, no blank byte. -/
def Memory.wfFrom : Nat → Memory → Bool
  | _, [] => true
  | lo, (a, b) :: r => decide (lo ≤ a) && (b != Memory.blank) && Memory.wfFrom (a + 1) r

/-- The canonical form. -/
def Memory.wf (m : Memory) : Bool := Memory.wfFrom 0 m

/-- The byte at an address. -/
def Memory.read : Memory → Nat → Byte
  | [], _ => Memory.blank
  | (x, b) :: r, a => if a = x then b else Memory.read r a

/-- A byte written: a blank one removes its entry. -/
def Memory.write : Memory → Nat → Byte → Memory
  | [], a, v => if v = Memory.blank then [] else [(a, v)]
  | (x, b) :: r, a, v =>
    if a < x then (if v = Memory.blank then (x, b) :: r else (a, v) :: (x, b) :: r)
    else if a = x then (if v = Memory.blank then r else (a, v) :: r)
    else (x, b) :: Memory.write r a v

/-- Bytes written from an address on. -/
def Memory.writeAll : Memory → Nat → Bytes → Memory
  | m, _, [] => m
  | m, a, v :: r => Memory.writeAll (Memory.write m a v) (a + 1) r

/-- The `n` bytes from an address on. -/
def Memory.readAll (m : Memory) (a : Nat) : Nat → Bytes
  | 0 => []
  | n + 1 => Memory.read m a :: Memory.readAll m (a + 1) n

/-- A range erased. -/
def Memory.erase (m : Memory) (a n : Nat) : Memory := m.filter fun c => c.1 < a || a + n ≤ c.1

/-- The contents of a flash. -/
def State.flash (s : State) (n : Nat) : Memory := (Tab.find s.brd.flash n).getD []

/-- Before an access to flash 0 that is no window read of the boot ROM or the secure core: one mode-exit transaction takes
flash 0 out of continuous-read mode (R474). -/
def Brd.modeExit (b : Brd) : Brd :=
  if b.continuous then { b with continuous := false, modeExits := b.modeExits + 1 } else b

/-- An access to flash `n` with its full command (R474). -/
def State.flashOther (s : State) (n : Nat) : State := if n = 0 then { s with brd := s.brd.modeExit } else s

/-- An SPC operation of the host is queued or runs on flash `n`: the part starts no transaction of its own there (R478). -/
def State.flashTaken (s : State) (n : Nat) : Bool := s.brd.spc.any fun o => o.flash = n

/-- A window read of flash 0 by the boot ROM or the secure core: its bytes come through the prefetch buffer (R474). -/
def State.secureRead (s : State) : State :=
  { s with brd := { s.brd with prefetch := true, continuous := Config.continuousRead (s.get (Reg.READ_MODE 0)) } }

/-- The contents of a flash changed by a program or an erase, which empties the prefetch buffer of flash 0 (R474). -/
def State.updFlash (s : State) (n : Nat) (f : Memory → Memory) : State :=
  let b := if n = 0 then { s.brd.modeExit with prefetch := false } else s.brd
  { s with brd := { b with flash := Tab.put s.brd.flash n (f (s.flash n)) } }

/-- A range of a flash left with unknown contents: every byte of it is a free value (log entry 5). -/
def State.scramble (s : State) (n a len : Nat) : State :=
  let fresh := (List.range len).map fun i => BitVec.ofNat 8 (Config.freeValue (s.free + i))
  ({ s with free := s.free + len }).updFlash n fun m => m.writeAll a fresh

end Sys2Proof.Machine
end

