-- ==== Sys2Proof/Machine/Board.lean ====
section
/-! DEFINITION. Chapter 14: SPC operations on the flashes, the two-wire controller, and GPIO. -/

namespace Sys2Proof.Machine

/-! ### SPC (R477, R478) -/

/-- The size of a flash in bytes. -/
def State.flashSize (s : State) (n : Nat) : Nat := 1024 * s.get (Reg.FLASH_SIZE_KIB n)

/-- Check 6 of R477. -/
def State.spcRange (s : State) (code : Nat) : Bool :=
  let n := s.get Reg.SPC_OP_FLASH
  let a := s.get Reg.SPC_OP_ADDRESS
  let len := s.get Reg.SPC_OP_LEN
  let badLen := len = 0 || 256 < len
  match code with
  | 1 => badLen || s.flashSize n < a + len
  | 2 => badLen || 256 < a % 256 + len || (s.dom Reg.SPC_OP_DATA).length != len || s.flashSize n < a + len
  | 3 => a % 4096 != 0 || s.flashSize n < a + 4096
  | 4 => a % 65536 != 0 || s.flashSize n < a + 65536
  | _ => false

/-- A write of SPC_OP, checked in R477's own order. -/
def State.spcOp (s : State) (code : Nat) : Result × State :=
  let n := s.get Reg.SPC_OP_FLASH
  checks
    [(s.get Reg.SPC_OP_STATE = 1 || s.get Reg.SPC_OP_STATE = 2, .busy), (code = 0 || 5 < code, .range),
     (s.brd.inForce.count ≤ n, .configInvalid), (s.get (Reg.FLASH_STATE n) != 1, .fault),
     (2 ≤ code && code ≤ 4 && n = 0 && s.get Reg.SPC_OP_ADDRESS < 0x1000000, .denied), (s.spcRange code, .range)]
    (fun t =>
      let op : SpcOp := ⟨code, n, t.get Reg.SPC_OP_ADDRESS, t.get Reg.SPC_OP_LEN, t.dom Reg.SPC_OP_DATA, t.tim.now⟩
      ({ t with brd := { t.brd with spc := some op } }).record Reg.SPCOP_SEQ [(Reg.SPC_OP_STATE, 1)]) s

/-- SPC_READ (R477). -/
def execSpcRead (l : Link) (s : State) : Host.Outcome State Fault Refusal := .next (s.request l false fun t => t.spcOp 1)

/-- SPC_PROGRAM (R477). -/
def execSpcProgram (l : Link) (s : State) : Host.Outcome State Fault Refusal := .next (s.request l false fun t => t.spcOp 2)

/-- SPC_ERASE_4K (R477). -/
def execSpcErase4k (l : Link) (s : State) : Host.Outcome State Fault Refusal := .next (s.request l false fun t => t.spcOp 3)

/-- SPC_ERASE_64K (R477). -/
def execSpcErase64k (l : Link) (s : State) : Host.Outcome State Fault Refusal := .next (s.request l false fun t => t.spcOp 4)

/-- SPC_READ_SFDP (R477). -/
def execSpcReadSfdp (l : Link) (s : State) : Host.Outcome State Fault Refusal := .next (s.request l false fun t => t.spcOp 5)

/-- A flash error: counted, and event 54 (R478). -/
def State.flashError (s : State) (n : Nat) : State :=
  let k := (s.get (Reg.FLASH_ERRORS n) + 1) % 2 ^ 32
  (s.record (Reg.FINFO_SEQ n) [(Reg.FLASH_ERRORS n, k)]).latch 54 (Reg.FLASH_ERRORS n) k

/-- The queued operation starts once no flash transaction is in progress (R478): at the next tick, each of the part's own being one
step. -/
def State.spcTick (s : State) : State :=
  if s.get Reg.SPC_OP_STATE = 1 then s.record Reg.SPCOP_SEQ [(Reg.SPC_OP_STATE, 2)] else s

/-- What an operation leaves in its flash, and its answer (Table 14.2): a failed program or erase leaves its range
unknown. -/
def State.spcEffect (s : State) (o : SpcOp) (status : Nat) (sfdp : Bytes) : Bytes × State :=
  let done := status = 0
  match o.code with
  | 1 => ((s.flash o.flash).readAll o.addr o.len, s.flashOther o.flash)
  | 2 => ([], if done then s.updFlash o.flash fun m => m.writeAll o.addr o.data else s.scramble o.flash o.addr o.len)
  | 3 => ([], if done then s.updFlash o.flash fun m => m.erase o.addr 4096 else s.scramble o.flash o.addr 4096)
  | 4 => ([], if done then s.updFlash o.flash fun m => m.erase o.addr 65536 else s.scramble o.flash o.addr 65536)
  | _ => ((sfdp.take o.len).take 256, s.flashOther o.flash)

/-- SPC_OP_END (R478). -/
def execSpcOpEnd (status : Fin 4) (sfdp : Bytes) (s : State) : Host.Outcome State Fault Refusal :=
  match s.brd.spc with
  | none => .next s
  | some o =>
    let r := s.spcEffect o status sfdp
    let t := { r.2 with brd := { r.2.brd with spc := none } }
    let t1 := (t.putDom Reg.SPC_RSP_DATA r.1).record Reg.SPCOP_SEQ
      [(Reg.SPC_OP_STATUS, status), (Reg.SPC_OP_DURATION, (t.tim.now - o.since) / 40 % 2 ^ 32),
       (Reg.SPC_OPS, (t.get Reg.SPC_OPS + 1) % 2 ^ 32), (Reg.SPC_OP_STATE, 3)]
    .next (if status.val = 0 then t1 else t1.flashError o.flash)

/-! ### TWB (R480 to R485) -/

/-- The controller's hidden part changed. -/
def State.updTwb (s : State) (f : Brd → Brd) : State := { s with brd := f s.brd }

/-- A transfer ends (R481): status, refused byte, data and state as one group update. -/
def State.twbEnd (s : State) (status state nack : Nat) (rdata : Bytes) : State :=
  ((s.updTwb fun b => { b with twb := .idle }).putDom Reg.TWB_RDATA rdata).record Reg.TWB_SEQ
    [(Reg.TWB_STATUS, status), (Reg.TWB_NACK_BYTE, nack), (Reg.TWB_STATE, state)]

/-- The bus is unusable (R482, R484): TWB_STUCKS, and event 52 at the entry to state 3. -/
def State.twbStuck (s : State) (was : Nat) : State :=
  let n := (s.get Reg.TWB_STUCKS + 1) % 2 ^ 32
  let s1 := s.record Reg.TWB_SEQ [(Reg.TWB_STUCKS, n), (Reg.TWB_STATE, 3)]
  if was = 3 then s1 else s1.latch 52 Reg.TWB_STUCKS n

/-- Before a START (R482): a free bus, a recovery that succeeds, or one that does not. -/
def State.twbStart (s : State) (bus : TwbBus) : State :=
  let run := s.updTwb fun b => { b with twb := .running, sclHeld := false }
  let count := fun (t : State) => t.record Reg.TWB_SEQ [(Reg.TWB_RECOVERIES, (t.get Reg.TWB_RECOVERIES + 1) % 2 ^ 32)]
  match bus with
  | .free => run
  | .recovers => count run
  | .stuck => ((count s).twbEnd 4 3 0 []).twbStuck 1

/-- A write of TWB_GO, checked in R481's own order. -/
def State.twbGo (s : State) (value : Nat) (bus : TwbBus) : Result × State :=
  let a := s.get Reg.TWB_ADDR
  let empty := (s.dom Reg.TWB_WDATA).isEmpty && s.get Reg.TWB_RLEN = 0
  checks
    [(s.get Reg.TWB_STATE = 1, .busy), (s.get Reg.TWB_STATE = 3, .busStuck), (a < 8 || 0x77 < a || empty || value != 1, .range)]
    (fun t =>
      let t1 := t.updTwb fun b => { b with twbAddr := a, twbData := t.dom Reg.TWB_WDATA, twbLen := t.get Reg.TWB_RLEN,
                                           twbLeft := t.get Reg.TWB_RETRIES, twbSeen := false }
      (t1.record Reg.TWB_SEQ [(Reg.TWB_STATE, 1)]).twbStart bus) s

/-- TWB_GO (R481, R482). -/
def execTwbGo (l : Link) (bus : TwbBus) (s : State) : Host.Outcome State Fault Refusal :=
  .next (s.request l false fun t => t.twbGo 1 bus)

/-- A write of TWB_RECOVER (R483). -/
def State.twbRecover (s : State) (value : Nat) (ok : Bool) : Result × State :=
  checks [(value != 1, .range), (s.get Reg.TWB_STATE = 1, .busy)]
    (fun t =>
      let t1 := (t.updTwb fun b => { b with sclHeld := false }).record Reg.TWB_SEQ
        [(Reg.TWB_RECOVERIES, (t.get Reg.TWB_RECOVERIES + 1) % 2 ^ 32)]
      if ok then t1.record Reg.TWB_SEQ [(Reg.TWB_STATE, 0)] else t1.twbStuck (t.get Reg.TWB_STATE)) s

/-- TWB_RECOVER (R483). -/
def execTwbRecover (l : Link) (ok : Bool) (s : State) : Host.Outcome State Fault Refusal :=
  .next (s.request l false fun t => t.twbRecover 1 ok)

/-- TWB_TRANSFER_END (R480): done, or ended by a not-acknowledge. -/
def execTwbTransferEnd (how : TwbEnd) (nackByte : BitVec 8) (rdata : Bytes) (s : State) :
    Host.Outcome State Fault Refusal :=
  if s.brd.twb != .running then .next s
  else match how with
    | .done => .next (s.twbEnd 0 2 0 (rdata.take s.brd.twbLen))
    | .addrNack => .next (s.twbEnd 1 2 0 [])
    | .dataNack => .next (s.twbEnd 2 2 nackByte.toNat [])

/-- TWB_SCL_TIMEOUT (R484): the transfer ends; STOP waits for TWB_SCL. -/
def execTwbSclTimeout (s : State) : Host.Outcome State Fault Refusal :=
  if s.brd.twb != .running then .next s
  else .next ((s.twbEnd 5 2 0 []).updTwb fun b => { b with sclHeld := true })

/-- TWB_SCL_STUCK (R484). -/
def execTwbSclStuck (s : State) : Host.Outcome State Fault Refusal :=
  if !s.brd.sclHeld then .next s
  else .next (((s.updTwb fun b => { b with sclHeld := false }).record Reg.TWB_SEQ [(Reg.TWB_STATUS, 4)]).twbStuck
    (s.get Reg.TWB_STATE))

/-- TWB_CONFLICT (R485): both lines are released; counted and latched once for each TWB_GO. -/
def execTwbConflict (s : State) : Host.Outcome State Fault Refusal :=
  if s.brd.twb != .running then .next s
  else
    let s1 := s.updTwb fun b => { b with twb := .conflict, twbSeen := true }
    let n := (s.get Reg.TWB_CONFLICTS + 1) % 2 ^ 32
    .next (if s.brd.twbSeen then s1 else (s1.record Reg.TWB_SEQ [(Reg.TWB_CONFLICTS, n)]).latch 53 Reg.TWB_CONFLICTS n)

/-- TWB_BUS_RELEASED (R484, R485): STOP is issued; a conflict's transfer waits to start again, or ends. -/
def execTwbBusReleased (s : State) : Host.Outcome State Fault Refusal :=
  let s1 := s.updTwb fun b => { b with sclHeld := false }
  if s.brd.twb != .conflict then .next s1
  else if s.brd.twbLeft = 0 then .next (s1.twbEnd 3 2 0 [])
  else .next (s1.updTwb fun b => { b with twb := .again })

/-- TWB_RETRY (R485): 1 ms after a conflict's STOP. -/
def execTwbRetry (bus : TwbBus) (s : State) : Host.Outcome State Fault Refusal :=
  if s.brd.twb != .again then .next s
  else .next ((s.updTwb fun b => { b with twbLeft := b.twbLeft - 1 }).twbStart bus)

/-! ### GPIO (R486 to R488) -/

/-- GPIO_OWNED: the selects of the fitted flashes (R487). -/
def State.gpioOwned (s : State) : Nat := maskOf (0 :: s.brd.inForce.selects.take (s.brd.inForce.count - 1))

/-- GPIO_IN (R488): outputs read what they drive, and selects are high while idle; an input, or a released open-drain
output, is outside the part: a free value (log entry 5). -/
def State.gpioIn (s : State) : Nat :=
  let out := s.get Reg.GPIO_DIR
  let drive := fun p => out.testBit p && !((s.get Reg.GPIO_OPEN_DRAIN).testBit p && s.brd.gpioOut.testBit p)
  let busy := fun p => s.get Reg.SPC_OP_STATE = 2 && s.brd.spc.any fun o =>
    (if o.flash = 0 then 0 else s.brd.inForce.selects.getD (o.flash - 1) 0) = p
  maskOf ((List.range 24).filter fun p =>
    if s.gpioOwned.testBit p then !busy p
    else if drive p then s.brd.gpioOut.testBit p
    else (Config.freeValue s.free).testBit p)

/-- The balls of Table 18.6. -/
inductive Ball where
  | sptMiso | twaScl | twaSda | twaAlert | irq
  | canTx (n : Fin 2)
  | spcSck
  | spcIo (n : Fin 4)
  | gpio (n : Fin 24)
  | twbScl | twbSda | tdo
  | bell (n : Fin 16)
  | hfTx
  deriving DecidableEq, Repr

/-- What the part puts on a ball: nothing, an open drain let go, a level it drives, a level an internal 50 kΩ resistor holds, or
a signal of its own (frames, a clock, a carrier). -/
inductive BallDrive where
  | highZ | released | high | pulledHigh | pulledLow | signal | noOutput
  deriving DecidableEq, Repr

/-- A ball before POR release or while RESET_N is low (R578, Table 18.6). -/
def Ball.inReset : Ball → BallDrive
  | .sptMiso | .spcIo _ | .gpio _ | .tdo => .highZ
  | .twaScl | .twaSda | .twaAlert | .irq | .twbScl | .twbSda => .released
  | .canTx _ => .pulledHigh
  | .spcSck => .pulledLow
  | .bell _ | .hfTx => .noOutput

/-- A ball from reset release to the end of BOOT (R578, Table 18.6); RESET_RELEASE holds step 4 of Sequence 2.1, from which the
flash selects are driven high (R486). TDO shifts only under a debug port that drives it (R538), which is no command here. -/
def State.inBoot (s : State) : Ball → BallDrive
  | .sptMiso => if s.sys.sptUp then .signal else .highZ
  | .twaScl | .twaSda => if s.sys.twaUp then .signal else .released
  | .twaAlert | .irq | .twbScl | .twbSda => .released
  | .canTx _ => if s.sys.canUp then .signal else .pulledHigh
  | .spcSck | .spcIo _ => .signal
  | .gpio n => if s.gpioOwned.testBit n.val then .high else .highZ
  | .tdo => .highZ
  | .bell n => if s.get (Reg.CHAIN_STATE n.val) = 2 then .signal else .noOutput
  | .hfTx => if s.get Reg.HF_STATE = 0 then .noOutput else .signal

/-- What the part puts on a ball in reset and BOOT (R578); after BOOT the chapter of each interface says it. -/
def State.ballState (s : State) (b : Ball) : Option BallDrive :=
  match s.sys.phase with
  | .porHeld | .resetHeld => some b.inReset
  | .released => if s.mode = .boot then some (s.inBoot b) else none

/-- A write of GPIO_SET or GPIO_CLEAR (R488). -/
def State.gpioDrive (s : State) (mask : Nat) (high : Bool) : Result × State :=
  checks [(mask &&& s.gpioOwned != 0, .denied), (clrMask mask (s.get Reg.GPIO_DIR) != 0 || 2 ^ 24 ≤ mask, .range)]
    (fun t => t.updTwb fun b => { b with gpioOut := if high then b.gpioOut ||| mask else clrMask b.gpioOut mask }) s

/-- GPIO_SET (R488). -/
def execGpioSet (l : Link) (mask : BitVec 32) (s : State) : Host.Outcome State Fault Refusal :=
  .next (s.request l false fun t => t.gpioDrive mask.toNat true)

/-- GPIO_CLEAR (R488). -/
def execGpioClear (l : Link) (mask : BitVec 32) (s : State) : Host.Outcome State Fault Refusal :=
  .next (s.request l false fun t => t.gpioDrive mask.toNat false)

end Sys2Proof.Machine
end

