-- ==== Sys2Proof/Machine/Timers.lean ====
section
/-! DEFINITION. Chapter 15: the timer channels, device time and its discipline, host scans and the check units' self-tests;
and the GATE inputs of chapter 14, whose edges discipline device time and gate the channels. -/

namespace Sys2Proof.Machine

/-! ### Timer channels (R493 to R500) -/

/-- What governs a channel (R497): the committed values, or Valve's while it has claimed the channel. -/
structure TmrCfg where
  clock : Nat
  reload : Nat
  match_ : Nat
  gate : Nat
  level : Nat
  mask : Nat
  deriving DecidableEq, Repr

/-- A channel's values in force: a claimed channel counts at 40 MHz with Valve's reload (R327, R497), and its other
objects read their defaults (log entry 27). -/
def State.tmr (s : State) (n : Nat) : TmrCfg :=
  if s.get (Reg.TMR_OWNER n) = 1 then ⟨0, s.get Reg.STAGGER_PERIOD_US * 40 - 1, 0xFFFFFFFF, 0, 1, 0⟩
  else ⟨s.get (Reg.TMR_CLOCK n), s.get (Reg.TMR_RELOAD n), s.get (Reg.TMR_MATCH n), s.get (Reg.TMR_GATE_SRC n),
    s.get (Reg.TMR_GATE_LEVEL n), s.get (Reg.TMR_EVENT_MASK n)⟩

/-- The level of a gate source (Table 15.1). -/
def State.gateSource (s : State) (src : Nat) : Bool :=
  if 1 ≤ src && src ≤ 8 then s.get (Reg.GATE_LEVEL (src - 1)) = 1
  else if src = 9 then s.chainList.any s.hasDrone
  else if src = 10 then s.hf.fieldAt.isSome
  else s.mode = .run

/-- Whether a channel counts at a tick of its clock (R494, R496). -/
def State.counts (s : State) (n : Nat) : Bool :=
  let c := s.tmr n
  s.sys.timeOn && (c.gate = 0 || ofBool (s.gateSource c.gate) = c.level)

/-- Flags of a channel are set: bit 0 match, bit 1 wrap; event 23 where one is enabled (R495). -/
def State.tmrFlags (s : State) (n flags : Nat) : State :=
  if flags = 0 then s
  else
    let f := s.get (Reg.TMR_FLAGS n) ||| flags
    let s1 := s.puts [(Reg.TMR_FLAGS n, f), (Reg.TMR_FLAGS_ALL, s.get Reg.TMR_FLAGS_ALL ||| flags * 4 ^ n)]
    if (s.tmr n).mask &&& flags != 0 then s1.latch 23 (Reg.TMR_FLAGS n) f else s1

/-- One counting tick of a channel (R493, R495); the wrap of the channel in WAKE_TIMER is a wake source (Table 2.5). -/
def State.tmrTick (s : State) (n : Nat) : State :=
  let c := s.tmr n
  let wrap := c.reload ≤ s.get (Reg.TMR_COUNT n)
  let v := if wrap then 0 else s.get (Reg.TMR_COUNT n) + 1
  let s1 := s.put (Reg.TMR_COUNT n) v
  let s2 := if wrap then s1.bump (Reg.TMR_WRAPS n) else s1
  let s3 := s2.tmrFlags n (ofBool (v = c.match_) + 2 * ofBool wrap)
  if wrap && s.get Reg.WAKE_TIMER = n then s3.wakeSource 1 else s3

/-- TIMER_WRAP (R493). -/
def execTimerWrap (n : Fin 16) (s : State) : Host.Outcome State Fault Refusal :=
  .next (if s.counts n && (s.tmr n).reload ≤ s.get (Reg.TMR_COUNT n) then s.tmrTick n else s)

/-- TIMER_MATCH (R495). -/
def execTimerMatch (n : Fin 16) (s : State) : Host.Outcome State Fault Refusal :=
  let v := if (s.tmr n).reload ≤ s.get (Reg.TMR_COUNT n) then 0 else s.get (Reg.TMR_COUNT n) + 1
  .next (if s.counts n && v = (s.tmr n).match_ then s.tmrTick n else s)

/-- A write of TMR_FLAG_CLEAR (R495). -/
def State.tmrFlagClear (s : State) (n mask : Nat) : Result × State :=
  checks [(3 < mask, .range)] (fun t => t.puts
    [(Reg.TMR_FLAGS n, clrMask (t.get (Reg.TMR_FLAGS n)) mask),
     (Reg.TMR_FLAGS_ALL, clrMask (t.get Reg.TMR_FLAGS_ALL) (mask * 4 ^ n))]) s

/-- TMR_FLAG_CLEAR (R495). -/
def execTmrFlagClear (l : Link) (n : Fin 16) (mask : BitVec 8) (s : State) : Host.Outcome State Fault Refusal :=
  .next (s.request l false fun t => t.tmrFlagClear n mask.toNat)

/-- A write of TMR_RESTART (R498). -/
def State.tmrRestart (s : State) (n v : Nat) : Result × State :=
  checks [(s.get (Reg.TMR_OWNER n) = 1, .denied), (v != 1, .range)]
    (fun t => t.puts [(Reg.TMR_COUNT n, 0), (Reg.TMR_WRAPS n, 0)]) s

/-- TMR_RESTART (R498). -/
def execTmrRestart (l : Link) (n : Fin 16) (v : BitVec 8) (s : State) : Host.Outcome State Fault Refusal :=
  .next (s.request l false fun t => t.tmrRestart n v.toNat)

/-- A group takes staggered counts (R500). -/
def State.loadGroup (s : State) (base n : Nat) : State :=
  (List.range n).foldl (fun t k => t.put (Reg.TMR_COUNT (base + k)) (k * ((t.tmr base).reload + 1) / n)) s

/-- A write of TMR_GROUP_LOAD (R500). -/
def State.groupLoad (s : State) (v : Nat) : Result × State :=
  let base := s.get Reg.TMR_GROUP_BASE
  let n := s.get Reg.TMR_GROUP_N
  let chans := (List.range n).map (base + ·)
  let c := s.tmr base
  checks
    [(chans.any fun k => k < 16 && s.get (Reg.TMR_OWNER k) = 1, .denied), (v != 1 || 16 < base + n, .range),
     (chans.any fun k => (s.tmr k).clock != c.clock || (s.tmr k).reload != c.reload || (s.tmr k).gate != c.gate ||
        (s.tmr k).level != c.level, .configInvalid)]
    (fun t => t.loadGroup base n) s

/-- TMR_GROUP_LOAD (R500). -/
def execTmrGroupLoad (l : Link) (v : BitVec 8) (s : State) : Host.Outcome State Fault Refusal :=
  .next (s.request l false fun t => t.groupLoad v.toNat)

/-- Valve takes the four channels from `base` and loads their phases, or gives up what it held (R327, R497, R500). -/
def State.claimTimers (s : State) (base : Option Nat) : State :=
  if s.val.claimed = base then s
  else
    let own := base.elim [] fun b => (List.range 4).map (b + ·)
    let s1 := (List.range 16).foldl (fun t k => t.put (Reg.TMR_OWNER k) (ofBool (own.contains k))) s
    let s2 := ({ s1 with val := { s1.val with claimed := base } }).put Reg.TMR_CLAIMED (maskOf own)
    base.elim s2 fun b => s2.loadGroup b 4

/-! ### Device time and its discipline (R501 to R507) -/

/-- TICK_RATE_PPB: the sum of both terms, held to ±100,000 ppb (R501, R44). -/
def Tim.rate (t : Tim) : Int := max (-100000) (min 100000 (t.freq + t.slew))

/-- The discipline's terms changed, and shown. -/
def State.setRate (s : State) (freq slew : Int) : State :=
  let t : Tim := { s.tim with freq := freq, slew := slew }
  ({ s with tim := t }).put Reg.TICK_RATE_PPB (ofInt 32 t.rate)

/-- One tick of device time (R501): 1 + TICK_RATE_PPB × 10⁻⁹ ticks, with a fraction of 40 bits. -/
def Tim.advance (t : Tim) : Tim :=
  let sum := ((2 : Int) ^ 40 + t.frac + t.rate * 2 ^ 40 / 1000000000).toNat
  { t with now := (t.now + sum / 2 ^ 40) % 2 ^ 64, frac := sum % 2 ^ 40, phase := (t.phase + 1) % 40000 }

/-- A forward step (R44, R505, R506): both halves move at one tick, and the count interval whose end it crosses is
published SHORT; the next runs from the step. -/
def State.stepTime (s : State) (e : Nat) : State :=
  let s1 := { s with tim := { s.tim with now := (s.tim.now + e) % 2 ^ 64 } }
  match s1.trk.ivals.getLast? with
  | none => s1
  | some i =>
    if s1.tim.now < i.stop || s1.ivalTicks = 0 then s1
    else
      let now := s1.tim.now
      let s2 := s1.cutIvals
      { s2 with trk := { s2.trk with ivals := [{ (default : Ival) with start := now, stop := (now / s2.ivalTicks + 1) * s2.ivalTicks }] } }

/-- The first accepted event fixes EXT_OFFSET and moves nothing (R502). -/
def State.firstEvent (s : State) (t : Nat) (ext : Int) : State :=
  (({ s with tim := { s.tim with fixed := true } }).setRate s.tim.freq 0).record Reg.DSTATE_SEQ
    [(Reg.DISC_STATE, 2), (Reg.EXT_OFFSET, ofInt 64 ext), (Reg.DISC_ERROR, 0),
     (Reg.DISC_EVENTS, (s.get Reg.DISC_EVENTS + 1) % 2 ^ 32), (Reg.DISC_LAST, t)]

/-- A later accepted event with error `e` in ticks (R44, R502, R505): a forward error of 1 ms or more is stepped, any
other slewed; a backward one of 1 ms or more at −100 ppm. -/
def State.nextEvent (s : State) (t : Nat) (e : Int) : State :=
  let dt := max 1 (t - s.get Reg.DISC_LAST)
  let step := 40000 ≤ e
  let f := if step then s.tim.freq else max (-50000) (min 50000 (s.tim.freq + roundDiv (e * 1000000000) (8 * dt)))
  let p := if step then 0 else if e ≤ -40000 then min (roundDiv (5 * e) 2) (-100000 - f) else roundDiv (5 * e) 2
  let s1 := (s.setRate f p).record Reg.DSTATE_SEQ
    [(Reg.DISC_STATE, if e.natAbs ≤ 400 then 2 else 3), (Reg.DISC_ERROR, ofInt 32 (satI 32 (25 * e))),
     (Reg.DISC_EVENTS, (s.get Reg.DISC_EVENTS + 1) % 2 ^ 32), (Reg.DISC_LAST, t),
     (Reg.DISC_STEPS, (s.get Reg.DISC_STEPS + ofBool step) % 2 ^ 32)]
  if step then s1.stepTime e.toNat else s1

/-- EXT_OFFSET in ticks. -/
def State.extOffset (s : State) : Int := toInt 64 (s.get Reg.EXT_OFFSET)

/-- A discipline event is rejected (R503, R504). -/
def State.rejectTime (s : State) : State :=
  s.record Reg.DSTATE_SEQ [(Reg.DISC_REJECTS, (s.get Reg.DISC_REJECTS + 1) % 2 ^ 32)]

/-- A PPS edge with timestamp `t` (R504). -/
def State.ppsEdge (s : State) (t : Nat) : State :=
  if s.get Reg.DISC_SOURCE != 2 || !s.sys.timeOn then s
  else if !s.tim.fixed then s.firstEvent t (-((t % 40000000 : Nat) : Int))
  else
    let y := t + s.extOffset
    let e := roundDiv y 40000000 * 40000000 - y
    let held := s.get Reg.DISC_STATE = 2 || s.get Reg.DISC_STATE = 3
    if t < s.get Reg.DISC_LAST + 20000000 || (held && 4000000 ≤ e.natAbs) then s.rejectTime else s.nextEvent t e

/-- A CANopen TIME frame that ended at device time `t` (R503). -/
def State.timeFrame (s : State) (t ms days : Nat) : State :=
  if s.get Reg.DISC_SOURCE != 1 || !s.sys.timeOn then s
  else if 86400000 ≤ ms then s.rejectTime
  else
    let x : Int := ((days * 86400000 + ms) * 40000 + s.get Reg.DISC_TIME_LATENCY_US * 40 : Nat)
    if s.tim.fixed then s.nextEvent t (x - s.extOffset - t) else s.firstEvent t (x - t)

/-- DISC_SOURCE has changed, or BOOT has committed it: the next event fixes EXT_OFFSET (R502). -/
def State.startDiscipline (s : State) : State :=
  ({ s with tim := { s.tim with fixed := false } }).record Reg.DSTATE_SEQ
    [(Reg.DISC_STATE, if s.get Reg.DISC_SOURCE = 0 then 0 else 1)]

/-- DISC_PHASE_END (R505). -/
def execDiscPhaseEnd (s : State) : Host.Outcome State Fault Refusal := .next (s.setRate s.tim.freq 0)

/-- DISC_HOLDOVER (R507). -/
def execDiscHoldover (s : State) : Host.Outcome State Fault Refusal :=
  .next (if s.get Reg.DISC_STATE = 2 || s.get Reg.DISC_STATE = 3 then
    ((s.setRate s.tim.freq 0).record Reg.DSTATE_SEQ [(Reg.DISC_STATE, 4)]).latch 6 Reg.DISC_STATE 4 else s)

/-! ### GATE inputs (R489, R490) -/

/-- The device time of an accepted edge: of its first sample at the new level, 0 before device time starts (R489). -/
def State.edgeTime (s : State) (g : Nat) : Nat :=
  if s.sys.timeOn then s.tim.now - max 1 (40 * s.get (Reg.GATE_FILTER_US g)) else 0

/-- An edge of gate `g` is accepted (R490). -/
def State.gateEdge (s : State) (g : Nat) (rising : Bool) : State :=
  let t := s.edgeTime g
  let n := if rising then Reg.GATE_RISES g else Reg.GATE_FALLS g
  let s1 := s.record (Reg.GATE_SEQ g)
    [(Reg.GATE_LEVEL g, ofBool rising), (n, (s.get n + 1) % 2 ^ 32), (Reg.GATE_EDGE_TIME g, t)]
  let on := (s.get (Reg.GATE_EDGE_EVENT g)).testBit (if rising then 0 else 1)
  let s2 := if on && !s1.latched 55 then s1.latch 55 n (s1.get n) else s1
  let s3 := if on then s2.wakeSource 2 else s2
  if s.get Reg.DISC_PPS_GATE = g && s.get Reg.DISC_PPS_EDGE = ofBool (!rising) then s3.ppsEdge t else s3

/-- GATE_EDGE (R490). -/
def execGateEdge (g : Fin 8) (rising : Bool) (s : State) : Host.Outcome State Fault Refusal :=
  .next (if s.sys.phase != .released || s.get (Reg.GATE_LEVEL g) = ofBool rising then s else s.gateEdge g rising)

/-! ### Host scans (R513) -/

/-- A scan ends with a status and a value. -/
def State.scanEnd (s : State) (status value : Nat) : State :=
  s.record Reg.SCAN_SEQ [(Reg.SCAN_VALUE, value), (Reg.SCAN_STATUS, status),
    (Reg.SCAN_DURATION, (s.tim.now - s.chk.scanAt) / 40 % 2 ^ 32), (Reg.SCAN_STATE, 2)]

/-- A running scan ends without its result: what SCAN_VALUE then holds is not stated, a free value (log entry 5). -/
def State.scanCut (s : State) (status : Nat) : State :=
  if s.get Reg.SCAN_STATE = 1 then s.draw.2.scanEnd status (s.draw.1 % 2 ^ 32) else s

/-- Unit 3 is failed, or carries another unit's streams. -/
def State.scanRefused (s : State) : Bool :=
  s.get (Reg.CHK_UNIT_STATE 3) = 1 || s.get (Reg.CHK_COVERING 3) != 0

/-- Check 3 of R513. -/
def State.scanRange (s : State) : Bool :=
  let flash := s.get Reg.SCAN_SOURCE = 1
  5 < s.get Reg.SCAN_POLY || 1 < s.get Reg.SCAN_SOURCE || (!flash && (s.dom Reg.SCAN_DATA).isEmpty) ||
    (flash && (s.get Reg.SCAN_LENGTH = 0 ||
      s.flashSize (s.get Reg.SCAN_FLASH) < s.get Reg.SCAN_ADDRESS + s.get Reg.SCAN_LENGTH))

/-- A write of SCAN_GO (R513): 2 ends a scan; any other value is checked in the rule's own order. -/
def State.scanGo (s : State) (v : Nat) : Result × State :=
  if v = 2 then (.ok, s.scanCut 2)
  else
    let flash := s.get Reg.SCAN_SOURCE = 1
    checks
      [(s.get Reg.SCAN_STATE = 1, .busy), (s.scanRefused, .fault), (v != 1 || s.scanRange, .range),
       (flash && s.brd.inForce.count ≤ s.get Reg.SCAN_FLASH, .configInvalid),
       (flash && s.get (Reg.FLASH_STATE (s.get Reg.SCAN_FLASH)) != 1, .fault)]
      (fun t => ({ t with chk := { t.chk with scanAt := t.tim.now } }).record Reg.SCAN_SEQ [(Reg.SCAN_STATE, 1)]) s

/-- SCAN_START (R513). -/
def execScanStart (l : Link) (s : State) : Host.Outcome State Fault Refusal := .next (s.request l false fun t => t.scanGo 1)

/-- SCAN_ABORT (R513). -/
def execScanAbort (l : Link) (s : State) : Host.Outcome State Fault Refusal := .next (s.request l false fun t => t.scanGo 2)

/-- The bytes a scan takes (R513). -/
def State.scanInput (s : State) : Bytes :=
  if s.get Reg.SCAN_SOURCE = 1 then
    (s.flash (s.get Reg.SCAN_FLASH)).readAll (s.get Reg.SCAN_ADDRESS) (s.get Reg.SCAN_LENGTH)
  else s.dom Reg.SCAN_DATA

/-- The value of a scan: the chosen polynomial over the bytes, the last cut to SCAN_TAIL_BITS (R513). -/
def State.scanValue (s : State) : Nat :=
  match polyOf (s.get Reg.SCAN_POLY) with
  | none => 0
  | some p => crcBits p (inputBits p s.scanInput (s.get Reg.SCAN_TAIL_BITS))

/-- SCAN_DONE (R513): a flash was read with its full command (R474). -/
def execScanDone (flashFail : Bool) (s0 : State) : Host.Outcome State Fault Refusal :=
  let s := if s0.get Reg.SCAN_STATE = 1 && s0.get Reg.SCAN_SOURCE = 1 then s0.flashOther (s0.get Reg.SCAN_FLASH) else s0
  if s.get Reg.SCAN_STATE != 1 then .next s
  else if flashFail && s.get Reg.SCAN_SOURCE = 1 then
    let n := s.get Reg.SCAN_FLASH
    .next ((s.record (Reg.FINFO_SEQ n) [(Reg.FLASH_STATE n, 3)]).scanCut 3)
  else
    let v := s.scanValue
    let bad := s.get Reg.SCAN_COMPARE = 1 && v != s.get Reg.SCAN_EXPECT
    let s1 := s.scanEnd (ofBool bad) v
    .next (if bad then s1.latch 47 Reg.SCAN_VALUE v else s1)

/-! ### Self-test (R514) -/

/-- Unit `u` has failed: unit 3 takes its streams, or the failure is a critical fault. -/
def State.unitFails (s : State) (u : Nat) : State :=
  let again := s.chk.covers.isSome
  let s1 := s.record (Reg.CHK_SEQ u)
    [(Reg.CHK_UNIT_STATE u, 1), (Reg.CHK_SELFTEST_FAILS u, (s.get (Reg.CHK_SELFTEST_FAILS u) + 1) % 2 ^ 32)]
  let lost := u != 3 && s.get (Reg.CHK_UNIT_STATE 3) = 1
  if again || lost then s1.criticalFault 3 (some (47, Reg.CHK_UNIT_STATE u, 1))
  else
    let s2 := s1.latch 47 (Reg.CHK_UNIT_STATE u) 1
    if u = 3 then s2.scanCut 2
    else
      ({ s2 with chk := { s2.chk with covers := some (Fin.ofNat 4 u) } }.record (Reg.CHK_SEQ 3)
        [(Reg.CHK_COVERING 3, 2 ^ u)]).scanCut 2

/-- CHECK_SELFTEST (R514): a unit that fails two tests in a row is failed until reset. -/
def execCheckSelftest (u : Fin 4) (pass : Bool) (s : State) : Host.Outcome State Fault Refusal :=
  if s.get (Reg.CHK_UNIT_STATE u) = 1 then .next s
  else
    let n := if pass then 0 else Tab.get s.chk.streak u + 1
    let s1 := { s with chk := { s.chk with streak := Tab.put s.chk.streak u n } }
    .next (if n = 2 then s1.unitFails u else s1)

end Sys2Proof.Machine
end

