-- ==== Sys2Proof/Machine/Modes.lean ====
section
/-! DEFINITION. Chapter 2 after BOOT: mode requests and transitions, the reset of the part, and the TEST commands. -/

namespace Sys2Proof.Machine

/-! ### Requests (R55 to R57, Table 2.4) -/

/-- The mode of a code 1 to 5. -/
def modeOf : Nat → Option Mode
  | 1 => some .hold | 2 => some .ready | 3 => some .run | 4 => some .watch | 5 => some .test
  | _ => none

/-- Whether Table 2.4 gives a host request from a mode to another. -/
def tableAllows : Mode → Mode → Bool
  | .hold, .ready | .hold, .test | .ready, .run | .run, .ready | .ready, .watch | .run, .watch | .watch, .ready
  | .watch, .run | .ready, .hold | .run, .hold | .watch, .hold => true
  | _, _ => false

/-- A session that lets its link enter TEST (R83, R535). -/
def State.testSession (s : State) (l : Link) : Bool :=
  s.get Reg.SESSION_LINK = Link.code l &&
    ((s.get Reg.SESSION_KIND = 1 && s.sys.testen) || s.get Reg.SESSION_KIND = 2)

/-- The checks of a request for another mode, in the order of Table 3.4. -/
def State.modeRefusal (s : State) (l : Link) (m : Mode) : List (Bool × Result) :=
  [(s.mode = .hold && m = .test && !s.testSession l, .denied),
   (m != s.mode && !tableAllows s.mode m, .mode),
   (s.get Reg.SESSION_KIND = 3 && (m = .ready || m = .run || m = .watch), .mode),
   ((s.sys.trans.isSome && !s.joinsWake (some l)) || s.get Reg.COMMIT_STATE != 0, .busy),
   (s.mode = .hold && m = .ready && !s.sys.validConfig, .configInvalid),
   ((s.mode = .hold && m = .ready && (s.critical != 0 || s.sys.refLost)) ||
     (s.mode = .ready && m = .run && s.critical != 0), .fault)]

/-- Calibrations that a transition to READY or RUN runs, and the sweep where none has completed (Table 2.4, R52, R72,
R171, Table 12.5). -/
def State.bringUp (s : State) : State :=
  let s1 := (s.quadList.filter fun q => (s.hub q).width != 0).foldl (fun t q =>
    if t.get (Reg.CAL_COUNT q) = 0 || (t.quad q).calDue then t.startCal q
    else if t.get (Reg.QUAD_STATE q) = 0 then t.retune q t.lowestKhz none else t) s
  let slide := Variant.hx s.variant && s.get Reg.HF_ENABLE = 1 && s.get Reg.HF_STATE != 5 && s.get Reg.SLIDE_CAL_TIME = 0
  (if slide && s.mode != .watch then s1.startSlide else s1).calsEnded

/-- From RUN every Chanter completes its slot and starts no further one; a gang without a round ramps its Drone down at once
(R60). -/
def State.endRounds (s : State) : State :=
  let s1 := s.quadList.foldl (fun t q => t.dueRound q 6) s
  (s1.val.running.filter fun p => (s1.round p.1).isNone).foldl (fun t p => t.gangDown p.1) s1

/-- A transition starts (R55, R60); no wake source of an earlier one waits for it (R80). -/
def State.startTrans (s : State) (m : Mode) (l : Option Link) (reason : Nat) : State :=
  let s1 := { s with sys := { s.sys with trans := some ⟨m, false, l, reason⟩, wakeBits := 0, wakeRun := false } }
  match s.mode with
  | .run => s1.endRounds
  | .hold => if m = .ready then s1.bringUp else s1
  | .watch => s1.stopBreath.linksTrain
  | .ready => if m = .run then s1.bringUp else s1
  | _ => s1

/-- A request for mode code `v` (R54 to R57, R77). -/
def State.modeAsked (s : State) (l : Link) (v : Nat) : Result × State :=
  match modeOf v with
  | none => (.range, s)
  | some m =>
    if m = s.mode && s.sys.trans.isNone && s.get Reg.COMMIT_STATE = 0 then (.ok, s)
    else checks (s.modeRefusal l m) (fun t =>
      let t1 := t.put Reg.MODE_REQUEST v
      if t.mode = .watch && (m = .ready || m = .run) then t1.wake 128 (m = .run) (some l)
      else t1.startTrans m (some l) (if m = .hold then 8 else 0)) s

/-- A write of MODE_REQUEST: a refusal sets MODE_RESULT (R55). -/
def State.modeRequest (s : State) (l : Link) (v : Nat) : Result × State :=
  let r := s.modeAsked l v
  if r.1 = .ok then r else (r.1, r.2.put Reg.MODE_RESULT (Result.code r.1))

/-- REQ_HOLD (R59). -/
def execReqHold (l : Link) (s : State) : Host.Outcome State Fault Refusal := .next (s.request l true fun t => t.modeRequest l 1)

/-- REQ_READY (R59). -/
def execReqReady (l : Link) (s : State) : Host.Outcome State Fault Refusal := .next (s.request l true fun t => t.modeRequest l 2)

/-- REQ_RUN (R59). -/
def execReqRun (l : Link) (s : State) : Host.Outcome State Fault Refusal := .next (s.request l true fun t => t.modeRequest l 3)

/-- REQ_WATCH (R59). -/
def execReqWatch (l : Link) (s : State) : Host.Outcome State Fault Refusal := .next (s.request l true fun t => t.modeRequest l 4)

/-- REQ_TEST (R83). -/
def execReqTest (l : Link) (s : State) : Host.Outcome State Fault Refusal := .next (s.request l true fun t => t.modeRequest l 5)

/-! ### The change of mode (R49, R60, R62, R64, R79 to R81) -/

/-- What ends with the mode that is left. -/
def State.leave (s : State) : State := if s.mode = .run then s.leaveRun else s

/-- A zone's next round is a cold start (R263, R313, R316); `warm`: it is not the first since BOOT or a wake. -/
def State.coldZone (s : State) (warm : Bool) (z : Nat) : State :=
  let t : State := { s with
    eng := { s.eng with zones := Tab.upd s.eng.zones z fun m =>
      { m with qfp := none, target := none, warm := m.warm && warm } }
    val := { s.val with zones := Tab.upd s.val.zones z fun v => { v with last := none } } }
  t.recordIf (Reg.ZS_SEQ z) [(Reg.ZS_WEIGHT_EFF z, 16 * s.get (Reg.ZONE_WEIGHT z))]

/-- READY comes into force; after a wake the next round of every zone, enabled then or later, is cold (R81, R263). -/
def State.enterReady (s : State) : State :=
  let s1 := if s.mode = .watch then (List.range 32).foldl (State.coldZone · false) s else s
  (s1.leave.enter .ready 0).showHf

/-- RUN comes into force: what is back in service joins, slots arm, tracking starts, and the plan is built (R275, R301,
R309, R331, R334). -/
def State.enterRun (s : State) : State :=
  let s1 := (s.enter .run 0).takeOffered
  let s2 := s1.chainList.foldl (fun t c => t.updChain c fun x => { x with probes := [] }) s1
  ((s2.autoArm.startTracking).lanesOn true).replan

/-- WATCH comes into force (Table 2.1, R410, R418); a wake source latched on the way is served at once (R80). -/
def State.enterWatch (s : State) : State :=
  let s1 := ((((s.hfStop 7).cutSweep.quadsOff).linksOff).enter .watch 0).startBreath
  if s1.sys.wakeBits != 0 then s1.wake s1.sys.wakeBits s1.sys.wakeRun none else s1

/-- HOLD comes into force: synthesisers, PAs and the field are off (Table 2.1). -/
def State.enterHold (s : State) (reason : Nat) : State :=
  ((((s.leave.hfStop 7).cutSweep.quadsOff)).enter .hold reason).showHf

/-- The transition goes on to the mode asked for, its first step taken (R62, R79). -/
def State.through (s : State) (t : Trans) : State :=
  let s1 := s.enterReady
  let s2 := { s1 with sys := { s1.sys with trans := some t } }
  if t.target = .run then s2.bringUp else s2

/-- The mode asked for is in force: MODE_RESULT is OK (R55). -/
def State.arrived (s : State) (t : Trans) : State := if t.link.isSome then s.put Reg.MODE_RESULT 0 else s

/-- A round, or the measurement of a read already decoded, still holds RUN (R60). -/
def State.runHeld (s : State) (t : Trans) : Bool :=
  s.mode = .run && !t.forced && !(s.eng.rounds.isEmpty && s.eng.heard.isEmpty)

/-- MODE_TRANSITION_DONE (R49): not while a calibration or sweep of the transition runs, nor while RUN is held. -/
def execModeTransitionDone (s : State) : Host.Outcome State Fault Refusal :=
  match s.sys.trans with
  | none => .next s
  | some t =>
    if s.runHeld t then .next s
    else match t.target with
    | .hold => .next ((s.enterHold t.reason).arrived t)
    | .test => .next ((s.enter .test 0).arrived t)
    | .watch => .next (if s.mode = .run then s.through t else s.enterWatch.arrived t)
    | .ready =>
      .next (if !s.calsDone || s.sweep.isSome || s.hf.calRuns then s else s.enterReady.arrived t)
    | .run =>
      .next (if !s.calsDone || s.sweep.isSome then s
        else if s.mode = .watch then s.through t else s.enterRun.arrived t)
    | .boot => .next s

/-- A write of RESET_REQUEST (R58): answered OK; the part resets at the end of the answer (`State.resets`). -/
def State.resetRequest (s : State) (l : Link) (v : Nat) : Result × State :=
  checks [(v != 0xA5, .range)] (fun t => { t with sys := { t.sys with resetDue := some (l, 4, Link.code l) } }) s

/-- RESET_REQUEST (R58). -/
def execResetRequest (l : Link) (s : State) : Host.Outcome State Fault Refusal :=
  .next (s.request l false fun t => t.resetRequest l 0xA5)

/-! ### TEST (R86) -/

/-- The TEST carrier starts: each quad with a chain in service tunes, its request held (R86, R141). -/
def State.startTest (s : State) : State :=
  let qs := s.quadList.filter fun q => s.quadIn q && (s.testChains.any fun c => c / 4 = q)
  let m := maskOf qs
  let s1 := { s with testC := some ⟨m, m, false⟩ }.record Reg.TUHF_SEQ [(Reg.TEST_CARRIER_STATE, 1)]
  (qs.foldl (fun t q => t.retune q (s.get Reg.TEST_FREQ_KHZ) (some .test)) s1).testUp

/-- The TEST carrier is ramped down; its result stands. -/
def State.stopTest (s : State) : State :=
  match s.testC with
  | none => s
  | some _ => ({ s.rampAll with testC := none }).record Reg.TUHF_SEQ [(Reg.TEST_CARRIER_STATE, 3)]

/-- Check 2 of R86: the mask names no chain whose CHAIN_ENABLE is 1 and CHAIN_FAULT is 0. -/
def State.testNone (s : State) : Bool :=
  (bitsOf 16 (s.get Reg.TEST_CHAIN_MASK)).all fun c => s.get (Reg.CHAIN_ENABLE c) != 1 || s.get (Reg.CHAIN_FAULT c) != 0

/-- A write of TEST_CARRIER (R86), with R86's own order after presence and range. -/
def State.testCarrier (s : State) (v : Nat) : Result × State :=
  let lv := s.testChains.map fun c => (c, s.i16 Reg.TEST_LEVEL)
  if s.mode != .test then (.noObject, s)
  else if 1 < v then (.range, s)
  else if v = 0 then (.ok, s.stopTest)
  else if s.get Reg.TEST_CARRIER_STATE = 1 || s.get Reg.TEST_CARRIER_STATE = 2 then (.busy, s)
  else if s.testNone then (.range, s)
  else if s.critical != 0 || s.sys.refLost then (.fault, s)
  else if !s.interlock (s.get Reg.TEST_FREQ_KHZ) lv then (.regulatory, s.refuse)
  else (.ok, s.startTest)

/-- TEST_CARRIER_START (R86). -/
def execTestCarrierStart (l : Link) (s : State) : Host.Outcome State Fault Refusal :=
  .next (s.request l false fun t => t.testCarrier 1)

/-- TEST_CARRIER_STOP (R86). -/
def execTestCarrierStop (l : Link) (s : State) : Host.Outcome State Fault Refusal :=
  .next (s.request l false fun t => t.testCarrier 0)

/-- TEST_CARRIER_TIMEOUT (R86). -/
def execTestCarrierTimeout (s : State) : Host.Outcome State Fault Refusal :=
  .next (if s.get Reg.TEST_CARRIER_STATE = 2 then s.stopTest else s)

/-- A write of TEST_HF_FIELD (R86, R40): a Slide full calibration that is due comes first (R413, Table 12.5); with HF_ENABLE 0 HX raises
no field (Table 12.8). -/
def State.testField (s : State) (v : Nat) : Result × State :=
  if s.mode != .test || !Variant.hx s.variant then (.noObject, s)
  else if 1 < v then (.range, s)
  else if v = 0 then (.ok, s.endTestField false)
  else if s.hf.fieldAt.isSome then (.busy, s)
  else if s.get Reg.HF_STATE = 5 || s.critical != 0 || s.sys.refLost then (.fault, s)
  else if s.get Reg.HF_ENABLE = 0 then (.ok, s)
  else
    let s1 := s.updHf fun h => { h with test := true, warned := false, excess := 0 }
    (.ok, (if s1.slideStale then s1.startSlide else s1.raiseField (s.get Reg.TEST_HF_POWER_MW)).put Reg.TEST_HF_STATE 1)

/-- TEST_HF_FIELD_RAISE (R86). -/
def execTestHfFieldRaise (l : Link) (s : State) : Host.Outcome State Fault Refusal :=
  .next (s.request l false fun t => t.testField 1)

/-- TEST_HF_FIELD_DROP (R86). -/
def execTestHfFieldDrop (l : Link) (s : State) : Host.Outcome State Fault Refusal :=
  .next (s.request l false fun t => t.testField 0)

/-- TEST_HF_TIMEOUT (R86). -/
def execTestHfTimeout (s : State) : Host.Outcome State Fault Refusal := .next (s.endTestField false)

/-- A write of CAPTURE_GO (R86): the chain's die sends 16,384 samples, eight to a WIDEBAND flit. -/
def State.capture (s : State) (v : Nat) : Result × State :=
  checks [(s.mode != .test, .noObject), (v != 1, .range), (s.get Reg.CAPTURE_STATE = 1, .busy)]
    (fun t =>
      let c := t.get Reg.CAPTURE_CHAIN
      (t.updHub (c / 4) fun h => { h with wide := if h.width = 0 then 0 else 2048, wideOf := c % 4 }).record Reg.TCAP_SEQ
        [(Reg.CAPTURE_STATE, 1)]) s

/-- CAPTURE_GO (R86). -/
def execCaptureGo (l : Link) (s : State) : Host.Outcome State Fault Refusal := .next (s.request l false fun t => t.capture 1)

/-- CAPTURE_DONE (R86): 16,384 samples of 3 bytes. -/
def execCaptureDone (data : Bytes) (s : State) : Host.Outcome State Fault Refusal :=
  .next (if s.get Reg.CAPTURE_STATE = 1 then
    ((s.updChain (s.get Reg.CAPTURE_CHAIN) fun x => { x with captured := 16384 }).putDom Reg.CAPTURE_DATA (padTo 49152 data)).record Reg.TCAP_SEQ [(Reg.CAPTURE_STATE, 2)] else s)

end Sys2Proof.Machine
end

