-- ==== Sys2Proof/Machine/Security.lean ====
section
/-! DEFINITION. Chapter 16: firmware slots and their update, the owner lock, nonces, tokens and sessions, the window's
mailbox, quotes, and debug access. -/

namespace Sys2Proof.Machine

/-! ### Keys (R518, R519) -/

/-- The key ID of a public key: 8 bytes of SHAKE256 (R519). -/
def keyId (key : Bytes) : Bytes := padTo 8 (Config.shake256 key 8)

/-- A context string of Table 16.1. -/
def ctxToken : Bytes := bytes [0x53, 0x56, 0x41, 0x4C, 0x45, 0x54, 0x2D, 0x54, 0x4F, 0x4B, 0x45, 0x4E]
def ctxQuote : Bytes := bytes [0x53, 0x56, 0x41, 0x4C, 0x45, 0x54, 0x2D, 0x51, 0x55, 0x4F, 0x54, 0x45]
def ctxConfig : Bytes := bytes [0x53, 0x56, 0x41, 0x4C, 0x45, 0x54, 0x2D, 0x43, 0x46, 0x47]

/-- SERIAL. -/
def State.serial (s : State) : Bytes := s.dom Reg.SERIAL

/-- The signature block's fields are well formed and meant for this part, the key aside (R521). -/
def State.blockOk (s : State) (b : Bytes) : Bool :=
  let target := slice b 20 12
  field b 0 4 = 0x47535653 && field b 4 2 = 1 && field b 6 2 = 1 && (target = padTo 12 [] || target = s.serial) &&
    slice b 3341 3 = padTo 3 []

/-! ### The mailbox (R537, Table 16.8) -/

/-- The mailbox changed. -/
def State.updIo (s : State) (f : Io → Io) : State := { s with io := f s.io }

/-- The mailbox runs command `c`. -/
def State.mbxRuns (s : State) (c : Nat) : Bool := s.io.mbxState = 1 && s.io.mbxCmd = c

/-- A mailbox command ends with a result. -/
def State.mbxEnd (s : State) (r : Result) : State :=
  s.updIo fun i => { i with mbxState := if r = .ok then 2 else 3, mbxResult := Result.code r }

/-- The end of a command the mailbox may be running. -/
def State.mbxDone (s : State) (c : Nat) (r : Result) : State := if s.mbxRuns c then s.mbxEnd r else s

/-! ### Authentication failures (R536) -/

/-- A failed token signature, or a failed image signature under the owner lock. -/
def State.authFailed (s : State) : State :=
  let n := (s.get Reg.AUTH_FAILS + 1) % 2 ^ 32
  let t := s.record Reg.TOK_SEQ [(Reg.AUTH_FAILS, n)]
  ({ t with sec := { t.sec with failAt := some t.tim.now } }).latch 62 Reg.AUTH_FAILS n

/-! ### The boot header (R525, R526) -/

/-- A record of BOOT_HDR (Table 16.5). -/
structure BootHdr where
  seq : Nat
  active : Nat
  trial : Nat
  count : Nat
  boots : Nat
  deriving DecidableEq, Repr

/-- A record's bytes 0 to 15. -/
def BootHdr.body (h : BootHdr) : Bytes :=
  leBytes 4 0x48425653 ++ leBytes 4 h.seq ++ leBytes 1 h.active ++ leBytes 1 h.trial ++ leBytes 1 h.count ++
    leBytes 1 0 ++ leBytes 4 h.boots

/-- A record's 20 bytes. -/
def BootHdr.bytes (h : BootHdr) : Bytes := h.body ++ leBytes 4 (crc32 h.body)

/-- The record at an offset, when its magic and CRC are good. -/
def bootHdrAt (m : Memory) (a : Nat) : Option BootHdr :=
  let b := m.readAll a 20
  if field b 0 4 = 0x48425653 && field b 16 4 = crc32 (b.take 16) then
    some ⟨field b 4 4, field b 8 1, field b 9 1, field b 10 1, field b 12 4⟩
  else none

/-- The record in force, and where the next is written (R525). -/
def State.bootHdr (s : State) : BootHdr × Nat :=
  match bootHdrAt (s.flash 0) 0, bootHdrAt (s.flash 0) 0x1000 with
  | some a, some b => if a.seq < b.seq then (b, 0) else (a, 0x1000)
  | some a, none => (a, 0x1000)
  | none, some b => (b, 0)
  | none, none => (⟨0, 0, 0xFF, 0, 0⟩, 0)

/-- A record is written over the other one, its sequence counted (R525). -/
def State.writeHdr (s : State) (h : BootHdr) : State :=
  let p := s.bootHdr
  s.updFlash 0 fun m => (m.erase p.2 4096).writeAll p.2 (BootHdr.bytes { h with seq := p.1.seq + 1 })

/-! ### Firmware slots and updates (R522 to R529) -/

/-- Where a slot lies in flash 0 (Table 14.1), and its size. -/
def slotBase (b : Bool) : Nat := if b then 0x610000 else 0x10000
def slotSize : Nat := 6291456

/-- The slot that runs: true for B. -/
def State.runsB (s : State) : Bool := s.get Reg.FW_SLOT = 1

/-- What a slot holds, when it verifies. -/
def State.slotInfo (s : State) (b : Bool) : Option (Nat × Nat) := if b then s.sec.slotB else s.sec.slotA

/-- What a slot holds is known anew; the objects of the slot that does not run follow (Table 16.11). -/
def State.setSlot (s : State) (b : Bool) (v : Option (Nat × Nat)) : State :=
  let t := { s with sec := if b then { s.sec with slotB := v } else { s.sec with slotA := v } }
  if b = s.runsB && !s.sys.noFirmware then t
  else t.record Reg.FWU_SEQ [(Reg.FW_OTHER_VERSION, (v.map (·.1)).getD 0), (Reg.FW_OTHER_SVN, (v.map (·.2)).getD 0)]

/-- The running slot is on trial (R526, R529). -/
def State.onTrial (s : State) : Bool := s.get Reg.FW_TRIAL != 0 && s.bootHdr.1.trial = s.get Reg.FW_SLOT

/-- A slot no longer holds an image that verifies (R527). -/
def State.spoilSlot (s : State) (b : Bool) : State :=
  let t := s.setSlot b none
  { t with sec := { t.sec with spoiled := setBit t.sec.spoiled (ofBool b) } }

/-- BEGIN: the slot's erase starts (R527). -/
def State.fwErase (s : State) (b : Bool) : State :=
  let t := s.spoilSlot b
  ({ t with sec := { t.sec with updating := some b } }).record Reg.FWU_SEQ [(Reg.FW_UPDATE_STATE, 1)]

/-- A write of FW_UPDATE (R527). -/
def State.fwUpdate (s : State) (v : Nat) : Result × State :=
  match v with
  | 1 => checks [(s.onTrial, .denied), (s.mode = .test, .mode)] (fun t => t.fwErase (!t.runsB)) s
  | 2 => checks [(s.get Reg.FW_UPDATE_STATE != 2, .busy)] (fun t => t.record Reg.FWU_SEQ [(Reg.FW_UPDATE_STATE, 3)]) s
  | 3 => (.ok, match s.sec.updating with
    | none => s
    | some b =>
      let t := s.spoilSlot b
      ({ t with sec := { t.sec with updating := none } }).record Reg.FWU_SEQ [(Reg.FW_UPDATE_STATE, 0)])
  | _ => (.range, s)

/-- FW_UPDATE_BEGIN (R527). -/
def execFwUpdateBegin (l : Link) (s : State) : Host.Outcome State Fault Refusal := .next (s.request l false fun t => t.fwUpdate 1)

/-- FW_UPDATE_FINISH (R527). -/
def execFwUpdateFinish (l : Link) (s : State) : Host.Outcome State Fault Refusal := .next (s.request l false fun t => t.fwUpdate 2)

/-- FW_UPDATE_ABANDON (R527). -/
def execFwUpdateAbandon (l : Link) (s : State) : Host.Outcome State Fault Refusal :=
  .next (s.request l false fun t => t.fwUpdate 3)

/-- FW_ERASE_DONE (R527): the slot is erased, and loading begins. -/
def execFwEraseDone (s : State) : Host.Outcome State Fault Refusal :=
  match s.sec.updating with
  | none => .next s
  | some b =>
    if s.get Reg.FW_UPDATE_STATE != 1 then .next s
    else .next (((s.updFlash 0 fun m => m.erase (slotBase b) slotSize).record Reg.FWU_SEQ
      [(Reg.FW_UPDATE_STATE, 2), (Reg.FW_LOADED_BYTES, 0)]).mbxDone 5 .ok)

/-- A completed transfer to FW_IMAGE (R527). -/
def State.fwAppend (s : State) (d : Bytes) : Result × State :=
  let n := s.get Reg.FW_LOADED_BYTES
  checks [(slotSize < n + d.length, .range), (s.get Reg.FW_UPDATE_STATE != 2, .busy)]
    (fun t => (t.updFlash 0 fun m => m.writeAll (slotBase (t.sec.updating.getD false) + n) d).record Reg.FWU_SEQ
      [(Reg.FW_LOADED_BYTES, n + d.length)]) s

/-- FW_IMAGE_APPEND (R527). -/
def execFwImageAppend (l : Link) (d : Bytes) (s : State) : Host.Outcome State Fault Refusal :=
  .next (s.request l false fun t => t.fwAppend d)

/-- A FINISH fails (R528). -/
def State.fwFails (s : State) (r : Result) : State :=
  (s.record Reg.FWU_SEQ [(Reg.FW_UPDATE_STATE, 5), (Reg.FW_UPDATE_RESULT, Result.code r)]).mbxDone 7 r

/-- The magic, format, reserved fields, SVN and lengths of a firmware image's head are right (R523, Table 16.4). -/
def fwHeadOk (h : Bytes) : Bool :=
  let len := field h 16 4
  let boot := field h 20 4
  let pages := field h 24 4
  field h 0 4 = 0x57465653 && field h 4 2 = 1 && field h 6 2 = 0 && field h 28 4 = 0 && field h 12 2 ≤ 64 && len ≤ slotSize &&
    4096 ≤ boot && boot ≤ 524288 && pages ≤ 1536 && 64 + 32 * pages + 3344 + boot + 4096 * pages = len

/-- What the verification of slot `b` finds, from its bytes and from whether its digests match and its signature verifies,
in the order of R523. -/
def State.fwVerdict (s : State) (b digests sig : Bool) : FwVerdict :=
  let m := s.flash 0
  let h := m.readAll (slotBase b) 64
  let svn := field h 12 2
  if !fwHeadOk h then .check
  else
    let k := m.readAll (slotBase b + 64 + 32 * field h 24 4) 3344
    if !sig || !s.blockOk k || field k 16 4 != 0 then .denied
    else if svn < s.get Reg.FW_SVN_FUSED then .denied
    else if !digests then .check
    else .good (BitVec.ofNat 32 (field h 8 4)) (Fin.ofNat 65 svn)

/-- FW_VERIFY_DONE (R528): the secure core has read the slot through the window (R474); a slot that verifies goes on trial at the next reset. -/
def execFwVerifyDone (digests sig : Bool) (s : State) : Host.Outcome State Fault Refusal :=
  if s.get Reg.FW_UPDATE_STATE != 3 then .next s
  else
    let b := s.sec.updating.getD false
    let s := s.secureRead
    match s.fwVerdict b digests sig with
    | .check => .next (s.fwFails .check)
    | .denied => .next ((s.fwFails .denied).latch 62 Reg.FW_UPDATE_RESULT (Result.code .denied))
    | .good ver svn =>
      let h := s.bootHdr.1
      let s0 := (s.writeHdr { h with trial := ofBool b, count := 0 }).setSlot b (some (ver.toNat, svn))
      let s1 := { s0 with sec := { s0.sec with spoiled := clrBit s0.sec.spoiled (ofBool b) } }
      .next (((s1.record Reg.FWU_SEQ [(Reg.FW_UPDATE_STATE, 4), (Reg.FW_UPDATE_RESULT, 0)]).latch 5 Reg.FW_UPDATE_STATE 4).mbxDone
        7 .ok)

/-- A write of FW_CONFIRM (R529). -/
def State.fwConfirm (s : State) (v : Nat) : Result × State :=
  checks [(v != 1, .range), (s.mode != .ready && s.mode != .run, .mode)]
    (fun t =>
      if !t.onTrial then t
      else
        let h := t.bootHdr.1
        let t1 := t.writeHdr { h with active := t.get Reg.FW_SLOT, trial := 0xFF, count := 0 }
        t1.raise Reg.FW_SVN_FUSED (((t1.slotInfo t1.runsB).map (·.2)).getD 0)) s

/-- FW_CONFIRM (R529). -/
def execFwConfirm (l : Link) (v : BitVec 8) (s : State) : Host.Outcome State Fault Refusal :=
  .next (s.request l false fun t => t.fwConfirm v.toNat)

/-- DEMAND_PAGE_LOAD (R524): an application core reads the page (R474); a second mismatch is a critical fault. -/
def execDemandPageLoad (first second : Bool) (s : State) : Host.Outcome State Fault Refusal :=
  .next (if s.sys.phase != .released then s
    else if first || second then s.flashOther 0
    else (s.flashOther 0).criticalFault 4 (some (47, 0, 0)))

/-! ### Nonces (R533) -/

/-- A fresh nonce: 32 bytes of the entropy source (log entry 4). -/
def State.freshNonce (s : State) : State :=
  let b := (List.range 32).map (Config.entropy s.sec.draws)
  ({ s with sec := { s.sec with nonce := some b, draws := s.sec.draws + 1 } }.putDom Reg.NONCE b).seq Reg.TOK_SEQ

/-- Within 1 s after an authentication failure (R536). -/
def State.authHolds (s : State) : Bool := s.sec.failAt.any fun t => s.tim.now < t + 40000000

/-- A write of NONCE_REQUEST. -/
def State.nonceRequest (s : State) (v : Nat) : Result × State :=
  checks [(v != 1, .range), (s.authHolds, .busy)] State.freshNonce s

/-- NONCE_REQUEST (R533). -/
def execNonceRequest (l : Link) (v : BitVec 8) (s : State) : Host.Outcome State Fault Refusal :=
  .next (s.request l false fun t => t.nonceRequest v.toNat)

/-- NONCE_EXPIRE (R533). -/
def execNonceExpire (s : State) : Host.Outcome State Fault Refusal := .next { s with sec := { s.sec with nonce := none } }

/-! ### Tokens (R534, Tables 16.6 and 16.7) -/

/-- A token submitted: its verification starts. -/
def State.submit (s : State) (l : Link) : State :=
  ({ s with sec := { s.sec with verifying := some (l, s.dom Reg.TOKEN) } }).record Reg.TOK_SEQ [(Reg.TOKEN_STATE, 1)]

/-- A write of TOKEN_SUBMIT. -/
def State.tokenSubmit (s : State) (l : Link) (v : Nat) : Result × State :=
  checks [(v != 1, .range), (s.get Reg.TOKEN_STATE = 1, .busy)] (fun t => t.submit l) s

/-- TOKEN_SUBMIT (R534). -/
def execTokenSubmit (l : Link) (v : BitVec 8) (s : State) : Host.Outcome State Fault Refusal :=
  .next (s.request l false fun t => t.tokenSubmit l v.toNat)

/-- Whether the mode accepts a kind (Table 16.7). -/
def State.kindMode (s : State) (kind : Nat) : Bool :=
  match kind with
  | 1 => s.mode = .hold
  | 2 => s.mode = .hold || s.mode = .ready || s.mode = .run
  | 3 => s.mode = .hold || s.mode = .test
  | _ => s.mode = .hold || s.mode = .ready

/-- The key ID that Table 16.7 requires of a kind's signer; none where the kind is refused. -/
def State.signer (s : State) (kind : Nat) : Option Bytes :=
  if s.ownerLocked then (if kind = 5 then none else some (s.dom Reg.OWNER_KEY_ID))
  else match kind with
    | 1 | 2 | 3 => some (s.dom Reg.SERVICE_KEY_ID)
    | 5 => some (keyId (s.dom Reg.OWNER_KEY_CANDIDATE))
    | _ => none

/-- Whether kind 6 names the candidate's key in ARG (R532), kinds 5 and 6 having a whole candidate. -/
def State.candidateOk (s : State) (kind : Nat) (t : Bytes) : Bool :=
  (kind != 5 && kind != 6) || ((s.dom Reg.OWNER_KEY_CANDIDATE).length = 1952 &&
    (kind = 5 || slice t 64 8 = keyId (s.dom Reg.OWNER_KEY_CANDIDATE)))

/-- The checks of R534 on a token, `badSig` telling whether its signature fails; then enrolment's own (R530). -/
def State.tokenCheck (s : State) (t : Bytes) (badSig : Bool) : Result :=
  let kind := field t 6 1
  if field t 0 4 != 0x4B545653 || field t 4 2 != 1 || kind = 0 || 6 < kind || field t 7 1 != 0 || t.length != 3384 then .range
  else if slice t 8 12 != s.serial || s.sec.nonce != some (slice t 20 32) then .denied
  else if kind = 1 && !s.sys.testen then .denied
  else if !s.kindMode kind then .mode
  else if kind = 3 && s.sec.debugFuse then .denied
  else if s.signer kind != some (slice t 56 8) || !s.candidateOk kind t || badSig then .denied
  else if kind ≤ 3 && s.get Reg.SESSION_KIND != 0 then .busy
  else if kind = 5 && (!s.cfg.staged.isEmpty || s.get Reg.PERSIST_STATE != 0) then .configInvalid
  else .ok

/-- The check that decided was the fourth (R536). -/
def State.authFails (s : State) (t : Bytes) (badSig : Bool) : Bool :=
  let kind := field t 6 1
  s.tokenCheck t badSig = .denied && slice t 8 12 = s.serial && s.sec.nonce = some (slice t 20 32) &&
    !(kind = 1 && !s.sys.testen) && !(kind = 3 && s.sec.debugFuse)

/-- A verification ends: its result, and the nonce is spent (R533, R534). -/
def State.tokenEnds (s : State) (r : Result) (more : List (Nat × Nat)) : State :=
  ((({ s with sec := { s.sec with verifying := none, nonce := none } }).record Reg.TOK_SEQ
    ([(Reg.TOKEN_RESULT, Result.code r), (Reg.TOKEN_STATE, 2)] ++ more))).mbxDone 4 r

/-- The token under verification passes as kind `kind`: `f` with its link and its bytes. -/
def State.passes (s : State) (kind : Nat) (f : Link → Bytes → State) : State :=
  match s.sec.verifying with
  | none => s
  | some (l, t) => if field t 6 1 = kind && s.tokenCheck t false = .ok then f l t else s

/-- What opening a session writes. -/
def State.session (s : State) (l : Link) (t : Bytes) (kind : Nat) : List (Nat × Nat) :=
  [(Reg.SESSION_KIND, kind), (Reg.SESSION_LINK, Link.code l),
   (Reg.SESSION_EXPIRY, (s.tim.now + field t 52 4 * 40000000) % 2 ^ 64)]

/-- TOKEN_TEST (R83, R534). -/
def execTokenTest (s : State) : Host.Outcome State Fault Refusal :=
  .next (s.passes 1 fun l t => s.tokenEnds .ok (s.session l t 1))

/-- HOLD with reason RECOVERY is entered, or its reason set (R64, Table 16.7). -/
def State.recover (s : State) : State :=
  if s.mode = .hold then s.put Reg.HOLD_REASON 7
  else match s.sys.trans with
    | some t => if t.forced then { s with sys := { s.sys with trans := some { t with reason := 7 } } }
        else s.abandon.startTrans .hold none 7
    | none => s.startTrans .hold none 7

/-- TOKEN_RECOVERY (R534). -/
def execTokenRecovery (s : State) : Host.Outcome State Fault Refusal :=
  .next (s.passes 2 fun l t => (s.tokenEnds .ok (s.session l t 2)).recover)

/-- TOKEN_DEBUG (R540). -/
def execTokenDebug (s : State) : Host.Outcome State Fault Refusal :=
  .next (s.passes 3 fun l t => (s.tokenEnds .ok (s.session l t 3)).record Reg.DBG_SEQ [(Reg.DEBUG_STATE, 1)])

/-- OWNER_RELEASE (R532). -/
def execOwnerRelease (s : State) : Host.Outcome State Fault Refusal :=
  .next (s.passes 4 fun _ _ =>
    (((s.tokenEnds .ok []).putDom Reg.OWNER_KEY []).putDom Reg.OWNER_KEY_ID (padTo 8 [])).record Reg.OWN_SEQ
      [(Reg.OWNER_LOCK, 0), (Reg.OWNER_BASE_CRC, 0), (Reg.CONFIG_EPOCH_MIN, 0)])

/-- The candidate becomes the owner key. -/
def State.takeOwner (s : State) : State :=
  let k := s.dom Reg.OWNER_KEY_CANDIDATE
  (s.putDom Reg.OWNER_KEY k).putDom Reg.OWNER_KEY_ID (keyId k)

/-- OWNER_ENROL (R530). -/
def execOwnerEnrol (s : State) : Host.Outcome State Fault Refusal :=
  .next (s.passes 5 fun _ _ => ((s.tokenEnds .ok []).takeOwner).record Reg.OWN_SEQ
    [(Reg.OWNER_LOCK, 1), (Reg.OWNER_BASE_CRC, s.get Reg.CONFIG_CRC), (Reg.CONFIG_EPOCH_MIN, 0)])

/-- OWNER_ROTATE (R532). -/
def execOwnerRotate (s : State) : Host.Outcome State Fault Refusal :=
  .next (s.passes 6 fun _ _ => (s.tokenEnds .ok []).takeOwner.seq Reg.OWN_SEQ)

/-- TOKEN_REJECTED (R534, R536). -/
def execTokenRejected (badSig : Bool) (s : State) : Host.Outcome State Fault Refusal :=
  match s.sec.verifying with
  | none => .next s
  | some (_, t) =>
    let r := s.tokenCheck t badSig
    .next (if r = .ok then s else if s.authFails t badSig then (s.tokenEnds r []).authFailed else s.tokenEnds r [])

/-! ### Sessions (R535) -/

/-- The session ends; `l`: the link that closes it, to which the answer still goes before TEST is left by reset (R84). -/
def State.sessionEnds (s : State) (l : Option Link) : State :=
  let kind := s.get Reg.SESSION_KIND
  let s1 := s.record Reg.TOK_SEQ [(Reg.SESSION_KIND, 0), (Reg.SESSION_LINK, 0), (Reg.SESSION_EXPIRY, 0)]
  if kind = 1 && s.mode = .test then
    match l with
    | some l => { s1 with sys := { s1.sys with resetDue := some (l, 6, kind) } }
    | none => s1.resetPart 6 kind .resetHeld
  else if kind = 3 then
    ({ s1 with sec := { s1.sec with attached := 0 } }).record Reg.DBG_SEQ [(Reg.DEBUG_STATE, if s1.sec.debugFuse then 2 else 0)]
  else s1

/-- A write of SESSION_CLOSE (R535): only the session's link may close it; answered OK, then the session ends. -/
def State.sessionClose (s : State) (l : Link) (v : Nat) : Result × State :=
  checks [(s.get Reg.SESSION_KIND != 0 && s.get Reg.SESSION_LINK != Link.code l, .denied), (v != 1, .range)]
    (fun t => if t.get Reg.SESSION_KIND = 0 then t else t.sessionEnds (some l)) s

/-- SESSION_CLOSE (R535). -/
def execSessionClose (l : Link) (v : BitVec 8) (s : State) : Host.Outcome State Fault Refusal :=
  .next (s.request l false fun t => t.sessionClose l v.toNat)

/-- SESSION_EXPIRE (R535). -/
def execSessionExpire (s : State) : Host.Outcome State Fault Refusal :=
  .next (if s.get Reg.SESSION_KIND = 0 then s else s.sessionEnds none)

/-! ### Mailbox commands (R537): they act at the STOP of the MBX_CMD write -/

/-- A mailbox command that needs a recovery session on TWA while HOLD serves it (R537). -/
def State.mbxBarred (s : State) : Bool :=
  s.mode = .hold && !(s.get Reg.SESSION_KIND = 2 && s.get Reg.SESSION_LINK = Link.code .twa)

/-- A command of the mailbox that ends with its result. -/
def State.mbxServe (s : State) (c : Nat) (f : State → Result × State) : State :=
  if !s.mbxRuns c then s else let r := f s; r.2.mbxEnd r.1

/-- MBX_NONCE (R537). -/
def execMbxNonce (s : State) : Host.Outcome State Fault Refusal :=
  .next (s.mbxServe 1 fun t =>
    let r := t.nonceRequest 1
    if r.1 = .ok then (.ok, r.2.updIo fun i => { i with mbxData := splice i.mbxData 0 (r.2.dom Reg.NONCE), mbxLen := 32 }) else r)

/-- MBX_READ_CERT (R537): at most 128 bytes of DEVICE_CERT, all of them within it. -/
def execMbxReadCert (s : State) : Host.Outcome State Fault Refusal :=
  .next (s.mbxServe 2 (fun t => checks [(128 < t.io.mbxLen || 5296 < t.io.mbxOffset + t.io.mbxLen, .range)]
    (fun u => u.updIo fun i => { i with
      mbxData := splice i.mbxData 0 (slice (u.dom Reg.DEVICE_CERT) i.mbxOffset i.mbxLen) }) t))

/-- MBX_TOKEN_WRITE (R537). -/
def execMbxTokenWrite (s : State) : Host.Outcome State Fault Refusal :=
  .next (s.mbxServe 3 (fun t => checks [(128 < t.io.mbxLen || 3384 < t.io.mbxOffset + t.io.mbxLen, .range)]
    (fun u => u.putDom Reg.TOKEN (splice (u.dom Reg.TOKEN) u.io.mbxOffset (u.io.mbxData.take u.io.mbxLen))) t))

/-- MBX_TOKEN_SUBMIT (R537): the command ends with the token's verification. -/
def execMbxTokenSubmit (s : State) : Host.Outcome State Fault Refusal :=
  .next (if !s.mbxRuns 4 || s.sec.verifying.isSome then s
    else if s.get Reg.TOKEN_STATE = 1 then s.mbxEnd .busy else s.submit .twa)

/-- MBX_FW_BEGIN (R537): the slot is the one named; the command ends with the erase. -/
def execMbxFwBegin (s : State) : Host.Outcome State Fault Refusal :=
  let n := field s.io.mbxData 0 1
  .next (if !s.mbxRuns 5 then s
    else if s.mbxBarred then s.mbxEnd .denied
    else if s.mode != .boot && s.onTrial then s.mbxEnd .denied
    else if 1 < n || (s.mode != .boot && (n = 1) = s.runsB) then s.mbxEnd .range
    else if s.mode = .test then s.mbxEnd .mode
    else s.fwErase (n = 1))

/-- MBX_FW_WRITE (R537). -/
def execMbxFwWrite (s : State) : Host.Outcome State Fault Refusal :=
  .next (s.mbxServe 6 fun t =>
    if t.mbxBarred then (.denied, t)
    else if 128 < t.io.mbxLen || t.io.mbxOffset != t.get Reg.FW_LOADED_BYTES then (.range, t)
    else t.fwAppend (t.io.mbxData.take t.io.mbxLen))

/-- MBX_FW_FINISH (R537): the command ends with the verification. -/
def execMbxFwFinish (s : State) : Host.Outcome State Fault Refusal :=
  .next (if !s.mbxRuns 7 then s
    else if s.mbxBarred then s.mbxEnd .denied
    else let r := s.fwUpdate 2; if r.1 = .ok then r.2 else s.mbxEnd r.1)

/-- MBX_RESET (R537, Table 17.6). -/
def execMbxReset (s : State) : Host.Outcome State Fault Refusal :=
  .next (if s.mbxRuns 8 then s.resetPart 7 0 .resetHeld else s)

/-! ### Quotes (R539) -/

/-- The bytes of the running image that FW_DIGEST covers: 0 to H − 1 (Table 16.4). -/
def State.imageHead (s : State) : Bytes :=
  let a := slotBase s.runsB
  (s.flash 0).readAll a (64 + 32 * leNat ((s.flash 0).readAll (a + 24) 4))

/-- FLAGS of a quote (Table 16.10). -/
def State.quoteFlags (s : State) : Nat :=
  ofBool s.ownerLocked + 2 * ofBool s.regLocked + 4 * ofBool (s.get Reg.SESSION_KIND = 3) + 8 * ofBool s.sec.debugFuse +
    16 * ofBool s.onTrial + 32 * ofBool s.sys.testen

/-- Bytes 0 to 135 of a quote (Table 16.10). -/
def State.quoteBody (s : State) : Bytes :=
  leBytes 4 0x51415653 ++ leBytes 2 1 ++ leBytes 2 s.quoteFlags ++ s.serial ++ leBytes 1 (s.get Reg.DIE_MASK) ++
    leBytes 1 (s.get Reg.FW_SLOT) ++ leBytes 2 (((s.slotInfo s.runsB).map (·.2)).getD 0) ++ leBytes 4 (s.get Reg.FW_VERSION) ++
    leBytes 2 (s.get Reg.OD_VERSION) ++ leBytes 1 (Mode.code s.mode) ++ leBytes 1 0 ++ Config.shake256 s.imageHead 32 ++
    leBytes 4 (s.get Reg.CONFIG_CRC) ++ leBytes 4 (s.get Reg.CONFIG_GENERATION) ++ leBytes 4 (s.get Reg.LOCKED_CRC) ++
    leBytes 4 (s.get Reg.BOOT_COUNT) ++ leBytes 8 s.tim.now ++ s.dom Reg.OWNER_KEY_ID ++ s.dom Reg.DEVICE_KEY_ID ++
    s.dom Reg.QUOTE_NONCE

/-- A write of QUOTE_GO. -/
def State.quoteGo (s : State) (v : Nat) : Result × State :=
  checks [(v != 1, .range), (s.get Reg.QUOTE_STATE = 1, .busy)]
    (fun t => ({ t with sec := { t.sec with quote := some t.quoteBody } }).record Reg.QUOTE_SEQ [(Reg.QUOTE_STATE, 1)]) s

/-- QUOTE_GO (R539). -/
def execQuoteGo (l : Link) (v : BitVec 8) (s : State) : Host.Outcome State Fault Refusal :=
  .next (s.request l false fun t => t.quoteGo v.toNat)

/-- QUOTE_DONE (R539). -/
def execQuoteDone (s : State) : Host.Outcome State Fault Refusal :=
  match s.sec.quote with
  | none => .next s
  | some b =>
    let sig := padTo 3312 (Config.mldsaSign ctxQuote b s.sec.draws)
    .next (({ s with sec := { s.sec with quote := none, draws := s.sec.draws + 1 } }.putDom Reg.QUOTE (b ++ sig)).record
      Reg.QUOTE_SEQ [(Reg.QUOTE_STATE, 2)])

/-! ### Debug access (R540, R541) -/

/-- A write of DEBUG_DISABLE. -/
def State.debugDisable (s : State) (v : Nat) : Result × State :=
  checks [(v != 0xD5, .range), (s.mode != .hold, .mode)]
    (fun t => ({ t with sec := { t.sec with debugFuse := true, attached := 0 } }).record Reg.DBG_SEQ [(Reg.DEBUG_STATE, 2)]) s

/-- DEBUG_DISABLE (R541). -/
def execDebugDisable (l : Link) (v : BitVec 8) (s : State) : Host.Outcome State Fault Refusal :=
  .next (s.request l false fun t => t.debugDisable v.toNat)

/-- DEBUG_ATTACH (R540): within a debug session only. -/
def execDebugAttach (core : Fin 4) (s : State) : Host.Outcome State Fault Refusal :=
  if s.get Reg.DEBUG_STATE != 1 then .next s
  else
    let n := (s.get Reg.DEBUG_ATTACHES + 1) % 2 ^ 32
    .next ((({ s with sec := { s.sec with attached := setBit s.sec.attached core } }).record Reg.DBG_SEQ
      [(Reg.DEBUG_ATTACHES, n)]).latch 63 Reg.DEBUG_ATTACHES n)

/-- Whether the TAP offers an instruction now (R540, R541). -/
def State.tapOffers (s : State) : TapInstr → Bool
  | .bypass | .idcode => true
  | .samplePreload => s.sys.phase != .released || (s.mode = .test && !s.sec.debugFuse)
  | .extest => !s.sec.debugFuse && (s.sys.phase != .released || s.mode = .test)

/-- TAP_INSTRUCTION (R540): one not offered selects BYPASS (log entry 29). -/
def execTapInstruction (i : TapInstr) (s : State) : Host.Outcome State Fault Refusal :=
  .next { s with sec := { s.sec with tap := if s.tapOffers i then i else .bypass } }

end Sys2Proof.Machine
end

