-- ==== Sys2Proof/Machine/Health.lean ====
section
/-! DEFINITION. Chapter 17: the monitors and their thresholds, fault clearing, the CX PLL, watchdogs, working memory, and the
event log. -/

namespace Sys2Proof.Machine

/-! ### Die temperature (R543 to R545, R171, R216, R388) -/

/-- The temperature objects of the dies present, with the die's bit in DIE_MASK and its sample. -/
def State.dieTemps (s : State) (t : Temps) : List (Nat × Nat × Int) :=
  ([(0, Reg.TEMP_CX, t.cx), (1, Reg.TEMP_PX, t.px), (2, Reg.TEMP_MX, t.mx), (3, Reg.TEMP_UX 0, t.ux0),
    (4, Reg.TEMP_UX 1, t.ux1), (5, Reg.TEMP_UX 2, t.ux2), (6, Reg.TEMP_UX 3, t.ux3), (7, Reg.TEMP_HX, t.hx)]).filter
    fun d => bit (Variant.dieMask s.variant) d.1

/-- The hottest die: the lowest-numbered at a tie (R544). -/
def hottest : List (Nat × Nat × Int) → Nat × Nat × Int
  | [] => (0, Reg.TEMP_CX, 0)
  | d :: r => r.foldl (fun a b => if a.2.2 < b.2.2 then b else a) d

/-- A temperature as its object holds it. -/
def tempRaw (t : Int) : Nat := ofInt 16 (satI 16 t)

/-- The temperatures shown: the monitors' group and the objects that mirror them. -/
def State.showTemps (s : State) (t : Temps) : State :=
  let ds := s.dieTemps t
  let h := hottest ds
  let top := if s.get Reg.TEMP_SEQ = 0 then h.2.2 else max h.2.2 (s.i16 Reg.T_HOT_MAX)
  let s1 := s.record Reg.TEMP_SEQ (ds.map (fun d => (d.2.1, tempRaw d.2.2)) ++
    [(Reg.T_HOT, tempRaw h.2.2), (Reg.T_HOT_DIE, h.1), (Reg.T_HOT_MAX, tempRaw top)])
  let s2 := s1.quadList.foldl (fun u q => u.recordIf (Reg.QSTATE_SEQ q) [(Reg.QUAD_DIE_TEMP q, u.get (Reg.TEMP_UX q))]) s1
  let s3 := if Variant.hx s.variant then s2.recordIf Reg.HSTATE_SEQ [(Reg.HF_DIE_TEMP, tempRaw t.hx)] else s2
  if Variant.big s.variant then
    let rate := if 850 < t.mx then 2 else if t.mx ≤ 820 then 1 else s3.get Reg.REFRESH_RATE
    s3.recordIf Reg.MSTATE_SEQ [(Reg.MX_TEMP, tempRaw t.mx), (Reg.REFRESH_RATE, rate)]
  else s3

/-- Events 8 and 9 (Table 17.2). -/
def State.judgeTemp (s : State) (h : Nat × Nat × Int) : State :=
  let v := h.2.2
  let warn := s.hlt.warnArmed && s.i16 Reg.TEMP_WARN ≤ v
  let s1 := if warn then ({ s with hlt := { s.hlt with warnArmed := false } }).latch 8 h.2.1 (tempRaw v)
    else if v ≤ s.i16 Reg.TEMP_WARN - s.i16 Reg.TEMP_WARN_HYST then { s with hlt := { s.hlt with warnArmed := true } } else s
  if 1500 ≤ v && !bit (s1.get Reg.FAULT_ACTIVE) 0 then s1.criticalFault 0 (some (9, h.2.1, tempRaw v)) else s1

/-- Event 20, and the calibration it makes due (R171): at once outside a dwell, in the modes that keep the synthesisers
on. -/
def State.calByTemp (s : State) (q : Nat) : State :=
  let moved := (s.i16 (Reg.QUAD_DIE_TEMP q) - s.i16 (Reg.CAL_TEMP q)).natAbs
  if s.get (Reg.CAL_COUNT q) = 0 || (s.quad q).dueShown || moved < s.get (Reg.CAL_DUE_DELTA q) then s
  else
    let s1 := ((s.updQuad q fun x => { x with dueShown := true, calDue := true })).latch 20 (Reg.QUAD_DIE_TEMP q)
      (s.get (Reg.QUAD_DIE_TEMP q))
    let now := (s.mode = .ready || s.mode = .run || s.mode = .test) && (s.leaderOf q).isNone && (s.hub q).width != 0 &&
      !s.sys.refLost && !(s.quad q).calibrating
    if now then s1.calNow q else s1

/-- A gang whose tone refresh falls due: its round ends at the next slot boundary (R216, Table 7.2). -/
def State.toneDue (s : State) (l : Nat) : State :=
  match s.running l with
  | some r => if s.toneStale l r then s.dueRound l 2 else s
  | none => s

/-- Event 13 may be latched again once T_hot has fallen by the hysteresis (R324). -/
def State.derateRearm (s : State) : State :=
  if s.i16 Reg.T_HOT ≤ s.i16 Reg.DERATE_START - s.i16 Reg.DERATE_HYST then { s with val := { s.val with derHeld := false } } else s

/-- TEMP_SAMPLE (R545; R414: HX at 150.0 °C). -/
def execTempSample (t : Temps) (s : State) : Host.Outcome State Fault Refusal :=
  if s.sys.phase != .released then .next s
  else
    let s0 := s.showTemps t
    let s1 := (if Variant.hx s.variant && 1500 ≤ t.hx && s0.get Reg.HF_STATE != 5 then s0.hfFault 3 else s0).judgeTemp
      (hottest (s.dieTemps t))
    let s2 := (s1.quadList.foldl State.calByTemp s1).derateRearm
    .next (s2.quadList.foldl State.toneDue s2)

/-! ### Supplies (R543, R545) -/

/-- Every rail is within ±5% of nominal and VIN within 4,500 to 5,500 mV (Table 17.4). -/
def State.railsGood (s : State) (v : Volts) : Bool :=
  let near := fun x nom => 95 * nom ≤ 100 * x && 100 * x ≤ 105 * nom
  4500 ≤ v.vin.toNat && v.vin.toNat ≤ 5500 && near v.core.toNat 750 && near v.aux.toNat 1800 &&
    (!s.vmainUp || near v.pxMain.toNat 3300)

/-- The supplies shown. -/
def State.showVolts (s : State) (v : Volts) : State :=
  let low := if s.get Reg.VOLT_SEQ = 0 then v.vin.toNat else min v.vin.toNat (s.get Reg.VIN_MIN_MV)
  let pas := (s.quadList.map fun q => (Reg.V_PA_MV q, ([v.pa0, v.pa1, v.pa2, v.pa3].getD q 0).toNat))
  s.record Reg.VOLT_SEQ
    ([(Reg.VIN_MV, v.vin.toNat), (Reg.VIO_A_MV, v.vioA.toNat), (Reg.VIO_B_MV, v.vioB.toNat), (Reg.V_CORE_MV, v.core.toNat),
      (Reg.V_AUX_MV, v.aux.toNat), (Reg.VIN_MIN_MV, low), (Reg.VIN_RIPPLE_MV, v.ripple.toNat)] ++ pas ++
      (if Variant.big s.variant then [(Reg.V_PXMAIN_MV, v.pxMain.toNat)] else []))

/-- The ripple's holding times: three updates above its limit, 1,000 at most 0.8 of it (Table 17.2). -/
def State.judgeRipple (s : State) (v : Nat) : State :=
  let lim := s.get Reg.VIN_RIPPLE_MAX_MV
  let hi := if lim < v then s.hlt.rippleHigh + 1 else 0
  let lo := if 10 * v ≤ 8 * lim then s.hlt.rippleLow + 1 else 0
  let armed := s.hlt.noiseArmed || 1000 ≤ lo
  let fires := armed && 3 ≤ hi
  let s1 := { s with hlt := { s.hlt with rippleHigh := min hi 3, rippleLow := min lo 1000, noiseArmed := armed && !fires } }
  if fires then s1.latch 15 Reg.VIN_RIPPLE_MV v else s1

/-- VOLTAGE_SAMPLE (R545). -/
def execVoltageSample (v : Volts) (s : State) : Host.Outcome State Fault Refusal :=
  if s.sys.phase != .released then .next s
  else
    let s1 := (s.showVolts v).judgeRipple v.ripple.toNat
    let good := if s.railsGood v then min 10 (s.hlt.railGood + 1) else 0
    let armed := s.hlt.vinArmed || s.get Reg.VIN_LOW_MV + 100 ≤ v.vin.toNat
    .next { s1 with hlt := { s1.hlt with railGood := good, vinArmed := armed } }

/-- RAIL_COMPARATOR_TRIP (R545): a comparator has passed its threshold for its holding time. -/
def execRailComparatorTrip (r : Rail) (s : State) : Host.Outcome State Fault Refusal :=
  if s.sys.phase != .released then .next s
  else match r with
    | .vinLow => .next (if s.hlt.vinArmed then
        ({ s with hlt := { s.hlt with vinArmed := false } }).latch 10 Reg.VIN_MV (s.get Reg.VIN_MV) else s)
    | .vinHigh => .next (s.railCritical Reg.VIN_MV)
    | .core => .next (s.railCritical Reg.V_CORE_MV)
    | .aux => .next (s.railCritical Reg.V_AUX_MV)
    | .pxMain => .next (if s.vmainUp then s.railCritical Reg.V_PXMAIN_MV else s)
    | .pa q => .next (s.railLost q)

/-! ### Process (R543, R545) -/

/-- The process objects of the dies present, with the die's bit and its deviation. -/
def State.dieProcs (s : State) (p : Procs) : List (Nat × Nat × Int) :=
  ([(0, Reg.PROC_CX, p.cx), (3, Reg.PROC_UX 0, p.ux0), (4, Reg.PROC_UX 1, p.ux1), (5, Reg.PROC_UX 2, p.ux2),
    (6, Reg.PROC_UX 3, p.ux3), (7, Reg.PROC_HX, p.hx)]).filter fun d => bit (Variant.dieMask s.variant) d.1

/-- PROCESS_MEASURE (R545): each die's event 14 waits for an acknowledge. -/
def execProcessMeasure (p : Procs) (s : State) : Host.Outcome State Fault Refusal :=
  if s.sys.phase != .released then .next s
  else
    let ds := s.dieProcs p
    let s1 := s.record Reg.PROC_SEQ (ds.map fun d => (d.2.1, tempRaw d.2.2))
    .next (ds.foldl (fun t d =>
      if s.get Reg.PROC_DRIFT_LIMIT < d.2.2.natAbs && !t.hlt.procHeld.testBit d.1 then
        ({ t with hlt := { t.hlt with procHeld := setBit t.hlt.procHeld d.1 } }).latch 14 d.2.1 (tempRaw d.2.2)
      else t) s1)

/-! ### The CX PLL (R548) -/

/-- CX_PLL_UNLOCK: the hubs stop, and the source CX_PLL is critical. -/
def execCxPllUnlock (s : State) : Host.Outcome State Fault Refusal :=
  if s.sys.phase != .released || s.sys.pllLost then .next s
  else
    let s1 := { s with sys := { s.sys with pllLost := true } }
    let s2 := (s1.quadList ++ (if Variant.hx s1.variant then [4] else [])).foldl State.linkLost s1
    .next (s2.criticalFault 2 (some (17, 0, 0)))

/-- CX_PLL_RELOCK: the condition of the source ends; the part stays in HOLD. -/
def execCxPllRelock (s : State) : Host.Outcome State Fault Refusal :=
  .next { s with sys := { s.sys with pllLost := false } }

/-! ### Clearing faults (R549) -/

/-- Critical sources whose condition has ended (Table 17.4). -/
def State.endedFaults (s : State) : Nat :=
  maskOf ((if s.i16 Reg.T_HOT ≤ 1400 then [0] else []) ++ (if 10 ≤ s.hlt.railGood then [1] else []) ++
    (if s.sys.pllLost then [] else [2]) ++ [5, 7])

/-- A write of FAULT_CLEAR. -/
def State.faultClear (s : State) (v : Nat) : Result × State :=
  checks [(v != 1, .range)]
    (fun t => t.record Reg.FAULT_SEQ [(Reg.FAULT_ACTIVE, clrMask (t.get Reg.FAULT_ACTIVE) t.endedFaults)]) s

/-- FAULT_CLEAR (R549). -/
def execFaultClear (l : Link) (v : BitVec 8) (s : State) : Host.Outcome State Fault Refusal :=
  .next (s.request l false fun t => t.faultClear v.toNat)

/-! ### Watchdogs (R555) -/

/-- The EMCY of a bark, sent whenever a CAN controller runs: also where EVT_EN_EMCY leaves event 4 out (R555). -/
def State.barkEmcy (s : State) : State :=
  if s.sys.canUp && s.mode != .boot && !(s.get Reg.EVT_EN_EMCY).testBit 4 then
    s.queueEmcy ⟨0xFF04, s.errorRegister, s.status .can, 4, s.tim.now⟩
  else s

/-- WATCHDOG_BARK: an occurrence while event 4 is latched delivers nothing new (R557). -/
def execWatchdogBark (core : Fin 5) (s : State) : Host.Outcome State Fault Refusal :=
  if s.sys.phase != .released then .next s
  else
    let s1 := s.record Reg.WDOG_SEQ [(Reg.WDT_BARKS, (s.get Reg.WDT_BARKS + 1) % 2 ^ 32)]
    let s2 := ({ s1 with hlt := { s1.hlt with barking := setBit s1.hlt.barking core } }).latch 4 core 0
    .next (if s.latched 4 then s2 else s2.barkEmcy)

/-- WATCHDOG_BITE: 10 ms after a bark that was not served. -/
def execWatchdogBite (core : Fin 5) (s : State) : Host.Outcome State Fault Refusal :=
  .next (if s.hlt.barking.testBit core then s.resetPart 3 core .resetHeld else s)

/-! ### Working memory (R552) -/

/-- A working buffer is lost, with what it held for its region (Table 11.3): located reads, or open packets. -/
def State.bufferLost (s : State) (r : Nat) : State :=
  match r with
  | 1 => { s with rep := { s.rep with reads := [], joins := [] } }
  | 4 | 6 => (List.range 3).foldl (fun t i =>
      let n := ((t.stream i).opens.map fun p => p.2.baseRecs).sum
      (t.updStream i fun x => { x with opens := [] }).lostMemory i n) s
  | _ => s

/-- WORK_MEM_ERROR (R552). -/
def execWorkMemError (e : WorkErr) (s : State) : Host.Outcome State Fault Refusal :=
  if s.sys.phase != .released then .next s
  else match e with
    | .corrected =>
      let n := (s.get Reg.WORK_CORRECTED + 1) % 2 ^ 32
      .next ((s.record Reg.WDOG_SEQ [(Reg.WORK_CORRECTED, n)]).latch 60 Reg.WORK_CORRECTED n)
    | .oneCopy => .next (s.latch 61 0 0)
    | .codePage => .next (s.latch 61 0 0)
    | .buffer r => .next ((s.latch 61 0 0).bufferLost r)
    | .bothCopies => .next ((s.latch 61 0 0).resetPart 8 0 .resetHeld)

/-! ### Acknowledging events (R560) -/

/-- EVT_ACK (R560). -/
def execEvtAck (l : Link) (mask : BitVec 64) (s : State) : Host.Outcome State Fault Refusal :=
  .next (s.request l false fun t => (.ok, t.ackEvents mask.toNat))

/-! ### The event log (R562, R563) -/

/-- Where EVENT_LOG lies in flash 0, and its size (Table 14.1). -/
def logBase : Nat := 0xD10000
def logSize : Nat := 2097152

/-- An entry's bytes 0 to 27 (Table 17.8). -/
def LogEntry.body (e : LogEntry) (seq boots : Nat) : Bytes :=
  leBytes 4 seq ++ leBytes 4 boots ++ leBytes 8 e.time ++ leBytes 1 e.event ++ leBytes 1 e.status ++ leBytes 1 e.cls ++
    leBytes 1 0 ++ leBytes 4 e.detA ++ leBytes 4 e.detB

/-- One entry written: its sector is erased where it is the first of it. -/
def State.logOne (s : State) (e : LogEntry) : State :=
  let head := s.get Reg.LOG_HEAD
  let seq := s.get Reg.LOG_SEQ_NEXT
  let b := e.body seq (s.get Reg.BOOT_COUNT)
  let s1 := if head % 4096 = 0 then s.updFlash 0 fun m => m.erase (logBase + head) 4096 else s
  (s1.updFlash 0 fun m => m.writeAll (logBase + head) (b ++ leBytes 4 (crc32 b))).record Reg.LOGS_SEQ
    [(Reg.LOG_HEAD, (head + 32) % logSize), (Reg.LOG_SEQ_NEXT, (seq + 1) % 2 ^ 32)]

/-- EVENT_LOG_WRITE (R562): every buffered entry, oldest first; it waits for an SPC operation on flash 0 (R478). -/
def execEventLogWrite (s : State) : Host.Outcome State Fault Refusal :=
  .next (if s.flashTaken 0 then s else s.ev.log.foldl State.logOne { s with ev := { s.ev with log := [] } })

end Sys2Proof.Machine
end

