-- ==== Sys2Proof/Machine/Commit.lean ====
section
/-! DEFINITION. Chapter 3: staging, commits and their validation, the apply instant, storing a configuration and loading the
stored one. -/

namespace Sys2Proof.Machine

/-! ### Judging a commit (R106 to R109, R126, R531) -/

/-- Why a commit fails: the result, the entry, the other object of a rule, and the stage. -/
structure Reject where
  why : Result
  key : Nat
  other : Nat
  stage : Nat
  deriving DecidableEq, Repr

/-- The state with some configuration objects replaced. -/
def State.overlay (s : State) (es : DomStore) : State := es.foldl (fun t p => t.setBytes p.1 p.2) s

/-- Stages 4 and 5 of entries that give the configuration of `c` (R107). -/
def State.judgeEntries (s c : State) (es : DomStore) : Option Reject :=
  match s.firstBad es with
  | some (k, r) => some ⟨r, k, 0, 4⟩
  | none => (firstBroken c.brokenRules).map fun b => ⟨b.why, b.key, b.other, 5⟩

/-- The signature block of an image is well formed, meant for this part, and verifies under the owner key (R521). -/
def State.ownerSigned (s : State) (img : Bytes) : Bool :=
  let n := img.length - signatureLength
  let b := img.drop n
  s.blockOk b && slice b 8 8 = s.dom Reg.OWNER_KEY_ID &&
    Config.mldsaVerify (s.dom Reg.OWNER_KEY) ctxConfig (img.take n ++ b.take 32) (slice b 32 3309)

/-- Stage 3 (R126, R531): under the owner lock only; at BOOT an unsigned slot of the configuration at enrolment passes
too. -/
def State.stage3 (s c : State) (h : Header) (img : Bytes) (boot : Bool) : Bool :=
  !s.ownerLocked ||
    (h.signed && h.full && s.ownerSigned img &&
      decide (s.get Reg.CONFIG_EPOCH_MIN ≤ blockEpoch (img.drop (img.length - signatureLength)))) ||
    (boot && !h.signed && decide (c.configCrc = s.get Reg.OWNER_BASE_CRC))

/-- A verdict: the failure, or the state under the configuration that results. -/
abbrev Verdict := Except Reject State

/-- The stages of an image (Table 3.6). -/
def State.judgeImage (s : State) (img : Bytes) (boot : Bool) : Verdict :=
  match parseImage s.variant img with
  | none => .error ⟨.configInvalid, 0, 0, 1⟩
  | some (h, es, e) =>
    let c := (if h.full then s.configDefaults else s).overlay es
    if field img e 4 != crc32 (img.take e) then .error ⟨.check, 0, 0, 2⟩
    else if !s.stage3 c h img boot then .error ⟨.denied, 0, 0, 3⟩
    else match s.judgeEntries c es with
      | some r => .error r
      | none => .ok c

/-- The stages of the staged set. -/
def State.judgeStaged (s : State) : Verdict :=
  let c := s.overlay s.cfg.staged
  match s.judgeEntries c s.cfg.staged with
  | some r => .error r
  | none => .ok c

/-- The configuration objects whose values differ in `c`, with the new values. -/
def State.changesTo (s c : State) : DomStore :=
  (configKeys s.variant).filterMap fun k => if s.valueBytes k = c.valueBytes k then none else some (k, c.valueBytes k)

/-! ### The slot record (R115, R118) -/

/-- What a copy's CRC-32 covers: the first 28 of its 32 bytes (log entry 15). -/
def SlotRec.body (r : SlotRec) : Bytes :=
  leBytes 3 r.seq ++ leBytes 1 (match r.current with | none => 0xFF | some b => ofBool b) ++ leBytes 4 r.genA ++ leBytes 4 r.lenA ++
    leBytes 4 r.crcA ++ leBytes 4 r.genB ++ leBytes 4 r.lenB ++ leBytes 4 r.crcB

/-- A copy is valid: its CRC-32 is that of its contents. -/
def SlotRec.valid (r : SlotRec) : Bool := r.crc = crc32 r.body

/-- A copy as it is written, with its CRC-32. -/
def SlotRec.close (r : SlotRec) : SlotRec := { r with crc := crc32 r.body }

/-- The copy of the slot record in force, and whether it is copy 1: the valid one with the higher sequence number. -/
def Cfg.record (c : Cfg) : Option (SlotRec × Bool) :=
  match c.rec0.filter SlotRec.valid, c.rec1.filter SlotRec.valid with
  | some a, some b => if a.seq < b.seq then some (b, true) else some (a, false)
  | some a, none => some (a, false)
  | none, some b => some (b, true)
  | none, none => none

/-- One step of writing the record: the older copy takes the new entry, its sequence counted. -/
def Cfg.writeRecord (c : Cfg) (f : SlotRec → SlotRec) : Cfg :=
  match c.record with
  | none => { c with rec0 := some (f ⟨1, 0, 0, 0, 0, 0, 0, none, 0⟩).close }
  | some (r, true) => { c with rec0 := some { f r with seq := r.seq + 1 : SlotRec }.close }
  | some (r, false) => { c with rec1 := some { f r with seq := r.seq + 1 : SlotRec }.close }

/-- The slot that takes the next configuration (R115). -/
def Cfg.target (c : Cfg) : Bool :=
  match c.slot with
  | some b => !b
  | none => match c.record.bind fun p => p.1.current with
    | some b => !b
    | none => false

/-- Where a configuration slot lies in flash 0 (Table 14.1), and its size. -/
def configBase (b : Bool) : Nat := if b then 0xC90000 else 0xC10000
def configSize : Nat := 524288

/-- Storing starts (R115): the signed image unchanged, or the canonical form (R118, R531). -/
def State.startStoring (s : State) : State :=
  ({ s with cfg := { s.cfg with storing := some (s.cfg.signed.getD s.canonical) } }).put Reg.PERSIST_STATE 1

/-- CONFIG_PERSIST_DONE (R115, R118): the slot is written and the record follows in two steps; a failure leaves the slot's
bytes unknown (log entry 5), with event 54. It waits for an SPC operation on flash 0 (R478). -/
def execConfigPersistDone (ok : Bool) (s : State) : Host.Outcome State Fault Refusal :=
  match s.cfg.storing with
  | none => .next s
  | some img => if s.flashTaken 0 then .next s else
    let b := s.cfg.target
    let s0 := { s with cfg := { s.cfg with storing := none } }
    let s1 := s0.updFlash 0 fun m => m.erase (configBase b) configSize
    if ok then
      let g := s.get Reg.CONFIG_GENERATION
      let mark := fun (r : SlotRec) =>
        if b then { r with genB := g, lenB := img.length, crcB := crc32 img }
        else { r with genA := g, lenA := img.length, crcA := crc32 img }
      let s2 := s1.updFlash 0 fun m => m.writeAll (configBase b) img
      let c := (s2.cfg.writeRecord mark).writeRecord fun r => { r with current := some b }
      .next (({ s2 with cfg := { c with slot := some b } }).put Reg.PERSIST_STATE 0)
    else .next (((s1.scramble 0 (configBase b) img.length).put Reg.PERSIST_STATE 2).flashError 0)

/-! ### Staging (R97 to R102, R105, R124) -/

/-- A timer object that Valve has claimed (R327, R497). -/
def State.claimedKey (s : State) (k : Nat) : Bool :=
  0x2210 ≤ k / 256 && k / 256 < 0x2220 && s.get (Reg.TMR_OWNER (k / 256 - 0x2210)) = 1

/-- STAGED_LINKS (Table 3.5): the links that staged the entries present, by link code − 1. -/
def State.stagedLinks (s : State) : Nat := maskOf ((s.cfg.stagedBy.map fun p => Link.code p.2 - 1).eraseDups)

/-- A write to an RWS or LOCK object found in the dictionary (R97, R99, R100, R105, R126). -/
def State.stage (s : State) (l : Link) (k : Nat) (f : Found) (d : Bytes) : Result × State :=
  let region := k = Reg.REGION_ID && d.length = 1 && (Region.ofId (leNat d)).isNone
  checks [(!f.present s.variant s.mode, .noObject),
    (s.ownerLocked || (f.row.acc = .lock && s.regLocked) || s.claimedKey k, .denied),
    (!f.writeOk s.variant d || region, .range),
    (s.get Reg.COMMIT_STATE != 0, .busy), (!s.canStage k d, .configInvalid)]
    (fun t =>
      (t.stagePut (some l) k d).disarm) s

/-- A write to an address, as staging takes it. -/
def State.stageWrite (s : State) (l : Link) (k : Nat) (d : Bytes) : Result × State :=
  match s.object k with
  | none => (.noObject, s)
  | some f => if f.row.acc = .rws || f.row.acc = .lock then s.stage l k f d else (.denied, s)

/-- STAGE_WRITE (R97). -/
def execStageWrite (l : Link) (index sub : Nat) (d : Bytes) (s : State) : Host.Outcome State Fault Refusal :=
  .next (s.request l false fun t => t.stageWrite l (index * 256 + sub % 256) d)

/-- The staged set is emptied. -/
def State.unstage (s : State) : State := s.restage [] []

/-- The loaded image is emptied. -/
def State.dropImage (s : State) : State := { s with cfg := { s.cfg with image := [] } }

/-- A write of DISCARD (R105, R124). -/
def State.discardAll (s : State) (v : Nat) : Result × State :=
  checks [(v != 1, .range), (s.get Reg.COMMIT_STATE != 0, .busy)] (fun t => t.unstage.dropImage.disarm) s

/-- DISCARD (R124). -/
def execDiscard (l : Link) (s : State) : Host.Outcome State Fault Refusal := .next (s.request l false fun t => t.discardAll 1)

/-- A completed transfer to CONFIG_IMAGE (R105, R124). -/
def State.imageAppend (s : State) (d : Bytes) : Result × State :=
  checks [(524288 < s.cfg.image.length + d.length, .range), (s.get Reg.COMMIT_STATE != 0, .busy)]
    (fun t => ({ t with cfg := { t.cfg with image := t.cfg.image ++ d } }).disarm) s

/-- CONFIG_IMAGE_APPEND (R124). -/
def execConfigImageAppend (l : Link) (d : Bytes) (s : State) : Host.Outcome State Fault Refusal :=
  .next (s.request l false fun t => t.imageAppend d)

/-! ### Commits (R104 to R122) -/

/-- A write of COMMIT (R103, R104, R126). -/
def State.commit (s : State) (v : Nat) : Result × State :=
  checks [(v = 1 && s.ownerLocked, .denied), (v != 1 && v != 2, .range), (s.mode = .test, .mode),
    (s.get Reg.COMMIT_STATE != 0 || s.sys.trans.isSome, .busy)]
    (fun t => ({ t with cfg := { t.cfg with src := some (if v = 1 then .staged else .image) } }.put Reg.COMMIT_STATE 1).disarm) s

/-- COMMIT_STAGED (R106). -/
def execCommitStaged (l : Link) (s : State) : Host.Outcome State Fault Refusal := .next (s.request l false fun t => t.commit 1)

/-- COMMIT_IMAGE (R106). -/
def execCommitImage (l : Link) (s : State) : Host.Outcome State Fault Refusal := .next (s.request l false fun t => t.commit 2)

/-- The commit is over: nothing is being committed. -/
def State.commitOver (s : State) (r : Result) : State :=
  (({ s with cfg := { s.cfg with src := none, next := none } }).put Reg.COMMIT_STATE 0).put Reg.COMMIT_RESULT (Result.code r)

/-- A failed commit (R121 to R123). -/
def State.rejected (s : State) (src : CommitSrc) (r : Reject) : State :=
  let n := (s.get Reg.REJECT_COUNT + 1) % 2 ^ 32
  let s1 := if r.stage = 3 then s.authFailed else s
  let s2 := (s1.record Reg.REJECT_SEQ
    [(Reg.REJECT_INDEX, r.key / 256), (Reg.REJECT_SUB, r.key % 256), (Reg.REJECT_REASON, Result.code r.why),
     (Reg.REJECT_OTHER_INDEX, r.other / 256), (Reg.REJECT_OTHER_SUB, r.other % 256), (Reg.REJECT_STAGE, r.stage),
     (Reg.REJECT_COUNT, n)]).latch 2 Reg.REJECT_REASON (Result.code r.why)
  let s3 := (match src with | .image => s2.dropImage | .staged => s2).commitOver r.why
  let s4 := { s3 with sys := { s3.sys with commitBad := true } }
  ((s4.hfStop 7).carriersOff false).forceHold 5

/-- VALIDATION_DONE (R106, R113, R116, R121). -/
def execValidationDone (s : State) : Host.Outcome State Fault Refusal :=
  match s.cfg.src with
  | none => .next s
  | some src =>
    if s.get Reg.COMMIT_STATE != 1 then .next s
    else
      let v := match src with | .staged => s.judgeStaged | .image => s.judgeImage s.cfg.image false
      let s1 := match src, v with
        | .staged, _ => s
        | .image, .error r => if r.stage = 1 then s else s.checked 2 1 (ofBool (r.stage = 2))
        | .image, .ok _ => s.checked 2 1 0
      match v with
      | .error r => .next (s1.rejected src r)
      | .ok c =>
        if src = .staged && s.cfg.staged.isEmpty then
          let s2 := s1.commitOver .ok
          let s3 := ({ s2 with sys := { s2.sys with commitBad := false } }).latch 3 Reg.CONFIG_GENERATION
            (s2.get Reg.CONFIG_GENERATION)
          .next (if s3.get Reg.PERSIST_STATE = 2 then s3.startStoring else s3)
        else
          let s2 := ({ s1 with cfg := { s1.cfg with next := some (s.changesTo c) } }).put Reg.COMMIT_STATE 2
          .next (if s2.mode = .run then s2.quadList.foldl (fun t q => t.dueRound q 6) s2 else s2)

/-! ### The apply instant -/

/-- What an apply instant changes: its objects, or everything at BOOT (R119). -/
structure Delta where
  keys : List Nat
  boot : Bool
  deriving DecidableEq, Repr

/-- An object of an index range changes. -/
def Delta.within (d : Delta) (lo hi : Nat) : Bool := d.boot || d.keys.any fun k => lo ≤ k / 256 && k / 256 ≤ hi

/-- An object changes. -/
def Delta.has (d : Delta) (k : Nat) : Bool := d.boot || d.keys.contains k

/-- A stream that is disabled or whose link changes gives up its queue (R346): what waits stays in the archive. -/
def State.unqueue (s : State) (i : Nat) : State :=
  let held := fun (t : State) (p : Pkt) => t.rep.archive.any fun x => x.stream = i && x.seq = p.seq
  let keep := (s.stream i).queue.filter fun p => !p.spilled
  let s1 := keep.foldl (fun t p => if held t p then t else t.toArchive { p with spilled := true }) s
  let moved := fun (x : Pkt) => x.stream = i && keep.any fun p => p.seq = x.seq
  let arch := s1.rep.archive.map fun x => if moved x = true then { x with spilled := true } else x
  let s2 := { s1 with rep := { s1.rep with archive := arch } }
  let s3 := s2.updStream i fun st =>
    { st with queue := (st.queue.filter fun p => held s2 p).map (fun p => { p with spilled := true }), pushing := none,
              shown := false }
  (s3.record (Reg.SSTATE_SEQ i) [(Reg.CREDITS i, 0)]).fillChanged i

/-- A stream whose configuration group changes returns to TIER_BASE with no estimate (R370). -/
def State.restream (s : State) (d : Delta) (i : Nat) : State :=
  let s1 := if d.boot then s.put (Reg.TIER_NOW i) (s.get (Reg.TIER_BASE i)) else s.changeTier i (s.get (Reg.TIER_BASE i))
  let s2 := (s1.record (Reg.SSTATE_SEQ i) [(Reg.CAP_EST i, 0)]).updStream i fun st => { st with steady := 0 }
  if !d.boot && (d.has (Reg.STREAM_LINK i) || (d.has (Reg.STREAM_ENABLE i) && s2.get (Reg.STREAM_ENABLE i) = 0)) then s2.unqueue i
  else s2

/-- The streams' side of an apply instant. -/
def State.applyStreams (s : State) (d : Delta) : State :=
  (List.range 3).foldl (fun t i =>
    let g := Reg.STREAM_ENABLE i / 256
    if d.within g g then t.restream d i else t) s

/-- The open packets close, and where a stream's group changes its summaries are placed as cut (R349, R370). -/
def State.closeForApply (s : State) (d : Delta) : State :=
  s.enabledStreams.foldl (fun t i =>
    let g := Reg.STREAM_ENABLE i / 256
    ((if d.within g g && 2 ≤ t.get (Reg.TIER_NOW i) then t.placeT2 i t.windowStart true else t).closeAll i).updStream i Stream.virtCloseAll) s

/-- RING_MIB or HOT_RING_MIB changes (R390): the hot ring and the archive are emptied. -/
def State.emptyRings (s : State) : State :=
  let l := s.rep.archive
  let s1 := { s with rep := { s.rep with hot := [], hotPtr := 0, hotFull := false, archive := [], archPtr := 0, archFull := false } }
  let s2 := (List.range 3).foldl (fun t i =>
    (List.range 8).foldl (fun u n =>
      if (u.get (Reg.MARK_VALID i)).testBit n then
        (u.record (Reg.MARKS_SEQ i) [(Reg.MARK_VALID i, clrBit (u.get (Reg.MARK_VALID i)) n),
          (Reg.MARK_LOST i, setBit (u.get (Reg.MARK_LOST i)) n)]).latch 44 (Reg.MARK_SEQ i n) (u.get (Reg.MARK_SEQ i n))
      else u) t) (l.foldl State.goneBy s1)
  let s3 := (List.range 3).foldl (fun t i =>
    let lost := (t.stream i).queue.filter fun p => p.spilled
    let v := t.updStream i fun st => st.without (fun p => p.spilled) fun p => p.spilled || p.again
    if lost.isEmpty then v
    else
      let u := v.addWide (Reg.LOST_ARCHIVE_LO i) ((lost.map Pkt.baseRecs).sum)
      (u.seq (Reg.LOSS_SEQ i)).recordsLost (Reg.LOST_ARCHIVE_LO i)) s2
  s3.record Reg.HOT_SEQ [(Reg.HOT_OLDEST, 0), (Reg.HOT_RECORDS, 0)]

/-- Profiles settle, and zones whose profile changes start cold (R252, R263). -/
def State.applyAir (s : State) (d : Delta) : State :=
  let s1 := (List.range 8).foldl State.settle s
  let prof := fun p => let g := Reg.Q0 p / 256; d.within g g
  if d.boot then s1
  else ((List.range 32).filter fun z => d.has (Reg.ZONE_PROFILE z) || prof (s1.get (Reg.ZONE_PROFILE z))).foldl
    (State.coldZone · true) s1

/-- Access slots whose fields change are disarmed, then slots arm by themselves (R275). -/
def State.applySlots (s : State) (d : Delta) : State :=
  ((List.range 16).foldl (fun t n =>
    let g := Reg.OP_CODE n / 256
    if d.within g g then t.armOp n false else t) s).autoArm

/-- RANGE_AVAILABLE and the ambiguity range (R285). -/
def State.applyRange (s : State) : State :=
  match s.rangeRun with
  | none => s.recordIf Reg.LSTATE_SEQ [(Reg.RANGE_AVAILABLE, 0), (Reg.RANGE_AMBIGUITY_MM, 0)]
  | some l =>
    let g := ((l.zip l.tail).map fun p => p.2 - p.1).foldl max 0
    s.recordIf Reg.LSTATE_SEQ [(Reg.RANGE_AVAILABLE, 1), (Reg.RANGE_AMBIGUITY_MM, 149896229 / max 1 g)]

/-- The interlock under a new region: entries load at the first region after a fresh power-on (R191); an entry that now
stands for another channel, or that the region before did not have, starts from nothing, and no permit stays withheld under
a rule that the region has not (log entry 30). -/
def State.applyInterlock (s : State) (old : Region) (boot : Bool) : State :=
  if s.region.entries.isEmpty then s
  else if s.ilk.fresh then s.ilkLoad
  else if boot then s
  else
    let same : Nat → Bool := fun e => match old.entries[e]?, s.region.entries[e]? with
      | some a, some b => a.khz == b.khz
      | _, _ => false
    let keep := fun (p : Permit) => { p with
      noDwell := p.noDwell && s.region.windowMs != 0, noCont := p.noCont && s.region.contOnMs != 0 }
    { s with ilk := { s.ilk with permits := s.ilk.permits.map fun p => (p.1, if same p.1 then keep p.2 else default) } }

/-- The new channels are swept in HOLD and READY, the lowest too under a new region (R153, R207). -/
def State.sweepNew (s : State) (old : List Nat) (region : Bool) : State :=
  let now := s.channels.map fun p => p.2.khz
  let on := s.mode = .ready || (s.mode = .hold && s.sys.sweepDone)
  let left := match s.sweep with
    | some w => if w.only.isNone then w.left else []
    | none => []
  let khzs := now.filter fun k => !old.contains k || (region && k = s.lowestKhz) || left.contains k
  let pending := s.sweep.any fun w => w.only.isNone && w.iso && w.left.contains s.lowestKhz
  let waits := match s.sweep with
    | some w => w.only.toList ++ w.queue
    | none => []
  if !on || khzs.isEmpty || s.critical != 0 || s.sys.refLost then s
  else
    let t := s.cutSweep.startSweep khzs none (region || pending)
    { t with sweep := t.sweep.map fun w => { w with queue := waits } }

/-- The regulatory and channel side of an apply instant, `old` the state before it (R153, R184, R285). -/
def State.applyChannels (s old : State) (d : Delta) : State :=
  let was := old.channels.map fun p => p.2.khz
  let region := old.get Reg.REGION_ID != s.get Reg.REGION_ID
  let s1 := s.applyInterlock old.region d.boot
  let s2 := if region && !d.boot then s1.record Reg.ISO_SEQ ((List.range 16).map fun k => (Reg.ISOLATION k, noValue)) else s1
  let s3 := (if d.boot || was != (s2.channels.map fun p => p.2.khz) then s2.rebuildSeeds else s2).applyRange
  if d.boot then s3 else s3.sweepNew was region

/-- The tracker starts afresh when its objects change in RUN (R300, R301); localisation ends with LOC_ENABLE (R279). -/
def State.applyTracking (s : State) (d : Delta) : State :=
  let s1 := if s.get Reg.LOC_ENABLE = 1 then s else s.locateNone
  if s1.mode = .run && d.within 0x4400 0x442F then s1.startTracking else s1

/-- The records in CX NVM, the pins and the timers (R327, R427, R471, R486, R502, R515). -/
def State.applyBoard (s : State) (d : Delta) : State :=
  let board : BoardRec := ⟨s.get Reg.SPC_FLASH_COUNT, (List.range 3).map (fun i => s.get (Reg.SPC_SELECT_GPIO i)), s.get Reg.SPC_SCK_MAX⟩
  let links : LinkRec := ⟨s.get Reg.CAN_LINES, s.get Reg.CAN_NOMINAL_RATE, s.get Reg.CAN_DATA_RATE,
    s.get Reg.CAN_NODE_ID_BASE, s.get Reg.HEARTBEAT_TIME⟩
  let s1 := s.updTwb fun b => { b with gpioOut := s.get Reg.GPIO_INIT, stored := some board }
  let s2 := s1.updIo fun i => { i with linkRec := some links }
  let s3 := s2.claimTimers (if s2.get Reg.STAGGER_ENABLE = 1 && 2 ≤ Variant.quads s2.variant then
    some (s2.get Reg.STAGGER_TIMER_BASE) else none)
  let s4 := if d.has Reg.DISC_SOURCE then s3.startDiscipline else s3
  if d.has Reg.SPT_ALIVE_CHECK then s4.put Reg.SPT_ALIVE_FIRST 1 else s4

/-- Chains that the host has disabled carry no Drone (R139), and the phase tables take the committed feeds (R211, R212, Table
6.2). -/
def State.applyChains (s : State) (d : Delta) : State :=
  let s1 := (s.chainList.filter fun c => s.get (Reg.CHAIN_ENABLE c) = 0).foldl State.rampDown s
  s1.showPhases (s1.chainList.filter fun c => d.has (Reg.ELEMENT_PHASE c) || d.has (Reg.ELEMENT_DELAY c))

/-- Quads that the host holds out (R331). -/
def State.applyPins (s : State) : State :=
  (s.quadList.filter fun q => bit (s.get Reg.PIN_QUAD_OUT) q && s.get (Reg.QUAD_STATE q) != 5).foldl
    (fun t q => (t.rampQuad q).quadOut q 5) s

/-- The dwells of the old plan end (R113, R152). -/
def State.endDwells (s : State) : State := s.val.running.foldl (fun t p => t.closeDwell p.1) s

/-- Drone of a quad is held across the change: the first dwell of the new plan on its beam has the same channel, power
and beam (R113). -/
def State.heldAcross (s old : State) (q : Nat) : Bool :=
  match old.leaderOf q, s.val.plan.find? fun d => d.gang.testBit q with
  | some l, some d => match old.running l with
    | some r =>
      d.leader = l && d.khz = r.d.khz && d.gang = r.d.gang && d.start ≤ s.tim.now &&
        s.get (Reg.ZONE_TX_AZ d.zone) = s.get (Reg.TXB_AZ l) && s.get (Reg.ZONE_TX_EL d.zone) = s.get (Reg.TXB_EL l) &&
        ((s.dwellLevels d).filter fun p => p.1 / 4 = q).all fun p => (s.chain p.1).level = some p.2
    | none => false
  | _, _ => false

/-- The new plan in RUN (R113): every Drone that it does not hold is ramped down. -/
def State.applyPlan (s old : State) : State :=
  if s.mode != .run then s
  else
    let s1 := s.endDwells.replan
    (s1.quadList.foldl (fun t q =>
      if s1.heldAcross old q then t else (t.rampQuad q).updQuad q fun x => { x with held := none }) s1).showBeams

/-- Every group of which an object of `ks` is a member has its update counted (R129). -/
def State.seqGroups (s : State) (ks : List Nat) : State := ((ks.filterMap Dict.seqOf).eraseDups).foldl State.seq s

/-- Everything that acts at an apply instant, the objects `es` taking their new values (R111, R119). -/
def State.applyConfig (s : State) (es : DomStore) (boot : Bool) : State :=
  let d : Delta := ⟨es.map (·.1), boot⟩
  let irq := s.irqLow
  let attn := s.attn
  let s1 := (s.endSurvey .busy).closeForApply d
  let s2 := if s1.mode = .run && d.within 0x4400 0x442F then s1.stopTracking 8 else s1
  let s3 := if d.within 0x3C01 0x3C02 || d.within 0x3C04 0x3C04 then s2.hfStop 7 else s2
  let s4 := (s3.overlay es).seqGroups d.keys
  let s5 := if !boot && (d.has Reg.RING_MIB || d.has Reg.HOT_RING_MIB) then s4.emptyRings else s4
  let s6 := (((s5.applyStreams d).applyAir d).applySlots d).applyTracking d
  let s7 := (((s6.applyBoard d).applyPins.applyChains d).applyChannels s d).applyPlan s
  let s8 := (s7.put Reg.CONFIG_CRC s7.configCrc).attnFell attn
  if !irq && s8.irqLow then s8.bump Reg.IRQ_ASSERTIONS else s8

/-- The source of the commit is emptied (R114), a signed image under the owner lock being kept for storing, with its
EPOCH (R531). -/
def State.emptySource (s : State) (src : CommitSrc) : State :=
  let img := s.cfg.image
  match src with
  | .staged =>
    let t := s.unstage
    { t with cfg := { t.cfg with signed := none } }
  | .image =>
    let t := s.dropImage
    if s.ownerLocked then
      ({ t with cfg := { t.cfg with signed := some img } }).record Reg.OWN_SEQ
        [(Reg.CONFIG_EPOCH_MIN, blockEpoch (img.drop (img.length - signatureLength)))]
    else { t with cfg := { t.cfg with signed := none } }

/-- APPLY_INSTANT (R111 to R114): in RUN once every Chanter has ended its slot. -/
def execApplyInstant (s : State) : Host.Outcome State Fault Refusal :=
  match s.cfg.src, s.cfg.next with
  | some src, some es =>
    if s.get Reg.COMMIT_STATE != 2 || !s.eng.rounds.isEmpty then .next s
    else
      let s1 := (s.emptySource src).applyConfig es false
      let g := (s1.get Reg.CONFIG_GENERATION + 1) % 2 ^ 32
      let s2 := (s1.put Reg.CONFIG_GENERATION g).commitOver .ok
      let s3 := { s2 with sys := { s2.sys with validConfig := true, commitBad := false } }
      .next ((s3.latch 3 Reg.CONFIG_GENERATION g).startStoring)
  | _, _ => .next s

/-! ### The configuration at BOOT (R117 to R120) -/

/-- The bytes of a slot, when it matches the record (R118); without a record, as many as its LENGTH gives. -/
def State.slotImage (s : State) (b : Bool) : Option Bytes :=
  let m := s.flash 0
  match s.cfg.record with
  | some (r, _) =>
    let n := if b then r.lenB else r.lenA
    let img := m.readAll (configBase b) n
    if n != 0 && n ≤ configSize && crc32 img = (if b then r.crcB else r.crcA) then some img else none
  | none =>
    let n := leNat (m.readAll (configBase b + 8) 4)
    if n ≤ configSize then some (m.readAll (configBase b) n) else none

/-- A slot holds an image at all: bytes other than erased ones where its MAGIC lies (R117). -/
def State.slotHolds (s : State) (b : Bool) : Bool :=
  match s.cfg.record with
  | some (r, _) => (if b then r.lenB else r.lenA) != 0
  | none => leNat ((s.flash 0).readAll (configBase b) 4) = 0x49435653

/-- The generation recorded for a slot. -/
def State.slotGen (s : State) (b : Bool) : Nat :=
  match s.cfg.record with
  | some (r, _) => if b then r.genB else r.genA
  | none => 0

/-- The first of some slots that passes stages 1 to 5, with the configuration it gives. -/
def State.goodSlot (s : State) : List Bool → Option (Bool × Bytes × State)
  | [] => none
  | b :: r =>
    match s.slotImage b with
    | none => s.goodSlot r
    | some img => match s.judgeImage img true with
      | .ok c => some (b, img, c)
      | .error _ => s.goodSlot r

/-- A stored image is kept whole when it is signed (R531). -/
def signedImage (img : Bytes) : Option Bytes := if bit (field img 6 2) 0 then some img else none

/-- The configuration of BOOT is established (R117, R119, R120), from slots that an application core reads (R474). After a fall-back to the slot of lower generation,
CONFIG_GENERATION is that slot's: the spec names no value for it (log entry 51). -/
def State.loadConfig (s0 : State) : State :=
  let s := s0.flashOther 0
  let order := if s.slotGen false < s.slotGen true then [true, false] else [false, true]
  match s.goodSlot order with
  | some (b, img, c) =>
    let t := (s.applyConfig (s.changesTo c) true).put Reg.CONFIG_GENERATION (s.slotGen b)
    { t with cfg := { t.cfg with slot := some b, signed := signedImage img }, sys := { t.sys with validConfig := true } }
  | none =>
    let why := if s.slotHolds false || s.slotHolds true then 4 else 3
    let t := (s.applyConfig [] true).put Reg.CONFIG_GENERATION (max (s.slotGen false) (s.slotGen true))
    { t with sys := { t.sys with bootReason := lowerReason t.sys.bootReason why } }

end Sys2Proof.Machine
end

