-- ==== Sys2Proof/Machine/Read.lean ====
section
/-! DEFINITION. Reading objects: what an object that is computed shows, a read of one object, the counted read (R133, R434)
and a read entry (R432). -/

namespace Sys2Proof.Machine

/-! ### Objects computed at the read -/

/-- What a claimed timer's configuration objects read (R497, log entry 27). -/
def State.tmrView (s : State) (k : Nat) : Option Nat :=
  if !s.claimedKey k then none
  else
    let n := k / 256 - 0x2210
    let c := s.tmr n
    if k = Reg.TMR_CLOCK n then some c.clock
    else if k = Reg.TMR_RELOAD n then some c.reload
    else if k = Reg.TMR_MATCH n then some c.match_
    else if k = Reg.TMR_GATE_SRC n then some c.gate
    else if k = Reg.TMR_GATE_LEVEL n then some c.level
    else if k = Reg.TMR_EVENT_MASK n then some c.mask
    else none

/-- Replays of a hub's link in the last 1 s (R31). -/
def State.replays1s (s : State) (q : Nat) : Nat := ((s.hub q).replays.filter fun t => s.tim.now - t < 40000000).length

/-- CARRIER_ON_US of a chain, with the time of the Drone that it carries now (Table 4.6). -/
def State.carrierOnUs (s : State) (c : Nat) : Nat :=
  (s.get (Reg.CARRIER_ON_US c) + (if s.hasDrone c then (s.tim.now - (s.chain c).onAt) / 40 else 0)) % 2 ^ 64

/-- HF_FIELD_ON_US, with the time of the field that is up now (Table 12.8). -/
def State.fieldOnUs (s : State) : Nat :=
  (s.get Reg.HF_FIELD_ON_US + ((s.hf.fieldAt.map fun t => (s.tim.now - t) / 40).getD 0)) % 2 ^ 64

/-- Numeric objects that the state determines, as link `l` reads them. -/
def State.viewOf (s : State) (l : Link) (k : Nat) : Option Nat :=
  if k = Reg.MODE_CURRENT then some (Mode.code s.mode)
  else if k = Reg.STATUS_BYTE then some (s.status l)
  else if k = Reg.STAGED_COUNT then some s.cfg.staged.length
  else if k = Reg.STAGED_BYTES then some s.stagedBytes
  else if k = Reg.STAGED_LINKS then some s.stagedLinks
  else if k = Reg.IMAGE_LOADED_BYTES then some s.cfg.image.length
  else if k = Reg.PEEK_STATE then some (ofBool s.peek.isSome)
  else if k = Reg.REGION_COUNT then some 5
  else if k = Reg.ERROR_REGISTER then some s.errorRegister
  else if k = Reg.REVISION then some (s.get Reg.FW_VERSION)
  else if k = Reg.GPIO_OWNED then some s.gpioOwned
  else if k = Reg.IRQ_LEVEL then some (ofBool s.irqLow)
  else if k = Reg.DEVICE_TIME then some s.tim.now
  else if k = Reg.EVT_PENDING then some s.pendingEvents
  else if k = Reg.LOG_PENDING then some s.ev.log.length
  else if k = Reg.HF_FIELD_ON_US then some s.fieldOnUs
  else match (List.range 4).find? fun q => k = Reg.LINK_REPLAYS_1S q with
    | some q => some (s.replays1s q)
    | none => match s.chainList.find? fun c => k = Reg.CARRIER_ON_US c with
      | some c => some (s.carrierOnUs c)
      | none => s.tmrView k

/-- The driver's current limit in mA (Table 12.2). -/
def State.driverLimit (s : State) : Nat := if s.variant = .sv31 then 400 else 700

/-- The field is up and Slide has not measured it yet. -/
def State.slideUnseen (s : State) : Bool := s.hf.fieldAt.isSome && s.get Reg.SLIDE_Z = 0

/-- HOT_SPAN_MS (R336): the hot ring's capacity over the records of the last 60 s; `none` where the ring held no record, or
not all of them. -/
def State.hotSpan (s : State) : Option Nat :=
  let recent := fun (e : HotRec) => s.tim.now ≤ e.time + 2400000000
  let n := (s.rep.hot.filter fun e => recent e).length
  if n = 0 || n = s.hotCap then none else some (s.hotCap * 60000 / n % 2 ^ 32)

/-- Numeric objects that show a value the spec does not give, within the bounds it gives: a free value (log entry 5). -/
def State.viewFree (s : State) (k : Nat) : Option Nat :=
  let v := Config.freeValue s.free
  if k = Reg.LANE_LOAD_MAX then some (if s.get Reg.LANES_ACTIVE = 0 then 0 else v % 101)
  else if k = Reg.REPLAN_MAX_US then some (if s.get Reg.REPLANS = 0 then 0 else v % 2 ^ 32)
  else if k = Reg.HOT_SPAN_MS then some (s.hotSpan.getD (v % 2 ^ 32))
  else if k = Reg.ARCHIVE_SPAN_S then some (v % 2 ^ 32)
  else if k = Reg.INIT_MIB then some s.initMib
  else if k = Reg.GPIO_IN then some s.gpioIn
  else if k = Reg.HF_DRIVER_CURRENT then some (if s.hf.fieldAt.isNone then 0 else v % (s.driverLimit + 1))
  else if k = Reg.SLIDE_PHASE && s.slideUnseen then some (v % 2 ^ 16)
  else if k = Reg.SLIDE_Z && s.slideUnseen then some (v % 2 ^ 16)
  else if k = Reg.CAN0_ERR_COUNTS then some (if s.get Reg.CAN0_STATE = 0 then 0 else v % 2 ^ 32)
  else if k = Reg.CAN1_ERR_COUNTS then some (if s.get Reg.CAN1_STATE = 0 then 0 else v % 2 ^ 32)
  else none

/-- A numeric object as link `l` reads it. -/
def State.view (s : State) (l : Link) (k : Nat) : Nat × State :=
  match s.viewOf l k with
  | some v => (v, s)
  | none => match s.viewFree k with
    | some v => (v, s.draw.2)
    | none => s.readPart l k

/-- A list of 64 values of `n` bytes by event number. -/
def eventTable (n : Nat) (f : Nat → Nat) : Bytes := (List.range 64).flatMap fun e => leBytes n (f e)

/-- A block object as it reads. -/
def State.viewDom (s : State) (k : Nat) : Bytes :=
  if k = Reg.PEEK_VALUE then s.peek.getD []
  else if k = Reg.REGION_NAME then s.viewed.name
  else if k = Reg.REGION_HEADER then s.viewed.header
  else if k = Reg.CHANNEL_TABLE then s.viewed.table
  else if k = Reg.CHANNEL_ON_US then s.channelOnUs
  else if k = Reg.REGION_MAP then s.regionMap
  else if k = Reg.DICT_ENTRY then ((Tab.find s.rep.dict (s.get Reg.DICT_LOOKUP)).map DictEntry.bytes).getD (padTo 64 [])
  else if k = Reg.EVT_COUNTS then eventTable 4 (Tab.get s.ev.counts)
  else if k = Reg.EVT_TIMES then eventTable 8 (Tab.get s.ev.times)
  else if k = Reg.EVT_DETAILS then (List.range 64).flatMap fun e => leBytes 4 (Tab.get s.ev.detA e) ++ leBytes 4 (Tab.get s.ev.detB e)
  else match (List.range 16).find? fun c => k = Reg.FACTORY_SEED c || k = Reg.ACTIVE_SEED c with
    | some c => if k = Reg.FACTORY_SEED c then factoryTable c else (s.chain c).seeds.flatMap Seed.bytes
    | none => s.dom k

/-! ### A read of one object -/

/-- The value of an object found in the dictionary, as link `l` reads it; a WO object reads as zero (R14). -/
def State.readFound (s : State) (l : Link) (k : Nat) (f : Found) : Result × Bytes × State :=
  if f.row.acc = .wo then (.ok, List.replicate (f.row.ty.size.getD 0) 0#8, s)
  else if k = Reg.HOT_READ then s.hotRead
  else match (List.range 3).find? fun i => k = Reg.REPORT_NEXT i with
    | some i => s.reportNext i
    | none =>
      if f.row.ty.isBlock then (.ok, s.viewDom k, s)
      else
        let r := s.view l k
        (.ok, leBytes (f.row.ty.size.getD 0) r.1, r.2)

/-- A read of one object (R14, R89). -/
def State.readObj (s : State) (l : Link) (k : Nat) : Result × Bytes × State :=
  match s.object k with
  | none => (.noObject, [], s)
  | some f => s.readFound l k f

/-- A result under which a read returns data (R95, R373). -/
def Result.gives (r : Result) : Bool := r = .ok || r = .markLost

/-- A member as a request that reads several returns it: the value of the snapshot `s0` taken at its start (R131), whatever
the reads before it did; `s` is where they led. HOT_READ and REPORT_NEXT return what their own cursor has come to. -/
def State.readFrom (s s0 : State) (l : Link) (k : Nat) (f : Found) : Result × Bytes × State :=
  let y := s.readFound l k f
  if k = Reg.HOT_READ || (List.range 3).any fun i => k = Reg.REPORT_NEXT i then y
  else
    let x := ({ s0 with free := s.free, shadows := s.shadows } : State).readFound l k f
    (x.1, x.2.1, y.2.2)

/-- A read entry (R432): of a DOM, at most `maxLen` bytes from `offset`, RANGE when bytes remain; of any other type, the
whole value. -/
def State.readEntry (s s0 : State) (l : Link) (k offset maxLen : Nat) : Result × Bytes × State :=
  match s.object k with
  | none => (.noObject, [], s)
  | some f => match f.row.ty with
    | .dom _ =>
      let r := s.readFrom s0 l k f
      if Result.gives r.1 then (if offset + maxLen < r.2.1.length then .range else r.1, slice r.2.1 offset maxLen, r.2.2)
      else (r.1, [], r.2.2)
    | t => if offset != 0 || maxLen < t.size.getD 0 then (.range, [], s) else s.readFrom s0 l k f

/-! ### Counted reads (R133, R434, R457) -/

/-- A member as a counted read packs it: a DOM after its length. -/
def packed (f : Found) (d : Bytes) : Bytes :=
  match f.row.ty with
  | .dom _ => leBytes 2 d.length ++ d
  | _ => d

/-- The first result of two that is not OK. -/
def Result.first (a b : Result) : Result := if a = .ok then b else a

/-- The members of an index from some sub-indices, packed until `count` bytes are reached, from one snapshot. -/
def State.packFrom (s s0 : State) (l : Link) (count : Nat) (r : Result) (d : Bytes) : List Nat → Result × Bytes × State
  | [] => (if d.length < count then Result.first r .range else r, d.take count, s)
  | k :: ks =>
    if count ≤ d.length then (r, d.take count, s)
    else match s.object k with
      | none => s.packFrom s0 l count r d ks
      | some f =>
        let x := s.readFrom s0 l k f
        x.2.2.packFrom s0 l count (Result.first r x.1) (d ++ packed f x.2.1) ks

/-- A counted read of `count` bytes from an address (R133): NO_OBJECT where it is not in use. -/
def State.readCount (s : State) (l : Link) (k count : Nat) : Result × Bytes × State :=
  if (s.object k).isNone then (.noObject, [], s)
  else s.packFrom s l count .ok [] ((List.range (255 - k % 256)).map (k + ·))

/-- The upload of sub-index 0xFF: every member from sub-index 1 (R457). -/
def State.readWhole (s : State) (l : Link) (index : Nat) : Result × Bytes × State :=
  let ks := (List.range 254).map fun i => index * 256 + 1 + i
  if ks.all fun k => (s.object k).isNone then (.noObject, [], s)
  else
    let r := s.packFrom s l (2 ^ 32) .ok [] ks
    (if r.1 = .range then .ok else r.1, r.2)

/-- A request that only reads the mode or the status: served in WATCH (R76). -/
def watchKey (k : Nat) : Bool := k = Reg.STATUS_BYTE || k = Reg.MODE_CURRENT

/-! ### Rows of chapter 1 that read (R43, R134) -/

/-- WIDE_VALUE_LO_READ (R134): the lowest part is latched for the link; any other object is only read. -/
def execWideValueLoRead (l : Link) (index sub : Nat) (s : State) : Host.Outcome State Fault Refusal :=
  .next (s.read l fun t => t.readObj l (index * 256 + sub % 256))

end Sys2Proof.Machine
end

