-- ==== Sys2Proof/Machine/Boot.lean ====
section
/-! DEFINITION. Power, reset and BOOT (Sequence 2.1, chapters 2, 13, 14, 16, 18): from POR release to the end of BOOT. -/

namespace Sys2Proof.Machine

/-! ### Power and RESET_N (R569, R574, R577) -/

/-- POR_RELEASE (R574): the banks detect their levels (R569); a retention domain found unpowered makes it a power-on, at
which the interlock starts afresh (R191) and what counts since power-on is 0 (Table 5.4). -/
def execPorRelease (vioA vioB : BitVec 16) (unpowered : Bool) (s : State) : Host.Outcome State Fault Refusal :=
  if s.sys.phase != .porHeld then .next s
  else
    let s1 := { s with sys := { s.sys with phase := .resetHeld, vioA33 := decide (2400 ≤ vioA.toNat), vioB33 := decide (2400 ≤ vioB.toNat) } }
    .next (if unpowered then
      ({ s1 with ilk := { (default : Ilk) with fresh := true } }).puts
        [(Reg.RESET_CAUSE, 0), (Reg.RESET_DETAIL, 0), (Reg.DWELL_LIMIT_COUNT, 0), (Reg.DUTY_LIMIT_COUNT, 0),
         (Reg.PERMIT_REFUSALS, 0), (Reg.PERMIT_WITHDRAWALS, 0), (Reg.REGCNT_SEQ, 0)]
    else s1)

/-- RESET_N_ASSERT (R574). -/
def execResetNAssert (s : State) : Host.Outcome State Fault Refusal :=
  .next (s.resetPart 1 0 (if s.sys.phase = .porHeld then .porHeld else .resetHeld))

/-- BROWN_OUT (R577). -/
def execBrownOut (s : State) : Host.Outcome State Fault Refusal := .next (s.resetPart 2 0 .porHeld)

/-- VIO_BROWN_OUT (R569), of either bank. -/
def execVioBrownOut (_ : Bool) (s : State) : Host.Outcome State Fault Refusal := .next (s.resetPart 2 0 .porHeld)

/-! ### Frames sent on CAN -/

/-- Whether a controller is on and not bus-off (R450). -/
def State.canLive (s : State) : Bool :=
  [Reg.CAN0_STATE, Reg.CAN1_STATE].any fun k => s.get k = 1 || s.get k = 2

/-- Frames sent, on every line that is not bus-off; none where every line is. -/
def State.canSend (s : State) (fs : List CanFrame) : State :=
  { s with io := { s.io with canOut := if s.canLive then fs else [] } }

/-- The boot-up message or a heartbeat (R455). -/
def State.nmtFrame (s : State) (code : Nat) : CanFrame := ⟨0x700 + s.sys.node, [BitVec.ofNat 8 code]⟩

/-- The controllers start on the lines of the link record, and the boot-up message is sent (R427, R450, R454, R455). -/
def State.startCan (s : State) : State :=
  let n := s.io.inForce.lines
  let s1 := s.record Reg.CANSTATE_SEQ
    [(Reg.CAN0_STATE, ofBool (bit n 0)), (Reg.CAN1_STATE, ofBool (bit n 1)), (Reg.CAN_ACTIVE_LINE, ofBool (n = 2)),
     (Reg.CAN_NMT_STATE, 0x7F)]
  let s2 := { s1 with io := { s1.io with usdo := none, usdoOut := none, tpdo := [], passive := 0 } }
  s2.canSend [s2.nmtFrame 0]

/-! ### Reset release (R59, R67, R452, R440, R472, R525, R526) -/

/-- The link record that BOOT starts from (R427). -/
def State.bootLinks (s : State) : LinkRec := s.io.linkRec.getD ⟨1, 3, 4, 0x20, 1000⟩

/-- The straps and the levels sampled, and the records that come into force. -/
def State.sampled (s : State) (testen : Bool) (as canId : Nat) (gates : Nat) : State :=
  let r := s.bootLinks
  let s1 : State := { s with
    sys := { s.sys with phase := .released, testen := testen, twaAs := as, canId := canId, node := r.base + canId,
                        bootReason := if testen then 6 else 0 }
    io := { s.io with inForce := r }
    brd := { s.brd with inForce := s.brd.stored.getD ⟨1, [1, 2, 3], 0⟩ } }
  (List.range 8).foldl (fun t g => t.put (Reg.GATE_LEVEL g) (ofBool (gates.testBit g)))
    (s1.puts [(Reg.CAN_NODE_ID, r.base + canId), (Reg.TWA_ADDRESS, 0x58 + as)])

/-- What discovery finds of flash `n` (R472); flash 0 is always fitted. -/
def State.discover (s : State) (n : Nat) (f : FlashInfo) : State :=
  if n != 0 && s.brd.inForce.count ≤ n then s
  else if f.sfdpOk then
    s.puts [(Reg.FLASH_STATE n, 1), (Reg.JEDEC_ID n, f.jedec % 2 ^ 24), (Reg.FLASH_SIZE_KIB n, f.sizeKib % 2 ^ 32),
      (Reg.SFDP_REV n, f.sfdpRev % 2 ^ 16), (Reg.READ_MODE n, f.readMode % 4), (Reg.ADDR_BYTES n, if f.addrBytes = 4 then 4 else 3),
      (Reg.ERASE_SIZES n, f.eraseSizes % 8)]
  else s.put (Reg.FLASH_STATE n) 2

/-- Flashes discovered, from number `n` on; a flash with no answer has no valid SFDP header. -/
def State.discoverAll (s : State) (n : Nat) : List FlashInfo → State
  | [] => (List.range 4).foldl (fun t k => if n ≤ k && (k = 0 || k < t.brd.inForce.count) then t.put (Reg.FLASH_STATE k) 2 else t) s
  | f :: r => (s.discover n f).discoverAll (n + 1) r

/-- What slot `b`, 0 for A, holds where it verifies: never below FW_SVN_FUSED, nor erased or abandoned by an update (R523, R527,
R529). -/
def State.fwInfo (s : State) (b : Nat) : FwVerdict → Option (Nat × Nat)
  | .good v svn => if s.get Reg.FW_SVN_FUSED ≤ svn.val && !bit s.sec.spoiled b then some (v.toNat, svn.val) else none
  | _ => none

/-- The boot ROM counts the boot, and a trial boot (R526). -/
def State.countBoot (s : State) : State :=
  let h := s.bootHdr.1
  let trial := h.trial != 0xFF && h.count < 3
  let n := (h.boots + 1) % 2 ^ 32
  (s.writeHdr { h with boots := n, count := if trial then h.count + 1 else h.count }).put Reg.BOOT_COUNT n

/-- The slot tried first (R526), before the boot was counted: true for B. -/
def BootHdr.first (h : BootHdr) : Bool := if h.trial != 0xFF && h.count < 3 then h.trial = 1 else h.active = 1

/-- The slot `b` runs: what shows the firmware that runs and the other slot (Tables 3.2, 16.11). -/
def State.runSlot (s : State) (b : Bool) : State :=
  let h := s.bootHdr.1
  let own := s.slotInfo b
  let other := s.slotInfo (!b)
  (s.puts [(Reg.FW_SLOT, ofBool b), (Reg.FW_VERSION, (own.map (·.1)).getD 0),
    (Reg.FW_TRIAL, if h.trial = ofBool b then h.count else 0)]).record Reg.FWU_SEQ
      [(Reg.FW_OTHER_VERSION, (other.map (·.1)).getD 0), (Reg.FW_OTHER_SVN, (other.map (·.2)).getD 0)]

/-- The firmware is chosen (R71, R523, R526): the slot tried first, else the other; with neither, the part stays in BOOT. -/
def State.chooseSlot (s : State) (a b : Option (Nat × Nat)) : State :=
  let first := s.bootHdr.1.first
  let s1 := s.countBoot
  let s2 : State := { s1 with
    sec := { s1.sec with slotA := a, slotB := b }
    io := { s1.io with slotFail := ofBool a.isNone + 2 * ofBool b.isNone } }
  if (s2.slotInfo first).isSome then s2.runSlot first
  else if (s2.slotInfo (!first)).isSome then s2.runSlot (!first)
  else { s2 with sys := { s2.sys with noFirmware := true } }

/-- The links of the dies train (Sequence 2.1 step 10). -/
def State.bootLinksTrain (s : State) : State :=
  let t := s.linksTrain
  if Variant.hx t.variant then t.updHub 4 fun h => { h with training := true } else t

/-- What the firmware does first: the OTP check (R198), the debug fuse, the configuration (Sequence 2.1 step 9), and the
dies' links. -/
def State.bootFirmware (s : State) : State :=
  let s1 := if s.regLocked && s.lockedCrc != s.get Reg.LOCKED_CRC then s.criticalFault 6 (some (11, Reg.LOCKED_CRC, s.get Reg.LOCKED_CRC))
    else s
  s1.loadConfig.bootLinksTrain

/-- RESET_RELEASE (R59, R67), the handover to PX included (R576); a reset that a write asked for has taken effect by now, whether or not its answer was taken
(R58, log entry 15). -/
def execResetRelease (testen : Bool) (as canId : Fin 8) (gates : BitVec 8) (fwA fwB : FwVerdict) (flashes : List FlashInfo)
    (s : State) : Host.Outcome State Fault Refusal :=
  let s := s.resets
  if s.sys.phase != .resetHeld then .next s
  else
    let s1 := ((s.sampled testen as canId gates.toNat).flashOther 0).discoverAll 0 flashes
    let s2 := s1.put Reg.DEBUG_STATE (if s1.sec.debugFuse then 2 else 0)
    let ok := s2.get (Reg.FLASH_STATE 0) = 1
    let s3 := (if ok then s2.secureRead else s2).chooseSlot (if ok then s2.fwInfo 0 fwA else none) (if ok then s2.fwInfo 1 fwB else none)
    .next (if s3.sys.noFirmware then s3 else s3.pxHandover.bootFirmware)

/-! ### BOOT -/

/-- BOOT_REFCLK_ACCEPTED (R42): device time starts at 0, and the timers with it (R496). -/
def execBootRefclkAccepted (s : State) : Host.Outcome State Fault Refusal :=
  if s.sys.phase != .released || s.mode != .boot || s.sys.timeOn then .next s
  else .next { s with sys := { s.sys with timeOn := true }, tim := { s.tim with now := 0, frac := 0, phase := 0 } }

/-- BOOT_LINK_START (R73, Table 2.8): CAN stays silent where no firmware runs (R71). -/
def execBootLinkStart (which : BootLink) (s : State) : Host.Outcome State Fault Refusal :=
  if s.sys.phase != .released || s.mode != .boot then .next s
  else match which with
    | .spt => .next { s with sys := { s.sys with sptUp := true } }
    | .twa => .next { s with sys := { s.sys with twaUp := true } }
    | .can => .next (if s.sys.noFirmware || s.sys.canUp then s else ({ s with sys := { s.sys with canUp := true } }).startCan)

/-- The reason for which BOOT ends in HOLD, 0 for none: the lowest (R64, R70). -/
def State.bootEndReason (s : State) : Nat :=
  lowerReason s.sys.bootReason
    (if s.sys.refLost then 1 else if s.critical != 0 then 2 else 0)

/-- Steps 10 and 11 of Sequence 2.1 have ended: they run under a valid configuration, with no critical fault (R72). -/
def State.stepsDone (s : State) : Bool :=
  !s.sys.validConfig || s.critical != 0 || s.sys.refLost ||
    (s.quadList.all (fun q => !(s.hub q).training) && !(s.hub 4).training && s.calsDone && s.sweep.isNone && !s.hf.calRuns &&
      s.sys.sweepDone)

/-- Event 54 of flashes 1 to 3 that answered no SFDP header (R472). -/
def State.flashEvents (s : State) : State :=
  ([1, 2, 3].filter fun n => s.get (Reg.FLASH_STATE n) = 2).foldl (fun t n => t.latch 54 (Reg.FLASH_STATE n) 2) s

/-- The events held from BOOT are delivered as if latched now, in latch order (R69): the EMCYs carry their own latch time. -/
def State.deliverBoot (s : State) : State :=
  let held := s.ev.boot.filter fun p => s.latched p.1 && (s.get Reg.EVT_EN_EMCY).testBit p.1
  let s1 := held.foldl (fun t p => t.queueEmcy ⟨0xFF00 + p.1, t.errorRegister, t.status .can, p.1, p.2⟩) s
  let s2 := { s1 with ev := { s1.ev with boot := [] } }
  if s2.irqLow then s2.bump Reg.IRQ_ASSERTIONS else s2

/-- The end of BOOT (R69, R70, Sequence 2.1 step 12): into HOLD with a reason, or READY with none. -/
def State.endBoot (s : State) (reason durUs : Nat) : State :=
  let s1 := s.flashEvents
  let s2 := if reason = 0 then s1 else ((s1.hfStop 7).cutSweep).quadsOff
  let s3 := ({ s2 with mode := if reason = 0 then .ready else .hold }).puts [(Reg.HOLD_REASON, reason), (Reg.BOOT_DURATION, durUs)]
  let s4 := s3.deliverBoot
  let s5 := (s4.latch 0 0 0).latch 1 Reg.MODE_CURRENT (Mode.code s4.mode)
  (s5.latch 7 (s5.get Reg.RESET_CAUSE + 256 * s5.get Reg.RESET_DETAIL) 0).showHf

/-- BOOT_END (R70): not before its steps have ended; a sweep that is due starts. -/
def execBootEnd (durUs : BitVec 32) (s : State) : Host.Outcome State Fault Refusal :=
  if s.sys.phase != .released || s.mode != .boot || !s.sys.timeOn || s.sys.noFirmware then .next s
  else if s.stepsDone then .next (s.endBoot s.bootEndReason durUs.toNat)
  else .next s.calsEnded

end Sys2Proof.Machine
end

