-- ==== Sys2Proof/Machine/Access.lean ====
section
/-! DEFINITION. Writing objects by address: every link's write of any object comes to the operation that the object's own row
of commands has, to the staged set, or to the object's value (R14, R92, R94). -/

namespace Sys2Proof.Machine

/-- What a write of a number to a command object does. -/
abbrev Op := State → Link → Nat → Result × State

/-! ### Writes whose answer depends on the board: the fact is a free value (log entry 5) -/

/-- TWB_GO written through a link's own framing: what the bus lines show is outside the part. -/
def State.twbGoAny (s : State) (v : Nat) : Result × State :=
  s.draw.2.twbGo v (match s.draw.1 % 3 with | 0 => .free | 1 => .recovers | _ => .stuck)

/-- TWB_RECOVER written through a link's own framing. -/
def State.twbRecoverAny (s : State) (v : Nat) : Result × State := s.draw.2.twbRecover v (s.draw.1 % 2 = 0)

/-- EVT_ACK (R560): every mask is in range. -/
def State.evtAck (s : State) (v : Nat) : Result × State := checks [(decide (2 ^ 64 ≤ v), .range)] (fun t => t.ackEvents v) s

/-! ### The command objects -/

/-- Command objects that stand once. -/
def fixedOps : List (Nat × Op) :=
  [(Reg.MODE_REQUEST, State.modeRequest), (Reg.RESET_REQUEST, State.resetRequest),
   (Reg.TEST_CARRIER, fun s _ v => s.testCarrier v), (Reg.TEST_HF_FIELD, fun s _ v => s.testField v),
   (Reg.CAPTURE_GO, fun s _ v => s.capture v), (Reg.COMMIT, fun s _ v => s.commit v), (Reg.DISCARD, fun s _ v => s.discardAll v),
   (Reg.REG_LOCK_ARM, fun s _ v => s.regLockArm v), (Reg.REG_LOCK_FIRE, State.regLockFire),
   (Reg.VIEW_INDEX, fun s _ v => s.viewIndex v), (Reg.SURVEY_CMD, fun s _ v => s.surveyCmd v),
   (Reg.RESULT_RELEASE, fun s _ v => s.resultRelease v), (Reg.HF_FAULT_CLEAR, fun s _ v => s.hfFaultClear v),
   (Reg.SLIDE_RETUNE, fun s _ v => s.slideRetune v), (Reg.HF_OP, fun s _ v => s.hfOp v),
   (Reg.SPT_CREDIT_GRANT, fun s _ v => s.linkGrant .spt v), (Reg.TWA_CREDIT_GRANT, fun s _ v => s.linkGrant .twa v),
   (Reg.CAN_CREDIT_GRANT, fun s _ v => s.linkGrant .can v), (Reg.SPC_OP, fun s _ v => s.spcOp v),
   (Reg.TWB_GO, fun s _ v => s.twbGoAny v), (Reg.TWB_RECOVER, fun s _ v => s.twbRecoverAny v),
   (Reg.GPIO_SET, fun s _ v => s.gpioDrive v true), (Reg.GPIO_CLEAR, fun s _ v => s.gpioDrive v false),
   (Reg.TMR_GROUP_LOAD, fun s _ v => s.groupLoad v), (Reg.SCAN_GO, fun s _ v => s.scanGo v),
   (Reg.FW_UPDATE, fun s _ v => s.fwUpdate v), (Reg.FW_CONFIRM, fun s _ v => s.fwConfirm v),
   (Reg.NONCE_REQUEST, fun s _ v => s.nonceRequest v), (Reg.TOKEN_SUBMIT, State.tokenSubmit),
   (Reg.SESSION_CLOSE, State.sessionClose), (Reg.QUOTE_GO, fun s _ v => s.quoteGo v),
   (Reg.DEBUG_DISABLE, fun s _ v => s.debugDisable v), (Reg.FAULT_CLEAR, fun s _ v => s.faultClear v),
   (Reg.EVT_ACK, fun s _ v => s.evtAck v)]

/-- Command objects of quads, chains, streams, access slots and timer channels. -/
def indexedOps : List (Nat × Op) :=
  (List.range 4).map (fun q => (Reg.CAL_REQUEST q, fun s _ v => s.calRequest q v)) ++
  (List.range 16).map (fun c => (Reg.CHAIN_FAULT_CLEAR c, fun s _ v => s.chainFaultClear c v)) ++
  (List.range 16).map (fun c => (Reg.REED_RESEED c, fun s _ v => s.reedReseed c v)) ++
  (List.range 16).map (fun k => (Reg.OP_ARM k, fun s _ v => s.opArm k v)) ++
  (List.range 3).map (fun i => (Reg.CREDIT_GRANT i, fun s _ v => s.creditGrant i v)) ++
  (List.range 3).map (fun i => (Reg.WM_ACK i, fun s _ v => s.wmAck i v)) ++
  (List.range 3).map (fun i => (Reg.REPORT_RELEASE i, fun s _ v => s.reportRelease i v)) ++
  (List.range 3).map (fun i => (Reg.MARK_SET i, fun s _ v => s.markSet i v)) ++
  (List.range 3).map (fun i => (Reg.MARK_CLEAR i, fun s _ v => s.markClear i v)) ++
  (List.range 3).map (fun i => (Reg.REWIND i, fun s _ v => s.rewind i v)) ++
  (List.range 16).map (fun n => (Reg.TMR_FLAG_CLEAR n, fun s _ v => s.tmrFlagClear n v)) ++
  (List.range 16).map (fun n => (Reg.TMR_RESTART n, fun s _ v => s.tmrRestart n v))

/-- What a write of a number to an object does, where the object is a command. -/
def opOf (k : Nat) : Option Op := Tab.find (fixedOps ++ indexedOps) k

/-- Commands whose rule gives its own order of checks (R477, R481, R513). -/
def ownOrder (k : Nat) : Bool := [Reg.SPC_OP, Reg.TWB_GO, Reg.SCAN_GO].contains k

/-- A write to a command object: with a wrong length it changes nothing and answers RANGE, unless an earlier check fails
(R92, R94). -/
def State.writeOp (s : State) (l : Link) (k : Nat) (f : Found) (op : Op) (d : Bytes) : Result × State :=
  if f.row.ty.lengthOk d then op s l (leNat d)
  else
    let r := (op s l (2 ^ 64)).1
    (if r = .denied || r = .noObject || ownOrder k then r else .range, s)

/-! ### Objects of access RW, and blocks -/

/-- Blocks that a write must fill (Tables 16.6, 16.11). -/
def exactLength (k : Nat) (d : Bytes) : Bool :=
  (k != Reg.OWNER_KEY_CANDIDATE || d.length = 1952) && (k != Reg.TOKEN || d.length = 3384)

/-- A field that its function refuses to change while it is occupied (R410, R481, R513). -/
def State.fieldBusy (s : State) (k : Nat) : Bool :=
  ([Reg.HF_OP_ARG, Reg.HF_CMD_DATA].contains k && s.hf.op.isSome) ||
  ([Reg.TWB_ADDR, Reg.TWB_WDATA, Reg.TWB_RLEN].contains k && s.get Reg.TWB_STATE = 1) ||
  (Reg.SCAN_POLY ≤ k && k ≤ Reg.SCAN_COMPARE && s.get Reg.SCAN_STATE = 1)

/-- A value stored; what the part shows for it follows as one update (R123, R361). -/
def State.store (s : State) (k : Nat) (f : Found) (d : Bytes) : State :=
  let s1 := if f.row.ty.isBlock then s.putDom k d else s.put k (leNat d)
  if k = Reg.PEEK_ADDRESS then s1.seq Reg.PEEK_SEQ else if k = Reg.DICT_LOOKUP then s1.seq Reg.DICT_SEQ else s1

/-- A write of a block or a plain value. -/
def State.writeValue (s : State) (k : Nat) (f : Found) (d : Bytes) : Result × State :=
  checks [(!f.writeOk s.variant d || !exactLength k d, .range), (s.fieldBusy k, .busy)] (fun t => t.store k f d) s

/-- A write to an object of access RW or WO. -/
def State.writeFound (s : State) (l : Link) (k : Nat) (f : Found) (d : Bytes) : Result × State :=
  if k = Reg.CONFIG_IMAGE then s.imageAppend d
  else if k = Reg.FW_IMAGE then s.fwAppend d
  else match opOf k with
    | some op => s.writeOp l k f op d
    | none => s.writeValue k f d

/-- A write of any object (R14, R89, R94, R97). -/
def State.write (s : State) (l : Link) (k : Nat) (d : Bytes) : Result × State :=
  match s.object k with
  | none => (.noObject, s)
  | some f => match f.row.acc with
    | .ro | .const => (.denied, s)
    | .rws | .lock => s.stage l k f d
    | .rw | .wo => s.writeFound l k f d

/-- OBJECT_WRITE (R14). -/
def execObjectWrite (l : Link) (index sub : Nat) (d : Bytes) (s : State) : Host.Outcome State Fault Refusal :=
  let k := index * 256 + sub % 256
  .next (s.request l (k = Reg.MODE_REQUEST) fun t => t.write l k d)

/-! ### Several writes checked whole (R433) -/

/-- Writes in order, `n` the place of the first: the first failure's place and result, or the state they lead to; a
result of MARK_LOST is no failure (R95), and the first result that is not OK is the request's. -/
def State.writeList (s : State) (l : Link) (n : Nat) (r : Result) : List (Nat × Bytes) → Except (Result × Nat) (Result × State)
  | [] => .ok (r, s)
  | (k, d) :: ws =>
    let x := s.write l k d
    if x.1 = .ok || x.1 = .markLost then x.2.writeList l (n + 1) (Result.first r x.1) ws else .error (x.1, n)

end Sys2Proof.Machine
end

