-- ==== Sys2Proof/Machine/Spt.lean ====
section
/-! DEFINITION. The SPI target port (R429 to R439, R515): transactions, request frames and their operations. -/

namespace Sys2Proof.Machine

/-! ### What a transaction returns (R436, Table 13.4) -/

/-- A held response from byte 1 on, and its CRC over everything before it, the status byte included. -/
def SptRsp.bytes (r : SptRsp) (status : Nat) : Bytes :=
  let b := leBytes 1 status ++ leBytes 1 2 ++ leBytes 1 r.tag ++ leBytes 1 r.opc ++ leBytes 1 r.result ++ leBytes 1 0 ++
    leBytes 2 r.body.length ++ r.body
  b ++ leBytes 4 (crc32 b)

/-- A request on SPT executes. -/
def State.sptBusy (s : State) : Bool := s.io.spt.isSome || s.sys.firing = some .spt

/-- What SPT_MISO carries from select assertion on; after it, 0x00. In BOOT no response is held (R439). -/
def State.sptOut (s : State) : Bytes :=
  let st := s.status .spt
  if s.mode = .boot then leBytes 1 st ++ leBytes 1 0
  else if s.sptBusy then leBytes 1 st ++ leBytes 1 1
  else match s.io.rsp with
    | some r => r.bytes st
    | none => leBytes 1 st ++ leBytes 1 0

/-- A transaction of `n` bytes shifts out what stands. -/
def State.shiftOut (s : State) (n : Nat) : State := { s with io := { s.io with miso := padTo n s.sptOut } }

/-- A transaction of `n` bytes shifts out a whole response. -/
def State.sptAnswered (s : State) (n : Nat) : Bool :=
  s.mode != .boot && !s.sptBusy && s.io.rsp.isSome && s.sptOut.length ≤ n

/-- SPT_FETCH (R430): a transaction with first byte 0x00, clocked as far as the response goes; a reset that its request asked
for follows (R58). -/
def execSptFetch (s : State) : Host.Outcome State Fault Refusal :=
  let n := s.sptOut.length
  .next (if !s.sys.sptUp then s else if s.sptAnswered n then (s.shiftOut n).resetsFor .spt else s.shiftOut n)

/-! ### Request frames (R430, R435, R437, R438, R515) -/

/-- Why a frame fails R435, by the kind of SPT_LAST_ERROR, 0 for none. -/
def State.sptError (s : State) (b : Bytes) : Nat :=
  let len := field b 4 2
  if b.length < 6 then 3
  else if 4160 < len then 2
  else if b.length < 10 + len then 3
  else if field b (6 + len) 4 != crc32 (b.take (6 + len)) then 1
  else if s.get Reg.SPT_ALIVE_CHECK = 1 && s.get Reg.SPT_ALIVE_FIRST = 0 && field b 2 1 = s.get Reg.SPT_ALIVE_LAST then 4
  else 0

/-- The field at an offset, 0 where it was not received. -/
def received (b : Bytes) (o : Nat) : Nat := field b o 1

/-- A frame that fails (R437): counted, with its event, and a CHECK response held. -/
def State.sptReject (s : State) (kind : Nat) (b : Bytes) : State :=
  let n := (s.get Reg.SPT_FRAME_ERRORS + 1) % 2 ^ 32
  let a := (s.get Reg.SPT_ALIVE_REPEATS + 1) % 2 ^ 32
  let s1 := s.sptAnswer ⟨received b 0, received b 1, [], 0, 0⟩ .check []
  let s2 := s1.record Reg.SPT_SEQ
    ([(Reg.SPT_FRAME_ERRORS, n), (Reg.SPT_LAST_ERROR, kind)] ++ if kind = 4 then [(Reg.SPT_ALIVE_REPEATS, a)] else [])
  if kind = 4 then s2.latch 46 Reg.SPT_ALIVE_REPEATS a else s2.latch 50 Reg.SPT_FRAME_ERRORS n

/-- A request is answered whole (R96, R436). -/
def State.sptEnd (s : State) (q : SptReq) (r : Result) (body : Bytes) : State :=
  if s.sys.phase != .released then s else (s.answer .spt r).sptAnswer q r body

/-- The result of a request that its operation cannot read: in WATCH it is not served at all (R76, R93). -/
def State.sptBad (s : State) (r : Result) : Result := if s.mode = .watch then .notReady else r

/-- A frame that is accepted (R435, R515): it wakes the part where enabled (R439), and executes; an operation outside Table
13.3 is answered at once, in WATCH with NOT_READY as it is not served there (R76, R93). -/
def State.sptAccept (s : State) (b : Bytes) : State :=
  let s1 := (s.puts [(Reg.SPT_ALIVE_LAST, field b 2 1), (Reg.SPT_ALIVE_FIRST, 0)]).record Reg.SPT_SEQ
    [(Reg.SPT_FRAMES, (s.get Reg.SPT_FRAMES + 1) % 2 ^ 32)]
  let q : SptReq := ⟨field b 0 1, field b 1 1, slice b 6 (field b 4 2), s.tim.now, 0⟩
  let s2 := s1.wakeSource 5
  if 3 < q.opc then s2.sptEnd q (s2.sptBad .range) []
  else { s2 with io := { s2.io with spt := some q } }

/-- The frame of a transaction is taken at select release; its CRC is compared once it has been clocked whole (R512). -/
def State.sptFrame (s : State) (b : Bytes) : State :=
  let e := s.sptError b
  let s1 := if e = 2 || e = 3 then s else s.checked 2 1 (ofBool (e = 1))
  if e = 0 then s1.sptAccept b else s1.sptReject e b

/-- A frame that completes while a request executes (R438). -/
def State.sptDiscard (s : State) : State :=
  ({ s with sys := { s.sys with busy := setBit s.sys.busy (Link.code .spt) } }).record Reg.SPT_SEQ
    [(Reg.SPT_BUSY_DISCARDS, (s.get Reg.SPT_BUSY_DISCARDS + 1) % 2 ^ 32)]

/-- SPT_SELECT_RELEASE (R430, R435 to R439): FETCH carries no request, and in BOOT no frame is accepted; after the whole
answer to a RESET_REQUEST the part resets (R58). -/
def execSptSelectRelease (mosi : Bytes) (s : State) : Host.Outcome State Fault Refusal :=
  if !s.sys.sptUp then .next s
  else
    let s1 := s.shiftOut mosi.length
    .next (if s.sptAnswered mosi.length && (s.sys.resetDue.any fun d => d.1 = .spt) then s1.resets
      else if mosi.isEmpty || received mosi 0 = 0 || s.mode = .boot then s1
      else if s.sptBusy then s1.sptDiscard else s1.sptFrame mosi)

/-! ### Entries -/

/-- The 8-byte entries of a READ body: address, offset and length; `none` where the body is not 1 to 64 of them. -/
def readEntries (b : Bytes) : Option (List (Nat × Nat × Nat)) :=
  let n := b.length / 8
  if b.length % 8 != 0 || n = 0 || 64 < n || (List.range n).any (fun i => field b (8 * i + 3) 1 != 0) then none
  else some ((List.range n).map fun i =>
    (field b (8 * i) 2 * 256 + field b (8 * i + 2) 1, field b (8 * i + 4) 2, field b (8 * i + 6) 2))

/-- The entries of a WRITE body, at most `n` of them: `none` where the bytes do not end with an entry. -/
def writeEntries : Nat → Bytes → Option (List (Nat × Bytes))
  | _, [] => some []
  | 0, _ => none
  | n + 1, b =>
    let len := field b 4 2
    if b.length < 6 + len || field b 3 1 != 0 then none
    else match writeEntries n (b.drop (6 + len)) with
      | none => none
      | some l => some ((field b 0 2 * 256 + field b 2 1, slice b 6 len) :: l)

/-! ### Operations (Table 13.3) -/

/-- The request that executes, when it is of operation `opc`. -/
def State.sptOp (s : State) (opc : Nat) : Option SptReq := s.io.spt.filter fun q => q.opc = opc

/-- The entries of a READ, in order and from one snapshot (R131): the result of each before its data, and the first that is not
OK (R432). -/
def State.readList (s s0 : State) (r : Result) (body : Bytes) : List (Nat × Nat × Nat) → Result × Bytes × State
  | [] => (r, body, s)
  | (k, o, n) :: es =>
    let x := if s.mode = .watch && !watchKey k then (Result.notReady, [], s) else s.readEntry s0 .spt k o n
    x.2.2.readList s0 (Result.first r x.1)
      (body ++ leBytes 1 (Result.code x.1) ++ leBytes 1 0 ++ leBytes 2 x.2.1.length ++ x.2.1) es

/-- SPT_READ (R432): a body above 4,160 bytes is refused with RANGE, and no entry is executed. -/
def execSptRead (s : State) : Host.Outcome State Fault Refusal :=
  match s.sptOp 1 with
  | none => .next s
  | some q => match readEntries q.body with
    | none => .next (s.sptEnd q (s.sptBad .range) [])
    | some es =>
      let x := s.readList s .ok [] es
      .next (if 4160 < x.2.1.length then s.sptEnd q .range [] else x.2.2.sptEnd q x.1 x.2.1)

/-- The body of a WRITE response: the failing entry, 0xFF for none. -/
def failEntry (n : Nat) : Bytes := leBytes 1 n ++ leBytes 1 0

/-- SPT_WRITE (R433): a write that starts the lock's OTP write keeps the request executing (R425). -/
def execSptWrite (s : State) : Host.Outcome State Fault Refusal :=
  match s.sptOp 2 with
  | none => .next s
  | some q => match writeEntries 64 q.body with
    | none | some [] => .next (s.sptEnd q (s.sptBad .range) (failEntry 0xFF))
    | some es =>
      let bad := if s.mode = .watch then es.findIdx? fun e => e.1 != Reg.MODE_REQUEST else none
      match bad with
      | some n => .next (s.sptEnd q .notReady (failEntry n))
      | none => match s.writeList .spt 0 .ok es with
        | .error (r, n) => .next (s.sptEnd q r (failEntry n))
        | .ok (r, t) =>
          if t.sys.firing = some .spt then
            .next { t with io := { t.io with spt := some { q with entry := (es.findIdx? fun e => e.1 = Reg.REG_LOCK_FIRE).getD 0 } } }
          else .next (t.sptEnd q r (failEntry 0xFF))

/-- SPT_BLOCK_READ (R434). -/
def execSptBlockRead (s : State) : Host.Outcome State Fault Refusal :=
  match s.sptOp 3 with
  | none => .next s
  | some q =>
    let k := field q.body 0 2 * 256 + field q.body 2 1
    let n := field q.body 4 2
    let x := if q.body.length != 6 || field q.body 3 1 != 0 || n = 0 || 4096 < n then (s.sptBad .range, ([] : Bytes), s)
      else if s.mode = .watch && !watchKey k then (.notReady, [], s) else s.readCount .spt k n
    .next (x.2.2.sptEnd q x.1 (leBytes 1 (Result.code x.1) ++ leBytes 1 0 ++ leBytes 2 x.2.1.length ++ x.2.1))

end Sys2Proof.Machine
end

