-- ==== Sys2Proof/Machine/Twa.lean ====
section
/-! DEFINITION. The two-wire management target (R440 to R449): requests and replies, segmented writes, the pointer window and
alerts. -/

namespace Sys2Proof.Machine

/-! ### Acceptance (R441, R444, R445) -/

/-- A counter of the TWA group counts (Table 13.12). -/
def State.twaCount (s : State) (k : Nat) : State := s.record Reg.TWA_SEQ [(k, (s.get k + 1) % 2 ^ 32)]

/-- The part does not acknowledge its address (R444). -/
def State.twaNack (s : State) : State :=
  ({ s with sys := { s.sys with busy := setBit s.sys.busy (Link.code .twa) } }).twaCount Reg.TWA_BUSY_NACKS

/-- The address is not acknowledged, before 40 ms from reset release, while a request executes, and for writes during a
mailbox command (R444). -/
def State.twaDeaf (s : State) (write : Bool) : Bool :=
  !s.sys.twaUp || s.sys.firing = some .twa || (write && s.io.mbxState = 1)

/-- A write transaction is accepted: counted, its PEC good, its address match a wake source (R441, R445, R512). -/
def State.twaAccept (s : State) : State := ((s.twaCount Reg.TWA_REQUESTS).checked 1 1 0).wakeSource 4

/-- What a request answers, once the part has acknowledged it: nothing yet where its link holds it as executing (R425). -/
def State.twaEnd (s : State) (r : Result) (more : Bytes) : State :=
  if s.sys.firing = some .twa then { s with io := { s.io with twaReply := none, twaWindow := false } }
  else if s.sys.phase != .released then s
  else (s.answer .twa r).twaAnswer r more

/-- A request by write transaction: its code byte is not acknowledged in BOOT unless it is served there (R445); NOT_READY in
WATCH unless it is served there (R76); otherwise it executes. -/
def State.twaRequest (s : State) (inBoot inWatch : Bool) (f : State → Result × Bytes × State) : State :=
  if s.sys.phase != .released then s
  else if s.twaDeaf true then s.twaNack
  else if s.mode = .boot && !inBoot then s
  else
    let t := s.twaAccept
    if t.mode = .watch && !inWatch then t.twaEnd .notReady []
    else let r := f t; r.2.2.twaEnd r.1 r.2.1

/-- A request that answers with its result alone. -/
def plain (f : State → Result × State) (s : State) : Result × Bytes × State := let r := f s; (r.1, [], r.2)

/-- A reply of RESULT, COUNT and DATA (Table 13.6). -/
def counted (r : Result × Bytes × State) : Result × Bytes × State := (r.1, leBytes 1 r.2.1.length ++ r.2.1, r.2.2)

/-! ### Commands (Table 13.6) -/

/-- The STATUS reply after its result. -/
def State.twaStatusBytes (s : State) : Bytes := leBytes 1 (Mode.code s.mode) ++ leBytes 1 (s.get Reg.HOLD_REASON)

/-- TWA_STATUS: served in every mode. -/
def execTwaStatus (s : State) : Host.Outcome State Fault Refusal :=
  .next (s.twaRequest true true fun t => (.ok, t.twaStatusBytes, t))

/-- TWA_MODE_SET: as a write of MODE_REQUEST. -/
def execTwaModeSet (mode : BitVec 8) (s : State) : Host.Outcome State Fault Refusal :=
  .next (s.twaRequest false true (plain fun t => t.modeRequest .twa mode.toNat))

/-- TWA_EVENTS. -/
def execTwaEvents (s : State) : Host.Outcome State Fault Refusal :=
  .next (s.twaRequest false false fun t => (.ok, leBytes 8 t.pendingEvents, t))

/-- TWA_EVENT_ACK. -/
def execTwaEventAck (mask : BitVec 64) (s : State) : Host.Outcome State Fault Refusal :=
  .next (s.twaRequest false false (plain fun t => t.evtAck mask.toNat))

/-- TWA_CREDIT: as a write of TWA_CREDIT_GRANT. -/
def execTwaCredit (n : BitVec 32) (s : State) : Host.Outcome State Fault Refusal :=
  .next (s.twaRequest false false (plain fun t => t.linkGrant .twa n.toNat))

/-- The address of an object. -/
def address (index : BitVec 16) (sub : BitVec 8) : Nat := index.toNat * 256 + sub.toNat

/-- TWA_OBJ_READ: the counted read of R133. -/
def execTwaObjRead (index : BitVec 16) (sub n : BitVec 8) (s : State) : Host.Outcome State Fault Refusal :=
  let k := address index sub
  .next (s.twaRequest false (watchKey k) fun t => counted (if n = 0 then (.range, [], t) else t.readCount .twa k n.toNat))

/-- TWA_OBJ_WRITE: 1 to 255 bytes. -/
def execTwaObjWrite (index : BitVec 16) (sub : BitVec 8) (data : Bytes) (s : State) : Host.Outcome State Fault Refusal :=
  let k := address index sub
  .next (s.twaRequest false (k = Reg.MODE_REQUEST) (plain fun t =>
    if data.isEmpty || 255 < data.length then (.range, t) else t.write .twa k data))

/-- TWA_DOM_READ: as a READ entry of R432. -/
def execTwaDomRead (index : BitVec 16) (sub : BitVec 8) (offset : BitVec 16) (n : BitVec 8) (s : State) :
    Host.Outcome State Fault Refusal :=
  let k := address index sub
  .next (s.twaRequest false (watchKey k) fun t =>
    counted (if n = 0 then (.range, [], t) else t.readEntry t .twa k offset.toNat n.toNat))

/-! ### Segmented writes (R446) -/

/-- The most bytes a transfer to an object may carry: 4,096, or its own maximum. -/
def State.domMax (s : State) (k : Nat) : Nat :=
  match s.object k with
  | none => 4096
  | some f => match f.row.ty with
    | .dom m => min 4096 m
    | t => t.size.getD 0

/-- The open transfer. -/
def State.setDom (s : State) (d : Option (Nat × Bytes)) : State := { s with io := { s.io with twaDom := d } }

/-- A segment: FIRST starts a transfer, LAST completes it with the result of the write. -/
def State.domSegment (s : State) (k seg : Nat) (data : Bytes) : Result × State :=
  let held := if bit seg 0 then some [] else (s.io.twaDom.filter fun p => p.1 = k).map (·.2)
  match held with
  | none => (.range, s)
  | some b =>
    let d := b ++ data
    if s.domMax k < d.length then (.range, s.setDom none)
    else if bit seg 1 then (s.setDom none).write .twa k d
    else (.ok, s.setDom (some (k, d)))

/-- TWA_DOM_WRITE (R446): bits 7 to 2 of SEG are reserved. -/
def execTwaDomWrite (index : BitVec 16) (sub seg : BitVec 8) (data : Bytes) (s : State) : Host.Outcome State Fault Refusal :=
  let k := address index sub
  .next (s.twaRequest false false (plain fun t =>
    if 3 < seg.toNat || 255 < data.length then (.range, t) else t.domSegment k seg.toNat data))

/-! ### The pointer window (R447, Table 13.7) -/

/-- Where WINDOW is served. -/
def State.windowServed (s : State) : Bool :=
  (s.mode = .hold && s.get Reg.HOLD_REASON = 7) || s.mode = .test || (s.mode = .boot && s.sys.noFirmware)

/-- A byte of a little-endian field. -/
def byteAt (v i : Nat) : Byte := BitVec.ofNat 8 (v / 256 ^ i)

/-- The mark of the window's DEVICE_TIME latch among the shadows of TWA: no object has index 0. -/
def windowTime : Nat := 0x20

/-- Bytes of the window that need no latch. -/
def State.windowByte (s : State) (p : Nat) : Byte :=
  let run := !s.sys.noFirmware
  if p = 0 then byteAt (s.status .twa) 0
  else if p = 1 then byteAt (Mode.code s.mode) 0
  else if p = 2 then byteAt (s.get Reg.HOLD_REASON) 0
  else if p = 3 then (if s.mode = .boot then 5 else 12)
  else if p < 8 then byteAt (if run then s.get Reg.FW_VERSION else 0) (p - 4)
  else if p = 8 then (if run then byteAt (s.get Reg.FW_SLOT) 0 else 0xFF)
  else if p = 9 then byteAt s.io.slotFail 0
  else if p < 12 then byteAt (s.get Reg.OD_VERSION) (p - 10)
  else if 0x10 ≤ p && p < 0x1C then s.serial.getD (p - 0x10) 0
  else if 0x20 ≤ p && p < 0x28 then byteAt s.tim.now (p - 0x20)
  else if p = 0x40 then byteAt s.io.mbxCmd 0
  else if p = 0x41 then byteAt s.io.mbxState 0
  else if p = 0x42 then byteAt s.io.mbxResult 0
  else if p = 0x44 || p = 0x45 then byteAt s.io.mbxLen (p - 0x44)
  else if 0x48 ≤ p && p < 0x4C then byteAt s.io.mbxOffset (p - 0x48)
  else if 0x80 ≤ p then s.io.mbxData.getD (p - 0x80) 0
  else 0

/-- The window's DEVICE_TIME latch dropped. -/
def State.dropLatch (s : State) : State :=
  { s with shadows := s.shadows.filter fun x => !(x.link = .twa && x.key = windowTime) }

/-- The window's DEVICE_TIME latched for TWA. -/
def State.latchWindow (s : State) : State :=
  let t := s.dropLatch
  { t with shadows := ⟨.twa, windowTime, (List.range 8).map fun i => (byteAt s.tim.now i).toNat, s.tim.now⟩ :: t.shadows }

/-- A byte of the window read: byte 0x20 latches DEVICE_TIME, whose other bytes come from the latch until 0x27 is read
(R134). -/
def State.windowRead (s : State) (p : Nat) : Byte × State :=
  if p = 0x20 then (s.windowByte p, s.latchWindow)
  else if 0x20 < p && p < 0x28 then
    match s.shadows.find? fun x => x.link = .twa && x.key = windowTime && s.shadowLive x with
    | some x => (byteAt (x.parts.getD (p - 0x20) 0) 0, if p = 0x27 then s.dropLatch else s)
    | none => (s.windowByte p, s)
  else (s.windowByte p, s)

/-- The bytes of a little-endian field of `n` bytes with byte `i` replaced. -/
def setByteAt (n v i : Nat) (b : Byte) : Nat := leNat ((leBytes n v).set i b)

/-- A byte of the window written; RO and reserved bytes are ignored. -/
def State.windowWrite (s : State) (p : Nat) (b : Byte) : State :=
  if p = 0x40 then s.updIo fun i => { i with mbxCmd := b.toNat }
  else if p = 0x44 || p = 0x45 then s.updIo fun i => { i with mbxLen := setByteAt 2 i.mbxLen (p - 0x44) b }
  else if 0x48 ≤ p && p < 0x4C then s.updIo fun i => { i with mbxOffset := setByteAt 4 i.mbxOffset (p - 0x48) b }
  else if 0x80 ≤ p then s.updIo fun i => { i with mbxData := (padTo 128 i.mbxData).set (p - 0x80) b }
  else s

/-- Bytes written from the pointer, which advances and wraps. -/
def State.windowWrites (s : State) : Bytes → State
  | [] => s
  | b :: r =>
    let p := s.io.twaPtr
    ((s.windowWrite p b).updIo fun i => { i with twaPtr := (p + 1) % 256 }).windowWrites r

/-- `n` bytes read from the pointer, which advances and wraps. -/
def State.windowReads (s : State) : Nat → Bytes × State
  | 0 => ([], s)
  | n + 1 =>
    let p := s.io.twaPtr
    let x := s.windowRead p
    let y := (x.2.updIo fun i => { i with twaPtr := (p + 1) % 256 }).windowReads n
    (x.1 :: y.1, y.2)

/-- Whether a write of `n` bytes from a pointer reaches MBX_CMD. -/
def hitsCommand (ptr n : Nat) : Bool := (0x40 + 256 - ptr) % 256 < n

/-- A mailbox command starts at the STOP of its write (R447, Table 16.8); a code outside the table fails with RANGE. -/
def State.mbxStart (s : State) : State :=
  if 1 ≤ s.io.mbxCmd && s.io.mbxCmd ≤ 8 then s.updIo fun i => { i with mbxState := 1 } else s.mbxEnd .range

/-- TWA_WINDOW (R447): the read that follows returns window bytes. Where it is not served, the address match is still a wake
source (Table 2.5). -/
def execTwaWindow (ptr : BitVec 8) (data : Bytes) (s : State) : Host.Outcome State Fault Refusal :=
  if s.sys.phase != .released then .next s
  else if s.twaDeaf true then .next s.twaNack
  else if !s.windowServed then .next (s.wakeSource 4)
  else
    let s1 := (s.twaAccept.answer .twa .ok).updIo fun i => { i with twaPtr := ptr.toNat, twaWindow := true, twaReply := none }
    let s2 := s1.windowWrites (data.take 255)
    .next (if hitsCommand ptr.toNat (data.take 255).length then s2.mbxStart else s2)

/-! ### Replies (R441 to R444) -/

/-- The part's address byte for a read. -/
def State.twaReadAddress (s : State) : Byte := BitVec.ofNat 8 ((0x58 + s.sys.twaAs) * 2 + 1)

/-- The reply after the status byte, with its PEC; with none held, the STATUS reply (R444). -/
def State.twaReplyBytes (s : State) : Bytes :=
  let b := BitVec.ofNat 8 (s.status .twa) :: (s.io.twaReply.getD (0 :: s.twaStatusBytes))
  b ++ leBytes 1 (crc8 (s.twaReadAddress :: b))

/-- TWA_REPLY_READ (R441, R447): `n` bytes after the status byte; what follows the PEC reads 0xFF. A reset that the
request asked for follows (R58). -/
def execTwaReplyRead (n : Nat) (s : State) : Host.Outcome State Fault Refusal :=
  if s.sys.phase != .released then .next s
  else if s.twaDeaf false then .next s.twaNack
  else
    let st := BitVec.ofNat 8 (s.status .twa)
    let out := (s.twaReplyBytes ++ List.replicate (n + 1) 0xFF#8).take (n + 1)
    if s.io.twaWindow then
      let x := s.windowReads n
      .next ((x.2.updIo fun i => { i with twaOut := st :: x.1 }).wakeSource 4)
    else .next (((s.updIo fun i => { i with twaOut := out }).wakeSource 4).resetsFor .twa)

/-- TWA_WRITE_REJECT (R443): nothing of the write acts. -/
def execTwaWriteReject (excess : Bool) (s : State) : Host.Outcome State Fault Refusal :=
  if s.sys.phase != .released then .next s
  else if s.twaDeaf true then .next s.twaNack
  else
    let s1 := s.wakeSource 4
    if excess then .next (s1.twaAnswer .range [])
    else
      let s2 := ((s1.twaAnswer .check []).twaCount Reg.TWA_PEC_ERRORS).checked 1 1 1
      .next (s2.latch 51 Reg.TWA_PEC_ERRORS (s2.get Reg.TWA_PEC_ERRORS))

/-- TWA_ADDRESS_NACK (R444). -/
def execTwaAddressNack (s : State) : Host.Outcome State Fault Refusal :=
  .next (if s.sys.phase != .released then s else s.twaNack)

/-! ### Alerts and timeouts (R448, R449) -/

/-- What the part sends at the Alert Response Address 0x0C: TWA_ADDRESS × 2 and its PEC (R442, R448). -/
def State.araBytes (s : State) : Bytes :=
  let b := leBytes 1 ((0x58 + s.sys.twaAs) * 2)
  b ++ leBytes 1 (crc8 (leBytes 1 (0x0C * 2 + 1) ++ b))

/-- TWA_ARA (R448): answered while TWA_ALERT_N is low. -/
def execTwaAra (won : Bool) (s : State) : Host.Outcome State Fault Refusal :=
  if !s.alertLow then .next s
  else if won then .next ((({ s with sys := { s.sys with alertOff := true } }).updIo fun i =>
    { i with twaOut := s.araBytes }).twaCount Reg.TWA_ARA_ANSWERS)
  else .next (s.twaCount Reg.TWA_ARA_LOST)

/-- TWA_ALERT_REASSERT (R448). -/
def execTwaAlertReassert (s : State) : Host.Outcome State Fault Refusal :=
  .next { s with sys := { s.sys with alertOff := false } }

/-- TWA_BUS_TIMEOUT (R449): the transaction is abandoned. -/
def execTwaBusTimeout (s : State) : Host.Outcome State Fault Refusal :=
  .next (if s.sys.twaUp then s.twaCount Reg.TWA_TIMEOUTS else s)

end Sys2Proof.Machine
end

