-- ==== Sys2Proof/Machine/Can.lean ====
section
/-! DEFINITION. CAN FD and CANopen FD (R450 to R466): NMT, the USDO server, PDOs, reports over TPDO 0, EMCY, SYNC and TIME, and
the controllers' error states. -/

namespace Sys2Proof.Machine

/-! ### NMT and heartbeat (R454, R455, R75) -/

/-- The NMT state. -/
def State.nmt (s : State) : Nat := s.get Reg.CAN_NMT_STATE

/-- The push transmitter gives up the packet it is sending: it is sent again, without a further charge (R462). -/
def State.stopPush (s : State) : State :=
  (List.range 3).foldl (fun t i =>
    if (t.stream i).pushing.isSome then t.updStream i fun st => { st with pushing := none } else t) s

/-- The NMT state changes: synchronous TPDOs start afresh, and outside Operational none is sent. -/
def State.enterNmt (s : State) (v : Nat) : State :=
  let s1 := (s.record Reg.CANSTATE_SEQ [(Reg.CAN_NMT_STATE, v)]).updIo fun i => { i with tpdo := [] }
  if v = 0x05 then s1 else s1.stopPush

/-- An NMT command of this node or of all nodes (R454); its frame is a wake source (Table 2.5). -/
def State.nmtCommand (s : State) (f : State → State) : State := if s.sys.canUp then f (s.wakeSource 3) else s

/-- NMT_START (R454). -/
def execNmtStart (s : State) : Host.Outcome State Fault Refusal := .next (s.nmtCommand fun t => t.enterNmt 0x05)

/-- NMT_STOP (R454). -/
def execNmtStop (s : State) : Host.Outcome State Fault Refusal := .next (s.nmtCommand fun t => t.enterNmt 0x04)

/-- NMT_ENTER_PREOP (R454). -/
def execNmtEnterPreop (s : State) : Host.Outcome State Fault Refusal := .next (s.nmtCommand fun t => t.enterNmt 0x7F)

/-- NMT_RESET_NODE (R75, Table 17.6). -/
def execNmtResetNode (s : State) : Host.Outcome State Fault Refusal :=
  .next (s.nmtCommand fun t => t.resetPart 5 0 .resetHeld)

/-- NMT_RESET_COMM (R75): the controllers restart, and the mode is unchanged. -/
def execNmtResetComm (s : State) : Host.Outcome State Fault Refusal := .next (s.nmtCommand fun t => t.stopPush.startCan)

/-- The heartbeat period in force (R455): of the link record in BOOT. -/
def State.heartbeatMs (s : State) : Nat := if s.mode = .boot then s.io.inForce.heartbeat else s.get Reg.HEARTBEAT_TIME

/-- HEARTBEAT_TIMER (R455). -/
def execHeartbeatTimer (s : State) : Host.Outcome State Fault Refusal :=
  .next (if s.sys.canUp && s.heartbeatMs != 0 then s.canSend [s.nmtFrame s.nmt] else s)

/-! ### The USDO server (R456, R457, R95) -/

/-- The data bytes one USDO frame carries (log entry 31). -/
def usdoPayload : Nat := 56

/-- The open transfer. -/
def State.setUsdo (s : State) (x : Option Xfer) : State := s.updIo fun i => { i with usdo := x }

/-- Whether some object of the index is present in the part and the mode, for the abort code of NO_OBJECT (Table 3.4, R4,
R84). -/
def State.indexKnown (s : State) (k : Nat) : Bool := (List.range 255).any fun i => (s.object (k / 256 * 256 + i)).isSome

/-- Whether a write is refused by the access code itself: RO, CONST, or a locked LOCK object (Table 3.4). -/
def State.writeBarred (s : State) (k : Nat) : Bool :=
  (s.object k).any fun f => f.row.acc = .ro || f.row.acc = .const || (f.row.acc = .lock && s.regLocked)

/-- The abort code of a refused write. -/
def State.writeAbort (s : State) (k : Nat) (d : Bytes) (r : Result) : Nat :=
  Result.abortCode (s.writeBarred k) ((s.object k).any fun f => !f.row.ty.lengthOk d || !exactLength k d)
    (s.indexKnown k) r

/-- A write of USDO, whole (R456): nothing is answered while the link holds it as executing (R425); a reset that
it asked for follows its answer (R58). -/
def State.usdoWrite (s : State) (k : Nat) (d : Bytes) : State :=
  let x := if s.mode = .watch && k != Reg.MODE_REQUEST then (Result.notReady, s) else s.write .can k d
  let t := x.2.setUsdo none
  if t.sys.phase != .released then t
  else if t.sys.firing = some .can then t.setUsdo (some ⟨Reg.REG_LOCK_FIRE, true, 0, []⟩)
  else if Result.gives x.1 then ((t.answer .can x.1).usdoAnswer .done).resetsFor .can
  else (t.answer .can x.1).usdoAnswer (.abort (s.writeAbort k d x.1))

/-- Data of an upload, cut to one frame; what is left follows in segments. -/
def State.usdoData (s : State) (k : Nat) (d : Bytes) : State :=
  let left := d.drop usdoPayload
  (s.setUsdo (if left.isEmpty then none else some ⟨k, false, 0, left⟩)).usdoAnswer (.data (d.take usdoPayload) left.length)

/-- A read of USDO: sub-index 0xFF reads the whole index (R457). -/
def State.usdoRead (s : State) (index sub : Nat) : State :=
  let k := index * 256 + sub
  let x := if s.mode = .watch && !watchKey k then (Result.notReady, ([] : Bytes), s)
    else if sub = 0xFF then s.readWhole .can index else s.readObj .can k
  let t := x.2.2.answer .can x.1
  if Result.gives x.1 then t.usdoData k x.2.1
  else t.usdoAnswer (.abort (Result.abortCode false false (s.indexKnown k) x.1))

/-- An abort that the protocol itself calls for. -/
def State.usdoRefuse (s : State) (code : Nat) : State := s.usdoAnswer (.abort code)

/-- An initiate while a transfer is open, or while a write is held as executing, is refused as BUSY. -/
def State.usdoBusy (s : State) : Bool := s.io.usdo.isSome || s.sys.firing = some .can

/-- An initiate, when no other transfer is open. -/
def State.usdoInit (s : State) (f : State → State) : State :=
  if s.usdoBusy then (s.answer .can .busy).usdoRefuse 0x060A0023 else f s

/-- A segment that ends or continues a download; a size that was announced must be met (R94). -/
def State.usdoSegment (s : State) (x : Xfer) (d : Bytes) (last : Bool) : State :=
  let all := x.data ++ d
  if !last then (s.setUsdo (some { x with data := all })).usdoAnswer .done
  else if x.size != 0 && x.size != all.length then ((s.setUsdo none).answer .can .range).usdoRefuse 0x06070010
  else s.usdoWrite x.key all

/-- Whether a request is served in WATCH (R76): MODE_REQUEST written, or an object of Table 2.4 read. -/
def State.usdoWatch (s : State) : UsdoReq → Bool
  | .upload index sub => watchKey (index % 65536 * 256 + sub % 256)
  | .downloadExpedited index sub _ | .downloadInit index sub _ => index % 65536 * 256 + sub % 256 = Reg.MODE_REQUEST
  | .uploadSegment => s.io.usdo.any fun x => !x.down && watchKey x.key
  | .downloadSegment _ _ => s.io.usdo.any fun x => x.down && x.key = Reg.MODE_REQUEST
  | .abort => true
  | .bulkOrRemote => false

/-- A request that the mode does not serve: NOT_READY before any other check (R76, R93, Table 2.8); a segment's abort ends its
transfer. -/
def State.usdoNotReady (s : State) (req : UsdoReq) : State :=
  let t := match req with
    | .uploadSegment | .downloadSegment _ _ => s.setUsdo none
    | _ => s
  (t.answer .can .notReady).usdoRefuse 0x08000022

/-- A request outside BOOT. -/
def State.usdoServe (s : State) : UsdoReq → State
  | .upload index sub => s.usdoInit fun t => t.usdoRead (index % 65536) (sub % 256)
  | .downloadExpedited index sub d => s.usdoInit fun t => t.usdoWrite (index % 65536 * 256 + sub % 256) d
  | .downloadInit index sub size => s.usdoInit fun t =>
      (t.setUsdo (some ⟨index % 65536 * 256 + sub % 256, true, size, []⟩)).usdoAnswer .done
  | .uploadSegment => match s.io.usdo with
    | some x => if x.down then s.usdoRefuse 0x05040001 else s.usdoData x.key x.data
    | none => s.usdoRefuse 0x05040001
  | .downloadSegment d last => match s.io.usdo with
    | some x => if x.down && s.sys.firing != some .can then s.usdoSegment x d last else s.usdoRefuse 0x05040001
    | none => s.usdoRefuse 0x05040001
  | .abort => if s.sys.firing = some .can then s else s.setUsdo none
  | .bulkOrRemote => s.usdoRefuse 0x05040001

/-- USDO_REQUEST (R456): a wake source in every NMT state (Table 2.5), and not served in NMT Stopped; in BOOT every request
is aborted (Table 2.8). -/
def execUsdoRequest (req : UsdoReq) (s : State) : Host.Outcome State Fault Refusal :=
  if !s.sys.canUp then .next s
  else
    let w := s.wakeSource 3
    let t := w.updIo fun i => { i with usdoOut := none }
    .next (if !w.linkUp .can then w
      else if t.mode = .boot then (if req = .abort then t else t.usdoNotReady req)
      else if t.mode = .watch && !t.usdoWatch req then t.usdoNotReady req
      else t.usdoServe req)

/-- USDO_TIMEOUT (R456). -/
def execUsdoTimeout (s : State) : Host.Outcome State Fault Refusal :=
  if !s.linkUp .can || s.io.usdo.isNone || s.sys.firing = some .can then .next s
  else .next ((s.setUsdo none).usdoRefuse 0x05040000)

/-! ### PDOs (R458 to R460, R465) -/

/-- PDOs travel: NMT Operational, outside BOOT (R75, Table 13.9). -/
def State.pdoOn (s : State) : Bool := s.sys.canUp && s.nmt = 0x05 && s.mode != .boot

/-- TPDOs are sent: not in WATCH (R454), and on a line that is not bus-off. -/
def State.tpdoOn (s : State) : Bool := s.pdoOn && s.mode != .watch && s.canLive

/-- The entries of a mapping: address and bytes (R458). -/
def State.mapping (s : State) (count : Nat) (entry : Nat → Nat) : List (Nat × Nat) :=
  (List.range (s.get count)).map fun j => let e := s.get (entry j); (e / 256, e % 256 / 8)

/-- A CAN FD frame length that holds `n` bytes. -/
def fdLength (n : Nat) : Nat := ([0, 1, 2, 3, 4, 5, 6, 7, 8, 12, 16, 20, 24, 32, 48, 64].find? fun l => n ≤ l).getD 64

/-- The mapped values in order, from one snapshot (R131, R458). -/
def State.mapped (s s0 : State) : List (Nat × Nat) → Bytes × State
  | [] => ([], s)
  | (k, n) :: r =>
    let x := match s.object k with
      | none => (Result.noObject, ([] : Bytes), s)
      | some f => s.readFrom s0 .can k f
    let y := x.2.2.mapped s0 r
    (padTo n x.2.1 ++ y.1, y.2)

/-- TPDO `n` assembled now: its status byte, then the mapping (R88, R458). -/
def State.assemble (s : State) (n : Nat) : Bytes × State :=
  let x := s.mapped s (s.mapping (Reg.TPDO_MAP_COUNT n) (Reg.TPDO_MAP n))
  (BitVec.ofNat 8 (s.status .can) :: x.1, x.2)

/-- A TPDO's hidden part. -/
def State.tpdo (s : State) (n : Nat) : Tpdo := Tab.get s.io.tpdo n

/-- A TPDO's hidden part changed. -/
def State.updTpdo (s : State) (n : Nat) (f : Tpdo → Tpdo) : State := s.updIo fun i => { i with tpdo := Tab.upd i.tpdo n f }

/-- TPDO `n` may be sent at all: not TPDO 0, valid, its inhibit time passed (R459). -/
def State.tpdoOpen (s : State) (n : Nat) : Bool :=
  n != 0 && s.tpdoOn && !bit (s.get (Reg.TPDO_COB_ID n)) 31 &&
    ((s.tpdo n).sentAt.all fun t => decide (t + 4000 * s.get (Reg.INHIBIT_TIME n) ≤ s.tim.now))

/-- The inhibit time of EMCYs has passed (R463). -/
def State.emcyFree (s : State) : Bool := s.io.emcyAt.all fun t => decide (t + 4000 * s.get Reg.INHIBIT_EMCY ≤ s.tim.now)

/-- A frame with a lower COB-ID than `id` is ready: an assembled TPDO, or an EMCY (R459). -/
def State.readyBefore (s : State) (id : Nat) : Bool :=
  ((List.range 8).any fun m =>
    s.tpdoOpen m && (s.tpdo m).frame.isSome && decide (s.get (Reg.TPDO_COB_ID m) % 2048 < id)) ||
  (!s.ev.emcy.isEmpty && s.emcyFree && !bit (s.get Reg.COB_ID_EMCY) 31 && decide (s.get Reg.COB_ID_EMCY % 2048 < id))

/-- TPDO `n` may be sent now: the ready frames go in ascending order of their COB-IDs (R459). -/
def State.tpdoFree (s : State) (n : Nat) : Bool := s.tpdoOpen n && !s.readyBefore (s.get (Reg.TPDO_COB_ID n) % 2048)

/-- A frame of TPDO `n` goes out, filled to a CAN FD length with 0x00 (log entry 32). -/
def State.sendTpdo (s : State) (n : Nat) (b : Bytes) : State :=
  (s.updTpdo n fun t => { t with frame := none, sentAt := some s.tim.now }).canSend
    [⟨s.get (Reg.TPDO_COB_ID n) % 2048, padTo (fdLength b.length) b⟩]

/-- TPDO `n` assembled and sent at once. -/
def State.tpdoNow (s : State) (n : Nat) : State := let x := s.assemble n; x.2.sendTpdo n x.1

/-- TPDO_SEND (R459): the frame that is ready, or, of type 0xFF, one assembled now, an update having changed a mapped value. -/
def execTpdoSend (n : Fin 8) (s : State) : Host.Outcome State Fault Refusal :=
  if !s.tpdoFree n then .next s
  else match (s.tpdo n).frame with
    | some b => .next (s.sendTpdo n b)
    | none => .next (if s.get (Reg.TPDO_TYPE n) = 0xFF then s.tpdoNow n else s)

/-- TPDO_EVENT_TIMER (R459): the frame is ready, and goes out unless one with a lower COB-ID is ready too. -/
def execTpdoEventTimer (n : Fin 8) (s : State) : Host.Outcome State Fault Refusal :=
  .next (if !(s.tpdoOpen n && s.get (Reg.TPDO_TYPE n) = 0xFF && s.get (Reg.EVENT_TIMER n) != 0) then s
    else if s.tpdoFree n then s.tpdoNow n
    else let x := s.assemble n; x.2.updTpdo n fun t => { t with frame := some x.1 })

/-- A SYNC at TPDO `n`: every n-th assembles it (R459). -/
def State.syncTpdo (s : State) (n : Nat) : State :=
  let ty := s.get (Reg.TPDO_TYPE n)
  if ty = 0xFF || bit (s.get (Reg.TPDO_COB_ID n)) 31 then s
  else if (s.tpdo n).count + 1 < ty then s.updTpdo n fun t => { t with count := t.count + 1 }
  else let x := s.assemble n; x.2.updTpdo n fun t => { t with count := 0, frame := some x.1 }

/-- SYNC_RECEIVED (R465): assembles the synchronous TPDOs that are due. -/
def execSyncReceived (s : State) : Host.Outcome State Fault Refusal :=
  .next (if s.tpdoOn then [1, 2, 3, 4, 5, 6, 7].foldl State.syncTpdo s else s)

/-- TIME_RECEIVED (R465, R503): consumed while COB_ID_TIME has bit 31, outside NMT Stopped. -/
def execTimeReceived (ms : BitVec 28) (days : BitVec 16) (s : State) : Host.Outcome State Fault Refusal :=
  .next (if s.linkUp .can && bit (s.get Reg.COB_ID_TIME) 31 then s.timeFrame s.tim.now ms.toNat days.toNat else s)

/-- The mapped objects of an RPDO written in order: a write that is refused is counted, and the rest are still written
(R460). -/
def State.rpdoWrites (s : State) (d : Bytes) : List (Nat × Nat) → State
  | [] => s
  | (k, n) :: r =>
    let x := if s.mode = .watch && k != Reg.MODE_REQUEST then (Result.notReady, s) else s.write .can k (d.take n)
    if x.2.sys.phase != .released then x.2
    else
      let t := if Result.gives x.1 then x.2
        else x.2.record Reg.CANSTATE_SEQ [(Reg.RPDO_REFUSED, (x.2.get Reg.RPDO_REFUSED + 1) % 2 ^ 32)]
      t.rpdoWrites (d.drop n) r

/-- RPDO_RECEIVED (R460): applied in NMT Operational; the frame of an enabled RPDO is a wake source (Table 2.5). -/
def execRpdoReceived (n : Fin 4) (data : Bytes) (s : State) : Host.Outcome State Fault Refusal :=
  if !s.sys.canUp || bit (s.get (Reg.RPDO_COB_ID n)) 31 then .next s
  else
    let t := s.wakeSource 3
    let m := t.mapping (Reg.RPDO_MAP_COUNT n) (Reg.RPDO_MAP n)
    .next (if !t.pdoOn || data.length < (m.map (·.2)).sum then t else (t.rpdoWrites data m).resetsFor .can)

/-! ### Reports over TPDO 0 (R461, R462) -/

/-- The stream that TPDO 0 carries, while TPDO 0 is valid. -/
def State.pushStream (s : State) : Option Nat :=
  if s.tpdoOn && !bit (s.get (Reg.TPDO_COB_ID 0)) 31 then s.streamOf .can else none

/-- One fragment goes out (Table 13.10): 62 bytes, the last frame filled to a CAN FD length. -/
def State.sendFragment (s : State) (i : Nat) (p : Pkt) (b : Bytes) (first : Bool) : State :=
  let rest := b.drop 62
  let frag := ofBool first * 128 + ofBool rest.isEmpty * 64 + s.io.frag % 64
  let f := leBytes 1 (s.status .can) ++ leBytes 1 frag ++ b.take 62
  let s1 := s.updStream i fun st => { st with pushing := some (p, rest) }
  (s1.updIo fun x => { x with frag := (x.frag + 1) % 64 }).canSend
    [⟨s.get (Reg.TPDO_COB_ID 0) % 2048, padTo (fdLength f.length) f⟩]

/-- TPDO0_PACKET_SEND (R462): the head packet, when CREDITS covers its slots; it is charged at its first fragment, once. -/
def execTpdo0PacketSend (s : State) : Host.Outcome State Fault Refusal :=
  match s.pushStream with
  | none => .next s
  | some i => match (s.stream i).head with
    | none => .next s
    | some p =>
      if (s.stream i).pushing.isSome || (!p.charged && s.get (Reg.CREDITS i) < p.slots) then .next s
      else
        let x := (s.charge i p).sendPkt i p
        .next (x.2.sendFragment i p x.1 true)

/-- TPDO0_FRAGMENT_SENT (R462): the next fragment follows, or the packet counts as sent; where TPDOs are no longer sent it
is sent again from its first. -/
def execTpdo0FragmentSent (s : State) : Host.Outcome State Fault Refusal :=
  match s.pushStream with
  | none => .next s.stopPush
  | some i => match (s.stream i).pushing with
    | none => .next s
    | some (p, rest) =>
      if ((s.stream i).head.any fun h => h.seq = p.seq) = false then .next s.stopPush
      else if rest.isEmpty then .next ((s.updStream i fun st => { st with pushing := none }).delivered i p)
      else .next (s.sendFragment i p rest false)

/-! ### EMCY (R463) -/

/-- An EMCY frame: error code, error register, and the five bytes of the part's own field. -/
def Emcy.bytes (e : Emcy) : Bytes :=
  leBytes 2 e.code ++ leBytes 1 e.errReg ++ leBytes 1 e.status ++ leBytes 1 e.event ++ leBytes 3 (e.time / 40000)

/-- EMCY_SEND (R463): the oldest, outside BOOT and NMT Stopped (Tables 2.8, 13.9). -/
def execEmcySend (s : State) : Host.Outcome State Fault Refusal :=
  match s.ev.emcy with
  | [] => .next s
  | e :: r =>
    if !s.linkUp .can || s.mode = .boot || bit (s.get Reg.COB_ID_EMCY) 31 || !s.canLive || !s.emcyFree then .next s
    else
      let t : State := { s with ev := { s.ev with emcy := r }, io := { s.io with emcyAt := some s.tim.now } }
      .next (t.canSend [⟨s.get Reg.COB_ID_EMCY % 2048, e.bytes⟩])

/-! ### Error states (R450, R453) -/

/-- The object of a controller's state. -/
def canState (c : Fin 2) : Nat := if c = 0 then Reg.CAN0_STATE else Reg.CAN1_STATE

/-- The active line (R450): CAN0 while it is not bus-off, where both lines are used. -/
def State.activeLine (s : State) : Nat :=
  match s.io.inForce.lines with
  | 2 => 1
  | 3 => ofBool (s.get Reg.CAN0_STATE = 3)
  | _ => 0

/-- The active line follows the controllers; a change ends any USDO transfer without an abort. -/
def State.showLine (s : State) : State :=
  if s.activeLine = s.get Reg.CAN_ACTIVE_LINE then s
  else (s.record Reg.CANSTATE_SEQ [(Reg.CAN_ACTIVE_LINE, s.activeLine)]).setUsdo none

/-- A controller's state changes. -/
def State.setCan (s : State) (c : Fin 2) (v : Nat) : State := (s.record Reg.CANSTATE_SEQ [(canState c, v)]).showLine

/-- A controller is error active again: event 49 may be latched for it once more. -/
def State.canActive (s : State) (c : Fin 2) : State := (s.setCan c 1).updIo fun i => { i with passive := clrBit i.passive c }

/-- CAN_ERR_PASSIVE (R453). -/
def execCanErrPassive (c : Fin 2) (s : State) : Host.Outcome State Fault Refusal :=
  if s.get (canState c) != 1 then .next s
  else
    let t := (s.setCan c 2).updIo fun i => { i with passive := setBit i.passive c }
    .next (if bit s.io.passive c then t else t.latch 49 (canState c) 2)

/-- CAN_ERROR_ACTIVE (R453). -/
def execCanErrorActive (c : Fin 2) (s : State) : Host.Outcome State Fault Refusal :=
  .next (if s.get (canState c) = 2 then s.canActive c else s)

/-- CAN_BUS_OFF (R453, R462): with every line bus-off, the packet being pushed is sent again. -/
def execCanBusOff (c : Fin 2) (s : State) : Host.Outcome State Fault Refusal :=
  if s.get (canState c) != 1 && s.get (canState c) != 2 then .next s
  else
    let n := (s.get Reg.CAN_BUSOFF_COUNT + 1) % 2 ^ 32
    let t := ((s.record Reg.CANSTATE_SEQ [(Reg.CAN_BUSOFF_COUNT, n)]).setCan c 3).latch 48 Reg.CAN_BUSOFF_COUNT n
    .next (if t.canLive then t else t.stopPush)

/-- CAN_BUS_OFF_RECOVERED (R453): without a new boot-up message. -/
def execCanBusOffRecovered (c : Fin 2) (s : State) : Host.Outcome State Fault Refusal :=
  .next (if s.get (canState c) = 3 then s.canActive c else s)

end Sys2Proof.Machine
end

