-- ==== Sys2Proof/Machine/Clock.lean ====
section
/-! DEFINITION. What one tick of 25 ns does (R42, R191, R302, R496, R501): the step on an empty queue (log entry 33). -/

namespace Sys2Proof.Machine

/-- Whether this tick is one of the channel's clock: 40 MHz, 1 MHz or 1 kHz (R493, R497). -/
def State.tmrClocked (s : State) (n : Nat) : Bool :=
  match (s.tmr n).clock with
  | 0 => true
  | 1 => s.tim.phase % 40 = 0
  | _ => s.tim.phase = 0

/-- The tick at one channel (R494). -/
def State.tmrStep (s : State) (n : Nat) : State := if s.tmrClocked n && s.counts n then s.tmrTick n else s

/-- 25 ns of every Chanter that sends the commands before its Query (R243, R244). -/
def State.chanterTick (s : State) : State :=
  s.eng.rounds.foldl (fun t p =>
    let n := t.openingTick p.2
    if p.2.stage != .selecting then t
    else if n.stage = .selecting then t.putRound p.1 n else (t.putRound p.1 n).showRound p.1 n) s

/-- One tick: PX's soft-start, the interlock's counters, the links and the Chanters, SPC, device time, the timer channels, and the end of a count
interval. -/
def State.tick (s : State) : State :=
  let s1 := s.softStartTick.ilkTick.linkTick.chanterTick.spcTick
  if !s1.sys.timeOn then s1
  else ((List.range 16).foldl State.tmrStep { s1 with tim := s1.tim.advance }).rollIvals

end Sys2Proof.Machine
end

