-- ==== Sys2Proof/Machine/Dispatch.lean ====
section
/-! DEFINITION. One arm per command: the direct call of its meaning. -/

namespace Sys2Proof.Machine

def exec (i : Instr) (s : State) : Host.Outcome State Fault Refusal :=
  match i with
  | .flitReceived hub side flit codeErr => Sys2Proof.Machine.execFlitReceived hub side flit codeErr s
  | .replayTimeout hub side => Sys2Proof.Machine.execReplayTimeout hub side s
  | .linkDown hub => Sys2Proof.Machine.execLinkDown hub s
  | .linkTrainingDone hub up down => Sys2Proof.Machine.execLinkTrainingDone hub up down s
  | .linkRetrainTimer hub => Sys2Proof.Machine.execLinkRetrainTimer hub s
  | .pxRailFault quad => Sys2Proof.Machine.execPxRailFault quad s
  | .toneMeasureDone leader meas => Sys2Proof.Machine.execToneMeasureDone leader meas s
  | .refLost => Sys2Proof.Machine.execRefLost s
  | .refclkAccepted => Sys2Proof.Machine.execRefclkAccepted s
  | .deviceTimeLoRead link => Sys2Proof.Machine.execDeviceTimeLoRead link s
  | .wideShadowExpire link => Sys2Proof.Machine.execWideShadowExpire link s
  | .wideValueLoRead link index sub => Sys2Proof.Machine.execWideValueLoRead link index sub s
  | .tagReplyEnd beam => Sys2Proof.Machine.execTagReplyEnd beam s
  | .replyDecoded beam reply => Sys2Proof.Machine.execReplyDecoded beam reply s
  | .reqHold link => Sys2Proof.Machine.execReqHold link s
  | .reqReady link => Sys2Proof.Machine.execReqReady link s
  | .reqRun link => Sys2Proof.Machine.execReqRun link s
  | .reqWatch link => Sys2Proof.Machine.execReqWatch link s
  | .reqTest link => Sys2Proof.Machine.execReqTest link s
  | .modeTransitionDone => Sys2Proof.Machine.execModeTransitionDone s
  | .resetRequest link => Sys2Proof.Machine.execResetRequest link s
  | .resetRelease testen twaAs canId gates fwA fwB flashes => Sys2Proof.Machine.execResetRelease testen twaAs canId gates fwA fwB flashes s
  | .bootRefclkAccepted => Sys2Proof.Machine.execBootRefclkAccepted s
  | .bootLinkStart which => Sys2Proof.Machine.execBootLinkStart which s
  | .bootEnd durUs => Sys2Proof.Machine.execBootEnd durUs s
  | .testCarrierStart link => Sys2Proof.Machine.execTestCarrierStart link s
  | .testCarrierStop link => Sys2Proof.Machine.execTestCarrierStop link s
  | .testCarrierTimeout => Sys2Proof.Machine.execTestCarrierTimeout s
  | .testHfFieldRaise link => Sys2Proof.Machine.execTestHfFieldRaise link s
  | .testHfFieldDrop link => Sys2Proof.Machine.execTestHfFieldDrop link s
  | .testHfTimeout => Sys2Proof.Machine.execTestHfTimeout s
  | .captureGo link => Sys2Proof.Machine.execCaptureGo link s
  | .captureDone data => Sys2Proof.Machine.execCaptureDone data s
  | .objectWrite link index sub data => Sys2Proof.Machine.execObjectWrite link index sub data s
  | .stageWrite link index sub data => Sys2Proof.Machine.execStageWrite link index sub data s
  | .commitStaged link => Sys2Proof.Machine.execCommitStaged link s
  | .commitImage link => Sys2Proof.Machine.execCommitImage link s
  | .validationDone => Sys2Proof.Machine.execValidationDone s
  | .applyInstant => Sys2Proof.Machine.execApplyInstant s
  | .configPersistDone ok => Sys2Proof.Machine.execConfigPersistDone ok s
  | .discard link => Sys2Proof.Machine.execDiscard link s
  | .configImageAppend link data => Sys2Proof.Machine.execConfigImageAppend link data s
  | .synthLock quad res => Sys2Proof.Machine.execSynthLock quad res s
  | .synthUnlock quad => Sys2Proof.Machine.execSynthUnlock quad s
  | .synthHoldTimeout quad => Sys2Proof.Machine.execSynthHoldTimeout quad s
  | .droneRampDone chain => Sys2Proof.Machine.execDroneRampDone chain s
  | .paFault chain temp => Sys2Proof.Machine.execPaFault chain temp s
  | .paRailFault quad => Sys2Proof.Machine.execPaRailFault quad s
  | .paRailRecovered quad => Sys2Proof.Machine.execPaRailRecovered quad s
  | .reedConverged beam weights => Sys2Proof.Machine.execReedConverged beam weights s
  | .reedConvergeTimeout chain => Sys2Proof.Machine.execReedConvergeTimeout chain s
  | .reedTrackTick chain di dq res => Sys2Proof.Machine.execReedTrackTick chain di dq res s
  | .reedLimit chain => Sys2Proof.Machine.execReedLimit chain s
  | .blocker chain => Sys2Proof.Machine.execBlocker chain s
  | .returnLossUpdate chain rl fwd => Sys2Proof.Machine.execReturnLossUpdate chain rl fwd s
  | .probeSuccess chain => Sys2Proof.Machine.execProbeSuccess chain s
  | .sweepChannelDone results iso => Sys2Proof.Machine.execSweepChannelDone results iso s
  | .turnroundEnd beam => Sys2Proof.Machine.execTurnroundEnd beam s
  | .fullCalDone quad res => Sys2Proof.Machine.execFullCalDone quad res s
  | .calRetryTimer quad => Sys2Proof.Machine.execCalRetryTimer quad s
  | .calRequest link quad => Sys2Proof.Machine.execCalRequest link quad s
  | .reedReseed link chain => Sys2Proof.Machine.execReedReseed link chain s
  | .chainFaultClear link chain => Sys2Proof.Machine.execChainFaultClear link chain s
  | .descriptorRelease leader hop => Sys2Proof.Machine.execDescriptorRelease leader hop s
  | .permitWithdraw entry dwell => Sys2Proof.Machine.execPermitWithdraw entry dwell s
  | .permitReturn entry dwell => Sys2Proof.Machine.execPermitReturn entry dwell s
  | .regLockArm link value => Sys2Proof.Machine.execRegLockArm link value s
  | .regLockFire link value => Sys2Proof.Machine.execRegLockFire link value s
  | .lockFireDone ok => Sys2Proof.Machine.execLockFireDone ok s
  | .lockArmTimeout => Sys2Proof.Machine.execLockArmTimeout s
  | .viewIndexWrite link value => Sys2Proof.Machine.execViewIndexWrite link value s
  | .surveyStart link => Sys2Proof.Machine.execSurveyStart link s
  | .surveyAbort link => Sys2Proof.Machine.execSurveyAbort link s
  | .surveyTimeout => Sys2Proof.Machine.execSurveyTimeout s
  | .laneSelftest lane pass => Sys2Proof.Machine.execLaneSelftest lane pass s
  | .readMeasured beam meas => Sys2Proof.Machine.execReadMeasured beam meas s
  | .roundStart beam => Sys2Proof.Machine.execRoundStart beam s
  | .powerUpHoldEnd beam => Sys2Proof.Machine.execPowerUpHoldEnd beam s
  | .slotEmptyTimeout beam => Sys2Proof.Machine.execSlotEmptyTimeout beam s
  | .epcReply beam reply => Sys2Proof.Machine.execEpcReply beam reply s
  | .accessReplyTimeout beam => Sys2Proof.Machine.execAccessReplyTimeout beam s
  | .accessOpEnd beam replies rx pre => Sys2Proof.Machine.execAccessOpEnd beam replies rx pre s
  | .roundEnd beam => Sys2Proof.Machine.execRoundEnd beam s
  | .opArm link slot => Sys2Proof.Machine.execOpArm link slot s
  | .opDisarm link slot => Sys2Proof.Machine.execOpDisarm link slot s
  | .resultRelease link id => Sys2Proof.Machine.execResultRelease link id s
  | .locBatch => Sys2Proof.Machine.execLocBatch s
  | .trackJoin => Sys2Proof.Machine.execTrackJoin s
  | .trackCloseGap tag => Sys2Proof.Machine.execTrackCloseGap tag s
  | .countIntervalPublish => Sys2Proof.Machine.execCountIntervalPublish s
  | .planBoundary measMw => Sys2Proof.Machine.execPlanBoundary measMw s
  | .dwellStart leader => Sys2Proof.Machine.execDwellStart leader s
  | .dwellEnd leader => Sys2Proof.Machine.execDwellEnd leader s
  | .powerMeasure mw => Sys2Proof.Machine.execPowerMeasure mw s
  | .hfStartDeferred => Sys2Proof.Machine.execHfStartDeferred s
  | .packetAgeTimeout stream kind => Sys2Proof.Machine.execPacketAgeTimeout stream kind s
  | .reportWindowEnd => Sys2Proof.Machine.execReportWindowEnd s
  | .creditGrant link stream n => Sys2Proof.Machine.execCreditGrant link stream n s
  | .linkCreditGrant link target n => Sys2Proof.Machine.execLinkCreditGrant link target n s
  | .reportNext link stream => Sys2Proof.Machine.execReportNext link stream s
  | .reportRelease link stream seq => Sys2Proof.Machine.execReportRelease link stream seq s
  | .wmAck link stream => Sys2Proof.Machine.execWmAck link stream s
  | .hotRead link => Sys2Proof.Machine.execHotRead link s
  | .markSet link stream n => Sys2Proof.Machine.execMarkSet link stream n s
  | .markClear link stream n => Sys2Proof.Machine.execMarkClear link stream n s
  | .rewind link stream n => Sys2Proof.Machine.execRewind link stream n s
  | .rewindDone stream => Sys2Proof.Machine.execRewindDone stream s
  | .scrubStep region line err last => Sys2Proof.Machine.execScrubStep region line err last s
  | .rowRepairDone => Sys2Proof.Machine.execRowRepairDone s
  | .repairMapStored ok => Sys2Proof.Machine.execRepairMapStored ok s
  | .innerCountUpdate n => Sys2Proof.Machine.execInnerCountUpdate n s
  | .hfDiscover link => Sys2Proof.Machine.execHfDiscover link s
  | .hfActivate link => Sys2Proof.Machine.execHfActivate link s
  | .hfExchange link => Sys2Proof.Machine.execHfExchange link s
  | .hfRelease link => Sys2Proof.Machine.execHfRelease link s
  | .hfAbort link => Sys2Proof.Machine.execHfAbort link s
  | .hfFrameReceived frame check => Sys2Proof.Machine.execHfFrameReceived frame check s
  | .hfReplyTimeout => Sys2Proof.Machine.execHfReplyTimeout s
  | .hfOpEnd status rsp cards more => Sys2Proof.Machine.execHfOpEnd status rsp cards more s
  | .hfSessionIdle => Sys2Proof.Machine.execHfSessionIdle s
  | .slideTrackTick dcs dcp phase z => Sys2Proof.Machine.execSlideTrackTick dcs dcp phase z s
  | .hfDriverFault why => Sys2Proof.Machine.execHfDriverFault why s
  | .hfFaultClear link => Sys2Proof.Machine.execHfFaultClear link s
  | .hfPllUnlock => Sys2Proof.Machine.execHfPllUnlock s
  | .hfRecoveryRetry ok => Sys2Proof.Machine.execHfRecoveryRetry ok s
  | .slideRetune link => Sys2Proof.Machine.execSlideRetune link s
  | .slideCalDone ok cs cp phase z temp => Sys2Proof.Machine.execSlideCalDone ok cs cp phase z temp s
  | .breathPulse amp phase => Sys2Proof.Machine.execBreathPulse amp phase s
  | .breathSecondPulse amp phase => Sys2Proof.Machine.execBreathSecondPulse amp phase s
  | .breathConfirmEnd sof => Sys2Proof.Machine.execBreathConfirmEnd sof s
  | .breathBaselineDone amp phase ok => Sys2Proof.Machine.execBreathBaselineDone amp phase ok s
  | .sptSelectRelease mosi => Sys2Proof.Machine.execSptSelectRelease mosi s
  | .sptFetch => Sys2Proof.Machine.execSptFetch s
  | .sptRead => Sys2Proof.Machine.execSptRead s
  | .sptWrite => Sys2Proof.Machine.execSptWrite s
  | .sptBlockRead => Sys2Proof.Machine.execSptBlockRead s
  | .twaStatus => Sys2Proof.Machine.execTwaStatus s
  | .twaModeSet mode => Sys2Proof.Machine.execTwaModeSet mode s
  | .twaEvents => Sys2Proof.Machine.execTwaEvents s
  | .twaEventAck mask => Sys2Proof.Machine.execTwaEventAck mask s
  | .twaCredit n => Sys2Proof.Machine.execTwaCredit n s
  | .twaObjRead index sub n => Sys2Proof.Machine.execTwaObjRead index sub n s
  | .twaObjWrite index sub data => Sys2Proof.Machine.execTwaObjWrite index sub data s
  | .twaDomRead index sub offset n => Sys2Proof.Machine.execTwaDomRead index sub offset n s
  | .twaDomWrite index sub seg data => Sys2Proof.Machine.execTwaDomWrite index sub seg data s
  | .twaWindow ptr data => Sys2Proof.Machine.execTwaWindow ptr data s
  | .twaReplyRead n => Sys2Proof.Machine.execTwaReplyRead n s
  | .twaWriteReject excess => Sys2Proof.Machine.execTwaWriteReject excess s
  | .twaAra won => Sys2Proof.Machine.execTwaAra won s
  | .twaAlertReassert => Sys2Proof.Machine.execTwaAlertReassert s
  | .twaBusTimeout => Sys2Proof.Machine.execTwaBusTimeout s
  | .mbxNonce => Sys2Proof.Machine.execMbxNonce s
  | .mbxReadCert => Sys2Proof.Machine.execMbxReadCert s
  | .mbxTokenWrite => Sys2Proof.Machine.execMbxTokenWrite s
  | .mbxTokenSubmit => Sys2Proof.Machine.execMbxTokenSubmit s
  | .mbxFwBegin => Sys2Proof.Machine.execMbxFwBegin s
  | .mbxFwWrite => Sys2Proof.Machine.execMbxFwWrite s
  | .mbxFwFinish => Sys2Proof.Machine.execMbxFwFinish s
  | .mbxReset => Sys2Proof.Machine.execMbxReset s
  | .nmtStart => Sys2Proof.Machine.execNmtStart s
  | .nmtStop => Sys2Proof.Machine.execNmtStop s
  | .nmtEnterPreop => Sys2Proof.Machine.execNmtEnterPreop s
  | .nmtResetNode => Sys2Proof.Machine.execNmtResetNode s
  | .nmtResetComm => Sys2Proof.Machine.execNmtResetComm s
  | .heartbeatTimer => Sys2Proof.Machine.execHeartbeatTimer s
  | .usdoRequest req => Sys2Proof.Machine.execUsdoRequest req s
  | .usdoTimeout => Sys2Proof.Machine.execUsdoTimeout s
  | .rpdoReceived n data => Sys2Proof.Machine.execRpdoReceived n data s
  | .syncReceived => Sys2Proof.Machine.execSyncReceived s
  | .timeReceived ms days => Sys2Proof.Machine.execTimeReceived ms days s
  | .tpdoSend n => Sys2Proof.Machine.execTpdoSend n s
  | .tpdoEventTimer n => Sys2Proof.Machine.execTpdoEventTimer n s
  | .tpdo0PacketSend => Sys2Proof.Machine.execTpdo0PacketSend s
  | .tpdo0FragmentSent => Sys2Proof.Machine.execTpdo0FragmentSent s
  | .emcySend => Sys2Proof.Machine.execEmcySend s
  | .canErrPassive ctrl => Sys2Proof.Machine.execCanErrPassive ctrl s
  | .canErrorActive ctrl => Sys2Proof.Machine.execCanErrorActive ctrl s
  | .canBusOff ctrl => Sys2Proof.Machine.execCanBusOff ctrl s
  | .canBusOffRecovered ctrl => Sys2Proof.Machine.execCanBusOffRecovered ctrl s
  | .spcRead link => Sys2Proof.Machine.execSpcRead link s
  | .spcProgram link => Sys2Proof.Machine.execSpcProgram link s
  | .spcErase4k link => Sys2Proof.Machine.execSpcErase4k link s
  | .spcErase64k link => Sys2Proof.Machine.execSpcErase64k link s
  | .spcReadSfdp link => Sys2Proof.Machine.execSpcReadSfdp link s
  | .spcOpEnd status sfdp => Sys2Proof.Machine.execSpcOpEnd status sfdp s
  | .twbGo link bus => Sys2Proof.Machine.execTwbGo link bus s
  | .twbRecover link ok => Sys2Proof.Machine.execTwbRecover link ok s
  | .twbTransferEnd how nackByte rdata => Sys2Proof.Machine.execTwbTransferEnd how nackByte rdata s
  | .twbSclTimeout => Sys2Proof.Machine.execTwbSclTimeout s
  | .twbConflict => Sys2Proof.Machine.execTwbConflict s
  | .twbRetry bus => Sys2Proof.Machine.execTwbRetry bus s
  | .gpioSet link mask => Sys2Proof.Machine.execGpioSet link mask s
  | .gpioClear link mask => Sys2Proof.Machine.execGpioClear link mask s
  | .gateEdge gate rising => Sys2Proof.Machine.execGateEdge gate rising s
  | .timerWrap ch => Sys2Proof.Machine.execTimerWrap ch s
  | .timerMatch ch => Sys2Proof.Machine.execTimerMatch ch s
  | .tmrFlagClear link ch mask => Sys2Proof.Machine.execTmrFlagClear link ch mask s
  | .tmrRestart link ch value => Sys2Proof.Machine.execTmrRestart link ch value s
  | .tmrGroupLoad link value => Sys2Proof.Machine.execTmrGroupLoad link value s
  | .discPhaseEnd => Sys2Proof.Machine.execDiscPhaseEnd s
  | .discHoldover => Sys2Proof.Machine.execDiscHoldover s
  | .scanStart link => Sys2Proof.Machine.execScanStart link s
  | .scanAbort link => Sys2Proof.Machine.execScanAbort link s
  | .scanDone flashFail => Sys2Proof.Machine.execScanDone flashFail s
  | .checkSelftest unit pass => Sys2Proof.Machine.execCheckSelftest unit pass s
  | .demandPageLoad first second => Sys2Proof.Machine.execDemandPageLoad first second s
  | .fwUpdateBegin link => Sys2Proof.Machine.execFwUpdateBegin link s
  | .fwEraseDone => Sys2Proof.Machine.execFwEraseDone s
  | .fwImageAppend link data => Sys2Proof.Machine.execFwImageAppend link data s
  | .fwUpdateFinish link => Sys2Proof.Machine.execFwUpdateFinish link s
  | .fwVerifyDone digests sig => Sys2Proof.Machine.execFwVerifyDone digests sig s
  | .fwUpdateAbandon link => Sys2Proof.Machine.execFwUpdateAbandon link s
  | .fwConfirm link value => Sys2Proof.Machine.execFwConfirm link value s
  | .nonceRequest link value => Sys2Proof.Machine.execNonceRequest link value s
  | .nonceExpire => Sys2Proof.Machine.execNonceExpire s
  | .tokenSubmit link value => Sys2Proof.Machine.execTokenSubmit link value s
  | .tokenTest => Sys2Proof.Machine.execTokenTest s
  | .tokenRecovery => Sys2Proof.Machine.execTokenRecovery s
  | .tokenDebug => Sys2Proof.Machine.execTokenDebug s
  | .ownerRelease => Sys2Proof.Machine.execOwnerRelease s
  | .ownerEnrol => Sys2Proof.Machine.execOwnerEnrol s
  | .ownerRotate => Sys2Proof.Machine.execOwnerRotate s
  | .tokenRejected badSig => Sys2Proof.Machine.execTokenRejected badSig s
  | .sessionClose link value => Sys2Proof.Machine.execSessionClose link value s
  | .sessionExpire => Sys2Proof.Machine.execSessionExpire s
  | .quoteGo link value => Sys2Proof.Machine.execQuoteGo link value s
  | .quoteDone => Sys2Proof.Machine.execQuoteDone s
  | .debugDisable link value => Sys2Proof.Machine.execDebugDisable link value s
  | .debugAttach core => Sys2Proof.Machine.execDebugAttach core s
  | .tapInstruction instr => Sys2Proof.Machine.execTapInstruction instr s
  | .tempSample temps => Sys2Proof.Machine.execTempSample temps s
  | .voltageSample volts => Sys2Proof.Machine.execVoltageSample volts s
  | .railComparatorTrip rail => Sys2Proof.Machine.execRailComparatorTrip rail s
  | .processMeasure procs => Sys2Proof.Machine.execProcessMeasure procs s
  | .cxPllUnlock => Sys2Proof.Machine.execCxPllUnlock s
  | .cxPllRelock => Sys2Proof.Machine.execCxPllRelock s
  | .faultClear link value => Sys2Proof.Machine.execFaultClear link value s
  | .watchdogBark core => Sys2Proof.Machine.execWatchdogBark core s
  | .watchdogBite core => Sys2Proof.Machine.execWatchdogBite core s
  | .evtAck link mask => Sys2Proof.Machine.execEvtAck link mask s
  | .eventLogWrite => Sys2Proof.Machine.execEventLogWrite s
  | .workMemError err => Sys2Proof.Machine.execWorkMemError err s
  | .porRelease vioA vioB unpowered => Sys2Proof.Machine.execPorRelease vioA vioB unpowered s
  | .vioBrownOut b => Sys2Proof.Machine.execVioBrownOut b s
  | .hfGuardTimeEnd => Sys2Proof.Machine.execHfGuardTimeEnd s
  | .twaAddressNack => Sys2Proof.Machine.execTwaAddressNack s
  | .twbSclStuck => Sys2Proof.Machine.execTwbSclStuck s
  | .twbBusReleased => Sys2Proof.Machine.execTwbBusReleased s
  | .brownOut => Sys2Proof.Machine.execBrownOut s
  | .resetNAssert => Sys2Proof.Machine.execResetNAssert s

end Sys2Proof.Machine
end

