-- ==== Sys2Proof/Safety.lean ====
section
/-! DEFINITION. The terms in which statements are made: a command that completes, a link that takes a request, what a
command answers and leaves unchanged, and the bounds every reachable state keeps. -/

namespace Sys2Proof.Machine

/-- The command completes: `exec` answers a next state, and `P` holds of it. -/
def Completes (c : Instr) (s : State) (P : State → Prop) : Prop := ∃ t, exec c s = .next t ∧ P t

/-- Link `l` takes a request now (R73, R76, R93, R425): it is up, the mode serves it, it holds no earlier request as
executing, and no reset that it asked for is due (R58). -/
abbrev Serves (s : State) (l : Link) (inWatch : Bool) : Prop :=
  s.linkUp l = true ∧ s.mode ≠ .boot ∧ (s.mode = .watch → inWatch = true) ∧ s.sys.firing ≠ some l ∧
    (s.sys.resetDue.any fun d => d.1 = l) = false

/-- The last request of link `l` was answered with `r` (R87, R96). -/
abbrev Answered (t : State) (l : Link) (r : Result) : Prop :=
  t.get (Link.lastResult l) = Result.code r ∧ bit t.sys.busy (Link.code l) = decide (r = Result.busy)

/-- Every numeric object but those listed reads the same, and so does every other part of the state. -/
def SameBut (ks : List Nat) (s t : State) : Prop :=
  (∀ k, k ∉ ks → t.get k = s.get k) ∧ { t with regs := s.regs } = s

/-- The objects an event may write beside its latch: its history, and the counters of what it was dropped from. -/
def eventKeys : List Nat :=
  [Reg.EVT_LATCHED, Reg.EVTH_SEQ, Reg.LOG_DROPPED, Reg.LOGS_SEQ, Reg.EMCY_DROPPED, Reg.CANSTATE_SEQ, Reg.IRQ_ASSERTIONS]

/-- The objects that the end of a reply window may write: gain changes that waited for it (R158). -/
def gainKeys : List Nat := (List.range 16).flatMap fun c => [Reg.RX_GAIN_STATE c, Reg.CSTATE_SEQ c]

/-- `SameBut` for a command that ends a reply window: the decision that goes out, the weights formed from the preamble, and the
gain changes that waited may differ too. -/
def SameButReply (ks : List Nat) (s t : State) : Prop :=
  SameBut (gainKeys ++ ks) s { t with eng := s.eng, hubs := s.hubs, arr := s.arr, chains := s.chains }

/-- `SameBut` for a command that latches events: the events' own part and TWA_ALERT_N's release may differ too. -/
def SameButEvents (ks : List Nat) (s t : State) : Prop :=
  SameBut (eventKeys ++ ks) s { t with ev := s.ev, sys := { t.sys with alertOff := s.sys.alertOff } }

/-- `SameBut` for a request of link `l`: its last result and its BUSY bit may differ too. -/
def SameButAnswer (l : Link) (ks : List Nat) (s t : State) : Prop :=
  SameBut (Link.lastResult l :: ks) s { t with sys := { t.sys with busy := s.sys.busy } }

end Sys2Proof.Machine

namespace Sys2Proof

/-- The link whose host sends a command, where a host does; the rows of a link's own protocol are not of this kind. -/
def Instr.link : Instr → Option Link
  | .flitReceived _ _ _ _ => none
  | .replayTimeout _ _ => none
  | .linkDown _ => none
  | .linkTrainingDone _ _ _ => none
  | .linkRetrainTimer _ => none
  | .pxRailFault _ => none
  | .toneMeasureDone _ _ => none
  | .refLost => none
  | .refclkAccepted => none
  | .deviceTimeLoRead l => some l
  | .wideShadowExpire _ => none
  | .wideValueLoRead l _ _ => some l
  | .tagReplyEnd _ => none
  | .replyDecoded _ _ => none
  | .reqHold l => some l
  | .reqReady l => some l
  | .reqRun l => some l
  | .reqWatch l => some l
  | .reqTest l => some l
  | .modeTransitionDone => none
  | .resetRequest l => some l
  | .resetRelease _ _ _ _ _ _ _ => none
  | .bootRefclkAccepted => none
  | .bootLinkStart _ => none
  | .bootEnd _ => none
  | .testCarrierStart l => some l
  | .testCarrierStop l => some l
  | .testCarrierTimeout => none
  | .testHfFieldRaise l => some l
  | .testHfFieldDrop l => some l
  | .testHfTimeout => none
  | .captureGo l => some l
  | .captureDone _ => none
  | .objectWrite l _ _ _ => some l
  | .stageWrite l _ _ _ => some l
  | .commitStaged l => some l
  | .commitImage l => some l
  | .validationDone => none
  | .applyInstant => none
  | .configPersistDone _ => none
  | .discard l => some l
  | .configImageAppend l _ => some l
  | .synthLock _ _ => none
  | .synthUnlock _ => none
  | .synthHoldTimeout _ => none
  | .droneRampDone _ => none
  | .paFault _ _ => none
  | .paRailFault _ => none
  | .paRailRecovered _ => none
  | .reedConverged _ _ => none
  | .reedConvergeTimeout _ => none
  | .reedTrackTick _ _ _ _ => none
  | .reedLimit _ => none
  | .blocker _ => none
  | .returnLossUpdate _ _ _ => none
  | .probeSuccess _ => none
  | .sweepChannelDone _ _ => none
  | .turnroundEnd _ => none
  | .fullCalDone _ _ => none
  | .calRetryTimer _ => none
  | .calRequest l _ => some l
  | .reedReseed l _ => some l
  | .chainFaultClear l _ => some l
  | .descriptorRelease _ _ => none
  | .permitWithdraw _ _ => none
  | .permitReturn _ _ => none
  | .regLockArm l _ => some l
  | .regLockFire l _ => some l
  | .lockFireDone _ => none
  | .lockArmTimeout => none
  | .viewIndexWrite l _ => some l
  | .surveyStart l => some l
  | .surveyAbort l => some l
  | .surveyTimeout => none
  | .laneSelftest _ _ => none
  | .readMeasured _ _ => none
  | .roundStart _ => none
  | .powerUpHoldEnd _ => none
  | .slotEmptyTimeout _ => none
  | .epcReply _ _ => none
  | .accessReplyTimeout _ => none
  | .accessOpEnd _ _ _ _ => none
  | .roundEnd _ => none
  | .opArm l _ => some l
  | .opDisarm l _ => some l
  | .resultRelease l _ => some l
  | .locBatch => none
  | .trackJoin => none
  | .trackCloseGap _ => none
  | .countIntervalPublish => none
  | .planBoundary _ => none
  | .dwellStart _ => none
  | .dwellEnd _ => none
  | .powerMeasure _ => none
  | .hfStartDeferred => none
  | .packetAgeTimeout _ _ => none
  | .reportWindowEnd => none
  | .creditGrant l _ _ => some l
  | .linkCreditGrant l _ _ => some l
  | .reportNext l _ => some l
  | .reportRelease l _ _ => some l
  | .wmAck l _ => some l
  | .hotRead l => some l
  | .markSet l _ _ => some l
  | .markClear l _ _ => some l
  | .rewind l _ _ => some l
  | .rewindDone _ => none
  | .scrubStep _ _ _ _ => none
  | .rowRepairDone => none
  | .repairMapStored _ => none
  | .innerCountUpdate _ => none
  | .hfDiscover l => some l
  | .hfActivate l => some l
  | .hfExchange l => some l
  | .hfRelease l => some l
  | .hfAbort l => some l
  | .hfFrameReceived _ _ => none
  | .hfReplyTimeout => none
  | .hfOpEnd _ _ _ _ => none
  | .hfSessionIdle => none
  | .slideTrackTick _ _ _ _ => none
  | .hfDriverFault _ => none
  | .hfFaultClear l => some l
  | .hfPllUnlock => none
  | .hfRecoveryRetry _ => none
  | .slideRetune l => some l
  | .slideCalDone _ _ _ _ _ _ => none
  | .breathPulse _ _ => none
  | .breathSecondPulse _ _ => none
  | .breathConfirmEnd _ => none
  | .breathBaselineDone _ _ _ => none
  | .sptSelectRelease _ => none
  | .sptFetch => none
  | .sptRead => none
  | .sptWrite => none
  | .sptBlockRead => none
  | .twaStatus => none
  | .twaModeSet _ => none
  | .twaEvents => none
  | .twaEventAck _ => none
  | .twaCredit _ => none
  | .twaObjRead _ _ _ => none
  | .twaObjWrite _ _ _ => none
  | .twaDomRead _ _ _ _ => none
  | .twaDomWrite _ _ _ _ => none
  | .twaWindow _ _ => none
  | .twaReplyRead _ => none
  | .twaWriteReject _ => none
  | .twaAra _ => none
  | .twaAlertReassert => none
  | .twaBusTimeout => none
  | .mbxNonce => none
  | .mbxReadCert => none
  | .mbxTokenWrite => none
  | .mbxTokenSubmit => none
  | .mbxFwBegin => none
  | .mbxFwWrite => none
  | .mbxFwFinish => none
  | .mbxReset => none
  | .nmtStart => none
  | .nmtStop => none
  | .nmtEnterPreop => none
  | .nmtResetNode => none
  | .nmtResetComm => none
  | .heartbeatTimer => none
  | .usdoRequest _ => none
  | .usdoTimeout => none
  | .rpdoReceived _ _ => none
  | .syncReceived => none
  | .timeReceived _ _ => none
  | .tpdoSend _ => none
  | .tpdoEventTimer _ => none
  | .tpdo0PacketSend => none
  | .tpdo0FragmentSent => none
  | .emcySend => none
  | .canErrPassive _ => none
  | .canErrorActive _ => none
  | .canBusOff _ => none
  | .canBusOffRecovered _ => none
  | .spcRead l => some l
  | .spcProgram l => some l
  | .spcErase4k l => some l
  | .spcErase64k l => some l
  | .spcReadSfdp l => some l
  | .spcOpEnd _ _ => none
  | .twbGo l _ => some l
  | .twbRecover l _ => some l
  | .twbTransferEnd _ _ _ => none
  | .twbSclTimeout => none
  | .twbConflict => none
  | .twbRetry _ => none
  | .gpioSet l _ => some l
  | .gpioClear l _ => some l
  | .gateEdge _ _ => none
  | .timerWrap _ => none
  | .timerMatch _ => none
  | .tmrFlagClear l _ _ => some l
  | .tmrRestart l _ _ => some l
  | .tmrGroupLoad l _ => some l
  | .discPhaseEnd => none
  | .discHoldover => none
  | .scanStart l => some l
  | .scanAbort l => some l
  | .scanDone _ => none
  | .checkSelftest _ _ => none
  | .demandPageLoad _ _ => none
  | .fwUpdateBegin l => some l
  | .fwEraseDone => none
  | .fwImageAppend l _ => some l
  | .fwUpdateFinish l => some l
  | .fwVerifyDone _ _ => none
  | .fwUpdateAbandon l => some l
  | .fwConfirm l _ => some l
  | .nonceRequest l _ => some l
  | .nonceExpire => none
  | .tokenSubmit l _ => some l
  | .tokenTest => none
  | .tokenRecovery => none
  | .tokenDebug => none
  | .ownerRelease => none
  | .ownerEnrol => none
  | .ownerRotate => none
  | .tokenRejected _ => none
  | .sessionClose l _ => some l
  | .sessionExpire => none
  | .quoteGo l _ => some l
  | .quoteDone => none
  | .debugDisable l _ => some l
  | .debugAttach _ => none
  | .tapInstruction _ => none
  | .tempSample _ => none
  | .voltageSample _ => none
  | .railComparatorTrip _ => none
  | .processMeasure _ => none
  | .cxPllUnlock => none
  | .cxPllRelock => none
  | .faultClear l _ => some l
  | .watchdogBark _ => none
  | .watchdogBite _ => none
  | .evtAck l _ => some l
  | .eventLogWrite => none
  | .workMemError _ => none
  | .porRelease _ _ _ => none
  | .vioBrownOut _ => none
  | .hfGuardTimeEnd => none
  | .twaAddressNack => none
  | .twbSclStuck => none
  | .twbBusReleased => none
  | .brownOut => none
  | .resetNAssert => none

/-- A request that WATCH serves (R76): a write of MODE_REQUEST. -/
def Instr.inWatch : Instr → Bool
  | .reqHold _ | .reqReady _ | .reqRun _ | .reqTest _ | .reqWatch _ => true
  | .objectWrite _ index sub _ => index * 256 + sub % 256 = Machine.Reg.MODE_REQUEST
  | _ => false

end Sys2Proof

namespace Sys2Proof.Machine

/-- What every step keeps: the flashes in their canonical form, at most 64 buffered log entries (R562), 16 waiting EMCYs
(R463) and 64 access results (R277). -/
def State.Bounded (s : State) : Prop :=
  (∀ n, Memory.wf (s.flash n) = true) ∧ s.ev.log.length ≤ 64 ∧ s.ev.emcy.length ≤ 16 ∧ s.eng.results.length ≤ 64

end Sys2Proof.Machine
end

