-- ==== Sys2Proof/Certificates/Slice0/Obligations.lean ====
section
/-! DEFINITION. The statements about the machine, for the provers. -/

open Sys2Proof Sys2Proof.Machine

/-- On a link that is up, a flit that arrives good and in sequence (with no ACK or NAK to pass on) is recorded as the last one received, and at CX it enters the fall-through chain behind the flits held; at a full chain of 32 it is not taken, and a bad one is not taken either: a NAK falls due and the end discards from then on. Nothing else of the state changes. -/
def Obligations.GoodFlitIsTakenAndBadFlitIsNot : Prop :=
    (∀ (h : Fin 5) (side : LinkSide) (flit : Bytes) (s : State),
      (s.hub h).width ≠ 0 →
      flitBad flit false = false →
      (∀ q, ((s.hub h).end_ side).rxLast = some q → field flit 1 1 = (q + 1) % 256) →
      (side = LinkSide.cx → ((s.hub h).end_ side).fifo.length < 32) →
      field flit 3 1 = 0 →
      Completes (.flitReceived h side flit false) s fun t =>
        ((t.hub h).end_ side).rxLast = some (field flit 1 1) ∧
        ((t.hub h).end_ side).discarding = false ∧
        ((t.hub h).end_ side).nakDue = false ∧
        (side = LinkSide.cx → ((t.hub h).end_ side).fifo = ((s.hub h).end_ side).fifo ++ [⟨field flit 0 1 / 16, field flit 0 1 % 16, field flit 1 1, slice flit 4 24⟩]) ∧
        (∀ g : Fin 5, g ≠ h → t.hub g = s.hub g) ∧
        { t with hubs := s.hubs } = s) ∧
    (∀ (h : Fin 5) (flit : Bytes) (s : State),
      (s.hub h).width ≠ 0 →
      flitBad flit false = false →
      (∀ q, (s.hub h).cx.rxLast = some q → field flit 1 1 = (q + 1) % 256) →
      32 ≤ (s.hub h).cx.fifo.length →
      Completes (.flitReceived h .cx flit false) s fun t =>
        (t.hub h).cx = { (s.hub h).cx with discarding := true, nakDue := true } ∧
        { t with hubs := s.hubs } = s) ∧
    (∀ (h : Fin 5) (side : LinkSide) (flit : Bytes) (codeErr : Bool) (s : State),
      (s.hub h).width ≠ 0 →
      flitBad flit codeErr = true →
      ((s.hub h).end_ side).discarding = false →
      Completes (.flitReceived h side flit codeErr) s fun t =>
        (t.hub h).end_ side = { (s.hub h).end_ side with discarding := true, nakDue := true } ∧
        { t with hubs := s.hubs } = s)

/-- A replay timeout on a link that is up, with flits unacknowledged, sends every one of them again in the original order and counts one more resend (and, for a quad, LINK_REPLAYS); LINK_DOWN takes the link down and starts its training; the end of training sets the width that the lanes passing it give; the retrain timer starts training again, leaving everything else as it was. -/
def Obligations.LinkTrainingAndLossRows : Prop :=
    (∀ (h : Fin 5) (side : LinkSide) (s : State),
      (s.hub h).width ≠ 0 →
      ((s.hub h).end_ side).unacked ≠ [] →
      ((s.hub h).end_ side).resends < 7 →
      Completes (.replayTimeout h side) s fun t =>
        ((t.hub h).end_ side).again = ((s.hub h).end_ side).unacked ∧
        ((t.hub h).end_ side).unacked = ((s.hub h).end_ side).unacked ∧
        ((t.hub h).end_ side).resends = ((s.hub h).end_ side).resends + 1 ∧
        (h.val < 4 → t.get (Reg.LINK_REPLAYS h) = (s.get (Reg.LINK_REPLAYS h) + 1) % 2 ^ 32) ∧
        (t.hub h).width = (s.hub h).width) ∧
    (∀ (h : Fin 5) (s : State),
      (s.hub h).width ≠ 0 →
      Completes (.linkDown h) s fun t =>
        (t.hub h).width = 0 ∧
        (t.hub h).training = true ∧
        (t.hub h).cx = default ∧
        (t.hub h).die = default) ∧
    (∀ (h : Fin 5) (up down : Nat) (s : State),
      (s.hub h).training = true →
      Completes (.linkTrainingDone h up down) s fun t =>
        (t.hub h).width = linkWidth h up down ∧
        (t.hub h).training = false) ∧
    (∀ (h : Fin 5) (s : State),
      (s.hub h).width = 0 →
      (s.mode = Mode.hold ∨ s.mode = Mode.ready ∨ s.mode = Mode.run ∨ s.mode = Mode.test) →
      (if h.val < 4 then h.val < Variant.quads s.variant else Variant.hx s.variant = true) →
      Completes (.linkRetrainTimer h) s fun t =>
        (t.hub h).training = true ∧
        (t.hub h).width = 0 ∧
        (∀ g : Fin 5, g ≠ h → t.hub g = s.hub g) ∧
        { t with hubs := s.hubs } = s)

/-- When the measurement at the head of the tone bus is that of a quad on which no dwell runs, outside TEST, and every chain of it in service passes, the bus goes to the next request, TONE_COUNT counts, and the channel and the time of the measurement are kept. -/
def Obligations.ToneMeasurementOfAQuadAlone : Prop :=
    (∀ (leader : Fin 4) (asked : Nat) (rest : List (Nat × Nat)) (meas : List ToneMeas) (s : State),
      s.arr.bus = (leader.val, asked) :: rest →
      s.testC = none →
      s.running leader = none →
      (∀ c ∈ chainsOf leader, s.chainIn c = true → ∃ m ∈ meas, m.chain.val = c ∧ -184 ≤ m.power ∧ m.power ≤ -136 ∧ 140 ≤ m.residual) →
      Completes (.toneMeasureDone leader meas) s fun t =>
        t.arr.bus = rest ∧
        t.get Reg.TONE_COUNT = (s.get Reg.TONE_COUNT + 1) % 2 ^ 32 ∧
        (Tab.get t.arr.tone leader).khz = s.get (Reg.SYNTH_FREQ_KHZ leader) ∧
        (Tab.get t.arr.tone leader).time = s.tim.now)

/-- REF_LOST, while REFCLK was present, records the loss and latches event 16; out of the modes that go on at once it leaves HOLD being entered or entered. When REFCLK is accepted again outside TEST the loss is over and every present quad is due for calibration, and no object changes. -/
def Obligations.ReferenceLossAndReturn : Prop :=
    (∀ (s : State),
      s.sys.refLost = false →
      s.sys.phase = ResetPhase.released →
      Completes (.refLost) s fun t =>
        t.sys.refLost = true ∧
        t.latched 16 = true ∧
        ((s.mode = Mode.ready ∨ s.mode = Mode.run ∨ s.mode = Mode.watch) → ∃ x, t.sys.trans = some x ∧ x.target = Mode.hold ∧ x.forced = true)) ∧
    (∀ (s : State),
      s.sys.refLost = true →
      s.mode ≠ Mode.test →
      Completes (.refclkAccepted) s fun t =>
        t.sys.refLost = false ∧
        (∀ q, q < Variant.quads s.variant → (t.quad q).calDue = true) ∧
        t.regs = s.regs ∧
        t.mode = s.mode)

/-- A read of DEVICE_TIME_LO answers the low 32 bits of device time and latches both halves for the link; a read of a lost-record counter of a stream latches its two parts; 1 ms after the link's oldest latch its parts are forgotten, and those of no later latch and of no other link. Every numeric object but the link's last result keeps its value. -/
def Obligations.WideValuesAreLatchedAtTheLowRead : Prop :=
    (∀ (l : Link) (s : State),
      Serves s l false →
      Completes (.deviceTimeLoRead l) s fun t =>
        Answered t l Result.ok ∧
        Tab.find t.io.data (Link.code l) = some (leBytes 4 (s.tim.now % 2 ^ 32)) ∧
        (⟨l, Reg.DEVICE_TIME_LO, [s.tim.now % 2 ^ 32, s.tim.now / 2 ^ 32 % 2 ^ 32], s.tim.now⟩ : Shadow) ∈ t.shadows ∧
        SameButAnswer l [] s { t with io := s.io, shadows := s.shadows }) ∧
    (∀ (l : Link) (i : Fin 3) (s : State),
      Serves s l false →
      Completes (.wideValueLoRead l (Reg.LOST_T1_LO i / 256) (Reg.LOST_T1_LO i % 256)) s fun t =>
        Answered t l Result.ok ∧
        Tab.find t.io.data (Link.code l) = some (leBytes 4 (s.get (Reg.LOST_T1_LO i))) ∧
        (⟨l, Reg.LOST_T1_LO i, [s.get (Reg.LOST_T1_LO i), s.get (Reg.LOST_T1_LO i + 1)], s.tim.now⟩ : Shadow) ∈ t.shadows ∧
        SameButAnswer l [] s { t with io := s.io, shadows := s.shadows }) ∧
    (∀ (l : Link) (x : Shadow) (s : State),
      s.oldestShadow l = some x →
      Completes (.wideShadowExpire l) s fun t =>
        x.link = l ∧
        t.shadows = s.shadows.erase x ∧
        (∀ y ∈ s.shadows, y ≠ x → y ∈ t.shadows) ∧
        { t with shadows := s.shadows } = s)

/-- TAG_REPLY_END keeps the instant of the reply. A slot with one valid decode on an enabled receive beam is SINGLE: the RN16, the beam and the SNR are kept, RXB_DECODES and RXB_BEST count, and ACK is turned round next. A slot with no valid decode but a preamble is a COLLISION. Beside these, only what the end of a reply window brings changes: gain changes that waited for it, a COMBINED beam's weights, and the decision sent to the die. Of a slot's decodes the one taken is among them, none has a higher SNR, and none of an equal SNR comes from a lower-numbered receive beam; there is one whenever there are decodes. -/
def Obligations.RepliesOfASlot : Prop :=
    (∀ (beam : Fin 4) (r : Round) (s : State),
      s.round beam = some r →
      (r.stage = RoundStage.slot ∨ r.stage = RoundStage.ack ∨ r.stage = RoundStage.access) →
      Completes (.tagReplyEnd beam) s fun t =>
        t.round beam = some { r with replyAt := s.tim.now } ∧
        { t with eng := s.eng } = s) ∧
    (∀ (beam : Fin 4) (r : Round) (d : Decode) (pre : List PreMeas) (s : State),
      s.round beam = some r →
      r.stage = RoundStage.slot →
      d.rxBeam.val / 4 = beam.val →
      s.get (Reg.RXB_MODE d.rxBeam) ≠ 0 →
      Completes (.replyDecoded beam ⟨[d], false, false, pre⟩) s fun t =>
        (∃ r2, t.round beam = some r2 ∧ r2.stage = RoundStage.turnAck ∧ r2.outcome = 2 ∧ r2.rn16 = d.rn16.toNat ∧ r2.best = d.rxBeam.val ∧ r2.snr = d.snr ∧ r2.spatial = false) ∧
        t.get (Reg.RXB_DECODES d.rxBeam) = (s.get (Reg.RXB_DECODES d.rxBeam) + 1) % 2 ^ 32 ∧
        t.get (Reg.RXB_BEST d.rxBeam) = (s.get (Reg.RXB_BEST d.rxBeam) + 1) % 2 ^ 32 ∧
        SameButReply [Reg.RXB_DECODES d.rxBeam, Reg.RXB_BEST d.rxBeam, Reg.RXB_SEQ d.rxBeam] s t) ∧
    (∀ (beam : Fin 4) (r : Round) (late : Bool) (pre : List PreMeas) (s : State),
      s.round beam = some r →
      r.stage = RoundStage.slot →
      Completes (.replyDecoded beam ⟨[], true, late, pre⟩) s fun t =>
        t.round beam = some { r with stage := RoundStage.turnSlot, outcome := 1, lateSlot := late } ∧
        SameButReply [] s t) ∧
    (∀ (ds : List Decode) (b : Decode), bestDecode ds = some b → b ∈ ds ∧ ∀ d ∈ ds, d.snr < b.snr ∨ (d.snr = b.snr ∧ b.rxBeam.val ≤ d.rxBeam.val)) ∧
    (∀ ds : List Decode, ds ≠ [] → (bestDecode ds).isSome = true)

/-- A request that Table 2.4 gives, with no transition or commit in progress and no recovery session, is answered OK and starts the transition under the link that asked: HOLD, READY and WATCH from RUN, WATCH from READY, RUN out of WATCH with WAKE_CAUSE naming the host, TEST from HOLD for a link with a session that lets it. Until the transition ends the mode stays. -/
def Obligations.ModeRequestsStartTransitions : Prop :=
    (∀ (l : Link) (s : State),
      Serves s l true →
      s.sys.trans = none →
      s.get Reg.COMMIT_STATE = 0 →
      (s.mode = Mode.run ∨ s.mode = Mode.ready) →
      Completes (.reqHold l) s fun t =>
        Answered t l Result.ok ∧
        t.sys.trans = some ⟨Mode.hold, false, some l, 8⟩ ∧
        t.mode = s.mode ∧
        t.get Reg.MODE_REQUEST = 1) ∧
    (∀ (l : Link) (s : State),
      Serves s l true →
      s.sys.trans = none →
      s.get Reg.COMMIT_STATE = 0 →
      s.get Reg.SESSION_KIND ≠ 3 →
      s.mode = Mode.run →
      Completes (.reqReady l) s fun t =>
        Answered t l Result.ok ∧
        t.sys.trans = some ⟨Mode.ready, false, some l, 0⟩ ∧
        t.mode = s.mode ∧
        t.get Reg.MODE_REQUEST = 2) ∧
    (∀ (l : Link) (s : State),
      Serves s l true →
      s.sys.trans = none →
      s.get Reg.COMMIT_STATE = 0 →
      s.get Reg.SESSION_KIND ≠ 3 →
      s.mode = Mode.watch →
      Completes (.reqRun l) s fun t =>
        Answered t l Result.ok ∧
        t.sys.trans = some ⟨Mode.run, false, some l, 0⟩ ∧
        t.mode = s.mode ∧
        t.get Reg.WAKE_CAUSE = 128) ∧
    (∀ (l : Link) (s : State),
      Serves s l true →
      s.sys.trans = none →
      s.get Reg.COMMIT_STATE = 0 →
      s.get Reg.SESSION_KIND ≠ 3 →
      (s.mode = Mode.ready ∨ s.mode = Mode.run) →
      Completes (.reqWatch l) s fun t =>
        Answered t l Result.ok ∧
        t.sys.trans = some ⟨Mode.watch, false, some l, 0⟩ ∧
        t.mode = s.mode ∧
        t.get Reg.MODE_REQUEST = 4) ∧
    (∀ (l : Link) (s : State),
      Serves s l true →
      s.sys.trans = none →
      s.get Reg.COMMIT_STATE = 0 →
      s.mode = Mode.hold →
      s.testSession l = true →
      Completes (.reqTest l) s fun t =>
        Answered t l Result.ok ∧
        t.sys.trans = some ⟨Mode.test, false, some l, 0⟩ ∧
        t.mode = s.mode ∧
        t.get Reg.MODE_REQUEST = 5)

/-- When a transition to HOLD, TEST or (nothing of it still running) READY ends, no round and no measurement of a read still holding RUN, that mode is in force, no transition is left, event 1 is latched, HOLD_REASON is the transition's reason in HOLD and 0 elsewhere, and MODE_RESULT is OK for the link that asked. -/
def Obligations.TransitionsEndInTheirMode : Prop :=
    (∀ (x : Trans) (s : State),
      s.sys.trans = some x →
      x.target = Mode.hold →
      s.runHeld x = false →
      Completes (.modeTransitionDone) s fun t =>
        t.mode = Mode.hold ∧
        t.sys.trans = none ∧
        t.latched 1 = true ∧
        t.get Reg.HOLD_REASON = x.reason ∧
        (x.link ≠ none → t.get Reg.MODE_RESULT = 0)) ∧
    (∀ (x : Trans) (s : State),
      s.sys.trans = some x →
      x.target = Mode.test →
      s.runHeld x = false →
      Completes (.modeTransitionDone) s fun t =>
        t.mode = Mode.test ∧
        t.sys.trans = none ∧
        t.latched 1 = true ∧
        t.get Reg.HOLD_REASON = 0 ∧
        (x.link ≠ none → t.get Reg.MODE_RESULT = 0)) ∧
    (∀ (x : Trans) (s : State),
      s.sys.trans = some x →
      x.target = Mode.ready →
      s.runHeld x = false →
      s.calsDone = true →
      s.sweep = none →
      s.hf.calRuns = false →
      Completes (.modeTransitionDone) s fun t =>
        t.mode = Mode.ready ∧
        t.sys.trans = none ∧
        t.latched 1 = true ∧
        t.get Reg.HOLD_REASON = 0 ∧
        (x.link ≠ none → t.get Reg.MODE_RESULT = 0))

/-- RESET_REQUEST, RESET_N and both brown-outs leave the part in mode BOOT in reset, with the cause and the detail of Table 17.6, and keep the debug fuse, the slot records, the retirement list, the board and link records, the flashes' contents, the interlock and the commands that wait; a brown-out waits for POR release. -/
def Obligations.ResetsKeepWhatIsStored : Prop :=
    (∀ (l : Link) (s : State),
      Serves s l false →
      Completes (.resetRequest l) s fun t =>
        t.sys.phase = ResetPhase.resetHeld ∧
        t.get Reg.RESET_CAUSE = 4 ∧
        t.get Reg.RESET_DETAIL = Link.code l ∧
        t.mode = Mode.boot ∧
        t.sec.debugFuse = s.sec.debugFuse ∧
        t.cfg.rec0 = s.cfg.rec0 ∧
        t.cfg.rec1 = s.cfg.rec1 ∧
        t.mem.retired = s.mem.retired ∧
        t.brd.flash = s.brd.flash ∧
        t.brd.stored = s.brd.stored ∧
        t.io.linkRec = s.io.linkRec ∧
        t.ilk = s.ilk ∧
        t.pending = s.pending) ∧
    (∀ (s : State),
      s.sys.phase ≠ ResetPhase.porHeld →
      Completes (.resetNAssert) s fun t =>
        t.sys.phase = ResetPhase.resetHeld ∧
        t.get Reg.RESET_CAUSE = 1 ∧
        t.get Reg.RESET_DETAIL = 0 ∧
        t.mode = Mode.boot ∧
        t.sec.debugFuse = s.sec.debugFuse ∧
        t.cfg.rec0 = s.cfg.rec0 ∧
        t.cfg.rec1 = s.cfg.rec1 ∧
        t.mem.retired = s.mem.retired ∧
        t.brd.flash = s.brd.flash ∧
        t.brd.stored = s.brd.stored ∧
        t.io.linkRec = s.io.linkRec ∧
        t.ilk = s.ilk ∧
        t.pending = s.pending) ∧
    (∀ (s : State),
      Completes (.brownOut) s fun t =>
        t.sys.phase = ResetPhase.porHeld ∧
        t.get Reg.RESET_CAUSE = 2 ∧
        t.get Reg.RESET_DETAIL = 0 ∧
        t.mode = Mode.boot ∧
        t.sec.debugFuse = s.sec.debugFuse ∧
        t.cfg.rec0 = s.cfg.rec0 ∧
        t.cfg.rec1 = s.cfg.rec1 ∧
        t.mem.retired = s.mem.retired ∧
        t.brd.flash = s.brd.flash ∧
        t.brd.stored = s.brd.stored ∧
        t.io.linkRec = s.io.linkRec ∧
        t.ilk = s.ilk ∧
        t.pending = s.pending) ∧
    (∀ (b : Bool) (s : State),
      Completes (.vioBrownOut b) s fun t =>
        t.sys.phase = ResetPhase.porHeld ∧
        t.get Reg.RESET_CAUSE = 2 ∧
        t.mode = Mode.boot ∧
        t.sec.debugFuse = s.sec.debugFuse ∧
        t.cfg.rec0 = s.cfg.rec0 ∧
        t.cfg.rec1 = s.cfg.rec1 ∧
        t.mem.retired = s.mem.retired ∧
        t.brd.flash = s.brd.flash ∧
        t.brd.stored = s.brd.stored ∧
        t.io.linkRec = s.io.linkRec ∧
        t.ilk = s.ilk ∧
        t.pending = s.pending)

/-- At POR release each bank takes 3.3 V at 2,400 mV and above, and an unpowered retention domain makes the cause POWER_ON and starts the interlock afresh. At reset release the straps are sampled; with no verified firmware slot the part stays in BOOT with nothing on CAN, and where firmware runs a part with PX has its LX0 and LX1 taken over and the soft-start of LX2 and LX3 begun. In BOOT, an accepted REFCLK starts device time at 0 once; each link starts at its instant, CAN with the boot-up state Pre-operational and only where firmware runs; and BOOT ends, its steps over, in READY, or in HOLD with the lowest reason, with BOOT_DURATION kept and events 0, 1 and 7 latched. -/
def Obligations.PowerAndResetRelease : Prop :=
    (∀ (vioA vioB : BitVec 16) (unpowered : Bool) (s : State),
      s.sys.phase = ResetPhase.porHeld →
      Completes (.porRelease vioA vioB unpowered) s fun t =>
        t.sys.phase = ResetPhase.resetHeld ∧
        t.sys.vioA33 = decide (2400 ≤ vioA.toNat) ∧
        t.sys.vioB33 = decide (2400 ≤ vioB.toNat) ∧
        (unpowered = true → t.get Reg.RESET_CAUSE = 0 ∧ t.ilk.fresh = true) ∧
        (unpowered = false → t.regs = s.regs ∧ t.ilk = s.ilk) ∧
        t.mode = s.mode) ∧
    (∀ (testen : Bool) (twaAs canId : Fin 8) (gates : BitVec 8) (fwA fwB : FwVerdict) (s : State),
      s.sys.phase = ResetPhase.resetHeld →
      s.sys.resetDue = none →
      Completes (.resetRelease testen twaAs canId gates fwA fwB []) s fun t =>
        t.sys.phase = ResetPhase.released ∧
        t.sys.testen = testen ∧
        t.sys.twaAs = twaAs.val ∧
        t.sys.noFirmware = true ∧
        t.mode = s.mode) ∧
    (∀ (testen : Bool) (twaAs canId : Fin 8) (gates : BitVec 8) (fwA fwB : FwVerdict) (flashes : List FlashInfo) (s : State),
      s.sys.phase = ResetPhase.resetHeld →
      Completes (.resetRelease testen twaAs canId gates fwA fwB flashes) s fun t =>
        t.sys.phase = ResetPhase.released ∧
        t.sys.testen = testen ∧
        (t.sys.noFirmware = false → Variant.big s.variant = true → t.sys.lx01 = LxDrive.px ∧ t.sys.softStart = 20000)) ∧
    (∀ (s : State),
      s.sys.phase = ResetPhase.released →
      s.mode = Mode.boot →
      s.sys.timeOn = false →
      Completes (.bootRefclkAccepted) s fun t =>
        t.sys.timeOn = true ∧
        t.tim.now = 0 ∧
        t.regs = s.regs ∧
        t.mode = s.mode) ∧
    (∀ (s : State),
      s.sys.phase = ResetPhase.released →
      s.mode = Mode.boot →
      Completes (.bootLinkStart .spt) s fun t =>
        t = { s with sys := { s.sys with sptUp := true } }) ∧
    (∀ (s : State),
      s.sys.phase = ResetPhase.released →
      s.mode = Mode.boot →
      Completes (.bootLinkStart .twa) s fun t =>
        t = { s with sys := { s.sys with twaUp := true } }) ∧
    (∀ (s : State),
      s.sys.phase = ResetPhase.released →
      s.mode = Mode.boot →
      s.sys.noFirmware = false →
      s.sys.canUp = false →
      Completes (.bootLinkStart .can) s fun t =>
        t.sys.canUp = true ∧
        t.get Reg.CAN_NMT_STATE = 0x7F ∧
        t.get Reg.CAN0_STATE = ofBool (bit s.io.inForce.lines 0) ∧
        t.get Reg.CAN1_STATE = ofBool (bit s.io.inForce.lines 1) ∧
        t.mode = s.mode) ∧
    (∀ (durUs : BitVec 32) (s : State),
      s.sys.phase = ResetPhase.released →
      s.mode = Mode.boot →
      s.sys.timeOn = true →
      s.sys.noFirmware = false →
      s.stepsDone = true →
      Completes (.bootEnd durUs) s fun t =>
        t.mode = (if s.bootEndReason = 0 then Mode.ready else Mode.hold) ∧
        t.get Reg.HOLD_REASON = s.bootEndReason ∧
        t.get Reg.BOOT_DURATION = durUs.toNat ∧
        t.latched 0 = true ∧
        t.latched 1 = true ∧
        t.latched 7 = true)

/-- In TEST an accepted carrier starts tuning every quad with a chain in service, and ends in state 3 when it is stopped or times out; the HF field is raised with HF_ENABLE 1, at TEST_HF_POWER_MW or, where Slide is to be calibrated first, at 20 mW, and dropped, by the host or after its time; a capture runs once and holds 49,152 bytes when it is done. -/
def Obligations.TestCommands : Prop :=
    (∀ (l : Link) (s : State),
      Serves s l false →
      s.mode = Mode.test →
      s.get Reg.TEST_CARRIER_STATE ≠ 1 →
      s.get Reg.TEST_CARRIER_STATE ≠ 2 →
      s.testNone = false →
      s.critical = 0 →
      s.sys.refLost = false →
      s.interlock (s.get Reg.TEST_FREQ_KHZ) (s.testChains.map fun c => (c, s.i16 Reg.TEST_LEVEL)) = true →
      Completes (.testCarrierStart l) s fun t =>
        Answered t l Result.ok ∧
        (∃ x, t.testC = some x ∧ x.unlocked = x.quads ∧ x.toned = false ∧ ∀ q, q < Variant.quads s.variant → (x.quads.testBit q = true ↔ s.quadIn q = true ∧ ∃ c ∈ s.testChains, c / 4 = q))) ∧
    (∀ (l : Link) (x : TestC) (s : State),
      Serves s l false →
      s.mode = Mode.test →
      s.testC = some x →
      Completes (.testCarrierStop l) s fun t =>
        Answered t l Result.ok ∧
        t.testC = none ∧
        t.get Reg.TEST_CARRIER_STATE = 3) ∧
    (∀ (x : TestC) (s : State),
      s.get Reg.TEST_CARRIER_STATE = 2 →
      s.testC = some x →
      Completes (.testCarrierTimeout) s fun t =>
        t.testC = none ∧
        t.get Reg.TEST_CARRIER_STATE = 3 ∧
        t.mode = s.mode) ∧
    (∀ (l : Link) (s : State),
      Serves s l false →
      s.mode = Mode.test →
      Variant.hx s.variant = true →
      s.hf.fieldAt = none →
      s.get Reg.HF_STATE ≠ 5 →
      s.critical = 0 →
      s.sys.refLost = false →
      s.get Reg.HF_ENABLE = 1 →
      Completes (.testHfFieldRaise l) s fun t =>
        Answered t l Result.ok ∧
        t.get Reg.TEST_HF_STATE = 1 ∧
        t.get Reg.HF_TX_POWER_NOW = (if s.slideStale then 20 else s.get Reg.TEST_HF_POWER_MW) ∧
        t.hf.fieldAt = some s.tim.now ∧
        t.hf.test = true ∧
        SameButAnswer l [Reg.TEST_HF_STATE, Reg.HF_TX_POWER_NOW, Reg.HSTATE_SEQ] s { t with hf := s.hf }) ∧
    (∀ (l : Link) (a : Nat) (s : State),
      Serves s l false →
      s.mode = Mode.test →
      Variant.hx s.variant = true →
      s.hf.test = true →
      s.hf.fieldAt = some a →
      Completes (.testHfFieldDrop l) s fun t =>
        Answered t l Result.ok ∧
        t.get Reg.TEST_HF_STATE = 0 ∧
        t.hf.fieldAt = none ∧
        t.hf.test = false) ∧
    (∀ (a : Nat) (s : State),
      s.hf.test = true →
      s.hf.fieldAt = some a →
      Completes (.testHfTimeout) s fun t =>
        t.get Reg.TEST_HF_STATE = 0 ∧
        t.hf.fieldAt = none ∧
        t.hf.test = false) ∧
    (∀ (l : Link) (s : State),
      Serves s l false →
      s.mode = Mode.test →
      s.get Reg.CAPTURE_STATE ≠ 1 →
      Completes (.captureGo l) s fun t =>
        Answered t l Result.ok ∧
        t.get Reg.CAPTURE_STATE = 1 ∧
        SameButAnswer l [Reg.CAPTURE_STATE, Reg.TCAP_SEQ] s { t with hubs := s.hubs }) ∧
    (∀ (data : Bytes) (s : State),
      s.get Reg.CAPTURE_STATE = 1 →
      Completes (.captureDone data) s fun t =>
        t.get Reg.CAPTURE_STATE = 2 ∧
        t.dom Reg.CAPTURE_DATA = padTo 49152 data ∧
        (t.chain (s.get Reg.CAPTURE_CHAIN)).captured = 16384 ∧
        SameBut [Reg.CAPTURE_STATE, Reg.TCAP_SEQ] s { t with doms := s.doms, chains := s.chains })

/-- A write that R97 accepts enters the staged set and acts on nothing; a commit of the staged set or of the image starts unless one is in progress, in TEST or barred by the owner lock; a staged set that fails is rejected with event 2 and kept, one that passes becomes the configuration that will result, an empty one ends at once with event 3; at the apply instant the commit ends OK with event 3 and storing starts; storing writes the other slot and marks it current, or fails with event 54; DISCARD empties the staged set and the image, and a completed transfer extends the image. -/
def Obligations.CommitsAreStagedCheckedAndApplied : Prop :=
    (∀ (l : Link) (index sub : Nat) (d : Bytes) (s : State),
      Serves s l false →
      (Dict.find (index * 256 + sub % 256)).any (fun f => decide (f.row.acc = Acc.rws ∨ (f.row.acc = Acc.lock ∧ s.regLocked = false)) && f.present s.variant s.mode && f.writeOk s.variant d) = true →
      ((index * 256 + sub % 256) = Reg.REGION_ID → (Region.ofId (leNat d)).isSome = true) →
      s.ownerLocked = false →
      s.claimedKey (index * 256 + sub % 256) = false →
      s.get Reg.COMMIT_STATE = 0 →
      s.canStage (index * 256 + sub % 256) d = true →
      s.get Reg.LOCK_STATE ≠ 1 →
      Completes (.stageWrite l index sub d) s fun t =>
        Answered t l Result.ok ∧
        Tab.find t.cfg.staged (index * 256 + sub % 256) = some d ∧
        (∀ j, j ≠ (index * 256 + sub % 256) → Tab.find t.cfg.staged j = Tab.find s.cfg.staged j) ∧
        Tab.find t.cfg.stagedBy (index * 256 + sub % 256) = some l ∧
        bit t.stagedLinks (Link.code l - 1) = true ∧
        SameButAnswer l [Reg.PEEK_SEQ] s { t with cfg := { t.cfg with staged := s.cfg.staged, stagedBy := s.cfg.stagedBy } }) ∧
    (∀ (l : Link) (index sub : Nat) (d : Bytes) (s : State),
      Serves s l false →
      (Dict.find (index * 256 + sub % 256)).any (fun f => decide (f.row.acc = Acc.lock) && f.present s.variant s.mode) = true →
      s.get Reg.LOCK_STATE = 2 →
      Completes (.stageWrite l index sub d) s fun t =>
        Answered t l Result.denied ∧
        SameButAnswer l [] s t) ∧
    (∀ (l : Link) (s : State),
      Serves s l false →
      s.mode ≠ Mode.test →
      s.get Reg.COMMIT_STATE = 0 →
      s.sys.trans = none →
      s.get Reg.LOCK_STATE ≠ 1 →
      s.ownerLocked = false →
      Completes (.commitStaged l) s fun t =>
        Answered t l Result.ok ∧
        t.get Reg.COMMIT_STATE = 1 ∧
        t.cfg.src = some CommitSrc.staged ∧
        SameButAnswer l [Reg.COMMIT_STATE] s { t with cfg := { t.cfg with src := s.cfg.src } }) ∧
    (∀ (l : Link) (s : State),
      Serves s l false →
      s.mode ≠ Mode.test →
      s.get Reg.COMMIT_STATE = 0 →
      s.sys.trans = none →
      s.get Reg.LOCK_STATE ≠ 1 →
      Completes (.commitImage l) s fun t =>
        Answered t l Result.ok ∧
        t.get Reg.COMMIT_STATE = 1 ∧
        t.cfg.src = some CommitSrc.image ∧
        SameButAnswer l [Reg.COMMIT_STATE] s { t with cfg := { t.cfg with src := s.cfg.src } }) ∧
    (∀ (s : State),
      s.cfg.src = some CommitSrc.staged →
      s.get Reg.COMMIT_STATE = 1 →
      s.cfg.staged ≠ [] →
      s.judgeEntries (s.overlay s.cfg.staged) s.cfg.staged = none →
      s.mode ≠ Mode.run →
      Completes (.validationDone) s fun t =>
        t.get Reg.COMMIT_STATE = 2 ∧
        t.cfg.next = some (s.changesTo (s.overlay s.cfg.staged)) ∧
        t.cfg.staged = s.cfg.staged ∧
        SameBut [Reg.COMMIT_STATE] s { t with cfg := s.cfg }) ∧
    (∀ (r : Reject) (s : State),
      s.cfg.src = some CommitSrc.staged →
      s.get Reg.COMMIT_STATE = 1 →
      s.judgeEntries (s.overlay s.cfg.staged) s.cfg.staged = some r →
      Completes (.validationDone) s fun t =>
        t.cfg.src = none ∧
        t.sys.commitBad = true ∧
        t.cfg.staged = s.cfg.staged ∧
        t.latched 2 = true) ∧
    (∀ (s : State),
      s.cfg.src = some CommitSrc.staged →
      s.get Reg.COMMIT_STATE = 1 →
      s.cfg.staged = [] →
      s.judgeEntries s [] = none →
      s.get Reg.PERSIST_STATE ≠ 2 →
      Completes (.validationDone) s fun t =>
        t.cfg.src = none ∧
        t.get Reg.COMMIT_STATE = 0 ∧
        t.get Reg.COMMIT_RESULT = 0 ∧
        t.latched 3 = true ∧
        t.sys.commitBad = false ∧
        t.get Reg.CONFIG_GENERATION = s.get Reg.CONFIG_GENERATION) ∧
    (∀ (x : CommitSrc) (es : DomStore) (s : State),
      s.cfg.src = some x →
      s.cfg.next = some es →
      s.get Reg.COMMIT_STATE = 2 →
      s.eng.rounds = [] →
      Completes (.applyInstant) s fun t =>
        t.get Reg.COMMIT_STATE = 0 ∧
        t.get Reg.COMMIT_RESULT = 0 ∧
        t.get Reg.PERSIST_STATE = 1 ∧
        t.cfg.src = none ∧
        t.cfg.storing ≠ none ∧
        t.sys.validConfig = true ∧
        t.sys.commitBad = false ∧
        t.latched 3 = true) ∧
    (∀ (img : Bytes) (s : State),
      s.cfg.storing = some img →
      s.flashTaken 0 = false →
      Memory.wf (s.flash 0) = true →
      Completes (.configPersistDone true) s fun t =>
        t.get Reg.PERSIST_STATE = 0 ∧
        t.cfg.storing = none ∧
        t.cfg.slot = some s.cfg.target ∧
        (t.flash 0).readAll (configBase s.cfg.target) img.length = img ∧
        (∀ a, (a < configBase s.cfg.target ∨ configBase s.cfg.target + max configSize img.length ≤ a) → (t.flash 0).read a = (s.flash 0).read a) ∧
        SameBut [Reg.PERSIST_STATE] s { t with cfg := s.cfg, brd := s.brd }) ∧
    (∀ (img : Bytes) (s : State),
      s.cfg.storing = some img →
      s.flashTaken 0 = false →
      Completes (.configPersistDone false) s fun t =>
        t.get Reg.PERSIST_STATE = 2 ∧
        t.cfg.storing = none ∧
        t.cfg.slot = s.cfg.slot ∧
        t.latched 54 = true ∧
        t.get (Reg.FLASH_ERRORS 0) = (s.get (Reg.FLASH_ERRORS 0) + 1) % 2 ^ 32) ∧
    (∀ (l : Link) (s : State),
      Serves s l false →
      s.get Reg.COMMIT_STATE = 0 →
      s.get Reg.LOCK_STATE ≠ 1 →
      Completes (.discard l) s fun t =>
        Answered t l Result.ok ∧
        t.cfg = { s.cfg with staged := [], stagedBy := [], image := [] } ∧
        SameButAnswer l [Reg.PEEK_SEQ] s { t with cfg := s.cfg }) ∧
    (∀ (l : Link) (d : Bytes) (s : State),
      Serves s l false →
      s.get Reg.COMMIT_STATE = 0 →
      s.get Reg.LOCK_STATE ≠ 1 →
      s.cfg.image.length + d.length ≤ 524288 →
      Completes (.configImageAppend l d) s fun t =>
        Answered t l Result.ok ∧
        t.cfg = { s.cfg with image := s.cfg.image ++ d } ∧
        SameButAnswer l [] s { t with cfg := s.cfg })

/-- A quad that retunes shows LOCKED on its channel when its synthesiser locks, HOP_LOCK_MAX keeps the longest time, and Reed's weights are loaded from the channel's seeds; a chain whose offset calibration failed inside the lock time has bit 4 of CHAIN_FAULT; a lock lost without Drone retunes on the same channel with the frequency shown as 0 and the phases without value, a request of the quad alone for the tone bus is withdrawn, and the TEST carrier waits for the quad again; a held carrier request that outlasts its bound fails with event 18. -/
def Obligations.SynthesiserLockAndUnlock : Prop :=
    (∀ (q : Fin 4) (lockUs : BitVec 32) (s : State),
      s.get (Reg.QUAD_STATE q) = 2 →
      (s.quad q).want ≠ 0 →
      (s.quad q).calibrating = false →
      s.sys.refLost = false →
      s.testC = none →
      s.val.running = [] →
      Completes (.synthLock q ⟨lockUs, 0⟩) s fun t =>
        t.get (Reg.QUAD_STATE q) = 3 ∧
        t.get (Reg.SYNTH_FREQ_KHZ q) = (s.quad q).want ∧
        t.get (Reg.HOP_LOCK_MAX q) = max (s.get (Reg.HOP_LOCK_MAX q)) lockUs.toNat ∧
        (∀ c ∈ chainsOf q, ∀ e, s.seed c (s.quad q).want = some e → t.get (Reg.REED_WEIGHT_I c) = ofInt 16 e.wi ∧ t.get (Reg.REED_WEIGHT_Q c) = ofInt 16 e.wq) ∧
        SameBut ([Reg.QUAD_STATE q, Reg.SYNTH_FREQ_KHZ q, Reg.HOP_LOCK_MAX q, Reg.QSTATE_SEQ q] ++ (chainsOf q).flatMap fun c => [Reg.DC_OFFSET_I c, Reg.DC_OFFSET_Q c, Reg.RX_SEQ c, Reg.REED_WEIGHT_I c, Reg.REED_WEIGHT_Q c, Reg.REED_SEQ c, Reg.CHAIN_STATE c, Reg.CSTATE_SEQ c]) s { t with chains := s.chains, arr := s.arr, free := s.free }) ∧
    (∀ (q : Fin 4) (lockUs : BitVec 32) (failOffset : BitVec 4) (s : State),
      s.get (Reg.QUAD_STATE q) = 2 →
      (s.quad q).want ≠ 0 →
      (s.quad q).calibrating = false →
      s.sys.refLost = false →
      s.testC = none →
      s.val.running = [] →
      Completes (.synthLock q ⟨lockUs, failOffset⟩) s fun t =>
        t.get (Reg.SYNTH_FREQ_KHZ q) = (s.quad q).want ∧
        t.get (Reg.HOP_LOCK_MAX q) = max (s.get (Reg.HOP_LOCK_MAX q)) lockUs.toNat ∧
        (∀ k : Fin 4, bit failOffset.toNat k = true → bit (t.get (Reg.CHAIN_FAULT (4 * q.val + k.val))) 4 = true)) ∧
    (∀ (q : Fin 4) (s : State),
      (s.get (Reg.QUAD_STATE q) = 3 ∨ s.get (Reg.QUAD_STATE q) = 4) →
      s.quadDrone q = false →
      Completes (.synthUnlock q) s fun t =>
        t.get (Reg.QUAD_STATE q) = 2 ∧
        t.get (Reg.SYNTH_FREQ_KHZ q) = 0 ∧
        (∀ c ∈ chainsOf q, t.get (Reg.RX_PHASE c) = 0x8000 ∧ t.get (Reg.TX_PHASE c) = 0x8000)) ∧
    (∀ (q : Fin 4) (s : State),
      (s.get (Reg.QUAD_STATE q) = 3 ∨ s.get (Reg.QUAD_STATE q) = 4) →
      s.quadDrone q = false →
      s.testC = none →
      s.val.running = [] →
      Completes (.synthUnlock q) s fun t =>
        (∀ p ∈ t.arr.bus, p.1 ≠ q.val) ∧
        SameBut ([Reg.RXPH_SEQ, Reg.TXPH_SEQ, Reg.QUAD_STATE q, Reg.SYNTH_FREQ_KHZ q, Reg.QSTATE_SEQ q] ++ (chainsOf q).flatMap fun c => [Reg.RX_PHASE c, Reg.TX_PHASE c]) s { t with chains := s.chains, arr := s.arr }) ∧
    (∀ (q : Fin 4) (x : TestC) (s : State),
      (s.get (Reg.QUAD_STATE q) = 3 ∨ s.get (Reg.QUAD_STATE q) = 4) →
      s.quadDrone q = false →
      s.testC = some x →
      x.quads.testBit q = true →
      Completes (.synthUnlock q) s fun t =>
        t.testC = some { x with unlocked := setBit x.unlocked q, toned := false }) ∧
    (∀ (q : Fin 4) (s : State),
      (s.quad q).held ≠ none →
      s.testC = none →
      s.val.running = [] →
      s.get (Reg.QUAD_STATE q) ≠ 2 →
      Completes (.synthHoldTimeout q) s fun t =>
        t.latched 18 = true ∧
        (t.quad q).held = none)

/-- A chain whose Drone has risen carries it; one whose Drone has fallen rests idle, or out of service under a fault; a PA fault sets its bit of CHAIN_FAULT and latches event 25; a recovered PA rail clears bit 5 on its quad's chains and returns a quad that was out for it, to be offered at the next plan boundary. -/
def Obligations.DroneRampsAndPaFaults : Prop :=
    (∀ (c : Fin 16) (s : State),
      s.get (Reg.CHAIN_STATE c) = 1 →
      s.testC = none →
      Completes (.droneRampDone c) s fun t =>
        t.get (Reg.CHAIN_STATE c) = 2 ∧
        SameBut [Reg.CHAIN_STATE c, Reg.CSTATE_SEQ c] s t) ∧
    (∀ (c : Fin 16) (s : State),
      s.get (Reg.CHAIN_STATE c) = 3 →
      Completes (.droneRampDone c) s fun t =>
        t.get (Reg.CHAIN_STATE c) = s.restState c ∧
        t.get (Reg.TX_POWER_NOW c) = 0x8000 ∧
        t.get (Reg.RETURN_LOSS c) = 0x8000) ∧
    (∀ (c : Fin 16) (temp : Bool) (s : State),
      c.val < 4 * Variant.quads s.variant →
      s.hasDrone c = true →
      Completes (.paFault c temp) s fun t =>
        bit (t.get (Reg.CHAIN_FAULT c)) (if temp then 1 else 0) = true ∧
        t.latched 25 = true) ∧
    (∀ (q : Fin 4) (s : State),
      s.get (Reg.QUAD_STATE q) = 5 →
      s.get (Reg.QUAD_OUT_CAUSE q) = 4 →
      (s.hub q).width = 0 →
      Completes (.paRailRecovered q) s fun t =>
        t.get (Reg.QUAD_STATE q) = 0 ∧
        t.get (Reg.QUAD_OUT_CAUSE q) = 0 ∧
        (t.quad q).offered = true ∧
        (t.quad q).railBad = false ∧
        (∀ c ∈ chainsOf q, bit (t.get (Reg.CHAIN_FAULT c)) 5 = false))

/-- When the chains that contribute converge in a toned gang, its first command may go, and a chain carrying Drone takes the converged weights within 10 bits; a weight at full scale is a REED_LIMIT instead; a chain that does not converge in time, or that reaches REED_LIMIT, is excluded from receive, the latter with bit 3 of CHAIN_FAULT, its count and event 26; a tracking tick renews the residual and the forward phase and moves each weight by at most one step within -512 to 511, and not at all while a reply window is open. -/
def Obligations.ReedFollowsItsWeights : Prop :=
    (∀ (beam : Fin 4) (weights : List ReedRes) (r : Running) (s : State),
      s.running beam = some r →
      r.toned = true →
      (∀ c ∈ s.rxChains r.d, ∃ w ∈ weights, w.chain.val = c ∧ s.get (Reg.CHAIN_STATE c) = 2) →
      (∀ w ∈ weights, -512 < w.wi ∧ w.wi < 511 ∧ -512 < w.wq ∧ w.wq < 511) →
      Completes (.reedConverged beam weights) s fun t =>
        t.running beam = some { r with ready := true }) ∧
    (∀ (beam : Fin 4) (w : ReedRes) (r : Running) (s : State),
      s.running beam = some r →
      w.chain.val ∈ s.rxChains r.d →
      s.get (Reg.CHAIN_STATE w.chain) = 2 →
      Completes (.reedConverged beam [w]) s fun t =>
        t.get (Reg.REED_WEIGHT_I w.chain) = ofInt 16 (max (-512) (min 511 w.wi)) ∧
        t.get (Reg.REED_WEIGHT_Q w.chain) = ofInt 16 (max (-512) (min 511 w.wq)) ∧
        180 ≤ t.get (Reg.REED_DEPTH_ANALOG w.chain) ∧
        (if w.wi ≤ -512 ∨ 511 ≤ w.wi ∨ w.wq ≤ -512 ∨ 511 ≤ w.wq then
          bit (t.get (Reg.CHAIN_FAULT w.chain)) 3 = true ∧ (t.chain w.chain).excluded = true ∧ t.latched 26 = true
        else bit (t.get (Reg.CHAIN_FAULT w.chain)) 3 = false ∧ (t.chain w.chain).conv = true)) ∧
    (∀ (c : Fin 16) (l : Nat) (r : Running) (s : State),
      s.leaderOf (c.val / 4) = some l →
      s.running l = some r →
      r.ready = false →
      s.hasDrone c = true →
      (s.chain c).excluded = false →
      (s.chain c).conv = false →
      Completes (.reedConvergeTimeout c) s fun t =>
        (t.chain c).excluded = true ∧
        t.get (Reg.RX_GAIN_STATE c) = 2 ∧
        t.mode = s.mode) ∧
    (∀ (c : Fin 16) (di dq residual theta : Int) (s : State),
      s.get (Reg.CHAIN_STATE c) = 2 →
      (s.chain c).excluded = true →
      Completes (.reedTrackTick c di dq ⟨residual, theta⟩) s fun t =>
        t.get (Reg.REED_WEIGHT_I c) = ofInt 16 (if (s.leaderOf (c.val / 4)).any s.inWindow then s.i16 (Reg.REED_WEIGHT_I c) else max (-512) (min 511 (s.i16 (Reg.REED_WEIGHT_I c) + max (-1) (min 1 di)))) ∧
        t.get (Reg.REED_WEIGHT_Q c) = ofInt 16 (if (s.leaderOf (c.val / 4)).any s.inWindow then s.i16 (Reg.REED_WEIGHT_Q c) else max (-512) (min 511 (s.i16 (Reg.REED_WEIGHT_Q c) + max (-1) (min 1 dq)))) ∧
        t.get (Reg.REED_RESIDUAL c) = ofInt 16 residual ∧
        (t.chain c).fwd = theta ∧
        SameBut [Reg.REED_WEIGHT_I c, Reg.REED_WEIGHT_Q c, Reg.REED_SEQ c, Reg.REED_RESIDUAL c, Reg.CSTATE_SEQ c, Reg.RX_PHASE c, Reg.RXPH_SEQ, Reg.TX_PHASE c, Reg.TXPH_SEQ] s { t with chains := s.chains }) ∧
    (∀ (c : Fin 16) (s : State),
      s.hasDrone c = true →
      Completes (.reedLimit c) s fun t =>
        (t.chain c).excluded = true ∧
        bit (t.get (Reg.CHAIN_FAULT c)) 3 = true ∧
        t.get (Reg.REED_LIMIT_COUNT c) = (s.get (Reg.REED_LIMIT_COUNT c) + 1) % 2 ^ 32 ∧
        t.latched 26 = true ∧
        t.mode = s.mode)

/-- A blocker on a chain of a running gang is counted once in a dwell with event 27; a return loss at or above both of the chain's limits is only shown; a probe that succeeds clears the chain's cut. A full calibration that passes at quad level ends with the quad no longer calibrating or marked failed; the first failure at quad level is repeated, its failing calibrations shown; the retry timer waits in HOLD and starts a calibration in READY; CAL_REQUEST outside a dwell starts one and answers OK. A reseed asked for with no sweep in progress starts the chain's own sweep over the committed channels, with Drone at −10 dBm on the first that the interlock passes, and one asked for during another sweep waits behind it; CHAIN_FAULT_CLEAR clears the chain's faults and cut run, puts a chain that was out to idle and offers it to Valve, a PA rail fault that persists being raised again; a sweep of every chain ends with its last channel, and READY needs no further one. -/
def Obligations.ReceiversCalibrationsAndSweeps : Prop :=
    (∀ (c : Fin 16) (s : State),
      s.leaderOf (c.val / 4) ≠ none →
      (s.chain c).blocked = false →
      Completes (.blocker c) s fun t =>
        (t.chain c).blocked = true ∧
        t.get (Reg.BLOCKER_COUNT c) = (s.get (Reg.BLOCKER_COUNT c) + 1) % 2 ^ 32 ∧
        t.latched 27 = true ∧
        ((s.chain c).excluded = false → s.get (Reg.RX_GAIN_POLICY c) = 0 →
          if (s.leaderOf (c.val / 4)).any s.inWindow then (t.chain c).gainDue = some 1 else t.get (Reg.RX_GAIN_STATE c) = 1)) ∧
    (∀ (c : Fin 16) (rl fwd : Int) (s : State),
      s.get (Reg.CHAIN_STATE c) = 2 →
      s.i16 (Reg.MISMATCH_WARN_RL c) ≤ rl →
      s.i16 (Reg.MISMATCH_CUT_RL c) ≤ rl →
      Completes (.returnLossUpdate c rl fwd) s fun t =>
        t.get (Reg.RETURN_LOSS c) = ofInt 16 rl ∧
        t.get (Reg.FWD_POWER c) = ofInt 16 fwd ∧
        SameBut [Reg.RETURN_LOSS c, Reg.FWD_POWER c, Reg.CSTATE_SEQ c] s t) ∧
    (∀ (c : Fin 16) (k : Nat) (s : State),
      (s.chain c).probing = some k →
      Completes (.probeSuccess c) s fun t =>
        (t.chain c).probing = none ∧
        (t.chain c).cut = none ∧
        (∀ y ∈ (t.chain c).probes, y ≠ k)) ∧
    (∀ (q : Fin 4) (res : CalRes) (s : State),
      (s.quad q).calibrating = true →
      res.failOsc = false →
      res.failFilter = false →
      s.testC = none →
      s.val.running = [] →
      s.mode = Mode.ready →
      Completes (.fullCalDone q res) s fun t =>
        (t.quad q).calibrating = false ∧
        (t.quad q).calFailed = false ∧
        t.mode = s.mode) ∧
    (∀ (q : Fin 4) (res : CalRes) (s : State),
      (s.quad q).calibrating = true →
      (s.quad q).calRepeat = false →
      res.failOsc = true →
      Completes (.fullCalDone q res) s fun t =>
        (t.quad q).calRepeat = true ∧
        t.get (Reg.CAL_LAST_SET q) = 0x1F ∧
        t.get (Reg.CAL_LAST_FAILED q) = CalRes.failed res ∧
        t.get (Reg.CAL_LAST_RESULT q) = Result.code Result.fault ∧
        SameBut [Reg.CAL_LAST_SET q, Reg.CAL_LAST_FAILED q, Reg.CAL_LAST_RESULT q, Reg.CAL_LAST_DURATION q, Reg.QCAL_SEQ q] s { t with quads := s.quads }) ∧
    (∀ (q : Fin 4) (s : State),
      s.get (Reg.QUAD_STATE q) = 5 →
      s.get (Reg.QUAD_OUT_CAUSE q) = 2 →
      (s.quad q).calibrating = false →
      s.mode = Mode.hold →
      Completes (.calRetryTimer q) s fun t =>
        (t.quad q).calDue = true ∧
        { t with quads := s.quads } = s) ∧
    (∀ (q : Fin 4) (s : State),
      s.get (Reg.QUAD_STATE q) = 5 →
      s.get (Reg.QUAD_OUT_CAUSE q) = 2 →
      (s.quad q).calibrating = false →
      s.mode = Mode.ready →
      (s.hub q).width ≠ 0 →
      s.sys.refLost = false →
      Completes (.calRetryTimer q) s fun t =>
        (t.quad q).calibrating = true ∧
        (t.quad q).calRepeat = true) ∧
    (∀ (l : Link) (q : Fin 4) (s : State),
      Serves s l false →
      q.val < Variant.quads s.variant →
      s.mode = Mode.ready →
      (s.hub q).width ≠ 0 →
      Completes (.calRequest l q) s fun t =>
        Answered t l Result.ok ∧
        (t.quad q).calibrating = true) ∧
    (∀ (l : Link) (c : Fin 16) (w : Sweep) (s : State),
      Serves s l false →
      s.mode = Mode.ready →
      c.val < 4 * Variant.quads s.variant →
      s.sweep = some w →
      w.only ≠ some c.val →
      c.val ∉ w.queue →
      Completes (.reedReseed l c) s fun t =>
        Answered t l Result.ok ∧
        t.sweep = some { w with queue := w.queue ++ [c.val] } ∧
        SameButAnswer l [] s { t with sweep := s.sweep }) ∧
    (∀ (l : Link) (c : Fin 16) (k : Nat) (rest : List Nat) (s : State),
      Serves s l false →
      (s.mode = Mode.ready ∨ s.mode = Mode.test) →
      c.val < 4 * Variant.quads s.variant →
      s.sweep = none →
      (s.channels.map fun p => p.2.khz) = k :: rest →
      s.sweepable c = true →
      s.sweepPasses k (some c.val) = true →
      Completes (.reedReseed l c) s fun t =>
        Answered t l Result.ok ∧
        t.sweep = some ⟨k :: rest, some c.val, false, s.tim.now, 0, []⟩ ∧
        t.get (Reg.CHAIN_STATE c) = 2 ∧
        t.get (Reg.SYNTH_FREQ_KHZ (c.val / 4)) = k ∧
        t.get (Reg.TX_POWER_NOW c) = ofInt 16 (-40)) ∧
    (∀ (l : Link) (c : Fin 16) (s : State),
      Serves s l false →
      c.val < 4 * Variant.quads s.variant →
      (s.quad (c.val / 4)).railBad = false →
      Completes (.chainFaultClear l c) s fun t =>
        Answered t l Result.ok ∧
        t.get (Reg.CHAIN_FAULT c) = 0 ∧
        t.get (Reg.CHAIN_STATE c) = (if s.get (Reg.CHAIN_STATE c) = 5 then 0 else s.get (Reg.CHAIN_STATE c)) ∧
        t.get (Reg.CUT_RUN c) = 0 ∧
        (t.chain c).offered = true ∧
        SameButAnswer l [Reg.CHAIN_FAULT c, Reg.CHAIN_STATE c, Reg.CSTATE_SEQ c, Reg.CUT_RUN c, Reg.PORT_SEQ c] s { t with chains := s.chains }) ∧
    (∀ (l : Link) (c : Fin 16) (s : State),
      Serves s l false →
      c.val < 4 * Variant.quads s.variant →
      (s.quad (c.val / 4)).railBad = true →
      Completes (.chainFaultClear l c) s fun t =>
        Answered t l Result.ok ∧
        t.get (Reg.CHAIN_FAULT c) = 32 ∧
        t.get (Reg.CHAIN_STATE c) = 5 ∧
        t.latched 11 = true) ∧
    (∀ (results : List SweepRes) (iso : List IsoMeas) (w : Sweep) (k : Nat) (s : State),
      s.sweep = some w →
      w.left = [k] →
      w.only = none →
      w.queue = [] →
      Completes (.sweepChannelDone results iso) s fun t =>
        t.sys.sweepDone = true ∧
        t.sweep = none)

/-- In RUN the next descriptor of a leader that has none released, passed by the interlock, waits to start and leaves the plan; a hop that Valve may ask for (under HOP = 1 the next of the leader's permutation), passed during a round, is noted for the round's end and makes it end; no object changes. -/
def Obligations.DescriptorsAndHops : Prop :=
    (∀ (l : Fin 4) (d : Dwell) (s : State),
      s.mode = Mode.run →
      Tab.find s.val.released l = none →
      (s.val.plan.find? fun x => x.leader = l.val) = some d →
      (d.khz = 0 ∨ s.interlock d.khz (s.dwellLevels d) = true) →
      Completes (.descriptorRelease l none) s fun t =>
        Tab.find t.val.released l = some d ∧
        (∀ x, x ∈ t.val.plan ↔ x ∈ s.val.plan ∧ x ≠ d) ∧
        t.regs = s.regs) ∧
    (∀ (l : Fin 4) (k : BitVec 32) (r : Running) (rd : Round) (s : State),
      s.mode = Mode.run →
      s.running l = some r →
      s.round l = some rd →
      s.hopMay l k.toNat = true →
      s.interlock k.toNat (s.dwellLevels { r.d with khz := k.toNat }) = true →
      Completes (.descriptorRelease l (some k)) s fun t =>
        t.running l = some { r with hop := some k.toNat } ∧
        (∃ x, t.round l = some x ∧ x.due = some (match rd.due with | some c => min c 2 | none => 2)) ∧
        t.regs = s.regs)

/-- Once the channel's counter has reached its rule's limit, a withdrawal marks the channel under that rule and counts; once the counters let it, a return takes the mark away and changes no object. -/
def Obligations.PermitsComeAndGo : Prop :=
    (∀ (e : Fin 64) (ch : ChanEntry) (s : State),
      s.region.entries[e.val]? = some ch →
      s.mode ≠ Mode.run →
      s.testC = none →
      s.sweep = none →
      s.val.running = [] →
      s.region.windowMs ≠ 0 →
      s.region.dwellMaxUs ≤ s.windowSum e →
      (s.permit e).noDwell = false →
      Completes (.permitWithdraw e true) s fun t =>
        (t.permit e).noDwell = true ∧
        t.latched 28 = true ∧
        t.get Reg.DWELL_LIMIT_COUNT = (s.get Reg.DWELL_LIMIT_COUNT + 1) % 2 ^ 32) ∧
    (∀ (e : Fin 64) (ch : ChanEntry) (s : State),
      s.region.entries[e.val]? = some ch →
      s.mode ≠ Mode.run →
      s.testC = none →
      s.sweep = none →
      s.val.running = [] →
      s.region.contOnMs ≠ 0 →
      s.region.contOnMs * 1000 ≤ (s.permit e).run →
      (s.permit e).noCont = false →
      Completes (.permitWithdraw e false) s fun t =>
        (t.permit e).noCont = true ∧
        t.latched 29 = true ∧
        t.get Reg.DUTY_LIMIT_COUNT = (s.get Reg.DUTY_LIMIT_COUNT + 1) % 2 ^ 32) ∧
    (∀ (e : Fin 64) (dwell : Bool) (ch : ChanEntry) (s : State),
      s.region.entries[e.val]? = some ch →
      (if dwell then 10 * s.windowSum e ≤ 9 * s.region.dwellMaxUs else s.region.offMinMs * 1000 ≤ (s.permit e).off) →
      Completes (.permitReturn e dwell) s fun t =>
        (if dwell then (t.permit e).noDwell else (t.permit e).noCont) = false ∧
        t.regs = s.regs ∧
        t.mode = s.mode)

/-- The lock is armed with 0x4C in HOLD or READY under a chosen region, with nothing staged or being stored; fired with the right CONFIG_CRC it is held as executing and not yet answered, with a wrong one it answers CHECK and disarms; when the write has read back right the lock is set for good, LOCKED_CRC is kept and the held request is answered OK; an armed lock that waits too long disarms. VIEW_INDEX takes an existing region. -/
def Obligations.RegulatoryLockSequence : Prop :=
    (∀ (l : Link) (s : State),
      Serves s l false →
      s.get Reg.LOCK_STATE ≠ 2 →
      (s.mode = Mode.hold ∨ s.mode = Mode.ready) →
      s.sys.firing = none →
      s.get Reg.REGION_ID ≠ 0 →
      s.cfg.staged = [] →
      s.get Reg.PERSIST_STATE = 0 →
      Completes (.regLockArm l 0x4C#8) s fun t =>
        Answered t l Result.ok ∧
        t.get Reg.LOCK_STATE = 1 ∧
        SameButAnswer l [Reg.LOCK_STATE, Reg.REGSTATE_SEQ] s t) ∧
    (∀ (l : Link) (v : BitVec 32) (s : State),
      Serves s l false →
      s.get Reg.LOCK_STATE = 1 →
      s.sys.firing = none →
      v.toNat = s.get Reg.CONFIG_CRC →
      Completes (.regLockFire l v) s fun t =>
        t.sys.firing = some l ∧
        t.regs = s.regs ∧
        { t with sys := s.sys } = s) ∧
    (∀ (l : Link) (v : BitVec 32) (s : State),
      Serves s l false →
      s.get Reg.LOCK_STATE = 1 →
      s.sys.firing = none →
      v.toNat ≠ s.get Reg.CONFIG_CRC →
      Completes (.regLockFire l v) s fun t =>
        Answered t l Result.check ∧
        t.get Reg.LOCK_STATE = 0 ∧
        SameButAnswer l [Reg.LOCK_STATE, Reg.REGSTATE_SEQ] s t) ∧
    (∀ (l : Link) (s : State),
      s.sys.firing = some l →
      Completes (.lockFireDone true) s fun t =>
        t.get Reg.LOCK_STATE = 2 ∧
        t.get Reg.LOCKED_CRC = s.lockedCrc ∧
        t.sys.firing = none ∧
        t.get (Link.lastResult l) = 0) ∧
    (∀ (s : State),
      s.get Reg.LOCK_STATE = 1 →
      s.sys.firing = none →
      Completes (.lockArmTimeout) s fun t =>
        t.get Reg.LOCK_STATE = 0 ∧
        SameBut [Reg.LOCK_STATE, Reg.REGSTATE_SEQ] s t) ∧
    (∀ (l : Link) (v : BitVec 8) (s : State),
      Serves s l false →
      (Region.ofId v.toNat).isSome = true →
      Completes (.viewIndexWrite l v) s fun t =>
        Answered t l Result.ok ∧
        t.get Reg.VIEW_INDEX = v.toNat ∧
        SameButAnswer l [Reg.VIEW_INDEX, Reg.VIEW_SEQ] s t)

/-- In RUN with no survey running, SURVEY_START takes the tag and the direction and shows state 1 with no reads; SURVEY_ABORT and the timeout end a running survey in state 4, with MODE and NOT_READY as its result. A lane that passes has no failure counted; a first failure is counted and changes no object; a second in a row retires the lane with event 47. A measured read of a tracked zone in RUN waits to be located with its chains' measurements, each phase less the chain's entry of the phase table, power and flags, and is shown as the last read where the filter lets it. -/
def Obligations.SurveyCommands : Prop :=
    (∀ (l : Link) (s : State),
      Serves s l false →
      s.mode = Mode.run →
      s.arr.survey = none →
      Completes (.surveyStart l) s fun t =>
        Answered t l Result.ok ∧
        t.arr.survey = some ⟨s.get Reg.SURVEY_EPC_TAIL, s.i16 Reg.SURVEY_AZ, s.i16 Reg.SURVEY_EL, []⟩ ∧
        t.get Reg.SURVEY_STATE = 1 ∧
        t.get Reg.SURVEY_READS = 0 ∧
        SameButAnswer l [Reg.SURVEY_STATE, Reg.SURVEY_RESULT, Reg.SURVEY_READS, Reg.SURV_SEQ] s { t with arr := s.arr }) ∧
    (∀ (l : Link) (s : State),
      Serves s l false →
      s.arr.survey ≠ none →
      Completes (.surveyAbort l) s fun t =>
        Answered t l Result.ok ∧
        t.arr.survey = none ∧
        t.get Reg.SURVEY_STATE = 4 ∧
        t.get Reg.SURVEY_RESULT = Result.code Result.mode) ∧
    (∀ (s : State),
      s.arr.survey ≠ none →
      Completes (.surveyTimeout) s fun t =>
        t.arr.survey = none ∧
        t.get Reg.SURVEY_STATE = 4 ∧
        t.get Reg.SURVEY_RESULT = Result.code Result.notReady ∧
        SameBut [Reg.SURVEY_STATE, Reg.SURVEY_RESULT, Reg.SURV_SEQ] s { t with arr := s.arr }) ∧
    (∀ (lane : Fin 32) (s : State),
      bit (s.get Reg.LANES_RETIRED) lane = false →
      Completes (.laneSelftest lane true) s fun t =>
        Tab.get t.arr.laneFails lane = 0 ∧
        t.regs = s.regs ∧
        { t with arr := s.arr } = s) ∧
    (∀ (lane : Fin 32) (s : State),
      bit (s.get Reg.LANES_RETIRED) lane = false →
      Tab.get s.arr.laneFails lane = 0 →
      Completes (.laneSelftest lane false) s fun t =>
        Tab.get t.arr.laneFails lane = 1 ∧
        t.regs = s.regs ∧
        { t with arr := s.arr } = s) ∧
    (∀ (lane : Fin 32) (s : State),
      bit (s.get Reg.LANES_RETIRED) lane = false →
      1 ≤ Tab.get s.arr.laneFails lane →
      Completes (.laneSelftest lane false) s fun t =>
        t.latched 47 = true ∧
        bit (t.get Reg.LANES_RETIRED) lane = true) ∧
    (∀ (beam : Fin 4) (meas : List RawMeas) (r0 : Read) (s : State),
      Tab.find s.eng.heard beam = some r0 →
      s.arr.survey = none →
      s.mode = Mode.run →
      s.get Reg.LOC_ENABLE = 1 →
      (s.get Reg.TRACK_ZONE_MASK).testBit r0.zone = true →
      Completes (.readMeasured beam meas) s fun t =>
        Tab.find t.eng.heard beam = none ∧
        (∃ r, t.rep.reads = s.rep.reads ++ [r] ∧ r.power = readPower r.meas ∧ r.epc = r0.epc ∧ r.tag = r0.tag ∧ (∀ m ∈ r.meas, ∃ x ∈ meas, m.chain = x.chain ∧ m.power = x.power ∧ m.snr = x.snr ∧ (s.get (Reg.RX_PHASE x.chain) ≠ 0x8000 → m.phase.val = (roundDiv ((x.theta - s.i16 (Reg.RX_PHASE x.chain)) * 4096) 36000 % 4096).toNat)) ∧ ((s.get Reg.LAST_READ_FILTER = 0xFF ∨ s.get Reg.LAST_READ_FILTER = beam.val) → t.dom Reg.LAST_READ_BLOCK = r.block)))

/-- Where a dwell may start a round it starts on its zone and profile, with the zone's Qfp, and the round's objects show it; once its power-up hold ends it sends the first of its Selects and Challenge, or, where there is none, its Query, which opens its first slot; at a slot boundary with an end cause due it ends: no round is left, event 32 is latched and the last-round objects hold the cause and the slots. -/
def Obligations.RoundsStartAndEnd : Prop :=
    (∀ (beam : Fin 4) (r : Running) (s : State),
      s.running beam = some r →
      s.roundMay beam r = true →
      Completes (.roundStart beam) s fun t =>
        t.round beam = some (s.newRound r) ∧
        t.running beam = some { r with begun := true } ∧
        t.get (Reg.ROUND_ZONE beam) = r.d.zone ∧
        t.get (Reg.ROUND_PROFILE beam) = r.d.prof ∧
        t.get (Reg.Q_NOW beam) = (s.newRound r).q) ∧
    (∀ (beam : Fin 4) (n : Round) (s : State),
      s.round beam = some n →
      n.stage = RoundStage.powerUp →
      n.opening = [] →
      Completes (.powerUpHoldEnd beam) s fun t =>
        t.round beam = some { n with stage := RoundStage.slot, queried := true, left := 0, sent := n.sent ++ [s.queryCmd n], began := s.tim.now } ∧
        t.get (Reg.ROUND_STATE beam) = 2) ∧
    (∀ (beam : Fin 4) (n : Round) (c : ReaderCmd) (rest : List ReaderCmd) (s : State),
      s.round beam = some n →
      n.stage = RoundStage.powerUp →
      n.opening = c :: rest →
      Completes (.powerUpHoldEnd beam) s fun t =>
        t.round beam = some { n with stage := RoundStage.selecting, left := s.cmdCycles n.prof c + s.gapCycles n.prof c, sent := n.sent ++ [c], began := s.tim.now } ∧
        t.get (Reg.ROUND_STATE beam) = 1) ∧
    (∀ (beam : Fin 4) (n : Round) (s : State),
      s.round beam = some n →
      n.stage = RoundStage.ending →
      s.running beam = none →
      Completes (.roundEnd beam) s fun t =>
        t.round beam = none ∧
        t.latched 32 = true ∧
        t.get (Reg.LR_END_CAUSE beam) = n.due.getD 0 ∧
        t.get (Reg.LR_SLOTS beam) = n.slots ∧
        t.get (Reg.ROUND_ZONE beam) = 0xFF ∧
        t.get (Reg.ROUND_NUMBER beam) = (s.get (Reg.ROUND_NUMBER beam) + 1) % 2 ^ 32)

/-- An empty slot counts as a slot and as an empty one; a missing reply to ACK sends ACK again while retries are left; the turn-round opens the reply to ACK or the next slot; a PC+EPC reply that passes, its EPC as long as the PC word says, is kept on the round as SINGLE and waits for its measurement, one that fails is acknowledged again while retries are left. -/
def Obligations.SlotsAndAcknowledgement : Prop :=
    (∀ (beam : Fin 4) (n : Round) (s : State),
      s.round beam = some n →
      n.stage = RoundStage.slot →
      Completes (.slotEmptyTimeout beam) s fun t =>
        (∃ m, t.round beam = some m ∧ m.slots = n.slots + 1 ∧ m.empties = n.empties + 1 ∧ m.colls = n.colls ∧ m.singles = n.singles)) ∧
    (∀ (beam : Fin 4) (n : Round) (s : State),
      s.round beam = some n →
      n.stage = RoundStage.ack →
      n.acks ≤ s.get (Reg.EPC_RETRIES n.prof) →
      Completes (.slotEmptyTimeout beam) s fun t =>
        t.round beam = some { n with acks := n.acks + 1, sent := n.sent ++ [ReaderCmd.ack n.rn16] } ∧
        SameButReply [] s t) ∧
    (∀ (beam : Fin 4) (n : Round) (s : State),
      s.round beam = some n →
      n.stage = RoundStage.turnAck →
      Completes (.turnroundEnd beam) s fun t =>
        t.round beam = some { n with stage := RoundStage.ack, acks := n.acks + 1, sent := n.sent ++ [ReaderCmd.ack n.rn16] } ∧
        { t with eng := s.eng } = s) ∧
    (∀ (beam : Fin 4) (n : Round) (s : State),
      s.round beam = some n →
      n.stage = RoundStage.turnSlot →
      n.outcome = 1 →
      Completes (.turnroundEnd beam) s fun t =>
        (∃ m, t.round beam = some m ∧ m.slots = n.slots + 1 ∧ m.colls = n.colls + 1 ∧ m.empties = n.empties)) ∧
    (∀ (beam : Fin 4) (n : Round) (reply : EpcReply) (s : State),
      s.round beam = some n →
      n.stage = RoundStage.ack →
      reply.crcOk = true →
      reply.epc.length = 2 * (reply.pc.toNat / 2048) →
      reply.challenge = none →
      Completes (.epcReply beam reply) s fun t =>
        (∃ m, t.round beam = some m ∧ m.epc = reply.epc ∧ m.pc = reply.pc.toNat ∧ m.outcome = 2 ∧ (m.stage = RoundStage.turnSlot ∨ m.stage = RoundStage.turnOp)) ∧
        (∃ r, Tab.find t.eng.heard beam = some r ∧ r.epc = reply.epc ∧ r.time = n.replyAt ∧ r.zone = n.zone)) ∧
    (∀ (beam : Fin 4) (n : Round) (reply : EpcReply) (s : State),
      s.round beam = some n →
      n.stage = RoundStage.ack →
      (reply.crcOk = false ∨ reply.epc.length ≠ 2 * (reply.pc.toNat / 2048)) →
      n.acks ≤ s.get (Reg.EPC_RETRIES n.prof) →
      Completes (.epcReply beam reply) s fun t =>
        t.round beam = some { n with stage := RoundStage.turnAck })

/-- An access command whose delayed reply does not come is sent again while OP_RETRIES and the round let it; an operation that ends puts one entry with the next identifier in the result queue while it has room; OP_ARM on fitting fields arms the slot and OP_DISARM disarms it; RESULT_RELEASE of the oldest entry's identifier removes it. -/
def Obligations.AccessOperationsAndResults : Prop :=
    (∀ (beam : Fin 4) (n : Round) (k : Nat) (st : OpStep) (rest : List OpStep) (s : State),
      s.round beam = some n →
      n.opNow = some k →
      (n.steps.dropWhile fun x => !x.delayed) = st :: rest →
      (if n.steps = st :: rest then n.tries else 0) < s.get (Reg.OP_RETRIES k) →
      n.due = none →
      Completes (.accessReplyTimeout beam) s fun t =>
        t.round beam = some { n with steps := st :: rest, tries := (if n.steps = st :: rest then n.tries else 0) + 1, sent := n.sent ++ [st.cmd n.rn16 n.handle n.cover] } ∧
        SameButReply [] s t) ∧
    (∀ (beam : Fin 4) (replies : List TagReply) (rx : List (Fin 16)) (pre : List PreMeas) (n : Round) (k : Nat) (rest : List Nat) (s : State),
      s.round beam = some n →
      n.stage = RoundStage.access →
      n.ops = k :: rest →
      s.eng.results.length < 64 →
      Completes (.accessOpEnd beam replies rx pre) s fun t =>
        (∃ e, t.eng.results = s.eng.results ++ [e] ∧ e.id = s.eng.nextId) ∧
        t.eng.nextId = (s.eng.nextId + 1) % 2 ^ 32) ∧
    (∀ (l : Link) (slot : Fin 16) (s : State),
      Serves s l false →
      s.opFits slot = true →
      s.get Reg.COMMIT_STATE = 0 →
      s.get (Reg.OP_CODE slot) ≠ 0 →
      Completes (.opArm l slot) s fun t =>
        Answered t l Result.ok ∧
        bit t.eng.armed slot = true ∧
        SameButAnswer l [Reg.OP_STATE slot, Reg.OP_SEQ slot] s { t with eng := s.eng }) ∧
    (∀ (l : Link) (slot : Fin 16) (s : State),
      Serves s l false →
      Completes (.opDisarm l slot) s fun t =>
        Answered t l Result.ok ∧
        bit t.eng.armed slot = false ∧
        SameButAnswer l [Reg.OP_STATE slot, Reg.OP_SEQ slot] s { t with eng := s.eng }) ∧
    (∀ (l : Link) (id : BitVec 32) (e : ResEntry) (rest : List ResEntry) (s : State),
      Serves s l false →
      s.eng.results = e :: rest →
      e.id = id.toNat →
      Completes (.resultRelease l id) s fun t =>
        Answered t l Result.ok ∧
        t.eng.results = rest ∧
        t.get Reg.RESULT_COUNT = rest.length ∧
        SameButAnswer l [Reg.RESULT_COUNT, Reg.RESQ_SEQ] s { t with eng := s.eng, doms := s.doms })

/-- The one read waiting is located, reported and passed on to the tracker with what localisation gives; a read of a tag with an open track joins that track; a track whose gap has passed closes and leaves the others; the oldest interval that has ended is published, CLOSE_GAP_MS and 10 ms after its end, with its bounds, INTERVAL_NUMBER and event 38. -/
def Obligations.ReadsAreLocatedAndTracked : Prop :=
    (∀ (r : Read) (s : State),
      s.rep.reads = [r] →
      Completes (.locBatch) s fun t =>
        t.rep.reads = [] ∧
        t.rep.joins = s.rep.joins ++ [(r, s.locate r)]) ∧
    (∀ (r : Read) (x : Loc) (k : Track) (s : State),
      s.rep.joins = [(r, x)] →
      bit r.tag 31 = false →
      s.trk.tracks = [k] →
      k.tag = r.tag →
      Completes (.trackJoin) s fun t =>
        t.rep.joins = [] ∧
        t.trk.tracks = [k.take r x] ∧
        t.regs = s.regs) ∧
    (∀ (tag : BitVec 32) (k : Track) (s : State),
      k ∈ s.trk.tracks →
      k.tag = tag.toNat →
      Completes (.trackCloseGap tag) s fun t =>
        (∀ x, x ∈ t.trk.tracks ↔ x ∈ s.trk.tracks ∧ x.tag ≠ tag.toNat)) ∧
    (∀ (i : Ival) (rest : List Ival) (s : State),
      s.trk.ivals = i :: rest →
      i.stop + (s.get Reg.CLOSE_GAP_MS + 10) * 40000 ≤ s.tim.now →
      (rest.getLast?.any fun x => decide (s.tim.now < x.stop)) = true →
      Completes (.countIntervalPublish) s fun t =>
        t.trk.ivals = rest ∧
        t.get Reg.INTERVAL_START = i.start ∧
        t.get Reg.INTERVAL_END = i.stop ∧
        t.get Reg.INTERVAL_FLAGS = ofBool i.short ∧
        t.latched 38 = true)

/-- AZ_VALID is set exactly where at least ANGLE_MIN_CHAINS measured chains have the SNR and stand at two or more ELEMENT_X values, EL_VALID where they also stand at two or more ELEMENT_Y values; an axis that is not valid reads 0x8000; a position needs both and a road vector at most −0.0349 in Z; a lane needs a position, is enabled and holds it, and without one the lane is 0xFF. -/
def Obligations.LocationFlagsAreTrue : Prop :=
    (∀ (r : Read) (s : State),
      (bit (s.locate r).flags 0 = true ↔ s.get Reg.ANGLE_MIN_CHAINS ≤ (s.angleChains r).length ∧
        2 ≤ distinct ((s.angleChains r).map fun m => s.i16 (Reg.ELEMENT_X m.chain))) ∧
      (bit (s.locate r).flags 1 = true ↔ bit (s.locate r).flags 0 = true ∧
        2 ≤ distinct ((s.angleChains r).map fun m => s.i16 (Reg.ELEMENT_Y m.chain))) ∧
      (bit (s.locate r).flags 0 = false → (s.locate r).az = 0x8000) ∧
      (bit (s.locate r).flags 1 = false → (s.locate r).el = 0x8000)) ∧
    (∀ (r : Read) (s : State), bit (s.locate r).flags 4 = true →
      bit (s.locate r).flags 1 = true ∧
      ∃ az el, (s.locate r).az = ofInt 16 az ∧ (s.locate r).el = ofInt 16 el ∧
        (s.roadVector az el).2.2 * 10000 ≤ -(349 * 10 ^ 18)) ∧
    (∀ (r : Read) (s : State), bit (s.locate r).flags 5 = true →
      bit (s.locate r).flags 4 = true ∧ (s.locate r).lane < 16 ∧ s.get (Reg.LANE_ENABLE (s.locate r).lane) = 1 ∧
      ∀ e ∈ edges (s.lane (s.locate r).lane), 0 ≤ turn e.1 e.2 ((s.locate r).x, (s.locate r).y)) ∧
    (∀ (r : Read) (s : State), bit (s.locate r).flags 5 = false → (s.locate r).lane = 0xFF)

/-- In RUN a plan boundary, and a measured power over 105% of the budget, put a new plan in force at once; outside RUN a boundary builds no plan and brings back into service what was offered, a quad that the host no longer holds out among it; a released dwell starts on a quad that must retune, its lock awaited; a dwell without a round ends at its planned length, one with a round runs on. -/
def Obligations.PlansAndDwells : Prop :=
    (∀ (mw : BitVec 16) (s : State),
      s.mode = Mode.run →
      Completes (.planBoundary mw) s fun t =>
        t.get Reg.PLAN_TIME = s.tim.now ∧
        t.mode = Mode.run ∧
        922 ≤ t.get Reg.MEAS_CORR ∧
        t.get Reg.MEAS_CORR ≤ 1331) ∧
    (∀ (mw : BitVec 16) (s : State),
      s.mode ≠ Mode.run →
      Completes (.planBoundary mw) s fun t =>
        t.mode = s.mode ∧
        t.val = s.val ∧
        (∀ q ∈ s.quadList, (t.quad q).offered = false ∧
          (bit (s.get Reg.PIN_QUAD_OUT) q = false → t.get (Reg.QUAD_STATE q) = 5 → t.get (Reg.QUAD_OUT_CAUSE q) ≠ 5))) ∧
    (∀ (mw : BitVec 16) (s : State),
      s.mode = Mode.run →
      105 * s.get Reg.BUDGET_MW < 100 * mw.toNat →
      Completes (.powerMeasure mw) s fun t =>
        t.get Reg.PLAN_TIME = s.tim.now ∧
        s.get Reg.MEAS_CORR ≤ t.get Reg.MEAS_CORR) ∧
    (∀ (l : Fin 4) (d : Dwell) (s : State),
      Tab.find s.val.released l = some d →
      s.mode = Mode.run →
      s.sys.trans = none →
      s.sweep = none →
      d.leader = l.val →
      d.gang = 2 ^ l.val →
      (∀ p ∈ s.val.running, s.coexist d p.2.d = true) →
      (s.quad l).offered = false →
      d.khz ≠ 0 →
      d.zone < 32 →
      s.leaderOf l = none →
      s.quadIn l = true →
      (s.quad l).calDue = false →
      (s.quad l).calibrating = false →
      s.get (Reg.SYNTH_FREQ_KHZ l) ≠ d.khz →
      Completes (.dwellStart l) s fun t =>
        (∃ r, t.running l = some r ∧ r.d = d ∧ r.at_ = s.tim.now ∧ r.unlocked = 2 ^ l.val ∧ r.toned = false ∧ r.past = false) ∧
        Tab.find t.val.released l = none ∧
        (t.quad l).want = d.khz ∧
        t.get (Reg.ZS_LEADER d.zone) = l.val) ∧
    (∀ (l : Fin 4) (r : Running) (s : State),
      s.running l = some r →
      s.round l = none →
      Completes (.dwellEnd l) s fun t =>
        t.running l = none ∧
        t.mode = s.mode) ∧
    (∀ (l : Fin 4) (r : Running) (n : Round) (s : State),
      s.running l = some r →
      s.round l = some n →
      s.tim.now - r.at_ < s.get Reg.DWELL_MAX_MS * 40000 →
      Completes (.dwellEnd l) s fun t =>
        t.running l = some { r with past := true } ∧
        { t with val := s.val } = s)

/-- An open packet that reaches its age closes: it is no longer open, it stands last in the stream's queue with the next sequence number, its kind and its records, and NEXT_SEQ counts. A window that ends outside BOOT forgets the first sightings of its tags. A grant within 2^24 - 1 to an enabled stream, directly or through a link's shortcut, adds to its credits and changes nothing else; REPORT_NEXT answers the head packet with the next ALIVE and charges its slots once; REPORT_RELEASE of the packet shown removes it; WM_ACK clears the watermark. -/
def Obligations.PacketsCloseAndWindowsEnd : Prop :=
    (∀ (i : Fin 3) (kind : Fin 5) (p : OpenPkt) (s : State),
      Tab.find (s.stream i).opens kind = some p →
      (kind = 4 ∨ Tab.find (s.stream i).opens 4 = none) →
      s.rep.archive = [] →
      Completes (.packetAgeTimeout i kind) s fun t =>
        Tab.find (t.stream i).opens kind = none ∧
        (∃ q, (t.stream i).queue = (s.stream i).queue ++ [q] ∧ q.seq = s.get (Reg.NEXT_SEQ i) ∧ q.kind = kind.val ∧ q.count = p.count ∧ q.data = p.data) ∧
        t.get (Reg.NEXT_SEQ i) = (s.get (Reg.NEXT_SEQ i) + 1) % 2 ^ 32) ∧
    (∀ (s : State),
      s.mode ≠ Mode.boot →
      Completes (.reportWindowEnd) s fun t =>
        t.rep.seen = [] ∧
        t.mode = s.mode) ∧
    (∀ (l : Link) (i : Fin 3) (n : BitVec 32) (s : State),
      Serves s l false →
      s.get (Reg.CREDITS i) + n.toNat ≤ 16777215 →
      s.get (Reg.STREAM_ENABLE i) = 1 →
      Completes (.creditGrant l i n) s fun t =>
        Answered t l Result.ok ∧
        t.get (Reg.CREDITS i) = s.get (Reg.CREDITS i) + n.toNat ∧
        SameButAnswer l [Reg.CREDITS i, Reg.SSTATE_SEQ i] s t) ∧
    (∀ (l target : Link) (i : Fin 3) (n : BitVec 32) (s : State),
      Serves s l false →
      s.streamOf target = some i.val →
      s.get (Reg.CREDITS i) + n.toNat ≤ 16777215 →
      Completes (.linkCreditGrant l target n) s fun t =>
        Answered t l Result.ok ∧
        t.get (Reg.CREDITS i) = s.get (Reg.CREDITS i) + n.toNat ∧
        SameButAnswer l [Reg.CREDITS i, Reg.SSTATE_SEQ i] s t) ∧
    (∀ (l : Link) (i : Fin 3) (p : Pkt) (s : State),
      Serves s l false →
      s.pulls i = true →
      (s.stream i).head = some p →
      (s.stream i).shown = false →
      p.charged = false →
      p.slots ≤ s.get (Reg.CREDITS i) →
      Completes (.reportNext l i) s fun t =>
        Answered t l Result.ok ∧
        Tab.find t.io.data (Link.code l) = some (p.bytes (((s.stream i).alive + 1) % 256)) ∧
        (t.stream i).shown = true ∧
        t.get (Reg.CREDITS i) = s.get (Reg.CREDITS i) - p.slots) ∧
    (∀ (l : Link) (i : Fin 3) (p : Pkt) (rest : List Pkt) (s : State),
      Serves s l false →
      s.pulls i = true →
      (s.stream i).replay = [] →
      (s.stream i).queue = p :: rest →
      (s.stream i).shown = true →
      p.seq < 2 ^ 32 →
      Completes (.reportRelease l i (BitVec.ofNat 32 p.seq)) s fun t =>
        Answered t l Result.ok ∧
        (t.stream i).queue = rest ∧
        (t.stream i).shown = false) ∧
    (∀ (l : Link) (i : Fin 3) (s : State),
      Serves s l false →
      Completes (.wmAck l i) s fun t =>
        Answered t l Result.ok ∧
        t.get (Reg.WM_LATCHED i) = 0 ∧
        SameButAnswer l [Reg.WM_LATCHED i, Reg.SSTATE_SEQ i] s t)

/-- HOT_READ answers the records from the cursor and moves it past the last one returned; a mark set holds the next sequence number and is valid and not lost, one cleared is neither; a rewind to a valid mark answers OK and is active until the replayed packets have gone. -/
def Obligations.HotRingMarksAndRewinds : Prop :=
    (∀ (l : Link) (p : HotRec) (s : State),
      Serves s l false →
      s.get Reg.HOT_OLDEST ≤ s.get Reg.HOT_CURSOR →
      (s.hotFrom (s.get Reg.HOT_CURSOR)).getLast? = some p →
      Completes (.hotRead l) s fun t =>
        Answered t l Result.ok ∧
        Tab.find t.io.data (Link.code l) = some ((s.hotFrom (s.get Reg.HOT_CURSOR)).flatMap fun e => e.data) ∧
        t.get Reg.HOT_CURSOR = (p.time + 1) % 2 ^ 64 ∧
        SameButAnswer l [Reg.HOT_CURSOR] s { t with io := s.io }) ∧
    (∀ (l : Link) (i : Fin 3) (n : BitVec 8) (s : State),
      Serves s l false →
      n.toNat ≤ 7 →
      Completes (.markSet l i n) s fun t =>
        Answered t l Result.ok ∧
        t.get (Reg.MARK_SEQ i n.toNat) = s.get (Reg.NEXT_SEQ i) ∧
        bit (t.get (Reg.MARK_VALID i)) n.toNat = true ∧
        bit (t.get (Reg.MARK_LOST i)) n.toNat = false ∧
        SameButAnswer l [Reg.MARK_SEQ i n.toNat, Reg.MARK_VALID i, Reg.MARK_LOST i, Reg.MARKS_SEQ i] s { t with rep := s.rep }) ∧
    (∀ (l : Link) (i : Fin 3) (n : BitVec 8) (s : State),
      Serves s l false →
      n.toNat ≤ 7 →
      Completes (.markClear l i n) s fun t =>
        Answered t l Result.ok ∧
        bit (t.get (Reg.MARK_VALID i)) n.toNat = false ∧
        bit (t.get (Reg.MARK_LOST i)) n.toNat = false ∧
        SameButAnswer l [Reg.MARK_VALID i, Reg.MARK_LOST i, Reg.MARKS_SEQ i] s t) ∧
    (∀ (l : Link) (i : Fin 3) (n : BitVec 8) (s : State),
      Serves s l false →
      n.toNat ≤ 7 →
      bit (s.get (Reg.MARK_VALID i)) n.toNat = true →
      bit (s.get (Reg.MARK_LOST i)) n.toNat = false →
      s.get (Reg.REWIND_ACTIVE i) ≠ 1 →
      Completes (.rewind l i n) s fun t =>
        Answered t l Result.ok ∧
        t.get (Reg.REWIND_ACTIVE i) = 1 ∧
        SameButAnswer l [Reg.REWIND_ACTIVE i, Reg.MARKS_SEQ i] s { t with rep := s.rep }) ∧
    (∀ (i : Fin 3) (s : State),
      s.get (Reg.REWIND_ACTIVE i) = 1 →
      (s.stream i).replay = [] →
      Completes (.rewindDone i) s fun t =>
        t.get (Reg.REWIND_ACTIVE i) = 0 ∧
        SameBut [Reg.REWIND_ACTIVE i, Reg.MARKS_SEQ i] s t)

/-- A scrub step that ends a pass counts it; a first outer correction of one byte in an initialised line of the dictionary region, as the syndromes of the line's wrong bytes give it, counts, is shown as the last error and latches event 60; a line whose syndromes fit no pattern of two bytes or fewer is uncorrectable and latches event 61; a repaired row uses a spare, whose map is then stored; MX's inner corrections are added to their counter. -/
def Obligations.StoreScrubAndRepair : Prop :=
    (∀ (r : Fin 7) (line : BitVec 32) (s : State),
      s.mode ≠ Mode.boot →
      s.mode ≠ Mode.watch →
      Completes (.scrubStep r line (.wrong []) true) s fun t =>
        t.get Reg.SCRUB_PASSES = (s.get Reg.SCRUB_PASSES + 1) % 2 ^ 32 ∧
        t.get Reg.SCRUB_LAST_END = s.tim.now ∧
        SameBut [Reg.SCRUB_PASSES, Reg.SCRUB_LAST_END, Reg.MSTATE_SEQ] s t) ∧
    (∀ (line : BitVec 32) (bytes : List (Fin 132 × Byte)) (one : Nat × Nat) (s : State),
      s.mode ≠ Mode.boot →
      s.mode ≠ Mode.watch →
      Variant.big s.variant = true →
      line.toNat < 8 * 1048576 →
      s.lineHeld 2 line.toNat = true →
      lineDecode bytes = some [one] →
      s.latched 60 = false →
      Completes (.scrubStep 2 line (.wrong bytes) false) s fun t =>
        t.get Reg.OUTER_CORR_1 = (s.get Reg.OUTER_CORR_1 + 1) % 2 ^ 32 ∧
        t.get Reg.LAST_ERR_KIND = 1 ∧
        t.get Reg.LAST_ERR_REGION = 2 ∧
        t.get Reg.LAST_ERR_OFFSET = line.toNat ∧
        t.get Reg.LAST_ERR_TIME = s.tim.now ∧
        t.latched 60 = true) ∧
    (∀ (line : BitVec 32) (bytes : List (Fin 132 × Byte)) (s : State),
      s.mode ≠ Mode.boot →
      s.mode ≠ Mode.watch →
      Variant.big s.variant = true →
      line.toNat < 8 * 1048576 →
      s.lineHeld 2 line.toNat = true →
      lineDecode bytes = none →
      s.sparesLeft ≠ 0 →
      Completes (.scrubStep 2 line (.wrong bytes) false) s fun t =>
        t.get Reg.UNCORRECTABLE = (s.get Reg.UNCORRECTABLE + 1) % 2 ^ 32 ∧
        t.get Reg.LAST_ERR_KIND = 4 ∧
        t.latched 61 = true ∧
        rowOf 131072 line.toNat ∈ t.mem.due) ∧
    (∀ (row : Nat) (rest : List Nat) (s : State),
      s.mem.due = row :: rest →
      Completes (.rowRepairDone) s fun t =>
        t.mem.due = rest ∧
        t.get Reg.SPARE_ROWS_USED = s.get Reg.SPARE_ROWS_USED + 1 ∧
        t.get Reg.REPAIR_MAP_STATE = 1 ∧
        SameBut [Reg.SPARE_ROWS_USED, Reg.REPAIRS, Reg.REPAIR_MAP_STATE, Reg.MREP_SEQ] s { t with mem := s.mem }) ∧
    (∀ (s : State),
      s.get Reg.REPAIR_MAP_STATE = 1 →
      Completes (.repairMapStored true) s fun t =>
        t.get Reg.REPAIR_MAP_STATE = 0 ∧
        t.mem.mapRows = s.mem.rows ∧
        SameBut [Reg.REPAIR_MAP_STATE, Reg.MREP_SEQ] s { t with mem := s.mem }) ∧
    (∀ (n : BitVec 32) (s : State),
      Variant.big s.variant = true →
      Completes (.innerCountUpdate n) s fun t =>
        t.get Reg.INNER_CORRECTED = (s.get Reg.INNER_CORRECTED + n.toNat) % 2 ^ 64 ∧
        SameBut [Reg.INNER_CORRECTED, Reg.MERR_SEQ] s t)

/-- In READY or RUN, with HF enabled, no operation running, no commit in progress and HX in service, DISCOVER opens a session, ACTIVATE of a listed card and EXCHANGE with an active ISO-DEP card start with the time, argument and frame of their write; RELEASE without an active card and ABORT of a running operation end the session with the field down. -/
def Obligations.HfOperationsStart : Prop :=
    (∀ (l : Link) (s : State),
      Serves s l false →
      Variant.hx s.variant = true →
      (s.mode = Mode.ready ∨ s.mode = Mode.run) →
      s.get Reg.COMMIT_STATE = 0 →
      s.get Reg.HF_ENABLE = 1 →
      s.get Reg.HF_STATE ≠ 5 →
      s.hf.op = none →
      Completes (.hfDiscover l) s fun t =>
        Answered t l Result.ok ∧
        t.hf.op = some (1, s.tim.now) ∧
        t.hf.session = true) ∧
    (∀ (l : Link) (s : State),
      Serves s l false →
      Variant.hx s.variant = true →
      (s.mode = Mode.ready ∨ s.mode = Mode.run) →
      s.get Reg.COMMIT_STATE = 0 →
      s.get Reg.HF_ENABLE = 1 →
      s.get Reg.HF_STATE ≠ 5 →
      s.hf.op = none →
      s.get Reg.HF_OP_ARG ≤ 7 →
      s.get Reg.HF_OP_ARG < s.get Reg.HF_CARD_COUNT →
      Completes (.hfActivate l) s fun t =>
        Answered t l Result.ok ∧
        t.hf.op = some (2, s.tim.now) ∧
        t.hf.arg = s.get Reg.HF_OP_ARG ∧
        t.hf.active = none) ∧
    (∀ (l : Link) (n : Nat) (s : State),
      Serves s l false →
      Variant.hx s.variant = true →
      (s.mode = Mode.ready ∨ s.mode = Mode.run) →
      s.get Reg.COMMIT_STATE = 0 →
      s.get Reg.HF_ENABLE = 1 →
      s.get Reg.HF_STATE ≠ 5 →
      s.hf.op = none →
      s.get Reg.HF_OP_ARG ≤ 7 →
      s.dom Reg.HF_CMD_DATA ≠ [] →
      s.hf.active = some n →
      (bit (s.get Reg.HF_OP_ARG) 0 = true ∨ s.isoDep n = true) →
      Completes (.hfExchange l) s fun t =>
        Answered t l Result.ok ∧
        t.hf.op = some (3, s.tim.now) ∧
        t.hf.cmd = s.dom Reg.HF_CMD_DATA) ∧
    (∀ (l : Link) (s : State),
      Serves s l false →
      Variant.hx s.variant = true →
      (s.mode = Mode.ready ∨ s.mode = Mode.run) →
      s.get Reg.COMMIT_STATE = 0 →
      s.get Reg.HF_ENABLE = 1 →
      s.get Reg.HF_STATE ≠ 5 →
      s.hf.op = none →
      s.hf.session = true →
      s.hf.active = none →
      Completes (.hfRelease l) s fun t =>
        Answered t l Result.ok ∧
        t.hf.op = none ∧
        t.hf.session = false ∧
        t.hf.fieldAt = none ∧
        t.get Reg.HF_OP_STATUS = 0 ∧
        t.get Reg.HF_OP_LAST = 4 ∧
        t.get Reg.HF_CARD_COUNT = 0) ∧
    (∀ (l : Link) (c : Nat × Nat) (s : State),
      Serves s l false →
      Variant.hx s.variant = true →
      (s.mode = Mode.ready ∨ s.mode = Mode.run) →
      s.get Reg.COMMIT_STATE = 0 →
      s.get Reg.HF_ENABLE = 1 →
      s.get Reg.HF_STATE ≠ 5 →
      s.hf.op = some c →
      Completes (.hfAbort l) s fun t =>
        Answered t l Result.ok ∧
        t.hf.op = none ∧
        t.hf.session = false ∧
        t.hf.fieldAt = none)

/-- A good frame of an operation that goes on clears its resends; a protocol error ends it with PROTOCOL and event 57; a missing reply is asked for again while retries are left; an EXCHANGE ends with its status and its response, a DISCOVER with its card count; an idle session closes as a RELEASE; a guard time ends; a deferred start raises the field. -/
def Obligations.HfFramesAndEnds : Prop :=
    (∀ (frame : Bytes) (code : Nat) (s : State),
      s.hfBusy = some code →
      code ≠ 3 →
      Completes (.hfFrameReceived frame .good) s fun t =>
        t.hf.resent = 0 ∧
        t.hf.op = s.hf.op ∧
        t.mode = s.mode) ∧
    (∀ (frame : Bytes) (code : Nat) (s : State),
      s.hfBusy = some code →
      Completes (.hfFrameReceived frame .protocol) s fun t =>
        t.hf.op = none ∧
        t.get Reg.HF_OP_STATUS = 4 ∧
        t.get Reg.HF_OP_LAST = code ∧
        t.latched 57 = true) ∧
    (∀ (code : Nat) (s : State),
      s.hfBusy = some code →
      s.hf.resent < s.get Reg.HF_RETRIES →
      Completes (.hfReplyTimeout) s fun t =>
        t.hf.resent = s.hf.resent + 1 ∧
        { t with hf := s.hf } = s) ∧
    (∀ (rsp : Bytes) (cards : List Bytes) (more : Bool) (s : State),
      s.hfBusy = some 3 →
      rsp.length ≤ 1024 →
      Completes (.hfOpEnd 0 rsp cards more) s fun t =>
        t.hf.op = none ∧
        t.get Reg.HF_OP_STATUS = 0 ∧
        t.get Reg.HF_OP_LAST = 3 ∧
        t.dom Reg.HF_RSP_DATA = rsp ∧
        t.latched 57 = true) ∧
    (∀ (rsp : Bytes) (cards : List Bytes) (more : Bool) (s : State),
      s.hfBusy = some 1 →
      cards ≠ [] →
      Completes (.hfOpEnd 0 rsp cards more) s fun t =>
        t.hf.op = none ∧
        t.get Reg.HF_OP_STATUS = 0 ∧
        t.get Reg.HF_CARD_COUNT = min 8 cards.length ∧
        t.latched 57 = true) ∧
    (∀ (s : State),
      s.hf.session = true →
      s.hf.op = none →
      Completes (.hfSessionIdle) s fun t =>
        t.hf.session = false ∧
        t.hf.op = none ∧
        t.hf.fieldAt = none ∧
        t.get Reg.HF_OP_STATUS = 11 ∧
        t.get Reg.HF_OP_LAST = 4) ∧
    (∀ (s : State),
      s.hf.guarding = true →
      s.hf.step ≠ BreathStep.confirming false →
      Completes (.hfGuardTimeEnd) s fun t =>
        t = { s with hf := { s.hf with guarding := false } }) ∧
    (∀ (s : State),
      s.val.hfWaits = true →
      s.mode = Mode.run →
      Completes (.hfStartDeferred) s fun t =>
        t.val.hfWaits = false ∧
        t.hf.fieldAt ≠ none ∧
        t.get Reg.PLAN_TIME = s.tim.now)

/-- A tracking tick within the limits steps one code and shows the impedance; a driver fault takes HX out with its cause and event 59; the host clears a driver fault and the firmware recovers from PLL and calibration causes; a PLL unlock latches event 22; SLIDE_RETUNE drives the antenna at 20 mW; a calibration that passes sets both codes, one that fails takes HX out with cause 4. -/
def Obligations.SlideAndHfFaults : Prop :=
    (∀ (dcs dcp phase : Int) (z : BitVec 16) (s : State),
      s.hf.fieldAt ≠ none →
      s.hf.calRuns = false →
      s.mode ≠ Mode.watch →
      s.get Reg.HF_STATE ≠ 5 →
      s.get Reg.SLIDE_Z_CUT_LOW ≤ z.toNat →
      z.toNat ≤ s.get Reg.SLIDE_Z_CUT_HIGH →
      (phase.natAbs : Int) ≤ s.i16 Reg.SLIDE_PHASE_WARN →
      Completes (.slideTrackTick dcs dcp phase z) s fun t =>
        t.get Reg.SLIDE_CS = (if dcs ≠ 0 then stepCode (s.get Reg.SLIDE_CS) dcs else s.get Reg.SLIDE_CS) ∧
        t.get Reg.SLIDE_CP = (if dcs ≠ 0 then s.get Reg.SLIDE_CP else stepCode (s.get Reg.SLIDE_CP) dcp) ∧
        t.get Reg.SLIDE_PHASE = ofInt 16 phase ∧
        t.get Reg.SLIDE_Z = z.toNat ∧
        t.hf.excess = 0 ∧
        SameBut [Reg.SLIDE_CS, Reg.SLIDE_CP, Reg.SLIDE_PHASE, Reg.SLIDE_Z, Reg.SLIDE_SEQ] s { t with hf := s.hf }) ∧
    (∀ (why : DriverFault) (s : State),
      Variant.hx s.variant = true →
      s.get Reg.HF_STATE ≠ 5 →
      Completes (.hfDriverFault why) s fun t =>
        t.get Reg.HF_STATE = 5 ∧
        t.get Reg.HF_OUT_CAUSE = (if why = DriverFault.supply then 5 else 3) ∧
        t.latched 59 = true) ∧
    (∀ (l : Link) (s : State),
      Serves s l false →
      Variant.hx s.variant = true →
      s.get Reg.HF_STATE = 5 →
      s.get Reg.HF_OUT_CAUSE = 3 →
      Completes (.hfFaultClear l) s fun t =>
        Answered t l Result.ok ∧
        t.get Reg.HF_OUT_CAUSE = 0 ∧
        t.get Reg.HF_STATE ≠ 5 ∧
        SameButAnswer l [Reg.HF_OUT_CAUSE, Reg.HF_STATE, Reg.HSTATE_SEQ] s t) ∧
    (∀ (s : State),
      Variant.hx s.variant = true →
      s.get Reg.HF_STATE ≠ 5 →
      s.hf.unlocks = [] →
      Completes (.hfPllUnlock) s fun t =>
        t.latched 22 = true ∧
        t.hf.unlocks = [s.tim.now]) ∧
    (∀ (s : State),
      s.get Reg.HF_STATE = 5 →
      s.get Reg.HF_OUT_CAUSE = 1 →
      Completes (.hfRecoveryRetry true) s fun t =>
        t.get Reg.HF_OUT_CAUSE = 0 ∧
        t.get Reg.HF_STATE ≠ 5 ∧
        SameBut [Reg.HF_OUT_CAUSE, Reg.HF_STATE, Reg.HSTATE_SEQ] s t) ∧
    (∀ (s : State),
      s.get Reg.HF_STATE = 5 →
      s.get Reg.HF_OUT_CAUSE = 4 →
      s.get Reg.HF_ENABLE = 1 →
      (s.mode = Mode.ready ∨ s.mode = Mode.run) →
      Completes (.hfRecoveryRetry true) s fun t =>
        t.get Reg.HF_OUT_CAUSE = 0 ∧
        t.get Reg.HF_STATE ≠ 5 ∧
        t.get Reg.SLIDE_CAL_TIME = s.tim.now ∧
        t.get Reg.SLIDE_CAL_TEMP = s.get Reg.HF_DIE_TEMP ∧
        SameBut [Reg.HF_OUT_CAUSE, Reg.HF_STATE, Reg.HSTATE_SEQ, Reg.SLIDE_CS, Reg.SLIDE_CP, Reg.SLIDE_CAL_TEMP, Reg.SLIDE_CAL_TIME, Reg.SLIDE_SEQ] s
          { t with hf := s.hf, free := s.free }) ∧
    (∀ (l : Link) (s : State),
      Serves s l false →
      Variant.hx s.variant = true →
      (s.mode = Mode.ready ∨ s.mode = Mode.run) →
      s.hf.session = false →
      s.hf.calRuns = false →
      s.get Reg.HF_STATE ≠ 5 →
      s.get Reg.HF_ENABLE = 1 →
      Completes (.slideRetune l) s fun t =>
        Answered t l Result.ok ∧
        t.hf.calRuns = true ∧
        t.hf.fieldAt ≠ none ∧
        t.get Reg.HF_TX_POWER_NOW = 20 ∧
        SameButAnswer l [Reg.HF_TX_POWER_NOW, Reg.HSTATE_SEQ] s { t with hf := s.hf }) ∧
    (∀ (cs cp : Fin 64) (phase temp : Int) (z : BitVec 16) (s : State),
      s.hf.calRuns = true →
      s.hf.op = none →
      s.hf.test = false →
      s.get Reg.HF_STATE ≠ 5 →
      s.get Reg.SLIDE_Z_CUT_LOW ≤ z.toNat →
      z.toNat ≤ s.get Reg.SLIDE_Z_CUT_HIGH →
      ((toInt 16 (ofInt 16 phase)).natAbs : Int) ≤ s.i16 Reg.SLIDE_PHASE_WARN →
      Completes (.slideCalDone true cs cp phase z temp) s fun t =>
        t.hf.calRuns = false ∧
        t.get Reg.SLIDE_CS = cs.val ∧
        t.get Reg.SLIDE_CP = cp.val ∧
        t.get Reg.SLIDE_CAL_TEMP = ofInt 16 temp ∧
        t.get Reg.SLIDE_CAL_TIME = s.tim.now ∧
        t.hf.fieldAt = none) ∧
    (∀ (cs cp : Fin 64) (phase temp : Int) (z : BitVec 16) (s : State),
      s.hf.calRuns = true →
      Completes (.slideCalDone false cs cp phase z temp) s fun t =>
        t.hf.calRuns = false ∧
        t.get Reg.HF_OUT_CAUSE = 4 ∧
        t.get Reg.HF_STATE = 5 ∧
        t.latched 58 = true)

/-- In WATCH a sense pulse counts and a triggering one asks for a second; a second that triggers raises the field for the confirmation; a confirmed card counts as a trigger with event 56, an unconfirmed one as false with the baseline taken again; a baseline that passes starts detecting. -/
def Obligations.BreathDetection : Prop :=
    (∀ (amp phase : Int) (s : State),
      s.mode = Mode.watch →
      s.get Reg.BREATH_STATE = 2 →
      s.hf.step = BreathStep.idle →
      Completes (.breathPulse amp phase) s fun t =>
        t.get Reg.BREATH_PULSES = (s.get Reg.BREATH_PULSES + 1) % 2 ^ 32 ∧
        t.hf.step = (if s.triggers amp phase then BreathStep.second else BreathStep.idle) ∧
        SameBut [Reg.BREATH_PULSES, Reg.BREATH_SEQ, Reg.HF_FIELD_ON_US, Reg.HSTATE_SEQ] s { t with hf := s.hf }) ∧
    (∀ (amp phase : Int) (s : State),
      s.mode = Mode.watch →
      s.hf.step = BreathStep.second →
      s.triggers amp phase = true →
      s.get Reg.BREATH_CONFIRM_TECH ≠ 0 →
      Completes (.breathSecondPulse amp phase) s fun t =>
        t.hf.step = BreathStep.confirming false ∧
        t.hf.fieldAt ≠ none ∧
        t.get Reg.BREATH_PULSES = (s.get Reg.BREATH_PULSES + 1) % 2 ^ 32 ∧
        t.get Reg.HF_TX_POWER_NOW = s.get Reg.HF_TX_POWER_MW) ∧
    (∀ (s : State),
      s.hf.step = BreathStep.confirming false →
      Completes (.hfGuardTimeEnd) s fun t =>
        t = { s with hf := { s.hf with step := BreathStep.confirming true } }) ∧
    (∀ (b : Bool) (s : State),
      s.hf.step = BreathStep.confirming b →
      Completes (.breathConfirmEnd true) s fun t =>
        t.latched 56 = true ∧
        t.get Reg.BREATH_TRIGGERS = (s.get Reg.BREATH_TRIGGERS + 1) % 2 ^ 32 ∧
        t.hf.step = BreathStep.idle) ∧
    (∀ (b : Bool) (s : State),
      s.hf.step = BreathStep.confirming b →
      Completes (.breathConfirmEnd false) s fun t =>
        t.get Reg.BREATH_FALSE = (s.get Reg.BREATH_FALSE + 1) % 2 ^ 32 ∧
        t.get Reg.BREATH_STATE = 1 ∧
        t.hf.step = BreathStep.idle ∧
        t.hf.fieldAt = none) ∧
    (∀ (amp phase : Int) (s : State),
      s.mode = Mode.watch →
      s.get Reg.BREATH_STATE = 1 →
      Completes (.breathBaselineDone amp phase true) s fun t =>
        t.get Reg.BREATH_STATE = 2 ∧
        t.hf.amp = 64 * amp ∧
        t.hf.phase = 64 * phase ∧
        t.hf.step = BreathStep.idle)

/-- A write of a full value to an RW object (HOT_CURSOR here) is answered OK and that object takes it, nothing else changing; a write to an address not in use answers NO_OBJECT and one to a read-only object DENIED, and neither changes anything but the answer. -/
def Obligations.ObjectWritesAndRefusals : Prop :=
    (∀ (l : Link) (v : BitVec 64) (s : State),
      Serves s l false →
      Completes (.objectWrite l (Reg.HOT_CURSOR / 256) (Reg.HOT_CURSOR % 256) (leBytes 8 v.toNat)) s fun t =>
        Answered t l Result.ok ∧
        t.get Reg.HOT_CURSOR = v.toNat ∧
        SameButAnswer l [Reg.HOT_CURSOR] s t) ∧
    (∀ (l : Link) (index sub : Nat) (data : Bytes) (s : State),
      Serves s l false →
      s.object (index * 256 + sub % 256) = none →
      Completes (.objectWrite l index sub data) s fun t =>
        Answered t l Result.noObject ∧
        SameButAnswer l [] s t) ∧
    (∀ (l : Link) (index sub : Nat) (data : Bytes) (s : State),
      Serves s l false →
      (s.object (index * 256 + sub % 256)).any (fun f => decide (f.row.acc = Acc.ro ∨ f.row.acc = Acc.const)) = true →
      Completes (.objectWrite l index sub data) s fun t =>
        Answered t l Result.denied ∧
        SameButAnswer l [] s t)

/-- A request frame that passes every check while no request executes begins to execute with its operation, tag and body, and SPT_FRAMES counts; one whose CRC fails is counted with event 50 and a CHECK response held; one that completes while a request executes is discarded and sets BUSY; FETCH shifts out what stands. A READ and a BLOCK_READ of MODE_CURRENT answer OK with the mode's code; a WRITE of HOT_CURSOR answers OK with FAIL_ENTRY 0xFF and the object takes the value; each answers once and leaves no request executing. -/
def Obligations.SptFramesAndOperations : Prop :=
    (∀ (mosi : Bytes) (s : State),
      s.sys.sptUp = true →
      s.mode = Mode.ready →
      mosi ≠ [] →
      received mosi 0 ≠ 0 →
      s.sptBusy = false →
      s.sptError mosi = 0 →
      received mosi 0 ≤ 3 →
      s.sys.trans = none →
      s.sys.resetDue = none →
      Completes (.sptSelectRelease mosi) s fun t =>
        t.io.spt = some ⟨received mosi 0, received mosi 1, slice mosi 6 (field mosi 4 2), s.tim.now, 0⟩ ∧
        t.get Reg.SPT_FRAMES = (s.get Reg.SPT_FRAMES + 1) % 2 ^ 32 ∧
        t.get Reg.SPT_ALIVE_LAST = received mosi 2 ∧
        t.mode = s.mode) ∧
    (∀ (mosi : Bytes) (s : State),
      s.sys.sptUp = true →
      s.mode = Mode.ready →
      mosi ≠ [] →
      received mosi 0 ≠ 0 →
      s.sptBusy = false →
      s.sptError mosi = 1 →
      s.sys.resetDue = none →
      s.sys.phase = ResetPhase.released →
      Completes (.sptSelectRelease mosi) s fun t =>
        t.io.spt = none ∧
        t.get Reg.SPT_FRAME_ERRORS = (s.get Reg.SPT_FRAME_ERRORS + 1) % 2 ^ 32 ∧
        t.get Reg.SPT_LAST_ERROR = 1 ∧
        t.latched 50 = true ∧
        t.io.rsp = some ⟨received mosi 0, received mosi 1, Result.code Result.check, []⟩) ∧
    (∀ (mosi : Bytes) (s : State),
      s.sys.sptUp = true →
      s.mode = Mode.ready →
      mosi ≠ [] →
      received mosi 0 ≠ 0 →
      s.sptBusy = true →
      Completes (.sptSelectRelease mosi) s fun t =>
        t.io.spt = s.io.spt ∧
        bit t.sys.busy 1 = true ∧
        t.get Reg.SPT_BUSY_DISCARDS = (s.get Reg.SPT_BUSY_DISCARDS + 1) % 2 ^ 32 ∧
        SameBut [Reg.SPT_BUSY_DISCARDS, Reg.SPT_SEQ] s { t with io := s.io, sys := s.sys }) ∧
    (∀ (s : State),
      s.sys.sptUp = true →
      s.sys.resetDue = none →
      Completes (.sptFetch) s fun t =>
        t.io.miso = s.sptOut ∧
        { t with io := s.io } = s) ∧
    (∀ (q : SptReq) (s : State),
      s.sys.phase = ResetPhase.released →
      s.sptOp 1 = some q →
      readEntries q.body = some [(Reg.MODE_CURRENT, 0, 1)] →
      Completes (.sptRead) s fun t =>
        t.io.spt = none ∧
        t.io.rsp = some ⟨1, q.tag, 0, [0#8, 0#8, 1#8, 0#8, BitVec.ofNat 8 (Mode.code s.mode)]⟩ ∧
        t.get Reg.SPT_LAST_RESULT = 0 ∧
        t.mode = s.mode) ∧
    (∀ (q : SptReq) (s : State),
      s.sys.phase = ResetPhase.released →
      s.sptOp 3 = some q →
      s.mode ≠ Mode.watch →
      q.body = leBytes 2 (Reg.MODE_CURRENT / 256) ++ leBytes 1 (Reg.MODE_CURRENT % 256) ++ [0#8, 1#8, 0#8] →
      Completes (.sptBlockRead) s fun t =>
        t.io.spt = none ∧
        t.io.rsp = some ⟨3, q.tag, 0, [0#8, 0#8, 1#8, 0#8, BitVec.ofNat 8 (Mode.code s.mode)]⟩) ∧
    (∀ (q : SptReq) (v : BitVec 64) (s : State),
      s.sys.phase = ResetPhase.released →
      s.sptOp 2 = some q →
      s.mode ≠ Mode.watch →
      s.mode ≠ Mode.boot →
      s.sys.firing = none →
      writeEntries 64 q.body = some [(Reg.HOT_CURSOR, leBytes 8 v.toNat)] →
      Completes (.sptWrite) s fun t =>
        t.io.spt = none ∧
        t.io.rsp = some ⟨2, q.tag, 0, [0xFF#8, 0#8]⟩ ∧
        t.get Reg.HOT_CURSOR = v.toNat)

/-- Out of WATCH and BOOT, with the part listening, STATUS answers the mode and the HOLD reason, EVENTS the enabled pending events, EVENT_ACK clears what it acknowledges, CREDIT grants to the bound stream, MODE_SET of HOLD starts the transition, and OBJ_READ, DOM_READ, OBJ_WRITE and DOM_WRITE act on their object as the other links do. In TEST a WINDOW write sets the pointer and the bytes it carries; a read of the reply returns the status byte, the held reply and its PEC; a write with a bad PEC is counted with event 51 and answers CHECK, one with excess bytes RANGE; an address not acknowledged sets BUSY and counts; an alert answered is released until it is driven again; a bus timeout counts. -/
def Obligations.TwaRequestsAnswer : Prop :=
    (∀ (s : State),
      s.sys.phase = ResetPhase.released →
      s.twaDeaf true = false →
      (s.mode = Mode.ready ∨ s.mode = Mode.run) →
      s.sys.trans = none →
      Completes (.twaStatus) s fun t =>
        t.io.twaReply = some [0#8, BitVec.ofNat 8 (Mode.code s.mode), BitVec.ofNat 8 (s.get Reg.HOLD_REASON)] ∧
        t.get Reg.TWA_LAST_RESULT = 0 ∧
        t.get Reg.TWA_REQUESTS = (s.get Reg.TWA_REQUESTS + 1) % 2 ^ 32 ∧
        t.mode = s.mode) ∧
    (∀ (s : State),
      s.sys.phase = ResetPhase.released →
      s.twaDeaf true = false →
      (s.mode = Mode.ready ∨ s.mode = Mode.run) →
      s.sys.trans = none →
      s.get Reg.COMMIT_STATE = 0 →
      Completes (.twaModeSet 1#8) s fun t =>
        t.io.twaReply = some [0#8] ∧
        t.sys.trans = some ⟨Mode.hold, false, some Link.twa, 8⟩ ∧
        t.get Reg.MODE_REQUEST = 1) ∧
    (∀ (s : State),
      s.sys.phase = ResetPhase.released →
      s.twaDeaf true = false →
      (s.mode = Mode.ready ∨ s.mode = Mode.run) →
      s.sys.trans = none →
      Completes (.twaEvents) s fun t =>
        t.io.twaReply = some (0#8 :: leBytes 8 s.pendingEvents) ∧
        t.get Reg.TWA_LAST_RESULT = 0) ∧
    (∀ (mask : BitVec 64) (s : State),
      s.sys.phase = ResetPhase.released →
      s.twaDeaf true = false →
      (s.mode = Mode.ready ∨ s.mode = Mode.run) →
      s.sys.trans = none →
      Completes (.twaEventAck mask) s fun t =>
        t.io.twaReply = some [0#8] ∧
        t.get Reg.EVT_LATCHED = clrMask (s.get Reg.EVT_LATCHED) mask.toNat) ∧
    (∀ (n : BitVec 32) (i : Fin 3) (s : State),
      s.sys.phase = ResetPhase.released →
      s.twaDeaf true = false →
      (s.mode = Mode.ready ∨ s.mode = Mode.run) →
      s.sys.trans = none →
      s.streamOf .twa = some i.val →
      s.get (Reg.CREDITS i) + n.toNat ≤ 16777215 →
      Completes (.twaCredit n) s fun t =>
        t.io.twaReply = some [0#8] ∧
        t.get (Reg.CREDITS i) = s.get (Reg.CREDITS i) + n.toNat) ∧
    (∀ (s : State),
      s.sys.phase = ResetPhase.released →
      s.twaDeaf true = false →
      (s.mode = Mode.ready ∨ s.mode = Mode.run) →
      s.sys.trans = none →
      Completes (.twaObjRead (BitVec.ofNat 16 (Reg.MODE_CURRENT / 256)) (BitVec.ofNat 8 (Reg.MODE_CURRENT % 256)) 1#8) s fun t =>
        t.io.twaReply = some [0#8, 1#8, BitVec.ofNat 8 (Mode.code s.mode)]) ∧
    (∀ (n : BitVec 8) (s : State),
      s.sys.phase = ResetPhase.released →
      s.twaDeaf true = false →
      (s.mode = Mode.ready ∨ s.mode = Mode.run) →
      s.sys.trans = none →
      n ≠ 0#8 →
      Completes (.twaDomRead (BitVec.ofNat 16 (Reg.MODE_CURRENT / 256)) (BitVec.ofNat 8 (Reg.MODE_CURRENT % 256)) 0#16 n) s fun t =>
        t.io.twaReply = some [0#8, 1#8, BitVec.ofNat 8 (Mode.code s.mode)]) ∧
    (∀ (v : BitVec 64) (s : State),
      s.sys.phase = ResetPhase.released →
      s.twaDeaf true = false →
      (s.mode = Mode.ready ∨ s.mode = Mode.run) →
      s.sys.trans = none →
      Completes (.twaObjWrite (BitVec.ofNat 16 (Reg.HOT_CURSOR / 256)) (BitVec.ofNat 8 (Reg.HOT_CURSOR % 256)) (leBytes 8 v.toNat)) s fun t =>
        t.io.twaReply = some [0#8] ∧
        t.get Reg.HOT_CURSOR = v.toNat) ∧
    (∀ (data : Bytes) (s : State),
      s.sys.phase = ResetPhase.released →
      s.twaDeaf true = false →
      (s.mode = Mode.ready ∨ s.mode = Mode.run) →
      s.sys.trans = none →
      data.length ≤ 8 →
      Completes (.twaDomWrite (BitVec.ofNat 16 (Reg.HOT_CURSOR / 256)) (BitVec.ofNat 8 (Reg.HOT_CURSOR % 256)) 1#8 data) s fun t =>
        t.io.twaReply = some [0#8] ∧
        t.io.twaDom = some (Reg.HOT_CURSOR, data) ∧
        t.get Reg.HOT_CURSOR = s.get Reg.HOT_CURSOR) ∧
    (∀ (ptr : BitVec 8) (b : Byte) (s : State),
      s.sys.phase = ResetPhase.released →
      s.twaDeaf true = false →
      s.mode = Mode.test →
      128 ≤ ptr.toNat →
      s.sys.trans = none →
      Completes (.twaWindow ptr [b]) s fun t =>
        t.io.mbxData = (padTo 128 s.io.mbxData).set (ptr.toNat - 128) b ∧
        t.io.twaPtr = (ptr.toNat + 1) % 256 ∧
        t.io.twaWindow = true ∧
        t.get Reg.TWA_LAST_RESULT = 0) ∧
    (∀ (n : Nat) (s : State),
      s.sys.phase = ResetPhase.released →
      s.twaDeaf false = false →
      s.io.twaWindow = false →
      s.mode ≠ Mode.watch →
      s.sys.trans = none →
      s.sys.resetDue = none →
      Completes (.twaReplyRead n) s fun t =>
        t.io.twaOut = (s.twaReplyBytes ++ List.replicate (n + 1) 0xFF#8).take (n + 1) ∧
        t.regs = s.regs ∧
        { t with io := s.io } = s) ∧
    (∀ (s : State),
      s.sys.phase = ResetPhase.released →
      s.twaDeaf true = false →
      s.mode ≠ Mode.watch →
      s.sys.trans = none →
      Completes (.twaWriteReject true) s fun t =>
        t.io.twaReply = some [BitVec.ofNat 8 (Result.code Result.range)] ∧
        { t with io := s.io } = s) ∧
    (∀ (s : State),
      s.sys.phase = ResetPhase.released →
      s.twaDeaf true = false →
      s.mode ≠ Mode.watch →
      s.sys.trans = none →
      Completes (.twaWriteReject false) s fun t =>
        t.io.twaReply = some [BitVec.ofNat 8 (Result.code Result.check)] ∧
        t.get Reg.TWA_PEC_ERRORS = (s.get Reg.TWA_PEC_ERRORS + 1) % 2 ^ 32 ∧
        t.latched 51 = true) ∧
    (∀ (s : State),
      s.sys.phase = ResetPhase.released →
      Completes (.twaAddressNack) s fun t =>
        bit t.sys.busy 2 = true ∧
        t.get Reg.TWA_BUSY_NACKS = (s.get Reg.TWA_BUSY_NACKS + 1) % 2 ^ 32 ∧
        SameBut [Reg.TWA_BUSY_NACKS, Reg.TWA_SEQ] s { t with sys := s.sys }) ∧
    (∀ (s : State),
      s.alertLow = true →
      Completes (.twaAra true) s fun t =>
        t.sys.alertOff = true ∧
        t.alertLow = false ∧
        t.get Reg.TWA_ARA_ANSWERS = (s.get Reg.TWA_ARA_ANSWERS + 1) % 2 ^ 32) ∧
    (∀ (s : State),
      s.alertLow = true →
      Completes (.twaAra false) s fun t =>
        t.alertLow = true ∧
        t.get Reg.TWA_ARA_LOST = (s.get Reg.TWA_ARA_LOST + 1) % 2 ^ 32 ∧
        SameBut [Reg.TWA_ARA_LOST, Reg.TWA_SEQ] s t) ∧
    (∀ (s : State),
      Completes (.twaAlertReassert) s fun t =>
        t = { s with sys := { s.sys with alertOff := false } }) ∧
    (∀ (s : State),
      s.sys.twaUp = true →
      Completes (.twaBusTimeout) s fun t =>
        t.get Reg.TWA_TIMEOUTS = (s.get Reg.TWA_TIMEOUTS + 1) % 2 ^ 32 ∧
        SameBut [Reg.TWA_TIMEOUTS, Reg.TWA_SEQ] s t)

/-- NMT Start, Stop and Enter Pre-Operational, outside WATCH and its entry, set the NMT state to 5, 4 and 0x7F and leave every other object but the group sequence; Reset Node resets the part with cause 5; Reset Communication starts the controllers again in Pre-Operational with the mode unchanged; the heartbeat timer sends one frame with the NMT state. An error-active controller that goes passive is shown so, and event 49 is latched once until it is active again; bus-off counts, is shown and latches event 48; recovery shows error active. -/
def Obligations.NmtCommandsAndHeartbeat : Prop :=
    (∀ (s : State),
      s.sys.canUp = true →
      s.mode ≠ Mode.watch →
      s.sys.trans = none →
      Completes (.nmtStart) s fun t =>
        t.get Reg.CAN_NMT_STATE = 5 ∧
        t.mode = s.mode ∧
        SameBut [Reg.CAN_NMT_STATE, Reg.CANSTATE_SEQ] s { t with io := s.io, rep := s.rep }) ∧
    (∀ (s : State),
      s.sys.canUp = true →
      s.mode ≠ Mode.watch →
      s.sys.trans = none →
      Completes (.nmtStop) s fun t =>
        t.get Reg.CAN_NMT_STATE = 4 ∧
        t.mode = s.mode ∧
        SameBut [Reg.CAN_NMT_STATE, Reg.CANSTATE_SEQ] s { t with io := s.io, rep := s.rep }) ∧
    (∀ (s : State),
      s.sys.canUp = true →
      s.mode ≠ Mode.watch →
      s.sys.trans = none →
      Completes (.nmtEnterPreop) s fun t =>
        t.get Reg.CAN_NMT_STATE = 127 ∧
        t.mode = s.mode ∧
        SameBut [Reg.CAN_NMT_STATE, Reg.CANSTATE_SEQ] s { t with io := s.io, rep := s.rep }) ∧
    (∀ (s : State),
      s.sys.canUp = true →
      s.mode ≠ Mode.watch →
      s.sys.trans = none →
      Completes (.nmtResetNode) s fun t =>
        t.mode = Mode.boot ∧
        t.sys.phase = ResetPhase.resetHeld ∧
        t.get Reg.RESET_CAUSE = 5 ∧
        t.get Reg.RESET_DETAIL = 0 ∧
        t.brd.flash = s.brd.flash ∧
        t.sec.debugFuse = s.sec.debugFuse) ∧
    (∀ (s : State),
      s.sys.canUp = true →
      s.mode ≠ Mode.watch →
      s.sys.trans = none →
      Completes (.nmtResetComm) s fun t =>
        t.get Reg.CAN_NMT_STATE = 0x7F ∧
        t.mode = s.mode ∧
        t.io.usdo = none ∧
        SameBut [Reg.CAN0_STATE, Reg.CAN1_STATE, Reg.CAN_ACTIVE_LINE, Reg.CAN_NMT_STATE, Reg.CANSTATE_SEQ] s { t with io := s.io, rep := s.rep }) ∧
    (∀ (s : State),
      s.sys.canUp = true →
      s.canLive = true →
      s.mode ≠ Mode.boot →
      s.get Reg.HEARTBEAT_TIME ≠ 0 →
      Completes (.heartbeatTimer) s fun t =>
        t.io.canOut = [⟨0x700 + s.sys.node, [BitVec.ofNat 8 (s.get Reg.CAN_NMT_STATE)]⟩] ∧
        { t with io := s.io } = s) ∧
    (∀ (c : Fin 2) (s : State),
      s.get (canState c) = 1 →
      bit s.io.passive c = false →
      Completes (.canErrPassive c) s fun t =>
        t.get (canState c) = 2 ∧
        t.latched 49 = true ∧
        bit t.io.passive c = true) ∧
    (∀ (c : Fin 2) (s : State),
      s.get (canState c) = 1 →
      bit s.io.passive c = true →
      Completes (.canErrPassive c) s fun t =>
        t.get (canState c) = 2 ∧
        t.ev = s.ev) ∧
    (∀ (c : Fin 2) (s : State),
      s.get (canState c) = 2 →
      Completes (.canErrorActive c) s fun t =>
        t.get (canState c) = 1 ∧
        bit t.io.passive c = false ∧
        t.ev = s.ev) ∧
    (∀ (c : Fin 2) (s : State),
      (s.get (canState c) = 1 ∨ s.get (canState c) = 2) →
      Completes (.canBusOff c) s fun t =>
        t.get (canState c) = 3 ∧
        t.get Reg.CAN_BUSOFF_COUNT = (s.get Reg.CAN_BUSOFF_COUNT + 1) % 2 ^ 32 ∧
        t.latched 48 = true) ∧
    (∀ (c : Fin 2) (s : State),
      s.get (canState c) = 3 →
      Completes (.canBusOffRecovered c) s fun t =>
        t.get (canState c) = 1 ∧
        t.get Reg.CAN_NMT_STATE = s.get Reg.CAN_NMT_STATE ∧
        t.io.canOut = s.io.canOut)

/-- With no transfer open, an upload of MODE_CURRENT outside WATCH answers the mode's code and an expedited download of HOT_CURSOR is done and writes it; an upload of an address not in use is aborted with its code and counted; a timeout of an open transfer aborts it with 0x05040000; an open transfer refuses another initiate as BUSY. -/
def Obligations.UsdoServesReadsAndWrites : Prop :=
    (∀ (s : State),
      Serves s Link.can false →
      s.io.usdo = none →
      s.sys.trans = none →
      Completes (.usdoRequest (.upload (Reg.MODE_CURRENT / 256) (Reg.MODE_CURRENT % 256))) s fun t =>
        Answered t Link.can Result.ok ∧
        t.io.usdoOut = some (UsdoRsp.data [BitVec.ofNat 8 (Mode.code s.mode)] 0) ∧
        t.io.usdo = none ∧
        SameButAnswer Link.can [] s { t with io := s.io }) ∧
    (∀ (v : BitVec 64) (s : State),
      Serves s Link.can false →
      s.io.usdo = none →
      s.sys.trans = none →
      Completes (.usdoRequest (.downloadExpedited (Reg.HOT_CURSOR / 256) (Reg.HOT_CURSOR % 256) (leBytes 8 v.toNat))) s fun t =>
        Answered t Link.can Result.ok ∧
        t.io.usdoOut = some UsdoRsp.done ∧
        t.get Reg.HOT_CURSOR = v.toNat ∧
        SameButAnswer Link.can [Reg.HOT_CURSOR] s { t with io := s.io }) ∧
    (∀ (index sub : Nat) (s : State),
      Serves s Link.can false →
      s.io.usdo = none →
      s.sys.trans = none →
      index < 65536 →
      sub < 255 →
      s.object (index * 256 + sub) = none →
      s.indexKnown (index * 256 + sub) = false →
      Completes (.usdoRequest (.upload index sub)) s fun t =>
        Answered t Link.can Result.noObject ∧
        t.io.usdoOut = some (UsdoRsp.abort 0x06020000) ∧
        t.get Reg.USDO_ABORTS = (s.get Reg.USDO_ABORTS + 1) % 2 ^ 32 ∧
        SameButAnswer Link.can [Reg.USDO_ABORTS, Reg.CANSTATE_SEQ] s { t with io := s.io }) ∧
    (∀ (x : Xfer) (index sub : Nat) (s : State),
      Serves s Link.can false →
      s.io.usdo = some x →
      s.sys.trans = none →
      Completes (.usdoRequest (.upload index sub)) s fun t =>
        Answered t Link.can Result.busy ∧
        t.io.usdoOut = some (UsdoRsp.abort 0x060A0023) ∧
        t.io.usdo = some x) ∧
    (∀ (x : Xfer) (s : State),
      Serves s Link.can false →
      s.io.usdo = some x →
      Completes (.usdoTimeout) s fun t =>
        t.io.usdo = none ∧
        t.io.usdoOut = some (UsdoRsp.abort 0x05040000) ∧
        t.get Reg.USDO_ABORTS = (s.get Reg.USDO_ABORTS + 1) % 2 ^ 32 ∧
        SameBut [Reg.USDO_ABORTS, Reg.CANSTATE_SEQ] s { t with io := s.io })

/-- A TPDO of type 0xFF that may be sent goes out with the status byte first; a SYNC assembles a synchronous TPDO that is due; an RPDO writes its mapped objects in order; a consumed TIME frame is a discipline event; the head packet of CAN's stream is charged and its first fragment sent, and after its last fragment the packet counts as delivered; the oldest EMCY waiting goes out in the layout of R463. -/
def Obligations.PdosTimeAndEmcy : Prop :=
    (∀ (n : Fin 8) (s : State),
      s.tpdoFree n = true →
      s.get (Reg.TPDO_TYPE n) = 0xFF →
      (s.tpdo n).frame = none →
      s.get (Reg.TPDO_MAP_COUNT n) = 0 →
      Completes (.tpdoSend n) s fun t =>
        t.io.canOut = [⟨s.get (Reg.TPDO_COB_ID n) % 2048, [BitVec.ofNat 8 (s.status Link.can)]⟩] ∧
        (t.tpdo n).sentAt = some s.tim.now ∧
        { t with io := s.io } = s) ∧
    (∀ (n : Fin 8) (b : Bytes) (s : State),
      s.tpdoFree n = true →
      (s.tpdo n).frame = some b →
      Completes (.tpdoSend n) s fun t =>
        t.io.canOut = [⟨s.get (Reg.TPDO_COB_ID n) % 2048, padTo (fdLength b.length) b⟩] ∧
        (t.tpdo n).frame = none ∧
        { t with io := s.io } = s) ∧
    (∀ (n : Fin 8) (s : State),
      s.tpdoFree n = true →
      s.get (Reg.TPDO_TYPE n) = 0xFF →
      s.get (Reg.EVENT_TIMER n) ≠ 0 →
      s.get (Reg.TPDO_MAP_COUNT n) = 0 →
      Completes (.tpdoEventTimer n) s fun t =>
        t.io.canOut = [⟨s.get (Reg.TPDO_COB_ID n) % 2048, [BitVec.ofNat 8 (s.status Link.can)]⟩] ∧
        { t with io := s.io } = s) ∧
    (∀ (s : State),
      s.tpdoOn = true →
      (∀ n : Fin 8, n ≠ 0 → s.get (Reg.TPDO_TYPE n) = 1 ∧ bit (s.get (Reg.TPDO_COB_ID n)) 31 = false ∧ s.get (Reg.TPDO_MAP_COUNT n) = 0) →
      Completes (.syncReceived) s fun t =>
        (∀ n : Fin 8, n ≠ 0 → (t.tpdo n).frame = some [BitVec.ofNat 8 (s.status Link.can)]) ∧
        { t with io := s.io } = s) ∧
    (∀ (n : Fin 4) (v : BitVec 64) (s : State),
      s.pdoOn = true →
      s.linkUp Link.can = true →
      s.mode ≠ Mode.watch →
      s.sys.trans = none →
      (s.sys.resetDue.any fun d => d.1 = Link.can) = false →
      bit (s.get (Reg.RPDO_COB_ID n)) 31 = false →
      s.mapping (Reg.RPDO_MAP_COUNT n) (Reg.RPDO_MAP n) = [(Reg.HOT_CURSOR, 8)] →
      Completes (.rpdoReceived n (leBytes 8 v.toNat)) s fun t =>
        t.get Reg.HOT_CURSOR = v.toNat ∧
        SameBut [Reg.HOT_CURSOR] s t) ∧
    (∀ (ms : BitVec 28) (days : BitVec 16) (s : State),
      s.linkUp Link.can = true →
      bit (s.get Reg.COB_ID_TIME) 31 = true →
      s.get Reg.DISC_SOURCE = 1 →
      s.sys.timeOn = true →
      s.tim.fixed = false →
      ms.toNat < 86400000 →
      Completes (.timeReceived ms days) s fun t =>
        t.tim.fixed = true ∧
        t.tim.now = s.tim.now ∧
        t.get Reg.DISC_STATE = 2 ∧
        t.get Reg.EXT_OFFSET = ofInt 64 (((days.toNat * 86400000 + ms.toNat) * 40000 + s.get Reg.DISC_TIME_LATENCY_US * 40 : Nat) - (s.tim.now : Int)) ∧
        t.get Reg.DISC_LAST = s.tim.now) ∧
    (∀ (ms : BitVec 28) (days : BitVec 16) (s : State),
      s.linkUp Link.can = true →
      bit (s.get Reg.COB_ID_TIME) 31 = true →
      s.get Reg.DISC_SOURCE = 1 →
      s.sys.timeOn = true →
      86400000 ≤ ms.toNat →
      Completes (.timeReceived ms days) s fun t =>
        t.get Reg.DISC_REJECTS = (s.get Reg.DISC_REJECTS + 1) % 2 ^ 32 ∧
        SameBut [Reg.DISC_REJECTS, Reg.DSTATE_SEQ] s t) ∧
    (∀ (i : Nat) (p : Pkt) (s : State),
      s.pushStream = some i →
      (s.stream i).head = some p →
      (s.stream i).pushing = none →
      p.slots ≤ s.get (Reg.CREDITS i) →
      p.charged = false →
      Completes (.tpdo0PacketSend) s fun t =>
        ((t.stream i).pushing.map fun x => x.1) = some p ∧
        ((t.stream i).pushing.map fun x => x.2) = some ((p.bytes (((s.stream i).alive + 1) % 256)).drop 62) ∧
        t.get (Reg.CREDITS i) = s.get (Reg.CREDITS i) - p.slots) ∧
    (∀ (i : Nat) (p : Pkt) (s : State),
      s.pushStream = some i →
      (s.stream i).head = some p →
      (s.stream i).replay = [] →
      (s.stream i).pushing = some (p, []) →
      Completes (.tpdo0FragmentSent) s fun t =>
        (t.stream i).pushing = none ∧
        (t.stream i).queue = (s.stream i).queue.tail) ∧
    (∀ (e : Emcy) (r : List Emcy) (s : State),
      s.ev.emcy = e :: r →
      s.linkUp Link.can = true →
      s.mode ≠ Mode.boot →
      bit (s.get Reg.COB_ID_EMCY) 31 = false →
      s.canLive = true →
      s.emcyFree = true →
      Completes (.emcySend) s fun t =>
        t.ev.emcy = r ∧
        t.io.canOut = [⟨s.get Reg.COB_ID_EMCY % 2048, leBytes 2 e.code ++ leBytes 1 e.errReg ++ leBytes 1 e.status ++ leBytes 1 e.event ++ leBytes 3 (e.time / 40000)⟩] ∧
        t.io.emcyAt = some s.tim.now ∧
        { t with ev := s.ev, io := s.io } = s)

/-- With no operation queued or running, a fitted and discovered flash selected and a range that fits it (and, for a program or an erase, outside the part's own 16 MiB), each SPC operation is answered OK and waits with its code, flash, address, length and data; nothing else changes. -/
def Obligations.SpcOperationsQueue : Prop :=
    (∀ (l : Link) (s : State),
      Serves s l false →
      s.get Reg.SPC_OP_STATE ≠ 1 →
      s.get Reg.SPC_OP_STATE ≠ 2 →
      s.get Reg.SPC_OP_FLASH < s.brd.inForce.count →
      s.get (Reg.FLASH_STATE (s.get Reg.SPC_OP_FLASH)) = 1 →
      1 ≤ s.get Reg.SPC_OP_LEN →
      s.get Reg.SPC_OP_LEN ≤ 256 →
      s.get Reg.SPC_OP_ADDRESS + s.get Reg.SPC_OP_LEN ≤ s.flashSize (s.get Reg.SPC_OP_FLASH) →
      Completes (.spcRead l) s fun t =>
        Answered t l Result.ok ∧
        t.brd.spc = some ⟨1, s.get Reg.SPC_OP_FLASH, s.get Reg.SPC_OP_ADDRESS, s.get Reg.SPC_OP_LEN, s.dom Reg.SPC_OP_DATA, s.tim.now⟩ ∧
        t.get Reg.SPC_OP_STATE = 1 ∧
        SameButAnswer l [Reg.SPC_OP_STATE, Reg.SPCOP_SEQ] s { t with brd := s.brd }) ∧
    (∀ (l : Link) (s : State),
      Serves s l false →
      s.get Reg.SPC_OP_STATE ≠ 1 →
      s.get Reg.SPC_OP_STATE ≠ 2 →
      s.get Reg.SPC_OP_FLASH < s.brd.inForce.count →
      s.get (Reg.FLASH_STATE (s.get Reg.SPC_OP_FLASH)) = 1 →
      (0 < s.get Reg.SPC_OP_FLASH ∨ 0x1000000 ≤ s.get Reg.SPC_OP_ADDRESS) →
      1 ≤ s.get Reg.SPC_OP_LEN →
      s.get Reg.SPC_OP_ADDRESS % 256 + s.get Reg.SPC_OP_LEN ≤ 256 →
      (s.dom Reg.SPC_OP_DATA).length = s.get Reg.SPC_OP_LEN →
      s.get Reg.SPC_OP_ADDRESS + s.get Reg.SPC_OP_LEN ≤ s.flashSize (s.get Reg.SPC_OP_FLASH) →
      Completes (.spcProgram l) s fun t =>
        Answered t l Result.ok ∧
        t.brd.spc = some ⟨2, s.get Reg.SPC_OP_FLASH, s.get Reg.SPC_OP_ADDRESS, s.get Reg.SPC_OP_LEN, s.dom Reg.SPC_OP_DATA, s.tim.now⟩ ∧
        t.get Reg.SPC_OP_STATE = 1 ∧
        SameButAnswer l [Reg.SPC_OP_STATE, Reg.SPCOP_SEQ] s { t with brd := s.brd }) ∧
    (∀ (l : Link) (s : State),
      Serves s l false →
      s.get Reg.SPC_OP_STATE ≠ 1 →
      s.get Reg.SPC_OP_STATE ≠ 2 →
      s.get Reg.SPC_OP_FLASH < s.brd.inForce.count →
      s.get (Reg.FLASH_STATE (s.get Reg.SPC_OP_FLASH)) = 1 →
      (0 < s.get Reg.SPC_OP_FLASH ∨ 0x1000000 ≤ s.get Reg.SPC_OP_ADDRESS) →
      s.get Reg.SPC_OP_ADDRESS % 4096 = 0 →
      s.get Reg.SPC_OP_ADDRESS + 4096 ≤ s.flashSize (s.get Reg.SPC_OP_FLASH) →
      Completes (.spcErase4k l) s fun t =>
        Answered t l Result.ok ∧
        t.brd.spc = some ⟨3, s.get Reg.SPC_OP_FLASH, s.get Reg.SPC_OP_ADDRESS, s.get Reg.SPC_OP_LEN, s.dom Reg.SPC_OP_DATA, s.tim.now⟩ ∧
        t.get Reg.SPC_OP_STATE = 1 ∧
        SameButAnswer l [Reg.SPC_OP_STATE, Reg.SPCOP_SEQ] s { t with brd := s.brd }) ∧
    (∀ (l : Link) (s : State),
      Serves s l false →
      s.get Reg.SPC_OP_STATE ≠ 1 →
      s.get Reg.SPC_OP_STATE ≠ 2 →
      s.get Reg.SPC_OP_FLASH < s.brd.inForce.count →
      s.get (Reg.FLASH_STATE (s.get Reg.SPC_OP_FLASH)) = 1 →
      (0 < s.get Reg.SPC_OP_FLASH ∨ 0x1000000 ≤ s.get Reg.SPC_OP_ADDRESS) →
      s.get Reg.SPC_OP_ADDRESS % 65536 = 0 →
      s.get Reg.SPC_OP_ADDRESS + 65536 ≤ s.flashSize (s.get Reg.SPC_OP_FLASH) →
      Completes (.spcErase64k l) s fun t =>
        Answered t l Result.ok ∧
        t.brd.spc = some ⟨4, s.get Reg.SPC_OP_FLASH, s.get Reg.SPC_OP_ADDRESS, s.get Reg.SPC_OP_LEN, s.dom Reg.SPC_OP_DATA, s.tim.now⟩ ∧
        t.get Reg.SPC_OP_STATE = 1 ∧
        SameButAnswer l [Reg.SPC_OP_STATE, Reg.SPCOP_SEQ] s { t with brd := s.brd }) ∧
    (∀ (l : Link) (s : State),
      Serves s l false →
      s.get Reg.SPC_OP_STATE ≠ 1 →
      s.get Reg.SPC_OP_STATE ≠ 2 →
      s.get Reg.SPC_OP_FLASH < s.brd.inForce.count →
      s.get (Reg.FLASH_STATE (s.get Reg.SPC_OP_FLASH)) = 1 →
      Completes (.spcReadSfdp l) s fun t =>
        Answered t l Result.ok ∧
        t.brd.spc = some ⟨5, s.get Reg.SPC_OP_FLASH, s.get Reg.SPC_OP_ADDRESS, s.get Reg.SPC_OP_LEN, s.dom Reg.SPC_OP_DATA, s.tim.now⟩ ∧
        t.get Reg.SPC_OP_STATE = 1 ∧
        SameButAnswer l [Reg.SPC_OP_STATE, Reg.SPCOP_SEQ] s { t with brd := s.brd })

/-- An SPC operation that ends done changes no byte of any flash but those it programs, which then read as its data, or those it erases, which then read 0xFF; a read leaves every flash as it is and answers the bytes held. Writing a byte makes its address read the byte and leaves every other address; an erased range reads 0xFF and every other address reads as before; two memories in canonical form that read the same everywhere are equal. -/
def Obligations.FlashBytesChangeOnlyWhereWritten : Prop :=
    (∀ (o : SpcOp) (sfdp : Bytes) (s : State),
      s.brd.spc = some o →
      o.code = 2 →
      Memory.wf (s.flash o.flash) = true →
      Completes (.spcOpEnd 0 sfdp) s fun t =>
        (∀ i, i < o.data.length → (t.flash o.flash).read (o.addr + i) = o.data.getD i 0) ∧
        (∀ a, (a < o.addr ∨ o.addr + o.data.length ≤ a) → (t.flash o.flash).read a = (s.flash o.flash).read a) ∧
        (∀ n, n ≠ o.flash → t.flash n = s.flash n) ∧
        t.get Reg.SPC_OP_STATE = 3 ∧
        t.get Reg.SPC_OP_STATUS = 0 ∧
        t.brd.spc = none) ∧
    (∀ (o : SpcOp) (sfdp : Bytes) (s : State),
      s.brd.spc = some o →
      (o.code = 3 ∨ o.code = 4) →
      Completes (.spcOpEnd 0 sfdp) s fun t =>
        (∀ a, (t.flash o.flash).read a = if o.addr ≤ a ∧ a < o.addr + (if o.code = 3 then 4096 else 65536) then 0xFF#8 else (s.flash o.flash).read a) ∧
        (∀ n, n ≠ o.flash → t.flash n = s.flash n) ∧
        t.get Reg.SPC_OP_STATE = 3 ∧
        t.brd.spc = none) ∧
    (∀ (o : SpcOp) (sfdp : Bytes) (s : State),
      s.brd.spc = some o →
      o.code = 1 →
      Completes (.spcOpEnd 0 sfdp) s fun t =>
        t.brd.flash = s.brd.flash ∧
        t.dom Reg.SPC_RSP_DATA = (s.flash o.flash).readAll o.addr o.len ∧
        t.get Reg.SPC_OP_STATE = 3) ∧
    (∀ (m : Memory) (a : Nat) (v : Byte), Memory.wf m = true → (m.write a v).read a = v ∧ ∀ b, b ≠ a → (m.write a v).read b = m.read b) ∧
    (∀ (m : Memory) (a n b : Nat), (m.erase a n).read b = if a ≤ b ∧ b < a + n then 0xFF#8 else m.read b) ∧
    (∀ m k : Memory, Memory.wf m = true → Memory.wf k = true → (∀ a, m.read a = k.read a) → m = k)

/-- TWB_GO with a legal address and something to do, on a free bus, starts a transfer with the values of its write; it ends done with its data, or by a not-acknowledge, an SCL timeout or a conflict with their statuses; a conflict is counted once with event 53 and, while retries are left, the transfer starts again; TWB_RECOVER returns a stuck bus to idle; a stuck clock latches event 52. A mask of output pins that no flash select owns is driven high by GPIO_SET and low by GPIO_CLEAR; every other pin keeps its level and nothing else changes. -/
def Obligations.TwoWirePortAndPins : Prop :=
    (∀ (l : Link) (s : State),
      Serves s l false →
      s.get Reg.TWB_STATE ≠ 1 →
      s.get Reg.TWB_STATE ≠ 3 →
      8 ≤ s.get Reg.TWB_ADDR →
      s.get Reg.TWB_ADDR ≤ 0x77 →
      (s.dom Reg.TWB_WDATA ≠ [] ∨ s.get Reg.TWB_RLEN ≠ 0) →
      Completes (.twbGo l .free) s fun t =>
        Answered t l Result.ok ∧
        t.get Reg.TWB_STATE = 1 ∧
        t.brd.twb = TwbPhase.running ∧
        t.brd.twbAddr = s.get Reg.TWB_ADDR ∧
        t.brd.twbData = s.dom Reg.TWB_WDATA ∧
        t.brd.twbLen = s.get Reg.TWB_RLEN ∧
        t.brd.twbLeft = s.get Reg.TWB_RETRIES ∧
        SameButAnswer l [Reg.TWB_STATE, Reg.TWB_SEQ] s { t with brd := s.brd }) ∧
    (∀ (l : Link) (s : State),
      Serves s l false →
      s.get Reg.TWB_STATE ≠ 1 →
      Completes (.twbRecover l true) s fun t =>
        Answered t l Result.ok ∧
        t.get Reg.TWB_STATE = 0 ∧
        t.get Reg.TWB_RECOVERIES = (s.get Reg.TWB_RECOVERIES + 1) % 2 ^ 32 ∧
        SameButAnswer l [Reg.TWB_STATE, Reg.TWB_RECOVERIES, Reg.TWB_SEQ] s { t with brd := s.brd }) ∧
    (∀ (nackByte : BitVec 8) (rdata : Bytes) (s : State),
      s.brd.twb = TwbPhase.running →
      Completes (.twbTransferEnd .done nackByte rdata) s fun t =>
        t.get Reg.TWB_STATUS = 0 ∧
        t.get Reg.TWB_STATE = 2 ∧
        t.dom Reg.TWB_RDATA = rdata.take s.brd.twbLen ∧
        t.brd.twb = TwbPhase.idle) ∧
    (∀ (nackByte : BitVec 8) (rdata : Bytes) (s : State),
      s.brd.twb = TwbPhase.running →
      Completes (.twbTransferEnd .dataNack nackByte rdata) s fun t =>
        t.get Reg.TWB_STATUS = 2 ∧
        t.get Reg.TWB_NACK_BYTE = nackByte.toNat ∧
        t.get Reg.TWB_STATE = 2 ∧
        t.dom Reg.TWB_RDATA = []) ∧
    (∀ (s : State),
      s.brd.twb = TwbPhase.running →
      Completes (.twbSclTimeout) s fun t =>
        t.get Reg.TWB_STATUS = 5 ∧
        t.get Reg.TWB_STATE = 2 ∧
        t.brd.sclHeld = true) ∧
    (∀ (s : State),
      s.brd.sclHeld = true →
      s.get Reg.TWB_STATE ≠ 3 →
      Completes (.twbSclStuck) s fun t =>
        t.get Reg.TWB_STATUS = 4 ∧
        t.get Reg.TWB_STATE = 3 ∧
        t.get Reg.TWB_STUCKS = (s.get Reg.TWB_STUCKS + 1) % 2 ^ 32 ∧
        t.latched 52 = true ∧
        t.brd.sclHeld = false) ∧
    (∀ (s : State),
      s.brd.twb = TwbPhase.running →
      s.brd.twbSeen = false →
      Completes (.twbConflict) s fun t =>
        t.brd.twb = TwbPhase.conflict ∧
        t.get Reg.TWB_CONFLICTS = (s.get Reg.TWB_CONFLICTS + 1) % 2 ^ 32 ∧
        t.latched 53 = true) ∧
    (∀ (s : State),
      s.brd.twb = TwbPhase.conflict →
      s.brd.twbLeft = 0 →
      Completes (.twbBusReleased) s fun t =>
        t.get Reg.TWB_STATUS = 3 ∧
        t.get Reg.TWB_STATE = 2 ∧
        t.brd.twb = TwbPhase.idle) ∧
    (∀ (s : State),
      s.brd.twb = TwbPhase.conflict →
      s.brd.twbLeft ≠ 0 →
      Completes (.twbBusReleased) s fun t =>
        t.brd.twb = TwbPhase.again ∧
        t.regs = s.regs) ∧
    (∀ (s : State),
      s.brd.twb = TwbPhase.again →
      Completes (.twbRetry .free) s fun t =>
        t.brd.twb = TwbPhase.running ∧
        t.brd.twbLeft = s.brd.twbLeft - 1 ∧
        t.regs = s.regs) ∧
    (∀ (l : Link) (mask : BitVec 32) (s : State),
      Serves s l false →
      mask.toNat &&& s.gpioOwned = 0 →
      clrMask mask.toNat (s.get Reg.GPIO_DIR) = 0 →
      mask.toNat < 2 ^ 24 →
      Completes (.gpioSet l mask) s fun t =>
        Answered t l Result.ok ∧
        (∀ p, t.brd.gpioOut.testBit p = (mask.toNat.testBit p || s.brd.gpioOut.testBit p)) ∧
        SameButAnswer l [] s { t with brd := { t.brd with gpioOut := s.brd.gpioOut } }) ∧
    (∀ (l : Link) (mask : BitVec 32) (s : State),
      Serves s l false →
      mask.toNat &&& s.gpioOwned = 0 →
      clrMask mask.toNat (s.get Reg.GPIO_DIR) = 0 →
      mask.toNat < 2 ^ 24 →
      Completes (.gpioClear l mask) s fun t =>
        Answered t l Result.ok ∧
        (∀ p, t.brd.gpioOut.testBit p = (!mask.toNat.testBit p && s.brd.gpioOut.testBit p)) ∧
        SameButAnswer l [] s { t with brd := { t.brd with gpioOut := s.brd.gpioOut } })

/-- A write of 1 sets the channel's count and TMR_WRAPS to 0 and changes no flag nor anything else; on a claimed channel it is refused with DENIED and for any value other than 1 with RANGE, and nothing changes but the answer. -/
def Obligations.TimerRestartIsR498 : Prop :=
    (∀ (l : Link) (n : Fin 16) (s : State),
      Serves s l false →
      s.get (Reg.TMR_OWNER n) ≠ 1 →
      Completes (.tmrRestart l n 1#8) s fun t =>
        Answered t l Result.ok ∧
        t.get (Reg.TMR_COUNT n) = 0 ∧
        t.get (Reg.TMR_WRAPS n) = 0 ∧
        SameButAnswer l [Reg.TMR_COUNT n, Reg.TMR_WRAPS n] s t) ∧
    (∀ (l : Link) (n : Fin 16) (v : BitVec 8) (s : State),
      Serves s l false →
      s.get (Reg.TMR_OWNER n) = 1 →
      Completes (.tmrRestart l n v) s fun t =>
        Answered t l Result.denied ∧
        SameButAnswer l [] s t) ∧
    (∀ (l : Link) (n : Fin 16) (v : BitVec 8) (s : State),
      Serves s l false →
      s.get (Reg.TMR_OWNER n) ≠ 1 →
      v ≠ 1#8 →
      Completes (.tmrRestart l n v) s fun t =>
        Answered t l Result.range ∧
        SameButAnswer l [] s t)

/-- A counting tick at or above TMR_RELOAD brings the count to 0, counts TMR_WRAPS and sets the wrap flag; one that brings the count to TMR_MATCH sets the match flag; TMR_FLAG_CLEAR clears the flags of its mask in both objects; TMR_GROUP_LOAD gives channel BASE + k the count of floor(k * P / N). The end of a phase term leaves the frequency term alone as the rate; 3 s without an accepted event in LOCKED or ACQUIRING is HOLDOVER with event 6; an edge that changes a gate's level is shown, counted and timed, and one that its events enable latches event 55. -/
def Obligations.TimersDisciplineAndGates : Prop :=
    (∀ (n : Fin 16) (s : State),
      s.counts n = true →
      s.get Reg.WAKE_TIMER ≠ n →
      (s.tmr n).mask = 0 →
      (s.tmr n).reload ≤ s.get (Reg.TMR_COUNT n) →
      (s.tmr n).match_ ≠ 0 →
      Completes (.timerWrap n) s fun t =>
        t.get (Reg.TMR_COUNT n) = 0 ∧
        t.get (Reg.TMR_WRAPS n) = (s.get (Reg.TMR_WRAPS n) + 1) % 2 ^ 32 ∧
        t.get (Reg.TMR_FLAGS n) = s.get (Reg.TMR_FLAGS n) ||| 2 ∧
        t.get Reg.TMR_FLAGS_ALL = s.get Reg.TMR_FLAGS_ALL ||| (2 * 4 ^ n.val) ∧
        SameBut [Reg.TMR_COUNT n, Reg.TMR_WRAPS n, Reg.TMR_FLAGS n, Reg.TMR_FLAGS_ALL] s t) ∧
    (∀ (n : Fin 16) (s : State),
      s.counts n = true →
      s.get Reg.WAKE_TIMER ≠ n →
      (s.tmr n).mask = 0 →
      s.get (Reg.TMR_COUNT n) < (s.tmr n).reload →
      s.get (Reg.TMR_COUNT n) + 1 = (s.tmr n).match_ →
      Completes (.timerMatch n) s fun t =>
        t.get (Reg.TMR_COUNT n) = (s.tmr n).match_ ∧
        t.get (Reg.TMR_FLAGS n) = s.get (Reg.TMR_FLAGS n) ||| 1 ∧
        SameBut [Reg.TMR_COUNT n, Reg.TMR_FLAGS n, Reg.TMR_FLAGS_ALL] s t) ∧
    (∀ (n : Fin 16) (s : State),
      s.counts n = true →
      s.get Reg.WAKE_TIMER ≠ n →
      (s.tmr n).mask.testBit 1 = true →
      (s.tmr n).reload ≤ s.get (Reg.TMR_COUNT n) →
      Completes (.timerWrap n) s fun t =>
        t.get (Reg.TMR_COUNT n) = 0 ∧
        t.latched 23 = true) ∧
    (∀ (l : Link) (n : Fin 16) (mask : BitVec 8) (s : State),
      Serves s l false →
      mask.toNat ≤ 3 →
      Completes (.tmrFlagClear l n mask) s fun t =>
        Answered t l Result.ok ∧
        t.get (Reg.TMR_FLAGS n) = clrMask (s.get (Reg.TMR_FLAGS n)) mask.toNat ∧
        t.get Reg.TMR_FLAGS_ALL = clrMask (s.get Reg.TMR_FLAGS_ALL) (mask.toNat * 4 ^ n.val) ∧
        SameButAnswer l [Reg.TMR_FLAGS n, Reg.TMR_FLAGS_ALL] s t) ∧
    (∀ (l : Link) (s : State),
      Serves s l false →
      s.get Reg.TMR_GROUP_BASE + s.get Reg.TMR_GROUP_N ≤ 16 →
      (∀ k, k < s.get Reg.TMR_GROUP_N → s.get (Reg.TMR_OWNER (s.get Reg.TMR_GROUP_BASE + k)) ≠ 1 ∧ s.tmr (s.get Reg.TMR_GROUP_BASE + k) = s.tmr (s.get Reg.TMR_GROUP_BASE)) →
      Completes (.tmrGroupLoad l 1#8) s fun t =>
        Answered t l Result.ok ∧
        (∀ k, k < s.get Reg.TMR_GROUP_N → t.get (Reg.TMR_COUNT (s.get Reg.TMR_GROUP_BASE + k)) = k * ((s.tmr (s.get Reg.TMR_GROUP_BASE)).reload + 1) / s.get Reg.TMR_GROUP_N) ∧
        (∀ c, c < 16 → t.get (Reg.TMR_WRAPS c) = s.get (Reg.TMR_WRAPS c) ∧ t.get (Reg.TMR_FLAGS c) = s.get (Reg.TMR_FLAGS c))) ∧
    (∀ (s : State),
      Completes (.discPhaseEnd) s fun t =>
        t.tim.slew = 0 ∧
        t.tim.freq = s.tim.freq ∧
        t.tim.now = s.tim.now ∧
        t.get Reg.TICK_RATE_PPB = ofInt 32 (max (-100000) (min 100000 s.tim.freq)) ∧
        SameBut [Reg.TICK_RATE_PPB] s { t with tim := s.tim }) ∧
    (∀ (s : State),
      (s.get Reg.DISC_STATE = 2 ∨ s.get Reg.DISC_STATE = 3) →
      Completes (.discHoldover) s fun t =>
        t.get Reg.DISC_STATE = 4 ∧
        t.tim.freq = s.tim.freq ∧
        t.tim.slew = 0 ∧
        t.latched 6 = true) ∧
    (∀ (g : Fin 8) (s : State),
      s.sys.phase = ResetPhase.released →
      s.sys.timeOn = true →
      s.get Reg.DISC_PPS_GATE ≠ g →
      s.get (Reg.GATE_LEVEL g) ≠ 1 →
      s.get (Reg.GATE_EDGE_EVENT g) = 0 →
      Completes (.gateEdge g true) s fun t =>
        t.get (Reg.GATE_LEVEL g) = 1 ∧
        t.get (Reg.GATE_RISES g) = (s.get (Reg.GATE_RISES g) + 1) % 2 ^ 32 ∧
        t.get (Reg.GATE_EDGE_TIME g) = s.tim.now - max 1 (40 * s.get (Reg.GATE_FILTER_US g)) ∧
        SameBut [Reg.GATE_LEVEL g, Reg.GATE_RISES g, Reg.GATE_EDGE_TIME g, Reg.GATE_SEQ g] s t) ∧
    (∀ (g : Fin 8) (s : State),
      s.sys.phase = ResetPhase.released →
      s.sys.timeOn = true →
      s.get Reg.DISC_PPS_GATE ≠ g →
      s.get (Reg.GATE_LEVEL g) ≠ 0 →
      (s.get (Reg.GATE_EDGE_EVENT g)).testBit 1 = true →
      s.mode ≠ Mode.watch →
      s.sys.trans = none →
      Completes (.gateEdge g false) s fun t =>
        t.get (Reg.GATE_LEVEL g) = 0 ∧
        t.get (Reg.GATE_FALLS g) = (s.get (Reg.GATE_FALLS g) + 1) % 2 ^ 32 ∧
        t.get (Reg.GATE_EDGE_TIME g) = s.tim.now - max 1 (40 * s.get (Reg.GATE_FILTER_US g)) ∧
        t.latched 55 = true)

/-- SCAN_START of data with a known polynomial starts a scan; it ends with the check value of the polynomial over the data, status 0, or 1 with event 47 where the comparison fails; SCAN_ABORT ends it with status 2; a first failed self-test is only remembered, the second in a row fails the unit, which unit 3 then covers, with event 47. -/
def Obligations.ScansAndSelfTests : Prop :=
    (∀ (l : Link) (s : State),
      Serves s l false →
      s.get Reg.SCAN_STATE ≠ 1 →
      s.scanRefused = false →
      s.get Reg.SCAN_POLY ≤ 5 →
      s.get Reg.SCAN_SOURCE = 0 →
      s.dom Reg.SCAN_DATA ≠ [] →
      Completes (.scanStart l) s fun t =>
        Answered t l Result.ok ∧
        t.get Reg.SCAN_STATE = 1 ∧
        t.chk.scanAt = s.tim.now ∧
        SameButAnswer l [Reg.SCAN_STATE, Reg.SCAN_SEQ] s { t with chk := s.chk }) ∧
    (∀ (l : Link) (s : State),
      Serves s l false →
      s.get Reg.SCAN_STATE = 1 →
      Completes (.scanAbort l) s fun t =>
        Answered t l Result.ok ∧
        t.get Reg.SCAN_STATE = 2 ∧
        t.get Reg.SCAN_STATUS = 2 ∧
        SameButAnswer l [Reg.SCAN_VALUE, Reg.SCAN_STATUS, Reg.SCAN_DURATION, Reg.SCAN_STATE, Reg.SCAN_SEQ] s { t with free := s.free }) ∧
    (∀ (p : Poly) (s : State),
      s.get Reg.SCAN_STATE = 1 →
      s.get Reg.SCAN_SOURCE = 0 →
      s.get Reg.SCAN_COMPARE = 0 →
      polyOf (s.get Reg.SCAN_POLY) = some p →
      s.get Reg.SCAN_TAIL_BITS = 0 →
      Completes (.scanDone false) s fun t =>
        t.get Reg.SCAN_STATE = 2 ∧
        t.get Reg.SCAN_STATUS = 0 ∧
        t.get Reg.SCAN_VALUE = crcBits p (inputBits p (s.dom Reg.SCAN_DATA) 0) ∧
        SameBut [Reg.SCAN_VALUE, Reg.SCAN_STATUS, Reg.SCAN_DURATION, Reg.SCAN_STATE, Reg.SCAN_SEQ] s t) ∧
    (∀ (s : State),
      s.get Reg.SCAN_STATE = 1 →
      s.get Reg.SCAN_SOURCE = 0 →
      s.get Reg.SCAN_COMPARE = 1 →
      s.scanValue ≠ s.get Reg.SCAN_EXPECT →
      Completes (.scanDone false) s fun t =>
        t.get Reg.SCAN_STATUS = 1 ∧
        t.get Reg.SCAN_VALUE = s.scanValue ∧
        t.latched 47 = true) ∧
    (∀ (u : Fin 4) (s : State),
      s.get (Reg.CHK_UNIT_STATE u) ≠ 1 →
      Tab.get s.chk.streak u = 0 →
      Completes (.checkSelftest u false) s fun t =>
        Tab.get t.chk.streak u = 1 ∧
        { t with chk := s.chk } = s) ∧
    (∀ (u : Fin 4) (s : State),
      s.get (Reg.CHK_UNIT_STATE u) ≠ 1 →
      Tab.get s.chk.streak u = 1 →
      u ≠ 3 →
      s.chk.covers = none →
      s.get (Reg.CHK_UNIT_STATE 3) ≠ 1 →
      Completes (.checkSelftest u false) s fun t =>
        t.get (Reg.CHK_UNIT_STATE u) = 1 ∧
        t.get (Reg.CHK_COVERING 3) = 2 ^ u.val ∧
        t.chk.covers = some u ∧
        t.latched 47 = true)

/-- A command the mailbox runs acts as R537 gives and ends with state 2: NONCE places a fresh nonce, READ_CERT and TOKEN_WRITE move at most 128 bytes within the object, FW_WRITE at the loaded length appends them; TOKEN_SUBMIT, FW_BEGIN and FW_FINISH start their verification, erase and check; RESET resets the part with cause 7. -/
def Obligations.MailboxCommandsEnd : Prop :=
    (∀ (s : State),
      s.mbxRuns 1 = true →
      s.authHolds = false →
      Completes (.mbxNonce) s fun t =>
        t.io.mbxState = 2 ∧
        t.io.mbxLen = 32 ∧
        t.sec.nonce = some ((List.range 32).map (Config.entropy s.sec.draws)) ∧
        t.sec.draws = s.sec.draws + 1 ∧
        SameBut [Reg.TOK_SEQ] s { t with io := s.io, sec := s.sec, doms := s.doms }) ∧
    (∀ (s : State),
      s.mbxRuns 2 = true →
      s.io.mbxLen ≤ 128 →
      s.io.mbxOffset + s.io.mbxLen ≤ 5296 →
      Completes (.mbxReadCert) s fun t =>
        t.io.mbxState = 2 ∧
        t.io.mbxData = splice s.io.mbxData 0 (slice (s.dom Reg.DEVICE_CERT) s.io.mbxOffset s.io.mbxLen) ∧
        { t with io := s.io } = s) ∧
    (∀ (s : State),
      s.mbxRuns 3 = true →
      s.io.mbxLen ≤ 128 →
      s.io.mbxOffset + s.io.mbxLen ≤ 3384 →
      Completes (.mbxTokenWrite) s fun t =>
        t.io.mbxState = 2 ∧
        t.dom Reg.TOKEN = splice (s.dom Reg.TOKEN) s.io.mbxOffset (s.io.mbxData.take s.io.mbxLen) ∧
        { t with io := s.io, doms := s.doms } = s) ∧
    (∀ (s : State),
      s.mbxRuns 4 = true →
      s.sec.verifying = none →
      s.get Reg.TOKEN_STATE ≠ 1 →
      Completes (.mbxTokenSubmit) s fun t =>
        t.sec.verifying = some (Link.twa, s.dom Reg.TOKEN) ∧
        t.get Reg.TOKEN_STATE = 1 ∧
        t.io = s.io) ∧
    (∀ (s : State),
      s.mbxRuns 5 = true →
      s.mbxBarred = false →
      s.mode = Mode.boot →
      field s.io.mbxData 0 1 ≤ 1 →
      Completes (.mbxFwBegin) s fun t =>
        t.sec.updating = some (decide (field s.io.mbxData 0 1 = 1)) ∧
        t.get Reg.FW_UPDATE_STATE = 1 ∧
        t.io = s.io) ∧
    (∀ (s : State),
      s.mbxRuns 6 = true →
      s.mbxBarred = false →
      s.io.mbxLen ≤ 128 →
      s.io.mbxOffset = s.get Reg.FW_LOADED_BYTES →
      s.get Reg.FW_UPDATE_STATE = 2 →
      s.get Reg.FW_LOADED_BYTES + (s.io.mbxData.take s.io.mbxLen).length ≤ slotSize →
      Completes (.mbxFwWrite) s fun t =>
        t.io.mbxState = 2 ∧
        t.get Reg.FW_LOADED_BYTES = s.get Reg.FW_LOADED_BYTES + (s.io.mbxData.take s.io.mbxLen).length ∧
        SameBut [Reg.FW_LOADED_BYTES, Reg.FWU_SEQ] s { t with io := s.io, brd := s.brd }) ∧
    (∀ (s : State),
      s.mbxRuns 7 = true →
      s.mbxBarred = false →
      s.get Reg.FW_UPDATE_STATE = 2 →
      Completes (.mbxFwFinish) s fun t =>
        t.get Reg.FW_UPDATE_STATE = 3 ∧
        SameBut [Reg.FW_UPDATE_STATE, Reg.FWU_SEQ] s t) ∧
    (∀ (s : State),
      s.mbxRuns 8 = true →
      Completes (.mbxReset) s fun t =>
        t.mode = Mode.boot ∧
        t.sys.phase = ResetPhase.resetHeld ∧
        t.get Reg.RESET_CAUSE = 7 ∧
        t.brd.flash = s.brd.flash)

/-- BEGIN off trial and outside TEST erases the slot that does not run; the erase leaves the slot erased and loading open; a completed transfer is stored after what is loaded and changes no byte outside the slot; FINISH verifies; a slot that verifies is READY with event 5, one that does not is FAILED with its result; ABANDON leaves no update; FW_CONFIRM on trial raises the fused SVN, and without a trial changes nothing; a demand page load takes flash 0 out of continuous-read mode and changes no byte of it, and one whose reads both differ is a critical fault. -/
def Obligations.FirmwareUpdatesRun : Prop :=
    (∀ (l : Link) (s : State),
      Serves s l false →
      s.onTrial = false →
      s.mode ≠ Mode.test →
      Completes (.fwUpdateBegin l) s fun t =>
        Answered t l Result.ok ∧
        t.sec.updating = some (!s.runsB) ∧
        t.slotInfo (!s.runsB) = none ∧
        t.slotInfo s.runsB = s.slotInfo s.runsB ∧
        t.get Reg.FW_UPDATE_STATE = 1 ∧
        SameButAnswer l [Reg.FW_OTHER_VERSION, Reg.FW_OTHER_SVN, Reg.FWU_SEQ, Reg.FW_UPDATE_STATE] s { t with sec := s.sec }) ∧
    (∀ (b : Bool) (s : State),
      s.sec.updating = some b →
      s.get Reg.FW_UPDATE_STATE = 1 →
      Completes (.fwEraseDone) s fun t =>
        (∀ a, (t.flash 0).read a = if slotBase b ≤ a ∧ a < slotBase b + slotSize then 0xFF#8 else (s.flash 0).read a) ∧
        t.get Reg.FW_UPDATE_STATE = 2 ∧
        t.get Reg.FW_LOADED_BYTES = 0) ∧
    (∀ (l : Link) (b : Bool) (d : Bytes) (s : State),
      Serves s l false →
      s.sec.updating = some b →
      s.get Reg.FW_UPDATE_STATE = 2 →
      s.get Reg.FW_LOADED_BYTES + d.length ≤ slotSize →
      Memory.wf (s.flash 0) = true →
      Completes (.fwImageAppend l d) s fun t =>
        Answered t l Result.ok ∧
        (t.flash 0).readAll (slotBase b + s.get Reg.FW_LOADED_BYTES) d.length = d ∧
        t.get Reg.FW_LOADED_BYTES = s.get Reg.FW_LOADED_BYTES + d.length ∧
        (∀ a, (a < slotBase b + s.get Reg.FW_LOADED_BYTES ∨ slotBase b + s.get Reg.FW_LOADED_BYTES + d.length ≤ a) → (t.flash 0).read a = (s.flash 0).read a) ∧
        SameButAnswer l [Reg.FW_LOADED_BYTES, Reg.FWU_SEQ] s { t with brd := s.brd }) ∧
    (∀ (l : Link) (s : State),
      Serves s l false →
      s.get Reg.FW_UPDATE_STATE = 2 →
      Completes (.fwUpdateFinish l) s fun t =>
        Answered t l Result.ok ∧
        t.get Reg.FW_UPDATE_STATE = 3 ∧
        SameButAnswer l [Reg.FW_UPDATE_STATE, Reg.FWU_SEQ] s t) ∧
    (∀ (l : Link) (b : Bool) (s : State),
      Serves s l false →
      s.sec.updating = some b →
      Completes (.fwUpdateAbandon l) s fun t =>
        Answered t l Result.ok ∧
        t.sec.updating = none ∧
        t.get Reg.FW_UPDATE_STATE = 0 ∧
        t.brd = s.brd) ∧
    (∀ (digests sig : Bool) (ver : BitVec 32) (svn : Fin 65) (b : Bool) (s : State),
      s.sec.updating = some b →
      s.get Reg.FW_UPDATE_STATE = 3 →
      s.fwVerdict b digests sig = FwVerdict.good ver svn →
      Completes (.fwVerifyDone digests sig) s fun t =>
        t.get Reg.FW_UPDATE_STATE = 4 ∧
        t.get Reg.FW_UPDATE_RESULT = 0 ∧
        t.slotInfo b = some (ver.toNat, svn.val) ∧
        t.latched 5 = true) ∧
    (∀ (digests sig b : Bool) (s : State),
      s.sec.updating = some b →
      s.get Reg.FW_UPDATE_STATE = 3 →
      (fwHeadOk ((s.flash 0).readAll (slotBase b) 64) = false ∨ s.fwVerdict b digests sig = FwVerdict.check) →
      Completes (.fwVerifyDone digests sig) s fun t =>
        t.get Reg.FW_UPDATE_STATE = 5 ∧
        t.get Reg.FW_UPDATE_RESULT = 5 ∧
        t.brd.flash = s.brd.flash ∧
        t.ev = s.ev) ∧
    (∀ (digests sig b : Bool) (s : State),
      s.sec.updating = some b →
      s.get Reg.FW_UPDATE_STATE = 3 →
      fwHeadOk ((s.flash 0).readAll (slotBase b) 64) = true →
      (sig = false ∨ field ((s.flash 0).readAll (slotBase b) 64) 12 2 < s.get Reg.FW_SVN_FUSED) →
      Completes (.fwVerifyDone digests sig) s fun t =>
        t.get Reg.FW_UPDATE_STATE = 5 ∧
        t.get Reg.FW_UPDATE_RESULT = 3 ∧
        t.brd.flash = s.brd.flash ∧
        t.latched 62 = true) ∧
    (∀ (l : Link) (s : State),
      Serves s l false →
      (s.mode = Mode.ready ∨ s.mode = Mode.run) →
      s.onTrial = false →
      Completes (.fwConfirm l 1#8) s fun t =>
        Answered t l Result.ok ∧
        SameButAnswer l [] s t) ∧
    (∀ (l : Link) (s : State),
      Serves s l false →
      (s.mode = Mode.ready ∨ s.mode = Mode.run) →
      s.onTrial = true →
      Completes (.fwConfirm l 1#8) s fun t =>
        Answered t l Result.ok ∧
        t.get Reg.FW_SVN_FUSED = max (s.get Reg.FW_SVN_FUSED) (((s.slotInfo s.runsB).map (·.2)).getD 0) ∧
        SameButAnswer l [Reg.FW_SVN_FUSED] s { t with brd := s.brd }) ∧
    (∀ (first second : Bool) (s : State),
      (first = true ∨ second = true) →
      Completes (.demandPageLoad first second) s fun t =>
        t.brd.flash = s.brd.flash ∧
        (s.sys.phase = ResetPhase.released → t.brd.continuous = false) ∧
        { t with brd := s.brd } = s) ∧
    (∀ (s : State),
      s.sys.phase = ResetPhase.released →
      Completes (.demandPageLoad false false) s fun t =>
        bit (t.get Reg.FAULT_ACTIVE) 4 = true ∧
        t.get Reg.FAULT_LAST = 4 ∧
        t.latched 47 = true)

/-- A nonce request, unless one failed in the last second, places fresh bytes and makes them the valid nonce; a submitted token is verified; a token that passes opens its session on the link that submitted it, until its expiry, or releases, enrols or rotates the owner key, and spends the nonce; one that fails changes nothing else but its result, and where the fourth check failed counts AUTH_FAILS with event 62; a session is closed by its link and, where it is a test session in TEST, its expiry resets the part. -/
def Obligations.TokensOpenSessionsAndMoveOwnership : Prop :=
    (∀ (l : Link) (s : State),
      Serves s l false →
      s.authHolds = false →
      Completes (.nonceRequest l 1#8) s fun t =>
        Answered t l Result.ok ∧
        t.sec.nonce = some ((List.range 32).map (Config.entropy s.sec.draws)) ∧
        t.dom Reg.NONCE = (List.range 32).map (Config.entropy s.sec.draws) ∧
        t.sec.draws = s.sec.draws + 1 ∧
        SameButAnswer l [Reg.TOK_SEQ] s { t with sec := s.sec, doms := s.doms }) ∧
    (∀ (l : Link) (s : State),
      Serves s l false →
      s.authHolds = true →
      Completes (.nonceRequest l 1#8) s fun t =>
        Answered t l Result.busy ∧
        SameButAnswer l [] s t) ∧
    (∀ (s : State),
      Completes (.nonceExpire) s fun t =>
        t = { s with sec := { s.sec with nonce := none } }) ∧
    (∀ (l : Link) (s : State),
      Serves s l false →
      s.get Reg.TOKEN_STATE ≠ 1 →
      Completes (.tokenSubmit l 1#8) s fun t =>
        Answered t l Result.ok ∧
        t.sec.verifying = some (l, s.dom Reg.TOKEN) ∧
        t.get Reg.TOKEN_STATE = 1 ∧
        SameButAnswer l [Reg.TOKEN_STATE, Reg.TOK_SEQ] s { t with sec := s.sec }) ∧
    (∀ (l : Link) (tok : Bytes) (s : State),
      s.sec.verifying = some (l, tok) →
      field tok 6 1 = 1 →
      s.tokenCheck tok false = Result.ok →
      Completes (.tokenTest) s fun t =>
        t.sec.verifying = none ∧
        t.sec.nonce = none ∧
        t.get Reg.TOKEN_RESULT = 0 ∧
        t.get Reg.TOKEN_STATE = 2 ∧
        t.get Reg.SESSION_KIND = 1 ∧
        t.get Reg.SESSION_LINK = Link.code l ∧
        t.get Reg.SESSION_EXPIRY = (s.tim.now + field tok 52 4 * 40000000) % 2 ^ 64 ∧
        t.mode = s.mode) ∧
    (∀ (l : Link) (tok : Bytes) (s : State),
      s.sec.verifying = some (l, tok) →
      field tok 6 1 = 2 →
      s.tokenCheck tok false = Result.ok →
      s.mode = Mode.hold →
      Completes (.tokenRecovery) s fun t =>
        t.sec.verifying = none ∧
        t.sec.nonce = none ∧
        t.get Reg.TOKEN_RESULT = 0 ∧
        t.get Reg.TOKEN_STATE = 2 ∧
        t.get Reg.SESSION_KIND = 2 ∧
        t.get Reg.SESSION_LINK = Link.code l ∧
        t.get Reg.SESSION_EXPIRY = (s.tim.now + field tok 52 4 * 40000000) % 2 ^ 64 ∧
        t.get Reg.HOLD_REASON = 7 ∧
        t.mode = Mode.hold) ∧
    (∀ (l : Link) (tok : Bytes) (s : State),
      s.sec.verifying = some (l, tok) →
      field tok 6 1 = 2 →
      s.tokenCheck tok false = Result.ok →
      s.mode = Mode.ready →
      s.sys.trans = none →
      Completes (.tokenRecovery) s fun t =>
        t.get Reg.SESSION_KIND = 2 ∧
        (∃ x, t.sys.trans = some x ∧ x.target = Mode.hold ∧ x.reason = 7)) ∧
    (∀ (l : Link) (tok : Bytes) (s : State),
      s.sec.verifying = some (l, tok) →
      field tok 6 1 = 3 →
      s.tokenCheck tok false = Result.ok →
      Completes (.tokenDebug) s fun t =>
        t.sec.verifying = none ∧
        t.sec.nonce = none ∧
        t.get Reg.TOKEN_RESULT = 0 ∧
        t.get Reg.TOKEN_STATE = 2 ∧
        t.get Reg.SESSION_KIND = 3 ∧
        t.get Reg.SESSION_LINK = Link.code l ∧
        t.get Reg.SESSION_EXPIRY = (s.tim.now + field tok 52 4 * 40000000) % 2 ^ 64 ∧
        t.get Reg.DEBUG_STATE = 1) ∧
    (∀ (l : Link) (tok : Bytes) (s : State),
      s.sec.verifying = some (l, tok) →
      field tok 6 1 = 4 →
      s.tokenCheck tok false = Result.ok →
      Completes (.ownerRelease) s fun t =>
        t.sec.verifying = none ∧
        t.sec.nonce = none ∧
        t.get Reg.TOKEN_RESULT = 0 ∧
        t.get Reg.TOKEN_STATE = 2 ∧
        t.get Reg.OWNER_LOCK = 0 ∧
        t.get Reg.CONFIG_EPOCH_MIN = 0 ∧
        t.dom Reg.OWNER_KEY = [] ∧
        t.get Reg.CONFIG_CRC = s.get Reg.CONFIG_CRC) ∧
    (∀ (l : Link) (tok : Bytes) (s : State),
      s.sec.verifying = some (l, tok) →
      field tok 6 1 = 5 →
      s.tokenCheck tok false = Result.ok →
      Completes (.ownerEnrol) s fun t =>
        t.sec.verifying = none ∧
        t.sec.nonce = none ∧
        t.get Reg.TOKEN_RESULT = 0 ∧
        t.get Reg.TOKEN_STATE = 2 ∧
        t.get Reg.OWNER_LOCK = 1 ∧
        t.dom Reg.OWNER_KEY = s.dom Reg.OWNER_KEY_CANDIDATE ∧
        t.get Reg.OWNER_BASE_CRC = s.get Reg.CONFIG_CRC ∧
        t.get Reg.CONFIG_EPOCH_MIN = 0) ∧
    (∀ (l : Link) (tok : Bytes) (s : State),
      s.sec.verifying = some (l, tok) →
      field tok 6 1 = 6 →
      s.tokenCheck tok false = Result.ok →
      Completes (.ownerRotate) s fun t =>
        t.sec.verifying = none ∧
        t.sec.nonce = none ∧
        t.get Reg.TOKEN_RESULT = 0 ∧
        t.get Reg.TOKEN_STATE = 2 ∧
        t.dom Reg.OWNER_KEY = s.dom Reg.OWNER_KEY_CANDIDATE ∧
        t.get Reg.OWNER_LOCK = s.get Reg.OWNER_LOCK) ∧
    (∀ (l : Link) (tok : Bytes) (badSig : Bool) (r : Result) (s : State),
      s.sec.verifying = some (l, tok) →
      s.tokenCheck tok badSig = r →
      r ≠ Result.ok →
      s.authFails tok badSig = false →
      Completes (.tokenRejected badSig) s fun t =>
        t.sec.verifying = none ∧
        t.sec.nonce = none ∧
        t.get Reg.TOKEN_RESULT = Result.code r ∧
        t.get Reg.TOKEN_STATE = 2 ∧
        SameBut [Reg.TOKEN_RESULT, Reg.TOKEN_STATE, Reg.TOK_SEQ] s { t with sec := s.sec, io := s.io }) ∧
    (∀ (l : Link) (tok : Bytes) (badSig : Bool) (r : Result) (s : State),
      s.sec.verifying = some (l, tok) →
      s.tokenCheck tok badSig = r →
      s.authFails tok badSig = true →
      Completes (.tokenRejected badSig) s fun t =>
        t.sec.nonce = none ∧
        t.get Reg.TOKEN_RESULT = Result.code Result.denied ∧
        t.get Reg.AUTH_FAILS = (s.get Reg.AUTH_FAILS + 1) % 2 ^ 32 ∧
        t.sec.failAt = some s.tim.now ∧
        t.latched 62 = true) ∧
    (∀ (l : Link) (s : State),
      Serves s l false →
      s.get Reg.SESSION_KIND = 2 →
      s.get Reg.SESSION_LINK = Link.code l →
      Completes (.sessionClose l 1#8) s fun t =>
        Answered t l Result.ok ∧
        t.get Reg.SESSION_KIND = 0 ∧
        t.get Reg.SESSION_LINK = 0 ∧
        t.get Reg.SESSION_EXPIRY = 0 ∧
        SameButAnswer l [Reg.SESSION_KIND, Reg.SESSION_LINK, Reg.SESSION_EXPIRY, Reg.TOK_SEQ] s t) ∧
    (∀ (s : State),
      s.get Reg.SESSION_KIND = 1 →
      s.mode = Mode.test →
      Completes (.sessionExpire) s fun t =>
        t.mode = Mode.boot ∧
        t.get Reg.RESET_CAUSE = 6 ∧
        t.get Reg.RESET_DETAIL = 1) ∧
    (∀ (s : State),
      s.get Reg.SESSION_KIND = 3 →
      s.sec.debugFuse = false →
      Completes (.sessionExpire) s fun t =>
        t.get Reg.SESSION_KIND = 0 ∧
        t.get Reg.DEBUG_STATE = 0 ∧
        t.sec.attached = 0 ∧
        t.mode = s.mode)

/-- QUOTE_GO takes the quote's values at its write and QUOTE_DONE shows them with their signature; DEBUG_DISABLE in HOLD blows the fuse for good and detaches every core; an attach within a debug session counts with event 63; an instruction that the TAP offers is selected, any other selects BYPASS (the model's choice, log entry 29). -/
def Obligations.QuotesAndDebugAccess : Prop :=
    (∀ (l : Link) (s : State),
      Serves s l false →
      s.get Reg.QUOTE_STATE ≠ 1 →
      Completes (.quoteGo l 1#8) s fun t =>
        Answered t l Result.ok ∧
        t.sec.quote = some s.quoteBody ∧
        t.get Reg.QUOTE_STATE = 1 ∧
        SameButAnswer l [Reg.QUOTE_STATE, Reg.QUOTE_SEQ] s { t with sec := s.sec }) ∧
    (∀ (b : Bytes) (s : State),
      s.sec.quote = some b →
      Completes (.quoteDone) s fun t =>
        t.sec.quote = none ∧
        t.get Reg.QUOTE_STATE = 2 ∧
        (t.dom Reg.QUOTE).take b.length = b ∧
        (t.dom Reg.QUOTE).length = b.length + 3312) ∧
    (∀ (l : Link) (s : State),
      Serves s l false →
      s.mode = Mode.hold →
      Completes (.debugDisable l 0xD5#8) s fun t =>
        Answered t l Result.ok ∧
        t.sec.debugFuse = true ∧
        t.sec.attached = 0 ∧
        t.get Reg.DEBUG_STATE = 2 ∧
        SameButAnswer l [Reg.DEBUG_STATE, Reg.DBG_SEQ] s { t with sec := s.sec }) ∧
    (∀ (core : Fin 4) (s : State),
      s.get Reg.DEBUG_STATE = 1 →
      Completes (.debugAttach core) s fun t =>
        bit t.sec.attached core = true ∧
        t.get Reg.DEBUG_ATTACHES = (s.get Reg.DEBUG_ATTACHES + 1) % 2 ^ 32 ∧
        t.latched 63 = true) ∧
    (∀ (i : TapInstr) (s : State),
      s.tapOffers i = true →
      Completes (.tapInstruction i) s fun t =>
        t = { s with sec := { s.sec with tap := i } }) ∧
    (∀ (i : TapInstr) (s : State),
      s.tapOffers i = false →
      Completes (.tapInstruction i) s fun t =>
        t = { s with sec := { s.sec with tap := TapInstr.bypass } })

/-- A temperature sample shows the hottest of the dies present, and one at 150.0 degrees or above is the critical fault OVERTEMP with event 9; a supply sample shows its values and counts the good samples; a comparator trip of VIN_LOW latches event 10 once until armed again, one of a core rail is the critical fault RAIL; a process deviation beyond its limit latches event 14 once for its die. A PA rail fault latches event 11, whichever row reports it, once until the rail has recovered; a PX that has not taken over its rails reports nothing (log entry 51); the PX main buck fault is a critical fault of source 1: FAULT_ACTIVE bit 1, FAULT_LAST and event 11. -/
def Obligations.MonitorsShowAndLatch : Prop :=
    (∀ (temps : Temps) (s : State),
      s.sys.phase = ResetPhase.released →
      1500 ≤ (hottest (s.dieTemps temps)).2.2 →
      bit (s.get Reg.FAULT_ACTIVE) 0 = false →
      Completes (.tempSample temps) s fun t =>
        t.latched 9 = true) ∧
    (∀ (temps : Temps) (s : State),
      s.sys.phase = ResetPhase.released →
      s.hlt.warnArmed = true →
      s.i16 Reg.TEMP_WARN ≤ (hottest (s.dieTemps temps)).2.2 →
      (hottest (s.dieTemps temps)).2.2 < 1500 →
      Completes (.tempSample temps) s fun t =>
        t.hlt.warnArmed = false ∧
        t.latched 8 = true) ∧
    (∀ (d : Nat × Nat × Int) (ds : List (Nat × Nat × Int)), hottest (d :: ds) ∈ d :: ds ∧ ∀ x ∈ d :: ds, x.2.2 ≤ (hottest (d :: ds)).2.2) ∧
    (∀ (v : Volts) (s : State),
      s.sys.phase = ResetPhase.released →
      Variant.quads s.variant = 4 →
      Completes (.voltageSample v) s fun t =>
        t.get Reg.VIN_MV = v.vin.toNat ∧
        t.get Reg.V_CORE_MV = v.core.toNat ∧
        t.get Reg.VIO_B_MV = v.vioB.toNat ∧
        t.get Reg.VIN_RIPPLE_MV = v.ripple.toNat ∧
        t.get (Reg.V_PA_MV 3) = v.pa3.toNat ∧
        t.hlt.railGood = (if s.railsGood v then min 10 (s.hlt.railGood + 1) else 0)) ∧
    (∀ (s : State),
      s.sys.phase = ResetPhase.released →
      s.hlt.vinArmed = true →
      Completes (.railComparatorTrip .vinLow) s fun t =>
        t.hlt.vinArmed = false ∧
        t.latched 10 = true ∧
        t.get Reg.FAULT_ACTIVE = s.get Reg.FAULT_ACTIVE) ∧
    (∀ (s : State),
      s.sys.phase = ResetPhase.released →
      s.hlt.vinArmed = false →
      Completes (.railComparatorTrip .vinLow) s fun t =>
        t = s) ∧
    (∀ (s : State),
      s.sys.phase = ResetPhase.released →
      bit (s.get Reg.FAULT_ACTIVE) 1 = false →
      Completes (.railComparatorTrip .core) s fun t =>
        bit (t.get Reg.FAULT_ACTIVE) 1 = true ∧
        t.get Reg.FAULT_LAST = 1 ∧
        t.latched 11 = true) ∧
    (∀ (q : Fin 4) (s : State),
      s.sys.phase = ResetPhase.released →
      Variant.quads s.variant = 4 →
      (s.quad q).railBad = false →
      Completes (.railComparatorTrip (.pa q)) s fun t =>
        t.latched 11 = true ∧
        (t.quad q).railBad = true) ∧
    (∀ (r : Rail) (q : Fin 4) (s : State),
      s.sys.phase = ResetPhase.released →
      (r = .pa q ∧ (s.quad q).railBad = true ∨ r = .pxMain ∧ s.vmainUp = false) →
      Completes (.railComparatorTrip r) s fun t =>
        t = s) ∧
    (∀ (p : Procs) (s : State),
      s.sys.phase = ResetPhase.released →
      bit (Variant.dieMask s.variant) 0 = true →
      s.get Reg.PROC_DRIFT_LIMIT < p.cx.natAbs →
      s.hlt.procHeld.testBit 0 = false →
      Completes (.processMeasure p) s fun t =>
        t.latched 14 = true ∧
        t.hlt.procHeld.testBit 0 = true) ∧
    (∀ (q : Fin 4) (s : State),
      s.sys.lx01 = LxDrive.px →
      q.val < Variant.quads s.variant →
      (s.quad q).railBad = false →
      Completes (.pxRailFault (some q)) s fun t =>
        t.latched 11 = true ∧
        (t.quad q).railBad = true) ∧
    (∀ (quad : Option (Fin 4)) (s : State),
      s.sys.lx01 ≠ LxDrive.px →
      Completes (.pxRailFault quad) s fun t =>
        t = s) ∧
    (∀ (s : State),
      s.sys.lx01 = LxDrive.px →
      s.sys.phase = ResetPhase.released →
      bit (s.get Reg.FAULT_ACTIVE) 1 = false →
      Completes (.pxRailFault none) s fun t =>
        t.latched 11 = true ∧
        bit (t.get Reg.FAULT_ACTIVE) 1 = true ∧
        t.get Reg.FAULT_LAST = 1) ∧
    (∀ (q : Fin 4) (s : State),
      q.val < Variant.quads s.variant →
      (s.quad q).railBad = false →
      Completes (.paRailFault q) s fun t =>
        t.latched 11 = true ∧
        (t.quad q).railBad = true)

/-- A CX PLL that loses lock is the critical fault CX_PLL with event 17, and its relock only ends the condition; FAULT_CLEAR clears exactly the sources whose condition has ended; a bark counts with event 4 and its bite resets the part with cause 3 and the core; an acknowledge clears exactly the latched bits of its mask and no fault and no timer flag; writing the log empties the buffer and moves the head by 32 bytes an entry; a corrected working-memory error counts with event 60, losing both copies resets with cause 8. -/
def Obligations.FaultsWatchdogsAndTheLog : Prop :=
    (∀ (s : State),
      s.sys.phase = ResetPhase.released →
      s.sys.pllLost = false →
      Completes (.cxPllUnlock) s fun t =>
        t.sys.pllLost = true ∧
        bit (t.get Reg.FAULT_ACTIVE) 2 = true ∧
        t.get Reg.FAULT_LAST = 2 ∧
        t.latched 17 = true) ∧
    (∀ (s : State),
      Completes (.cxPllRelock) s fun t =>
        t = { s with sys := { s.sys with pllLost := false } }) ∧
    (∀ (l : Link) (s : State),
      Serves s l false →
      Completes (.faultClear l 1#8) s fun t =>
        Answered t l Result.ok ∧
        t.get Reg.FAULT_ACTIVE = clrMask (s.get Reg.FAULT_ACTIVE) s.endedFaults ∧
        SameButAnswer l [Reg.FAULT_ACTIVE, Reg.FAULT_SEQ] s t) ∧
    (∀ (core : Fin 5) (s : State),
      s.sys.phase = ResetPhase.released →
      Completes (.watchdogBark core) s fun t =>
        t.get Reg.WDT_BARKS = (s.get Reg.WDT_BARKS + 1) % 2 ^ 32 ∧
        t.hlt.barking.testBit core.val = true ∧
        t.latched 4 = true) ∧
    (∀ (core : Fin 5) (s : State),
      s.hlt.barking.testBit core.val = true →
      Completes (.watchdogBite core) s fun t =>
        t.mode = Mode.boot ∧
        t.get Reg.RESET_CAUSE = 3 ∧
        t.get Reg.RESET_DETAIL = core.val) ∧
    (∀ (l : Link) (mask : BitVec 64) (s : State),
      Serves s l false →
      Completes (.evtAck l mask) s fun t =>
        Answered t l Result.ok ∧
        (∀ e, e < 64 → t.latched e = (s.latched e && !mask.toNat.testBit e)) ∧
        t.get Reg.FAULT_ACTIVE = s.get Reg.FAULT_ACTIVE ∧
        (∀ n, n < 16 → t.get (Reg.TMR_FLAGS n) = s.get (Reg.TMR_FLAGS n)) ∧
        t.get Reg.TMR_FLAGS_ALL = s.get Reg.TMR_FLAGS_ALL) ∧
    (∀ (e : LogEntry) (s : State),
      s.ev.log = [e] →
      s.flashTaken 0 = false →
      Completes (.eventLogWrite) s fun t =>
        t.ev.log = [] ∧
        t.get Reg.LOG_HEAD = (s.get Reg.LOG_HEAD + 32) % logSize ∧
        t.get Reg.LOG_SEQ_NEXT = (s.get Reg.LOG_SEQ_NEXT + 1) % 2 ^ 32 ∧
        SameBut [Reg.LOG_HEAD, Reg.LOG_SEQ_NEXT, Reg.LOGS_SEQ] s { t with ev := s.ev, brd := s.brd }) ∧
    (∀ (s : State),
      s.sys.phase = ResetPhase.released →
      Completes (.workMemError .corrected) s fun t =>
        t.get Reg.WORK_CORRECTED = (s.get Reg.WORK_CORRECTED + 1) % 2 ^ 32 ∧
        t.latched 60 = true) ∧
    (∀ (s : State),
      s.sys.phase = ResetPhase.released →
      Completes (.workMemError .bothCopies) s fun t =>
        t.mode = Mode.boot ∧
        t.get Reg.RESET_CAUSE = 8 ∧
        t.sys.phase = ResetPhase.resetHeld) ∧
    (∀ (s : State),
      s.sys.phase = ResetPhase.released →
      Completes (.workMemError .oneCopy) s fun t =>
        t.latched 61 = true ∧
        t.rep = s.rep ∧
        t.mode = s.mode)

/-- A step of a state with a command at the front of its queue is exec of that command on the state with the queue's rest; on an empty queue it is one tick of 25 ns (the model's choice, log entry 33). -/
def Obligations.StepRunsTheFrontCommand : Prop :=
    (∀ (c : Instr) (r : List Instr) (s : State), step { s with pending := c :: r } = exec c { s with pending := r }) ∧
    (∀ s : State, s.pending = [] → step s = .next s.tick)

/-- Whatever command a step runs, resets and power losses among them: a blown debug fuse stays blown, a retired line stays retired, the variant stays, and the queue is the one before without its front command. -/
def Obligations.StepsKeepWhatIsPermanent : Prop :=
    (∀ s t : State, step s = .next t → t.variant = s.variant ∧ t.pending = s.pending.tail ∧ (s.sec.debugFuse = true → t.sec.debugFuse = true) ∧ ∀ x ∈ s.mem.retired, x ∈ t.mem.retired)

/-- From every state whose flashes are in canonical form, with at most 64 buffered log entries, 16 waiting EMCYs and 64 access results, every step leads to such a state. -/
def Obligations.StepsKeepTheBounds : Prop :=
    (∀ s t : State, s.Bounded → step s = .next t → t.Bounded)

/-- The state right after reset has its flashes in canonical form and its queues within their sizes. -/
def Obligations.ResetIsBounded : Prop :=
    State.reset.Bounded

/-- Right after reset the mode is BOOT with reset held, RESET_CAUSE is POWER_ON, nothing is staged or loaded, every timer count, wrap count and flag is 0, no event is latched, no mode request has been accepted, no nonce is valid, the TAP offers only what reset lets it, and no command waits. The part is an SV8-84 (log entry 28). -/
def Obligations.ResetState : Prop :=
    (State.reset.mode = Mode.boot ∧ State.reset.sys.phase = ResetPhase.resetHeld ∧ State.reset.get Reg.RESET_CAUSE = 0 ∧ State.reset.get Reg.MODE_REQUEST = 0xFF) ∧
    (State.reset.cfg.staged = [] ∧ State.reset.stagedLinks = 0 ∧ State.reset.cfg.image = [] ∧ State.reset.sec.nonce = none ∧ State.reset.pending = []) ∧
    (∀ n : Fin 16, State.reset.get (Reg.TMR_COUNT n) = 0 ∧ State.reset.get (Reg.TMR_WRAPS n) = 0 ∧ State.reset.get (Reg.TMR_FLAGS n) = 0) ∧
    (∀ e : Fin 64, State.reset.latched e = false)

/-- For every host command: a link that is not up ignores it; in BOOT, and in WATCH for all but a write of MODE_REQUEST, it is answered NOT_READY; while its link holds a request as executing it is answered BUSY; and nothing else changes. -/
def Obligations.RequestsOutOfServiceAreRefused : Prop :=
    (∀ (c : Instr) (l : Link) (s : State), Instr.link c = some l → s.linkUp l = false → exec c s = .next s) ∧
    (∀ (c : Instr) (l : Link) (s : State), Instr.link c = some l → s.linkUp l = true → s.mode = Mode.boot → exec c s = .next (s.answer l .notReady)) ∧
    (∀ (c : Instr) (l : Link) (s : State), Instr.link c = some l → s.linkUp l = true → s.mode = Mode.watch → Instr.inWatch c = false → exec c s = .next (s.answer l .notReady)) ∧
    (∀ (c : Instr) (l : Link) (s : State), Instr.link c = some l → s.linkUp l = true → s.mode ≠ Mode.boot → (s.mode = Mode.watch → Instr.inWatch c = true) → s.sys.firing = some l → exec c s = .next (s.answer l .busy))

/-- Latching an event sets its bit and no other, counts it up to 0xFFFFFFFF, records the device time and both details, and enters the log buffer where its mask bit is set and the buffer has room; where it was latched already nothing new is delivered; nothing outside the events' own part changes. -/
def Obligations.AnOccurrenceIsRecorded : Prop :=
    (∀ (e a b : Nat) (s : State), (s.latch e a b).latched e = true ∧ (∀ f, f ≠ e → (s.latch e a b).latched f = s.latched f) ∧
      Tab.get (s.latch e a b).ev.counts e = min (Tab.get s.ev.counts e + 1) 0xFFFFFFFF ∧ Tab.get (s.latch e a b).ev.times e = s.tim.now ∧
      Tab.get (s.latch e a b).ev.detA e = a ∧ Tab.get (s.latch e a b).ev.detB e = b ∧
      (∀ f, f ≠ e → Tab.get (s.latch e a b).ev.counts f = Tab.get s.ev.counts f ∧ Tab.get (s.latch e a b).ev.times f = Tab.get s.ev.times f)) ∧
    (∀ (e a b : Nat) (s : State), s.latched e = true → (s.latch e a b).ev.emcy = s.ev.emcy ∧ (s.latch e a b).ev.boot = s.ev.boot) ∧
    (∀ (e a b : Nat) (s : State), (s.get Reg.EVT_LOG_MASK).testBit e = true → s.ev.log.length < 64 →
      ∃ x, (s.latch e a b).ev.log = s.ev.log ++ [x] ∧ x.event = e ∧ x.time = s.tim.now ∧ x.detA = a ∧ x.detB = b) ∧
    (∀ (e a b : Nat) (s : State), SameButEvents [] s (s.latch e a b))

/-- Over the nine ASCII bytes 123456789 each polynomial of Table 15.2 gives the check value of its row. -/
def Obligations.CheckPolynomialsOfTable152 : Prop :=
    ((polyOf 0).map fun p => crcBits p (inputBits p (bytes [0x31, 0x32, 0x33, 0x34, 0x35, 0x36, 0x37, 0x38, 0x39]) 0)) = some 0x00 ∧
    ((polyOf 1).map fun p => crcBits p (inputBits p (bytes [0x31, 0x32, 0x33, 0x34, 0x35, 0x36, 0x37, 0x38, 0x39]) 0)) = some 0xD64E ∧
    ((polyOf 2).map fun p => crcBits p (inputBits p (bytes [0x31, 0x32, 0x33, 0x34, 0x35, 0x36, 0x37, 0x38, 0x39]) 0)) = some 0xBF05 ∧
    ((polyOf 3).map fun p => crcBits p (inputBits p (bytes [0x31, 0x32, 0x33, 0x34, 0x35, 0x36, 0x37, 0x38, 0x39]) 0)) = some 0x906E ∧
    ((polyOf 4).map fun p => crcBits p (inputBits p (bytes [0x31, 0x32, 0x33, 0x34, 0x35, 0x36, 0x37, 0x38, 0x39]) 0)) = some 0xF4 ∧
    ((polyOf 5).map fun p => crcBits p (inputBits p (bytes [0x31, 0x32, 0x33, 0x34, 0x35, 0x36, 0x37, 0x38, 0x39]) 0)) = some 0xCBF43926

/-- With no transition and no commit in progress, a request for the mode in force is answered OK on each link, and apart from the link's answer nothing changes: no object, no event. -/
def Obligations.ARequestForTheModeInForce : Prop :=
    (∀ (l : Link) (s : State),
      Serves s l true →
      s.mode = Mode.hold →
      s.sys.trans = none →
      s.get Reg.COMMIT_STATE = 0 →
      Completes (.reqHold l) s fun t =>
        Answered t l Result.ok ∧
        SameButAnswer l [] s t) ∧
    (∀ (l : Link) (s : State),
      Serves s l true →
      s.mode = Mode.ready →
      s.sys.trans = none →
      s.get Reg.COMMIT_STATE = 0 →
      Completes (.reqReady l) s fun t =>
        Answered t l Result.ok ∧
        SameButAnswer l [] s t) ∧
    (∀ (l : Link) (s : State),
      Serves s l true →
      s.mode = Mode.run →
      s.sys.trans = none →
      s.get Reg.COMMIT_STATE = 0 →
      Completes (.reqRun l) s fun t =>
        Answered t l Result.ok ∧
        SameButAnswer l [] s t) ∧
    (∀ (l : Link) (s : State),
      Serves s l true →
      s.mode = Mode.watch →
      s.sys.trans = none →
      s.get Reg.COMMIT_STATE = 0 →
      Completes (.reqWatch l) s fun t =>
        Answered t l Result.ok ∧
        SameButAnswer l [] s t) ∧
    (∀ (l : Link) (s : State),
      Serves s l true →
      s.mode = Mode.test →
      s.sys.trans = none →
      s.get Reg.COMMIT_STATE = 0 →
      Completes (.reqTest l) s fun t =>
        Answered t l Result.ok ∧
        SameButAnswer l [] s t)
end

