-- ==== Sys2Proof/Laws/Tab.lean ====
section
/-! SUPPORT. What the table operations do. -/

namespace Sys2Proof.Machine

@[simp] theorem Tab.find_put_self {α : Type} (t : Tab α) (k : Nat) (v : α) : Tab.find (Tab.put t k v) k = some v := by
  induction t with
  | nil => simp [Tab.put, Tab.find]
  | cons p r ih =>
    obtain ⟨a, x⟩ := p
    simp only [Tab.put]
    split
    · simp [Tab.find]
    · split <;> simp_all [Tab.find]

theorem Tab.find_put_ne {α : Type} (t : Tab α) {k j : Nat} (v : α) (h : j ≠ k) : Tab.find (Tab.put t k v) j = Tab.find t j := by
  induction t with
  | nil => simp [Tab.put, Tab.find, h]
  | cons p r ih =>
    obtain ⟨a, x⟩ := p
    simp only [Tab.put]
    split
    · simp [Tab.find, h]
    · split
      · next _ e => subst e; simp [Tab.find, h]
      · simp [Tab.find, ih]

/-- A put changes what stands at its own number, and nothing else. -/
theorem Tab.find_put {α : Type} (t : Tab α) (k j : Nat) (v : α) :
    Tab.find (Tab.put t k v) j = if j = k then some v else Tab.find t j := by
  split
  · next h => subst h; exact Tab.find_put_self ..
  · next h => exact Tab.find_put_ne t v h

@[simp] theorem Tab.get_put_self {α : Type} [Inhabited α] (t : Tab α) (k : Nat) (v : α) : Tab.get (Tab.put t k v) k = v := by
  simp [Tab.get]

theorem Tab.get_put_ne {α : Type} [Inhabited α] (t : Tab α) {k j : Nat} (v : α) (h : j ≠ k) :
    Tab.get (Tab.put t k v) j = Tab.get t j := by
  simp [Tab.get, Tab.find_put_ne t v h]

@[simp] theorem Tab.find_del_self {α : Type} (t : Tab α) (k : Nat) : Tab.find (Tab.del t k) k = none := by
  induction t with
  | nil => rfl
  | cons p r ih =>
    obtain ⟨a, x⟩ := p
    by_cases h : a = k
    · simpa [Tab.del, h] using ih
    · simp [Tab.del, h, Tab.find, Ne.symm h]; simpa [Tab.del] using ih

theorem Tab.find_del_ne {α : Type} (t : Tab α) {k j : Nat} (h : j ≠ k) : Tab.find (Tab.del t k) j = Tab.find t j := by
  induction t with
  | nil => rfl
  | cons p r ih =>
    obtain ⟨a, x⟩ := p
    by_cases e : a = k
    · subst e; simpa [Tab.del, Tab.find, h] using ih
    · simp only [Tab.del, List.filter_cons, bne_iff_ne, ne_eq, e, not_false_eq_true, if_true, Tab.find]
      split
      · rfl
      · simpa [Tab.del] using ih

/-- An update at a number gives the function of what stood there. -/
@[simp] theorem Tab.get_upd_self {α : Type} [Inhabited α] (t : Tab α) (k : Nat) (f : α → α) :
    Tab.get (Tab.upd t k f) k = f (Tab.get t k) := by
  simp [Tab.upd]

theorem Tab.get_upd_ne {α : Type} [Inhabited α] (t : Tab α) {k j : Nat} (f : α → α) (h : j ≠ k) :
    Tab.get (Tab.upd t k f) j = Tab.get t j := by
  simp [Tab.upd, Tab.get_put_ne _ _ h]

end Sys2Proof.Machine
end

