-- ==== Sys2Proof/Laws/Memory.lean ====
section
/-! SUPPORT. Every operation on a flash's contents keeps their canonical form. -/

namespace Sys2Proof.Machine

theorem Memory.wfFrom_le {lo lo' : Nat} {m : Memory} (h : Memory.wfFrom lo' m = true) (le : lo ≤ lo') :
    Memory.wfFrom lo m = true := by
  cases m with
  | nil => rfl
  | cons p r =>
    simp only [Memory.wfFrom, Bool.and_eq_true, decide_eq_true_eq] at h ⊢
    exact ⟨⟨by omega, h.1.2⟩, h.2⟩

/-- A write below no entry's floor keeps the form from that floor. -/
theorem Memory.wfFrom_write {lo : Nat} {m : Memory} (a : Nat) (v : Byte) (h : Memory.wfFrom lo m = true) (le : lo ≤ a) :
    Memory.wfFrom lo (Memory.write m a v) = true := by
  induction m generalizing lo with
  | nil => simp only [Memory.write]; split <;> simp_all [Memory.wfFrom]
  | cons p r ih =>
    obtain ⟨x, b⟩ := p
    simp only [Memory.wfFrom, Bool.and_eq_true, decide_eq_true_eq, bne_iff_ne] at h
    obtain ⟨⟨hx, hb⟩, hr⟩ := h
    simp only [Memory.write]
    split
    · split
      · simp_all [Memory.wfFrom]
      · simp only [Memory.wfFrom, Bool.and_eq_true, decide_eq_true_eq, bne_iff_ne]
        exact ⟨⟨le, by assumption⟩, ⟨by omega, hb⟩, hr⟩
    · split
      · split
        · exact Memory.wfFrom_le hr (by omega)
        · next e v' =>
          subst e
          simp only [Memory.wfFrom, Bool.and_eq_true, decide_eq_true_eq, bne_iff_ne]
          exact ⟨⟨le, v'⟩, hr⟩
      · simp only [Memory.wfFrom, Bool.and_eq_true, decide_eq_true_eq, bne_iff_ne]
        exact ⟨⟨hx, hb⟩, ih hr (by omega)⟩

theorem Memory.wf_write {m : Memory} (a : Nat) (v : Byte) (h : Memory.wf m = true) : Memory.wf (m.write a v) = true :=
  Memory.wfFrom_write a v h (Nat.zero_le a)

theorem Memory.wf_writeAll {m : Memory} (a : Nat) (d : Bytes) (h : Memory.wf m = true) : Memory.wf (m.writeAll a d) = true := by
  induction d generalizing m a with
  | nil => exact h
  | cons v r ih => exact ih (a + 1) (Memory.wf_write a v h)

theorem Memory.wfFrom_filter {lo : Nat} {m : Memory} (p : Nat × Byte → Bool) (h : Memory.wfFrom lo m = true) :
    Memory.wfFrom lo (m.filter p) = true := by
  induction m generalizing lo with
  | nil => rfl
  | cons c r ih =>
    obtain ⟨x, b⟩ := c
    simp only [Memory.wfFrom, Bool.and_eq_true, decide_eq_true_eq] at h
    simp only [List.filter_cons]
    split
    · simp only [Memory.wfFrom, Bool.and_eq_true, decide_eq_true_eq]
      exact ⟨h.1, ih h.2⟩
    · exact Memory.wfFrom_le (ih h.2) (by omega)

theorem Memory.wf_erase {m : Memory} (a n : Nat) (h : Memory.wf m = true) : Memory.wf (m.erase a n) = true :=
  Memory.wfFrom_filter _ h

theorem State.flash_updFlash_self (s : State) (n : Nat) (f : Memory → Memory) : (s.updFlash n f).flash n = f (s.flash n) := by
  simp [State.updFlash, State.flash]

theorem State.flash_updFlash_ne (s : State) {n k : Nat} (f : Memory → Memory) (h : k ≠ n) :
    (s.updFlash n f).flash k = s.flash k := by
  simp [State.updFlash, State.flash, Tab.find_put_ne _ _ h]

/-- Changing a flash by an operation that keeps the form keeps every flash's form. -/
theorem State.flash_wf_updFlash {s : State} (n : Nat) {f : Memory → Memory}
    (hf : ∀ m, Memory.wf m = true → Memory.wf (f m) = true) (h : ∀ k, Memory.wf (s.flash k) = true) :
    ∀ k, Memory.wf ((s.updFlash n f).flash k) = true := by
  intro k
  by_cases e : k = n
  · subst e; rw [State.flash_updFlash_self]; exact hf _ (h k)
  · rw [State.flash_updFlash_ne s f e]; exact h k

theorem State.flash_wf_scramble {s : State} (n a len : Nat) (h : ∀ k, Memory.wf (s.flash k) = true) :
    ∀ k, Memory.wf ((s.scramble n a len).flash k) = true :=
  State.flash_wf_updFlash n (fun _ hm => Memory.wf_writeAll a _ hm) h

theorem State.reset_flash (n : Nat) : Memory.wf (State.reset.flash n) = true := rfl

end Sys2Proof.Machine
end

