-- ==== Sys2Proof/Laws/State.lean ====
section
/-! SUPPORT. What the named updates of the state leave as it is: one lemma per update and field. -/

namespace Sys2Proof.Machine

/-! `put` -/

@[simp] theorem State.put_variant (s : State) (k v : Nat) : (s.put k v).variant = s.variant := rfl
@[simp] theorem State.put_doms (s : State) (k v : Nat) : (s.put k v).doms = s.doms := rfl
@[simp] theorem State.put_mode (s : State) (k v : Nat) : (s.put k v).mode = s.mode := rfl
@[simp] theorem State.put_sys (s : State) (k v : Nat) : (s.put k v).sys = s.sys := rfl
@[simp] theorem State.put_tim (s : State) (k v : Nat) : (s.put k v).tim = s.tim := rfl
@[simp] theorem State.put_shadows (s : State) (k v : Nat) : (s.put k v).shadows = s.shadows := rfl
@[simp] theorem State.put_cfg (s : State) (k v : Nat) : (s.put k v).cfg = s.cfg := rfl
@[simp] theorem State.put_ev (s : State) (k v : Nat) : (s.put k v).ev = s.ev := rfl
@[simp] theorem State.put_chk (s : State) (k v : Nat) : (s.put k v).chk = s.chk := rfl
@[simp] theorem State.put_sec (s : State) (k v : Nat) : (s.put k v).sec = s.sec := rfl
@[simp] theorem State.put_hlt (s : State) (k v : Nat) : (s.put k v).hlt = s.hlt := rfl
@[simp] theorem State.put_hubs (s : State) (k v : Nat) : (s.put k v).hubs = s.hubs := rfl
@[simp] theorem State.put_quads (s : State) (k v : Nat) : (s.put k v).quads = s.quads := rfl
@[simp] theorem State.put_chains (s : State) (k v : Nat) : (s.put k v).chains = s.chains := rfl
@[simp] theorem State.put_sweep (s : State) (k v : Nat) : (s.put k v).sweep = s.sweep := rfl
@[simp] theorem State.put_rep (s : State) (k v : Nat) : (s.put k v).rep = s.rep := rfl
@[simp] theorem State.put_eng (s : State) (k v : Nat) : (s.put k v).eng = s.eng := rfl
@[simp] theorem State.put_ilk (s : State) (k v : Nat) : (s.put k v).ilk = s.ilk := rfl
@[simp] theorem State.put_arr (s : State) (k v : Nat) : (s.put k v).arr = s.arr := rfl
@[simp] theorem State.put_val (s : State) (k v : Nat) : (s.put k v).val = s.val := rfl
@[simp] theorem State.put_trk (s : State) (k v : Nat) : (s.put k v).trk = s.trk := rfl
@[simp] theorem State.put_hf (s : State) (k v : Nat) : (s.put k v).hf = s.hf := rfl
@[simp] theorem State.put_testC (s : State) (k v : Nat) : (s.put k v).testC = s.testC := rfl
@[simp] theorem State.put_mem (s : State) (k v : Nat) : (s.put k v).mem = s.mem := rfl
@[simp] theorem State.put_brd (s : State) (k v : Nat) : (s.put k v).brd = s.brd := rfl
@[simp] theorem State.put_io (s : State) (k v : Nat) : (s.put k v).io = s.io := rfl
@[simp] theorem State.put_free (s : State) (k v : Nat) : (s.put k v).free = s.free := rfl
@[simp] theorem State.put_pending (s : State) (k v : Nat) : (s.put k v).pending = s.pending := rfl

/-! `putDom` -/

@[simp] theorem State.putDom_variant (s : State) (k : Nat) (b : Bytes) : (s.putDom k b).variant = s.variant := rfl
@[simp] theorem State.putDom_regs (s : State) (k : Nat) (b : Bytes) : (s.putDom k b).regs = s.regs := rfl
@[simp] theorem State.putDom_mode (s : State) (k : Nat) (b : Bytes) : (s.putDom k b).mode = s.mode := rfl
@[simp] theorem State.putDom_sys (s : State) (k : Nat) (b : Bytes) : (s.putDom k b).sys = s.sys := rfl
@[simp] theorem State.putDom_tim (s : State) (k : Nat) (b : Bytes) : (s.putDom k b).tim = s.tim := rfl
@[simp] theorem State.putDom_shadows (s : State) (k : Nat) (b : Bytes) : (s.putDom k b).shadows = s.shadows := rfl
@[simp] theorem State.putDom_cfg (s : State) (k : Nat) (b : Bytes) : (s.putDom k b).cfg = s.cfg := rfl
@[simp] theorem State.putDom_ev (s : State) (k : Nat) (b : Bytes) : (s.putDom k b).ev = s.ev := rfl
@[simp] theorem State.putDom_chk (s : State) (k : Nat) (b : Bytes) : (s.putDom k b).chk = s.chk := rfl
@[simp] theorem State.putDom_sec (s : State) (k : Nat) (b : Bytes) : (s.putDom k b).sec = s.sec := rfl
@[simp] theorem State.putDom_hlt (s : State) (k : Nat) (b : Bytes) : (s.putDom k b).hlt = s.hlt := rfl
@[simp] theorem State.putDom_hubs (s : State) (k : Nat) (b : Bytes) : (s.putDom k b).hubs = s.hubs := rfl
@[simp] theorem State.putDom_quads (s : State) (k : Nat) (b : Bytes) : (s.putDom k b).quads = s.quads := rfl
@[simp] theorem State.putDom_chains (s : State) (k : Nat) (b : Bytes) : (s.putDom k b).chains = s.chains := rfl
@[simp] theorem State.putDom_sweep (s : State) (k : Nat) (b : Bytes) : (s.putDom k b).sweep = s.sweep := rfl
@[simp] theorem State.putDom_rep (s : State) (k : Nat) (b : Bytes) : (s.putDom k b).rep = s.rep := rfl
@[simp] theorem State.putDom_eng (s : State) (k : Nat) (b : Bytes) : (s.putDom k b).eng = s.eng := rfl
@[simp] theorem State.putDom_ilk (s : State) (k : Nat) (b : Bytes) : (s.putDom k b).ilk = s.ilk := rfl
@[simp] theorem State.putDom_arr (s : State) (k : Nat) (b : Bytes) : (s.putDom k b).arr = s.arr := rfl
@[simp] theorem State.putDom_val (s : State) (k : Nat) (b : Bytes) : (s.putDom k b).val = s.val := rfl
@[simp] theorem State.putDom_trk (s : State) (k : Nat) (b : Bytes) : (s.putDom k b).trk = s.trk := rfl
@[simp] theorem State.putDom_hf (s : State) (k : Nat) (b : Bytes) : (s.putDom k b).hf = s.hf := rfl
@[simp] theorem State.putDom_testC (s : State) (k : Nat) (b : Bytes) : (s.putDom k b).testC = s.testC := rfl
@[simp] theorem State.putDom_mem (s : State) (k : Nat) (b : Bytes) : (s.putDom k b).mem = s.mem := rfl
@[simp] theorem State.putDom_brd (s : State) (k : Nat) (b : Bytes) : (s.putDom k b).brd = s.brd := rfl
@[simp] theorem State.putDom_io (s : State) (k : Nat) (b : Bytes) : (s.putDom k b).io = s.io := rfl
@[simp] theorem State.putDom_free (s : State) (k : Nat) (b : Bytes) : (s.putDom k b).free = s.free := rfl
@[simp] theorem State.putDom_pending (s : State) (k : Nat) (b : Bytes) : (s.putDom k b).pending = s.pending := rfl

/-! `seq` -/

@[simp] theorem State.seq_variant (s : State) (q : Nat) : (s.seq q).variant = s.variant := rfl
@[simp] theorem State.seq_doms (s : State) (q : Nat) : (s.seq q).doms = s.doms := rfl
@[simp] theorem State.seq_mode (s : State) (q : Nat) : (s.seq q).mode = s.mode := rfl
@[simp] theorem State.seq_sys (s : State) (q : Nat) : (s.seq q).sys = s.sys := rfl
@[simp] theorem State.seq_tim (s : State) (q : Nat) : (s.seq q).tim = s.tim := rfl
@[simp] theorem State.seq_shadows (s : State) (q : Nat) : (s.seq q).shadows = s.shadows := rfl
@[simp] theorem State.seq_cfg (s : State) (q : Nat) : (s.seq q).cfg = s.cfg := rfl
@[simp] theorem State.seq_ev (s : State) (q : Nat) : (s.seq q).ev = s.ev := rfl
@[simp] theorem State.seq_chk (s : State) (q : Nat) : (s.seq q).chk = s.chk := rfl
@[simp] theorem State.seq_sec (s : State) (q : Nat) : (s.seq q).sec = s.sec := rfl
@[simp] theorem State.seq_hlt (s : State) (q : Nat) : (s.seq q).hlt = s.hlt := rfl
@[simp] theorem State.seq_hubs (s : State) (q : Nat) : (s.seq q).hubs = s.hubs := rfl
@[simp] theorem State.seq_quads (s : State) (q : Nat) : (s.seq q).quads = s.quads := rfl
@[simp] theorem State.seq_chains (s : State) (q : Nat) : (s.seq q).chains = s.chains := rfl
@[simp] theorem State.seq_sweep (s : State) (q : Nat) : (s.seq q).sweep = s.sweep := rfl
@[simp] theorem State.seq_rep (s : State) (q : Nat) : (s.seq q).rep = s.rep := rfl
@[simp] theorem State.seq_eng (s : State) (q : Nat) : (s.seq q).eng = s.eng := rfl
@[simp] theorem State.seq_ilk (s : State) (q : Nat) : (s.seq q).ilk = s.ilk := rfl
@[simp] theorem State.seq_arr (s : State) (q : Nat) : (s.seq q).arr = s.arr := rfl
@[simp] theorem State.seq_val (s : State) (q : Nat) : (s.seq q).val = s.val := rfl
@[simp] theorem State.seq_trk (s : State) (q : Nat) : (s.seq q).trk = s.trk := rfl
@[simp] theorem State.seq_hf (s : State) (q : Nat) : (s.seq q).hf = s.hf := rfl
@[simp] theorem State.seq_testC (s : State) (q : Nat) : (s.seq q).testC = s.testC := rfl
@[simp] theorem State.seq_mem (s : State) (q : Nat) : (s.seq q).mem = s.mem := rfl
@[simp] theorem State.seq_brd (s : State) (q : Nat) : (s.seq q).brd = s.brd := rfl
@[simp] theorem State.seq_io (s : State) (q : Nat) : (s.seq q).io = s.io := rfl
@[simp] theorem State.seq_free (s : State) (q : Nat) : (s.seq q).free = s.free := rfl
@[simp] theorem State.seq_pending (s : State) (q : Nat) : (s.seq q).pending = s.pending := rfl

/-! `bump` -/

@[simp] theorem State.bump_variant (s : State) (k : Nat) : (s.bump k).variant = s.variant := rfl
@[simp] theorem State.bump_doms (s : State) (k : Nat) : (s.bump k).doms = s.doms := rfl
@[simp] theorem State.bump_mode (s : State) (k : Nat) : (s.bump k).mode = s.mode := rfl
@[simp] theorem State.bump_sys (s : State) (k : Nat) : (s.bump k).sys = s.sys := rfl
@[simp] theorem State.bump_tim (s : State) (k : Nat) : (s.bump k).tim = s.tim := rfl
@[simp] theorem State.bump_shadows (s : State) (k : Nat) : (s.bump k).shadows = s.shadows := rfl
@[simp] theorem State.bump_cfg (s : State) (k : Nat) : (s.bump k).cfg = s.cfg := rfl
@[simp] theorem State.bump_ev (s : State) (k : Nat) : (s.bump k).ev = s.ev := rfl
@[simp] theorem State.bump_chk (s : State) (k : Nat) : (s.bump k).chk = s.chk := rfl
@[simp] theorem State.bump_sec (s : State) (k : Nat) : (s.bump k).sec = s.sec := rfl
@[simp] theorem State.bump_hlt (s : State) (k : Nat) : (s.bump k).hlt = s.hlt := rfl
@[simp] theorem State.bump_hubs (s : State) (k : Nat) : (s.bump k).hubs = s.hubs := rfl
@[simp] theorem State.bump_quads (s : State) (k : Nat) : (s.bump k).quads = s.quads := rfl
@[simp] theorem State.bump_chains (s : State) (k : Nat) : (s.bump k).chains = s.chains := rfl
@[simp] theorem State.bump_sweep (s : State) (k : Nat) : (s.bump k).sweep = s.sweep := rfl
@[simp] theorem State.bump_rep (s : State) (k : Nat) : (s.bump k).rep = s.rep := rfl
@[simp] theorem State.bump_eng (s : State) (k : Nat) : (s.bump k).eng = s.eng := rfl
@[simp] theorem State.bump_ilk (s : State) (k : Nat) : (s.bump k).ilk = s.ilk := rfl
@[simp] theorem State.bump_arr (s : State) (k : Nat) : (s.bump k).arr = s.arr := rfl
@[simp] theorem State.bump_val (s : State) (k : Nat) : (s.bump k).val = s.val := rfl
@[simp] theorem State.bump_trk (s : State) (k : Nat) : (s.bump k).trk = s.trk := rfl
@[simp] theorem State.bump_hf (s : State) (k : Nat) : (s.bump k).hf = s.hf := rfl
@[simp] theorem State.bump_testC (s : State) (k : Nat) : (s.bump k).testC = s.testC := rfl
@[simp] theorem State.bump_mem (s : State) (k : Nat) : (s.bump k).mem = s.mem := rfl
@[simp] theorem State.bump_brd (s : State) (k : Nat) : (s.bump k).brd = s.brd := rfl
@[simp] theorem State.bump_io (s : State) (k : Nat) : (s.bump k).io = s.io := rfl
@[simp] theorem State.bump_free (s : State) (k : Nat) : (s.bump k).free = s.free := rfl
@[simp] theorem State.bump_pending (s : State) (k : Nat) : (s.bump k).pending = s.pending := rfl

/-! `add` -/

@[simp] theorem State.add_variant (s : State) (k n : Nat) : (s.add k n).variant = s.variant := rfl
@[simp] theorem State.add_doms (s : State) (k n : Nat) : (s.add k n).doms = s.doms := rfl
@[simp] theorem State.add_mode (s : State) (k n : Nat) : (s.add k n).mode = s.mode := rfl
@[simp] theorem State.add_sys (s : State) (k n : Nat) : (s.add k n).sys = s.sys := rfl
@[simp] theorem State.add_tim (s : State) (k n : Nat) : (s.add k n).tim = s.tim := rfl
@[simp] theorem State.add_shadows (s : State) (k n : Nat) : (s.add k n).shadows = s.shadows := rfl
@[simp] theorem State.add_cfg (s : State) (k n : Nat) : (s.add k n).cfg = s.cfg := rfl
@[simp] theorem State.add_ev (s : State) (k n : Nat) : (s.add k n).ev = s.ev := rfl
@[simp] theorem State.add_chk (s : State) (k n : Nat) : (s.add k n).chk = s.chk := rfl
@[simp] theorem State.add_sec (s : State) (k n : Nat) : (s.add k n).sec = s.sec := rfl
@[simp] theorem State.add_hlt (s : State) (k n : Nat) : (s.add k n).hlt = s.hlt := rfl
@[simp] theorem State.add_hubs (s : State) (k n : Nat) : (s.add k n).hubs = s.hubs := rfl
@[simp] theorem State.add_quads (s : State) (k n : Nat) : (s.add k n).quads = s.quads := rfl
@[simp] theorem State.add_chains (s : State) (k n : Nat) : (s.add k n).chains = s.chains := rfl
@[simp] theorem State.add_sweep (s : State) (k n : Nat) : (s.add k n).sweep = s.sweep := rfl
@[simp] theorem State.add_rep (s : State) (k n : Nat) : (s.add k n).rep = s.rep := rfl
@[simp] theorem State.add_eng (s : State) (k n : Nat) : (s.add k n).eng = s.eng := rfl
@[simp] theorem State.add_ilk (s : State) (k n : Nat) : (s.add k n).ilk = s.ilk := rfl
@[simp] theorem State.add_arr (s : State) (k n : Nat) : (s.add k n).arr = s.arr := rfl
@[simp] theorem State.add_val (s : State) (k n : Nat) : (s.add k n).val = s.val := rfl
@[simp] theorem State.add_trk (s : State) (k n : Nat) : (s.add k n).trk = s.trk := rfl
@[simp] theorem State.add_hf (s : State) (k n : Nat) : (s.add k n).hf = s.hf := rfl
@[simp] theorem State.add_testC (s : State) (k n : Nat) : (s.add k n).testC = s.testC := rfl
@[simp] theorem State.add_mem (s : State) (k n : Nat) : (s.add k n).mem = s.mem := rfl
@[simp] theorem State.add_brd (s : State) (k n : Nat) : (s.add k n).brd = s.brd := rfl
@[simp] theorem State.add_io (s : State) (k n : Nat) : (s.add k n).io = s.io := rfl
@[simp] theorem State.add_free (s : State) (k n : Nat) : (s.add k n).free = s.free := rfl
@[simp] theorem State.add_pending (s : State) (k n : Nat) : (s.add k n).pending = s.pending := rfl

/-! `addWide` -/

@[simp] theorem State.addWide_variant (s : State) (lo n : Nat) : (s.addWide lo n).variant = s.variant := rfl
@[simp] theorem State.addWide_doms (s : State) (lo n : Nat) : (s.addWide lo n).doms = s.doms := rfl
@[simp] theorem State.addWide_mode (s : State) (lo n : Nat) : (s.addWide lo n).mode = s.mode := rfl
@[simp] theorem State.addWide_sys (s : State) (lo n : Nat) : (s.addWide lo n).sys = s.sys := rfl
@[simp] theorem State.addWide_tim (s : State) (lo n : Nat) : (s.addWide lo n).tim = s.tim := rfl
@[simp] theorem State.addWide_shadows (s : State) (lo n : Nat) : (s.addWide lo n).shadows = s.shadows := rfl
@[simp] theorem State.addWide_cfg (s : State) (lo n : Nat) : (s.addWide lo n).cfg = s.cfg := rfl
@[simp] theorem State.addWide_ev (s : State) (lo n : Nat) : (s.addWide lo n).ev = s.ev := rfl
@[simp] theorem State.addWide_chk (s : State) (lo n : Nat) : (s.addWide lo n).chk = s.chk := rfl
@[simp] theorem State.addWide_sec (s : State) (lo n : Nat) : (s.addWide lo n).sec = s.sec := rfl
@[simp] theorem State.addWide_hlt (s : State) (lo n : Nat) : (s.addWide lo n).hlt = s.hlt := rfl
@[simp] theorem State.addWide_hubs (s : State) (lo n : Nat) : (s.addWide lo n).hubs = s.hubs := rfl
@[simp] theorem State.addWide_quads (s : State) (lo n : Nat) : (s.addWide lo n).quads = s.quads := rfl
@[simp] theorem State.addWide_chains (s : State) (lo n : Nat) : (s.addWide lo n).chains = s.chains := rfl
@[simp] theorem State.addWide_sweep (s : State) (lo n : Nat) : (s.addWide lo n).sweep = s.sweep := rfl
@[simp] theorem State.addWide_rep (s : State) (lo n : Nat) : (s.addWide lo n).rep = s.rep := rfl
@[simp] theorem State.addWide_eng (s : State) (lo n : Nat) : (s.addWide lo n).eng = s.eng := rfl
@[simp] theorem State.addWide_ilk (s : State) (lo n : Nat) : (s.addWide lo n).ilk = s.ilk := rfl
@[simp] theorem State.addWide_arr (s : State) (lo n : Nat) : (s.addWide lo n).arr = s.arr := rfl
@[simp] theorem State.addWide_val (s : State) (lo n : Nat) : (s.addWide lo n).val = s.val := rfl
@[simp] theorem State.addWide_trk (s : State) (lo n : Nat) : (s.addWide lo n).trk = s.trk := rfl
@[simp] theorem State.addWide_hf (s : State) (lo n : Nat) : (s.addWide lo n).hf = s.hf := rfl
@[simp] theorem State.addWide_testC (s : State) (lo n : Nat) : (s.addWide lo n).testC = s.testC := rfl
@[simp] theorem State.addWide_mem (s : State) (lo n : Nat) : (s.addWide lo n).mem = s.mem := rfl
@[simp] theorem State.addWide_brd (s : State) (lo n : Nat) : (s.addWide lo n).brd = s.brd := rfl
@[simp] theorem State.addWide_io (s : State) (lo n : Nat) : (s.addWide lo n).io = s.io := rfl
@[simp] theorem State.addWide_free (s : State) (lo n : Nat) : (s.addWide lo n).free = s.free := rfl
@[simp] theorem State.addWide_pending (s : State) (lo n : Nat) : (s.addWide lo n).pending = s.pending := rfl

/-! `raise` -/

@[simp] theorem State.raise_variant (s : State) (k v : Nat) : (s.raise k v).variant = s.variant := rfl
@[simp] theorem State.raise_doms (s : State) (k v : Nat) : (s.raise k v).doms = s.doms := rfl
@[simp] theorem State.raise_mode (s : State) (k v : Nat) : (s.raise k v).mode = s.mode := rfl
@[simp] theorem State.raise_sys (s : State) (k v : Nat) : (s.raise k v).sys = s.sys := rfl
@[simp] theorem State.raise_tim (s : State) (k v : Nat) : (s.raise k v).tim = s.tim := rfl
@[simp] theorem State.raise_shadows (s : State) (k v : Nat) : (s.raise k v).shadows = s.shadows := rfl
@[simp] theorem State.raise_cfg (s : State) (k v : Nat) : (s.raise k v).cfg = s.cfg := rfl
@[simp] theorem State.raise_ev (s : State) (k v : Nat) : (s.raise k v).ev = s.ev := rfl
@[simp] theorem State.raise_chk (s : State) (k v : Nat) : (s.raise k v).chk = s.chk := rfl
@[simp] theorem State.raise_sec (s : State) (k v : Nat) : (s.raise k v).sec = s.sec := rfl
@[simp] theorem State.raise_hlt (s : State) (k v : Nat) : (s.raise k v).hlt = s.hlt := rfl
@[simp] theorem State.raise_hubs (s : State) (k v : Nat) : (s.raise k v).hubs = s.hubs := rfl
@[simp] theorem State.raise_quads (s : State) (k v : Nat) : (s.raise k v).quads = s.quads := rfl
@[simp] theorem State.raise_chains (s : State) (k v : Nat) : (s.raise k v).chains = s.chains := rfl
@[simp] theorem State.raise_sweep (s : State) (k v : Nat) : (s.raise k v).sweep = s.sweep := rfl
@[simp] theorem State.raise_rep (s : State) (k v : Nat) : (s.raise k v).rep = s.rep := rfl
@[simp] theorem State.raise_eng (s : State) (k v : Nat) : (s.raise k v).eng = s.eng := rfl
@[simp] theorem State.raise_ilk (s : State) (k v : Nat) : (s.raise k v).ilk = s.ilk := rfl
@[simp] theorem State.raise_arr (s : State) (k v : Nat) : (s.raise k v).arr = s.arr := rfl
@[simp] theorem State.raise_val (s : State) (k v : Nat) : (s.raise k v).val = s.val := rfl
@[simp] theorem State.raise_trk (s : State) (k v : Nat) : (s.raise k v).trk = s.trk := rfl
@[simp] theorem State.raise_hf (s : State) (k v : Nat) : (s.raise k v).hf = s.hf := rfl
@[simp] theorem State.raise_testC (s : State) (k v : Nat) : (s.raise k v).testC = s.testC := rfl
@[simp] theorem State.raise_mem (s : State) (k v : Nat) : (s.raise k v).mem = s.mem := rfl
@[simp] theorem State.raise_brd (s : State) (k v : Nat) : (s.raise k v).brd = s.brd := rfl
@[simp] theorem State.raise_io (s : State) (k v : Nat) : (s.raise k v).io = s.io := rfl
@[simp] theorem State.raise_free (s : State) (k v : Nat) : (s.raise k v).free = s.free := rfl
@[simp] theorem State.raise_pending (s : State) (k v : Nat) : (s.raise k v).pending = s.pending := rfl

/-! `updQuad` -/

@[simp] theorem State.updQuad_variant (s : State) (q : Nat) (f : Quad → Quad) : (s.updQuad q f).variant = s.variant := rfl
@[simp] theorem State.updQuad_regs (s : State) (q : Nat) (f : Quad → Quad) : (s.updQuad q f).regs = s.regs := rfl
@[simp] theorem State.updQuad_doms (s : State) (q : Nat) (f : Quad → Quad) : (s.updQuad q f).doms = s.doms := rfl
@[simp] theorem State.updQuad_mode (s : State) (q : Nat) (f : Quad → Quad) : (s.updQuad q f).mode = s.mode := rfl
@[simp] theorem State.updQuad_sys (s : State) (q : Nat) (f : Quad → Quad) : (s.updQuad q f).sys = s.sys := rfl
@[simp] theorem State.updQuad_tim (s : State) (q : Nat) (f : Quad → Quad) : (s.updQuad q f).tim = s.tim := rfl
@[simp] theorem State.updQuad_shadows (s : State) (q : Nat) (f : Quad → Quad) : (s.updQuad q f).shadows = s.shadows := rfl
@[simp] theorem State.updQuad_cfg (s : State) (q : Nat) (f : Quad → Quad) : (s.updQuad q f).cfg = s.cfg := rfl
@[simp] theorem State.updQuad_ev (s : State) (q : Nat) (f : Quad → Quad) : (s.updQuad q f).ev = s.ev := rfl
@[simp] theorem State.updQuad_chk (s : State) (q : Nat) (f : Quad → Quad) : (s.updQuad q f).chk = s.chk := rfl
@[simp] theorem State.updQuad_sec (s : State) (q : Nat) (f : Quad → Quad) : (s.updQuad q f).sec = s.sec := rfl
@[simp] theorem State.updQuad_hlt (s : State) (q : Nat) (f : Quad → Quad) : (s.updQuad q f).hlt = s.hlt := rfl
@[simp] theorem State.updQuad_hubs (s : State) (q : Nat) (f : Quad → Quad) : (s.updQuad q f).hubs = s.hubs := rfl
@[simp] theorem State.updQuad_chains (s : State) (q : Nat) (f : Quad → Quad) : (s.updQuad q f).chains = s.chains := rfl
@[simp] theorem State.updQuad_sweep (s : State) (q : Nat) (f : Quad → Quad) : (s.updQuad q f).sweep = s.sweep := rfl
@[simp] theorem State.updQuad_rep (s : State) (q : Nat) (f : Quad → Quad) : (s.updQuad q f).rep = s.rep := rfl
@[simp] theorem State.updQuad_eng (s : State) (q : Nat) (f : Quad → Quad) : (s.updQuad q f).eng = s.eng := rfl
@[simp] theorem State.updQuad_ilk (s : State) (q : Nat) (f : Quad → Quad) : (s.updQuad q f).ilk = s.ilk := rfl
@[simp] theorem State.updQuad_arr (s : State) (q : Nat) (f : Quad → Quad) : (s.updQuad q f).arr = s.arr := rfl
@[simp] theorem State.updQuad_val (s : State) (q : Nat) (f : Quad → Quad) : (s.updQuad q f).val = s.val := rfl
@[simp] theorem State.updQuad_trk (s : State) (q : Nat) (f : Quad → Quad) : (s.updQuad q f).trk = s.trk := rfl
@[simp] theorem State.updQuad_hf (s : State) (q : Nat) (f : Quad → Quad) : (s.updQuad q f).hf = s.hf := rfl
@[simp] theorem State.updQuad_testC (s : State) (q : Nat) (f : Quad → Quad) : (s.updQuad q f).testC = s.testC := rfl
@[simp] theorem State.updQuad_mem (s : State) (q : Nat) (f : Quad → Quad) : (s.updQuad q f).mem = s.mem := rfl
@[simp] theorem State.updQuad_brd (s : State) (q : Nat) (f : Quad → Quad) : (s.updQuad q f).brd = s.brd := rfl
@[simp] theorem State.updQuad_io (s : State) (q : Nat) (f : Quad → Quad) : (s.updQuad q f).io = s.io := rfl
@[simp] theorem State.updQuad_free (s : State) (q : Nat) (f : Quad → Quad) : (s.updQuad q f).free = s.free := rfl
@[simp] theorem State.updQuad_pending (s : State) (q : Nat) (f : Quad → Quad) : (s.updQuad q f).pending = s.pending := rfl

/-! `updChain` -/

@[simp] theorem State.updChain_variant (s : State) (c : Nat) (f : Chain → Chain) : (s.updChain c f).variant = s.variant := rfl
@[simp] theorem State.updChain_regs (s : State) (c : Nat) (f : Chain → Chain) : (s.updChain c f).regs = s.regs := rfl
@[simp] theorem State.updChain_doms (s : State) (c : Nat) (f : Chain → Chain) : (s.updChain c f).doms = s.doms := rfl
@[simp] theorem State.updChain_mode (s : State) (c : Nat) (f : Chain → Chain) : (s.updChain c f).mode = s.mode := rfl
@[simp] theorem State.updChain_sys (s : State) (c : Nat) (f : Chain → Chain) : (s.updChain c f).sys = s.sys := rfl
@[simp] theorem State.updChain_tim (s : State) (c : Nat) (f : Chain → Chain) : (s.updChain c f).tim = s.tim := rfl
@[simp] theorem State.updChain_shadows (s : State) (c : Nat) (f : Chain → Chain) : (s.updChain c f).shadows = s.shadows := rfl
@[simp] theorem State.updChain_cfg (s : State) (c : Nat) (f : Chain → Chain) : (s.updChain c f).cfg = s.cfg := rfl
@[simp] theorem State.updChain_ev (s : State) (c : Nat) (f : Chain → Chain) : (s.updChain c f).ev = s.ev := rfl
@[simp] theorem State.updChain_chk (s : State) (c : Nat) (f : Chain → Chain) : (s.updChain c f).chk = s.chk := rfl
@[simp] theorem State.updChain_sec (s : State) (c : Nat) (f : Chain → Chain) : (s.updChain c f).sec = s.sec := rfl
@[simp] theorem State.updChain_hlt (s : State) (c : Nat) (f : Chain → Chain) : (s.updChain c f).hlt = s.hlt := rfl
@[simp] theorem State.updChain_hubs (s : State) (c : Nat) (f : Chain → Chain) : (s.updChain c f).hubs = s.hubs := rfl
@[simp] theorem State.updChain_quads (s : State) (c : Nat) (f : Chain → Chain) : (s.updChain c f).quads = s.quads := rfl
@[simp] theorem State.updChain_sweep (s : State) (c : Nat) (f : Chain → Chain) : (s.updChain c f).sweep = s.sweep := rfl
@[simp] theorem State.updChain_rep (s : State) (c : Nat) (f : Chain → Chain) : (s.updChain c f).rep = s.rep := rfl
@[simp] theorem State.updChain_eng (s : State) (c : Nat) (f : Chain → Chain) : (s.updChain c f).eng = s.eng := rfl
@[simp] theorem State.updChain_ilk (s : State) (c : Nat) (f : Chain → Chain) : (s.updChain c f).ilk = s.ilk := rfl
@[simp] theorem State.updChain_arr (s : State) (c : Nat) (f : Chain → Chain) : (s.updChain c f).arr = s.arr := rfl
@[simp] theorem State.updChain_val (s : State) (c : Nat) (f : Chain → Chain) : (s.updChain c f).val = s.val := rfl
@[simp] theorem State.updChain_trk (s : State) (c : Nat) (f : Chain → Chain) : (s.updChain c f).trk = s.trk := rfl
@[simp] theorem State.updChain_hf (s : State) (c : Nat) (f : Chain → Chain) : (s.updChain c f).hf = s.hf := rfl
@[simp] theorem State.updChain_testC (s : State) (c : Nat) (f : Chain → Chain) : (s.updChain c f).testC = s.testC := rfl
@[simp] theorem State.updChain_mem (s : State) (c : Nat) (f : Chain → Chain) : (s.updChain c f).mem = s.mem := rfl
@[simp] theorem State.updChain_brd (s : State) (c : Nat) (f : Chain → Chain) : (s.updChain c f).brd = s.brd := rfl
@[simp] theorem State.updChain_io (s : State) (c : Nat) (f : Chain → Chain) : (s.updChain c f).io = s.io := rfl
@[simp] theorem State.updChain_free (s : State) (c : Nat) (f : Chain → Chain) : (s.updChain c f).free = s.free := rfl
@[simp] theorem State.updChain_pending (s : State) (c : Nat) (f : Chain → Chain) : (s.updChain c f).pending = s.pending := rfl

/-! `updHub` -/

@[simp] theorem State.updHub_variant (s : State) (h : Nat) (f : Hub → Hub) : (s.updHub h f).variant = s.variant := rfl
@[simp] theorem State.updHub_regs (s : State) (h : Nat) (f : Hub → Hub) : (s.updHub h f).regs = s.regs := rfl
@[simp] theorem State.updHub_doms (s : State) (h : Nat) (f : Hub → Hub) : (s.updHub h f).doms = s.doms := rfl
@[simp] theorem State.updHub_mode (s : State) (h : Nat) (f : Hub → Hub) : (s.updHub h f).mode = s.mode := rfl
@[simp] theorem State.updHub_sys (s : State) (h : Nat) (f : Hub → Hub) : (s.updHub h f).sys = s.sys := rfl
@[simp] theorem State.updHub_tim (s : State) (h : Nat) (f : Hub → Hub) : (s.updHub h f).tim = s.tim := rfl
@[simp] theorem State.updHub_shadows (s : State) (h : Nat) (f : Hub → Hub) : (s.updHub h f).shadows = s.shadows := rfl
@[simp] theorem State.updHub_cfg (s : State) (h : Nat) (f : Hub → Hub) : (s.updHub h f).cfg = s.cfg := rfl
@[simp] theorem State.updHub_ev (s : State) (h : Nat) (f : Hub → Hub) : (s.updHub h f).ev = s.ev := rfl
@[simp] theorem State.updHub_chk (s : State) (h : Nat) (f : Hub → Hub) : (s.updHub h f).chk = s.chk := rfl
@[simp] theorem State.updHub_sec (s : State) (h : Nat) (f : Hub → Hub) : (s.updHub h f).sec = s.sec := rfl
@[simp] theorem State.updHub_hlt (s : State) (h : Nat) (f : Hub → Hub) : (s.updHub h f).hlt = s.hlt := rfl
@[simp] theorem State.updHub_quads (s : State) (h : Nat) (f : Hub → Hub) : (s.updHub h f).quads = s.quads := rfl
@[simp] theorem State.updHub_chains (s : State) (h : Nat) (f : Hub → Hub) : (s.updHub h f).chains = s.chains := rfl
@[simp] theorem State.updHub_sweep (s : State) (h : Nat) (f : Hub → Hub) : (s.updHub h f).sweep = s.sweep := rfl
@[simp] theorem State.updHub_rep (s : State) (h : Nat) (f : Hub → Hub) : (s.updHub h f).rep = s.rep := rfl
@[simp] theorem State.updHub_eng (s : State) (h : Nat) (f : Hub → Hub) : (s.updHub h f).eng = s.eng := rfl
@[simp] theorem State.updHub_ilk (s : State) (h : Nat) (f : Hub → Hub) : (s.updHub h f).ilk = s.ilk := rfl
@[simp] theorem State.updHub_arr (s : State) (h : Nat) (f : Hub → Hub) : (s.updHub h f).arr = s.arr := rfl
@[simp] theorem State.updHub_val (s : State) (h : Nat) (f : Hub → Hub) : (s.updHub h f).val = s.val := rfl
@[simp] theorem State.updHub_trk (s : State) (h : Nat) (f : Hub → Hub) : (s.updHub h f).trk = s.trk := rfl
@[simp] theorem State.updHub_hf (s : State) (h : Nat) (f : Hub → Hub) : (s.updHub h f).hf = s.hf := rfl
@[simp] theorem State.updHub_testC (s : State) (h : Nat) (f : Hub → Hub) : (s.updHub h f).testC = s.testC := rfl
@[simp] theorem State.updHub_mem (s : State) (h : Nat) (f : Hub → Hub) : (s.updHub h f).mem = s.mem := rfl
@[simp] theorem State.updHub_brd (s : State) (h : Nat) (f : Hub → Hub) : (s.updHub h f).brd = s.brd := rfl
@[simp] theorem State.updHub_io (s : State) (h : Nat) (f : Hub → Hub) : (s.updHub h f).io = s.io := rfl
@[simp] theorem State.updHub_free (s : State) (h : Nat) (f : Hub → Hub) : (s.updHub h f).free = s.free := rfl
@[simp] theorem State.updHub_pending (s : State) (h : Nat) (f : Hub → Hub) : (s.updHub h f).pending = s.pending := rfl

/-! `updFlash` -/

@[simp] theorem State.updFlash_variant (s : State) (n : Nat) (f : Memory → Memory) : (s.updFlash n f).variant = s.variant := rfl
@[simp] theorem State.updFlash_regs (s : State) (n : Nat) (f : Memory → Memory) : (s.updFlash n f).regs = s.regs := rfl
@[simp] theorem State.updFlash_doms (s : State) (n : Nat) (f : Memory → Memory) : (s.updFlash n f).doms = s.doms := rfl
@[simp] theorem State.updFlash_mode (s : State) (n : Nat) (f : Memory → Memory) : (s.updFlash n f).mode = s.mode := rfl
@[simp] theorem State.updFlash_sys (s : State) (n : Nat) (f : Memory → Memory) : (s.updFlash n f).sys = s.sys := rfl
@[simp] theorem State.updFlash_tim (s : State) (n : Nat) (f : Memory → Memory) : (s.updFlash n f).tim = s.tim := rfl
@[simp] theorem State.updFlash_shadows (s : State) (n : Nat) (f : Memory → Memory) : (s.updFlash n f).shadows = s.shadows := rfl
@[simp] theorem State.updFlash_cfg (s : State) (n : Nat) (f : Memory → Memory) : (s.updFlash n f).cfg = s.cfg := rfl
@[simp] theorem State.updFlash_ev (s : State) (n : Nat) (f : Memory → Memory) : (s.updFlash n f).ev = s.ev := rfl
@[simp] theorem State.updFlash_chk (s : State) (n : Nat) (f : Memory → Memory) : (s.updFlash n f).chk = s.chk := rfl
@[simp] theorem State.updFlash_sec (s : State) (n : Nat) (f : Memory → Memory) : (s.updFlash n f).sec = s.sec := rfl
@[simp] theorem State.updFlash_hlt (s : State) (n : Nat) (f : Memory → Memory) : (s.updFlash n f).hlt = s.hlt := rfl
@[simp] theorem State.updFlash_hubs (s : State) (n : Nat) (f : Memory → Memory) : (s.updFlash n f).hubs = s.hubs := rfl
@[simp] theorem State.updFlash_quads (s : State) (n : Nat) (f : Memory → Memory) : (s.updFlash n f).quads = s.quads := rfl
@[simp] theorem State.updFlash_chains (s : State) (n : Nat) (f : Memory → Memory) : (s.updFlash n f).chains = s.chains := rfl
@[simp] theorem State.updFlash_sweep (s : State) (n : Nat) (f : Memory → Memory) : (s.updFlash n f).sweep = s.sweep := rfl
@[simp] theorem State.updFlash_rep (s : State) (n : Nat) (f : Memory → Memory) : (s.updFlash n f).rep = s.rep := rfl
@[simp] theorem State.updFlash_eng (s : State) (n : Nat) (f : Memory → Memory) : (s.updFlash n f).eng = s.eng := rfl
@[simp] theorem State.updFlash_ilk (s : State) (n : Nat) (f : Memory → Memory) : (s.updFlash n f).ilk = s.ilk := rfl
@[simp] theorem State.updFlash_arr (s : State) (n : Nat) (f : Memory → Memory) : (s.updFlash n f).arr = s.arr := rfl
@[simp] theorem State.updFlash_val (s : State) (n : Nat) (f : Memory → Memory) : (s.updFlash n f).val = s.val := rfl
@[simp] theorem State.updFlash_trk (s : State) (n : Nat) (f : Memory → Memory) : (s.updFlash n f).trk = s.trk := rfl
@[simp] theorem State.updFlash_hf (s : State) (n : Nat) (f : Memory → Memory) : (s.updFlash n f).hf = s.hf := rfl
@[simp] theorem State.updFlash_testC (s : State) (n : Nat) (f : Memory → Memory) : (s.updFlash n f).testC = s.testC := rfl
@[simp] theorem State.updFlash_mem (s : State) (n : Nat) (f : Memory → Memory) : (s.updFlash n f).mem = s.mem := rfl
@[simp] theorem State.updFlash_io (s : State) (n : Nat) (f : Memory → Memory) : (s.updFlash n f).io = s.io := rfl
@[simp] theorem State.updFlash_free (s : State) (n : Nat) (f : Memory → Memory) : (s.updFlash n f).free = s.free := rfl
@[simp] theorem State.updFlash_pending (s : State) (n : Nat) (f : Memory → Memory) : (s.updFlash n f).pending = s.pending := rfl

/-! `give` -/

@[simp] theorem State.give_variant (s : State) (l : Link) (b : Bytes) : (s.give l b).variant = s.variant := rfl
@[simp] theorem State.give_regs (s : State) (l : Link) (b : Bytes) : (s.give l b).regs = s.regs := rfl
@[simp] theorem State.give_doms (s : State) (l : Link) (b : Bytes) : (s.give l b).doms = s.doms := rfl
@[simp] theorem State.give_mode (s : State) (l : Link) (b : Bytes) : (s.give l b).mode = s.mode := rfl
@[simp] theorem State.give_sys (s : State) (l : Link) (b : Bytes) : (s.give l b).sys = s.sys := rfl
@[simp] theorem State.give_tim (s : State) (l : Link) (b : Bytes) : (s.give l b).tim = s.tim := rfl
@[simp] theorem State.give_shadows (s : State) (l : Link) (b : Bytes) : (s.give l b).shadows = s.shadows := rfl
@[simp] theorem State.give_cfg (s : State) (l : Link) (b : Bytes) : (s.give l b).cfg = s.cfg := rfl
@[simp] theorem State.give_ev (s : State) (l : Link) (b : Bytes) : (s.give l b).ev = s.ev := rfl
@[simp] theorem State.give_chk (s : State) (l : Link) (b : Bytes) : (s.give l b).chk = s.chk := rfl
@[simp] theorem State.give_sec (s : State) (l : Link) (b : Bytes) : (s.give l b).sec = s.sec := rfl
@[simp] theorem State.give_hlt (s : State) (l : Link) (b : Bytes) : (s.give l b).hlt = s.hlt := rfl
@[simp] theorem State.give_hubs (s : State) (l : Link) (b : Bytes) : (s.give l b).hubs = s.hubs := rfl
@[simp] theorem State.give_quads (s : State) (l : Link) (b : Bytes) : (s.give l b).quads = s.quads := rfl
@[simp] theorem State.give_chains (s : State) (l : Link) (b : Bytes) : (s.give l b).chains = s.chains := rfl
@[simp] theorem State.give_sweep (s : State) (l : Link) (b : Bytes) : (s.give l b).sweep = s.sweep := rfl
@[simp] theorem State.give_rep (s : State) (l : Link) (b : Bytes) : (s.give l b).rep = s.rep := rfl
@[simp] theorem State.give_eng (s : State) (l : Link) (b : Bytes) : (s.give l b).eng = s.eng := rfl
@[simp] theorem State.give_ilk (s : State) (l : Link) (b : Bytes) : (s.give l b).ilk = s.ilk := rfl
@[simp] theorem State.give_arr (s : State) (l : Link) (b : Bytes) : (s.give l b).arr = s.arr := rfl
@[simp] theorem State.give_val (s : State) (l : Link) (b : Bytes) : (s.give l b).val = s.val := rfl
@[simp] theorem State.give_trk (s : State) (l : Link) (b : Bytes) : (s.give l b).trk = s.trk := rfl
@[simp] theorem State.give_hf (s : State) (l : Link) (b : Bytes) : (s.give l b).hf = s.hf := rfl
@[simp] theorem State.give_testC (s : State) (l : Link) (b : Bytes) : (s.give l b).testC = s.testC := rfl
@[simp] theorem State.give_mem (s : State) (l : Link) (b : Bytes) : (s.give l b).mem = s.mem := rfl
@[simp] theorem State.give_brd (s : State) (l : Link) (b : Bytes) : (s.give l b).brd = s.brd := rfl
@[simp] theorem State.give_free (s : State) (l : Link) (b : Bytes) : (s.give l b).free = s.free := rfl
@[simp] theorem State.give_pending (s : State) (l : Link) (b : Bytes) : (s.give l b).pending = s.pending := rfl

/-! `answer` -/

@[simp] theorem State.answer_variant (s : State) (l : Link) (r : Result) : (s.answer l r).variant = s.variant := rfl
@[simp] theorem State.answer_doms (s : State) (l : Link) (r : Result) : (s.answer l r).doms = s.doms := rfl
@[simp] theorem State.answer_mode (s : State) (l : Link) (r : Result) : (s.answer l r).mode = s.mode := rfl
@[simp] theorem State.answer_tim (s : State) (l : Link) (r : Result) : (s.answer l r).tim = s.tim := rfl
@[simp] theorem State.answer_shadows (s : State) (l : Link) (r : Result) : (s.answer l r).shadows = s.shadows := rfl
@[simp] theorem State.answer_cfg (s : State) (l : Link) (r : Result) : (s.answer l r).cfg = s.cfg := rfl
@[simp] theorem State.answer_ev (s : State) (l : Link) (r : Result) : (s.answer l r).ev = s.ev := rfl
@[simp] theorem State.answer_chk (s : State) (l : Link) (r : Result) : (s.answer l r).chk = s.chk := rfl
@[simp] theorem State.answer_sec (s : State) (l : Link) (r : Result) : (s.answer l r).sec = s.sec := rfl
@[simp] theorem State.answer_hlt (s : State) (l : Link) (r : Result) : (s.answer l r).hlt = s.hlt := rfl
@[simp] theorem State.answer_hubs (s : State) (l : Link) (r : Result) : (s.answer l r).hubs = s.hubs := rfl
@[simp] theorem State.answer_quads (s : State) (l : Link) (r : Result) : (s.answer l r).quads = s.quads := rfl
@[simp] theorem State.answer_chains (s : State) (l : Link) (r : Result) : (s.answer l r).chains = s.chains := rfl
@[simp] theorem State.answer_sweep (s : State) (l : Link) (r : Result) : (s.answer l r).sweep = s.sweep := rfl
@[simp] theorem State.answer_rep (s : State) (l : Link) (r : Result) : (s.answer l r).rep = s.rep := rfl
@[simp] theorem State.answer_eng (s : State) (l : Link) (r : Result) : (s.answer l r).eng = s.eng := rfl
@[simp] theorem State.answer_ilk (s : State) (l : Link) (r : Result) : (s.answer l r).ilk = s.ilk := rfl
@[simp] theorem State.answer_arr (s : State) (l : Link) (r : Result) : (s.answer l r).arr = s.arr := rfl
@[simp] theorem State.answer_val (s : State) (l : Link) (r : Result) : (s.answer l r).val = s.val := rfl
@[simp] theorem State.answer_trk (s : State) (l : Link) (r : Result) : (s.answer l r).trk = s.trk := rfl
@[simp] theorem State.answer_hf (s : State) (l : Link) (r : Result) : (s.answer l r).hf = s.hf := rfl
@[simp] theorem State.answer_testC (s : State) (l : Link) (r : Result) : (s.answer l r).testC = s.testC := rfl
@[simp] theorem State.answer_mem (s : State) (l : Link) (r : Result) : (s.answer l r).mem = s.mem := rfl
@[simp] theorem State.answer_brd (s : State) (l : Link) (r : Result) : (s.answer l r).brd = s.brd := rfl
@[simp] theorem State.answer_io (s : State) (l : Link) (r : Result) : (s.answer l r).io = s.io := rfl
@[simp] theorem State.answer_free (s : State) (l : Link) (r : Result) : (s.answer l r).free = s.free := rfl
@[simp] theorem State.answer_pending (s : State) (l : Link) (r : Result) : (s.answer l r).pending = s.pending := rfl

/-! `updEnd` -/

@[simp] theorem State.updEnd_variant (s : State) (h : Nat) (side : LinkSide) (f : LinkEnd → LinkEnd) : (s.updEnd h side f).variant = s.variant := rfl
@[simp] theorem State.updEnd_regs (s : State) (h : Nat) (side : LinkSide) (f : LinkEnd → LinkEnd) : (s.updEnd h side f).regs = s.regs := rfl
@[simp] theorem State.updEnd_doms (s : State) (h : Nat) (side : LinkSide) (f : LinkEnd → LinkEnd) : (s.updEnd h side f).doms = s.doms := rfl
@[simp] theorem State.updEnd_mode (s : State) (h : Nat) (side : LinkSide) (f : LinkEnd → LinkEnd) : (s.updEnd h side f).mode = s.mode := rfl
@[simp] theorem State.updEnd_sys (s : State) (h : Nat) (side : LinkSide) (f : LinkEnd → LinkEnd) : (s.updEnd h side f).sys = s.sys := rfl
@[simp] theorem State.updEnd_tim (s : State) (h : Nat) (side : LinkSide) (f : LinkEnd → LinkEnd) : (s.updEnd h side f).tim = s.tim := rfl
@[simp] theorem State.updEnd_shadows (s : State) (h : Nat) (side : LinkSide) (f : LinkEnd → LinkEnd) : (s.updEnd h side f).shadows = s.shadows := rfl
@[simp] theorem State.updEnd_cfg (s : State) (h : Nat) (side : LinkSide) (f : LinkEnd → LinkEnd) : (s.updEnd h side f).cfg = s.cfg := rfl
@[simp] theorem State.updEnd_ev (s : State) (h : Nat) (side : LinkSide) (f : LinkEnd → LinkEnd) : (s.updEnd h side f).ev = s.ev := rfl
@[simp] theorem State.updEnd_chk (s : State) (h : Nat) (side : LinkSide) (f : LinkEnd → LinkEnd) : (s.updEnd h side f).chk = s.chk := rfl
@[simp] theorem State.updEnd_sec (s : State) (h : Nat) (side : LinkSide) (f : LinkEnd → LinkEnd) : (s.updEnd h side f).sec = s.sec := rfl
@[simp] theorem State.updEnd_hlt (s : State) (h : Nat) (side : LinkSide) (f : LinkEnd → LinkEnd) : (s.updEnd h side f).hlt = s.hlt := rfl
@[simp] theorem State.updEnd_quads (s : State) (h : Nat) (side : LinkSide) (f : LinkEnd → LinkEnd) : (s.updEnd h side f).quads = s.quads := rfl
@[simp] theorem State.updEnd_chains (s : State) (h : Nat) (side : LinkSide) (f : LinkEnd → LinkEnd) : (s.updEnd h side f).chains = s.chains := rfl
@[simp] theorem State.updEnd_sweep (s : State) (h : Nat) (side : LinkSide) (f : LinkEnd → LinkEnd) : (s.updEnd h side f).sweep = s.sweep := rfl
@[simp] theorem State.updEnd_rep (s : State) (h : Nat) (side : LinkSide) (f : LinkEnd → LinkEnd) : (s.updEnd h side f).rep = s.rep := rfl
@[simp] theorem State.updEnd_eng (s : State) (h : Nat) (side : LinkSide) (f : LinkEnd → LinkEnd) : (s.updEnd h side f).eng = s.eng := rfl
@[simp] theorem State.updEnd_ilk (s : State) (h : Nat) (side : LinkSide) (f : LinkEnd → LinkEnd) : (s.updEnd h side f).ilk = s.ilk := rfl
@[simp] theorem State.updEnd_arr (s : State) (h : Nat) (side : LinkSide) (f : LinkEnd → LinkEnd) : (s.updEnd h side f).arr = s.arr := rfl
@[simp] theorem State.updEnd_val (s : State) (h : Nat) (side : LinkSide) (f : LinkEnd → LinkEnd) : (s.updEnd h side f).val = s.val := rfl
@[simp] theorem State.updEnd_trk (s : State) (h : Nat) (side : LinkSide) (f : LinkEnd → LinkEnd) : (s.updEnd h side f).trk = s.trk := rfl
@[simp] theorem State.updEnd_hf (s : State) (h : Nat) (side : LinkSide) (f : LinkEnd → LinkEnd) : (s.updEnd h side f).hf = s.hf := rfl
@[simp] theorem State.updEnd_testC (s : State) (h : Nat) (side : LinkSide) (f : LinkEnd → LinkEnd) : (s.updEnd h side f).testC = s.testC := rfl
@[simp] theorem State.updEnd_mem (s : State) (h : Nat) (side : LinkSide) (f : LinkEnd → LinkEnd) : (s.updEnd h side f).mem = s.mem := rfl
@[simp] theorem State.updEnd_brd (s : State) (h : Nat) (side : LinkSide) (f : LinkEnd → LinkEnd) : (s.updEnd h side f).brd = s.brd := rfl
@[simp] theorem State.updEnd_io (s : State) (h : Nat) (side : LinkSide) (f : LinkEnd → LinkEnd) : (s.updEnd h side f).io = s.io := rfl
@[simp] theorem State.updEnd_free (s : State) (h : Nat) (side : LinkSide) (f : LinkEnd → LinkEnd) : (s.updEnd h side f).free = s.free := rfl
@[simp] theorem State.updEnd_pending (s : State) (h : Nat) (side : LinkSide) (f : LinkEnd → LinkEnd) : (s.updEnd h side f).pending = s.pending := rfl

/-! `sendFlit` -/

@[simp] theorem State.sendFlit_variant (s : State) (h : Nat) (side : LinkSide) (type stream : Nat) : (s.sendFlit h side type stream).variant = s.variant := by
  unfold State.sendFlit; split <;> rfl
@[simp] theorem State.sendFlit_regs (s : State) (h : Nat) (side : LinkSide) (type stream : Nat) : (s.sendFlit h side type stream).regs = s.regs := by
  unfold State.sendFlit; split <;> rfl
@[simp] theorem State.sendFlit_doms (s : State) (h : Nat) (side : LinkSide) (type stream : Nat) : (s.sendFlit h side type stream).doms = s.doms := by
  unfold State.sendFlit; split <;> rfl
@[simp] theorem State.sendFlit_mode (s : State) (h : Nat) (side : LinkSide) (type stream : Nat) : (s.sendFlit h side type stream).mode = s.mode := by
  unfold State.sendFlit; split <;> rfl
@[simp] theorem State.sendFlit_sys (s : State) (h : Nat) (side : LinkSide) (type stream : Nat) : (s.sendFlit h side type stream).sys = s.sys := by
  unfold State.sendFlit; split <;> rfl
@[simp] theorem State.sendFlit_tim (s : State) (h : Nat) (side : LinkSide) (type stream : Nat) : (s.sendFlit h side type stream).tim = s.tim := by
  unfold State.sendFlit; split <;> rfl
@[simp] theorem State.sendFlit_shadows (s : State) (h : Nat) (side : LinkSide) (type stream : Nat) : (s.sendFlit h side type stream).shadows = s.shadows := by
  unfold State.sendFlit; split <;> rfl
@[simp] theorem State.sendFlit_cfg (s : State) (h : Nat) (side : LinkSide) (type stream : Nat) : (s.sendFlit h side type stream).cfg = s.cfg := by
  unfold State.sendFlit; split <;> rfl
@[simp] theorem State.sendFlit_ev (s : State) (h : Nat) (side : LinkSide) (type stream : Nat) : (s.sendFlit h side type stream).ev = s.ev := by
  unfold State.sendFlit; split <;> rfl
@[simp] theorem State.sendFlit_chk (s : State) (h : Nat) (side : LinkSide) (type stream : Nat) : (s.sendFlit h side type stream).chk = s.chk := by
  unfold State.sendFlit; split <;> rfl
@[simp] theorem State.sendFlit_sec (s : State) (h : Nat) (side : LinkSide) (type stream : Nat) : (s.sendFlit h side type stream).sec = s.sec := by
  unfold State.sendFlit; split <;> rfl
@[simp] theorem State.sendFlit_hlt (s : State) (h : Nat) (side : LinkSide) (type stream : Nat) : (s.sendFlit h side type stream).hlt = s.hlt := by
  unfold State.sendFlit; split <;> rfl
@[simp] theorem State.sendFlit_quads (s : State) (h : Nat) (side : LinkSide) (type stream : Nat) : (s.sendFlit h side type stream).quads = s.quads := by
  unfold State.sendFlit; split <;> rfl
@[simp] theorem State.sendFlit_chains (s : State) (h : Nat) (side : LinkSide) (type stream : Nat) : (s.sendFlit h side type stream).chains = s.chains := by
  unfold State.sendFlit; split <;> rfl
@[simp] theorem State.sendFlit_sweep (s : State) (h : Nat) (side : LinkSide) (type stream : Nat) : (s.sendFlit h side type stream).sweep = s.sweep := by
  unfold State.sendFlit; split <;> rfl
@[simp] theorem State.sendFlit_rep (s : State) (h : Nat) (side : LinkSide) (type stream : Nat) : (s.sendFlit h side type stream).rep = s.rep := by
  unfold State.sendFlit; split <;> rfl
@[simp] theorem State.sendFlit_eng (s : State) (h : Nat) (side : LinkSide) (type stream : Nat) : (s.sendFlit h side type stream).eng = s.eng := by
  unfold State.sendFlit; split <;> rfl
@[simp] theorem State.sendFlit_ilk (s : State) (h : Nat) (side : LinkSide) (type stream : Nat) : (s.sendFlit h side type stream).ilk = s.ilk := by
  unfold State.sendFlit; split <;> rfl
@[simp] theorem State.sendFlit_arr (s : State) (h : Nat) (side : LinkSide) (type stream : Nat) : (s.sendFlit h side type stream).arr = s.arr := by
  unfold State.sendFlit; split <;> rfl
@[simp] theorem State.sendFlit_val (s : State) (h : Nat) (side : LinkSide) (type stream : Nat) : (s.sendFlit h side type stream).val = s.val := by
  unfold State.sendFlit; split <;> rfl
@[simp] theorem State.sendFlit_trk (s : State) (h : Nat) (side : LinkSide) (type stream : Nat) : (s.sendFlit h side type stream).trk = s.trk := by
  unfold State.sendFlit; split <;> rfl
@[simp] theorem State.sendFlit_hf (s : State) (h : Nat) (side : LinkSide) (type stream : Nat) : (s.sendFlit h side type stream).hf = s.hf := by
  unfold State.sendFlit; split <;> rfl
@[simp] theorem State.sendFlit_testC (s : State) (h : Nat) (side : LinkSide) (type stream : Nat) : (s.sendFlit h side type stream).testC = s.testC := by
  unfold State.sendFlit; split <;> rfl
@[simp] theorem State.sendFlit_mem (s : State) (h : Nat) (side : LinkSide) (type stream : Nat) : (s.sendFlit h side type stream).mem = s.mem := by
  unfold State.sendFlit; split <;> rfl
@[simp] theorem State.sendFlit_brd (s : State) (h : Nat) (side : LinkSide) (type stream : Nat) : (s.sendFlit h side type stream).brd = s.brd := by
  unfold State.sendFlit; split <;> rfl
@[simp] theorem State.sendFlit_io (s : State) (h : Nat) (side : LinkSide) (type stream : Nat) : (s.sendFlit h side type stream).io = s.io := by
  unfold State.sendFlit; split <;> rfl
@[simp] theorem State.sendFlit_free (s : State) (h : Nat) (side : LinkSide) (type stream : Nat) : (s.sendFlit h side type stream).free = s.free := by
  unfold State.sendFlit; split <;> rfl
@[simp] theorem State.sendFlit_pending (s : State) (h : Nat) (side : LinkSide) (type stream : Nat) : (s.sendFlit h side type stream).pending = s.pending := by
  unfold State.sendFlit; split <;> rfl

/-! `linkClear` -/

@[simp] theorem State.linkClear_variant (s : State) (h width : Nat) (training : Bool) : (s.linkClear h width training).variant = s.variant := rfl
@[simp] theorem State.linkClear_regs (s : State) (h width : Nat) (training : Bool) : (s.linkClear h width training).regs = s.regs := rfl
@[simp] theorem State.linkClear_doms (s : State) (h width : Nat) (training : Bool) : (s.linkClear h width training).doms = s.doms := rfl
@[simp] theorem State.linkClear_mode (s : State) (h width : Nat) (training : Bool) : (s.linkClear h width training).mode = s.mode := rfl
@[simp] theorem State.linkClear_sys (s : State) (h width : Nat) (training : Bool) : (s.linkClear h width training).sys = s.sys := rfl
@[simp] theorem State.linkClear_tim (s : State) (h width : Nat) (training : Bool) : (s.linkClear h width training).tim = s.tim := rfl
@[simp] theorem State.linkClear_shadows (s : State) (h width : Nat) (training : Bool) : (s.linkClear h width training).shadows = s.shadows := rfl
@[simp] theorem State.linkClear_cfg (s : State) (h width : Nat) (training : Bool) : (s.linkClear h width training).cfg = s.cfg := rfl
@[simp] theorem State.linkClear_ev (s : State) (h width : Nat) (training : Bool) : (s.linkClear h width training).ev = s.ev := rfl
@[simp] theorem State.linkClear_chk (s : State) (h width : Nat) (training : Bool) : (s.linkClear h width training).chk = s.chk := rfl
@[simp] theorem State.linkClear_sec (s : State) (h width : Nat) (training : Bool) : (s.linkClear h width training).sec = s.sec := rfl
@[simp] theorem State.linkClear_hlt (s : State) (h width : Nat) (training : Bool) : (s.linkClear h width training).hlt = s.hlt := rfl
@[simp] theorem State.linkClear_quads (s : State) (h width : Nat) (training : Bool) : (s.linkClear h width training).quads = s.quads := rfl
@[simp] theorem State.linkClear_chains (s : State) (h width : Nat) (training : Bool) : (s.linkClear h width training).chains = s.chains := rfl
@[simp] theorem State.linkClear_sweep (s : State) (h width : Nat) (training : Bool) : (s.linkClear h width training).sweep = s.sweep := rfl
@[simp] theorem State.linkClear_rep (s : State) (h width : Nat) (training : Bool) : (s.linkClear h width training).rep = s.rep := rfl
@[simp] theorem State.linkClear_eng (s : State) (h width : Nat) (training : Bool) : (s.linkClear h width training).eng = s.eng := rfl
@[simp] theorem State.linkClear_ilk (s : State) (h width : Nat) (training : Bool) : (s.linkClear h width training).ilk = s.ilk := rfl
@[simp] theorem State.linkClear_arr (s : State) (h width : Nat) (training : Bool) : (s.linkClear h width training).arr = s.arr := rfl
@[simp] theorem State.linkClear_val (s : State) (h width : Nat) (training : Bool) : (s.linkClear h width training).val = s.val := rfl
@[simp] theorem State.linkClear_trk (s : State) (h width : Nat) (training : Bool) : (s.linkClear h width training).trk = s.trk := rfl
@[simp] theorem State.linkClear_hf (s : State) (h width : Nat) (training : Bool) : (s.linkClear h width training).hf = s.hf := rfl
@[simp] theorem State.linkClear_testC (s : State) (h width : Nat) (training : Bool) : (s.linkClear h width training).testC = s.testC := rfl
@[simp] theorem State.linkClear_mem (s : State) (h width : Nat) (training : Bool) : (s.linkClear h width training).mem = s.mem := rfl
@[simp] theorem State.linkClear_brd (s : State) (h width : Nat) (training : Bool) : (s.linkClear h width training).brd = s.brd := rfl
@[simp] theorem State.linkClear_io (s : State) (h width : Nat) (training : Bool) : (s.linkClear h width training).io = s.io := rfl
@[simp] theorem State.linkClear_free (s : State) (h width : Nat) (training : Bool) : (s.linkClear h width training).free = s.free := rfl
@[simp] theorem State.linkClear_pending (s : State) (h width : Nat) (training : Bool) : (s.linkClear h width training).pending = s.pending := rfl

/-! `updStream` -/

@[simp] theorem State.updStream_variant (s : State) (i : Nat) (f : Stream → Stream) : (s.updStream i f).variant = s.variant := rfl
@[simp] theorem State.updStream_regs (s : State) (i : Nat) (f : Stream → Stream) : (s.updStream i f).regs = s.regs := rfl
@[simp] theorem State.updStream_doms (s : State) (i : Nat) (f : Stream → Stream) : (s.updStream i f).doms = s.doms := rfl
@[simp] theorem State.updStream_mode (s : State) (i : Nat) (f : Stream → Stream) : (s.updStream i f).mode = s.mode := rfl
@[simp] theorem State.updStream_sys (s : State) (i : Nat) (f : Stream → Stream) : (s.updStream i f).sys = s.sys := rfl
@[simp] theorem State.updStream_tim (s : State) (i : Nat) (f : Stream → Stream) : (s.updStream i f).tim = s.tim := rfl
@[simp] theorem State.updStream_shadows (s : State) (i : Nat) (f : Stream → Stream) : (s.updStream i f).shadows = s.shadows := rfl
@[simp] theorem State.updStream_cfg (s : State) (i : Nat) (f : Stream → Stream) : (s.updStream i f).cfg = s.cfg := rfl
@[simp] theorem State.updStream_ev (s : State) (i : Nat) (f : Stream → Stream) : (s.updStream i f).ev = s.ev := rfl
@[simp] theorem State.updStream_chk (s : State) (i : Nat) (f : Stream → Stream) : (s.updStream i f).chk = s.chk := rfl
@[simp] theorem State.updStream_sec (s : State) (i : Nat) (f : Stream → Stream) : (s.updStream i f).sec = s.sec := rfl
@[simp] theorem State.updStream_hlt (s : State) (i : Nat) (f : Stream → Stream) : (s.updStream i f).hlt = s.hlt := rfl
@[simp] theorem State.updStream_hubs (s : State) (i : Nat) (f : Stream → Stream) : (s.updStream i f).hubs = s.hubs := rfl
@[simp] theorem State.updStream_quads (s : State) (i : Nat) (f : Stream → Stream) : (s.updStream i f).quads = s.quads := rfl
@[simp] theorem State.updStream_chains (s : State) (i : Nat) (f : Stream → Stream) : (s.updStream i f).chains = s.chains := rfl
@[simp] theorem State.updStream_sweep (s : State) (i : Nat) (f : Stream → Stream) : (s.updStream i f).sweep = s.sweep := rfl
@[simp] theorem State.updStream_eng (s : State) (i : Nat) (f : Stream → Stream) : (s.updStream i f).eng = s.eng := rfl
@[simp] theorem State.updStream_ilk (s : State) (i : Nat) (f : Stream → Stream) : (s.updStream i f).ilk = s.ilk := rfl
@[simp] theorem State.updStream_arr (s : State) (i : Nat) (f : Stream → Stream) : (s.updStream i f).arr = s.arr := rfl
@[simp] theorem State.updStream_val (s : State) (i : Nat) (f : Stream → Stream) : (s.updStream i f).val = s.val := rfl
@[simp] theorem State.updStream_trk (s : State) (i : Nat) (f : Stream → Stream) : (s.updStream i f).trk = s.trk := rfl
@[simp] theorem State.updStream_hf (s : State) (i : Nat) (f : Stream → Stream) : (s.updStream i f).hf = s.hf := rfl
@[simp] theorem State.updStream_testC (s : State) (i : Nat) (f : Stream → Stream) : (s.updStream i f).testC = s.testC := rfl
@[simp] theorem State.updStream_mem (s : State) (i : Nat) (f : Stream → Stream) : (s.updStream i f).mem = s.mem := rfl
@[simp] theorem State.updStream_brd (s : State) (i : Nat) (f : Stream → Stream) : (s.updStream i f).brd = s.brd := rfl
@[simp] theorem State.updStream_io (s : State) (i : Nat) (f : Stream → Stream) : (s.updStream i f).io = s.io := rfl
@[simp] theorem State.updStream_free (s : State) (i : Nat) (f : Stream → Stream) : (s.updStream i f).free = s.free := rfl
@[simp] theorem State.updStream_pending (s : State) (i : Nat) (f : Stream → Stream) : (s.updStream i f).pending = s.pending := rfl

/-! `updPermit` -/

@[simp] theorem State.updPermit_variant (s : State) (e : Nat) (f : Permit → Permit) : (s.updPermit e f).variant = s.variant := rfl
@[simp] theorem State.updPermit_regs (s : State) (e : Nat) (f : Permit → Permit) : (s.updPermit e f).regs = s.regs := rfl
@[simp] theorem State.updPermit_doms (s : State) (e : Nat) (f : Permit → Permit) : (s.updPermit e f).doms = s.doms := rfl
@[simp] theorem State.updPermit_mode (s : State) (e : Nat) (f : Permit → Permit) : (s.updPermit e f).mode = s.mode := rfl
@[simp] theorem State.updPermit_sys (s : State) (e : Nat) (f : Permit → Permit) : (s.updPermit e f).sys = s.sys := rfl
@[simp] theorem State.updPermit_tim (s : State) (e : Nat) (f : Permit → Permit) : (s.updPermit e f).tim = s.tim := rfl
@[simp] theorem State.updPermit_shadows (s : State) (e : Nat) (f : Permit → Permit) : (s.updPermit e f).shadows = s.shadows := rfl
@[simp] theorem State.updPermit_cfg (s : State) (e : Nat) (f : Permit → Permit) : (s.updPermit e f).cfg = s.cfg := rfl
@[simp] theorem State.updPermit_ev (s : State) (e : Nat) (f : Permit → Permit) : (s.updPermit e f).ev = s.ev := rfl
@[simp] theorem State.updPermit_chk (s : State) (e : Nat) (f : Permit → Permit) : (s.updPermit e f).chk = s.chk := rfl
@[simp] theorem State.updPermit_sec (s : State) (e : Nat) (f : Permit → Permit) : (s.updPermit e f).sec = s.sec := rfl
@[simp] theorem State.updPermit_hlt (s : State) (e : Nat) (f : Permit → Permit) : (s.updPermit e f).hlt = s.hlt := rfl
@[simp] theorem State.updPermit_hubs (s : State) (e : Nat) (f : Permit → Permit) : (s.updPermit e f).hubs = s.hubs := rfl
@[simp] theorem State.updPermit_quads (s : State) (e : Nat) (f : Permit → Permit) : (s.updPermit e f).quads = s.quads := rfl
@[simp] theorem State.updPermit_chains (s : State) (e : Nat) (f : Permit → Permit) : (s.updPermit e f).chains = s.chains := rfl
@[simp] theorem State.updPermit_sweep (s : State) (e : Nat) (f : Permit → Permit) : (s.updPermit e f).sweep = s.sweep := rfl
@[simp] theorem State.updPermit_rep (s : State) (e : Nat) (f : Permit → Permit) : (s.updPermit e f).rep = s.rep := rfl
@[simp] theorem State.updPermit_eng (s : State) (e : Nat) (f : Permit → Permit) : (s.updPermit e f).eng = s.eng := rfl
@[simp] theorem State.updPermit_arr (s : State) (e : Nat) (f : Permit → Permit) : (s.updPermit e f).arr = s.arr := rfl
@[simp] theorem State.updPermit_val (s : State) (e : Nat) (f : Permit → Permit) : (s.updPermit e f).val = s.val := rfl
@[simp] theorem State.updPermit_trk (s : State) (e : Nat) (f : Permit → Permit) : (s.updPermit e f).trk = s.trk := rfl
@[simp] theorem State.updPermit_hf (s : State) (e : Nat) (f : Permit → Permit) : (s.updPermit e f).hf = s.hf := rfl
@[simp] theorem State.updPermit_testC (s : State) (e : Nat) (f : Permit → Permit) : (s.updPermit e f).testC = s.testC := rfl
@[simp] theorem State.updPermit_mem (s : State) (e : Nat) (f : Permit → Permit) : (s.updPermit e f).mem = s.mem := rfl
@[simp] theorem State.updPermit_brd (s : State) (e : Nat) (f : Permit → Permit) : (s.updPermit e f).brd = s.brd := rfl
@[simp] theorem State.updPermit_io (s : State) (e : Nat) (f : Permit → Permit) : (s.updPermit e f).io = s.io := rfl
@[simp] theorem State.updPermit_free (s : State) (e : Nat) (f : Permit → Permit) : (s.updPermit e f).free = s.free := rfl
@[simp] theorem State.updPermit_pending (s : State) (e : Nat) (f : Permit → Permit) : (s.updPermit e f).pending = s.pending := rfl

/-! `updIo` -/

@[simp] theorem State.updIo_variant (s : State) (f : Io → Io) : (s.updIo f).variant = s.variant := rfl
@[simp] theorem State.updIo_regs (s : State) (f : Io → Io) : (s.updIo f).regs = s.regs := rfl
@[simp] theorem State.updIo_doms (s : State) (f : Io → Io) : (s.updIo f).doms = s.doms := rfl
@[simp] theorem State.updIo_mode (s : State) (f : Io → Io) : (s.updIo f).mode = s.mode := rfl
@[simp] theorem State.updIo_sys (s : State) (f : Io → Io) : (s.updIo f).sys = s.sys := rfl
@[simp] theorem State.updIo_tim (s : State) (f : Io → Io) : (s.updIo f).tim = s.tim := rfl
@[simp] theorem State.updIo_shadows (s : State) (f : Io → Io) : (s.updIo f).shadows = s.shadows := rfl
@[simp] theorem State.updIo_cfg (s : State) (f : Io → Io) : (s.updIo f).cfg = s.cfg := rfl
@[simp] theorem State.updIo_ev (s : State) (f : Io → Io) : (s.updIo f).ev = s.ev := rfl
@[simp] theorem State.updIo_chk (s : State) (f : Io → Io) : (s.updIo f).chk = s.chk := rfl
@[simp] theorem State.updIo_sec (s : State) (f : Io → Io) : (s.updIo f).sec = s.sec := rfl
@[simp] theorem State.updIo_hlt (s : State) (f : Io → Io) : (s.updIo f).hlt = s.hlt := rfl
@[simp] theorem State.updIo_hubs (s : State) (f : Io → Io) : (s.updIo f).hubs = s.hubs := rfl
@[simp] theorem State.updIo_quads (s : State) (f : Io → Io) : (s.updIo f).quads = s.quads := rfl
@[simp] theorem State.updIo_chains (s : State) (f : Io → Io) : (s.updIo f).chains = s.chains := rfl
@[simp] theorem State.updIo_sweep (s : State) (f : Io → Io) : (s.updIo f).sweep = s.sweep := rfl
@[simp] theorem State.updIo_rep (s : State) (f : Io → Io) : (s.updIo f).rep = s.rep := rfl
@[simp] theorem State.updIo_eng (s : State) (f : Io → Io) : (s.updIo f).eng = s.eng := rfl
@[simp] theorem State.updIo_ilk (s : State) (f : Io → Io) : (s.updIo f).ilk = s.ilk := rfl
@[simp] theorem State.updIo_arr (s : State) (f : Io → Io) : (s.updIo f).arr = s.arr := rfl
@[simp] theorem State.updIo_val (s : State) (f : Io → Io) : (s.updIo f).val = s.val := rfl
@[simp] theorem State.updIo_trk (s : State) (f : Io → Io) : (s.updIo f).trk = s.trk := rfl
@[simp] theorem State.updIo_hf (s : State) (f : Io → Io) : (s.updIo f).hf = s.hf := rfl
@[simp] theorem State.updIo_testC (s : State) (f : Io → Io) : (s.updIo f).testC = s.testC := rfl
@[simp] theorem State.updIo_mem (s : State) (f : Io → Io) : (s.updIo f).mem = s.mem := rfl
@[simp] theorem State.updIo_brd (s : State) (f : Io → Io) : (s.updIo f).brd = s.brd := rfl
@[simp] theorem State.updIo_free (s : State) (f : Io → Io) : (s.updIo f).free = s.free := rfl
@[simp] theorem State.updIo_pending (s : State) (f : Io → Io) : (s.updIo f).pending = s.pending := rfl

/-! `updHf` -/

@[simp] theorem State.updHf_variant (s : State) (f : Hf → Hf) : (s.updHf f).variant = s.variant := rfl
@[simp] theorem State.updHf_regs (s : State) (f : Hf → Hf) : (s.updHf f).regs = s.regs := rfl
@[simp] theorem State.updHf_doms (s : State) (f : Hf → Hf) : (s.updHf f).doms = s.doms := rfl
@[simp] theorem State.updHf_mode (s : State) (f : Hf → Hf) : (s.updHf f).mode = s.mode := rfl
@[simp] theorem State.updHf_sys (s : State) (f : Hf → Hf) : (s.updHf f).sys = s.sys := rfl
@[simp] theorem State.updHf_tim (s : State) (f : Hf → Hf) : (s.updHf f).tim = s.tim := rfl
@[simp] theorem State.updHf_shadows (s : State) (f : Hf → Hf) : (s.updHf f).shadows = s.shadows := rfl
@[simp] theorem State.updHf_cfg (s : State) (f : Hf → Hf) : (s.updHf f).cfg = s.cfg := rfl
@[simp] theorem State.updHf_ev (s : State) (f : Hf → Hf) : (s.updHf f).ev = s.ev := rfl
@[simp] theorem State.updHf_chk (s : State) (f : Hf → Hf) : (s.updHf f).chk = s.chk := rfl
@[simp] theorem State.updHf_sec (s : State) (f : Hf → Hf) : (s.updHf f).sec = s.sec := rfl
@[simp] theorem State.updHf_hlt (s : State) (f : Hf → Hf) : (s.updHf f).hlt = s.hlt := rfl
@[simp] theorem State.updHf_hubs (s : State) (f : Hf → Hf) : (s.updHf f).hubs = s.hubs := rfl
@[simp] theorem State.updHf_quads (s : State) (f : Hf → Hf) : (s.updHf f).quads = s.quads := rfl
@[simp] theorem State.updHf_chains (s : State) (f : Hf → Hf) : (s.updHf f).chains = s.chains := rfl
@[simp] theorem State.updHf_sweep (s : State) (f : Hf → Hf) : (s.updHf f).sweep = s.sweep := rfl
@[simp] theorem State.updHf_rep (s : State) (f : Hf → Hf) : (s.updHf f).rep = s.rep := rfl
@[simp] theorem State.updHf_eng (s : State) (f : Hf → Hf) : (s.updHf f).eng = s.eng := rfl
@[simp] theorem State.updHf_ilk (s : State) (f : Hf → Hf) : (s.updHf f).ilk = s.ilk := rfl
@[simp] theorem State.updHf_arr (s : State) (f : Hf → Hf) : (s.updHf f).arr = s.arr := rfl
@[simp] theorem State.updHf_val (s : State) (f : Hf → Hf) : (s.updHf f).val = s.val := rfl
@[simp] theorem State.updHf_trk (s : State) (f : Hf → Hf) : (s.updHf f).trk = s.trk := rfl
@[simp] theorem State.updHf_testC (s : State) (f : Hf → Hf) : (s.updHf f).testC = s.testC := rfl
@[simp] theorem State.updHf_mem (s : State) (f : Hf → Hf) : (s.updHf f).mem = s.mem := rfl
@[simp] theorem State.updHf_brd (s : State) (f : Hf → Hf) : (s.updHf f).brd = s.brd := rfl
@[simp] theorem State.updHf_io (s : State) (f : Hf → Hf) : (s.updHf f).io = s.io := rfl
@[simp] theorem State.updHf_free (s : State) (f : Hf → Hf) : (s.updHf f).free = s.free := rfl
@[simp] theorem State.updHf_pending (s : State) (f : Hf → Hf) : (s.updHf f).pending = s.pending := rfl

/-! `updTwb` -/

@[simp] theorem State.updTwb_variant (s : State) (f : Brd → Brd) : (s.updTwb f).variant = s.variant := rfl
@[simp] theorem State.updTwb_regs (s : State) (f : Brd → Brd) : (s.updTwb f).regs = s.regs := rfl
@[simp] theorem State.updTwb_doms (s : State) (f : Brd → Brd) : (s.updTwb f).doms = s.doms := rfl
@[simp] theorem State.updTwb_mode (s : State) (f : Brd → Brd) : (s.updTwb f).mode = s.mode := rfl
@[simp] theorem State.updTwb_sys (s : State) (f : Brd → Brd) : (s.updTwb f).sys = s.sys := rfl
@[simp] theorem State.updTwb_tim (s : State) (f : Brd → Brd) : (s.updTwb f).tim = s.tim := rfl
@[simp] theorem State.updTwb_shadows (s : State) (f : Brd → Brd) : (s.updTwb f).shadows = s.shadows := rfl
@[simp] theorem State.updTwb_cfg (s : State) (f : Brd → Brd) : (s.updTwb f).cfg = s.cfg := rfl
@[simp] theorem State.updTwb_ev (s : State) (f : Brd → Brd) : (s.updTwb f).ev = s.ev := rfl
@[simp] theorem State.updTwb_chk (s : State) (f : Brd → Brd) : (s.updTwb f).chk = s.chk := rfl
@[simp] theorem State.updTwb_sec (s : State) (f : Brd → Brd) : (s.updTwb f).sec = s.sec := rfl
@[simp] theorem State.updTwb_hlt (s : State) (f : Brd → Brd) : (s.updTwb f).hlt = s.hlt := rfl
@[simp] theorem State.updTwb_hubs (s : State) (f : Brd → Brd) : (s.updTwb f).hubs = s.hubs := rfl
@[simp] theorem State.updTwb_quads (s : State) (f : Brd → Brd) : (s.updTwb f).quads = s.quads := rfl
@[simp] theorem State.updTwb_chains (s : State) (f : Brd → Brd) : (s.updTwb f).chains = s.chains := rfl
@[simp] theorem State.updTwb_sweep (s : State) (f : Brd → Brd) : (s.updTwb f).sweep = s.sweep := rfl
@[simp] theorem State.updTwb_rep (s : State) (f : Brd → Brd) : (s.updTwb f).rep = s.rep := rfl
@[simp] theorem State.updTwb_eng (s : State) (f : Brd → Brd) : (s.updTwb f).eng = s.eng := rfl
@[simp] theorem State.updTwb_ilk (s : State) (f : Brd → Brd) : (s.updTwb f).ilk = s.ilk := rfl
@[simp] theorem State.updTwb_arr (s : State) (f : Brd → Brd) : (s.updTwb f).arr = s.arr := rfl
@[simp] theorem State.updTwb_val (s : State) (f : Brd → Brd) : (s.updTwb f).val = s.val := rfl
@[simp] theorem State.updTwb_trk (s : State) (f : Brd → Brd) : (s.updTwb f).trk = s.trk := rfl
@[simp] theorem State.updTwb_hf (s : State) (f : Brd → Brd) : (s.updTwb f).hf = s.hf := rfl
@[simp] theorem State.updTwb_testC (s : State) (f : Brd → Brd) : (s.updTwb f).testC = s.testC := rfl
@[simp] theorem State.updTwb_mem (s : State) (f : Brd → Brd) : (s.updTwb f).mem = s.mem := rfl
@[simp] theorem State.updTwb_io (s : State) (f : Brd → Brd) : (s.updTwb f).io = s.io := rfl
@[simp] theorem State.updTwb_free (s : State) (f : Brd → Brd) : (s.updTwb f).free = s.free := rfl
@[simp] theorem State.updTwb_pending (s : State) (f : Brd → Brd) : (s.updTwb f).pending = s.pending := rfl

/-! `secureRead` -/

@[simp] theorem State.secureRead_variant (s : State) : (s.secureRead).variant = s.variant := rfl
@[simp] theorem State.secureRead_regs (s : State) : (s.secureRead).regs = s.regs := rfl
@[simp] theorem State.secureRead_doms (s : State) : (s.secureRead).doms = s.doms := rfl
@[simp] theorem State.secureRead_mode (s : State) : (s.secureRead).mode = s.mode := rfl
@[simp] theorem State.secureRead_sys (s : State) : (s.secureRead).sys = s.sys := rfl
@[simp] theorem State.secureRead_tim (s : State) : (s.secureRead).tim = s.tim := rfl
@[simp] theorem State.secureRead_shadows (s : State) : (s.secureRead).shadows = s.shadows := rfl
@[simp] theorem State.secureRead_cfg (s : State) : (s.secureRead).cfg = s.cfg := rfl
@[simp] theorem State.secureRead_ev (s : State) : (s.secureRead).ev = s.ev := rfl
@[simp] theorem State.secureRead_chk (s : State) : (s.secureRead).chk = s.chk := rfl
@[simp] theorem State.secureRead_sec (s : State) : (s.secureRead).sec = s.sec := rfl
@[simp] theorem State.secureRead_hlt (s : State) : (s.secureRead).hlt = s.hlt := rfl
@[simp] theorem State.secureRead_hubs (s : State) : (s.secureRead).hubs = s.hubs := rfl
@[simp] theorem State.secureRead_quads (s : State) : (s.secureRead).quads = s.quads := rfl
@[simp] theorem State.secureRead_chains (s : State) : (s.secureRead).chains = s.chains := rfl
@[simp] theorem State.secureRead_sweep (s : State) : (s.secureRead).sweep = s.sweep := rfl
@[simp] theorem State.secureRead_rep (s : State) : (s.secureRead).rep = s.rep := rfl
@[simp] theorem State.secureRead_eng (s : State) : (s.secureRead).eng = s.eng := rfl
@[simp] theorem State.secureRead_ilk (s : State) : (s.secureRead).ilk = s.ilk := rfl
@[simp] theorem State.secureRead_arr (s : State) : (s.secureRead).arr = s.arr := rfl
@[simp] theorem State.secureRead_val (s : State) : (s.secureRead).val = s.val := rfl
@[simp] theorem State.secureRead_trk (s : State) : (s.secureRead).trk = s.trk := rfl
@[simp] theorem State.secureRead_hf (s : State) : (s.secureRead).hf = s.hf := rfl
@[simp] theorem State.secureRead_testC (s : State) : (s.secureRead).testC = s.testC := rfl
@[simp] theorem State.secureRead_mem (s : State) : (s.secureRead).mem = s.mem := rfl
@[simp] theorem State.secureRead_io (s : State) : (s.secureRead).io = s.io := rfl
@[simp] theorem State.secureRead_free (s : State) : (s.secureRead).free = s.free := rfl
@[simp] theorem State.secureRead_pending (s : State) : (s.secureRead).pending = s.pending := rfl

/-! `flashOther` -/

@[simp] theorem State.flashOther_variant (s : State) (n : Nat) : (s.flashOther n).variant = s.variant := by
  unfold State.flashOther; split <;> rfl
@[simp] theorem State.flashOther_regs (s : State) (n : Nat) : (s.flashOther n).regs = s.regs := by
  unfold State.flashOther; split <;> rfl
@[simp] theorem State.flashOther_doms (s : State) (n : Nat) : (s.flashOther n).doms = s.doms := by
  unfold State.flashOther; split <;> rfl
@[simp] theorem State.flashOther_mode (s : State) (n : Nat) : (s.flashOther n).mode = s.mode := by
  unfold State.flashOther; split <;> rfl
@[simp] theorem State.flashOther_sys (s : State) (n : Nat) : (s.flashOther n).sys = s.sys := by
  unfold State.flashOther; split <;> rfl
@[simp] theorem State.flashOther_tim (s : State) (n : Nat) : (s.flashOther n).tim = s.tim := by
  unfold State.flashOther; split <;> rfl
@[simp] theorem State.flashOther_shadows (s : State) (n : Nat) : (s.flashOther n).shadows = s.shadows := by
  unfold State.flashOther; split <;> rfl
@[simp] theorem State.flashOther_cfg (s : State) (n : Nat) : (s.flashOther n).cfg = s.cfg := by
  unfold State.flashOther; split <;> rfl
@[simp] theorem State.flashOther_ev (s : State) (n : Nat) : (s.flashOther n).ev = s.ev := by
  unfold State.flashOther; split <;> rfl
@[simp] theorem State.flashOther_chk (s : State) (n : Nat) : (s.flashOther n).chk = s.chk := by
  unfold State.flashOther; split <;> rfl
@[simp] theorem State.flashOther_sec (s : State) (n : Nat) : (s.flashOther n).sec = s.sec := by
  unfold State.flashOther; split <;> rfl
@[simp] theorem State.flashOther_hlt (s : State) (n : Nat) : (s.flashOther n).hlt = s.hlt := by
  unfold State.flashOther; split <;> rfl
@[simp] theorem State.flashOther_hubs (s : State) (n : Nat) : (s.flashOther n).hubs = s.hubs := by
  unfold State.flashOther; split <;> rfl
@[simp] theorem State.flashOther_quads (s : State) (n : Nat) : (s.flashOther n).quads = s.quads := by
  unfold State.flashOther; split <;> rfl
@[simp] theorem State.flashOther_chains (s : State) (n : Nat) : (s.flashOther n).chains = s.chains := by
  unfold State.flashOther; split <;> rfl
@[simp] theorem State.flashOther_sweep (s : State) (n : Nat) : (s.flashOther n).sweep = s.sweep := by
  unfold State.flashOther; split <;> rfl
@[simp] theorem State.flashOther_rep (s : State) (n : Nat) : (s.flashOther n).rep = s.rep := by
  unfold State.flashOther; split <;> rfl
@[simp] theorem State.flashOther_eng (s : State) (n : Nat) : (s.flashOther n).eng = s.eng := by
  unfold State.flashOther; split <;> rfl
@[simp] theorem State.flashOther_ilk (s : State) (n : Nat) : (s.flashOther n).ilk = s.ilk := by
  unfold State.flashOther; split <;> rfl
@[simp] theorem State.flashOther_arr (s : State) (n : Nat) : (s.flashOther n).arr = s.arr := by
  unfold State.flashOther; split <;> rfl
@[simp] theorem State.flashOther_val (s : State) (n : Nat) : (s.flashOther n).val = s.val := by
  unfold State.flashOther; split <;> rfl
@[simp] theorem State.flashOther_trk (s : State) (n : Nat) : (s.flashOther n).trk = s.trk := by
  unfold State.flashOther; split <;> rfl
@[simp] theorem State.flashOther_hf (s : State) (n : Nat) : (s.flashOther n).hf = s.hf := by
  unfold State.flashOther; split <;> rfl
@[simp] theorem State.flashOther_testC (s : State) (n : Nat) : (s.flashOther n).testC = s.testC := by
  unfold State.flashOther; split <;> rfl
@[simp] theorem State.flashOther_mem (s : State) (n : Nat) : (s.flashOther n).mem = s.mem := by
  unfold State.flashOther; split <;> rfl
@[simp] theorem State.flashOther_io (s : State) (n : Nat) : (s.flashOther n).io = s.io := by
  unfold State.flashOther; split <;> rfl
@[simp] theorem State.flashOther_free (s : State) (n : Nat) : (s.flashOther n).free = s.free := by
  unfold State.flashOther; split <;> rfl
@[simp] theorem State.flashOther_pending (s : State) (n : Nat) : (s.flashOther n).pending = s.pending := by
  unfold State.flashOther; split <;> rfl

/-! Reading a flash changes no byte of any. -/

@[simp] theorem Brd.modeExit_flash (b : Brd) : b.modeExit.flash = b.flash := by unfold Brd.modeExit; split <;> rfl
@[simp] theorem State.flash_secureRead (s : State) (n : Nat) : s.secureRead.flash n = s.flash n := rfl
@[simp] theorem State.flash_flashOther (s : State) (n k : Nat) : (s.flashOther n).flash k = s.flash k := by
  unfold State.flash State.flashOther; split
  · show (Tab.find s.brd.modeExit.flash k).getD [] = _; rw [Brd.modeExit_flash]
  · rfl

/-! `puts`, `record`, `recordIf`: only `regs` differs. -/

theorem State.puts_only (s : State) (l : List (Nat × Nat)) : ∃ x, s.puts l = { s with regs := x } := by
  induction l generalizing s with
  | nil => exact ⟨s.regs, rfl⟩
  | cons p r ih => obtain ⟨x, h⟩ := ih (s.put p.1 p.2); exact ⟨x, h⟩

theorem State.record_only (s : State) (q : Nat) (l : List (Nat × Nat)) : ∃ x, s.record q l = { s with regs := x } := by
  obtain ⟨x, h⟩ := State.puts_only s l
  exact ⟨(s.record q l).regs, by simp only [State.record, State.seq, State.put, h]⟩

theorem State.recordIf_only (s : State) (q : Nat) (l : List (Nat × Nat)) : ∃ x, s.recordIf q l = { s with regs := x } := by
  unfold State.recordIf
  split
  · exact ⟨s.regs, rfl⟩
  · exact State.record_only s q l

@[simp] theorem State.puts_variant (s : State) (l : List (Nat × Nat)) : (s.puts l).variant = s.variant := by
  obtain ⟨_, h⟩ := State.puts_only s l; rw [h]
@[simp] theorem State.puts_doms (s : State) (l : List (Nat × Nat)) : (s.puts l).doms = s.doms := by
  obtain ⟨_, h⟩ := State.puts_only s l; rw [h]
@[simp] theorem State.puts_mode (s : State) (l : List (Nat × Nat)) : (s.puts l).mode = s.mode := by
  obtain ⟨_, h⟩ := State.puts_only s l; rw [h]
@[simp] theorem State.puts_sys (s : State) (l : List (Nat × Nat)) : (s.puts l).sys = s.sys := by
  obtain ⟨_, h⟩ := State.puts_only s l; rw [h]
@[simp] theorem State.puts_tim (s : State) (l : List (Nat × Nat)) : (s.puts l).tim = s.tim := by
  obtain ⟨_, h⟩ := State.puts_only s l; rw [h]
@[simp] theorem State.puts_shadows (s : State) (l : List (Nat × Nat)) : (s.puts l).shadows = s.shadows := by
  obtain ⟨_, h⟩ := State.puts_only s l; rw [h]
@[simp] theorem State.puts_cfg (s : State) (l : List (Nat × Nat)) : (s.puts l).cfg = s.cfg := by
  obtain ⟨_, h⟩ := State.puts_only s l; rw [h]
@[simp] theorem State.puts_ev (s : State) (l : List (Nat × Nat)) : (s.puts l).ev = s.ev := by
  obtain ⟨_, h⟩ := State.puts_only s l; rw [h]
@[simp] theorem State.puts_chk (s : State) (l : List (Nat × Nat)) : (s.puts l).chk = s.chk := by
  obtain ⟨_, h⟩ := State.puts_only s l; rw [h]
@[simp] theorem State.puts_sec (s : State) (l : List (Nat × Nat)) : (s.puts l).sec = s.sec := by
  obtain ⟨_, h⟩ := State.puts_only s l; rw [h]
@[simp] theorem State.puts_hlt (s : State) (l : List (Nat × Nat)) : (s.puts l).hlt = s.hlt := by
  obtain ⟨_, h⟩ := State.puts_only s l; rw [h]
@[simp] theorem State.puts_hubs (s : State) (l : List (Nat × Nat)) : (s.puts l).hubs = s.hubs := by
  obtain ⟨_, h⟩ := State.puts_only s l; rw [h]
@[simp] theorem State.puts_quads (s : State) (l : List (Nat × Nat)) : (s.puts l).quads = s.quads := by
  obtain ⟨_, h⟩ := State.puts_only s l; rw [h]
@[simp] theorem State.puts_chains (s : State) (l : List (Nat × Nat)) : (s.puts l).chains = s.chains := by
  obtain ⟨_, h⟩ := State.puts_only s l; rw [h]
@[simp] theorem State.puts_sweep (s : State) (l : List (Nat × Nat)) : (s.puts l).sweep = s.sweep := by
  obtain ⟨_, h⟩ := State.puts_only s l; rw [h]
@[simp] theorem State.puts_rep (s : State) (l : List (Nat × Nat)) : (s.puts l).rep = s.rep := by
  obtain ⟨_, h⟩ := State.puts_only s l; rw [h]
@[simp] theorem State.puts_eng (s : State) (l : List (Nat × Nat)) : (s.puts l).eng = s.eng := by
  obtain ⟨_, h⟩ := State.puts_only s l; rw [h]
@[simp] theorem State.puts_ilk (s : State) (l : List (Nat × Nat)) : (s.puts l).ilk = s.ilk := by
  obtain ⟨_, h⟩ := State.puts_only s l; rw [h]
@[simp] theorem State.puts_arr (s : State) (l : List (Nat × Nat)) : (s.puts l).arr = s.arr := by
  obtain ⟨_, h⟩ := State.puts_only s l; rw [h]
@[simp] theorem State.puts_val (s : State) (l : List (Nat × Nat)) : (s.puts l).val = s.val := by
  obtain ⟨_, h⟩ := State.puts_only s l; rw [h]
@[simp] theorem State.puts_trk (s : State) (l : List (Nat × Nat)) : (s.puts l).trk = s.trk := by
  obtain ⟨_, h⟩ := State.puts_only s l; rw [h]
@[simp] theorem State.puts_hf (s : State) (l : List (Nat × Nat)) : (s.puts l).hf = s.hf := by
  obtain ⟨_, h⟩ := State.puts_only s l; rw [h]
@[simp] theorem State.puts_testC (s : State) (l : List (Nat × Nat)) : (s.puts l).testC = s.testC := by
  obtain ⟨_, h⟩ := State.puts_only s l; rw [h]
@[simp] theorem State.puts_mem (s : State) (l : List (Nat × Nat)) : (s.puts l).mem = s.mem := by
  obtain ⟨_, h⟩ := State.puts_only s l; rw [h]
@[simp] theorem State.puts_brd (s : State) (l : List (Nat × Nat)) : (s.puts l).brd = s.brd := by
  obtain ⟨_, h⟩ := State.puts_only s l; rw [h]
@[simp] theorem State.puts_io (s : State) (l : List (Nat × Nat)) : (s.puts l).io = s.io := by
  obtain ⟨_, h⟩ := State.puts_only s l; rw [h]
@[simp] theorem State.puts_free (s : State) (l : List (Nat × Nat)) : (s.puts l).free = s.free := by
  obtain ⟨_, h⟩ := State.puts_only s l; rw [h]
@[simp] theorem State.puts_pending (s : State) (l : List (Nat × Nat)) : (s.puts l).pending = s.pending := by
  obtain ⟨_, h⟩ := State.puts_only s l; rw [h]

@[simp] theorem State.record_variant (s : State) (q : Nat) (l : List (Nat × Nat)) : (s.record q l).variant = s.variant := by
  obtain ⟨_, h⟩ := State.record_only s q l; rw [h]
@[simp] theorem State.record_doms (s : State) (q : Nat) (l : List (Nat × Nat)) : (s.record q l).doms = s.doms := by
  obtain ⟨_, h⟩ := State.record_only s q l; rw [h]
@[simp] theorem State.record_mode (s : State) (q : Nat) (l : List (Nat × Nat)) : (s.record q l).mode = s.mode := by
  obtain ⟨_, h⟩ := State.record_only s q l; rw [h]
@[simp] theorem State.record_sys (s : State) (q : Nat) (l : List (Nat × Nat)) : (s.record q l).sys = s.sys := by
  obtain ⟨_, h⟩ := State.record_only s q l; rw [h]
@[simp] theorem State.record_tim (s : State) (q : Nat) (l : List (Nat × Nat)) : (s.record q l).tim = s.tim := by
  obtain ⟨_, h⟩ := State.record_only s q l; rw [h]
@[simp] theorem State.record_shadows (s : State) (q : Nat) (l : List (Nat × Nat)) : (s.record q l).shadows = s.shadows := by
  obtain ⟨_, h⟩ := State.record_only s q l; rw [h]
@[simp] theorem State.record_cfg (s : State) (q : Nat) (l : List (Nat × Nat)) : (s.record q l).cfg = s.cfg := by
  obtain ⟨_, h⟩ := State.record_only s q l; rw [h]
@[simp] theorem State.record_ev (s : State) (q : Nat) (l : List (Nat × Nat)) : (s.record q l).ev = s.ev := by
  obtain ⟨_, h⟩ := State.record_only s q l; rw [h]
@[simp] theorem State.record_chk (s : State) (q : Nat) (l : List (Nat × Nat)) : (s.record q l).chk = s.chk := by
  obtain ⟨_, h⟩ := State.record_only s q l; rw [h]
@[simp] theorem State.record_sec (s : State) (q : Nat) (l : List (Nat × Nat)) : (s.record q l).sec = s.sec := by
  obtain ⟨_, h⟩ := State.record_only s q l; rw [h]
@[simp] theorem State.record_hlt (s : State) (q : Nat) (l : List (Nat × Nat)) : (s.record q l).hlt = s.hlt := by
  obtain ⟨_, h⟩ := State.record_only s q l; rw [h]
@[simp] theorem State.record_hubs (s : State) (q : Nat) (l : List (Nat × Nat)) : (s.record q l).hubs = s.hubs := by
  obtain ⟨_, h⟩ := State.record_only s q l; rw [h]
@[simp] theorem State.record_quads (s : State) (q : Nat) (l : List (Nat × Nat)) : (s.record q l).quads = s.quads := by
  obtain ⟨_, h⟩ := State.record_only s q l; rw [h]
@[simp] theorem State.record_chains (s : State) (q : Nat) (l : List (Nat × Nat)) : (s.record q l).chains = s.chains := by
  obtain ⟨_, h⟩ := State.record_only s q l; rw [h]
@[simp] theorem State.record_sweep (s : State) (q : Nat) (l : List (Nat × Nat)) : (s.record q l).sweep = s.sweep := by
  obtain ⟨_, h⟩ := State.record_only s q l; rw [h]
@[simp] theorem State.record_rep (s : State) (q : Nat) (l : List (Nat × Nat)) : (s.record q l).rep = s.rep := by
  obtain ⟨_, h⟩ := State.record_only s q l; rw [h]
@[simp] theorem State.record_eng (s : State) (q : Nat) (l : List (Nat × Nat)) : (s.record q l).eng = s.eng := by
  obtain ⟨_, h⟩ := State.record_only s q l; rw [h]
@[simp] theorem State.record_ilk (s : State) (q : Nat) (l : List (Nat × Nat)) : (s.record q l).ilk = s.ilk := by
  obtain ⟨_, h⟩ := State.record_only s q l; rw [h]
@[simp] theorem State.record_arr (s : State) (q : Nat) (l : List (Nat × Nat)) : (s.record q l).arr = s.arr := by
  obtain ⟨_, h⟩ := State.record_only s q l; rw [h]
@[simp] theorem State.record_val (s : State) (q : Nat) (l : List (Nat × Nat)) : (s.record q l).val = s.val := by
  obtain ⟨_, h⟩ := State.record_only s q l; rw [h]
@[simp] theorem State.record_trk (s : State) (q : Nat) (l : List (Nat × Nat)) : (s.record q l).trk = s.trk := by
  obtain ⟨_, h⟩ := State.record_only s q l; rw [h]
@[simp] theorem State.record_hf (s : State) (q : Nat) (l : List (Nat × Nat)) : (s.record q l).hf = s.hf := by
  obtain ⟨_, h⟩ := State.record_only s q l; rw [h]
@[simp] theorem State.record_testC (s : State) (q : Nat) (l : List (Nat × Nat)) : (s.record q l).testC = s.testC := by
  obtain ⟨_, h⟩ := State.record_only s q l; rw [h]
@[simp] theorem State.record_mem (s : State) (q : Nat) (l : List (Nat × Nat)) : (s.record q l).mem = s.mem := by
  obtain ⟨_, h⟩ := State.record_only s q l; rw [h]
@[simp] theorem State.record_brd (s : State) (q : Nat) (l : List (Nat × Nat)) : (s.record q l).brd = s.brd := by
  obtain ⟨_, h⟩ := State.record_only s q l; rw [h]
@[simp] theorem State.record_io (s : State) (q : Nat) (l : List (Nat × Nat)) : (s.record q l).io = s.io := by
  obtain ⟨_, h⟩ := State.record_only s q l; rw [h]
@[simp] theorem State.record_free (s : State) (q : Nat) (l : List (Nat × Nat)) : (s.record q l).free = s.free := by
  obtain ⟨_, h⟩ := State.record_only s q l; rw [h]
@[simp] theorem State.record_pending (s : State) (q : Nat) (l : List (Nat × Nat)) : (s.record q l).pending = s.pending := by
  obtain ⟨_, h⟩ := State.record_only s q l; rw [h]

@[simp] theorem State.recordIf_variant (s : State) (q : Nat) (l : List (Nat × Nat)) : (s.recordIf q l).variant = s.variant := by
  obtain ⟨_, h⟩ := State.recordIf_only s q l; rw [h]
@[simp] theorem State.recordIf_doms (s : State) (q : Nat) (l : List (Nat × Nat)) : (s.recordIf q l).doms = s.doms := by
  obtain ⟨_, h⟩ := State.recordIf_only s q l; rw [h]
@[simp] theorem State.recordIf_mode (s : State) (q : Nat) (l : List (Nat × Nat)) : (s.recordIf q l).mode = s.mode := by
  obtain ⟨_, h⟩ := State.recordIf_only s q l; rw [h]
@[simp] theorem State.recordIf_sys (s : State) (q : Nat) (l : List (Nat × Nat)) : (s.recordIf q l).sys = s.sys := by
  obtain ⟨_, h⟩ := State.recordIf_only s q l; rw [h]
@[simp] theorem State.recordIf_tim (s : State) (q : Nat) (l : List (Nat × Nat)) : (s.recordIf q l).tim = s.tim := by
  obtain ⟨_, h⟩ := State.recordIf_only s q l; rw [h]
@[simp] theorem State.recordIf_shadows (s : State) (q : Nat) (l : List (Nat × Nat)) : (s.recordIf q l).shadows = s.shadows := by
  obtain ⟨_, h⟩ := State.recordIf_only s q l; rw [h]
@[simp] theorem State.recordIf_cfg (s : State) (q : Nat) (l : List (Nat × Nat)) : (s.recordIf q l).cfg = s.cfg := by
  obtain ⟨_, h⟩ := State.recordIf_only s q l; rw [h]
@[simp] theorem State.recordIf_ev (s : State) (q : Nat) (l : List (Nat × Nat)) : (s.recordIf q l).ev = s.ev := by
  obtain ⟨_, h⟩ := State.recordIf_only s q l; rw [h]
@[simp] theorem State.recordIf_chk (s : State) (q : Nat) (l : List (Nat × Nat)) : (s.recordIf q l).chk = s.chk := by
  obtain ⟨_, h⟩ := State.recordIf_only s q l; rw [h]
@[simp] theorem State.recordIf_sec (s : State) (q : Nat) (l : List (Nat × Nat)) : (s.recordIf q l).sec = s.sec := by
  obtain ⟨_, h⟩ := State.recordIf_only s q l; rw [h]
@[simp] theorem State.recordIf_hlt (s : State) (q : Nat) (l : List (Nat × Nat)) : (s.recordIf q l).hlt = s.hlt := by
  obtain ⟨_, h⟩ := State.recordIf_only s q l; rw [h]
@[simp] theorem State.recordIf_hubs (s : State) (q : Nat) (l : List (Nat × Nat)) : (s.recordIf q l).hubs = s.hubs := by
  obtain ⟨_, h⟩ := State.recordIf_only s q l; rw [h]
@[simp] theorem State.recordIf_quads (s : State) (q : Nat) (l : List (Nat × Nat)) : (s.recordIf q l).quads = s.quads := by
  obtain ⟨_, h⟩ := State.recordIf_only s q l; rw [h]
@[simp] theorem State.recordIf_chains (s : State) (q : Nat) (l : List (Nat × Nat)) : (s.recordIf q l).chains = s.chains := by
  obtain ⟨_, h⟩ := State.recordIf_only s q l; rw [h]
@[simp] theorem State.recordIf_sweep (s : State) (q : Nat) (l : List (Nat × Nat)) : (s.recordIf q l).sweep = s.sweep := by
  obtain ⟨_, h⟩ := State.recordIf_only s q l; rw [h]
@[simp] theorem State.recordIf_rep (s : State) (q : Nat) (l : List (Nat × Nat)) : (s.recordIf q l).rep = s.rep := by
  obtain ⟨_, h⟩ := State.recordIf_only s q l; rw [h]
@[simp] theorem State.recordIf_eng (s : State) (q : Nat) (l : List (Nat × Nat)) : (s.recordIf q l).eng = s.eng := by
  obtain ⟨_, h⟩ := State.recordIf_only s q l; rw [h]
@[simp] theorem State.recordIf_ilk (s : State) (q : Nat) (l : List (Nat × Nat)) : (s.recordIf q l).ilk = s.ilk := by
  obtain ⟨_, h⟩ := State.recordIf_only s q l; rw [h]
@[simp] theorem State.recordIf_arr (s : State) (q : Nat) (l : List (Nat × Nat)) : (s.recordIf q l).arr = s.arr := by
  obtain ⟨_, h⟩ := State.recordIf_only s q l; rw [h]
@[simp] theorem State.recordIf_val (s : State) (q : Nat) (l : List (Nat × Nat)) : (s.recordIf q l).val = s.val := by
  obtain ⟨_, h⟩ := State.recordIf_only s q l; rw [h]
@[simp] theorem State.recordIf_trk (s : State) (q : Nat) (l : List (Nat × Nat)) : (s.recordIf q l).trk = s.trk := by
  obtain ⟨_, h⟩ := State.recordIf_only s q l; rw [h]
@[simp] theorem State.recordIf_hf (s : State) (q : Nat) (l : List (Nat × Nat)) : (s.recordIf q l).hf = s.hf := by
  obtain ⟨_, h⟩ := State.recordIf_only s q l; rw [h]
@[simp] theorem State.recordIf_testC (s : State) (q : Nat) (l : List (Nat × Nat)) : (s.recordIf q l).testC = s.testC := by
  obtain ⟨_, h⟩ := State.recordIf_only s q l; rw [h]
@[simp] theorem State.recordIf_mem (s : State) (q : Nat) (l : List (Nat × Nat)) : (s.recordIf q l).mem = s.mem := by
  obtain ⟨_, h⟩ := State.recordIf_only s q l; rw [h]
@[simp] theorem State.recordIf_brd (s : State) (q : Nat) (l : List (Nat × Nat)) : (s.recordIf q l).brd = s.brd := by
  obtain ⟨_, h⟩ := State.recordIf_only s q l; rw [h]
@[simp] theorem State.recordIf_io (s : State) (q : Nat) (l : List (Nat × Nat)) : (s.recordIf q l).io = s.io := by
  obtain ⟨_, h⟩ := State.recordIf_only s q l; rw [h]
@[simp] theorem State.recordIf_free (s : State) (q : Nat) (l : List (Nat × Nat)) : (s.recordIf q l).free = s.free := by
  obtain ⟨_, h⟩ := State.recordIf_only s q l; rw [h]
@[simp] theorem State.recordIf_pending (s : State) (q : Nat) (l : List (Nat × Nat)) : (s.recordIf q l).pending = s.pending := by
  obtain ⟨_, h⟩ := State.recordIf_only s q l; rw [h]

end Sys2Proof.Machine
end

