-- ==== Sys2Proof/Laws/Ops.lean ====
section
/-! SUPPORT. What the shared operations on objects, events and requests do. -/

namespace Sys2Proof.Machine

/-! ### Objects -/

/-- A numeric object's value rests on the held values, the variant and the node-ID alone. -/
theorem State.get_congr {s t : State} (hr : t.regs = s.regs) (hv : t.variant = s.variant) (hn : t.sys.node = s.sys.node) (k : Nat) :
    t.get k = s.get k := by
  unfold State.get; rw [hr, hv, hn]

theorem State.dom_congr {s t : State} (hd : t.doms = s.doms) (hv : t.variant = s.variant) (k : Nat) : t.dom k = s.dom k := by
  unfold State.dom; rw [hd, hv]

@[simp] theorem State.get_put_self (s : State) (k v : Nat) : (s.put k v).get k = v := by
  simp [State.get, State.put]

theorem State.get_put_ne (s : State) {k j : Nat} (v : Nat) (h : j ≠ k) : (s.put k v).get j = s.get j := by
  simp [State.get, State.put, Tab.find_put_ne _ _ h]

/-- A put changes the object put, and no other. -/
theorem State.get_put (s : State) (k j v : Nat) : (s.put k v).get j = if j = k then v else s.get j := by
  split
  · next h => subst h; exact s.get_put_self ..
  · next h => exact s.get_put_ne v h

@[simp] theorem State.dom_putDom_self (s : State) (k : Nat) (b : Bytes) : (s.putDom k b).dom k = b := by
  simp [State.dom, State.putDom]

theorem State.dom_putDom_ne (s : State) {k j : Nat} (b : Bytes) (h : j ≠ k) : (s.putDom k b).dom j = s.dom j := by
  simp [State.dom, State.putDom, Tab.find_put_ne _ _ h]

@[simp] theorem State.get_putDom (s : State) (k j : Nat) (b : Bytes) : (s.putDom k b).get j = s.get j := rfl
@[simp] theorem State.dom_put (s : State) (k j v : Nat) : (s.put k v).dom j = s.dom j := rfl

/-- Objects not in the list keep their values. -/
theorem State.get_puts_ne (s : State) (l : List (Nat × Nat)) {j : Nat} (h : ∀ p ∈ l, p.1 ≠ j) : (s.puts l).get j = s.get j := by
  induction l generalizing s with
  | nil => rfl
  | cons p r ih =>
    show ((s.put p.1 p.2).puts r).get j = s.get j
    rw [ih _ (fun q hq => h q (List.mem_cons_of_mem _ hq)), s.get_put_ne _ (Ne.symm (h p (List.mem_cons_self ..)))]

/-- The last value a list gives an object is the one it has. -/
theorem State.get_puts_last (s : State) (l r : List (Nat × Nat)) (k v : Nat) (h : ∀ p ∈ r, p.1 ≠ k) :
    (s.puts (l ++ (k, v) :: r)).get k = v := by
  induction l generalizing s with
  | nil => show ((s.put k v).puts r).get k = v; rw [State.get_puts_ne _ r h, State.get_put_self]
  | cons p q ih => exact ih (s.put p.1 p.2)

@[simp] theorem State.get_seq_self (s : State) (q : Nat) : (s.seq q).get q = (s.get q + 2) % 2 ^ 32 := by simp [State.seq]

theorem State.get_seq_ne (s : State) {q j : Nat} (h : j ≠ q) : (s.seq q).get j = s.get j := s.get_put_ne _ h

/-- A group update changes its members and its sequence sub-index, and nothing else (R129). -/
theorem State.get_record_ne (s : State) {q : Nat} {l : List (Nat × Nat)} {j : Nat} (hq : j ≠ q) (h : ∀ p ∈ l, p.1 ≠ j) :
    (s.record q l).get j = s.get j := by
  show ((s.puts l).seq q).get j = _
  rw [State.get_seq_ne _ hq, State.get_puts_ne s l h]

theorem State.get_record_one (s : State) {q k : Nat} (v : Nat) (h : k ≠ q) : (s.record q [(k, v)]).get k = v := by
  show ((s.put k v).seq q).get k = v
  rw [State.get_seq_ne _ h, State.get_put_self]

theorem State.get_recordIf_ne (s : State) {q : Nat} {l : List (Nat × Nat)} {j : Nat} (hq : j ≠ q) (h : ∀ p ∈ l, p.1 ≠ j) :
    (s.recordIf q l).get j = s.get j := by
  unfold State.recordIf
  split
  · rfl
  · exact s.get_record_ne hq h

/-- After a group update that waits for a change, every member reads its value. -/
theorem State.get_recordIf_one (s : State) {q k : Nat} (v : Nat) (h : k ≠ q) : (s.recordIf q [(k, v)]).get k = v := by
  unfold State.recordIf
  split
  · next e => simpa using e
  · exact s.get_record_one v h

@[simp] theorem State.get_bump_self (s : State) (k : Nat) : (s.bump k).get k = (s.get k + 1) % 2 ^ 32 := by simp [State.bump]

theorem State.get_bump_ne (s : State) {k j : Nat} (h : j ≠ k) : (s.bump k).get j = s.get j := s.get_put_ne _ h

/-! ### Frames -/

theorem SameBut.refl (ks : List Nat) (s : State) : SameBut ks s s := ⟨fun _ _ => rfl, rfl⟩

theorem SameBut.put {ks : List Nat} {s : State} {k : Nat} (v : Nat) (h : k ∈ ks) : SameBut ks s (s.put k v) :=
  ⟨fun _ hj => s.get_put_ne v (fun e => hj (e ▸ h)), rfl⟩

theorem SameBut.trans {ks : List Nat} {s t u : State} (h : SameBut ks s t) (g : SameBut ks t u) : SameBut ks s u := by
  refine ⟨fun k hk => (g.1 k hk).trans (h.1 k hk), ?_⟩
  have e : ({ u with regs := s.regs } : State) = { ({ u with regs := t.regs } : State) with regs := s.regs } := rfl
  rw [e, g.2, h.2]

theorem SameBut.puts {ks : List Nat} {s : State} {l : List (Nat × Nat)} (h : ∀ p ∈ l, p.1 ∈ ks) : SameBut ks s (s.puts l) := by
  induction l generalizing s with
  | nil => exact SameBut.refl ks s
  | cons p r ih =>
    exact (SameBut.put p.2 (h p (List.mem_cons_self ..))).trans (ih fun q hq => h q (List.mem_cons_of_mem _ hq))

theorem SameBut.record {ks : List Nat} {s : State} {q : Nat} {l : List (Nat × Nat)} (hq : q ∈ ks) (h : ∀ p ∈ l, p.1 ∈ ks) :
    SameBut ks s (s.record q l) :=
  (SameBut.puts h).trans (SameBut.put _ hq)

theorem SameBut.recordIf {ks : List Nat} {s : State} {q : Nat} {l : List (Nat × Nat)} (hq : q ∈ ks) (h : ∀ p ∈ l, p.1 ∈ ks) :
    SameBut ks s (s.recordIf q l) := by
  unfold State.recordIf
  split
  · exact SameBut.refl ks s
  · exact SameBut.record hq h

theorem SameBut.mono {ks js : List Nat} {s t : State} (h : SameBut ks s t) (sub : ∀ k ∈ ks, k ∈ js) : SameBut js s t :=
  ⟨fun k hk => h.1 k fun m => hk (sub k m), h.2⟩

/-! ### Requests -/

/-- The first failing check answers, and nothing else happens. -/
theorem checks_fail {l : List (Bool × Result)} {f : State → State} {s : State} {p : Bool × Result}
    (h : l.find? (fun q => q.1) = some p) : checks l f s = (p.2, s) := by
  simp [checks, h]

/-- With no failing check the request is carried out. -/
theorem checks_pass {l : List (Bool × Result)} {f : State → State} {s : State} (h : ∀ p ∈ l, p.1 = false) :
    checks l f s = (.ok, f s) := by
  have e : l.find? (fun q => q.1) = none := List.find?_eq_none.2 fun p hp => by simp [h p hp]
  simp [checks, e]

/-- A request on a link that serves it is carried out and answered, unless it is then held as executing or a reset has
come; a reset that it has asked for follows its answer (R58). -/
theorem State.request_serves {s : State} {l : Link} {w : Bool} {f : State → Result × State} (h : Serves s l w) :
    s.request l w f =
      if (f s).2.sys.firing = some l || (f s).2.sys.phase != .released then (f s).2
      else ((f s).2.answer l (f s).1).resetsFor l := by
  obtain ⟨up, boot, watch, free, -⟩ := h
  have hw : (s.mode = .watch && !w) = false := by
    by_cases e : s.mode = .watch
    · simp [e, watch e]
    · simp [e]
  unfold State.request
  rw [if_neg (by simp [up]), if_neg (by simpa [boot] using hw), if_neg free]

/-- An answer with no reset due on its link is only an answer (R58). -/
theorem State.resetsFor_none {s : State} {l : Link} (h : s.sys.resetDue.any (fun d => d.1 = l) = false) : s.resetsFor l = s := by
  simp [State.resetsFor, h]

/-- A request that leaves the part's own registers of `Sys` as they are is carried out, answered, and nothing follows. -/
theorem State.request_answers {s : State} {l : Link} {w : Bool} {f : State → Result × State} (h : Serves s l w)
    (e : (f s).2.sys = s.sys) : s.request l w f = (f s).2.answer l (f s).1 := by
  rw [State.request_serves h]
  obtain ⟨up, -, -, free, due⟩ := h
  have ph : s.sys.phase = .released := by
    simp only [State.linkUp, Bool.and_eq_true, decide_eq_true_eq] at up; exact up.1
  rw [if_neg (by simp [e, free, ph]), State.resetsFor_none (by simpa [State.answer, State.put, e] using due)]

theorem State.get_answer_self (s : State) (l : Link) (r : Result) : (s.answer l r).get (Link.lastResult l) = Result.code r :=
  State.get_put_self ..

theorem State.get_answer_ne (s : State) {l : Link} (r : Result) {k : Nat} (h : k ≠ Link.lastResult l) :
    (s.answer l r).get k = s.get k :=
  State.get_put_ne _ _ h

/-! ### Events -/

/-- An occurrence touches the events' part, the held objects and TWA_ALERT_N's release, and nothing else. -/
theorem State.logEvent_only (s : State) (crit : Bool) (cls e a b : Nat) :
    ∃ x y, s.logEvent crit cls e a b = { s with regs := x, ev := y } := by
  unfold State.logEvent
  split
  · split
    · exact ⟨_, _, rfl⟩
    · exact ⟨_, s.ev, rfl⟩
  · exact ⟨s.regs, s.ev, rfl⟩

theorem State.queueEmcy_only (s : State) (m : Emcy) : ∃ x y, s.queueEmcy m = { s with regs := x, ev := y } := by
  unfold State.queueEmcy
  split
  · exact ⟨s.regs, s.ev, rfl⟩
  · split
    · exact ⟨s.regs, _, rfl⟩
    · exact ⟨_, s.ev, rfl⟩

theorem State.deliver_only (s : State) (e : Nat) :
    ∃ x y z, s.deliver e = { s with regs := x, ev := y, sys := { s.sys with alertOff := z } } := by
  unfold State.deliver
  split
  · exact ⟨s.regs, _, s.sys.alertOff, rfl⟩
  · by_cases ha : (s.get Reg.EVT_EN_ALERT).testBit e = true
    · simp only [ha, if_true]
      split
      · obtain ⟨x, y, h⟩ := State.queueEmcy_only ({ s with sys := { s.sys with alertOff := false } } : State)
          ⟨0xFF00 + e, ({ s with sys := { s.sys with alertOff := false } } : State).errorRegister,
            ({ s with sys := { s.sys with alertOff := false } } : State).status .can, e, s.tim.now⟩
        exact ⟨x, y, false, h⟩
      · exact ⟨s.regs, s.ev, false, rfl⟩
    · simp only [ha, if_false, Bool.false_eq_true]
      split
      · obtain ⟨x, y, h⟩ := State.queueEmcy_only s ⟨0xFF00 + e, s.errorRegister, s.status .can, e, s.tim.now⟩
        exact ⟨x, y, s.sys.alertOff, h⟩
      · exact ⟨s.regs, s.ev, s.sys.alertOff, rfl⟩

theorem State.latchAs_only (s : State) (crit : Bool) (cls e a b : Nat) :
    ∃ x y z, s.latchAs crit cls e a b = { s with regs := x, ev := y, sys := { s.sys with alertOff := z } } := by
  have h1 : ∃ x y, s.noteEvent e a b = { s with regs := x, ev := y } := ⟨_, _, rfl⟩
  obtain ⟨x1, y1, h1⟩ := h1
  obtain ⟨x2, y2, h2⟩ := State.logEvent_only (s.noteEvent e a b) crit cls e a b
  have h3 : ∃ x y z, (if !s.latched e then ((s.noteEvent e a b).logEvent crit cls e a b).deliver e
      else (s.noteEvent e a b).logEvent crit cls e a b) = { s with regs := x, ev := y, sys := { s.sys with alertOff := z } } := by
    obtain ⟨x, y, z, h⟩ := State.deliver_only ((s.noteEvent e a b).logEvent crit cls e a b) e
    split
    · exact ⟨x, y, z, by rw [h, h2, h1]⟩
    · exact ⟨x2, y2, s.sys.alertOff, by rw [h2, h1]⟩
  obtain ⟨x3, y3, z3, h3⟩ := h3
  let t := if !s.latched e then ((s.noteEvent e a b).logEvent crit cls e a b).deliver e
    else (s.noteEvent e a b).logEvent crit cls e a b
  show ∃ x y z, (if !s.irqLow && t.irqLow then t.bump Reg.IRQ_ASSERTIONS else t) = _
  replace h3 : t = _ := h3
  generalize t = u at h3 ⊢
  subst h3
  split
  · exact ⟨_, y3, z3, rfl⟩
  · exact ⟨x3, y3, z3, rfl⟩

theorem State.latch_only (s : State) (e a b : Nat) :
    ∃ x y z, s.latch e a b = { s with regs := x, ev := y, sys := { s.sys with alertOff := z } } :=
  State.latchAs_only s false _ e a b

/-! What an occurrence leaves, field by field. -/

@[simp] theorem State.latch_variant (s : State) (e a b : Nat) : (s.latch e a b).variant = s.variant := by
  obtain ⟨_, _, _, h⟩ := State.latch_only s e a b; rw [h]
@[simp] theorem State.latch_doms (s : State) (e a b : Nat) : (s.latch e a b).doms = s.doms := by
  obtain ⟨_, _, _, h⟩ := State.latch_only s e a b; rw [h]
@[simp] theorem State.latch_mode (s : State) (e a b : Nat) : (s.latch e a b).mode = s.mode := by
  obtain ⟨_, _, _, h⟩ := State.latch_only s e a b; rw [h]
@[simp] theorem State.latch_tim (s : State) (e a b : Nat) : (s.latch e a b).tim = s.tim := by
  obtain ⟨_, _, _, h⟩ := State.latch_only s e a b; rw [h]
@[simp] theorem State.latch_shadows (s : State) (e a b : Nat) : (s.latch e a b).shadows = s.shadows := by
  obtain ⟨_, _, _, h⟩ := State.latch_only s e a b; rw [h]
@[simp] theorem State.latch_cfg (s : State) (e a b : Nat) : (s.latch e a b).cfg = s.cfg := by
  obtain ⟨_, _, _, h⟩ := State.latch_only s e a b; rw [h]
@[simp] theorem State.latch_chk (s : State) (e a b : Nat) : (s.latch e a b).chk = s.chk := by
  obtain ⟨_, _, _, h⟩ := State.latch_only s e a b; rw [h]
@[simp] theorem State.latch_sec (s : State) (e a b : Nat) : (s.latch e a b).sec = s.sec := by
  obtain ⟨_, _, _, h⟩ := State.latch_only s e a b; rw [h]
@[simp] theorem State.latch_hlt (s : State) (e a b : Nat) : (s.latch e a b).hlt = s.hlt := by
  obtain ⟨_, _, _, h⟩ := State.latch_only s e a b; rw [h]
@[simp] theorem State.latch_hubs (s : State) (e a b : Nat) : (s.latch e a b).hubs = s.hubs := by
  obtain ⟨_, _, _, h⟩ := State.latch_only s e a b; rw [h]
@[simp] theorem State.latch_quads (s : State) (e a b : Nat) : (s.latch e a b).quads = s.quads := by
  obtain ⟨_, _, _, h⟩ := State.latch_only s e a b; rw [h]
@[simp] theorem State.latch_chains (s : State) (e a b : Nat) : (s.latch e a b).chains = s.chains := by
  obtain ⟨_, _, _, h⟩ := State.latch_only s e a b; rw [h]
@[simp] theorem State.latch_sweep (s : State) (e a b : Nat) : (s.latch e a b).sweep = s.sweep := by
  obtain ⟨_, _, _, h⟩ := State.latch_only s e a b; rw [h]
@[simp] theorem State.latch_rep (s : State) (e a b : Nat) : (s.latch e a b).rep = s.rep := by
  obtain ⟨_, _, _, h⟩ := State.latch_only s e a b; rw [h]
@[simp] theorem State.latch_eng (s : State) (e a b : Nat) : (s.latch e a b).eng = s.eng := by
  obtain ⟨_, _, _, h⟩ := State.latch_only s e a b; rw [h]
@[simp] theorem State.latch_ilk (s : State) (e a b : Nat) : (s.latch e a b).ilk = s.ilk := by
  obtain ⟨_, _, _, h⟩ := State.latch_only s e a b; rw [h]
@[simp] theorem State.latch_arr (s : State) (e a b : Nat) : (s.latch e a b).arr = s.arr := by
  obtain ⟨_, _, _, h⟩ := State.latch_only s e a b; rw [h]
@[simp] theorem State.latch_val (s : State) (e a b : Nat) : (s.latch e a b).val = s.val := by
  obtain ⟨_, _, _, h⟩ := State.latch_only s e a b; rw [h]
@[simp] theorem State.latch_trk (s : State) (e a b : Nat) : (s.latch e a b).trk = s.trk := by
  obtain ⟨_, _, _, h⟩ := State.latch_only s e a b; rw [h]
@[simp] theorem State.latch_hf (s : State) (e a b : Nat) : (s.latch e a b).hf = s.hf := by
  obtain ⟨_, _, _, h⟩ := State.latch_only s e a b; rw [h]
@[simp] theorem State.latch_testC (s : State) (e a b : Nat) : (s.latch e a b).testC = s.testC := by
  obtain ⟨_, _, _, h⟩ := State.latch_only s e a b; rw [h]
@[simp] theorem State.latch_mem (s : State) (e a b : Nat) : (s.latch e a b).mem = s.mem := by
  obtain ⟨_, _, _, h⟩ := State.latch_only s e a b; rw [h]
@[simp] theorem State.latch_brd (s : State) (e a b : Nat) : (s.latch e a b).brd = s.brd := by
  obtain ⟨_, _, _, h⟩ := State.latch_only s e a b; rw [h]
@[simp] theorem State.latch_io (s : State) (e a b : Nat) : (s.latch e a b).io = s.io := by
  obtain ⟨_, _, _, h⟩ := State.latch_only s e a b; rw [h]
@[simp] theorem State.latch_free (s : State) (e a b : Nat) : (s.latch e a b).free = s.free := by
  obtain ⟨_, _, _, h⟩ := State.latch_only s e a b; rw [h]
@[simp] theorem State.latch_pending (s : State) (e a b : Nat) : (s.latch e a b).pending = s.pending := by
  obtain ⟨_, _, _, h⟩ := State.latch_only s e a b; rw [h]

end Sys2Proof.Machine
end

