-- ==== Sys2Proof/Laws/PerInstr.lean ====
section
/-! SUPPORT. What holds of every command as syntax, constructor by constructor. -/

namespace Sys2Proof.Laws.WatchServes

/-- What WATCH serves is a request of some host link (R76). -/
def Statement (i : Instr) : Prop := i.inWatch = true → ∃ l, i.link = some l

theorem flitReceived (hub : Fin 5) (side : LinkSide) (flit : Bytes) (codeErr : Bool) : Statement (.flitReceived hub side flit codeErr) := nofun
theorem replayTimeout (hub : Fin 5) (side : LinkSide) : Statement (.replayTimeout hub side) := nofun
theorem linkDown (hub : Fin 5) : Statement (.linkDown hub) := nofun
theorem linkTrainingDone (hub : Fin 5) (up down : Nat) : Statement (.linkTrainingDone hub up down) := nofun
theorem linkRetrainTimer (hub : Fin 5) : Statement (.linkRetrainTimer hub) := nofun
theorem pxRailFault (quad : Option (Fin 4)) : Statement (.pxRailFault quad) := nofun
theorem toneMeasureDone (leader : Fin 4) (meas : List ToneMeas) : Statement (.toneMeasureDone leader meas) := nofun
theorem refLost : Statement .refLost := nofun
theorem refclkAccepted : Statement .refclkAccepted := nofun
theorem deviceTimeLoRead (link : Link) : Statement (.deviceTimeLoRead link) := fun _ => ⟨_, rfl⟩
theorem wideShadowExpire (link : Link) : Statement (.wideShadowExpire link) := nofun
theorem wideValueLoRead (link : Link) (index sub : Nat) : Statement (.wideValueLoRead link index sub) := fun _ => ⟨_, rfl⟩
theorem tagReplyEnd (beam : Fin 4) : Statement (.tagReplyEnd beam) := nofun
theorem replyDecoded (beam : Fin 4) (reply : SlotReply) : Statement (.replyDecoded beam reply) := nofun
theorem reqHold (link : Link) : Statement (.reqHold link) := fun _ => ⟨_, rfl⟩
theorem reqReady (link : Link) : Statement (.reqReady link) := fun _ => ⟨_, rfl⟩
theorem reqRun (link : Link) : Statement (.reqRun link) := fun _ => ⟨_, rfl⟩
theorem reqWatch (link : Link) : Statement (.reqWatch link) := fun _ => ⟨_, rfl⟩
theorem reqTest (link : Link) : Statement (.reqTest link) := fun _ => ⟨_, rfl⟩
theorem modeTransitionDone : Statement .modeTransitionDone := nofun
theorem resetRequest (link : Link) : Statement (.resetRequest link) := fun _ => ⟨_, rfl⟩
theorem resetRelease (testen : Bool) (twaAs canId : Fin 8) (gates : BitVec 8) (fwA fwB : FwVerdict) (flashes : List FlashInfo) : Statement (.resetRelease testen twaAs canId gates fwA fwB flashes) := nofun
theorem bootRefclkAccepted : Statement .bootRefclkAccepted := nofun
theorem bootLinkStart (which : BootLink) : Statement (.bootLinkStart which) := nofun
theorem bootEnd (durUs : BitVec 32) : Statement (.bootEnd durUs) := nofun
theorem testCarrierStart (link : Link) : Statement (.testCarrierStart link) := fun _ => ⟨_, rfl⟩
theorem testCarrierStop (link : Link) : Statement (.testCarrierStop link) := fun _ => ⟨_, rfl⟩
theorem testCarrierTimeout : Statement .testCarrierTimeout := nofun
theorem testHfFieldRaise (link : Link) : Statement (.testHfFieldRaise link) := fun _ => ⟨_, rfl⟩
theorem testHfFieldDrop (link : Link) : Statement (.testHfFieldDrop link) := fun _ => ⟨_, rfl⟩
theorem testHfTimeout : Statement .testHfTimeout := nofun
theorem captureGo (link : Link) : Statement (.captureGo link) := fun _ => ⟨_, rfl⟩
theorem captureDone (data : Bytes) : Statement (.captureDone data) := nofun
theorem objectWrite (link : Link) (index sub : Nat) (data : Bytes) : Statement (.objectWrite link index sub data) := fun _ => ⟨_, rfl⟩
theorem stageWrite (link : Link) (index sub : Nat) (data : Bytes) : Statement (.stageWrite link index sub data) := fun _ => ⟨_, rfl⟩
theorem commitStaged (link : Link) : Statement (.commitStaged link) := fun _ => ⟨_, rfl⟩
theorem commitImage (link : Link) : Statement (.commitImage link) := fun _ => ⟨_, rfl⟩
theorem validationDone : Statement .validationDone := nofun
theorem applyInstant : Statement .applyInstant := nofun
theorem configPersistDone (ok : Bool) : Statement (.configPersistDone ok) := nofun
theorem discard (link : Link) : Statement (.discard link) := fun _ => ⟨_, rfl⟩
theorem configImageAppend (link : Link) (data : Bytes) : Statement (.configImageAppend link data) := fun _ => ⟨_, rfl⟩
theorem synthLock (quad : Fin 4) (res : SynthRes) : Statement (.synthLock quad res) := nofun
theorem synthUnlock (quad : Fin 4) : Statement (.synthUnlock quad) := nofun
theorem synthHoldTimeout (quad : Fin 4) : Statement (.synthHoldTimeout quad) := nofun
theorem droneRampDone (chain : Fin 16) : Statement (.droneRampDone chain) := nofun
theorem paFault (chain : Fin 16) (temp : Bool) : Statement (.paFault chain temp) := nofun
theorem paRailFault (quad : Fin 4) : Statement (.paRailFault quad) := nofun
theorem paRailRecovered (quad : Fin 4) : Statement (.paRailRecovered quad) := nofun
theorem reedConverged (beam : Fin 4) (weights : List ReedRes) : Statement (.reedConverged beam weights) := nofun
theorem reedConvergeTimeout (chain : Fin 16) : Statement (.reedConvergeTimeout chain) := nofun
theorem reedTrackTick (chain : Fin 16) (di dq : Int) (res : TrackRes) : Statement (.reedTrackTick chain di dq res) := nofun
theorem reedLimit (chain : Fin 16) : Statement (.reedLimit chain) := nofun
theorem blocker (chain : Fin 16) : Statement (.blocker chain) := nofun
theorem returnLossUpdate (chain : Fin 16) (rl fwd : Int) : Statement (.returnLossUpdate chain rl fwd) := nofun
theorem probeSuccess (chain : Fin 16) : Statement (.probeSuccess chain) := nofun
theorem sweepChannelDone (results : List SweepRes) (iso : List IsoMeas) : Statement (.sweepChannelDone results iso) := nofun
theorem turnroundEnd (beam : Fin 4) : Statement (.turnroundEnd beam) := nofun
theorem fullCalDone (quad : Fin 4) (res : CalRes) : Statement (.fullCalDone quad res) := nofun
theorem calRetryTimer (quad : Fin 4) : Statement (.calRetryTimer quad) := nofun
theorem calRequest (link : Link) (quad : Fin 4) : Statement (.calRequest link quad) := fun _ => ⟨_, rfl⟩
theorem reedReseed (link : Link) (chain : Fin 16) : Statement (.reedReseed link chain) := fun _ => ⟨_, rfl⟩
theorem chainFaultClear (link : Link) (chain : Fin 16) : Statement (.chainFaultClear link chain) := fun _ => ⟨_, rfl⟩
theorem descriptorRelease (leader : Fin 4) (hop : Option (BitVec 32)) : Statement (.descriptorRelease leader hop) := nofun
theorem permitWithdraw (entry : Fin 64) (dwell : Bool) : Statement (.permitWithdraw entry dwell) := nofun
theorem permitReturn (entry : Fin 64) (dwell : Bool) : Statement (.permitReturn entry dwell) := nofun
theorem regLockArm (link : Link) (value : BitVec 8) : Statement (.regLockArm link value) := fun _ => ⟨_, rfl⟩
theorem regLockFire (link : Link) (value : BitVec 32) : Statement (.regLockFire link value) := fun _ => ⟨_, rfl⟩
theorem lockFireDone (ok : Bool) : Statement (.lockFireDone ok) := nofun
theorem lockArmTimeout : Statement .lockArmTimeout := nofun
theorem viewIndexWrite (link : Link) (value : BitVec 8) : Statement (.viewIndexWrite link value) := fun _ => ⟨_, rfl⟩
theorem surveyStart (link : Link) : Statement (.surveyStart link) := fun _ => ⟨_, rfl⟩
theorem surveyAbort (link : Link) : Statement (.surveyAbort link) := fun _ => ⟨_, rfl⟩
theorem surveyTimeout : Statement .surveyTimeout := nofun
theorem laneSelftest (lane : Fin 32) (pass : Bool) : Statement (.laneSelftest lane pass) := nofun
theorem readMeasured (beam : Fin 4) (meas : List RawMeas) : Statement (.readMeasured beam meas) := nofun
theorem roundStart (beam : Fin 4) : Statement (.roundStart beam) := nofun
theorem powerUpHoldEnd (beam : Fin 4) : Statement (.powerUpHoldEnd beam) := nofun
theorem slotEmptyTimeout (beam : Fin 4) : Statement (.slotEmptyTimeout beam) := nofun
theorem epcReply (beam : Fin 4) (reply : EpcReply) : Statement (.epcReply beam reply) := nofun
theorem accessReplyTimeout (beam : Fin 4) : Statement (.accessReplyTimeout beam) := nofun
theorem accessOpEnd (beam : Fin 4) (replies : List TagReply) (rx : List (Fin 16)) (pre : List PreMeas) :
    Statement (.accessOpEnd beam replies rx pre) := nofun
theorem roundEnd (beam : Fin 4) : Statement (.roundEnd beam) := nofun
theorem opArm (link : Link) (slot : Fin 16) : Statement (.opArm link slot) := fun _ => ⟨_, rfl⟩
theorem opDisarm (link : Link) (slot : Fin 16) : Statement (.opDisarm link slot) := fun _ => ⟨_, rfl⟩
theorem resultRelease (link : Link) (id : BitVec 32) : Statement (.resultRelease link id) := fun _ => ⟨_, rfl⟩
theorem locBatch : Statement .locBatch := nofun
theorem trackJoin : Statement .trackJoin := nofun
theorem trackCloseGap (tag : BitVec 32) : Statement (.trackCloseGap tag) := nofun
theorem countIntervalPublish : Statement .countIntervalPublish := nofun
theorem planBoundary (measMw : BitVec 16) : Statement (.planBoundary measMw) := nofun
theorem dwellStart (leader : Fin 4) : Statement (.dwellStart leader) := nofun
theorem dwellEnd (leader : Fin 4) : Statement (.dwellEnd leader) := nofun
theorem powerMeasure (mw : BitVec 16) : Statement (.powerMeasure mw) := nofun
theorem hfStartDeferred : Statement .hfStartDeferred := nofun
theorem packetAgeTimeout (stream : Fin 3) (kind : Fin 5) : Statement (.packetAgeTimeout stream kind) := nofun
theorem reportWindowEnd : Statement .reportWindowEnd := nofun
theorem creditGrant (link : Link) (stream : Fin 3) (n : BitVec 32) : Statement (.creditGrant link stream n) := fun _ => ⟨_, rfl⟩
theorem linkCreditGrant (link : Link) (target : Link) (n : BitVec 32) : Statement (.linkCreditGrant link target n) := fun _ => ⟨_, rfl⟩
theorem reportNext (link : Link) (stream : Fin 3) : Statement (.reportNext link stream) := fun _ => ⟨_, rfl⟩
theorem reportRelease (link : Link) (stream : Fin 3) (seq : BitVec 32) : Statement (.reportRelease link stream seq) := fun _ => ⟨_, rfl⟩
theorem wmAck (link : Link) (stream : Fin 3) : Statement (.wmAck link stream) := fun _ => ⟨_, rfl⟩
theorem hotRead (link : Link) : Statement (.hotRead link) := fun _ => ⟨_, rfl⟩
theorem markSet (link : Link) (stream : Fin 3) (n : BitVec 8) : Statement (.markSet link stream n) := fun _ => ⟨_, rfl⟩
theorem markClear (link : Link) (stream : Fin 3) (n : BitVec 8) : Statement (.markClear link stream n) := fun _ => ⟨_, rfl⟩
theorem rewind (link : Link) (stream : Fin 3) (n : BitVec 8) : Statement (.rewind link stream n) := fun _ => ⟨_, rfl⟩
theorem rewindDone (stream : Fin 3) : Statement (.rewindDone stream) := nofun
theorem scrubStep (region : Fin 7) (line : BitVec 32) (err : MemErr) (last : Bool) : Statement (.scrubStep region line err last) := nofun
theorem rowRepairDone : Statement .rowRepairDone := nofun
theorem repairMapStored (ok : Bool) : Statement (.repairMapStored ok) := nofun
theorem innerCountUpdate (n : BitVec 32) : Statement (.innerCountUpdate n) := nofun
theorem hfDiscover (link : Link) : Statement (.hfDiscover link) := fun _ => ⟨_, rfl⟩
theorem hfActivate (link : Link) : Statement (.hfActivate link) := fun _ => ⟨_, rfl⟩
theorem hfExchange (link : Link) : Statement (.hfExchange link) := fun _ => ⟨_, rfl⟩
theorem hfRelease (link : Link) : Statement (.hfRelease link) := fun _ => ⟨_, rfl⟩
theorem hfAbort (link : Link) : Statement (.hfAbort link) := fun _ => ⟨_, rfl⟩
theorem hfFrameReceived (frame : Bytes) (check : FrameCheck) : Statement (.hfFrameReceived frame check) := nofun
theorem hfReplyTimeout : Statement .hfReplyTimeout := nofun
theorem hfOpEnd (status : Fin 12) (rsp : Bytes) (cards : List Bytes) (more : Bool) : Statement (.hfOpEnd status rsp cards more) := nofun
theorem hfSessionIdle : Statement .hfSessionIdle := nofun
theorem slideTrackTick (dcs dcp : Int) (phase : Int) (z : BitVec 16) : Statement (.slideTrackTick dcs dcp phase z) := nofun
theorem hfDriverFault (why : DriverFault) : Statement (.hfDriverFault why) := nofun
theorem hfFaultClear (link : Link) : Statement (.hfFaultClear link) := fun _ => ⟨_, rfl⟩
theorem hfPllUnlock : Statement .hfPllUnlock := nofun
theorem hfRecoveryRetry (ok : Bool) : Statement (.hfRecoveryRetry ok) := nofun
theorem slideRetune (link : Link) : Statement (.slideRetune link) := fun _ => ⟨_, rfl⟩
theorem slideCalDone (ok : Bool) (cs cp : Fin 64) (phase : Int) (z : BitVec 16) (temp : Int) : Statement (.slideCalDone ok cs cp phase z temp) := nofun
theorem breathPulse (amp : Int) (phase : Int) : Statement (.breathPulse amp phase) := nofun
theorem breathSecondPulse (amp : Int) (phase : Int) : Statement (.breathSecondPulse amp phase) := nofun
theorem breathConfirmEnd (sof : Bool) : Statement (.breathConfirmEnd sof) := nofun
theorem breathBaselineDone (amp : Int) (phase : Int) (ok : Bool) : Statement (.breathBaselineDone amp phase ok) := nofun
theorem sptSelectRelease (mosi : Bytes) : Statement (.sptSelectRelease mosi) := nofun
theorem sptFetch : Statement .sptFetch := nofun
theorem sptRead : Statement .sptRead := nofun
theorem sptWrite : Statement .sptWrite := nofun
theorem sptBlockRead : Statement .sptBlockRead := nofun
theorem twaStatus : Statement .twaStatus := nofun
theorem twaModeSet (mode : BitVec 8) : Statement (.twaModeSet mode) := nofun
theorem twaEvents : Statement .twaEvents := nofun
theorem twaEventAck (mask : BitVec 64) : Statement (.twaEventAck mask) := nofun
theorem twaCredit (n : BitVec 32) : Statement (.twaCredit n) := nofun
theorem twaObjRead (index : BitVec 16) (sub : BitVec 8) (n : BitVec 8) : Statement (.twaObjRead index sub n) := nofun
theorem twaObjWrite (index : BitVec 16) (sub : BitVec 8) (data : Bytes) : Statement (.twaObjWrite index sub data) := nofun
theorem twaDomRead (index : BitVec 16) (sub : BitVec 8) (offset : BitVec 16) (n : BitVec 8) : Statement (.twaDomRead index sub offset n) := nofun
theorem twaDomWrite (index : BitVec 16) (sub : BitVec 8) (seg : BitVec 8) (data : Bytes) : Statement (.twaDomWrite index sub seg data) := nofun
theorem twaWindow (ptr : BitVec 8) (data : Bytes) : Statement (.twaWindow ptr data) := nofun
theorem twaReplyRead (n : Nat) : Statement (.twaReplyRead n) := nofun
theorem twaWriteReject (excess : Bool) : Statement (.twaWriteReject excess) := nofun
theorem twaAra (won : Bool) : Statement (.twaAra won) := nofun
theorem twaAlertReassert : Statement .twaAlertReassert := nofun
theorem twaBusTimeout : Statement .twaBusTimeout := nofun
theorem mbxNonce : Statement .mbxNonce := nofun
theorem mbxReadCert : Statement .mbxReadCert := nofun
theorem mbxTokenWrite : Statement .mbxTokenWrite := nofun
theorem mbxTokenSubmit : Statement .mbxTokenSubmit := nofun
theorem mbxFwBegin : Statement .mbxFwBegin := nofun
theorem mbxFwWrite : Statement .mbxFwWrite := nofun
theorem mbxFwFinish : Statement .mbxFwFinish := nofun
theorem mbxReset : Statement .mbxReset := nofun
theorem nmtStart : Statement .nmtStart := nofun
theorem nmtStop : Statement .nmtStop := nofun
theorem nmtEnterPreop : Statement .nmtEnterPreop := nofun
theorem nmtResetNode : Statement .nmtResetNode := nofun
theorem nmtResetComm : Statement .nmtResetComm := nofun
theorem heartbeatTimer : Statement .heartbeatTimer := nofun
theorem usdoRequest (req : UsdoReq) : Statement (.usdoRequest req) := nofun
theorem usdoTimeout : Statement .usdoTimeout := nofun
theorem rpdoReceived (n : Fin 4) (data : Bytes) : Statement (.rpdoReceived n data) := nofun
theorem syncReceived : Statement .syncReceived := nofun
theorem timeReceived (ms : BitVec 28) (days : BitVec 16) : Statement (.timeReceived ms days) := nofun
theorem tpdoSend (n : Fin 8) : Statement (.tpdoSend n) := nofun
theorem tpdoEventTimer (n : Fin 8) : Statement (.tpdoEventTimer n) := nofun
theorem tpdo0PacketSend : Statement .tpdo0PacketSend := nofun
theorem tpdo0FragmentSent : Statement .tpdo0FragmentSent := nofun
theorem emcySend : Statement .emcySend := nofun
theorem canErrPassive (ctrl : Fin 2) : Statement (.canErrPassive ctrl) := nofun
theorem canErrorActive (ctrl : Fin 2) : Statement (.canErrorActive ctrl) := nofun
theorem canBusOff (ctrl : Fin 2) : Statement (.canBusOff ctrl) := nofun
theorem canBusOffRecovered (ctrl : Fin 2) : Statement (.canBusOffRecovered ctrl) := nofun
theorem spcRead (link : Link) : Statement (.spcRead link) := fun _ => ⟨_, rfl⟩
theorem spcProgram (link : Link) : Statement (.spcProgram link) := fun _ => ⟨_, rfl⟩
theorem spcErase4k (link : Link) : Statement (.spcErase4k link) := fun _ => ⟨_, rfl⟩
theorem spcErase64k (link : Link) : Statement (.spcErase64k link) := fun _ => ⟨_, rfl⟩
theorem spcReadSfdp (link : Link) : Statement (.spcReadSfdp link) := fun _ => ⟨_, rfl⟩
theorem spcOpEnd (status : Fin 4) (sfdp : Bytes) : Statement (.spcOpEnd status sfdp) := nofun
theorem twbGo (link : Link) (bus : TwbBus) : Statement (.twbGo link bus) := fun _ => ⟨_, rfl⟩
theorem twbRecover (link : Link) (ok : Bool) : Statement (.twbRecover link ok) := fun _ => ⟨_, rfl⟩
theorem twbTransferEnd (how : TwbEnd) (nackByte : BitVec 8) (rdata : Bytes) : Statement (.twbTransferEnd how nackByte rdata) := nofun
theorem twbSclTimeout : Statement .twbSclTimeout := nofun
theorem twbConflict : Statement .twbConflict := nofun
theorem twbRetry (bus : TwbBus) : Statement (.twbRetry bus) := nofun
theorem gpioSet (link : Link) (mask : BitVec 32) : Statement (.gpioSet link mask) := fun _ => ⟨_, rfl⟩
theorem gpioClear (link : Link) (mask : BitVec 32) : Statement (.gpioClear link mask) := fun _ => ⟨_, rfl⟩
theorem gateEdge (gate : Fin 8) (rising : Bool) : Statement (.gateEdge gate rising) := nofun
theorem timerWrap (ch : Fin 16) : Statement (.timerWrap ch) := nofun
theorem timerMatch (ch : Fin 16) : Statement (.timerMatch ch) := nofun
theorem tmrFlagClear (link : Link) (ch : Fin 16) (mask : BitVec 8) : Statement (.tmrFlagClear link ch mask) := fun _ => ⟨_, rfl⟩
theorem tmrRestart (link : Link) (ch : Fin 16) (value : BitVec 8) : Statement (.tmrRestart link ch value) := fun _ => ⟨_, rfl⟩
theorem tmrGroupLoad (link : Link) (value : BitVec 8) : Statement (.tmrGroupLoad link value) := fun _ => ⟨_, rfl⟩
theorem discPhaseEnd : Statement .discPhaseEnd := nofun
theorem discHoldover : Statement .discHoldover := nofun
theorem scanStart (link : Link) : Statement (.scanStart link) := fun _ => ⟨_, rfl⟩
theorem scanAbort (link : Link) : Statement (.scanAbort link) := fun _ => ⟨_, rfl⟩
theorem scanDone (flashFail : Bool) : Statement (.scanDone flashFail) := nofun
theorem checkSelftest (unit : Fin 4) (pass : Bool) : Statement (.checkSelftest unit pass) := nofun
theorem demandPageLoad (first second : Bool) : Statement (.demandPageLoad first second) := nofun
theorem fwUpdateBegin (link : Link) : Statement (.fwUpdateBegin link) := fun _ => ⟨_, rfl⟩
theorem fwEraseDone : Statement .fwEraseDone := nofun
theorem fwImageAppend (link : Link) (data : Bytes) : Statement (.fwImageAppend link data) := fun _ => ⟨_, rfl⟩
theorem fwUpdateFinish (link : Link) : Statement (.fwUpdateFinish link) := fun _ => ⟨_, rfl⟩
theorem fwVerifyDone (digests sig : Bool) : Statement (.fwVerifyDone digests sig) := nofun
theorem fwUpdateAbandon (link : Link) : Statement (.fwUpdateAbandon link) := fun _ => ⟨_, rfl⟩
theorem fwConfirm (link : Link) (value : BitVec 8) : Statement (.fwConfirm link value) := fun _ => ⟨_, rfl⟩
theorem nonceRequest (link : Link) (value : BitVec 8) : Statement (.nonceRequest link value) := fun _ => ⟨_, rfl⟩
theorem nonceExpire : Statement .nonceExpire := nofun
theorem tokenSubmit (link : Link) (value : BitVec 8) : Statement (.tokenSubmit link value) := fun _ => ⟨_, rfl⟩
theorem tokenTest : Statement .tokenTest := nofun
theorem tokenRecovery : Statement .tokenRecovery := nofun
theorem tokenDebug : Statement .tokenDebug := nofun
theorem ownerRelease : Statement .ownerRelease := nofun
theorem ownerEnrol : Statement .ownerEnrol := nofun
theorem ownerRotate : Statement .ownerRotate := nofun
theorem tokenRejected (badSig : Bool) : Statement (.tokenRejected badSig) := nofun
theorem sessionClose (link : Link) (value : BitVec 8) : Statement (.sessionClose link value) := fun _ => ⟨_, rfl⟩
theorem sessionExpire : Statement .sessionExpire := nofun
theorem quoteGo (link : Link) (value : BitVec 8) : Statement (.quoteGo link value) := fun _ => ⟨_, rfl⟩
theorem quoteDone : Statement .quoteDone := nofun
theorem debugDisable (link : Link) (value : BitVec 8) : Statement (.debugDisable link value) := fun _ => ⟨_, rfl⟩
theorem debugAttach (core : Fin 4) : Statement (.debugAttach core) := nofun
theorem tapInstruction (instr : TapInstr) : Statement (.tapInstruction instr) := nofun
theorem tempSample (temps : Temps) : Statement (.tempSample temps) := nofun
theorem voltageSample (volts : Volts) : Statement (.voltageSample volts) := nofun
theorem railComparatorTrip (rail : Rail) : Statement (.railComparatorTrip rail) := nofun
theorem processMeasure (procs : Procs) : Statement (.processMeasure procs) := nofun
theorem cxPllUnlock : Statement .cxPllUnlock := nofun
theorem cxPllRelock : Statement .cxPllRelock := nofun
theorem faultClear (link : Link) (value : BitVec 8) : Statement (.faultClear link value) := fun _ => ⟨_, rfl⟩
theorem watchdogBark (core : Fin 5) : Statement (.watchdogBark core) := nofun
theorem watchdogBite (core : Fin 5) : Statement (.watchdogBite core) := nofun
theorem evtAck (link : Link) (mask : BitVec 64) : Statement (.evtAck link mask) := fun _ => ⟨_, rfl⟩
theorem eventLogWrite : Statement .eventLogWrite := nofun
theorem workMemError (err : WorkErr) : Statement (.workMemError err) := nofun
theorem porRelease (vioA vioB : BitVec 16) (unpowered : Bool) : Statement (.porRelease vioA vioB unpowered) := nofun
theorem vioBrownOut (b : Bool) : Statement (.vioBrownOut b) := nofun
theorem hfGuardTimeEnd : Statement .hfGuardTimeEnd := nofun
theorem twaAddressNack : Statement .twaAddressNack := nofun
theorem twbSclStuck : Statement .twbSclStuck := nofun
theorem twbBusReleased : Statement .twbBusReleased := nofun
theorem brownOut : Statement .brownOut := nofun
theorem resetNAssert : Statement .resetNAssert := nofun

end Sys2Proof.Laws.WatchServes
end

