-- ==== Sys2Proof/WellFormed.lean ====
section
/-! DEFINITION. Well-formed commands: what a command carries fits the field or frame the spec gives it. A command that is not
well formed has a meaning all the same; no sender of the block can send it. -/

namespace Sys2Proof

/-- An address as R11 writes it. -/
def addressOk (index sub : Nat) : Bool := index < 65536 && sub < 256

/-- A value that an I16 object holds (Table 0.3). -/
def i16 (x : Int) : Bool := -32768 ≤ x && x ≤ 32767

/-- Numbers in strictly rising order. -/
def rising : List Nat → Bool
  | a :: b :: r => a < b && rising (b :: r)
  | _ => true

/-- A USDO request fits one frame (R456). -/
def UsdoReq.wf : UsdoReq → Bool
  | .upload index sub => addressOk index sub
  | .uploadSegment => true
  | .downloadExpedited index sub data => addressOk index sub && data.length ≤ 56
  | .downloadInit index sub size => addressOk index sub && size < 2 ^ 32
  | .downloadSegment data _ => data.length ≤ 56
  | .abort => true
  | .bulkOrRemote => true

/-- A command is well formed. -/
def Instr.wf : Instr → Bool
  | .flitReceived _ _ flit _ => flit.length = 32
  | .replayTimeout _ _ => true
  | .linkDown _ => true
  | .linkTrainingDone _ up down => up ≤ 4 && down ≤ 4
  | .linkRetrainTimer _ => true
  | .pxRailFault _ => true
  | .toneMeasureDone _ meas => rising (meas.map fun m => m.chain.val) && meas.all fun m => i16 m.theta && i16 m.power && i16 m.residual
  | .refLost => true
  | .refclkAccepted => true
  | .deviceTimeLoRead _ => true
  | .wideShadowExpire _ => true
  | .wideValueLoRead _ index sub => addressOk index sub
  | .tagReplyEnd _ => true
  | .replyDecoded _ reply => rising (reply.decodes.map fun d => d.rxBeam.val)
  | .reqHold _ => true
  | .reqReady _ => true
  | .reqRun _ => true
  | .reqWatch _ => true
  | .reqTest _ => true
  | .modeTransitionDone => true
  | .resetRequest _ => true
  | .resetRelease _ _ _ _ _ _ flashes => flashes.length ≤ 4
  | .bootRefclkAccepted => true
  | .bootLinkStart _ => true
  | .bootEnd _ => true
  | .testCarrierStart _ => true
  | .testCarrierStop _ => true
  | .testCarrierTimeout => true
  | .testHfFieldRaise _ => true
  | .testHfFieldDrop _ => true
  | .testHfTimeout => true
  | .captureGo _ => true
  | .captureDone data => data.length = 49152
  | .objectWrite _ index sub _ => addressOk index sub
  | .stageWrite _ index sub _ => addressOk index sub
  | .commitStaged _ => true
  | .commitImage _ => true
  | .validationDone => true
  | .applyInstant => true
  | .configPersistDone _ => true
  | .discard _ => true
  | .configImageAppend _ _ => true
  | .synthLock _ _ => true
  | .synthUnlock _ => true
  | .synthHoldTimeout _ => true
  | .droneRampDone _ => true
  | .paFault _ _ => true
  | .paRailFault _ => true
  | .paRailRecovered _ => true
  | .reedConverged _ weights => rising (weights.map fun w => w.chain.val)
  | .reedConvergeTimeout _ => true
  | .reedTrackTick _ _ _ r => i16 r.residual && i16 r.theta
  | .reedLimit _ => true
  | .blocker _ => true
  | .returnLossUpdate _ rl fwd => i16 rl && i16 fwd
  | .probeSuccess _ => true
  | .sweepChannelDone results iso => rising (results.map fun r => r.chain.val) && iso.length ≤ 192 && iso.all fun m => i16 m.level
  | .turnroundEnd _ => true
  | .fullCalDone _ res => i16 res.temp
  | .calRetryTimer _ => true
  | .calRequest _ _ => true
  | .reedReseed _ _ => true
  | .chainFaultClear _ _ => true
  | .descriptorRelease _ _ => true
  | .permitWithdraw _ _ => true
  | .permitReturn _ _ => true
  | .regLockArm _ _ => true
  | .regLockFire _ _ => true
  | .lockFireDone _ => true
  | .lockArmTimeout => true
  | .viewIndexWrite _ _ => true
  | .surveyStart _ => true
  | .surveyAbort _ => true
  | .surveyTimeout => true
  | .laneSelftest _ _ => true
  | .readMeasured _ meas => rising (meas.map fun m => m.chain.val) && meas.all fun m => i16 m.power && i16 m.snr
  | .roundStart _ => true
  | .powerUpHoldEnd _ => true
  | .slotEmptyTimeout _ => true
  | .epcReply _ reply => reply.epc.length ≤ 62
  | .accessReplyTimeout _ => true
  | .accessOpEnd _ replies _ _ => replies.all fun r => match r with
    | .data b => decide (b.length ≤ 128)
    | _ => true
  | .roundEnd _ => true
  | .opArm _ _ => true
  | .opDisarm _ _ => true
  | .resultRelease _ _ => true
  | .locBatch => true
  | .trackJoin => true
  | .trackCloseGap _ => true
  | .countIntervalPublish => true
  | .planBoundary _ => true
  | .dwellStart _ => true
  | .dwellEnd _ => true
  | .powerMeasure _ => true
  | .hfStartDeferred => true
  | .packetAgeTimeout _ _ => true
  | .reportWindowEnd => true
  | .creditGrant _ _ _ => true
  | .linkCreditGrant _ _ _ => true
  | .reportNext _ _ => true
  | .reportRelease _ _ _ => true
  | .wmAck _ _ => true
  | .hotRead _ => true
  | .markSet _ _ _ => true
  | .markClear _ _ _ => true
  | .rewind _ _ _ => true
  | .rewindDone _ => true
  | .scrubStep _ _ _ _ => true
  | .rowRepairDone => true
  | .repairMapStored _ => true
  | .innerCountUpdate _ => true
  | .hfDiscover _ => true
  | .hfActivate _ => true
  | .hfExchange _ => true
  | .hfRelease _ => true
  | .hfAbort _ => true
  | .hfFrameReceived frame _ => frame.length ≤ 4096
  | .hfReplyTimeout => true
  | .hfOpEnd _ rsp cards _ => rsp.length ≤ 1024 && cards.all (fun c => c.length = 16)
  | .hfSessionIdle => true
  | .slideTrackTick _ _ phase _ => i16 phase
  | .hfDriverFault _ => true
  | .hfFaultClear _ => true
  | .hfPllUnlock => true
  | .hfRecoveryRetry _ => true
  | .slideRetune _ => true
  | .slideCalDone _ _ _ phase _ temp => i16 phase && i16 temp
  | .breathPulse _ _ => true
  | .breathSecondPulse _ _ => true
  | .breathConfirmEnd _ => true
  | .breathBaselineDone _ _ _ => true
  | .sptSelectRelease mosi => mosi.length ≤ 65536
  | .sptFetch => true
  | .sptRead => true
  | .sptWrite => true
  | .sptBlockRead => true
  | .twaStatus => true
  | .twaModeSet _ => true
  | .twaEvents => true
  | .twaEventAck _ => true
  | .twaCredit _ => true
  | .twaObjRead _ _ _ => true
  | .twaObjWrite _ _ data => data.length ≤ 128
  | .twaDomRead _ _ _ _ => true
  | .twaDomWrite _ _ _ data => data.length ≤ 128
  | .twaWindow _ data => data.length ≤ 256
  | .twaReplyRead n => n ≤ 4096
  | .twaWriteReject _ => true
  | .twaAra _ => true
  | .twaAlertReassert => true
  | .twaBusTimeout => true
  | .mbxNonce => true
  | .mbxReadCert => true
  | .mbxTokenWrite => true
  | .mbxTokenSubmit => true
  | .mbxFwBegin => true
  | .mbxFwWrite => true
  | .mbxFwFinish => true
  | .mbxReset => true
  | .nmtStart => true
  | .nmtStop => true
  | .nmtEnterPreop => true
  | .nmtResetNode => true
  | .nmtResetComm => true
  | .heartbeatTimer => true
  | .usdoRequest req => req.wf
  | .usdoTimeout => true
  | .rpdoReceived _ data => data.length ≤ 64
  | .syncReceived => true
  | .timeReceived _ _ => true
  | .tpdoSend _ => true
  | .tpdoEventTimer _ => true
  | .tpdo0PacketSend => true
  | .tpdo0FragmentSent => true
  | .emcySend => true
  | .canErrPassive _ => true
  | .canErrorActive _ => true
  | .canBusOff _ => true
  | .canBusOffRecovered _ => true
  | .spcRead _ => true
  | .spcProgram _ => true
  | .spcErase4k _ => true
  | .spcErase64k _ => true
  | .spcReadSfdp _ => true
  | .spcOpEnd _ sfdp => sfdp.length ≤ 256
  | .twbGo _ _ => true
  | .twbRecover _ _ => true
  | .twbTransferEnd _ _ rdata => rdata.length ≤ 256
  | .twbSclTimeout => true
  | .twbConflict => true
  | .twbRetry _ => true
  | .gpioSet _ _ => true
  | .gpioClear _ _ => true
  | .gateEdge _ _ => true
  | .timerWrap _ => true
  | .timerMatch _ => true
  | .tmrFlagClear _ _ _ => true
  | .tmrRestart _ _ _ => true
  | .tmrGroupLoad _ _ => true
  | .discPhaseEnd => true
  | .discHoldover => true
  | .scanStart _ => true
  | .scanAbort _ => true
  | .scanDone _ => true
  | .checkSelftest _ _ => true
  | .demandPageLoad _ _ => true
  | .fwUpdateBegin _ => true
  | .fwEraseDone => true
  | .fwImageAppend _ _ => true
  | .fwUpdateFinish _ => true
  | .fwVerifyDone _ _ => true
  | .fwUpdateAbandon _ => true
  | .fwConfirm _ _ => true
  | .nonceRequest _ _ => true
  | .nonceExpire => true
  | .tokenSubmit _ _ => true
  | .tokenTest => true
  | .tokenRecovery => true
  | .tokenDebug => true
  | .ownerRelease => true
  | .ownerEnrol => true
  | .ownerRotate => true
  | .tokenRejected _ => true
  | .sessionClose _ _ => true
  | .sessionExpire => true
  | .quoteGo _ _ => true
  | .quoteDone => true
  | .debugDisable _ _ => true
  | .debugAttach _ => true
  | .tapInstruction _ => true
  | .tempSample temps => [temps.cx, temps.px, temps.mx, temps.ux0, temps.ux1, temps.ux2, temps.ux3, temps.hx].all i16
  | .voltageSample _ => true
  | .railComparatorTrip _ => true
  | .processMeasure procs => [procs.cx, procs.ux0, procs.ux1, procs.ux2, procs.ux3, procs.hx].all i16
  | .cxPllUnlock => true
  | .cxPllRelock => true
  | .faultClear _ _ => true
  | .watchdogBark _ => true
  | .watchdogBite _ => true
  | .evtAck _ _ => true
  | .eventLogWrite => true
  | .workMemError _ => true
  | .porRelease _ _ _ => true
  | .vioBrownOut _ => true
  | .hfGuardTimeEnd => true
  | .twaAddressNack => true
  | .twbSclStuck => true
  | .twbBusReleased => true
  | .brownOut => true
  | .resetNAssert => true

end Sys2Proof
end

