-- ==== Sys2Proof/Tests/Slice0.lean ====
section
/-! SUPPORT. Tests: small states, a witness for the hypotheses of every statement, what is not well formed, and single steps with
results taken from the spec. -/

namespace Sys2Proof.Machine

set_option Elab.async false

/-! ### Small states that the witnesses use -/

/-- Out of reset in mode `m`, every link up, with these objects held. -/
def live (m : Mode) (regs : List (Nat × Nat)) : State :=
  { State.reset with
    mode := m, regs := regs.foldl (fun t p => Tab.put t p.1 p.2) [],
    sys := { Sys.reset with phase := .released, sptUp := true, twaUp := true, canUp := true, validConfig := true, timeOn := true } }

/-- Every hub's link up at a width. -/
def linked (w : Nat) : State :=
  { live .hold [] with hubs := (List.range 5).map fun h => (h, { (default : Hub) with width := w }) }

/-- Hub 0's CX end with its chain full; hub 3's with a flit unacknowledged. -/
def fullChain : State :=
  { live .hold [] with hubs := [(0, { (default : Hub) with width := 1, cx := { (default : LinkEnd) with fifo := List.replicate 32 default } })] }
def sentFlits : State :=
  { live .hold [] with hubs := [(3, { (default : Hub) with width := 1, cx := { (default : LinkEnd) with unacked := [default] } })] }

def training : State := { live .hold [] with hubs := [(0, { (default : Hub) with training := true })] }

/-- A flit of 32 bytes with a good CRC. -/
def goodFlit : Bytes :=
  let b := leBytes 1 3 ++ leBytes 1 0 ++ List.replicate 26 0#8
  b ++ leBytes 4 (crc32 b)

def toned : State := { live .ready [] with arr := { State.reset.arr with bus := [(0, 0)] } }
def refGoneState : State := let s := live .hold []; { s with sys := { s.sys with refLost := true } }

def rnd (stage : RoundStage) : Round := 
  { zone := 0, prof := 0, stage := stage, q := 4, qfp := 64, target := 0, slots := 0, singles := 0, empties := 0, colls := 0, crc := 0,
    late := 0, crcSlot := false, lateSlot := false, opening := [], left := 0, sent := [], queried := true, run := 0, cold := false, began := 0, due := if stage = .ending then some 1 else none, rn16 := 0,
    best := 0, rxMask := 0, snr := 0, spatial := false, acks := 0, outcome := 0, tag := 0, pc := 0, xpc := [], epc := [], replyAt := 0,
    ops := [], ran := [], tries := 0, steps := [], handle := 0, cover := 0 }
def rounding (beam : Nat) (stage : RoundStage) : State :=
  { live .run [] with eng := { State.reset.eng with rounds := [(beam, rnd stage)] } }

def retuning (q : Nat) : State :=
  { live .ready [(Reg.QUAD_STATE q, 2)] with quads := [(q, { (default : Quad) with want := 865700 })] }
def holding : State := { live .ready [] with quads := [(0, { (default : Quad) with want := 865700, held := some .dwell })] }

def oneChain : Running :=
  { d := { (default : Dwell) with khz := 865700, gang := 1 }, at_ := 0, unlocked := 0, toned := true, past := false, hop := none,
    holding := false, ready := false, begun := false, locks := 0 }
def converging : State :=
  { live .run [(Reg.CHAIN_STATE 0, 2), (Reg.CHAIN_ENABLE 1, 0), (Reg.CHAIN_ENABLE 2, 0), (Reg.CHAIN_ENABLE 3, 0)] with
    val := { State.reset.val with running := [(0, oneChain)] } }
def goodCal : CalRes := ⟨false, false, 0#4, 0#4, 0#4, 250, 1000⟩
def calRunning : State := { live .ready [] with quads := [(0, { (default : Quad) with calibrating := true })] }
def moving (x : Trans) (m : Mode) : State := let s := live m []; { s with sys := { s.sys with trans := some x } }
def booting : State :=
  { State.reset with sys := { Sys.reset with phase := .released } }

/-- The interlock lets every channel of the region carry. -/
def freshIlk : Ilk := { State.reset.ilk with fresh := false }

/-- A part of which PX drives the outputs; one whose last quad has lost its PA rail; every link up and nothing swept. -/
def pxDriven : State := { live .run [] with sys := { (live .run []).sys with lx01 := .px } }
def railed : State :=
  { live .hold [(Reg.CHAIN_FAULT 15, 33), (Reg.CHAIN_STATE 15, 5)] with quads := [(3, { (default : Quad) with railBad := true })] }
def sweeping : State := { live .ready [(Reg.REGION_ID, 1)] with ilk := freshIlk, hubs := (linked 1).hubs }
/-- Entry 0 of a region with its counter at the limit of the dwell rule, and of the continuous rule. -/
def held : State :=
  { live .ready [(Reg.REGION_ID, 4)] with ilk := { freshIlk with permits := [(0, { (default : Permit) with bins := [1000000] })] } }
def ran : State :=
  { live .ready [(Reg.REGION_ID, 1)] with ilk := { freshIlk with permits := [(0, { (default : Permit) with run := 4000000 })] } }
def selecting : Round := { rnd .powerUp with opening := [.nak] }

def testing : State :=
  { live .test [(Reg.REGION_ID, 1), (Reg.TEST_FREQ_KHZ, 865700), (Reg.TEST_CHAIN_MASK, 1), (Reg.TEST_LEVEL, 0)] with ilk := freshIlk }
def carrying : State :=
  { live .test [(Reg.TEST_CARRIER_STATE, 2)] with testC := some ⟨1, 0, true⟩ }
def fielded : State := { live .test [] with hf := { State.reset.hf with test := true, fieldAt := some 0 } }
def hopping : State :=
  { live .run [(Reg.REGION_ID, 1)] with
    ilk := freshIlk, val := { State.reset.val with running := [(0, oneChain)] },
    eng := { State.reset.eng with rounds := [(0, rnd .slot)] } }
def surveying : State := { live .run [] with arr := { State.reset.arr with survey := some ⟨0, 0, 0, []⟩ } }
def laneFailed : State := { live .run [] with arr := { State.reset.arr with laneFails := [(7, 1)] } }
def heardState : State :=
  { live .run [(Reg.LOC_ENABLE, 1), (Reg.TRACK_ZONE_MASK, 1)] with eng := { State.reset.eng with heard := [(1, default)] } }
def readyRun : Running := { oneChain with ready := true }
def roundable : State :=
  { live .run [(Reg.CHAIN_STATE 0, 2)] with val := { State.reset.val with running := [(0, readyRun)] } }
def opRound : Round := { rnd .access with ops := [5], steps := [.write 3 0 7] }
def opering : State :=
  { live .run [(Reg.OP_CODE 5, 1), (Reg.OP_RETRIES 5, 2)] with eng := { State.reset.eng with rounds := [(0, opRound)] } }
def oneTrack : Track := ⟨0, 0, false, 0, 0, none, none, 0, 0, [], [], 0⟩
def tracking : State :=
  { live .run [] with rep := { State.reset.rep with joins := [(default, default)] }, trk := { State.reset.trk with tracks := [oneTrack] } }
def packing : State :=
  { live .run [] with rep := { State.reset.rep with streams := [(1, { (default : Stream) with opens := [(0, default)] })] } }
def queued : State :=
  { live .run [(Reg.STREAM_ENABLE 0, 1), (Reg.STREAM_LINK 0, 1), (Reg.CREDITS 0, 100)] with
    rep := { State.reset.rep with streams := [(0, { (default : Stream) with queue := [default] })] } }
def shownPkt : State :=
  { live .run [(Reg.STREAM_ENABLE 0, 1), (Reg.STREAM_LINK 0, 2), (Reg.CREDITS 0, 100)] with
    rep := { State.reset.rep with streams := [(0, { (default : Stream) with queue := [default], shown := true })] } }
def spared : State := live .run [(Reg.SPARE_ROWS_TOTAL, 8)]

def hfLive : State := live .ready [(Reg.HF_ENABLE, 1)]
def hfCards : State := live .ready [(Reg.HF_ENABLE, 1), (Reg.HF_CARD_COUNT, 1), (Reg.HF_OP_ARG, 0)]
def hfActive : State :=
  { live .ready [(Reg.HF_ENABLE, 1), (Reg.HF_OP_ARG, 1)] with
    doms := [(Reg.HF_CMD_DATA, [0#8])], hf := { State.reset.hf with active := some 0, session := true } }
def hfSession : State := { hfLive with hf := { State.reset.hf with session := true } }
def hfRunning (code : Nat) : State := { hfLive with hf := { State.reset.hf with op := some (code, 0), session := true, fieldAt := some 0 } }
def fieldUp : State := { hfLive with hf := { State.reset.hf with fieldAt := some 0 } }
def slideRuns : State := { hfLive with hf := { State.reset.hf with calRuns := true, fieldAt := some 0 } }
def breathing (step : BreathStep) : State :=
  { live .watch [(Reg.BREATH_STATE, 2)] with hf := { State.reset.hf with step := step } }

/-- Flash 1 discovered, 32 MiB, and what the SPC objects hold. -/
def spcReady (addr n : Nat) : State :=
  { live .ready [(Reg.FLASH_STATE n, 1), (Reg.FLASH_SIZE_KIB n, 32768), (Reg.SPC_OP_FLASH, n), (Reg.SPC_OP_ADDRESS, addr), (Reg.SPC_OP_LEN, 1)] with
    doms := [(Reg.SPC_OP_DATA, [0xA5#8])], brd := { State.reset.brd with inForce := ⟨2, [1, 2, 3], 0⟩ } }
def progOp (code : Nat) : SpcOp := ⟨code, 1, 4096, 1, [0xAB#8], 0⟩
def spcRuns (code : Nat) : State :=
  { spcReady 4096 1 with brd := { State.reset.brd with spc := some (progOp code), flash := [(1, [(9, 1#8)])] } }
def twbRuns (phase : TwbPhase) (left : Nat) : State :=
  { live .ready [(Reg.TWB_STATE, 1)] with brd := { State.reset.brd with twb := phase, twbLen := 1, twbLeft := left } }

def readBody : Bytes :=
  leBytes 2 (Reg.MODE_CURRENT / 256) ++ leBytes 1 (Reg.MODE_CURRENT % 256) ++ [0#8, 0#8, 0#8, 1#8, 0#8]
def readFrame : Bytes :=
  let b := leBytes 1 1 ++ leBytes 1 7 ++ leBytes 1 0 ++ leBytes 1 0 ++ leBytes 2 readBody.length ++ readBody
  b ++ leBytes 4 (crc32 b)
def blockBody : Bytes := leBytes 2 (Reg.MODE_CURRENT / 256) ++ leBytes 1 (Reg.MODE_CURRENT % 256) ++ [0#8, 1#8, 0#8]
def writeBody : Bytes :=
  leBytes 2 (Reg.HOT_CURSOR / 256) ++ leBytes 1 (Reg.HOT_CURSOR % 256) ++ [0#8] ++ leBytes 2 8 ++ leBytes 8 5
def sptRuns (opc : Nat) (body : Bytes) : State :=
  { live .ready [] with io := { State.reset.io with spt := some ⟨opc, 9, body, 0, 0⟩ } }

def committing (staged : DomStore) : State :=
  { live .ready [(Reg.COMMIT_STATE, 1)] with cfg := { State.reset.cfg with staged := staged, src := some .staged } }
def applying : State :=
  { live .ready [(Reg.COMMIT_STATE, 2)] with
    cfg := { State.reset.cfg with src := some .staged, next := some [(Reg.ANT_GAIN 0, [5#8, 0#8])] } }
def storing : State :=
  { live .ready [(Reg.PERSIST_STATE, 1)] with
    cfg := { State.reset.cfg with storing := some [0x53#8, 0xFF#8, 0x43#8] },
    brd := { State.reset.brd with flash := [(0, [(9, 1#8), (0xC10001, 7#8)])] } }
def transferring : State := { live .run [] with io := { State.reset.io with usdo := some ⟨0, true, 4, []⟩ } }
def operational (regs : List (Nat × Nat)) : State := live .run (regs ++ [(Reg.CAN_NMT_STATE, 5), (Reg.CAN0_STATE, 1)])
def framed : State :=
  { operational [(Reg.TPDO_COB_ID 1, 0x180), (Reg.TPDO_TYPE 1, 1)] with
    io := { State.reset.io with tpdo := [(1, ⟨0, some [1#8], none⟩)] } }
def synced : State :=
  operational ((List.range 8).flatMap fun n => [(Reg.TPDO_COB_ID n, 0x180), (Reg.TPDO_TYPE n, 1), (Reg.TPDO_MAP_COUNT n, 0)])
def pushing (x : Option (Pkt × Bytes)) : State :=
  { operational [(Reg.TPDO_COB_ID 0, 0x180), (Reg.STREAM_ENABLE 2, 1), (Reg.STREAM_LINK 2, 3), (Reg.CREDITS 2, 100)] with
    rep := { State.reset.rep with streams := [(2, { (default : Stream) with queue := [default], pushing := x })] } }
def alarmed : State :=
  { operational [(Reg.COB_ID_EMCY, 0x80)] with ev := { State.reset.ev with emcy := [⟨0xFF09, 1, 2, 9, 80000⟩] } }
def scanned (st cmp : Nat) : State :=
  { live .ready [(Reg.SCAN_STATE, st), (Reg.SCAN_POLY, 5), (Reg.SCAN_COMPARE, cmp)] with doms := [(Reg.SCAN_DATA, [0x31#8])] }
def boxed (cmd off : Nat) : State :=
  { live .ready [] with io := { State.reset.io with mbxState := 1, mbxCmd := cmd, mbxLen := 128, mbxOffset := off, mbxData := List.replicate 128 0#8 } }
def updating (st : Nat) : State :=
  { live .ready [(Reg.FW_UPDATE_STATE, st), (Reg.FW_LOADED_BYTES, 256)] with
    sec := { State.reset.sec with updating := some true }, brd := { State.reset.brd with flash := [(0, [(0x610001, 7#8)])] } }
/-- A firmware image of one boot segment of 4,096 bytes and no page, version 1.2.3, SVN 64, for any part. -/
def aFirmware : Bytes :=
  leBytes 4 0x57465653 ++ leBytes 2 1 ++ leBytes 2 0 ++ leBytes 4 0x01020003 ++ leBytes 2 64 ++ leBytes 2 1 ++ leBytes 4 7504 ++
    leBytes 4 4096 ++ leBytes 4 0 ++ leBytes 4 0 ++ List.replicate 32 0xFF#8 ++
    leBytes 4 0x47535653 ++ leBytes 2 1 ++ leBytes 2 1 ++ List.replicate 8 0xFF#8 ++ leBytes 4 0 ++ List.replicate 12 0#8
def imaged : State :=
  { updating 3 with brd := { State.reset.brd with
      flash := [(0, Memory.writeAll (Memory.writeAll [] 0x610000 aFirmware) (0x610000 + 64 + 3341) [0#8, 0#8, 0#8])] } }
def trying : State := (live .ready [(Reg.FW_SLOT, 1), (Reg.FW_TRIAL, 1)]).writeHdr ⟨0, 0, 1, 1, 0⟩

/-- Two rows of two chains, seen straight ahead, the array tilted down over lane 3. -/
def roadRegs : List (Nat × Nat) :=
  [(Reg.ANGLE_MIN_CHAINS, 4), (Reg.STEER_LIMIT, 0), (Reg.MOUNT_TILT, 1200), (Reg.MOUNT_HEIGHT, 8000), (Reg.DEFAULT_CLASS, 7),
   (Reg.ELEMENT_X 0, 0), (Reg.ELEMENT_X 1, 1600), (Reg.ELEMENT_X 2, 0), (Reg.ELEMENT_X 3, 1600),
   (Reg.ELEMENT_Y 0, 0), (Reg.ELEMENT_Y 1, 0), (Reg.ELEMENT_Y 2, 1600), (Reg.ELEMENT_Y 3, 1600),
   (Reg.LANE_ENABLE 3, 1), (Reg.LANE_X0 3, 0), (Reg.LANE_Y0 3, 0), (Reg.LANE_X1 3, 60000), (Reg.LANE_Y1 3, 0),
   (Reg.LANE_X2 3, 60000), (Reg.LANE_Y2 3, 3500), (Reg.LANE_X3 3, 0), (Reg.LANE_Y3 3, 3500)]
def roadRead : Read :=
  { (default : Read) with khz := 866300, meas := [⟨0, 0, -200, 80⟩, ⟨1, 0, -200, 80⟩, ⟨2, 0, -200, 80⟩, ⟨3, 0, -200, 80⟩] }

/-- A token of a kind with the nonce of ones and the serial of zeros, signed by the key of ID `aKey`. -/
def aKey (kind : Nat) : Bytes := if kind = 5 then keyId (padTo 1952 []) else List.replicate 8 7#8
def tokenHead (kind : Nat) : Bytes :=
  leBytes 4 0x4B545653 ++ leBytes 2 1 ++ leBytes 1 kind ++ leBytes 1 0 ++ List.replicate 12 0#8 ++ List.replicate 32 1#8 ++ leBytes 4 60
def tokenTail (kind : Nat) : Bytes := (if kind = 6 then keyId (padTo 1952 []) else List.replicate 8 0#8) ++ List.replicate 3312 0#8
def aToken (kind : Nat) : Bytes := tokenHead kind ++ (aKey kind ++ tokenTail kind)
def verifying (kind : Nat) (m : Mode) : State :=
  { live m (if kind = 5 then [] else [(Reg.OWNER_LOCK, 1)]) with
    doms := [(Reg.SERIAL, List.replicate 12 0#8), (Reg.OWNER_KEY_ID, List.replicate 8 7#8), (Reg.OWNER_KEY_CANDIDATE, padTo 1952 [])].foldl
      (fun t p => Tab.put t p.1 p.2) [],
    sec := { State.reset.sec with verifying := some (.spt, aToken kind), nonce := some (List.replicate 32 1#8) },
    sys := { (live m []).sys with testen := true } }

theorem keyId_length (k : Bytes) : (keyId k).length = 8 := by simp [keyId, padTo]

/-- The candidate's own key signs the enrolment token. -/
theorem test_enrol_token_passes : (verifying 5 .hold).tokenCheck (aToken 5) false = .ok := by
  have hl : (aToken 5).length = 3384 := by
    show (tokenHead 5 ++ (keyId (padTo 1952 []) ++ (List.replicate 8 0#8 ++ List.replicate 3312 0#8))).length = 3384
    rw [List.length_append, List.length_append, keyId_length]; decide +kernel
  have hs : slice (aToken 5) 56 8 = keyId (padTo 1952 []) := by
    show (keyId (padTo 1952 []) ++ tokenTail 5).take 8 = _
    rw [List.take_append_of_le_length (Nat.le_of_eq (keyId_length _).symm), List.take_of_length_le (Nat.le_of_eq (keyId_length _))]
  have hc : (verifying 5 .hold).dom Reg.OWNER_KEY_CANDIDATE = padTo 1952 [] := by decide +kernel
  have h5 : (verifying 5 .hold).signer 5 = some (keyId (padTo 1952 [])) := by
    show (if (verifying 5 .hold).ownerLocked = true then _ else some (keyId ((verifying 5 .hold).dom Reg.OWNER_KEY_CANDIDATE))) = _
    rw [if_neg (by decide +kernel), hc]
  have hk : (verifying 5 .hold).candidateOk 5 (aToken 5) = true := by
    simp only [State.candidateOk, hc]; decide +kernel
  have f0 : field (aToken 5) 0 4 = 0x4B545653 := rfl
  have f4 : field (aToken 5) 4 2 = 1 := rfl
  have f6 : field (aToken 5) 6 1 = 5 := rfl
  have f7 : field (aToken 5) 7 1 = 0 := rfl
  have s8 : slice (aToken 5) 8 12 = List.replicate 12 0#8 := rfl
  have s20 : slice (aToken 5) 20 32 = List.replicate 32 1#8 := rfl
  have hser : (verifying 5 .hold).serial = List.replicate 12 0#8 := by decide +kernel
  simp only [State.tokenCheck, f0, f4, f6, f7, s8, s20, hl, hs, h5, hk, hser, bne_self_eq_false, Bool.not_true, Bool.or_false]
  decide +kernel

/-- The owner's key signs the rotation token, which names the candidate. -/
theorem test_rotate_token_passes : (verifying 6 .hold).tokenCheck (aToken 6) false = .ok := by
  have hl : (aToken 6).length = 3384 := by
    show (tokenHead 6 ++ (aKey 6 ++ (keyId (padTo 1952 []) ++ List.replicate 3312 0#8))).length = 3384
    rw [List.length_append, List.length_append, List.length_append, keyId_length]; decide +kernel
  have hs : slice (aToken 6) 56 8 = List.replicate 8 7#8 := rfl
  have hc : (verifying 6 .hold).dom Reg.OWNER_KEY_CANDIDATE = padTo 1952 [] := by decide +kernel
  have ha : slice (aToken 6) 64 8 = keyId (padTo 1952 []) := by
    show (keyId (padTo 1952 []) ++ List.replicate 3312 0#8).take 8 = _
    rw [List.take_append_of_le_length (Nat.le_of_eq (keyId_length _).symm), List.take_of_length_le (Nat.le_of_eq (keyId_length _))]
  have hk : (verifying 6 .hold).candidateOk 6 (aToken 6) = true := by
    simp only [State.candidateOk, hc, ha, decide_true, Bool.or_true, Bool.and_true]; decide +kernel
  have f0 : field (aToken 6) 0 4 = 0x4B545653 := rfl
  have f4 : field (aToken 6) 4 2 = 1 := rfl
  have f6 : field (aToken 6) 6 1 = 6 := rfl
  have f7 : field (aToken 6) 7 1 = 0 := rfl
  have s8 : slice (aToken 6) 8 12 = List.replicate 12 0#8 := rfl
  have s20 : slice (aToken 6) 20 32 = List.replicate 32 1#8 := rfl
  simp only [State.tokenCheck, f0, f4, f6, f7, s8, s20, hl, hs, hk]
  decide +kernel

def logged : State := { live .run [] with ev := { State.reset.ev with log := [⟨5, 63, 0, 0, 0, 0⟩] } }

/-! ### Every statement's hypotheses are met -/

theorem test_hyps_GoodFlitIsTakenAndBadFlitIsNot :
    (∃ (h : Fin 5) (side : LinkSide) (flit : Bytes) (s : State), ((s.hub h).width ≠ 0) ∧ (flitBad flit false = false) ∧ ((∀ q, ((s.hub h).end_ side).rxLast = some q → field flit 1 1 = (q + 1) % 256)) ∧ ((side = LinkSide.cx → ((s.hub h).end_ side).fifo.length < 32)) ∧ (field flit 3 1 = 0)) ∧
    (∃ (h : Fin 5) (flit : Bytes) (s : State), ((s.hub h).width ≠ 0) ∧ (flitBad flit false = false) ∧ ((∀ q, (s.hub h).cx.rxLast = some q → field flit 1 1 = (q + 1) % 256)) ∧ (32 ≤ (s.hub h).cx.fifo.length)) ∧
    (∃ (h : Fin 5) (side : LinkSide) (flit : Bytes) (codeErr : Bool) (s : State), ((s.hub h).width ≠ 0) ∧ (flitBad flit codeErr = true) ∧ (((s.hub h).end_ side).discarding = false)) := 
  ⟨⟨4, .die, goodFlit, (linked 1), by refine ⟨by decide +kernel, by decide +kernel, ?_, by decide +kernel, by decide +kernel⟩; intro q h; cases h⟩,
   ⟨0, goodFlit, fullChain, by refine ⟨by decide +kernel, by decide +kernel, ?_, by decide +kernel⟩; intro q h; cases h⟩,
   ⟨0, .cx, [], true, (linked 1), by decide +kernel⟩⟩

theorem test_hyps_LinkTrainingAndLossRows :
    (∃ (h : Fin 5) (side : LinkSide) (s : State), ((s.hub h).width ≠ 0) ∧ (((s.hub h).end_ side).unacked ≠ []) ∧ (((s.hub h).end_ side).resends < 7)) ∧
    (∃ (h : Fin 5) (s : State), ((s.hub h).width ≠ 0)) ∧
    (∃ (h : Fin 5) (s : State), ((s.hub h).training = true)) ∧
    (∃ (h : Fin 5) (s : State), ((s.hub h).width = 0) ∧ ((s.mode = Mode.hold ∨ s.mode = Mode.ready ∨ s.mode = Mode.run ∨ s.mode = Mode.test)) ∧ ((if h.val < 4 then h.val < Variant.quads s.variant else Variant.hx s.variant = true))) := 
  ⟨⟨3, .cx, sentFlits, by decide +kernel⟩,
   ⟨4, (linked 1), by decide +kernel⟩,
   ⟨0, training, by decide +kernel⟩,
   ⟨4, (live .hold []), by decide +kernel⟩⟩

theorem test_hyps_ToneMeasurementOfAQuadAlone :
    (∃ (leader : Fin 4) (asked : Nat) (rest : List (Nat × Nat)) (meas : List ToneMeas) (s : State), (s.arr.bus = (leader.val, asked) :: rest) ∧ (s.testC = none) ∧ (s.running leader = none) ∧ ((∀ c ∈ chainsOf leader, s.chainIn c = true → ∃ m ∈ meas, m.chain.val = c ∧ -184 ≤ m.power ∧ m.power ≤ -136 ∧ 140 ≤ m.residual))) := 
  ⟨0, 0, [], ([⟨0, 0, -184, 140⟩, ⟨1, 0, -136, 140⟩, ⟨2, 0, -160, 200⟩, ⟨3, 0, -160, 200⟩]), toned, by decide +kernel⟩

theorem test_hyps_ReferenceLossAndReturn :
    (∃ (s : State), (s.sys.refLost = false) ∧ (s.sys.phase = ResetPhase.released)) ∧
    (∃ (s : State), (s.sys.refLost = true) ∧ (s.mode ≠ Mode.test)) := 
  ⟨⟨(live .run []), by decide +kernel⟩,
   ⟨refGoneState, by decide +kernel⟩⟩

theorem test_hyps_WideValuesAreLatchedAtTheLowRead :
    (∃ (l : Link) (s : State), (Serves s l false)) ∧
    (∃ (l : Link) (s : State), (Serves s l false)) ∧
    (∃ (l : Link) (x : Shadow) (s : State), (s.oldestShadow l = some x)) := 
  ⟨⟨.spt, (live .run []), by decide +kernel⟩,
   ⟨.spt, (live .run []), by decide +kernel⟩,
   ⟨.twa, (⟨.twa, Reg.DEVICE_TIME_LO, [1, 2], 5⟩), ({ live .run [] with shadows := [⟨.twa, Reg.DEVICE_TIME_LO, [1, 2], 5⟩] }), by decide +kernel⟩⟩

theorem test_hyps_RepliesOfASlot :
    (∃ (beam : Fin 4) (r : Round) (s : State), (s.round beam = some r) ∧ ((r.stage = RoundStage.slot ∨ r.stage = RoundStage.ack ∨ r.stage = RoundStage.access))) ∧
    (∃ (beam : Fin 4) (r : Round) (d : Decode) (s : State), (s.round beam = some r) ∧ (r.stage = RoundStage.slot) ∧ (d.rxBeam.val / 4 = beam.val) ∧ (s.get (Reg.RXB_MODE d.rxBeam) ≠ 0)) ∧
    (∃ (beam : Fin 4) (r : Round) (s : State), (s.round beam = some r) ∧ (r.stage = RoundStage.slot)) ∧
    (bestDecode [⟨1, 5, 40⟩, ⟨0, 5, 40⟩, ⟨2, 6, 39⟩] = some ⟨0, 5, 40⟩) ∧
    (([⟨0, 0, 0⟩] : List Decode) ≠ []) := 
  ⟨⟨2, (rnd .slot), (rounding 2 .slot), by decide +kernel⟩,
   ⟨0, (rnd .slot), (⟨3, 0xBEEF#16, 40⟩), ({ rounding 0 .slot with regs := [(Reg.RXB_MODE 3, 1)] }), by decide +kernel⟩,
   ⟨3, (rnd .slot), (rounding 3 .slot), by decide +kernel⟩,
   by decide +kernel,
   by decide +kernel⟩

theorem test_hyps_ModeRequestsStartTransitions :
    (∃ (l : Link) (s : State), (Serves s l true) ∧ (s.sys.trans = none) ∧ (s.get Reg.COMMIT_STATE = 0) ∧ ((s.mode = Mode.run ∨ s.mode = Mode.ready))) ∧
    (∃ (l : Link) (s : State), (Serves s l true) ∧ (s.sys.trans = none) ∧ (s.get Reg.COMMIT_STATE = 0) ∧ (s.get Reg.SESSION_KIND ≠ 3) ∧ (s.mode = Mode.run)) ∧
    (∃ (l : Link) (s : State), (Serves s l true) ∧ (s.sys.trans = none) ∧ (s.get Reg.COMMIT_STATE = 0) ∧ (s.get Reg.SESSION_KIND ≠ 3) ∧ (s.mode = Mode.watch)) ∧
    (∃ (l : Link) (s : State), (Serves s l true) ∧ (s.sys.trans = none) ∧ (s.get Reg.COMMIT_STATE = 0) ∧ (s.get Reg.SESSION_KIND ≠ 3) ∧ ((s.mode = Mode.ready ∨ s.mode = Mode.run))) ∧
    (∃ (l : Link) (s : State), (Serves s l true) ∧ (s.sys.trans = none) ∧ (s.get Reg.COMMIT_STATE = 0) ∧ (s.mode = Mode.hold) ∧ (s.testSession l = true)) := 
  ⟨⟨.spt, (live .run []), by decide +kernel⟩,
   ⟨.can, (live .run []), by decide +kernel⟩,
   ⟨.spt, (live .watch []), by decide +kernel⟩,
   ⟨.twa, (live .ready []), by decide +kernel⟩,
   ⟨.spt, (live .hold [(Reg.SESSION_KIND, 2), (Reg.SESSION_LINK, 1)]), by decide +kernel⟩⟩

theorem test_hyps_TransitionsEndInTheirMode :
    (∃ (x : Trans) (s : State), (s.sys.trans = some x) ∧ (x.target = Mode.hold) ∧ (s.runHeld x = false)) ∧
    (∃ (x : Trans) (s : State), (s.sys.trans = some x) ∧ (x.target = Mode.test) ∧ (s.runHeld x = false)) ∧
    (∃ (x : Trans) (s : State), (s.sys.trans = some x) ∧ (x.target = Mode.ready) ∧ (s.runHeld x = false) ∧ (s.calsDone = true) ∧ (s.sweep = none) ∧ (s.hf.calRuns = false)) := 
  ⟨⟨(⟨.hold, true, none, 2⟩), (moving ⟨.hold, true, none, 2⟩ .ready), by decide +kernel⟩,
   ⟨(⟨.test, false, some .spt, 0⟩), (moving ⟨.test, false, some .spt, 0⟩ .hold), by decide +kernel⟩,
   ⟨(⟨.ready, false, some .twa, 0⟩), (moving ⟨.ready, false, some .twa, 0⟩ .run), by decide +kernel⟩⟩

theorem test_hyps_ResetsKeepWhatIsStored :
    (∃ (l : Link) (s : State), (Serves s l false)) ∧
    (∃ (s : State), (s.sys.phase ≠ ResetPhase.porHeld)) := 
  ⟨⟨.can, (live .run []), by decide +kernel⟩,
   ⟨(live .run []), by decide +kernel⟩⟩

theorem test_hyps_PowerAndResetRelease :
    (∃ (s : State), (s.sys.phase = ResetPhase.porHeld)) ∧
    (∃ (s : State), (s.sys.phase = ResetPhase.resetHeld) ∧ (s.sys.resetDue = none)) ∧
    (∃ (s : State), (s.sys.phase = ResetPhase.resetHeld)) ∧
    (∃ (s : State), (s.sys.phase = ResetPhase.released) ∧ (s.mode = Mode.boot) ∧ (s.sys.timeOn = false)) ∧
    (∃ (s : State), (s.sys.phase = ResetPhase.released) ∧ (s.mode = Mode.boot)) ∧
    (∃ (s : State), (s.sys.phase = ResetPhase.released) ∧ (s.mode = Mode.boot)) ∧
    (∃ (s : State), (s.sys.phase = ResetPhase.released) ∧ (s.mode = Mode.boot) ∧ (s.sys.noFirmware = false) ∧ (s.sys.canUp = false)) ∧
    (∃ (s : State), (s.sys.phase = ResetPhase.released) ∧ (s.mode = Mode.boot) ∧ (s.sys.timeOn = true) ∧ (s.sys.noFirmware = false) ∧ (s.stepsDone = true)) := 
  ⟨⟨({ State.reset with sys := { Sys.reset with phase := .porHeld } }), by decide +kernel⟩,
   ⟨State.reset, by decide +kernel⟩,
   ⟨State.reset, by decide +kernel⟩,
   ⟨booting, by decide +kernel⟩,
   ⟨booting, by decide +kernel⟩,
   ⟨booting, by decide +kernel⟩,
   ⟨booting, by decide +kernel⟩,
   ⟨({ booting with sys := { booting.sys with timeOn := true, bootReason := 3 } }), by decide +kernel⟩⟩

theorem test_hyps_TestCommands :
    (∃ (l : Link) (s : State), (Serves s l false) ∧ (s.mode = Mode.test) ∧ (s.get Reg.TEST_CARRIER_STATE ≠ 1) ∧ (s.get Reg.TEST_CARRIER_STATE ≠ 2) ∧ (s.testNone = false) ∧ (s.critical = 0) ∧ (s.sys.refLost = false) ∧ (s.interlock (s.get Reg.TEST_FREQ_KHZ) (s.testChains.map fun c => (c, s.i16 Reg.TEST_LEVEL)) = true)) ∧
    (∃ (l : Link) (x : TestC) (s : State), (Serves s l false) ∧ (s.mode = Mode.test) ∧ (s.testC = some x)) ∧
    (∃ (x : TestC) (s : State), (s.get Reg.TEST_CARRIER_STATE = 2) ∧ (s.testC = some x)) ∧
    (∃ (l : Link) (s : State), (Serves s l false) ∧ (s.mode = Mode.test) ∧ (Variant.hx s.variant = true) ∧ (s.hf.fieldAt = none) ∧ (s.get Reg.HF_STATE ≠ 5) ∧ (s.critical = 0) ∧ (s.sys.refLost = false) ∧ (s.get Reg.HF_ENABLE = 1)) ∧
    (∃ (l : Link) (a : Nat) (s : State), (Serves s l false) ∧ (s.mode = Mode.test) ∧ (Variant.hx s.variant = true) ∧ (s.hf.test = true) ∧ (s.hf.fieldAt = some a)) ∧
    (∃ (a : Nat) (s : State), (s.hf.test = true) ∧ (s.hf.fieldAt = some a)) ∧
    (∃ (l : Link) (s : State), (Serves s l false) ∧ (s.mode = Mode.test) ∧ (s.get Reg.CAPTURE_STATE ≠ 1)) ∧
    (∃ (s : State), (s.get Reg.CAPTURE_STATE = 1)) := 
  ⟨⟨.spt, testing, by decide +kernel⟩,
   ⟨.spt, (⟨1, 0, true⟩), carrying, by decide +kernel⟩,
   ⟨(⟨1, 0, true⟩), carrying, by decide +kernel⟩,
   ⟨.twa, (live .test []), by decide +kernel⟩,
   ⟨.twa, 0, fielded, by decide +kernel⟩,
   ⟨0, fielded, by decide +kernel⟩,
   ⟨.spt, (live .test []), by decide +kernel⟩,
   ⟨(live .test [(Reg.CAPTURE_STATE, 1)]), by decide +kernel⟩⟩

theorem test_hyps_CommitsAreStagedCheckedAndApplied :
    (∃ (l : Link) (index : Nat) (sub : Nat) (d : Bytes) (s : State), (Serves s l false) ∧ ((Dict.find (index * 256 + sub % 256)).any (fun f => decide (f.row.acc = Acc.rws ∨ (f.row.acc = Acc.lock ∧ s.regLocked = false)) && f.present s.variant s.mode && f.writeOk s.variant d) = true) ∧ (((index * 256 + sub % 256) = Reg.REGION_ID → (Region.ofId (leNat d)).isSome = true)) ∧ (s.ownerLocked = false) ∧ (s.claimedKey (index * 256 + sub % 256) = false) ∧ (s.get Reg.COMMIT_STATE = 0) ∧ (s.canStage (index * 256 + sub % 256) d = true) ∧ (s.get Reg.LOCK_STATE ≠ 1)) ∧
    (∃ (l : Link) (index : Nat) (sub : Nat) (s : State), (Serves s l false) ∧ ((Dict.find (index * 256 + sub % 256)).any (fun f => decide (f.row.acc = Acc.lock) && f.present s.variant s.mode) = true) ∧ (s.get Reg.LOCK_STATE = 2)) ∧
    (∃ (l : Link) (s : State), (Serves s l false) ∧ (s.mode ≠ Mode.test) ∧ (s.get Reg.COMMIT_STATE = 0) ∧ (s.sys.trans = none) ∧ (s.get Reg.LOCK_STATE ≠ 1) ∧ (s.ownerLocked = false)) ∧
    (∃ (l : Link) (s : State), (Serves s l false) ∧ (s.mode ≠ Mode.test) ∧ (s.get Reg.COMMIT_STATE = 0) ∧ (s.sys.trans = none) ∧ (s.get Reg.LOCK_STATE ≠ 1)) ∧
    (∃ (s : State), (s.cfg.src = some CommitSrc.staged) ∧ (s.get Reg.COMMIT_STATE = 1) ∧ (s.cfg.staged ≠ []) ∧ (s.judgeEntries (s.overlay s.cfg.staged) s.cfg.staged = none) ∧ (s.mode ≠ Mode.run)) ∧
    (∃ (r : Reject) (s : State), (s.cfg.src = some CommitSrc.staged) ∧ (s.get Reg.COMMIT_STATE = 1) ∧ (s.judgeEntries (s.overlay s.cfg.staged) s.cfg.staged = some r)) ∧
    (∃ (s : State), (s.cfg.src = some CommitSrc.staged) ∧ (s.get Reg.COMMIT_STATE = 1) ∧ (s.cfg.staged = []) ∧ (s.judgeEntries s [] = none) ∧ (s.get Reg.PERSIST_STATE ≠ 2)) ∧
    (∃ (x : CommitSrc) (es : DomStore) (s : State), (s.cfg.src = some x) ∧ (s.cfg.next = some es) ∧ (s.get Reg.COMMIT_STATE = 2) ∧ (s.eng.rounds = [])) ∧
    (∃ (img : Bytes) (s : State), (s.cfg.storing = some img) ∧ (s.flashTaken 0 = false) ∧ (Memory.wf (s.flash 0) = true)) ∧
    (∃ (img : Bytes) (s : State), (s.cfg.storing = some img) ∧ (s.flashTaken 0 = false)) ∧
    (∃ (l : Link) (s : State), (Serves s l false) ∧ (s.get Reg.COMMIT_STATE = 0) ∧ (s.get Reg.LOCK_STATE ≠ 1)) ∧
    (∃ (l : Link) (d : Bytes) (s : State), (Serves s l false) ∧ (s.get Reg.COMMIT_STATE = 0) ∧ (s.get Reg.LOCK_STATE ≠ 1) ∧ (s.cfg.image.length + d.length ≤ 524288)) := 
  ⟨⟨.can, (Reg.TX_POWER_MAX 15 / 256), (Reg.TX_POWER_MAX 15 % 256), ([5#8, 0#8]), (live .ready []), by decide +kernel⟩,
   ⟨.spt, (Reg.REGION_ID / 256), (Reg.REGION_ID % 256), (live .run [(Reg.LOCK_STATE, 2)]), by decide +kernel⟩,
   ⟨.spt, (live .run []), by decide +kernel⟩,
   ⟨.twa, (live .hold [(Reg.OWNER_LOCK, 1)]), by decide +kernel⟩,
   ⟨(committing [(Reg.ANT_GAIN 0, [5#8, 0#8])]), by decide +kernel⟩,
   ⟨(⟨.range, Reg.ANT_GAIN 0, 0, 4⟩), (committing [(Reg.ANT_GAIN 0, [0xFF#8, 0x7F#8])]), by decide +kernel⟩,
   ⟨(committing []), by decide +kernel⟩,
   ⟨.staged, ([(Reg.ANT_GAIN 0, [5#8, 0#8])]), applying, by decide +kernel⟩,
   ⟨([0x53#8, 0xFF#8, 0x43#8]), storing, by decide +kernel⟩,
   ⟨([0x53#8, 0xFF#8, 0x43#8]), storing, by decide +kernel⟩,
   ⟨.spt, ({ live .run [] with cfg := { State.reset.cfg with image := [1#8] } }), by decide +kernel⟩,
   ⟨.can, [2#8], ({ live .run [] with cfg := { State.reset.cfg with image := [1#8] } }), by decide +kernel⟩⟩

theorem test_hyps_SynthesiserLockAndUnlock :
    (∃ (q : Fin 4) (s : State), (s.get (Reg.QUAD_STATE q) = 2) ∧ ((s.quad q).want ≠ 0) ∧ ((s.quad q).calibrating = false) ∧ (s.sys.refLost = false) ∧ (s.testC = none) ∧ (s.val.running = [])) ∧
    (∃ (q : Fin 4) (s : State), (s.get (Reg.QUAD_STATE q) = 2) ∧ ((s.quad q).want ≠ 0) ∧ ((s.quad q).calibrating = false) ∧ (s.sys.refLost = false) ∧ (s.testC = none) ∧ (s.val.running = [])) ∧
    (∃ (q : Fin 4) (s : State), ((s.get (Reg.QUAD_STATE q) = 3 ∨ s.get (Reg.QUAD_STATE q) = 4)) ∧ (s.quadDrone q = false)) ∧
    (∃ (q : Fin 4) (s : State), ((s.get (Reg.QUAD_STATE q) = 3 ∨ s.get (Reg.QUAD_STATE q) = 4)) ∧ (s.quadDrone q = false) ∧ (s.testC = none) ∧ (s.val.running = [])) ∧
    (∃ (q : Fin 4) (x : TestC) (s : State), ((s.get (Reg.QUAD_STATE q) = 3 ∨ s.get (Reg.QUAD_STATE q) = 4)) ∧ (s.quadDrone q = false) ∧ (s.testC = some x) ∧ (x.quads.testBit q = true)) ∧
    (∃ (q : Fin 4) (s : State), ((s.quad q).held ≠ none) ∧ (s.testC = none) ∧ (s.val.running = []) ∧ (s.get (Reg.QUAD_STATE q) ≠ 2)) := 
  ⟨⟨1, (retuning 1), by decide +kernel⟩,
   ⟨1, ({ retuning 1 with val := { State.reset.val with running := [] } }), by decide +kernel⟩,
   ⟨3, (live .ready [(Reg.QUAD_STATE 3, 3)]), by decide +kernel⟩,
   ⟨3, (live .ready [(Reg.QUAD_STATE 3, 3)]), by decide +kernel⟩,
   ⟨0, (⟨1, 0, true⟩), ({ live .test [(Reg.QUAD_STATE 0, 3)] with testC := some ⟨1, 0, true⟩ }), by decide +kernel⟩,
   ⟨0, holding, by decide +kernel⟩⟩

theorem test_hyps_DroneRampsAndPaFaults :
    (∃ (c : Fin 16) (s : State), (s.get (Reg.CHAIN_STATE c) = 1) ∧ (s.testC = none)) ∧
    (∃ (c : Fin 16) (s : State), (s.get (Reg.CHAIN_STATE c) = 3)) ∧
    (∃ (c : Fin 16) (s : State), (c.val < 4 * Variant.quads s.variant) ∧ (s.hasDrone c = true)) ∧
    (∃ (q : Fin 4) (s : State), (s.get (Reg.QUAD_STATE q) = 5) ∧ (s.get (Reg.QUAD_OUT_CAUSE q) = 4) ∧ ((s.hub q).width = 0)) := 
  ⟨⟨15, (live .run [(Reg.CHAIN_STATE 15, 1)]), by decide +kernel⟩,
   ⟨0, (live .run [(Reg.CHAIN_STATE 0, 3)]), by decide +kernel⟩,
   ⟨5, (live .run [(Reg.CHAIN_STATE 5, 2)]), by decide +kernel⟩,
   ⟨2, (live .hold [(Reg.QUAD_STATE 2, 5), (Reg.QUAD_OUT_CAUSE 2, 4), (Reg.CHAIN_FAULT 8, 32)]), by decide +kernel⟩⟩

theorem test_hyps_ReedFollowsItsWeights :
    (∃ (beam : Fin 4) (weights : List ReedRes) (r : Running) (s : State), (s.running beam = some r) ∧ (r.toned = true) ∧ ((∀ c ∈ s.rxChains r.d, ∃ w ∈ weights, w.chain.val = c ∧ s.get (Reg.CHAIN_STATE c) = 2)) ∧ ((∀ w ∈ weights, -512 < w.wi ∧ w.wi < 511 ∧ -512 < w.wq ∧ w.wq < 511))) ∧
    (∃ (beam : Fin 4) (w : ReedRes) (r : Running) (s : State), (s.running beam = some r) ∧ (w.chain.val ∈ s.rxChains r.d) ∧ (s.get (Reg.CHAIN_STATE w.chain) = 2)) ∧
    (∃ (c : Fin 16) (l : Nat) (r : Running) (s : State), (s.leaderOf (c.val / 4) = some l) ∧ (s.running l = some r) ∧ (r.ready = false) ∧ (s.hasDrone c = true) ∧ ((s.chain c).excluded = false) ∧ ((s.chain c).conv = false)) ∧
    (∃ (c : Fin 16) (s : State), (s.get (Reg.CHAIN_STATE c) = 2) ∧ ((s.chain c).excluded = true)) ∧
    (∃ (c : Fin 16) (s : State), (s.hasDrone c = true)) := 
  ⟨⟨0, ([⟨0, 510, -511⟩]), oneChain, converging, by decide +kernel⟩,
   ⟨0, (⟨0, 511, -7⟩), oneChain, converging, by decide +kernel⟩,
   ⟨0, 0, oneChain, converging, by decide +kernel⟩,
   ⟨9, ({ live .run [(Reg.CHAIN_STATE 9, 2)] with chains := [(9, { (default : Chain) with excluded := true })] }), by decide +kernel⟩,
   ⟨1, (live .run [(Reg.CHAIN_STATE 1, 2)]), by decide +kernel⟩⟩

theorem test_hyps_ReceiversCalibrationsAndSweeps :
    (∃ (c : Fin 16) (s : State), (s.leaderOf (c.val / 4) ≠ none) ∧ ((s.chain c).blocked = false)) ∧
    (∃ (c : Fin 16) (rl : Int) (s : State), (s.get (Reg.CHAIN_STATE c) = 2) ∧ (s.i16 (Reg.MISMATCH_WARN_RL c) ≤ rl) ∧ (s.i16 (Reg.MISMATCH_CUT_RL c) ≤ rl)) ∧
    (∃ (c : Fin 16) (k : Nat) (s : State), ((s.chain c).probing = some k)) ∧
    (∃ (q : Fin 4) (res : CalRes) (s : State), ((s.quad q).calibrating = true) ∧ (res.failOsc = false) ∧ (res.failFilter = false) ∧ (s.testC = none) ∧ (s.val.running = []) ∧ (s.mode = Mode.ready)) ∧
    (∃ (q : Fin 4) (res : CalRes) (s : State), ((s.quad q).calibrating = true) ∧ ((s.quad q).calRepeat = false) ∧ (res.failOsc = true)) ∧
    (∃ (q : Fin 4) (s : State), (s.get (Reg.QUAD_STATE q) = 5) ∧ (s.get (Reg.QUAD_OUT_CAUSE q) = 2) ∧ ((s.quad q).calibrating = false) ∧ (s.mode = Mode.hold)) ∧
    (∃ (q : Fin 4) (s : State), (s.get (Reg.QUAD_STATE q) = 5) ∧ (s.get (Reg.QUAD_OUT_CAUSE q) = 2) ∧ ((s.quad q).calibrating = false) ∧ (s.mode = Mode.ready) ∧ ((s.hub q).width ≠ 0) ∧ (s.sys.refLost = false)) ∧
    (∃ (l : Link) (q : Fin 4) (s : State), (Serves s l false) ∧ (q.val < Variant.quads s.variant) ∧ (s.mode = Mode.ready) ∧ ((s.hub q).width ≠ 0)) ∧
    (∃ (l : Link) (c : Fin 16) (w : Sweep) (s : State), (Serves s l false) ∧ (s.mode = Mode.ready) ∧ (c.val < 4 * Variant.quads s.variant) ∧ (s.sweep = some w) ∧ (w.only ≠ some c.val) ∧ (c.val ∉ w.queue)) ∧
    (∃ (l : Link) (c : Fin 16) (k : Nat) (rest : List Nat) (s : State), (Serves s l false) ∧ ((s.mode = Mode.ready ∨ s.mode = Mode.test)) ∧ (c.val < 4 * Variant.quads s.variant) ∧ (s.sweep = none) ∧ ((s.channels.map fun p => p.2.khz) = k :: rest) ∧ (s.sweepable c = true) ∧ (s.sweepPasses k (some c.val) = true)) ∧
    (∃ (l : Link) (c : Fin 16) (s : State), (Serves s l false) ∧ (c.val < 4 * Variant.quads s.variant) ∧ ((s.quad (c.val / 4)).railBad = false)) ∧
    (∃ (l : Link) (c : Fin 16) (s : State), (Serves s l false) ∧ (c.val < 4 * Variant.quads s.variant) ∧ ((s.quad (c.val / 4)).railBad = true)) ∧
    (∃ (w : Sweep) (k : Nat) (s : State), (s.sweep = some w) ∧ (w.left = [k]) ∧ (w.only = none) ∧ (w.queue = [])) := 
  ⟨⟨0, converging, by decide +kernel⟩,
   ⟨2, 100, (live .run [(Reg.CHAIN_STATE 2, 2)]), by decide +kernel⟩,
   ⟨4, 865700, ({ live .run [] with chains := [(4, { (default : Chain) with probing := some 865700, probes := [865700] })] }), by decide +kernel⟩,
   ⟨0, goodCal, calRunning, by decide +kernel⟩,
   ⟨0, ({ goodCal with failOsc := true }), calRunning, by decide +kernel⟩,
   ⟨1, (live .hold [(Reg.QUAD_STATE 1, 5), (Reg.QUAD_OUT_CAUSE 1, 2)]), by decide +kernel⟩,
   ⟨1, ({ live .ready [(Reg.QUAD_STATE 1, 5), (Reg.QUAD_OUT_CAUSE 1, 2)] with hubs := (linked 1).hubs }), by decide +kernel⟩,
   ⟨.spt, 0, ({ live .ready [] with hubs := (linked 1).hubs }), by decide +kernel⟩,
   ⟨.can, 2, (⟨[865700], none, false, 0, 0, []⟩), ({ live .ready [] with sweep := some ⟨[865700], none, false, 0, 0, []⟩ }), by decide +kernel⟩,
   ⟨.can, 2, 865700, ((sweeping.channels.map fun p => p.2.khz).tail), sweeping, by decide +kernel⟩,
   ⟨.twa, 15, (live .hold [(Reg.CHAIN_FAULT 15, 3), (Reg.CHAIN_STATE 15, 5)]), by decide +kernel⟩,
   ⟨.twa, 15, railed, by decide +kernel⟩,
   ⟨(⟨[865700], none, false, 0, 0, []⟩), 865700, ({ live .ready [] with sweep := some ⟨[865700], none, false, 0, 0, []⟩ }), by decide +kernel⟩⟩

theorem test_hyps_DescriptorsAndHops :
    (∃ (l : Fin 4) (d : Dwell) (s : State), (s.mode = Mode.run) ∧ (Tab.find s.val.released l = none) ∧ ((s.val.plan.find? fun x => x.leader = l.val) = some d) ∧ ((d.khz = 0 ∨ s.interlock d.khz (s.dwellLevels d) = true))) ∧
    (∃ (l : Fin 4) (k : BitVec 32) (r : Running) (rd : Round) (s : State), (s.mode = Mode.run) ∧ (s.running l = some r) ∧ (s.round l = some rd) ∧ (s.hopMay l k.toNat = true) ∧ (s.interlock k.toNat (s.dwellLevels { r.d with khz := k.toNat }) = true)) := 
  ⟨⟨0, ((default : Dwell)), ({ live .run [] with val := { State.reset.val with plan := [default] } }), by decide +kernel⟩,
   ⟨0, 865700#32, oneChain, (rnd .slot), hopping, by decide +kernel⟩⟩

theorem test_hyps_PermitsComeAndGo :
    (∃ (e : Fin 64) (ch : ChanEntry) (s : State), (s.region.entries[e.val]? = some ch) ∧ (s.mode ≠ Mode.run) ∧ (s.testC = none) ∧ (s.sweep = none) ∧ (s.val.running = []) ∧ (s.region.windowMs ≠ 0) ∧ (s.region.dwellMaxUs ≤ s.windowSum e) ∧ ((s.permit e).noDwell = false)) ∧
    (∃ (e : Fin 64) (ch : ChanEntry) (s : State), (s.region.entries[e.val]? = some ch) ∧ (s.mode ≠ Mode.run) ∧ (s.testC = none) ∧ (s.sweep = none) ∧ (s.val.running = []) ∧ (s.region.contOnMs ≠ 0) ∧ (s.region.contOnMs * 1000 ≤ (s.permit e).run) ∧ ((s.permit e).noCont = false)) ∧
    (∃ (e : Fin 64) (dwell : Bool) (ch : ChanEntry) (s : State), (s.region.entries[e.val]? = some ch) ∧ ((if dwell then 10 * s.windowSum e ≤ 9 * s.region.dwellMaxUs else s.region.offMinMs * 1000 ≤ (s.permit e).off))) := 
  ⟨⟨0, ((State.region held).entries.headD default), held, by decide +kernel⟩,
   ⟨0, ((State.region ran).entries.headD default), ran, by decide +kernel⟩,
   ⟨0, true, ((State.region (live .ready [(Reg.REGION_ID, 4)])).entries.headD default), (live .ready [(Reg.REGION_ID, 4)]), by decide +kernel⟩⟩

theorem test_hyps_RegulatoryLockSequence :
    (∃ (l : Link) (s : State), (Serves s l false) ∧ (s.get Reg.LOCK_STATE ≠ 2) ∧ ((s.mode = Mode.hold ∨ s.mode = Mode.ready)) ∧ (s.sys.firing = none) ∧ (s.get Reg.REGION_ID ≠ 0) ∧ (s.cfg.staged = []) ∧ (s.get Reg.PERSIST_STATE = 0)) ∧
    (∃ (l : Link) (v : BitVec 32) (s : State), (Serves s l false) ∧ (s.get Reg.LOCK_STATE = 1) ∧ (s.sys.firing = none) ∧ (v.toNat = s.get Reg.CONFIG_CRC)) ∧
    (∃ (l : Link) (v : BitVec 32) (s : State), (Serves s l false) ∧ (s.get Reg.LOCK_STATE = 1) ∧ (s.sys.firing = none) ∧ (v.toNat ≠ s.get Reg.CONFIG_CRC)) ∧
    (∃ (l : Link) (s : State), (s.sys.firing = some l)) ∧
    (∃ (s : State), (s.get Reg.LOCK_STATE = 1) ∧ (s.sys.firing = none)) ∧
    (∃ (l : Link) (v : BitVec 8) (s : State), (Serves s l false) ∧ ((Region.ofId v.toNat).isSome = true)) := 
  ⟨⟨.spt, (live .hold [(Reg.REGION_ID, 1)]), by decide +kernel⟩,
   ⟨.can, 7#32, (live .hold [(Reg.LOCK_STATE, 1), (Reg.CONFIG_CRC, 7)]), by decide +kernel⟩,
   ⟨.can, 6#32, (live .hold [(Reg.LOCK_STATE, 1), (Reg.CONFIG_CRC, 7)]), by decide +kernel⟩,
   ⟨.twa, ({ live .hold [] with sys := { (live .hold []).sys with firing := some .twa } }), by decide +kernel⟩,
   ⟨(live .hold [(Reg.LOCK_STATE, 1)]), by decide +kernel⟩,
   ⟨.spt, 1#8, (live .ready []), by decide +kernel⟩⟩

theorem test_hyps_SurveyCommands :
    (∃ (l : Link) (s : State), (Serves s l false) ∧ (s.mode = Mode.run) ∧ (s.arr.survey = none)) ∧
    (∃ (l : Link) (s : State), (Serves s l false) ∧ (s.arr.survey ≠ none)) ∧
    (∃ (s : State), (s.arr.survey ≠ none)) ∧
    (∃ (lane : Fin 32) (s : State), (bit (s.get Reg.LANES_RETIRED) lane = false)) ∧
    (∃ (lane : Fin 32) (s : State), (bit (s.get Reg.LANES_RETIRED) lane = false) ∧ (Tab.get s.arr.laneFails lane = 0)) ∧
    (∃ (lane : Fin 32) (s : State), (bit (s.get Reg.LANES_RETIRED) lane = false) ∧ (1 ≤ Tab.get s.arr.laneFails lane)) ∧
    (∃ (beam : Fin 4) (r0 : Read) (s : State), (Tab.find s.eng.heard beam = some r0) ∧ (s.arr.survey = none) ∧ (s.mode = Mode.run) ∧ (s.get Reg.LOC_ENABLE = 1) ∧ ((s.get Reg.TRACK_ZONE_MASK).testBit r0.zone = true)) := 
  ⟨⟨.spt, (live .run []), by decide +kernel⟩,
   ⟨.twa, surveying, by decide +kernel⟩,
   ⟨surveying, by decide +kernel⟩,
   ⟨31, (live .run []), by decide +kernel⟩,
   ⟨0, (live .run []), by decide +kernel⟩,
   ⟨7, laneFailed, by decide +kernel⟩,
   ⟨1, ((default : Read)), heardState, by decide +kernel⟩⟩

theorem test_hyps_RoundsStartAndEnd :
    (∃ (beam : Fin 4) (r : Running) (s : State), (s.running beam = some r) ∧ (s.roundMay beam r = true)) ∧
    (∃ (beam : Fin 4) (n : Round) (s : State), (s.round beam = some n) ∧ (n.stage = RoundStage.powerUp) ∧ (n.opening = [])) ∧
    (∃ (beam : Fin 4) (n : Round) (c : ReaderCmd) (rest : List ReaderCmd) (s : State), (s.round beam = some n) ∧ (n.stage = RoundStage.powerUp) ∧ (n.opening = c :: rest)) ∧
    (∃ (beam : Fin 4) (n : Round) (s : State), (s.round beam = some n) ∧ (n.stage = RoundStage.ending) ∧ (s.running beam = none)) := 
  ⟨⟨0, readyRun, roundable, by decide +kernel⟩,
   ⟨3, (rnd .powerUp), (rounding 3 .powerUp), by decide +kernel⟩,
   ⟨1, selecting, (.nak), [], ({ live .run [] with eng := { State.reset.eng with rounds := [(1, selecting)] } }), by decide +kernel⟩,
   ⟨2, (rnd .ending), (rounding 2 .ending), by decide +kernel⟩⟩

theorem test_hyps_SlotsAndAcknowledgement :
    (∃ (beam : Fin 4) (n : Round) (s : State), (s.round beam = some n) ∧ (n.stage = RoundStage.slot)) ∧
    (∃ (beam : Fin 4) (n : Round) (s : State), (s.round beam = some n) ∧ (n.stage = RoundStage.ack) ∧ (n.acks ≤ s.get (Reg.EPC_RETRIES n.prof))) ∧
    (∃ (beam : Fin 4) (n : Round) (s : State), (s.round beam = some n) ∧ (n.stage = RoundStage.turnAck)) ∧
    (∃ (beam : Fin 4) (n : Round) (s : State), (s.round beam = some n) ∧ (n.stage = RoundStage.turnSlot) ∧ (n.outcome = 1)) ∧
    (∃ (beam : Fin 4) (n : Round) (reply : EpcReply) (s : State), (s.round beam = some n) ∧ (n.stage = RoundStage.ack) ∧ (reply.crcOk = true) ∧ (reply.epc.length = 2 * (reply.pc.toNat / 2048)) ∧ (reply.challenge = none)) ∧
    (∃ (beam : Fin 4) (n : Round) (reply : EpcReply) (s : State), (s.round beam = some n) ∧ (n.stage = RoundStage.ack) ∧ ((reply.crcOk = false ∨ reply.epc.length ≠ 2 * (reply.pc.toNat / 2048))) ∧ (n.acks ≤ s.get (Reg.EPC_RETRIES n.prof))) := 
  ⟨⟨0, (rnd .slot), (rounding 0 .slot), by decide +kernel⟩,
   ⟨0, (rnd .ack), (rounding 0 .ack), by decide +kernel⟩,
   ⟨1, (rnd .turnAck), (rounding 1 .turnAck), by decide +kernel⟩,
   ⟨1, ({ rnd .turnSlot with outcome := 1 }), ({ live .run [] with eng := { State.reset.eng with rounds := [(1, { rnd .turnSlot with outcome := 1 })] } }), by decide +kernel⟩,
   ⟨0, (rnd .ack), (⟨true, 0x0800#16, 0#16, 0#16, [1#8, 2#8], none, [], []⟩), (rounding 0 .ack), by decide +kernel⟩,
   ⟨0, (rnd .ack), (⟨true, 0x3000#16, 0#16, 0#16, [1#8, 2#8], none, [], []⟩), (rounding 0 .ack), by decide +kernel⟩⟩

theorem test_hyps_AccessOperationsAndResults :
    (∃ (beam : Fin 4) (n : Round) (k : Nat) (st : OpStep) (rest : List OpStep) (s : State), (s.round beam = some n) ∧ (n.opNow = some k) ∧ ((n.steps.dropWhile fun x => !x.delayed) = st :: rest) ∧ ((if n.steps = st :: rest then n.tries else 0) < s.get (Reg.OP_RETRIES k)) ∧ (n.due = none)) ∧
    (∃ (beam : Fin 4) (n : Round) (k : Nat) (rest : List Nat) (s : State), (s.round beam = some n) ∧ (n.stage = RoundStage.access) ∧ (n.ops = k :: rest) ∧ (s.eng.results.length < 64)) ∧
    (∃ (l : Link) (slot : Fin 16) (s : State), (Serves s l false) ∧ (s.opFits slot = true) ∧ (s.get Reg.COMMIT_STATE = 0) ∧ (s.get (Reg.OP_CODE slot) ≠ 0)) ∧
    (∃ (l : Link) (s : State), (Serves s l false)) ∧
    (∃ (l : Link) (id : BitVec 32) (e : ResEntry) (rest : List ResEntry) (s : State), (Serves s l false) ∧ (s.eng.results = e :: rest) ∧ (e.id = id.toNat)) := 
  ⟨⟨0, opRound, 5, (.write 3 0 7), [], opering, by decide +kernel⟩,
   ⟨0, opRound, 5, [], opering, by decide +kernel⟩,
   ⟨.spt, 15, (live .run [(Reg.OP_CODE 15, 1), (Reg.OP_WORD_COUNT 15, 64)]), by decide +kernel⟩,
   ⟨.spt, (live .run []), by decide +kernel⟩,
   ⟨.can, 9#32, (⟨9, []⟩), [], ({ live .run [] with eng := { State.reset.eng with results := [⟨9, []⟩] } }), by decide +kernel⟩⟩

theorem test_hyps_ReadsAreLocatedAndTracked :
    (∃ (r : Read) (s : State), (s.rep.reads = [r])) ∧
    (∃ (r : Read) (x : Loc) (k : Track) (s : State), (s.rep.joins = [(r, x)]) ∧ (bit r.tag 31 = false) ∧ (s.trk.tracks = [k]) ∧ (k.tag = r.tag)) ∧
    (∃ (tag : BitVec 32) (k : Track) (s : State), (k ∈ s.trk.tracks) ∧ (k.tag = tag.toNat)) ∧
    (∃ (i : Ival) (rest : List Ival) (s : State), (s.trk.ivals = i :: rest) ∧ (i.stop + (s.get Reg.CLOSE_GAP_MS + 10) * 40000 ≤ s.tim.now) ∧ ((rest.getLast?.any fun x => decide (s.tim.now < x.stop)) = true)) := 
  ⟨⟨((default : Read)), ({ live .run [] with rep := { State.reset.rep with reads := [default] } }), by decide +kernel⟩,
   ⟨((default : Read)), ((default : Loc)), oneTrack, tracking, by decide +kernel⟩,
   ⟨0#32, oneTrack, tracking, by decide +kernel⟩,
   ⟨((default : Ival)), [{ (default : Ival) with stop := 2000000 }], ({ live .run [(Reg.CLOSE_GAP_MS, 0)] with tim := { State.reset.tim with now := 400000 }, trk := { State.reset.trk with ivals := [default, { (default : Ival) with stop := 2000000 }] } }), by decide +kernel⟩⟩

theorem test_hyps_LocationFlagsAreTrue :
    (bit ((live .run roadRegs).locate roadRead).flags 4 = true) ∧
    (bit ((live .run roadRegs).locate roadRead).flags 5 = true) ∧
    (bit (State.reset.locate roadRead).flags 5 = false) := 
  ⟨by decide +kernel,
   by decide +kernel,
   by decide +kernel⟩

theorem test_hyps_PlansAndDwells :
    (∃ (s : State), (s.mode = Mode.run)) ∧
    (∃ (s : State), (s.mode ≠ Mode.run)) ∧
    (∃ (mw : BitVec 16) (s : State), (s.mode = Mode.run) ∧ (105 * s.get Reg.BUDGET_MW < 100 * mw.toNat)) ∧
    (∃ (l : Fin 4) (d : Dwell) (s : State), (Tab.find s.val.released l = some d) ∧ (s.mode = Mode.run) ∧ (s.sys.trans = none) ∧ (s.sweep = none) ∧ (d.leader = l.val) ∧ (d.gang = 2 ^ l.val) ∧ ((∀ p ∈ s.val.running, s.coexist d p.2.d = true)) ∧ ((s.quad l).offered = false) ∧ (d.khz ≠ 0) ∧ (d.zone < 32) ∧ (s.leaderOf l = none) ∧ (s.quadIn l = true) ∧ ((s.quad l).calDue = false) ∧ ((s.quad l).calibrating = false) ∧ (s.get (Reg.SYNTH_FREQ_KHZ l) ≠ d.khz)) ∧
    (∃ (l : Fin 4) (r : Running) (s : State), (s.running l = some r) ∧ (s.round l = none)) ∧
    (∃ (l : Fin 4) (r : Running) (n : Round) (s : State), (s.running l = some r) ∧ (s.round l = some n) ∧ (s.tim.now - r.at_ < s.get Reg.DWELL_MAX_MS * 40000)) := 
  ⟨⟨(live .run []), by decide +kernel⟩,
   ⟨(live .ready []), by decide +kernel⟩,
   ⟨4000#16, (live .run []), by decide +kernel⟩,
   ⟨0, ({ (default : Dwell) with khz := 865700, gang := 1 }), ({ live .run [] with val := { State.reset.val with released := [(0, { (default : Dwell) with khz := 865700, gang := 1 })] } }), by decide +kernel⟩,
   ⟨0, oneChain, converging, by decide +kernel⟩,
   ⟨0, oneChain, (rnd .slot), hopping, by decide +kernel⟩⟩

theorem test_hyps_PacketsCloseAndWindowsEnd :
    (∃ (i : Fin 3) (kind : Fin 5) (p : OpenPkt) (s : State), (Tab.find (s.stream i).opens kind = some p) ∧ ((kind = 4 ∨ Tab.find (s.stream i).opens 4 = none)) ∧ (s.rep.archive = [])) ∧
    (∃ (s : State), (s.mode ≠ Mode.boot)) ∧
    (∃ (l : Link) (i : Fin 3) (n : BitVec 32) (s : State), (Serves s l false) ∧ (s.get (Reg.CREDITS i) + n.toNat ≤ 16777215) ∧ (s.get (Reg.STREAM_ENABLE i) = 1)) ∧
    (∃ (l : Link) (target : Link) (i : Fin 3) (n : BitVec 32) (s : State), (Serves s l false) ∧ (s.streamOf target = some i.val) ∧ (s.get (Reg.CREDITS i) + n.toNat ≤ 16777215)) ∧
    (∃ (l : Link) (i : Fin 3) (p : Pkt) (s : State), (Serves s l false) ∧ (s.pulls i = true) ∧ ((s.stream i).head = some p) ∧ ((s.stream i).shown = false) ∧ (p.charged = false) ∧ (p.slots ≤ s.get (Reg.CREDITS i))) ∧
    (∃ (l : Link) (i : Fin 3) (p : Pkt) (rest : List Pkt) (s : State), (Serves s l false) ∧ (s.pulls i = true) ∧ ((s.stream i).replay = []) ∧ ((s.stream i).queue = p :: rest) ∧ ((s.stream i).shown = true) ∧ (p.seq < 2 ^ 32)) ∧
    (∃ (l : Link) (s : State), (Serves s l false)) := 
  ⟨⟨1, 0, ((default : OpenPkt)), packing, by decide +kernel⟩,
   ⟨(live .run []), by decide +kernel⟩,
   ⟨.can, 2, 16777215#32, (live .run [(Reg.STREAM_ENABLE 2, 1)]), by decide +kernel⟩,
   ⟨.spt, .spt, 0, 5#32, (live .run [(Reg.STREAM_ENABLE 0, 1), (Reg.STREAM_LINK 0, 1)]), by decide +kernel⟩,
   ⟨.spt, 0, ((default : Pkt)), queued, by decide +kernel⟩,
   ⟨.twa, 0, ((default : Pkt)), [], shownPkt, by decide +kernel⟩,
   ⟨.can, (live .ready [(Reg.WM_LATCHED 1, 1)]), by decide +kernel⟩⟩

theorem test_hyps_HotRingMarksAndRewinds :
    (∃ (l : Link) (p : HotRec) (s : State), (Serves s l false) ∧ (s.get Reg.HOT_OLDEST ≤ s.get Reg.HOT_CURSOR) ∧ ((s.hotFrom (s.get Reg.HOT_CURSOR)).getLast? = some p)) ∧
    (∃ (l : Link) (n : BitVec 8) (s : State), (Serves s l false) ∧ (n.toNat ≤ 7)) ∧
    (∃ (l : Link) (n : BitVec 8) (s : State), (Serves s l false) ∧ (n.toNat ≤ 7)) ∧
    (∃ (l : Link) (i : Fin 3) (n : BitVec 8) (s : State), (Serves s l false) ∧ (n.toNat ≤ 7) ∧ (bit (s.get (Reg.MARK_VALID i)) n.toNat = true) ∧ (bit (s.get (Reg.MARK_LOST i)) n.toNat = false) ∧ (s.get (Reg.REWIND_ACTIVE i) ≠ 1)) ∧
    (∃ (i : Fin 3) (s : State), (s.get (Reg.REWIND_ACTIVE i) = 1) ∧ ((s.stream i).replay = [])) := 
  ⟨⟨.spt, (⟨7, 0, [1#8]⟩), ({ live .run [] with rep := { State.reset.rep with hot := [⟨7, 0, [1#8]⟩] } }), by decide +kernel⟩,
   ⟨.spt, 7#8, (live .run []), by decide +kernel⟩,
   ⟨.twa, 0#8, (live .run [(Reg.MARK_VALID 0, 1)]), by decide +kernel⟩,
   ⟨.can, 1, 7#8, (live .ready [(Reg.MARK_VALID 1, 128)]), by decide +kernel⟩,
   ⟨0, (live .ready [(Reg.REWIND_ACTIVE 0, 1)]), by decide +kernel⟩⟩

theorem test_hyps_StoreScrubAndRepair :
    (∃ (s : State), (s.mode ≠ Mode.boot) ∧ (s.mode ≠ Mode.watch)) ∧
    (∃ (line : BitVec 32) (bytes : List (Fin 132 × Byte)) (one : Nat × Nat) (s : State), (s.mode ≠ Mode.boot) ∧ (s.mode ≠ Mode.watch) ∧ (Variant.big s.variant = true) ∧ (line.toNat < 8 * 1048576) ∧ (s.lineHeld 2 line.toNat = true) ∧ (lineDecode bytes = some [one]) ∧ (s.latched 60 = false)) ∧
    (∃ (line : BitVec 32) (bytes : List (Fin 132 × Byte)) (s : State), (s.mode ≠ Mode.boot) ∧ (s.mode ≠ Mode.watch) ∧ (Variant.big s.variant = true) ∧ (line.toNat < 8 * 1048576) ∧ (s.lineHeld 2 line.toNat = true) ∧ (lineDecode bytes = none) ∧ (s.sparesLeft ≠ 0)) ∧
    (∃ (row : Nat) (rest : List Nat) (s : State), (s.mem.due = row :: rest)) ∧
    (∃ (s : State), (s.get Reg.REPAIR_MAP_STATE = 1)) ∧
    (∃ (s : State), (Variant.big s.variant = true)) := 
  ⟨⟨(live .ready []), by decide +kernel⟩,
   ⟨8388607#32, ([(131, 0x80#8)]), (131, 128), ({ live .run [] with rep := { State.reset.rep with dictNext := 16777215 } }), by decide +kernel⟩,
   ⟨0#32, ([(0, 1#8), (1, 1#8), (2, 2#8)]), ({ spared with rep := { State.reset.rep with dictNext := 1 } }), by decide +kernel⟩,
   ⟨4, [], ({ live .run [] with mem := ⟨[4], [], [], [], []⟩ }), by decide +kernel⟩,
   ⟨(live .run [(Reg.REPAIR_MAP_STATE, 1)]), by decide +kernel⟩,
   ⟨(live .run []), by decide +kernel⟩⟩

theorem test_hyps_HfOperationsStart :
    (∃ (l : Link) (s : State), (Serves s l false) ∧ (Variant.hx s.variant = true) ∧ ((s.mode = Mode.ready ∨ s.mode = Mode.run)) ∧ (s.get Reg.COMMIT_STATE = 0) ∧ (s.get Reg.HF_ENABLE = 1) ∧ (s.get Reg.HF_STATE ≠ 5) ∧ (s.hf.op = none)) ∧
    (∃ (l : Link) (s : State), (Serves s l false) ∧ (Variant.hx s.variant = true) ∧ ((s.mode = Mode.ready ∨ s.mode = Mode.run)) ∧ (s.get Reg.COMMIT_STATE = 0) ∧ (s.get Reg.HF_ENABLE = 1) ∧ (s.get Reg.HF_STATE ≠ 5) ∧ (s.hf.op = none) ∧ (s.get Reg.HF_OP_ARG ≤ 7) ∧ (s.get Reg.HF_OP_ARG < s.get Reg.HF_CARD_COUNT)) ∧
    (∃ (l : Link) (n : Nat) (s : State), (Serves s l false) ∧ (Variant.hx s.variant = true) ∧ ((s.mode = Mode.ready ∨ s.mode = Mode.run)) ∧ (s.get Reg.COMMIT_STATE = 0) ∧ (s.get Reg.HF_ENABLE = 1) ∧ (s.get Reg.HF_STATE ≠ 5) ∧ (s.hf.op = none) ∧ (s.get Reg.HF_OP_ARG ≤ 7) ∧ (s.dom Reg.HF_CMD_DATA ≠ []) ∧ (s.hf.active = some n) ∧ ((bit (s.get Reg.HF_OP_ARG) 0 = true ∨ s.isoDep n = true))) ∧
    (∃ (l : Link) (s : State), (Serves s l false) ∧ (Variant.hx s.variant = true) ∧ ((s.mode = Mode.ready ∨ s.mode = Mode.run)) ∧ (s.get Reg.COMMIT_STATE = 0) ∧ (s.get Reg.HF_ENABLE = 1) ∧ (s.get Reg.HF_STATE ≠ 5) ∧ (s.hf.op = none) ∧ (s.hf.session = true) ∧ (s.hf.active = none)) ∧
    (∃ (l : Link) (c : Nat × Nat) (s : State), (Serves s l false) ∧ (Variant.hx s.variant = true) ∧ ((s.mode = Mode.ready ∨ s.mode = Mode.run)) ∧ (s.get Reg.COMMIT_STATE = 0) ∧ (s.get Reg.HF_ENABLE = 1) ∧ (s.get Reg.HF_STATE ≠ 5) ∧ (s.hf.op = some c)) := 
  ⟨⟨.spt, hfLive, by decide +kernel⟩,
   ⟨.twa, hfCards, by decide +kernel⟩,
   ⟨.spt, 0, hfActive, by decide +kernel⟩,
   ⟨.can, hfSession, by decide +kernel⟩,
   ⟨.spt, ((2, 0)), (hfRunning 2), by decide +kernel⟩⟩

theorem test_hyps_HfFramesAndEnds :
    (∃ (code : Nat) (s : State), (s.hfBusy = some code) ∧ (code ≠ 3)) ∧
    (∃ (code : Nat) (s : State), (s.hfBusy = some code)) ∧
    (∃ (code : Nat) (s : State), (s.hfBusy = some code) ∧ (s.hf.resent < s.get Reg.HF_RETRIES)) ∧
    (∃ (rsp : Bytes) (s : State), (s.hfBusy = some 3) ∧ (rsp.length ≤ 1024)) ∧
    (∃ (cards : List Bytes) (s : State), (s.hfBusy = some 1) ∧ (cards ≠ [])) ∧
    (∃ (s : State), (s.hf.session = true) ∧ (s.hf.op = none)) ∧
    (∃ (s : State), (s.hf.guarding = true) ∧ (s.hf.step ≠ BreathStep.confirming false)) ∧
    (∃ (s : State), (s.val.hfWaits = true) ∧ (s.mode = Mode.run)) := 
  ⟨⟨2, (hfRunning 2), by decide +kernel⟩,
   ⟨3, (hfRunning 3), by decide +kernel⟩,
   ⟨2, (hfRunning 2), by decide +kernel⟩,
   ⟨([0x90#8, 0#8]), (hfRunning 3), by decide +kernel⟩,
   ⟨[[1#8]], (hfRunning 1), by decide +kernel⟩,
   ⟨hfSession, by decide +kernel⟩,
   ⟨({ hfLive with hf := { hfLive.hf with guarding := true } }), by decide +kernel⟩,
   ⟨({ live .run [] with val := { State.reset.val with hfWaits := true } }), by decide +kernel⟩⟩

theorem test_hyps_SlideAndHfFaults :
    (∃ (phase : Int) (z : BitVec 16) (s : State), (s.hf.fieldAt ≠ none) ∧ (s.hf.calRuns = false) ∧ (s.mode ≠ Mode.watch) ∧ (s.get Reg.HF_STATE ≠ 5) ∧ (s.get Reg.SLIDE_Z_CUT_LOW ≤ z.toNat) ∧ (z.toNat ≤ s.get Reg.SLIDE_Z_CUT_HIGH) ∧ ((phase.natAbs : Int) ≤ s.i16 Reg.SLIDE_PHASE_WARN)) ∧
    (∃ (s : State), (Variant.hx s.variant = true) ∧ (s.get Reg.HF_STATE ≠ 5)) ∧
    (∃ (l : Link) (s : State), (Serves s l false) ∧ (Variant.hx s.variant = true) ∧ (s.get Reg.HF_STATE = 5) ∧ (s.get Reg.HF_OUT_CAUSE = 3)) ∧
    (∃ (s : State), (Variant.hx s.variant = true) ∧ (s.get Reg.HF_STATE ≠ 5) ∧ (s.hf.unlocks = [])) ∧
    (∃ (s : State), (s.get Reg.HF_STATE = 5) ∧ (s.get Reg.HF_OUT_CAUSE = 1)) ∧
    (∃ (s : State), (s.get Reg.HF_STATE = 5) ∧ (s.get Reg.HF_OUT_CAUSE = 4) ∧ (s.get Reg.HF_ENABLE = 1) ∧ ((s.mode = Mode.ready ∨ s.mode = Mode.run))) ∧
    (∃ (l : Link) (s : State), (Serves s l false) ∧ (Variant.hx s.variant = true) ∧ ((s.mode = Mode.ready ∨ s.mode = Mode.run)) ∧ (s.hf.session = false) ∧ (s.hf.calRuns = false) ∧ (s.get Reg.HF_STATE ≠ 5) ∧ (s.get Reg.HF_ENABLE = 1)) ∧
    (∃ (phase : Int) (z : BitVec 16) (s : State), (s.hf.calRuns = true) ∧ (s.hf.op = none) ∧ (s.hf.test = false) ∧ (s.get Reg.HF_STATE ≠ 5) ∧ (s.get Reg.SLIDE_Z_CUT_LOW ≤ z.toNat) ∧ (z.toNat ≤ s.get Reg.SLIDE_Z_CUT_HIGH) ∧ (((toInt 16 (ofInt 16 phase)).natAbs : Int) ≤ s.i16 Reg.SLIDE_PHASE_WARN)) ∧
    (∃ (s : State), (s.hf.calRuns = true)) := 
  ⟨⟨-100, 50#16, fieldUp, by decide +kernel⟩,
   ⟨hfLive, by decide +kernel⟩,
   ⟨.spt, (live .ready [(Reg.HF_STATE, 5), (Reg.HF_OUT_CAUSE, 3)]), by decide +kernel⟩,
   ⟨hfLive, by decide +kernel⟩,
   ⟨(live .ready [(Reg.HF_STATE, 5), (Reg.HF_OUT_CAUSE, 1)]), by decide +kernel⟩,
   ⟨(live .ready [(Reg.HF_STATE, 5), (Reg.HF_OUT_CAUSE, 4)]), by decide +kernel⟩,
   ⟨.twa, hfLive, by decide +kernel⟩,
   ⟨45, 50#16, slideRuns, by decide +kernel⟩,
   ⟨slideRuns, by decide +kernel⟩⟩

theorem test_hyps_BreathDetection :
    (∃ (s : State), (s.mode = Mode.watch) ∧ (s.get Reg.BREATH_STATE = 2) ∧ (s.hf.step = BreathStep.idle)) ∧
    (∃ (amp : Int) (phase : Int) (s : State), (s.mode = Mode.watch) ∧ (s.hf.step = BreathStep.second) ∧ (s.triggers amp phase = true) ∧ (s.get Reg.BREATH_CONFIRM_TECH ≠ 0)) ∧
    (∃ (s : State), (s.hf.step = BreathStep.confirming false)) ∧
    (∃ (b : Bool) (s : State), (s.hf.step = BreathStep.confirming b)) ∧
    (∃ (b : Bool) (s : State), (s.hf.step = BreathStep.confirming b)) ∧
    (∃ (s : State), (s.mode = Mode.watch) ∧ (s.get Reg.BREATH_STATE = 1)) := 
  ⟨⟨(breathing .idle), by decide +kernel⟩,
   ⟨100, 0, (breathing .second), by decide +kernel⟩,
   ⟨(breathing (.confirming false)), by decide +kernel⟩,
   ⟨true, (breathing (.confirming true)), by decide +kernel⟩,
   ⟨true, (breathing (.confirming true)), by decide +kernel⟩,
   ⟨({ live .watch [(Reg.BREATH_STATE, 1)] with hf := State.reset.hf }), by decide +kernel⟩⟩

theorem test_hyps_ObjectWritesAndRefusals :
    (∃ (l : Link) (s : State), (Serves s l false)) ∧
    (∃ (l : Link) (index : Nat) (sub : Nat) (s : State), (Serves s l false) ∧ (s.object (index * 256 + sub % 256) = none)) ∧
    (∃ (l : Link) (index : Nat) (sub : Nat) (s : State), (Serves s l false) ∧ ((s.object (index * 256 + sub % 256)).any (fun f => decide (f.row.acc = Acc.ro ∨ f.row.acc = Acc.const)) = true)) := 
  ⟨⟨.spt, (live .hold []), by decide +kernel⟩,
   ⟨.twa, 0x1FFF, 0, (live .ready []), by decide +kernel⟩,
   ⟨.can, (Reg.MODE_CURRENT / 256), (Reg.MODE_CURRENT % 256), (live .ready []), by decide +kernel⟩⟩

theorem test_hyps_SptFramesAndOperations :
    (∃ (mosi : Bytes) (s : State), (s.sys.sptUp = true) ∧ (s.mode = Mode.ready) ∧ (mosi ≠ []) ∧ (received mosi 0 ≠ 0) ∧ (s.sptBusy = false) ∧ (s.sptError mosi = 0) ∧ (received mosi 0 ≤ 3) ∧ (s.sys.trans = none) ∧ (s.sys.resetDue = none)) ∧
    (∃ (mosi : Bytes) (s : State), (s.sys.sptUp = true) ∧ (s.mode = Mode.ready) ∧ (mosi ≠ []) ∧ (received mosi 0 ≠ 0) ∧ (s.sptBusy = false) ∧ (s.sptError mosi = 1) ∧ (s.sys.resetDue = none) ∧ (s.sys.phase = ResetPhase.released)) ∧
    (∃ (mosi : Bytes) (s : State), (s.sys.sptUp = true) ∧ (s.mode = Mode.ready) ∧ (mosi ≠ []) ∧ (received mosi 0 ≠ 0) ∧ (s.sptBusy = true)) ∧
    (∃ (s : State), (s.sys.sptUp = true) ∧ (s.sys.resetDue = none)) ∧
    (∃ (q : SptReq) (s : State), (s.sys.phase = ResetPhase.released) ∧ (s.sptOp 1 = some q) ∧ (readEntries q.body = some [(Reg.MODE_CURRENT, 0, 1)])) ∧
    (∃ (q : SptReq) (s : State), (s.sys.phase = ResetPhase.released) ∧ (s.sptOp 3 = some q) ∧ (s.mode ≠ Mode.watch) ∧ (q.body = leBytes 2 (Reg.MODE_CURRENT / 256) ++ leBytes 1 (Reg.MODE_CURRENT % 256) ++ [0#8, 1#8, 0#8])) ∧
    (∃ (q : SptReq) (v : BitVec 64) (s : State), (s.sys.phase = ResetPhase.released) ∧ (s.sptOp 2 = some q) ∧ (s.mode ≠ Mode.watch) ∧ (s.mode ≠ Mode.boot) ∧ (s.sys.firing = none) ∧ (writeEntries 64 q.body = some [(Reg.HOT_CURSOR, leBytes 8 v.toNat)])) := 
  ⟨⟨readFrame, (live .ready []), by decide +kernel⟩,
   ⟨(readFrame.set 9 0xFF#8), (live .ready []), by decide +kernel⟩,
   ⟨[1#8], (sptRuns 1 []), by decide +kernel⟩,
   ⟨(live .ready []), by decide +kernel⟩,
   ⟨(⟨1, 9, readBody, 0, 0⟩), (sptRuns 1 readBody), by decide +kernel⟩,
   ⟨(⟨3, 9, blockBody, 0, 0⟩), (sptRuns 3 blockBody), by decide +kernel⟩,
   ⟨(⟨2, 9, writeBody, 0, 0⟩), 5#64, (sptRuns 2 writeBody), by decide +kernel⟩⟩

theorem test_hyps_TwaRequestsAnswer :
    (∃ (s : State), (s.sys.phase = ResetPhase.released) ∧ (s.twaDeaf true = false) ∧ ((s.mode = Mode.ready ∨ s.mode = Mode.run)) ∧ (s.sys.trans = none)) ∧
    (∃ (s : State), (s.sys.phase = ResetPhase.released) ∧ (s.twaDeaf true = false) ∧ ((s.mode = Mode.ready ∨ s.mode = Mode.run)) ∧ (s.sys.trans = none) ∧ (s.get Reg.COMMIT_STATE = 0)) ∧
    (∃ (s : State), (s.sys.phase = ResetPhase.released) ∧ (s.twaDeaf true = false) ∧ ((s.mode = Mode.ready ∨ s.mode = Mode.run)) ∧ (s.sys.trans = none)) ∧
    (∃ (s : State), (s.sys.phase = ResetPhase.released) ∧ (s.twaDeaf true = false) ∧ ((s.mode = Mode.ready ∨ s.mode = Mode.run)) ∧ (s.sys.trans = none)) ∧
    (∃ (n : BitVec 32) (i : Fin 3) (s : State), (s.sys.phase = ResetPhase.released) ∧ (s.twaDeaf true = false) ∧ ((s.mode = Mode.ready ∨ s.mode = Mode.run)) ∧ (s.sys.trans = none) ∧ (s.streamOf .twa = some i.val) ∧ (s.get (Reg.CREDITS i) + n.toNat ≤ 16777215)) ∧
    (∃ (s : State), (s.sys.phase = ResetPhase.released) ∧ (s.twaDeaf true = false) ∧ ((s.mode = Mode.ready ∨ s.mode = Mode.run)) ∧ (s.sys.trans = none)) ∧
    (∃ (n : BitVec 8) (s : State), (s.sys.phase = ResetPhase.released) ∧ (s.twaDeaf true = false) ∧ ((s.mode = Mode.ready ∨ s.mode = Mode.run)) ∧ (s.sys.trans = none) ∧ (n ≠ 0#8)) ∧
    (∃ (s : State), (s.sys.phase = ResetPhase.released) ∧ (s.twaDeaf true = false) ∧ ((s.mode = Mode.ready ∨ s.mode = Mode.run)) ∧ (s.sys.trans = none)) ∧
    (∃ (data : Bytes) (s : State), (s.sys.phase = ResetPhase.released) ∧ (s.twaDeaf true = false) ∧ ((s.mode = Mode.ready ∨ s.mode = Mode.run)) ∧ (s.sys.trans = none) ∧ (data.length ≤ 8)) ∧
    (∃ (ptr : BitVec 8) (s : State), (s.sys.phase = ResetPhase.released) ∧ (s.twaDeaf true = false) ∧ (s.mode = Mode.test) ∧ (128 ≤ ptr.toNat) ∧ (s.sys.trans = none)) ∧
    (∃ (s : State), (s.sys.phase = ResetPhase.released) ∧ (s.twaDeaf false = false) ∧ (s.io.twaWindow = false) ∧ (s.mode ≠ Mode.watch) ∧ (s.sys.trans = none) ∧ (s.sys.resetDue = none)) ∧
    (∃ (s : State), (s.sys.phase = ResetPhase.released) ∧ (s.twaDeaf true = false) ∧ (s.mode ≠ Mode.watch) ∧ (s.sys.trans = none)) ∧
    (∃ (s : State), (s.sys.phase = ResetPhase.released) ∧ (s.twaDeaf true = false) ∧ (s.mode ≠ Mode.watch) ∧ (s.sys.trans = none)) ∧
    (∃ (s : State), (s.sys.phase = ResetPhase.released)) ∧
    (∃ (s : State), (s.alertLow = true)) ∧
    (∃ (s : State), (s.alertLow = true)) ∧
    (∃ (s : State), (s.sys.twaUp = true)) := 
  ⟨⟨(live .run []), by decide +kernel⟩,
   ⟨(live .ready []), by decide +kernel⟩,
   ⟨(live .run []), by decide +kernel⟩,
   ⟨(live .run []), by decide +kernel⟩,
   ⟨3#32, 1, (live .ready [(Reg.STREAM_ENABLE 1, 1), (Reg.STREAM_LINK 1, 2)]), by decide +kernel⟩,
   ⟨(live .run []), by decide +kernel⟩,
   ⟨255#8, (live .run []), by decide +kernel⟩,
   ⟨(live .run []), by decide +kernel⟩,
   ⟨[1#8], (live .run []), by decide +kernel⟩,
   ⟨255#8, (live .test []), by decide +kernel⟩,
   ⟨(live .ready []), by decide +kernel⟩,
   ⟨(live .ready []), by decide +kernel⟩,
   ⟨(live .ready []), by decide +kernel⟩,
   ⟨(live .ready []), by decide +kernel⟩,
   ⟨(live .ready [(Reg.EVT_LATCHED, 2), (Reg.EVT_EN_ALERT, 2)]), by decide +kernel⟩,
   ⟨(live .ready [(Reg.EVT_LATCHED, 2), (Reg.EVT_EN_ALERT, 2)]), by decide +kernel⟩,
   ⟨(live .ready []), by decide +kernel⟩⟩

theorem test_hyps_NmtCommandsAndHeartbeat :
    (∃ (s : State), (s.sys.canUp = true) ∧ (s.mode ≠ Mode.watch) ∧ (s.sys.trans = none)) ∧
    (∃ (s : State), (s.sys.canUp = true) ∧ (s.mode ≠ Mode.watch) ∧ (s.sys.trans = none)) ∧
    (∃ (s : State), (s.sys.canUp = true) ∧ (s.mode ≠ Mode.watch) ∧ (s.sys.trans = none)) ∧
    (∃ (s : State), (s.sys.canUp = true) ∧ (s.mode ≠ Mode.watch) ∧ (s.sys.trans = none)) ∧
    (∃ (s : State), (s.sys.canUp = true) ∧ (s.mode ≠ Mode.watch) ∧ (s.sys.trans = none)) ∧
    (∃ (s : State), (s.sys.canUp = true) ∧ (s.canLive = true) ∧ (s.mode ≠ Mode.boot) ∧ (s.get Reg.HEARTBEAT_TIME ≠ 0)) ∧
    (∃ (c : Fin 2) (s : State), (s.get (canState c) = 1) ∧ (bit s.io.passive c = false)) ∧
    (∃ (c : Fin 2) (s : State), (s.get (canState c) = 1) ∧ (bit s.io.passive c = true)) ∧
    (∃ (c : Fin 2) (s : State), (s.get (canState c) = 2)) ∧
    (∃ (c : Fin 2) (s : State), ((s.get (canState c) = 1 ∨ s.get (canState c) = 2))) ∧
    (∃ (c : Fin 2) (s : State), (s.get (canState c) = 3)) := 
  ⟨⟨(live .ready []), by decide +kernel⟩,
   ⟨(live .ready []), by decide +kernel⟩,
   ⟨(live .ready []), by decide +kernel⟩,
   ⟨(live .run []), by decide +kernel⟩,
   ⟨(live .run []), by decide +kernel⟩,
   ⟨(live .run [(Reg.CAN0_STATE, 2), (Reg.CAN_NMT_STATE, 5), (Reg.HEARTBEAT_TIME, 100)]), by decide +kernel⟩,
   ⟨1, (live .run [(Reg.CAN1_STATE, 1)]), by decide +kernel⟩,
   ⟨0, ({ live .run [(Reg.CAN0_STATE, 1)] with io := { State.reset.io with passive := 1 } }), by decide +kernel⟩,
   ⟨0, (live .run [(Reg.CAN0_STATE, 2)]), by decide +kernel⟩,
   ⟨1, (live .run [(Reg.CAN1_STATE, 2)]), by decide +kernel⟩,
   ⟨0, (live .run [(Reg.CAN0_STATE, 3)]), by decide +kernel⟩⟩

theorem test_hyps_UsdoServesReadsAndWrites :
    (∃ (s : State), (Serves s Link.can false) ∧ (s.io.usdo = none) ∧ (s.sys.trans = none)) ∧
    (∃ (s : State), (Serves s Link.can false) ∧ (s.io.usdo = none) ∧ (s.sys.trans = none)) ∧
    (∃ (index : Nat) (sub : Nat) (s : State), (Serves s Link.can false) ∧ (s.io.usdo = none) ∧ (s.sys.trans = none) ∧ (index < 65536) ∧ (sub < 255) ∧ (s.object (index * 256 + sub) = none) ∧ (s.indexKnown (index * 256 + sub) = false)) ∧
    (∃ (x : Xfer) (s : State), (Serves s Link.can false) ∧ (s.io.usdo = some x) ∧ (s.sys.trans = none)) ∧
    (∃ (x : Xfer) (s : State), (Serves s Link.can false) ∧ (s.io.usdo = some x)) := 
  ⟨⟨(live .ready []), by decide +kernel⟩,
   ⟨(live .ready []), by decide +kernel⟩,
   ⟨0x1FFF, 254, (live .run []), by decide +kernel⟩,
   ⟨(⟨0, true, 4, []⟩), transferring, by decide +kernel⟩,
   ⟨(⟨0, true, 4, []⟩), transferring, by decide +kernel⟩⟩

theorem test_hyps_PdosTimeAndEmcy :
    (∃ (n : Fin 8) (s : State), (s.tpdoFree n = true) ∧ (s.get (Reg.TPDO_TYPE n) = 0xFF) ∧ ((s.tpdo n).frame = none) ∧ (s.get (Reg.TPDO_MAP_COUNT n) = 0)) ∧
    (∃ (n : Fin 8) (b : Bytes) (s : State), (s.tpdoFree n = true) ∧ ((s.tpdo n).frame = some b)) ∧
    (∃ (n : Fin 8) (s : State), (s.tpdoFree n = true) ∧ (s.get (Reg.TPDO_TYPE n) = 0xFF) ∧ (s.get (Reg.EVENT_TIMER n) ≠ 0) ∧ (s.get (Reg.TPDO_MAP_COUNT n) = 0)) ∧
    (∃ (s : State), (s.tpdoOn = true) ∧ ((∀ n : Fin 8, n ≠ 0 → s.get (Reg.TPDO_TYPE n) = 1 ∧ bit (s.get (Reg.TPDO_COB_ID n)) 31 = false ∧ s.get (Reg.TPDO_MAP_COUNT n) = 0))) ∧
    (∃ (n : Fin 4) (s : State), (s.pdoOn = true) ∧ (s.linkUp Link.can = true) ∧ (s.mode ≠ Mode.watch) ∧ (s.sys.trans = none) ∧ ((s.sys.resetDue.any fun d => d.1 = Link.can) = false) ∧ (bit (s.get (Reg.RPDO_COB_ID n)) 31 = false) ∧ (s.mapping (Reg.RPDO_MAP_COUNT n) (Reg.RPDO_MAP n) = [(Reg.HOT_CURSOR, 8)])) ∧
    (∃ (ms : BitVec 28) (s : State), (s.linkUp Link.can = true) ∧ (bit (s.get Reg.COB_ID_TIME) 31 = true) ∧ (s.get Reg.DISC_SOURCE = 1) ∧ (s.sys.timeOn = true) ∧ (s.tim.fixed = false) ∧ (ms.toNat < 86400000)) ∧
    (∃ (ms : BitVec 28) (s : State), (s.linkUp Link.can = true) ∧ (bit (s.get Reg.COB_ID_TIME) 31 = true) ∧ (s.get Reg.DISC_SOURCE = 1) ∧ (s.sys.timeOn = true) ∧ (86400000 ≤ ms.toNat)) ∧
    (∃ (i : Nat) (p : Pkt) (s : State), (s.pushStream = some i) ∧ ((s.stream i).head = some p) ∧ ((s.stream i).pushing = none) ∧ (p.slots ≤ s.get (Reg.CREDITS i)) ∧ (p.charged = false)) ∧
    (∃ (i : Nat) (p : Pkt) (s : State), (s.pushStream = some i) ∧ ((s.stream i).head = some p) ∧ ((s.stream i).replay = []) ∧ ((s.stream i).pushing = some (p, []))) ∧
    (∃ (e : Emcy) (r : List Emcy) (s : State), (s.ev.emcy = e :: r) ∧ (s.linkUp Link.can = true) ∧ (s.mode ≠ Mode.boot) ∧ (bit (s.get Reg.COB_ID_EMCY) 31 = false) ∧ (s.canLive = true) ∧ (s.emcyFree = true)) := 
  ⟨⟨7, (operational [(Reg.TPDO_COB_ID 7, 0x480), (Reg.TPDO_TYPE 7, 0xFF), (Reg.TPDO_MAP_COUNT 7, 0)]), by decide +kernel⟩,
   ⟨1, [1#8], framed, by decide +kernel⟩,
   ⟨2, (operational [(Reg.TPDO_COB_ID 2, 0x480), (Reg.TPDO_TYPE 2, 0xFF), (Reg.TPDO_MAP_COUNT 2, 0), (Reg.EVENT_TIMER 2, 5)]), by decide +kernel⟩,
   ⟨synced, by decide +kernel⟩,
   ⟨3, (operational [(Reg.RPDO_COB_ID 3, 0x500), (Reg.RPDO_MAP_COUNT 3, 1), (Reg.RPDO_MAP 3 0, Reg.HOT_CURSOR * 256 + 64)]), by decide +kernel⟩,
   ⟨86399999#28, (live .run [(Reg.COB_ID_TIME, 0x80000100), (Reg.DISC_SOURCE, 1)]), by decide +kernel⟩,
   ⟨86400000#28, (live .run [(Reg.COB_ID_TIME, 0x80000100), (Reg.DISC_SOURCE, 1)]), by decide +kernel⟩,
   ⟨2, ((default : Pkt)), (pushing none), by decide +kernel⟩,
   ⟨2, ((default : Pkt)), (pushing (some (default, []))), by decide +kernel⟩,
   ⟨(⟨0xFF09, 1, 2, 9, 80000⟩), [], alarmed, by decide +kernel⟩⟩

theorem test_hyps_SpcOperationsQueue :
    (∃ (l : Link) (s : State), (Serves s l false) ∧ (s.get Reg.SPC_OP_STATE ≠ 1) ∧ (s.get Reg.SPC_OP_STATE ≠ 2) ∧ (s.get Reg.SPC_OP_FLASH < s.brd.inForce.count) ∧ (s.get (Reg.FLASH_STATE (s.get Reg.SPC_OP_FLASH)) = 1) ∧ (1 ≤ s.get Reg.SPC_OP_LEN) ∧ (s.get Reg.SPC_OP_LEN ≤ 256) ∧ (s.get Reg.SPC_OP_ADDRESS + s.get Reg.SPC_OP_LEN ≤ s.flashSize (s.get Reg.SPC_OP_FLASH))) ∧
    (∃ (l : Link) (s : State), (Serves s l false) ∧ (s.get Reg.SPC_OP_STATE ≠ 1) ∧ (s.get Reg.SPC_OP_STATE ≠ 2) ∧ (s.get Reg.SPC_OP_FLASH < s.brd.inForce.count) ∧ (s.get (Reg.FLASH_STATE (s.get Reg.SPC_OP_FLASH)) = 1) ∧ ((0 < s.get Reg.SPC_OP_FLASH ∨ 0x1000000 ≤ s.get Reg.SPC_OP_ADDRESS)) ∧ (1 ≤ s.get Reg.SPC_OP_LEN) ∧ (s.get Reg.SPC_OP_ADDRESS % 256 + s.get Reg.SPC_OP_LEN ≤ 256) ∧ ((s.dom Reg.SPC_OP_DATA).length = s.get Reg.SPC_OP_LEN) ∧ (s.get Reg.SPC_OP_ADDRESS + s.get Reg.SPC_OP_LEN ≤ s.flashSize (s.get Reg.SPC_OP_FLASH))) ∧
    (∃ (l : Link) (s : State), (Serves s l false) ∧ (s.get Reg.SPC_OP_STATE ≠ 1) ∧ (s.get Reg.SPC_OP_STATE ≠ 2) ∧ (s.get Reg.SPC_OP_FLASH < s.brd.inForce.count) ∧ (s.get (Reg.FLASH_STATE (s.get Reg.SPC_OP_FLASH)) = 1) ∧ ((0 < s.get Reg.SPC_OP_FLASH ∨ 0x1000000 ≤ s.get Reg.SPC_OP_ADDRESS)) ∧ (s.get Reg.SPC_OP_ADDRESS % 4096 = 0) ∧ (s.get Reg.SPC_OP_ADDRESS + 4096 ≤ s.flashSize (s.get Reg.SPC_OP_FLASH))) ∧
    (∃ (l : Link) (s : State), (Serves s l false) ∧ (s.get Reg.SPC_OP_STATE ≠ 1) ∧ (s.get Reg.SPC_OP_STATE ≠ 2) ∧ (s.get Reg.SPC_OP_FLASH < s.brd.inForce.count) ∧ (s.get (Reg.FLASH_STATE (s.get Reg.SPC_OP_FLASH)) = 1) ∧ ((0 < s.get Reg.SPC_OP_FLASH ∨ 0x1000000 ≤ s.get Reg.SPC_OP_ADDRESS)) ∧ (s.get Reg.SPC_OP_ADDRESS % 65536 = 0) ∧ (s.get Reg.SPC_OP_ADDRESS + 65536 ≤ s.flashSize (s.get Reg.SPC_OP_FLASH))) ∧
    (∃ (l : Link) (s : State), (Serves s l false) ∧ (s.get Reg.SPC_OP_STATE ≠ 1) ∧ (s.get Reg.SPC_OP_STATE ≠ 2) ∧ (s.get Reg.SPC_OP_FLASH < s.brd.inForce.count) ∧ (s.get (Reg.FLASH_STATE (s.get Reg.SPC_OP_FLASH)) = 1)) := 
  ⟨⟨.spt, (spcReady 16777215 1), by decide +kernel⟩,
   ⟨.twa, (spcReady 16777471 1), by decide +kernel⟩,
   ⟨.can, (spcReady 16777216 1), by decide +kernel⟩,
   ⟨.spt, (spcReady 16777216 1), by decide +kernel⟩,
   ⟨.spt, (spcReady 0 1), by decide +kernel⟩⟩

theorem test_hyps_FlashBytesChangeOnlyWhereWritten :
    (∃ (o : SpcOp) (s : State), (s.brd.spc = some o) ∧ (o.code = 2) ∧ (Memory.wf (s.flash o.flash) = true)) ∧
    (∃ (o : SpcOp) (s : State), (s.brd.spc = some o) ∧ ((o.code = 3 ∨ o.code = 4))) ∧
    (∃ (o : SpcOp) (s : State), (s.brd.spc = some o) ∧ (o.code = 1)) ∧
    (Memory.wf [(3, 1#8), (9, 0#8)] = true) ∧
    (Memory.wf ([] : Memory) = true) := 
  ⟨⟨(progOp 2), (spcRuns 2), by decide +kernel⟩,
   ⟨(progOp 4), (spcRuns 4), by decide +kernel⟩,
   ⟨(progOp 1), (spcRuns 1), by decide +kernel⟩,
   by decide +kernel,
   by decide +kernel⟩

theorem test_hyps_TwoWirePortAndPins :
    (∃ (l : Link) (s : State), (Serves s l false) ∧ (s.get Reg.TWB_STATE ≠ 1) ∧ (s.get Reg.TWB_STATE ≠ 3) ∧ (8 ≤ s.get Reg.TWB_ADDR) ∧ (s.get Reg.TWB_ADDR ≤ 0x77) ∧ ((s.dom Reg.TWB_WDATA ≠ [] ∨ s.get Reg.TWB_RLEN ≠ 0))) ∧
    (∃ (l : Link) (s : State), (Serves s l false) ∧ (s.get Reg.TWB_STATE ≠ 1)) ∧
    (∃ (s : State), (s.brd.twb = TwbPhase.running)) ∧
    (∃ (s : State), (s.brd.twb = TwbPhase.running)) ∧
    (∃ (s : State), (s.brd.twb = TwbPhase.running)) ∧
    (∃ (s : State), (s.brd.sclHeld = true) ∧ (s.get Reg.TWB_STATE ≠ 3)) ∧
    (∃ (s : State), (s.brd.twb = TwbPhase.running) ∧ (s.brd.twbSeen = false)) ∧
    (∃ (s : State), (s.brd.twb = TwbPhase.conflict) ∧ (s.brd.twbLeft = 0)) ∧
    (∃ (s : State), (s.brd.twb = TwbPhase.conflict) ∧ (s.brd.twbLeft ≠ 0)) ∧
    (∃ (s : State), (s.brd.twb = TwbPhase.again)) ∧
    (∃ (l : Link) (mask : BitVec 32) (s : State), (Serves s l false) ∧ (mask.toNat &&& s.gpioOwned = 0) ∧ (clrMask mask.toNat (s.get Reg.GPIO_DIR) = 0) ∧ (mask.toNat < 2 ^ 24)) ∧
    (∃ (l : Link) (mask : BitVec 32) (s : State), (Serves s l false) ∧ (mask.toNat &&& s.gpioOwned = 0) ∧ (clrMask mask.toNat (s.get Reg.GPIO_DIR) = 0) ∧ (mask.toNat < 2 ^ 24)) := 
  ⟨⟨.spt, (live .ready [(Reg.TWB_ADDR, 8), (Reg.TWB_RLEN, 1)]), by decide +kernel⟩,
   ⟨.can, (live .ready [(Reg.TWB_STATE, 3)]), by decide +kernel⟩,
   ⟨(twbRuns .running 2), by decide +kernel⟩,
   ⟨(twbRuns .running 2), by decide +kernel⟩,
   ⟨(twbRuns .running 2), by decide +kernel⟩,
   ⟨({ live .ready [] with brd := { State.reset.brd with sclHeld := true } }), by decide +kernel⟩,
   ⟨(twbRuns .running 2), by decide +kernel⟩,
   ⟨(twbRuns .conflict 0), by decide +kernel⟩,
   ⟨(twbRuns .conflict 2), by decide +kernel⟩,
   ⟨(twbRuns .again 2), by decide +kernel⟩,
   ⟨.spt, 0x800000#32, (live .ready [(Reg.GPIO_DIR, 0x800000)]), by decide +kernel⟩,
   ⟨.spt, 0x800000#32, (live .ready [(Reg.GPIO_DIR, 0x800000)]), by decide +kernel⟩⟩

theorem test_hyps_TimerRestartIsR498 :
    (∃ (l : Link) (n : Fin 16) (s : State), (Serves s l false) ∧ (s.get (Reg.TMR_OWNER n) ≠ 1)) ∧
    (∃ (l : Link) (n : Fin 16) (s : State), (Serves s l false) ∧ (s.get (Reg.TMR_OWNER n) = 1)) ∧
    (∃ (l : Link) (n : Fin 16) (v : BitVec 8) (s : State), (Serves s l false) ∧ (s.get (Reg.TMR_OWNER n) ≠ 1) ∧ (v ≠ 1#8)) := 
  ⟨⟨.spt, 15, (live .run [(Reg.TMR_COUNT 15, 7), (Reg.TMR_WRAPS 15, 9)]), by decide +kernel⟩,
   ⟨.twa, 0, (live .run [(Reg.TMR_OWNER 0, 1)]), by decide +kernel⟩,
   ⟨.can, 3, 2#8, (live .hold []), by decide +kernel⟩⟩

theorem test_hyps_TimersDisciplineAndGates :
    (∃ (n : Fin 16) (s : State), (s.counts n = true) ∧ (s.get Reg.WAKE_TIMER ≠ n) ∧ ((s.tmr n).mask = 0) ∧ ((s.tmr n).reload ≤ s.get (Reg.TMR_COUNT n)) ∧ ((s.tmr n).match_ ≠ 0)) ∧
    (∃ (n : Fin 16) (s : State), (s.counts n = true) ∧ (s.get Reg.WAKE_TIMER ≠ n) ∧ ((s.tmr n).mask = 0) ∧ (s.get (Reg.TMR_COUNT n) < (s.tmr n).reload) ∧ (s.get (Reg.TMR_COUNT n) + 1 = (s.tmr n).match_)) ∧
    (∃ (n : Fin 16) (s : State), (s.counts n = true) ∧ (s.get Reg.WAKE_TIMER ≠ n) ∧ ((s.tmr n).mask.testBit 1 = true) ∧ ((s.tmr n).reload ≤ s.get (Reg.TMR_COUNT n))) ∧
    (∃ (l : Link) (mask : BitVec 8) (s : State), (Serves s l false) ∧ (mask.toNat ≤ 3)) ∧
    (∃ (l : Link) (s : State), (Serves s l false) ∧ (s.get Reg.TMR_GROUP_BASE + s.get Reg.TMR_GROUP_N ≤ 16) ∧ ((∀ k, k < s.get Reg.TMR_GROUP_N → s.get (Reg.TMR_OWNER (s.get Reg.TMR_GROUP_BASE + k)) ≠ 1 ∧ s.tmr (s.get Reg.TMR_GROUP_BASE + k) = s.tmr (s.get Reg.TMR_GROUP_BASE)))) ∧
    (∃ (s : State), ((s.get Reg.DISC_STATE = 2 ∨ s.get Reg.DISC_STATE = 3))) ∧
    (∃ (g : Fin 8) (s : State), (s.sys.phase = ResetPhase.released) ∧ (s.sys.timeOn = true) ∧ (s.get Reg.DISC_PPS_GATE ≠ g) ∧ (s.get (Reg.GATE_LEVEL g) ≠ 1) ∧ (s.get (Reg.GATE_EDGE_EVENT g) = 0)) ∧
    (∃ (g : Fin 8) (s : State), (s.sys.phase = ResetPhase.released) ∧ (s.sys.timeOn = true) ∧ (s.get Reg.DISC_PPS_GATE ≠ g) ∧ (s.get (Reg.GATE_LEVEL g) ≠ 0) ∧ ((s.get (Reg.GATE_EDGE_EVENT g)).testBit 1 = true) ∧ (s.mode ≠ Mode.watch) ∧ (s.sys.trans = none)) := 
  ⟨⟨15, (live .run [(Reg.TMR_RELOAD 15, 9), (Reg.TMR_COUNT 15, 9), (Reg.TMR_MATCH 15, 5), (Reg.WAKE_TIMER, 0)]), by decide +kernel⟩,
   ⟨0, (live .run [(Reg.TMR_RELOAD 0, 9), (Reg.TMR_COUNT 0, 4), (Reg.TMR_MATCH 0, 5), (Reg.WAKE_TIMER, 3)]), by decide +kernel⟩,
   ⟨7, (live .hold [(Reg.TMR_RELOAD 7, 9), (Reg.TMR_COUNT 7, 10), (Reg.TMR_EVENT_MASK 7, 2), (Reg.WAKE_TIMER, 0)]), by decide +kernel⟩,
   ⟨.spt, 3#8, (live .run [(Reg.TMR_FLAGS 1, 3), (Reg.TMR_FLAGS_ALL, 15)]), by decide +kernel⟩,
   ⟨.spt, (live .run [(Reg.TMR_GROUP_BASE, 12), (Reg.TMR_GROUP_N, 4)]), by decide +kernel⟩,
   ⟨(live .run [(Reg.DISC_STATE, 3)]), by decide +kernel⟩,
   ⟨7, ({ live .run [(Reg.DISC_PPS_GATE, 0)] with tim := { State.reset.tim with now := 1000000 } }), by decide +kernel⟩,
   ⟨0, (live .run [(Reg.GATE_LEVEL 0, 1), (Reg.GATE_EDGE_EVENT 0, 2), (Reg.DISC_PPS_GATE, 3)]), by decide +kernel⟩⟩

theorem test_hyps_ScansAndSelfTests :
    (∃ (l : Link) (s : State), (Serves s l false) ∧ (s.get Reg.SCAN_STATE ≠ 1) ∧ (s.scanRefused = false) ∧ (s.get Reg.SCAN_POLY ≤ 5) ∧ (s.get Reg.SCAN_SOURCE = 0) ∧ (s.dom Reg.SCAN_DATA ≠ [])) ∧
    (∃ (l : Link) (s : State), (Serves s l false) ∧ (s.get Reg.SCAN_STATE = 1)) ∧
    (∃ (p : Poly) (s : State), (s.get Reg.SCAN_STATE = 1) ∧ (s.get Reg.SCAN_SOURCE = 0) ∧ (s.get Reg.SCAN_COMPARE = 0) ∧ (polyOf (s.get Reg.SCAN_POLY) = some p) ∧ (s.get Reg.SCAN_TAIL_BITS = 0)) ∧
    (∃ (s : State), (s.get Reg.SCAN_STATE = 1) ∧ (s.get Reg.SCAN_SOURCE = 0) ∧ (s.get Reg.SCAN_COMPARE = 1) ∧ (s.scanValue ≠ s.get Reg.SCAN_EXPECT)) ∧
    (∃ (u : Fin 4) (s : State), (s.get (Reg.CHK_UNIT_STATE u) ≠ 1) ∧ (Tab.get s.chk.streak u = 0)) ∧
    (∃ (u : Fin 4) (s : State), (s.get (Reg.CHK_UNIT_STATE u) ≠ 1) ∧ (Tab.get s.chk.streak u = 1) ∧ (u ≠ 3) ∧ (s.chk.covers = none) ∧ (s.get (Reg.CHK_UNIT_STATE 3) ≠ 1)) := 
  ⟨⟨.spt, (scanned 0 0), by decide +kernel⟩,
   ⟨.can, (scanned 1 0), by decide +kernel⟩,
   ⟨((polyOf 5).getD ⟨0, 0, 0, false, 0⟩), (scanned 1 0), by decide +kernel⟩,
   ⟨(scanned 1 1), by decide +kernel⟩,
   ⟨3, (live .run []), by decide +kernel⟩,
   ⟨2, ({ live .run [] with chk := { State.reset.chk with streak := [(2, 1)] } }), by decide +kernel⟩⟩

theorem test_hyps_MailboxCommandsEnd :
    (∃ (s : State), (s.mbxRuns 1 = true) ∧ (s.authHolds = false)) ∧
    (∃ (s : State), (s.mbxRuns 2 = true) ∧ (s.io.mbxLen ≤ 128) ∧ (s.io.mbxOffset + s.io.mbxLen ≤ 5296)) ∧
    (∃ (s : State), (s.mbxRuns 3 = true) ∧ (s.io.mbxLen ≤ 128) ∧ (s.io.mbxOffset + s.io.mbxLen ≤ 3384)) ∧
    (∃ (s : State), (s.mbxRuns 4 = true) ∧ (s.sec.verifying = none) ∧ (s.get Reg.TOKEN_STATE ≠ 1)) ∧
    (∃ (s : State), (s.mbxRuns 5 = true) ∧ (s.mbxBarred = false) ∧ (s.mode = Mode.boot) ∧ (field s.io.mbxData 0 1 ≤ 1)) ∧
    (∃ (s : State), (s.mbxRuns 6 = true) ∧ (s.mbxBarred = false) ∧ (s.io.mbxLen ≤ 128) ∧ (s.io.mbxOffset = s.get Reg.FW_LOADED_BYTES) ∧ (s.get Reg.FW_UPDATE_STATE = 2) ∧ (s.get Reg.FW_LOADED_BYTES + (s.io.mbxData.take s.io.mbxLen).length ≤ slotSize)) ∧
    (∃ (s : State), (s.mbxRuns 7 = true) ∧ (s.mbxBarred = false) ∧ (s.get Reg.FW_UPDATE_STATE = 2)) ∧
    (∃ (s : State), (s.mbxRuns 8 = true)) := 
  ⟨⟨(boxed 1 0), by decide +kernel⟩,
   ⟨(boxed 2 5168), by decide +kernel⟩,
   ⟨(boxed 3 3256), by decide +kernel⟩,
   ⟨(boxed 4 0), by decide +kernel⟩,
   ⟨({ boxed 5 0 with mode := .boot }), by decide +kernel⟩,
   ⟨({ boxed 6 0 with regs := [(Reg.SESSION_KIND, 2), (Reg.SESSION_LINK, 2), (Reg.FW_UPDATE_STATE, 2)] }), by decide +kernel⟩,
   ⟨({ boxed 7 0 with regs := [(Reg.SESSION_KIND, 2), (Reg.SESSION_LINK, 2), (Reg.FW_UPDATE_STATE, 2)] }), by decide +kernel⟩,
   ⟨(boxed 8 0), by decide +kernel⟩⟩

theorem test_hyps_FirmwareUpdatesRun :
    (∃ (l : Link) (s : State), (Serves s l false) ∧ (s.onTrial = false) ∧ (s.mode ≠ Mode.test)) ∧
    (∃ (b : Bool) (s : State), (s.sec.updating = some b) ∧ (s.get Reg.FW_UPDATE_STATE = 1)) ∧
    (∃ (l : Link) (b : Bool) (d : Bytes) (s : State), (Serves s l false) ∧ (s.sec.updating = some b) ∧ (s.get Reg.FW_UPDATE_STATE = 2) ∧ (s.get Reg.FW_LOADED_BYTES + d.length ≤ slotSize) ∧ (Memory.wf (s.flash 0) = true)) ∧
    (∃ (l : Link) (s : State), (Serves s l false) ∧ (s.get Reg.FW_UPDATE_STATE = 2)) ∧
    (∃ (l : Link) (b : Bool) (s : State), (Serves s l false) ∧ (s.sec.updating = some b)) ∧
    (∃ (digests : Bool) (sig : Bool) (ver : BitVec 32) (svn : Fin 65) (b : Bool) (s : State), (s.sec.updating = some b) ∧ (s.get Reg.FW_UPDATE_STATE = 3) ∧ (s.fwVerdict b digests sig = FwVerdict.good ver svn)) ∧
    (∃ (digests : Bool) (sig : Bool) (b : Bool) (s : State), (s.sec.updating = some b) ∧ (s.get Reg.FW_UPDATE_STATE = 3) ∧ ((fwHeadOk ((s.flash 0).readAll (slotBase b) 64) = false ∨ s.fwVerdict b digests sig = FwVerdict.check))) ∧
    (∃ (sig : Bool) (b : Bool) (s : State), (s.sec.updating = some b) ∧ (s.get Reg.FW_UPDATE_STATE = 3) ∧ (fwHeadOk ((s.flash 0).readAll (slotBase b) 64) = true) ∧ ((sig = false ∨ field ((s.flash 0).readAll (slotBase b) 64) 12 2 < s.get Reg.FW_SVN_FUSED))) ∧
    (∃ (l : Link) (s : State), (Serves s l false) ∧ ((s.mode = Mode.ready ∨ s.mode = Mode.run)) ∧ (s.onTrial = false)) ∧
    (∃ (l : Link) (s : State), (Serves s l false) ∧ ((s.mode = Mode.ready ∨ s.mode = Mode.run)) ∧ (s.onTrial = true)) ∧
    (∃ (first : Bool) (second : Bool), ((first = true ∨ second = true))) ∧
    (∃ (s : State), (s.sys.phase = ResetPhase.released)) := 
  ⟨⟨.spt, (live .run [(Reg.FW_SLOT, 1)]), by decide +kernel⟩,
   ⟨true, (updating 1), by decide +kernel⟩,
   ⟨.can, true, ([1#8, 0xFF#8]), (updating 2), by decide +kernel⟩,
   ⟨.spt, (updating 2), by decide +kernel⟩,
   ⟨.twa, true, (updating 3), by decide +kernel⟩,
   ⟨true, true, 0x01020003#32, 64, true, imaged, by decide +kernel⟩,
   ⟨true, true, true, (updating 3), by decide +kernel⟩,
   ⟨false, true, imaged, by decide +kernel⟩,
   ⟨.spt, (live .run []), by decide +kernel⟩,
   ⟨.can, trying, by decide +kernel⟩,
   ⟨false, true, by decide +kernel⟩,
   ⟨(live .run []), by decide +kernel⟩⟩

theorem test_hyps_TokensOpenSessionsAndMoveOwnership :
    (∃ (l : Link) (s : State), (Serves s l false) ∧ (s.authHolds = false)) ∧
    (∃ (l : Link) (s : State), (Serves s l false) ∧ (s.authHolds = true)) ∧
    (∃ (l : Link) (s : State), (Serves s l false) ∧ (s.get Reg.TOKEN_STATE ≠ 1)) ∧
    (∃ (l : Link) (tok : Bytes) (s : State), (s.sec.verifying = some (l, tok)) ∧ (field tok 6 1 = 1) ∧ (s.tokenCheck tok false = Result.ok)) ∧
    (∃ (l : Link) (tok : Bytes) (s : State), (s.sec.verifying = some (l, tok)) ∧ (field tok 6 1 = 2) ∧ (s.tokenCheck tok false = Result.ok) ∧ (s.mode = Mode.hold)) ∧
    (∃ (l : Link) (tok : Bytes) (s : State), (s.sec.verifying = some (l, tok)) ∧ (field tok 6 1 = 2) ∧ (s.tokenCheck tok false = Result.ok) ∧ (s.mode = Mode.ready) ∧ (s.sys.trans = none)) ∧
    (∃ (l : Link) (tok : Bytes) (s : State), (s.sec.verifying = some (l, tok)) ∧ (field tok 6 1 = 3) ∧ (s.tokenCheck tok false = Result.ok)) ∧
    (∃ (l : Link) (tok : Bytes) (s : State), (s.sec.verifying = some (l, tok)) ∧ (field tok 6 1 = 4) ∧ (s.tokenCheck tok false = Result.ok)) ∧
    (∃ (l : Link) (tok : Bytes) (s : State), (s.sec.verifying = some (l, tok)) ∧ (field tok 6 1 = 5) ∧ (s.tokenCheck tok false = Result.ok)) ∧
    (∃ (l : Link) (tok : Bytes) (s : State), (s.sec.verifying = some (l, tok)) ∧ (field tok 6 1 = 6) ∧ (s.tokenCheck tok false = Result.ok)) ∧
    (∃ (l : Link) (tok : Bytes) (badSig : Bool) (r : Result) (s : State), (s.sec.verifying = some (l, tok)) ∧ (s.tokenCheck tok badSig = r) ∧ (r ≠ Result.ok) ∧ (s.authFails tok badSig = false)) ∧
    (∃ (l : Link) (tok : Bytes) (badSig : Bool) (r : Result) (s : State), (s.sec.verifying = some (l, tok)) ∧ (s.tokenCheck tok badSig = r) ∧ (s.authFails tok badSig = true)) ∧
    (∃ (l : Link) (s : State), (Serves s l false) ∧ (s.get Reg.SESSION_KIND = 2) ∧ (s.get Reg.SESSION_LINK = Link.code l)) ∧
    (∃ (s : State), (s.get Reg.SESSION_KIND = 1) ∧ (s.mode = Mode.test)) ∧
    (∃ (s : State), (s.get Reg.SESSION_KIND = 3) ∧ (s.sec.debugFuse = false)) := 
  ⟨⟨.spt, (live .hold []), by decide +kernel⟩,
   ⟨.twa, ({ live .hold [] with sec := { State.reset.sec with failAt := some 0 } }), by decide +kernel⟩,
   ⟨.can, (live .ready []), by decide +kernel⟩,
   ⟨.spt, (aToken 1), (verifying 1 .hold), by decide +kernel⟩,
   ⟨.spt, (aToken 2), (verifying 2 .hold), by decide +kernel⟩,
   ⟨.spt, (aToken 2), (verifying 2 .ready), by decide +kernel⟩,
   ⟨.spt, (aToken 3), (verifying 3 .hold), by decide +kernel⟩,
   ⟨.spt, (aToken 4), (verifying 4 .hold), by decide +kernel⟩,
   ⟨.spt, (aToken 5), (verifying 5 .hold), rfl, rfl, test_enrol_token_passes⟩,
   ⟨.spt, (aToken 6), (verifying 6 .hold), rfl, rfl, test_rotate_token_passes⟩,
   ⟨.spt, [], false, .range, ({ live .hold [] with sec := { State.reset.sec with verifying := some (.spt, []) } }), by decide +kernel⟩,
   ⟨.spt, (aToken 4), true, .denied, (verifying 4 .hold), by decide +kernel⟩,
   ⟨.twa, (live .hold [(Reg.SESSION_KIND, 2), (Reg.SESSION_LINK, 2)]), by decide +kernel⟩,
   ⟨(live .test [(Reg.SESSION_KIND, 1)]), by decide +kernel⟩,
   ⟨(live .hold [(Reg.SESSION_KIND, 3)]), by decide +kernel⟩⟩

theorem test_hyps_QuotesAndDebugAccess :
    (∃ (l : Link) (s : State), (Serves s l false) ∧ (s.get Reg.QUOTE_STATE ≠ 1)) ∧
    (∃ (b : Bytes) (s : State), (s.sec.quote = some b)) ∧
    (∃ (l : Link) (s : State), (Serves s l false) ∧ (s.mode = Mode.hold)) ∧
    (∃ (s : State), (s.get Reg.DEBUG_STATE = 1)) ∧
    (∃ (i : TapInstr) (s : State), (s.tapOffers i = true)) ∧
    (∃ (i : TapInstr) (s : State), (s.tapOffers i = false)) := 
  ⟨⟨.spt, (live .run []), by decide +kernel⟩,
   ⟨[1#8], ({ live .run [] with sec := { State.reset.sec with quote := some [1#8] } }), by decide +kernel⟩,
   ⟨.spt, (live .hold []), by decide +kernel⟩,
   ⟨(live .hold [(Reg.DEBUG_STATE, 1)]), by decide +kernel⟩,
   ⟨.idcode, (live .run []), by decide +kernel⟩,
   ⟨.extest, (live .run []), by decide +kernel⟩⟩

theorem test_hyps_MonitorsShowAndLatch :
    (∃ (temps : Temps) (s : State), (s.sys.phase = ResetPhase.released) ∧ (1500 ≤ (hottest (s.dieTemps temps)).2.2) ∧ (bit (s.get Reg.FAULT_ACTIVE) 0 = false)) ∧
    (∃ (temps : Temps) (s : State), (s.sys.phase = ResetPhase.released) ∧ (s.hlt.warnArmed = true) ∧ (s.i16 Reg.TEMP_WARN ≤ (hottest (s.dieTemps temps)).2.2) ∧ ((hottest (s.dieTemps temps)).2.2 < 1500)) ∧
    (∃ (s : State), (s.sys.phase = ResetPhase.released) ∧ (Variant.quads s.variant = 4)) ∧
    (∃ (s : State), (s.sys.phase = ResetPhase.released) ∧ (s.hlt.vinArmed = true)) ∧
    (∃ (s : State), (s.sys.phase = ResetPhase.released) ∧ (s.hlt.vinArmed = false)) ∧
    (∃ (s : State), (s.sys.phase = ResetPhase.released) ∧ (bit (s.get Reg.FAULT_ACTIVE) 1 = false)) ∧
    (∃ (q : Fin 4) (s : State), (s.sys.phase = ResetPhase.released) ∧ (Variant.quads s.variant = 4) ∧ ((s.quad q).railBad = false)) ∧
    (∃ (r : Rail) (q : Fin 4) (s : State), (s.sys.phase = ResetPhase.released) ∧ ((r = .pa q ∧ (s.quad q).railBad = true ∨ r = .pxMain ∧ s.vmainUp = false))) ∧
    (∃ (p : Procs) (s : State), (s.sys.phase = ResetPhase.released) ∧ (bit (Variant.dieMask s.variant) 0 = true) ∧ (s.get Reg.PROC_DRIFT_LIMIT < p.cx.natAbs) ∧ (s.hlt.procHeld.testBit 0 = false)) ∧
    (∃ (q : Fin 4) (s : State), (s.sys.lx01 = LxDrive.px) ∧ (q.val < Variant.quads s.variant) ∧ ((s.quad q).railBad = false)) ∧
    (∃ (s : State), (s.sys.lx01 ≠ LxDrive.px)) ∧
    (∃ (s : State), (s.sys.lx01 = LxDrive.px) ∧ (s.sys.phase = ResetPhase.released) ∧ (bit (s.get Reg.FAULT_ACTIVE) 1 = false)) ∧
    (∃ (q : Fin 4) (s : State), (q.val < Variant.quads s.variant) ∧ ((s.quad q).railBad = false)) := 
  ⟨⟨(⟨1500, 0, 0, 0, 0, 0, 0, 0⟩), (live .run []), by decide +kernel⟩,
   ⟨(⟨1499, 0, 0, 0, 0, 0, 0, 0⟩), (live .hold []), by decide +kernel⟩,
   ⟨(live .run []), by decide +kernel⟩,
   ⟨(live .run []), by decide +kernel⟩,
   ⟨({ live .run [] with hlt := { State.reset.hlt with vinArmed := false } }), by decide +kernel⟩,
   ⟨(live .test []), by decide +kernel⟩,
   ⟨3, (live .run []), by decide +kernel⟩,
   ⟨.pxMain, 0, (live .run []), by decide +kernel⟩,
   ⟨(⟨-32768, 0, 0, 0, 0, 0⟩), (live .run []), by decide +kernel⟩,
   ⟨3, pxDriven, by decide +kernel⟩,
   ⟨(live .run []), by decide +kernel⟩,
   ⟨pxDriven, by decide +kernel⟩,
   ⟨0, (live .ready []), by decide +kernel⟩⟩

theorem test_hyps_FaultsWatchdogsAndTheLog :
    (∃ (s : State), (s.sys.phase = ResetPhase.released) ∧ (s.sys.pllLost = false)) ∧
    (∃ (l : Link) (s : State), (Serves s l false)) ∧
    (∃ (s : State), (s.sys.phase = ResetPhase.released)) ∧
    (∃ (core : Fin 5) (s : State), (s.hlt.barking.testBit core.val = true)) ∧
    (∃ (l : Link) (s : State), (Serves s l false)) ∧
    (∃ (e : LogEntry) (s : State), (s.ev.log = [e]) ∧ (s.flashTaken 0 = false)) ∧
    (∃ (s : State), (s.sys.phase = ResetPhase.released)) ∧
    (∃ (s : State), (s.sys.phase = ResetPhase.released)) ∧
    (∃ (s : State), (s.sys.phase = ResetPhase.released)) := 
  ⟨⟨(live .run []), by decide +kernel⟩,
   ⟨.spt, (live .hold [(Reg.FAULT_ACTIVE, 5)]), by decide +kernel⟩,
   ⟨(live .run []), by decide +kernel⟩,
   ⟨4, ({ live .run [] with hlt := { State.reset.hlt with barking := 16 } }), by decide +kernel⟩,
   ⟨.spt, (live .hold [(Reg.FAULT_ACTIVE, 5)]), by decide +kernel⟩,
   ⟨(⟨5, 63, 0, 0, 0, 0⟩), logged, by decide +kernel⟩,
   ⟨(live .run []), by decide +kernel⟩,
   ⟨(live .run []), by decide +kernel⟩,
   ⟨(live .run []), by decide +kernel⟩⟩

theorem test_hyps_StepRunsTheFrontCommand :
    (State.reset.pending = []) := by decide +kernel

theorem test_hyps_StepsKeepWhatIsPermanent :
    (∃ t, step { State.reset with pending := [.brownOut] } = .next t) := ⟨_, rfl⟩

theorem test_hyps_StepsKeepTheBounds :
    (State.reset.ev.log.length ≤ 64 ∧ State.reset.brd.flash = []) := by decide +kernel

theorem test_hyps_RequestsOutOfServiceAreRefused :
    (Instr.link (.reqRun .spt) = some Link.spt ∧ State.reset.linkUp .spt = false) ∧
    (Instr.link (.discard .can) = some Link.can ∧ (live .boot []).linkUp .can = true ∧ (live .boot []).mode = Mode.boot) ∧
    (Instr.link (.hotRead .twa) = some Link.twa ∧ (live .watch []).linkUp .twa = true ∧ Instr.inWatch (.hotRead .twa) = false) ∧
    ((let s := live .hold []; { s with sys := { s.sys with firing := some Link.spt } }).linkUp .spt = true) := 
  ⟨by decide +kernel,
   by decide +kernel,
   by decide +kernel,
   by decide +kernel⟩

theorem test_hyps_AnOccurrenceIsRecorded :
    ((live .run [(Reg.EVT_LATCHED, 4)]).latched 2 = true) ∧
    (((live .run [(Reg.EVT_LOG_MASK, 4)]).get Reg.EVT_LOG_MASK).testBit 2 = true ∧ (live .run []).ev.log.length < 64) := 
  ⟨by decide +kernel,
   by decide +kernel⟩

theorem test_hyps_ARequestForTheModeInForce :
    (∃ (l : Link) (s : State), (Serves s l true) ∧ (s.mode = Mode.hold) ∧ (s.sys.trans = none) ∧ (s.get Reg.COMMIT_STATE = 0)) ∧
    (∃ (l : Link) (s : State), (Serves s l true) ∧ (s.mode = Mode.ready) ∧ (s.sys.trans = none) ∧ (s.get Reg.COMMIT_STATE = 0)) ∧
    (∃ (l : Link) (s : State), (Serves s l true) ∧ (s.mode = Mode.run) ∧ (s.sys.trans = none) ∧ (s.get Reg.COMMIT_STATE = 0)) ∧
    (∃ (l : Link) (s : State), (Serves s l true) ∧ (s.mode = Mode.watch) ∧ (s.sys.trans = none) ∧ (s.get Reg.COMMIT_STATE = 0)) ∧
    (∃ (l : Link) (s : State), (Serves s l true) ∧ (s.mode = Mode.test) ∧ (s.sys.trans = none) ∧ (s.get Reg.COMMIT_STATE = 0)) := 
  ⟨⟨.spt, (live .hold []), by decide +kernel⟩,
   ⟨.spt, (live .ready []), by decide +kernel⟩,
   ⟨.spt, (live .run []), by decide +kernel⟩,
   ⟨.spt, (live .watch []), by decide +kernel⟩,
   ⟨.spt, (live .test []), by decide +kernel⟩⟩


/-! ### Ill-formed commands are refused by `Instr.wf` -/

theorem test_wf_flit_of_31_bytes : (Instr.flitReceived 0 .cx (List.replicate 31 0#8) false).wf = false := by decide
theorem test_wf_flit_of_32_bytes : (Instr.flitReceived 0 .cx (List.replicate 32 0#8) false).wf = true := by decide
theorem test_wf_five_lanes : (Instr.linkTrainingDone 0 5 0).wf = false ∧ (Instr.linkTrainingDone 0 0 5).wf = false := by decide
theorem test_wf_seventeen_measurements : (Instr.toneMeasureDone 0 (List.replicate 17 ⟨0, 0, 0, 0⟩)).wf = false := by decide
theorem test_wf_index_of_17_bits :
    (Instr.wideValueLoRead .spt 65536 0).wf = false ∧ (Instr.objectWrite .twa 65536 0 []).wf = false ∧
    (Instr.stageWrite .can 0 256 []).wf = false := by decide
theorem test_wf_decodes_out_of_order : (Instr.replyDecoded 0 ⟨[⟨3, 0#16, 0⟩, ⟨3, 0#16, 0⟩], false, false, []⟩).wf = false := by decide
theorem test_wf_five_flashes :
    (Instr.resetRelease false 0 0 0#8 .check .check (List.replicate 5 ⟨true, 0, 0, 0, 0, 0, 0⟩)).wf = false := by decide
theorem test_wf_short_capture : (Instr.captureDone [0#8]).wf = false := by decide
theorem test_wf_weights_out_of_order :
    (Instr.reedConverged 0 [⟨2, 0, 0⟩, ⟨1, 0, 0⟩]).wf = false ∧
    (Instr.sweepChannelDone [⟨2, 0, 0, none, 0, 0⟩, ⟨1, 0, 0, none, 0, 0⟩] []).wf = false ∧
    (Instr.sweepChannelDone [] (List.replicate 193 ⟨0, 4, 0⟩)).wf = false ∧ (Instr.sweepChannelDone [] [⟨0, 4, 32768⟩]).wf = false := by decide +kernel
theorem test_wf_values_beyond_16_bits :
    (Instr.reedTrackTick 0 0 0 ⟨32768, 0⟩).wf = false ∧ (Instr.reedTrackTick 0 0 0 ⟨0, 32768⟩).wf = false ∧ (Instr.returnLossUpdate 0 32768 0).wf = false ∧
    (Instr.returnLossUpdate 0 0 (-32769)).wf = false ∧ (Instr.fullCalDone 0 ⟨false, false, 0#4, 0#4, 0#4, 32768, 0⟩).wf = false ∧
    (Instr.slideTrackTick 0 0 32768 0#16).wf = false ∧ (Instr.slideCalDone true 0 0 32768 0#16 0).wf = false ∧
    (Instr.slideCalDone true 0 0 0 0#16 32768).wf = false := by decide
theorem test_wf_read_measured :
    (Instr.readMeasured 0 [⟨1, 0, 32768, 0⟩]).wf = false ∧ (Instr.readMeasured 0 [⟨1, 0, 0, 0⟩, ⟨1, 0, 0, 0⟩]).wf = false := by decide
theorem test_wf_long_epc : (Instr.epcReply 0 ⟨true, 0#16, 0#16, 0#16, List.replicate 63 0#8, none, [], []⟩).wf = false := by decide
theorem test_wf_long_access_data : (Instr.accessOpEnd 0 [.data (List.replicate 129 0#8)] [] []).wf = false := by decide +kernel
theorem test_wf_long_hf_frame : (Instr.hfFrameReceived (List.replicate 4097 0#8) .good).wf = false := by decide +kernel
theorem test_wf_hf_response_and_cards :
    (Instr.hfOpEnd 0 (List.replicate 1025 0#8) [] false).wf = false ∧ (Instr.hfOpEnd 0 [] [[0#8]] false).wf = false := by
  decide +kernel
theorem test_wf_long_spt_transaction : (Instr.sptSelectRelease (List.replicate 65537 0#8)).wf = false := by decide +kernel
theorem test_wf_long_twa_writes :
    (Instr.twaObjWrite 0#16 0#8 (List.replicate 129 0#8)).wf = false ∧
    (Instr.twaDomWrite 0#16 0#8 0#8 (List.replicate 129 0#8)).wf = false ∧
    (Instr.twaWindow 0#8 (List.replicate 257 0#8)).wf = false ∧ (Instr.twaReplyRead 4097).wf = false := by decide +kernel
theorem test_wf_usdo_requests :
    (Instr.usdoRequest (.upload 65536 0)).wf = false ∧ (Instr.usdoRequest (.downloadExpedited 0 0 (List.replicate 57 0#8))).wf = false ∧
    (Instr.usdoRequest (.downloadInit 0 0 (2 ^ 32))).wf = false ∧
    (Instr.usdoRequest (.downloadSegment (List.replicate 57 0#8) true)).wf = false := by decide
theorem test_wf_long_rpdo : (Instr.rpdoReceived 0 (List.replicate 65 0#8)).wf = false := by decide
theorem test_wf_board_data :
    (Instr.spcOpEnd 0 (List.replicate 257 0#8)).wf = false ∧ (Instr.twbTransferEnd .done 0#8 (List.replicate 257 0#8)).wf = false := by
  decide +kernel
theorem test_wf_samples_beyond_16_bits :
    (Instr.tempSample ⟨0, 0, 0, 0, 0, 0, 0, 32768⟩).wf = false ∧
    (Instr.processMeasure ⟨32768, 0, 0, 0, 0, 0⟩).wf = false := by decide

/-! ### The spec's own examples and tables -/

/-- Table 7.4: the settled timing of profiles 0 to 3. -/
theorem test_settled_timings_of_table_7_4 :
    settled 6250 150 1 640 1 0 (State.reset.get (Reg.T2_TPRI 0)) = [2500, 5333, 1805, 3195, 960, 1500] ∧
    settled 12500 150 1 256 4 0 (State.reset.get (Reg.T2_TPRI 1)) = [5000, 13333, 5305, 7195, 2063, 25000] ∧
    settled 12500 150 0 160 4 0 (State.reset.get (Reg.T2_TPRI 2)) = [5000, 8000, 8980, 11020, 3210, 40000] ∧
    settled 25000 200 1 256 4 1 (State.reset.get (Reg.T2_TPRI 3)) = [12000, 13333, 10480, 13520, 2063, 55000] := by decide +kernel

/-- The read worked in chapter 8: the road vector's signs, and the position on the plane of a car's tag. -/
theorem test_read_of_the_junction_example :
    let s := live .run [(Reg.MOUNT_HEIGHT, 8000), (Reg.MOUNT_YAW, 65536 - 18000), (Reg.MOUNT_TILT, 1200)]
    s.planePoint (s.roadVector 450 (-400)) 1200 = (-23695, 1935) := by decide +kernel

/-- The pair worked in chapter 8: 13.222 m/s from a wrapped difference of −96.4° at a coarse speed of 13.333 m/s. -/
theorem test_pair_of_the_junction_example :
    let p : TrackPt := ⟨0, 866300, 0, 0, 0, true, 0, 0, true, -958254000000000000, 0, 0⟩
    pairSpeed (10 ^ 18, 0) 13333333 p { p with time := 400000, phi := -964 * fullTurn / 3600 } = 13221620 := by decide +kernel

/-- Table 18.9: static budgets of an SV8-84, and the SV8-31 lantern's. -/
theorem test_static_budgets_of_table_18_9 :
    (live .ready [(Reg.THETA_JA, 300), (Reg.AMBIENT_MAX, 1250)]).pStatic = 8300 ∧
    (live .ready [(Reg.THETA_JA, 600), (Reg.AMBIENT_MAX, 1050)]).pStatic = 7500 ∧
    (live .ready [(Reg.THETA_JA, 800), (Reg.AMBIENT_MAX, 850)]).pStatic = 8100 ∧
    (live .ready [(Reg.THETA_JA, 1200), (Reg.AMBIENT_MAX, 1250)]).pStatic = 2000 ∧
    ({ live .ready [(Reg.THETA_JA, 1300), (Reg.AMBIENT_MAX, 950)] with variant := .sv31 } : State).pStatic = 3200 := by decide +kernel

/-- Chapter 2's status byte example: 0xA3 in RUN with an event waiting and writes staged. -/
theorem test_status_byte_0xA3 :
    ({ live .run [(Reg.EVT_LATCHED, 1)] with cfg := { State.reset.cfg with staged := [(Reg.ANT_GAIN 0, [5#8, 0#8])], stagedBy := [(Reg.ANT_GAIN 0, .spt)] } } : State).status
      .spt = 0xA3 := by decide +kernel

/-- R22, R26: a flit that an end builds arrives good; one changed bit makes it bad. -/
theorem test_flit_built_is_good :
    let f := (default : LinkEnd).flitBytes ⟨3, 2, 255, List.replicate 24 0xA5#8⟩
    f.length = 32 ∧ flitBad f false = false ∧ flitBad (f.set 9 0xA4#8) false = true ∧ readFlit f = ⟨3, 2, 255, List.replicate 24 0xA5#8⟩ := by
  decide +kernel

/-- R382: two wrong bytes of a line are found with their bits; three are not taken for a right line. -/
theorem test_line_of_two_wrong_bytes :
    lineDecode [(5, 0x11#8), (131, 0x80#8)] = some [(5, 0x11), (131, 0x80)] ∧ lineDecode [] = some [] ∧
    lineDecode [(0, 1#8), (1, 1#8), (2, 2#8)] ≠ some [] := by decide +kernel

/-- R4's example: on an SV8-31 the objects of chain 5, at 0x3240, answer NO_OBJECT. -/
theorem test_chain_5_is_absent_from_sv31 :
    ({ live .ready [] with variant := .sv31 } : State).readObj .can 0x324001 = (.noObject, [], { live .ready [] with variant := .sv31 }) ∧
    Reg.CHAIN_STATE 5 / 256 = 0x3240 := by decide +kernel

/-- R43's example: the high half read after the carry is the shadow's. -/
theorem test_device_time_shadow :
    (match exec (.deviceTimeLoRead .can) { live .ready [] with tim := { State.reset.tim with now := 0x151FFFFFFF0 } } with
     | .next t => ({ t with tim := { t.tim with now := 0x15200000000 } } : State).view .can Reg.DEVICE_TIME_HI |>.1
     | _ => 0) = 0x151 := by decide +kernel

/-- Chapter 13's example: the frame that reads MODE_CURRENT, and its fetch. -/
def exampleRead : Bytes :=
  let b := bytes [0x01, 0x2A, 0x17, 0x00, 0x08, 0x00, 0x01, 0x20, 0x01, 0x00, 0x00, 0x00, 0x01, 0x00]
  b ++ leBytes 4 (crc32 b)
def exampleReply : Bytes :=
  let b := bytes [0x83, 0x02, 0x2A, 0x01, 0x00, 0x00, 0x05, 0x00, 0x00, 0x00, 0x01, 0x00, 0x03]
  b ++ leBytes 4 (crc32 b)
def inRun : State := { live .run [(Reg.EVT_LATCHED, 1)] with ev := State.reset.ev }
def readDone : State :=
  match exec .sptRead { inRun with io := { inRun.io with spt := some ⟨1, 0x2A, (exampleRead.drop 6).take 8, 0, 0⟩ } } with
  | .next t => t
  | _ => inRun
theorem test_spt_example_frame_is_taken :
    (match exec (.sptSelectRelease exampleRead) inRun with | .next t => t.io.spt.map fun q => (q.opc, q.body) | _ => none) =
      some (1, (exampleRead.drop 6).take 8) := by decide +kernel
theorem test_spt_example_reply :
    (match exec .sptFetch { readDone with tim := { readDone.tim with now := readDone.tim.now + 4000 } } with
     | .next t => t.io.miso.take 17 | _ => []) = exampleReply := by decide +kernel

/-- The Varrowby junction of chapters 5 and 9: an SV8-84 under ETSI-L with 6 dBi antennas and 1 dB feeds. -/
def junction : State :=
  live .run ([(Reg.REGION_ID, 1), (Reg.REG_MARGIN, 2), (Reg.THETA_JA, 400), (Reg.AMBIENT_MAX, 1250)] ++
    (List.range 16).flatMap fun c => [(Reg.ANT_GAIN c, 24), (Reg.CABLE_LOSS c, 4)])
/-- Chapters 5 and 9: the level R186 permits to 16, 12, 8 and 4 chains on 866.3 MHz. -/
theorem test_junction_levels_under_the_eirp_ceiling :
    ((junction.channels.filter fun p => p.2.khz = 866300).map fun p =>
      [16, 12, 8, 4].map fun n => junction.levelFor p.2 (List.range n) 109 68) = [[some 21, some 31, some 45, some 68]] := by
  decide +kernel
/-- Chapter 9: the modelled power of the junction's plans, and its budget at 142.0 °C. -/
theorem test_junction_power_and_budget :
    junction.modelled 4 (List.replicate 16 21) 0 = 4564 ∧ junction.modelled 4 (List.replicate 16 10) 0 = 4449 ∧
    junction.modelled 4 (List.replicate 16 11) 0 = 4457 ∧ junction.modelled 3 (List.replicate 12 31) 0 = 4065 ∧
    junction.pStatic = 6200 ∧ (junction.put Reg.T_HOT 1420).budget = 4450 := by decide +kernel
/-- Chapter 17: the EMCY of event 8 at device time 36,290.1 s on a derated part. -/
theorem test_emcy_of_the_hot_afternoon :
    (({ live .run [(Reg.EVT_LATCHED, 0x2000), (Reg.FAULT_ACTIVE, 0x10000), (Reg.EVT_EN_EMCY, 0x2000000000012B05),
        (Reg.CAN_NMT_STATE, 5), (Reg.COB_ID_EMCY, 0x81)] with tim := { State.reset.tim with now := 36290100 * 40000 } } : State).latch
      8 0x00210006 1450).ev.emcy.map Emcy.bytes =
    [bytes [0x08, 0xFF, 0x89, 0xC3, 0x08, 0x34, 0xBE, 0x29]] := by decide +kernel

end Sys2Proof.Machine
end

section
/-! SUPPORT. Writing an object by its address: what the shared operations of a write do, the answer that a link is given, and
the statements settled with them. -/

namespace Sys2Proof.Machine

/-! ### Little-endian bytes and single bits -/

@[simp] theorem length_leBytes (n v : Nat) : (leBytes n v).length = n := by
  induction n generalizing v with
  | zero => rfl
  | succ n ih => simp [leBytes, ih]

/-- The bytes of a value carry it modulo their size (R10). -/
theorem leNat_leBytes (n v : Nat) : leNat (leBytes n v) = v % 256 ^ n := by
  induction n generalizing v with
  | zero => simp [leBytes, leNat, Nat.mod_one]
  | succ n ih => simp [leBytes, leNat, ih, Nat.pow_succ', Nat.mod_mul]

theorem leNat_leBytes_toNat (v : BitVec 64) : leNat (leBytes 8 v.toNat) = v.toNat := by
  rw [leNat_leBytes]
  exact Nat.mod_eq_of_lt v.isLt

theorem bit_setBit_self (v i : Nat) : bit (setBit v i) i = true := by
  simp [bit, setBit]

theorem bit_clrBit_self (v i : Nat) : bit (clrBit v i) i = false := by
  unfold bit clrBit
  split
  · next h =>
    have flip := Nat.testBit_two_pow_add_eq (v - 2 ^ i) i
    rw [Nat.add_sub_cancel' (Nat.ge_two_pow_of_testBit h), h] at flip
    simpa using flip.symm
  · next h => simpa using h

@[simp] theorem bit_putBit_self (v i : Nat) (b : Bool) : bit (putBit v i b) i = b := by
  cases b with
  | false => exact bit_clrBit_self v i
  | true => exact bit_setBit_self v i

/-! ### Answers -/

/-- A link that serves a request outside WATCH serves every request then. -/
theorem Serves.any {s : State} {l : Link} (h : Serves s l false) (w : Bool) : Serves s l w := by
  obtain ⟨up, boot, watch, free, due⟩ := h
  exact ⟨up, boot, fun e => absurd (watch e) Bool.false_ne_true, free, due⟩

/-- An answer shows as the last result of its link and in the link's BUSY bit (R87, R96). -/
theorem State.answered_answer (s : State) (l : Link) (r : Result) : Answered (s.answer l r) l r :=
  ⟨s.get_answer_self l r, bit_putBit_self ..⟩

theorem SameBut.sys_eq {ks : List Nat} {s t : State} (h : SameBut ks s t) : t.sys = s.sys :=
  show ({ t with regs := s.regs } : State).sys = s.sys by rw [h.2]

/-- An answer adds nothing to what has changed but the answer itself. -/
theorem SameBut.answer {ks : List Nat} {s t : State} (h : SameBut ks s t) (l : Link) (r : Result) :
    SameButAnswer l ks s (t.answer l r) := by
  have only : ({ t.answer l r with sys := { (t.answer l r).sys with busy := s.sys.busy } } : State) =
      t.put (Link.lastResult l) (Result.code r) := by
    rw [← h.sys_eq]; rfl
  unfold SameButAnswer
  rw [only]
  exact (h.mono fun _ hk => List.mem_cons_of_mem _ hk).trans (SameBut.put _ List.mem_cons_self)

/-! ### Writes -/

theorem State.write_no_object {s : State} {l : Link} {k : Nat} {d : Bytes} (h : s.object k = none) :
    s.write l k d = (.noObject, s) := by
  simp [State.write, h]

theorem State.write_read_only {s : State} {l : Link} {k : Nat} {d : Bytes} {f : Found} (h : s.object k = some f)
    (acc : f.row.acc = .ro ∨ f.row.acc = .const) : s.write l k d = (.denied, s) := by
  obtain e | e := acc <;> simp [State.write, h, e]

/-- A write of an RW object that is no command and no image stores its value, or is refused for it (R94). -/
theorem State.write_rw {s : State} {l : Link} {k : Nat} {d : Bytes} {f : Found} (h : s.object k = some f)
    (acc : f.row.acc = .rw) (cfg : k ≠ Reg.CONFIG_IMAGE) (fw : k ≠ Reg.FW_IMAGE) (op : opOf k = none) :
    s.write l k d = s.writeValue k f d := by
  simp [State.write, h, acc, State.writeFound, cfg, fw, op]

/-- A value in range for an object whose function does not occupy it is stored (R94, R97). -/
theorem State.writeValue_ok {s : State} {k : Nat} {d : Bytes} {f : Found} (val : f.writeOk s.variant d = true)
    (len : exactLength k d = true) (free : s.fieldBusy k = false) : s.writeValue k f d = (.ok, s.store k f d) :=
  checks_pass (by simp [val, len, free])

/-- HOT_CURSOR's row: a U64 of access RW, of any value, that every variant has in every mode. -/
def hotCursorRow : Found := ⟨grp4802, 0, ⟨1, 1, .u64, .rw, .any, 0, .always⟩, 0⟩

theorem find_hotCursor : Dict.find Reg.HOT_CURSOR = some hotCursorRow := by decide

theorem State.object_hotCursor (s : State) : s.object Reg.HOT_CURSOR = some hotCursorRow := by
  simp [State.object, find_hotCursor, hotCursorRow, grp4802, Found.present, Pres.holds]

theorem opOf_hotCursor : opOf Reg.HOT_CURSOR = none :=
  Option.isNone_iff_eq_none.1 (by decide +kernel)

/-- HOT_CURSOR lies outside the fields that an operation occupies. -/
theorem State.fieldBusy_hotCursor (s : State) : s.fieldBusy Reg.HOT_CURSOR = false := by
  have hf : [Reg.HF_OP_ARG, Reg.HF_CMD_DATA].contains Reg.HOT_CURSOR = false := by decide
  have twb : [Reg.TWB_ADDR, Reg.TWB_WDATA, Reg.TWB_RLEN].contains Reg.HOT_CURSOR = false := by decide
  have scan : ¬ Reg.HOT_CURSOR ≤ Reg.SCAN_COMPARE := by decide
  unfold State.fieldBusy
  rw [hf, twb, decide_eq_false scan]
  simp

theorem hotCursorRow_writeOk (v : Sys2Proof.Variant) (x : BitVec 64) :
    hotCursorRow.writeOk v (leBytes 8 x.toNat) = true := by
  simp [Found.writeOk, hotCursorRow, ObjTy.lengthOk, ObjTy.size, ObjTy.legal, Rng.holds]

theorem State.store_hotCursor (s : State) (d : Bytes) :
    s.store Reg.HOT_CURSOR hotCursorRow d = s.put Reg.HOT_CURSOR (leNat d) := rfl

/-- HOT_CURSOR takes every full value that is written to it. -/
theorem State.write_hotCursor (s : State) (l : Link) (v : BitVec 64) :
    s.write l Reg.HOT_CURSOR (leBytes 8 v.toNat) = (.ok, s.put Reg.HOT_CURSOR v.toNat) := by
  rw [State.write_rw s.object_hotCursor rfl (by decide) (by decide) opOf_hotCursor,
    State.writeValue_ok (hotCursorRow_writeOk ..) rfl s.fieldBusy_hotCursor, State.store_hotCursor, leNat_leBytes_toNat]

/-- A write that changes objects only is carried out, and its result is answered on its link (R14, R96). -/
theorem exec_objectWrite {s t : State} {l : Link} {index sub : Nat} {d : Bytes} {r : Result} {ks : List Nat}
    (serves : Serves s l false) (write : s.write l (index * 256 + sub % 256) d = (r, t)) (same : SameBut ks s t) :
    exec (.objectWrite l index sub d) s = .next (t.answer l r) := by
  show Host.Outcome.next (s.request l _ fun u => u.write l (index * 256 + sub % 256) d) = _
  rw [State.request_answers (serves.any _) (by rw [write]; exact same.sys_eq), write]

theorem hotCursor_ne_lastResult (l : Link) : Reg.HOT_CURSOR ≠ Link.lastResult l := by
  cases l <;> decide

/-- Settles O34, by what a write of each kind of object does and the answer that follows a write of objects only. -/
theorem objectWritesAndRefusals : Obligations.ObjectWritesAndRefusals := by
  refine ⟨fun l v s serves => ?_, fun l index sub d s serves absent => ?_, fun l index sub d s serves readOnly => ?_⟩
  · have same : SameBut [Reg.HOT_CURSOR] s (s.put Reg.HOT_CURSOR v.toNat) := SameBut.put _ (List.mem_singleton_self _)
    refine ⟨_, exec_objectWrite serves (s.write_hotCursor l v) same, State.answered_answer .., ?_, same.answer l .ok⟩
    rw [State.get_answer_ne _ _ (hotCursor_ne_lastResult l), State.get_put_self]
  · have same := SameBut.refl [] s
    exact ⟨_, exec_objectWrite serves (State.write_no_object absent) same, State.answered_answer .., same.answer l _⟩
  · obtain ⟨f, found, acc⟩ := (Option.any_eq_true ..).1 readOnly
    have same := SameBut.refl [] s
    exact ⟨_, exec_objectWrite serves (State.write_read_only found (of_decide_eq_true acc)) same,
      State.answered_answer .., same.answer l _⟩

end Sys2Proof.Machine
end

section
/-! SUPPORT. What one end of a die-to-die link makes of a received flit (R22 to R28), and the statement settled with it. -/

namespace Sys2Proof.Machine

/-! ### One end of a link (R22 to R28) -/

@[simp] theorem Hub.end_setEnd (x : Hub) (e : LinkEnd) (side : LinkSide) : (x.setEnd e side).end_ side = e := by
  cases side <;> rfl

@[simp] theorem State.hub_updHub_self (s : State) (h : Nat) (f : Hub → Hub) : (s.updHub h f).hub h = f (s.hub h) :=
  Tab.get_upd_self ..

theorem State.hub_updHub_ne (s : State) {h g : Nat} (f : Hub → Hub) (ne : g ≠ h) : (s.updHub h f).hub g = s.hub g :=
  Tab.get_upd_ne _ _ ne

@[simp] theorem State.end_updEnd_self (s : State) (h : Nat) (side : LinkSide) (f : LinkEnd → LinkEnd) :
    ((s.updEnd h side f).hub h).end_ side = f ((s.hub h).end_ side) := by
  simp [State.updEnd]

theorem State.hub_updEnd_ne (s : State) {h g : Fin 5} (side : LinkSide) (f : LinkEnd → LinkEnd) (ne : g ≠ h) :
    (s.updEnd h side f).hub g = s.hub g :=
  State.hub_updHub_ne s _ (Fin.val_ne_of_ne ne)

/-- Nothing but the links differs after a change of one end. -/
theorem State.updEnd_hubs_only (s : State) (h : Nat) (side : LinkSide) (f : LinkEnd → LinkEnd) :
    ({ s.updEnd h side f with hubs := s.hubs } : State) = s := rfl

/-- An end expects a SEQ that follows the last one received, or any where it has received none (log entry 48). -/
theorem LinkEnd.expects_of_next {e : LinkEnd} {seq : Nat} (next : ∀ q, e.rxLast = some q → seq = (q + 1) % 256) :
    e.expects seq = true := by
  unfold LinkEnd.expects
  split
  · rfl
  · next q last => exact decide_eq_true (next q last)

/-- An accepted flit is the last one received, and ends a discard and a NAK that was due (R26). -/
theorem LinkEnd.accept_received (e : LinkEnd) (side : LinkSide) (f : Flit) :
    (e.accept side f).rxLast = some f.seq ∧ (e.accept side f).discarding = false ∧ (e.accept side f).nakDue = false := by
  cases side <;> exact ⟨rfl, rfl, rfl⟩

theorem State.takeAck_none {s : State} {h : Nat} {side : LinkSide} {flit : Bytes} (none : field flit 3 1 = 0) :
    s.takeAck h side flit = s := by
  simp [State.takeAck, none, bit]

/-- A good flit in sequence is accepted where the chain has room, and its ACK and NAK reach the sender. -/
theorem exec_flitReceived_accepts {h : Fin 5} {side : LinkSide} {flit : Bytes} {s : State} (up : (s.hub h).width ≠ 0)
    (good : flitBad flit false = false) (next : ((s.hub h).end_ side).expects (field flit 1 1) = true)
    (room : side = .cx → ((s.hub h).end_ side).fifo.length < 32) :
    exec (.flitReceived h side flit false) s =
      .next ((s.updEnd h side fun x => x.accept side (readFlit flit)).takeAck h side flit) := by
  have notFull : (decide (side = .cx) && decide (32 ≤ ((s.hub h).end_ side).fifo.length)) = false := by
    by_cases cx : side = .cx
    · simpa [cx] using room cx
    · simp [cx]
  show execFlitReceived h side flit false s = _
  unfold execFlitReceived
  rw [if_neg up, if_neg]
  simp [good, notFull, readFlit, next]

/-- A flit that is bad, or that finds the chain full, is not taken: its end discards and owes a NAK (R23, R26, R28). -/
theorem exec_flitReceived_discards {h : Fin 5} {side : LinkSide} {flit : Bytes} {codeErr : Bool} {s : State}
    (up : (s.hub h).width ≠ 0)
    (bad : flitBad flit codeErr = true ∨ side = .cx ∧ 32 ≤ ((s.hub h).end_ side).fifo.length)
    (fresh : ((s.hub h).end_ side).discarding = false ∨ ((s.hub h).end_ side).expects (field flit 1 1) = true) :
    exec (.flitReceived h side flit codeErr) s =
      .next (s.updEnd h side fun x => { x with discarding := true, nakDue := true }) := by
  show execFlitReceived h side flit codeErr s = _
  unfold execFlitReceived
  rw [if_neg up, if_pos (by obtain bad | ⟨cx, full⟩ := bad <;> simp_all),
    if_neg (by obtain fresh | fresh := fresh <;> simp [readFlit, fresh])]

/-- Settles O1, by the two outcomes of a received flit: accepted, or discarded with a NAK due. -/
theorem goodFlitIsTakenAndBadFlitIsNot : Obligations.GoodFlitIsTakenAndBadFlitIsNot := by
  refine ⟨fun h side flit s up good next room noAck => ?_, fun h flit s up good next full => ?_,
    fun h side flit codeErr s up bad fresh => ?_⟩
  · have exec_eq := exec_flitReceived_accepts up good (LinkEnd.expects_of_next next) room
    rw [State.takeAck_none noAck] at exec_eq
    refine ⟨_, exec_eq, ?_⟩
    dsimp only
    rw [State.end_updEnd_self]
    obtain ⟨last, discarding, nak⟩ := ((s.hub h).end_ side).accept_received side (readFlit flit)
    refine ⟨last, discarding, nak, ?_, fun g ne => s.hub_updEnd_ne side _ ne, s.updEnd_hubs_only ..⟩
    rintro rfl
    rfl
  · exact ⟨_, exec_flitReceived_discards up (.inr ⟨rfl, full⟩) (.inr (LinkEnd.expects_of_next next)),
      s.end_updEnd_self h .cx _, s.updEnd_hubs_only ..⟩
  · exact ⟨_, exec_flitReceived_discards up (.inl bad) (.inl fresh), s.end_updEnd_self h side _, s.updEnd_hubs_only ..⟩

end Sys2Proof.Machine
end

section
/-! SUPPORT. What a read of a linked wide value latches (R43, R134), and the statement settled with it. -/

namespace Sys2Proof.Machine

/-! ### A read that latches -/

/-- A served read that only latches a wide value answers its data and leaves the latch (R14, R96, R134). -/
theorem State.read_latchWide {s : State} {l : Link} {k : Nat} {d : Bytes} {f : State → Result × Bytes × State}
    (serves : Serves s l false) (read : f s = (.ok, d, s.latchWide l k)) :
    s.read l f = ((s.latchWide l k).give l d).answer l .ok := by
  unfold State.read
  rw [State.request_answers serves (by rw [read]; rfl), read]

/-- A latch puts the parts that the object has, as they are now, before the link's earlier latches (R134). -/
theorem State.mem_latchWide (s : State) (l : Link) (k : Nat) :
    (⟨l, k, (List.range (wideParts k)).map fun i => s.livePart (k + i), s.tim.now⟩ : Shadow) ∈ (s.latchWide l k).shadows :=
  List.mem_cons_self

/-- A read that latches changes the link's answer, its data and its shadows, and nothing else. -/
theorem State.sameButAnswer_latchWide (s : State) (l : Link) (k : Nat) (d : Bytes) (r : Result) :
    SameButAnswer l [] s { ((s.latchWide l k).give l d).answer l r with io := s.io, shadows := s.shadows } :=
  (SameBut.refl [] s).answer l r

/-! ### DEVICE_TIME_LO (R43) -/

theorem exec_deviceTimeLoRead {s : State} {l : Link} (serves : Serves s l false) :
    exec (.deviceTimeLoRead l) s = .next (((s.latchWide l Reg.DEVICE_TIME_LO).give l
      (leBytes 4 (s.tim.now % 2 ^ 32))).answer l .ok) :=
  congrArg Host.Outcome.next (State.read_latchWide serves rfl)

/-! ### The lost-record counters (R134, R371) -/

/-- Each LOST_T1_LO is a U32 to be read, which every variant has in every mode (0x4830.01). -/
theorem find_lostT1Lo : ∀ i : Fin 3, (Dict.find (Reg.LOST_T1_LO i)).any (fun f =>
    f.group.pres = .always && f.row.pres = .always && f.row.acc != .wo && f.row.ty = .u32) = true := by
  decide

theorem wideParts_lostT1Lo : ∀ i : Fin 3, wideParts (Reg.LOST_T1_LO i) = 2 := by
  decide

/-- LOST_T1_LO is none of the objects that a name alone singles out in a read. -/
theorem lostT1Lo_not_named : ∀ i : Fin 3, Reg.LOST_T1_LO i ∉
    [Reg.MODE_CURRENT, Reg.STATUS_BYTE, Reg.STAGED_COUNT, Reg.STAGED_BYTES, Reg.STAGED_LINKS, Reg.IMAGE_LOADED_BYTES,
     Reg.PEEK_STATE, Reg.REGION_COUNT, Reg.ERROR_REGISTER, Reg.REVISION, Reg.GPIO_OWNED, Reg.IRQ_LEVEL, Reg.DEVICE_TIME,
     Reg.EVT_PENDING, Reg.LOG_PENDING, Reg.HF_FIELD_ON_US, Reg.LANE_LOAD_MAX, Reg.REPLAN_MAX_US, Reg.HOT_SPAN_MS,
     Reg.ARCHIVE_SPAN_S, Reg.INIT_MIB, Reg.GPIO_IN, Reg.HF_DRIVER_CURRENT, Reg.SLIDE_PHASE, Reg.SLIDE_Z,
     Reg.CAN0_ERR_COUNTS, Reg.CAN1_ERR_COUNTS, Reg.HOT_READ] := by
  decide

theorem lostT1Lo_not_indexed : ∀ i : Fin 3,
    (List.range 4).find? (fun q => decide (Reg.LOST_T1_LO i = Reg.LINK_REPLAYS_1S q)) = none ∧
    (List.range 3).find? (fun n => decide (Reg.LOST_T1_LO i = Reg.REPORT_NEXT n)) = none := by
  decide

/-- LOST_T1_LO is none of the objects that another part of the state determines. -/
theorem State.viewOf_lostT1Lo (s : State) (l : Link) (i : Fin 3) : s.viewOf l (Reg.LOST_T1_LO i) = none := by
  obtain ⟨notReplays, -⟩ := lostT1Lo_not_indexed i
  have notCarrier : s.chainList.find? (fun c => decide (Reg.LOST_T1_LO i = Reg.CARRIER_ON_US c)) = none := by
    refine List.find?_eq_none.2 fun c _ => ?_
    refine mt of_decide_eq_true ?_
    simp only [Reg.LOST_T1_LO, Reg.CARRIER_ON_US]
    omega
  have notTimer : s.claimedKey (Reg.LOST_T1_LO i) = false := by
    have far : ¬ Reg.LOST_T1_LO i / 256 < 0x2220 := by simp only [Reg.LOST_T1_LO]; omega
    simp [State.claimedKey, far]
  have notNamed := lostT1Lo_not_named i
  simp only [List.mem_cons, List.not_mem_nil, or_false, not_or] at notNamed
  simp only [State.viewOf, State.tmrView, notNamed, notReplays, notCarrier, notTimer, if_false, Bool.not_false, if_true]

/-- LOST_T1_LO shows no free value. -/
theorem State.viewFree_lostT1Lo (s : State) (i : Fin 3) : s.viewFree (Reg.LOST_T1_LO i) = none := by
  have notNamed := lostT1Lo_not_named i
  simp only [List.mem_cons, List.not_mem_nil, or_false, not_or] at notNamed
  simp only [State.viewFree, notNamed, if_false, decide_false, Bool.false_and, Bool.false_eq_true]

theorem State.livePart_eq_get (s : State) {k : Nat} (far : Reg.DEVICE_TIME_HI < k) : s.livePart k = s.get k := by
  have lo : k ≠ Reg.DEVICE_TIME_LO := by simp only [Reg.DEVICE_TIME_HI, Reg.DEVICE_TIME_LO] at far ⊢; omega
  rw [State.livePart, if_neg lo, if_neg (Nat.ne_of_gt far)]

theorem State.livePart_lostT1Lo (s : State) (i : Fin 3) (n : Nat) :
    s.livePart (Reg.LOST_T1_LO i + n) = s.get (Reg.LOST_T1_LO i + n) :=
  s.livePart_eq_get (by simp only [Reg.DEVICE_TIME_HI, Reg.LOST_T1_LO]; omega)

/-- A read of LOST_T1_LO gives its value and latches both parts. -/
theorem State.readObj_lostT1Lo (s : State) (l : Link) (i : Fin 3) :
    s.readObj l (Reg.LOST_T1_LO i) = (.ok, leBytes 4 (s.get (Reg.LOST_T1_LO i)), s.latchWide l (Reg.LOST_T1_LO i)) := by
  obtain ⟨f, found, shape⟩ := (Option.any_eq_true ..).1 (find_lostT1Lo i)
  simp only [Bool.and_eq_true, decide_eq_true_eq, bne_iff_ne] at shape
  obtain ⟨⟨⟨group, row⟩, readable⟩, type⟩ := shape
  have object : s.object (Reg.LOST_T1_LO i) = some f := by
    simp [State.object, found, Found.present, group, row, Pres.holds]
  obtain ⟨-, notNext⟩ := lostT1Lo_not_indexed i
  have notHot : Reg.LOST_T1_LO i ≠ Reg.HOT_READ := fun e => lostT1Lo_not_named i (by simp [e])
  have view : s.view l (Reg.LOST_T1_LO i) = (s.get (Reg.LOST_T1_LO i), s.latchWide l (Reg.LOST_T1_LO i)) := by
    have live : s.livePart (Reg.LOST_T1_LO i) = s.get (Reg.LOST_T1_LO i) := s.livePart_lostT1Lo i 0
    simp [State.view, s.viewOf_lostT1Lo, s.viewFree_lostT1Lo, State.readPart, wideParts_lostT1Lo, live]
  simp only [State.readObj, object, State.readFound, readable, notHot, notNext, view, type, if_false]
  rfl

theorem exec_wideValueLoRead_lostT1Lo {s : State} {l : Link} (serves : Serves s l false) (i : Fin 3) :
    exec (.wideValueLoRead l (Reg.LOST_T1_LO i / 256) (Reg.LOST_T1_LO i % 256)) s = .next (((s.latchWide l (Reg.LOST_T1_LO i)).give l
      (leBytes 4 (s.get (Reg.LOST_T1_LO i)))).answer l .ok) := by
  have address : Reg.LOST_T1_LO i / 256 * 256 + Reg.LOST_T1_LO i % 256 % 256 = Reg.LOST_T1_LO i := by omega
  refine congrArg Host.Outcome.next (State.read_latchWide serves ?_)
  rw [address, s.readObj_lostT1Lo]

/-- The oldest latch of a link is one of its own. -/
theorem State.link_oldestShadow {s : State} {l : Link} {x : Shadow} (oldest : s.oldestShadow l = some x) : x.link = l := by
  have mem := List.mem_of_mem_head? oldest
  simpa using (List.mem_filter.1 mem).2

/-- Settles O5, by the state that a read which latches leaves. -/
theorem wideValuesAreLatchedAtTheLowRead : Obligations.WideValuesAreLatchedAtTheLowRead := by
  refine ⟨fun l s serves => ?_, fun l i s serves => ?_, fun l x s oldest => ?_⟩
  · exact ⟨_, exec_deviceTimeLoRead serves, State.answered_answer .., Tab.find_put_self .., s.mem_latchWide l _,
      s.sameButAnswer_latchWide ..⟩
  · refine ⟨_, exec_wideValueLoRead_lostT1Lo serves i, State.answered_answer .., Tab.find_put_self .., ?_,
      s.sameButAnswer_latchWide ..⟩
    have latched := s.mem_latchWide l (Reg.LOST_T1_LO i)
    simp only [wideParts_lostT1Lo, s.livePart_lostT1Lo] at latched
    exact latched
  · refine ⟨{ s with shadows := s.shadows.erase x }, ?_, s.link_oldestShadow oldest, rfl,
      fun y mem ne => (List.mem_erase_of_ne ne).2 mem, rfl⟩
    show execWideShadowExpire l s = _
    rw [execWideShadowExpire, oldest]

end Sys2Proof.Machine
end

section
/-! SUPPORT. What the end of a reply window and the decodes of a slot change (R158, R224, R229), and the statement settled with it. -/

namespace Sys2Proof

/-! ### The decode that is taken (R229) -/

/-- `b` is taken before `d`: a higher SNR, or an equal one on a receive beam of no higher number. -/
def Decode.beats (b d : Decode) : Prop := d.snr < b.snr ∨ d.snr = b.snr ∧ b.rxBeam.val ≤ d.rxBeam.val

theorem Decode.beats_refl (d : Decode) : d.beats d := .inr ⟨rfl, Nat.le_refl _⟩

theorem Decode.beats_trans {a b c : Decode} (ab : a.beats b) (bc : b.beats c) : a.beats c := by
  unfold Decode.beats at *
  omega

/-- The test by which `bestDecode` keeps or replaces the best decode so far decides which one beats the other. -/
theorem Decode.beats_iff (d b : Decode) :
    (b.snr < d.snr || (b.snr = d.snr && d.rxBeam.val ≤ b.rxBeam.val)) = true ↔ d.beats b := by
  simp [Decode.beats]

theorem Decode.beats_of_not {d b : Decode} (h : ¬ d.beats b) : b.beats d := by
  unfold Decode.beats at *
  omega

end Sys2Proof

namespace Sys2Proof.Machine

theorem isSome_bestDecode {ds : List Decode} (ne : ds ≠ []) : (bestDecode ds).isSome = true := by
  cases ds with
  | nil => exact absurd rfl ne
  | cons d r =>
    rw [bestDecode]
    split
    · rfl
    · split <;> rfl

/-- The decode taken is one of the slot's, and beats every one of them. -/
theorem bestDecode_spec {ds : List Decode} {b : Decode} (best : bestDecode ds = some b) : b ∈ ds ∧ ∀ d ∈ ds, b.beats d := by
  induction ds generalizing b with
  | nil => cases best
  | cons d r ih =>
    rw [bestDecode] at best
    split at best
    · next none =>
      cases best
      have empty : r = [] := by
        cases r with
        | nil => rfl
        | cons e r => simpa [none] using isSome_bestDecode (List.cons_ne_nil e r)
      simp [empty, Decode.beats_refl]
    · next c found =>
      obtain ⟨mem, beats⟩ := ih found
      split at best
      · next higher =>
        cases best
        have first := (Decode.beats_iff ..).1 higher
        refine ⟨List.mem_cons_self, fun e me => ?_⟩
        obtain rfl | me := List.mem_cons.1 me
        · exact e.beats_refl
        · exact Decode.beats_trans first (beats e me)
      · next lower =>
        cases best
        have keeps := Decode.beats_of_not (mt (Decode.beats_iff ..).2 lower)
        refine ⟨List.mem_cons_of_mem _ mem, fun e me => ?_⟩
        obtain rfl | me := List.mem_cons.1 me
        · exact keeps
        · exact beats e me

/-! ### What the end of a reply window leaves as it is -/

theorem gangChains_lt {gang c : Nat} (mem : c ∈ gangChains gang) : c < 16 := by
  simp only [gangChains, bitsOf, List.mem_flatMap, List.mem_filter, List.mem_range, chainsOf, List.mem_cons,
    List.not_mem_nil, or_false] at mem
  obtain ⟨q, ⟨lt, -⟩, at_⟩ := mem
  omega

theorem mem_gainKeys {c : Nat} (lt : c < 16) : Reg.RX_GAIN_STATE c ∈ gainKeys ∧ Reg.CSTATE_SEQ c ∈ gainKeys := by
  constructor <;> exact List.mem_flatMap.2 ⟨c, List.mem_range.2 lt, by simp⟩

/-- The objects of the receive beams lie above those that a gain change writes. -/
theorem not_mem_gainKeys {k : Nat} (above : 0x350000 ≤ k) : k ∉ gainKeys := by
  intro mem
  obtain ⟨c, lt, at_⟩ := List.mem_flatMap.1 mem
  simp only [List.mem_range, List.mem_cons, List.not_mem_nil, or_false, Reg.RX_GAIN_STATE, Reg.CSTATE_SEQ] at lt at_
  omega

theorem SameButReply.get {ks : List Nat} {s t : State} (h : SameButReply ks s t) {k : Nat} (hk : k ∉ gainKeys ++ ks) :
    t.get k = s.get k :=
  h.1 k hk

theorem SameButReply.refl (ks : List Nat) (s : State) : SameButReply ks s s := SameBut.refl ..

/-- A group update of one member, both in the list, keeps the frame. -/
theorem SameButReply.recordOne {ks : List Nat} {s t : State} {q k : Nat} (h : SameButReply ks s t)
    (hq : q ∈ gainKeys ++ ks) (hk : k ∈ gainKeys ++ ks) (v : Nat) : SameButReply ks s (t.record q [(k, v)]) := by
  have step : SameBut (gainKeys ++ ks) { t with eng := s.eng, hubs := s.hubs, arr := s.arr, chains := s.chains }
      (({ t with eng := s.eng, hubs := s.hubs, arr := s.arr, chains := s.chains } : State).record q [(k, v)]) :=
    SameBut.record hq fun p mem => List.mem_singleton.1 mem ▸ hk
  exact SameBut.trans h step

theorem SameButReply.recordIfOne {ks : List Nat} {s t : State} {q k : Nat} (h : SameButReply ks s t)
    (hq : q ∈ gainKeys ++ ks) (hk : k ∈ gainKeys ++ ks) (v : Nat) : SameButReply ks s (t.recordIf q [(k, v)]) := by
  unfold State.recordIf
  split
  · exact h
  · exact h.recordOne hq hk v

theorem SameButReply.putRound {ks : List Nat} {s t : State} (h : SameButReply ks s t) (beam : Nat) (r : Round) :
    SameButReply ks s (t.putRound beam r) := h

theorem SameButReply.decision {ks : List Nat} {s t : State} (h : SameButReply ks s t) (beam : Nat) :
    SameButReply ks s (t.decision beam) := by
  unfold State.decision State.sendFlit
  split <;> exact h

theorem SameButReply.combine {ks : List Nat} {s t : State} (h : SameButReply ks s t) (pre : List PreMeas) (b : Nat) :
    SameButReply ks s (t.combine pre b) := by
  unfold State.combine
  split
  · split <;> exact h
  · exact h

theorem SameButReply.combineAll {ks : List Nat} {s t : State} (h : SameButReply ks s t) (beam : Nat) (pre : List PreMeas) :
    SameButReply ks s (t.combineAll beam pre) :=
  List.foldlRecOn _ _ h fun _ hu b _ => hu.combine pre b

theorem SameButReply.replyOver {ks : List Nat} {s t : State} (h : SameButReply ks s t) (beam : Nat) :
    SameButReply ks s (t.replyOver beam) := by
  unfold State.replyOver
  split
  · exact h
  · refine List.foldlRecOn _ _ h fun u hu c mem => ?_
    obtain ⟨gain, seq⟩ := mem_gainKeys (gangChains_lt mem)
    split
    · exact SameButReply.recordIfOne (t := u.updChain c _) hu (List.mem_append_left _ seq) (List.mem_append_left _ gain) _
    · exact hu

/-- What the end of a reply window brings (R33, R158, R224): the decision goes out, the COMBINED beams form their weights, and
the gain changes that waited take effect. -/
def State.windowOver (s : State) (beam : Nat) (pre : List PreMeas) : State :=
  ((s.decision beam).combineAll beam pre).replyOver beam

theorem SameButReply.windowOver (s : State) (beam : Nat) (pre : List PreMeas) : SameButReply [] s (s.windowOver beam pre) :=
  (((SameButReply.refl [] s).decision beam).combineAll beam pre).replyOver beam

theorem State.get_windowOver (s : State) (beam : Nat) (pre : List PreMeas) {k : Nat} (above : 0x350000 ≤ k) :
    (s.windowOver beam pre).get k = s.get k :=
  (SameButReply.windowOver s beam pre).get (by simpa using not_mem_gainKeys above)

theorem State.round_putRound_self (s : State) (beam : Nat) (r : Round) : (s.putRound beam r).round beam = some r :=
  Tab.find_put_self ..

theorem State.get_putRound (s : State) (beam : Nat) (r : Round) (k : Nat) : (s.putRound beam r).get k = s.get k := rfl

/-! ### The outcomes of a slot (R229, R259) -/

/-- REPLY_DECODED without a valid decode, a preamble having been seen: the slot is a COLLISION. -/
theorem exec_replyDecoded_collision {beam : Fin 4} {r : Round} {late : Bool} {pre : List PreMeas} {s : State}
    (round : s.round beam = some r) (stage : r.stage = .slot) :
    exec (.replyDecoded beam ⟨[], true, late, pre⟩) s =
      .next ((s.windowOver beam pre).putRound beam { r with stage := .turnSlot, outcome := 1, lateSlot := late }) := by
  show execReplyDecoded beam _ s = _
  cases late <;> simp [execReplyDecoded, round, stage, State.windowOver, bestDecode]

/-- The counts that one valid decode on receive beam `b` makes (Table 6.8). -/
def State.countBest (s : State) (b : Nat) : State :=
  (s.decodedOn b).record (Reg.RXB_SEQ b) [(Reg.RXB_BEST b, ((s.decodedOn b).get (Reg.RXB_BEST b) + 1) % 2 ^ 32)]

/-- REPLY_DECODED with one valid decode on an enabled receive beam: the slot is SINGLE. -/
theorem exec_replyDecoded_single {beam : Fin 4} {r : Round} {d : Decode} {pre : List PreMeas} {s : State}
    (round : s.round beam = some r) (stage : r.stage = .slot) (mine : d.rxBeam.val / 4 = beam.val)
    (enabled : s.get (Reg.RXB_MODE d.rxBeam) ≠ 0) :
    exec (.replyDecoded beam ⟨[d], false, false, pre⟩) s =
      .next (((s.windowOver beam pre).countBest d.rxBeam).putRound beam { r with
        stage := .turnAck, outcome := 2, rn16 := d.rn16.toNat, best := d.rxBeam.val, snr := d.snr, spatial := false,
        rxMask := maskOf [d.rxBeam.val], acks := 0 }) := by
  show execReplyDecoded beam _ s = _
  simp [execReplyDecoded, round, stage, mine, enabled, State.windowOver, State.countBest, bestDecode]

/-- The decode's own counts: its beam's decodes and best replies, one more each. -/
theorem State.get_countBest (s : State) (b : Nat) :
    (s.countBest b).get (Reg.RXB_DECODES b) = (s.get (Reg.RXB_DECODES b) + 1) % 2 ^ 32 ∧
    (s.countBest b).get (Reg.RXB_BEST b) = (s.get (Reg.RXB_BEST b) + 1) % 2 ^ 32 := by
  have seqDecodes : Reg.RXB_DECODES b ≠ Reg.RXB_SEQ b := by simp only [Reg.RXB_DECODES, Reg.RXB_SEQ]; omega
  have seqBest : Reg.RXB_BEST b ≠ Reg.RXB_SEQ b := by simp only [Reg.RXB_BEST, Reg.RXB_SEQ]; omega
  have apart : Reg.RXB_DECODES b ≠ Reg.RXB_BEST b := by simp only [Reg.RXB_DECODES, Reg.RXB_BEST]; omega
  constructor
  · rw [State.countBest, State.get_record_ne _ seqDecodes (by simpa using apart.symm), State.decodedOn,
      State.get_record_one _ _ seqDecodes]
  · rw [State.countBest, State.get_record_one _ _ seqBest, State.decodedOn, State.get_record_ne _ seqBest (by simpa using apart)]

theorem SameButReply.countBest {s t : State} (h : SameButReply [] s t) (b : Nat) :
    SameButReply [Reg.RXB_DECODES b, Reg.RXB_BEST b, Reg.RXB_SEQ b] s (t.countBest b) := by
  have wide : SameButReply [Reg.RXB_DECODES b, Reg.RXB_BEST b, Reg.RXB_SEQ b] s t :=
    SameBut.mono h fun k mem => List.mem_append_left _ (by simpa using mem)
  have decoded : SameButReply [Reg.RXB_DECODES b, Reg.RXB_BEST b, Reg.RXB_SEQ b] s (t.decodedOn b) :=
    wide.recordOne (by simp) (by simp) _
  exact decoded.recordOne (by simp) (by simp) _

/-- TAG_REPLY_END in a stage that awaits a reply keeps the reply's instant (R45). -/
theorem exec_tagReplyEnd {beam : Fin 4} {r : Round} {s : State} (round : s.round beam = some r)
    (awaits : r.stage = .slot ∨ r.stage = .ack ∨ r.stage = .access) :
    exec (.tagReplyEnd beam) s = .next (s.putRound beam { r with replyAt := s.tim.now }) := by
  show execTagReplyEnd beam s = _
  obtain stage | stage | stage := awaits <;> simp [execTagReplyEnd, round, stage]

/-- Settles O6, by the state that each outcome of a slot leaves and the specification of `bestDecode`. -/
theorem repliesOfASlot : Obligations.RepliesOfASlot := by
  refine ⟨fun beam r s round awaits => ?_, fun beam r d pre s round stage mine enabled => ?_,
    fun beam r late pre s round stage => ?_, fun ds b best => bestDecode_spec best, fun ds ne => isSome_bestDecode ne⟩
  · exact ⟨_, exec_tagReplyEnd round awaits, s.round_putRound_self .., rfl⟩
  · obtain ⟨decodes, best⟩ := (s.windowOver beam pre).get_countBest d.rxBeam
    rw [State.get_windowOver _ _ _ (by simp only [Reg.RXB_DECODES]; omega)] at decodes
    rw [State.get_windowOver _ _ _ (by simp only [Reg.RXB_BEST]; omega)] at best
    exact ⟨_, exec_replyDecoded_single round stage mine enabled,
      ⟨_, State.round_putRound_self .., rfl, rfl, rfl, rfl, rfl, rfl⟩,
      (State.get_putRound ..).trans decodes, (State.get_putRound ..).trans best,
      ((SameButReply.windowOver s beam pre).countBest d.rxBeam).putRound ..⟩
  · exact ⟨_, exec_replyDecoded_collision round stage, State.round_putRound_self ..,
      (SameButReply.windowOver s beam pre).putRound ..⟩

end Sys2Proof.Machine
end

section
/-! SUPPORT. What the operations on carriers, rounds, plans and events leave as it is: the links, the mode and the part's own registers. -/

namespace Sys2Proof.Machine

/-- What the operations on carriers, rounds, plans and events leave as it is: the links, the mode, and the part's own registers
but the release of TWA_ALERT_N. -/
def Quiet (s t : State) : Prop :=
  t.hubs = s.hubs ∧ t.mode = s.mode ∧ ∃ off, t.sys = { s.sys with alertOff := off }

theorem Quiet.refl (s : State) : Quiet s s := ⟨rfl, rfl, s.sys.alertOff, rfl⟩

section
variable {s t : State} (h : Quiet s t)
include h

theorem Quiet.hub_eq (q : Nat) : t.hub q = s.hub q := congrArg (Tab.get · q) h.1

theorem Quiet.mode_eq : t.mode = s.mode := h.2.1

theorem Quiet.refLost_eq : t.sys.refLost = s.sys.refLost := by
  obtain ⟨-, -, off, sys⟩ := h
  rw [sys]

/-- An update of any other part of the state is quiet. -/
theorem Quiet.congr {u : State} (hubs : u.hubs = t.hubs) (mode : u.mode = t.mode) (sys : u.sys = t.sys) : Quiet s u := by
  obtain ⟨hubs', mode', off, sys'⟩ := h
  exact ⟨hubs.trans hubs', mode.trans mode', off, sys.trans sys'⟩

theorem Quiet.ite {c : Prop} [Decidable c] {u : State} (g : Quiet s u) : Quiet s (if c then t else u) := by
  split
  · exact h
  · exact g

theorem Quiet.foldl {α : Type} (l : List α) {f : State → α → State} (step : ∀ u a, Quiet s u → Quiet s (f u a)) :
    Quiet s (l.foldl f t) :=
  List.foldlRecOn l f h fun u hu a _ => step u a hu

/-! ### Objects, hidden parts and events -/

theorem Quiet.val (v : Val) : Quiet s { t with val := v } := h.congr rfl rfl rfl
theorem Quiet.arr (a : Arr) : Quiet s { t with arr := a } := h.congr rfl rfl rfl
theorem Quiet.eng (e : Eng) : Quiet s { t with eng := e } := h.congr rfl rfl rfl
theorem Quiet.sweep (w : Option Sweep) : Quiet s { t with sweep := w } := h.congr rfl rfl rfl
theorem Quiet.testC (c : Option TestC) : Quiet s { t with testC := c } := h.congr rfl rfl rfl

theorem Quiet.put (k v : Nat) : Quiet s (t.put k v) := h.congr rfl rfl rfl
theorem Quiet.putDom (k : Nat) (b : Bytes) : Quiet s (t.putDom k b) := h.congr rfl rfl rfl
theorem Quiet.updQuad (q : Nat) (f : Quad → Quad) : Quiet s (t.updQuad q f) := h.congr rfl rfl rfl
theorem Quiet.updChain (c : Nat) (f : Chain → Chain) : Quiet s (t.updChain c f) := h.congr rfl rfl rfl
theorem Quiet.updHf (f : Hf → Hf) : Quiet s (t.updHf f) := h.congr rfl rfl rfl
theorem Quiet.seq (q : Nat) : Quiet s (t.seq q) := h.put ..

theorem Quiet.record (q : Nat) (l : List (Nat × Nat)) : Quiet s (t.record q l) := h.congr (by simp) (by simp) (by simp)

theorem Quiet.recordIf (q : Nat) (l : List (Nat × Nat)) : Quiet s (t.recordIf q l) := h.congr (by simp) (by simp) (by simp)

theorem Quiet.latchAs (crit : Bool) (cls e a b : Nat) : Quiet s (t.latchAs crit cls e a b) := by
  obtain ⟨hubs, mode, off, sys⟩ := h
  obtain ⟨x, y, z, only⟩ := t.latchAs_only crit cls e a b
  rw [only]
  exact ⟨hubs, mode, z, congrArg (fun u : Sys => { u with alertOff := z }) sys⟩

theorem Quiet.latch (e a b : Nat) : Quiet s (t.latch e a b) := h.latchAs ..

theorem Quiet.refuse : Quiet s t.refuse := (h.put ..).seq _

/-! ### Chains and quads -/

theorem Quiet.showQuad (q : Nat) : Quiet s (t.showQuad q) := (h.record ..).ite ((h.record ..).ite h)

theorem Quiet.keepFwd (c : Nat) : Quiet s (t.keepFwd c) := h.ite (h.updChain ..)

theorem Quiet.stopChain (c st : Nat) (mute : Bool) : Quiet s (t.stopChain c st mute) := by
  unfold State.stopChain
  extract_lets on s1 s2 s3
  have stopped : Quiet s s2 := ((h.keepFwd c).record ..).updChain ..
  exact ((stopped.updQuad ..).ite stopped).showQuad ..

theorem Quiet.muteChain (c : Nat) : Quiet s (t.muteChain c) := (h.stopChain ..).ite h

theorem Quiet.rampDown (c : Nat) : Quiet s (t.rampDown c) := (((h.keepFwd c).record ..).updChain ..).ite h

theorem Quiet.raiseChain (c : Nat) (level : Int) : Quiet s (t.raiseChain c level) := ((h.record ..).updChain ..).showQuad ..

theorem Quiet.setLevel (c : Nat) (level : Int) : Quiet s (t.setLevel c level) := (h.record ..).updChain ..

theorem Quiet.rampQuad (q : Nat) : Quiet s (t.rampQuad q) := h.foldl _ fun _ c hu => hu.rampDown c

theorem Quiet.rampQuads (l : List Nat) : Quiet s (l.foldl State.rampQuad t) := h.foldl _ fun _ q hu => hu.rampQuad q

theorem Quiet.muteAll : Quiet s t.muteAll := h.foldl _ fun _ c hu => hu.muteChain c

theorem Quiet.rampAll : Quiet s t.rampAll := h.foldl _ fun _ c hu => hu.rampDown c

theorem Quiet.quadDark (q : Nat) : Quiet s (t.quadDark q) := h.foldl _ fun _ _ hu => (hu.stopChain ..).ite hu

theorem Quiet.phaseless (q : Nat) : Quiet s (t.phaseless q) := by
  unfold State.phaseless
  extract_lets s1 s2
  have shown : Quiet s s1 := (h.recordIf ..).recordIf ..
  have unmeasured : Quiet s s2 := shown.foldl _ fun _ _ hu => hu.updChain ..
  exact unmeasured.arr _

theorem Quiet.retune (q khz : Nat) (why : Option HeldBy) : Quiet s (t.retune q khz why) := by
  unfold State.retune
  extract_lets s1
  have asked : Quiet s s1 := ((h.rampQuad q).phaseless q).updQuad ..
  exact asked.ite (asked.record ..)

theorem Quiet.synthOff (q : Nat) : Quiet s (t.synthOff q) := (((h.quadDark q).phaseless q).updQuad ..).recordIf ..

theorem Quiet.quadsOff : Quiet s t.quadsOff := h.foldl _ fun _ q hu => hu.synthOff q

theorem Quiet.startCal (q : Nat) : Quiet s (t.startCal q) := (((h.rampQuad q).phaseless q).updQuad ..).record ..

theorem Quiet.cutSweep : Quiet s t.cutSweep := by
  unfold State.cutSweep
  split
  · exact h
  · exact (h.sweep _).foldl _ fun _ c hu => hu.rampDown c

/-! ### Beams and reply windows -/

theorem Quiet.showTx (q : Nat) : Quiet s (t.showTx q) := by
  unfold State.showTx
  split <;> exact h.recordIf ..

theorem Quiet.weigh (b : Nat) : Quiet s (t.weigh b) := h.congr rfl rfl rfl

theorem Quiet.showRx (b : Nat) : Quiet s (t.showRx b) := by
  unfold State.showRx
  split
  · exact (h.recordIf ..).ite (h.recordIf ..)
  · exact h.recordIf ..

theorem Quiet.showActive : Quiet s t.showActive := h.recordIf ..

theorem Quiet.beamsOut (b : Nat) : Quiet s (t.beamsOut b) :=
  (h.arr _).foldl _ fun _ b hu => (hu.weigh b).showRx b

theorem Quiet.beamsDue (b : Nat) : Quiet s (t.beamsDue b) := (h.beamsOut b).showActive.ite h

theorem Quiet.showBeams : Quiet s t.showBeams := by
  refine (h.foldl _ fun u q hu => ?_).showActive
  extract_lets v
  have shown : Quiet s v := hu.showTx q
  exact (shown.arr _).ite (shown.beamsOut q)

theorem Quiet.reedReady (l : Nat) : Quiet s (t.reedReady l) := by
  unfold State.reedReady
  split
  · exact h
  · exact (h.val _).ite h

theorem Quiet.beamsLost : Quiet s t.beamsLost := h.showBeams.foldl _ fun _ l hu => hu.reedReady l

theorem Quiet.replyOver (b : Nat) : Quiet s (t.replyOver b) := by
  unfold State.replyOver
  split
  · exact h
  · refine h.foldl _ fun u c hu => ?_
    split
    · exact (hu.updChain ..).recordIf ..
    · exact hu

theorem Quiet.askTone (l : Nat) : Quiet s (t.askTone l) := by
  have ramped := h.rampQuads (bitsOf 4 (t.toneGang l))
  exact ramped.ite (ramped.arr _)

/-! ### Rounds and access operations -/

theorem Quiet.opState (n : Nat) : Quiet s (t.opState n) := h.ite (h.record ..)

theorem Quiet.armOp (n : Nat) (on : Bool) : Quiet s (t.armOp n on) := (h.eng _).opState n

theorem Quiet.pushResult (b slot op code tagErr : Nat) (r : Round) (data : Bytes) :
    Quiet s (t.pushResult b slot op code tagErr r data) := by
  unfold State.pushResult
  extract_lets id e
  exact h.ite (((h.eng _).putDom ..).record ..)

theorem Quiet.watchOne (w : Nat) (data : Bytes) : Quiet s (t.watchOne w data) :=
  (h.recordIf ..).ite (((h.record ..).latch ..).ite (h.record ..))

theorem Quiet.watch (slot : Nat) (epc data : Bytes) : Quiet s (t.watch slot epc data) :=
  h.foldl _ fun _ w hu => (hu.watchOne w data).ite hu

theorem Quiet.opEnds (b slot code tagErr : Nat) (r : Round) (data : Bytes) : Quiet s (t.opEnds b slot code tagErr r data) := by
  unfold State.opEnds
  extract_lets op s1 s2 s3 s4
  have counted : Quiet s s2 := (h.pushResult ..).record ..
  have told : Quiet s s3 := (counted.latch ..).ite (counted.latch ..)
  have ended : Quiet s s4 := (told.armOp ..).ite (told.opState ..)
  exact (ended.watch ..).ite ended

theorem Quiet.roundStats (b cause : Nat) (aborted : Bool) (r : Round) : Quiet s (t.roundStats b cause aborted r) :=
  (h.record ..).latch ..

theorem Quiet.keepZone (r : Round) : Quiet s (t.keepZone r) := h.congr rfl rfl rfl

theorem Quiet.endRound (b cause : Nat) (aborted : Bool) : Quiet s (t.endRound b cause aborted) := by
  unfold State.endRound
  split
  · exact h
  · next r _ =>
    extract_lets s0 _ s1 s2
    have closed : Quiet s s1 := ((h.replyOver b).beamsDue b).eng _
    have ended : Quiet s s2 := by
      show Quiet s (match r.opNow with
        | some n => s1.opEnds b n 7 0xFF r []
        | none => s1)
      split
      · exact closed.opEnds ..
      · exact closed
    exact (ended.keepZone r).roundStats ..

/-! ### Plans and dwells -/

theorem Quiet.showZones (served : List Nat) : Quiet s (t.showZones served) := h.foldl _ fun _ _ hu => hu.recordIf ..

theorem Quiet.budgetEvents (step : Nat) : Quiet s (t.budgetEvents step) := by
  unfold State.budgetEvents
  extract_lets b ps act s1 _ s2
  have shown : Quiet s s1 := (h.recordIf ..).ite (h.recordIf ..)
  have derated : Quiet s s2 :=
    (((shown.val _).record ..).latch ..).ite ((shown.val _).ite shown)
  exact ((derated.val _).latch ..).ite ((derated.val _).ite derated)

theorem Quiet.usePlan (p : Plan) : Quiet s (t.usePlan p) := by
  unfold State.usePlan
  extract_lets crcIn tab s1 _ s2
  have shown : Quiet s s1 := (h.putDom ..).record ..
  have held : Quiet s s2 := shown.val _
  exact (held.budgetEvents _).showZones _

theorem Quiet.replan : Quiet s t.replan := (h.usePlan _).ite h

theorem Quiet.replanNow (lost : Option Nat) (fallback : Bool) : Quiet s (t.replanNow lost fallback) := by
  unfold State.replanNow
  extract_lets _ p u on
  have planned : Quiet s u := h.usePlan p
  exact planned.val _

theorem Quiet.writeBack (d : Dwell) : Quiet s (t.writeBack d) := h.foldl _ fun _ _ hu => (hu.updChain ..).seq _

theorem Quiet.dropTone (l : Nat) : Quiet s (t.dropTone l) := h.congr rfl rfl rfl

theorem Quiet.closeDwell (l : Nat) : Quiet s (t.closeDwell l) := by
  unfold State.closeDwell
  split
  · exact h.dropTone l
  · next r _ =>
    extract_lets u
    have written : Quiet s u := h.writeBack r.d
    exact (written.val _).dropTone l

theorem Quiet.dissolve (l : Nat) : Quiet s (t.dissolve l) := by
  unfold State.dissolve
  extract_lets u
  have closed : Quiet s u := h.closeDwell l
  exact closed.val _

theorem Quiet.dropDwells : Quiet s t.dropDwells :=
  (h.foldl _ fun _ p hu => (hu.rampQuads (bitsOf 4 p.2.d.gang)).dissolve p.1).showBeams

theorem Quiet.steerGang (d : Dwell) : Quiet s (t.steerGang d) := h.foldl _ fun _ _ hu => hu.updChain ..

theorem Quiet.raiseGang (l : Nat) : Quiet s (t.raiseGang l) := by
  unfold State.raiseGang
  split
  · exact h
  · next r _ =>
    extract_lets probes lv cold s1 s2 s3 _ s4
    have raised : Quiet s s1 := (h.steerGang r.d).foldl _ fun _ _ hu => (hu.setLevel ..).ite (hu.raiseChain ..)
    have probed : Quiet s s2 := raised.foldl _ fun _ _ hu => hu.updChain ..
    have granted : Quiet s s3 := probed.foldl _ fun _ _ hu => hu.updQuad ..
    have placed : Quiet s s4 := granted.val _
    have refused := ((h.refuse.rampQuads (bitsOf 4 r.d.gang)).dissolve l).showBeams.replan
    refine h.ite (Quiet.ite ?_ refused)
    exact (placed.val _).foldl _ fun _ b hu => hu.weigh b

theorem Quiet.gangLocked (l : Nat) : Quiet s (t.gangLocked l) := by
  unfold State.gangLocked
  split
  · exact h
  · refine h.ite ?_
    split
    · exact (h.raiseGang l).ite (h.askTone l)
    · exact h.askTone l

theorem Quiet.leaveGang (q : Nat) : Quiet s (t.leaveGang q) := by
  unfold State.leaveGang
  split
  · exact h
  · next l _ =>
    split
    · exact h
    · extract_lets _ r1 u
      have left : Quiet s u := (h.val _).beamsLost
      exact (left.gangLocked l).ite left

theorem Quiet.fallback (q gang : Nat) : Quiet s (t.fallback q gang) := ((h.rampQuads _).replanNow ..).record ..

theorem Quiet.loseQuad (q cause : Nat) : Quiet s (t.loseQuad q cause) := by
  unfold State.loseQuad
  split
  · extract_lets s1
    have ended : Quiet s s1 := ((h.endRound q cause true).dissolve q).showBeams
    exact (ended.fallback ..).ite ended
  · exact h.leaveGang q

theorem Quiet.quadOut (q cause : Nat) : Quiet s (t.quadOut q cause) := by
  unfold State.quadOut
  extract_lets s1 s2
  have out : Quiet s s2 := ((h.phaseless q).record ..).updQuad ..
  exact out.ite (out.latch ..)

theorem Quiet.quadBack (q cause : Nat) : Quiet s (t.quadBack q cause) := ((h.record ..).updQuad ..).ite h

/-! ### The HF field and the TEST carrier -/

theorem Quiet.showHf : Quiet s t.showHf := h.ite (h.recordIf ..)

theorem Quiet.raiseField (mw : Nat) : Quiet s (t.raiseField mw) := (h.updHf ..).record ..

theorem Quiet.startSlide : Quiet s t.startSlide := (h.raiseField 20).updHf ..

theorem Quiet.dropField : Quiet s t.dropField := by
  unfold State.dropField
  split
  · exact h
  · exact ((h.record ..).record ..).updHf ..

theorem Quiet.hfEnd (status : Nat) (rsp : Bytes) : Quiet s (t.hfEnd status rsp) := by
  unfold State.hfEnd
  split
  · exact h
  · extract_lets s1 s2
    have shown : Quiet s s2 := ((h.updHf ..).putDom ..).record ..
    exact ((shown.record ..).latch ..).showHf

theorem Quiet.closeSession : Quiet s t.closeSession := (((h.dropField.updHf ..).putDom ..).record ..).showHf.ite h

theorem Quiet.hfStop (status : Nat) : Quiet s (t.hfStop status) := by
  unfold State.hfStop
  extract_lets _ _ s1
  have kept : Quiet s s1 := h.congr rfl rfl rfl
  exact (kept.hfEnd status []).closeSession.dropField

theorem Quiet.endTestField (fault : Bool) : Quiet s (t.endTestField fault) := ((h.dropField.updHf ..).put ..).ite h

theorem Quiet.hfFieldFault : Quiet s t.hfFieldFault := (h.hfStop 8).endTestField true

theorem Quiet.stopBreath : Quiet s t.stopBreath := h.ite ((h.dropField.updHf ..).record ..).showHf

theorem Quiet.endTest (r : Result) : Quiet s (t.endTest r) := by
  unfold State.endTest
  split
  · exact h
  · exact (h.testC _).record ..

/-- Every carrier goes off without a change of the links, the mode or the part's own registers (R40, R145, R547). -/
theorem Quiet.carriersOff (mute : Bool) : Quiet s (t.carriersOff mute) := by
  unfold State.carriersOff
  extract_lets s1 s2 s3 _ s4
  have ended : Quiet s s1 := h.foldl _ fun _ q hu => hu.endRound q 5 true
  have dark : Quiet s s2 := ended.muteAll.ite ended.rampAll
  have cut : Quiet s s3 := (dark.endTest .fault).cutSweep
  have bare : Quiet s s4 := cut.val _
  exact bare.dropDwells.hfFieldFault.stopBreath

end

end Sys2Proof.Machine
end

section
/-! SUPPORT. Which objects an event writes (R557 to R562), and that synthesisers and Drone going off write none below those of the quads. -/

namespace Sys2Proof.Machine

/-- Numeric objects outside `K` keep their values. -/
structure Writes (K : Nat → Prop) (s t : State) : Prop where
  get : ∀ k, ¬ K k → t.get k = s.get k

theorem Writes.refl (K : Nat → Prop) (s : State) : Writes K s s := ⟨fun _ _ => rfl⟩

section
variable {K : Nat → Prop} {s t : State} (h : Writes K s t)
include h

/-- A change of anything but the numeric objects, the variant and the node-ID writes no object. -/
theorem Writes.congr {u : State} (regs : u.regs = t.regs) (variant : u.variant = t.variant) (node : u.sys.node = t.sys.node) :
    Writes K s u :=
  ⟨fun k hk => (State.get_congr regs variant node k).trans (h.get k hk)⟩

theorem Writes.ite {c : Prop} [Decidable c] {u : State} (g : Writes K s u) : Writes K s (if c then t else u) := by
  split
  · exact h
  · exact g

theorem Writes.foldl {α : Type} (l : List α) {f : State → α → State} (step : ∀ u a, Writes K s u → Writes K s (f u a)) :
    Writes K s (l.foldl f t) :=
  List.foldlRecOn l f h fun u hu a _ => step u a hu

theorem Writes.put {k : Nat} (hk : K k) (v : Nat) : Writes K s (t.put k v) := by
  refine ⟨fun j hj => (t.get_put_ne v ?_).trans (h.get j hj)⟩
  rintro rfl
  exact hj hk

theorem Writes.seq {q : Nat} (hq : K q) : Writes K s (t.seq q) := h.put hq _

theorem Writes.bump {k : Nat} (hk : K k) : Writes K s (t.bump k) := h.put hk _

theorem Writes.record {q : Nat} {l : List (Nat × Nat)} (hq : K q) (hl : ∀ p ∈ l, K p.1) : Writes K s (t.record q l) := by
  refine ⟨fun j hj => (t.get_record_ne ?_ fun p mem => ?_).trans (h.get j hj)⟩
  · rintro rfl
    exact hj hq
  · rintro rfl
    exact hj (hl p mem)

theorem Writes.recordIf {q : Nat} {l : List (Nat × Nat)} (hq : K q) (hl : ∀ p ∈ l, K p.1) : Writes K s (t.recordIf q l) :=
  Writes.ite h (h.record hq hl)

theorem Writes.ev (e : Ev) : Writes K s { t with ev := e } := h.congr rfl rfl rfl
theorem Writes.arr (a : Arr) : Writes K s { t with arr := a } := h.congr rfl rfl rfl
theorem Writes.sweep (w : Option Sweep) : Writes K s { t with sweep := w } := h.congr rfl rfl rfl

theorem Writes.alertOff (off : Bool) : Writes K s { t with sys := { t.sys with alertOff := off } } := h.congr rfl rfl rfl

theorem Writes.updQuad (q : Nat) (f : Quad → Quad) : Writes K s (t.updQuad q f) := h.congr rfl rfl rfl
theorem Writes.updChain (c : Nat) (f : Chain → Chain) : Writes K s (t.updChain c f) := h.congr rfl rfl rfl

end

/-! ### Events (R557 to R562) -/

/-- The objects that an occurrence may write beside EVT_LATCHED and its history's sequence number. -/
def historyKeys : List Nat :=
  [Reg.LOG_DROPPED, Reg.LOGS_SEQ, Reg.EMCY_DROPPED, Reg.CANSTATE_SEQ, Reg.IRQ_ASSERTIONS]

section
variable {s t : State} (h : Writes (· ∈ historyKeys) s t)
include h

theorem Writes.queueEmcy (e : Emcy) : Writes (· ∈ historyKeys) s (t.queueEmcy e) :=
  h.ite ((h.ev _).ite ((h.bump (by decide)).seq (by decide)))

theorem Writes.logEvent (crit : Bool) (cls e a b : Nat) : Writes (· ∈ historyKeys) s (t.logEvent crit cls e a b) :=
  (((h.ev _).seq (by decide)).ite ((h.bump (by decide)).seq (by decide))).ite h

theorem Writes.deliver (e : Nat) : Writes (· ∈ historyKeys) s (t.deliver e) := by
  unfold State.deliver
  extract_lets _ _ s1
  have driven : Writes (· ∈ historyKeys) s s1 := (h.alertOff _).ite h
  exact (h.ev _).ite ((driven.queueEmcy _).ite driven)

end

/-- After the occurrence's own bit, count and time, only its log entry, its EMCY and its interrupt are still to come. -/
theorem Writes.latchAs (s : State) (crit : Bool) (cls e a b : Nat) :
    Writes (· ∈ historyKeys) (s.noteEvent e a b) (s.latchAs crit cls e a b) := by
  unfold State.latchAs
  extract_lets fresh s1 s2 s3
  have logged : Writes (· ∈ historyKeys) s1 s2 := (Writes.refl _ s1).logEvent ..
  have delivered : Writes (· ∈ historyKeys) s1 s3 := (logged.deliver e).ite logged
  exact (delivered.bump (by decide)).ite delivered

/-- Objects that are no part of the events' history keep their values when an event occurs. -/
theorem State.get_latch_ne (s : State) (e a b : Nat) {k : Nat} (hk : k ∉ eventKeys) : (s.latch e a b).get k = s.get k := by
  simp only [eventKeys, List.mem_cons, List.not_mem_nil, or_false, not_or] at hk
  obtain ⟨latched, seq, history⟩ := hk
  rw [State.latch, (Writes.latchAs s _ _ e a b).get k (by simpa [historyKeys] using history), State.noteEvent,
    State.get_seq_ne _ seq, State.get_put_ne _ _ latched]
  rfl

/-- An event that occurs is latched. -/
theorem State.latched_latch (s : State) (e a b : Nat) : (s.latch e a b).latched e = true := by
  rw [State.latched, State.latch, (Writes.latchAs s _ _ e a b).get _ (by decide), State.noteEvent,
    State.get_seq_ne _ (by decide), State.get_put_self]
  exact bit_setBit_self ..

/-! ### Synthesisers and Drone going off -/

/-- The objects from the quads' upward: those of quads, chains and beams among them. -/
def QuadsUp (k : Nat) : Prop := 0x300000 ≤ k

theorem quadsUp_quad (q : Nat) : QuadsUp (Reg.QUAD_STATE q) ∧ QuadsUp (Reg.QSTATE_SEQ q) ∧ QuadsUp (Reg.SYNTH_FREQ_KHZ q) := by
  simp only [QuadsUp, Reg.QUAD_STATE, Reg.QSTATE_SEQ, Reg.SYNTH_FREQ_KHZ]
  omega

theorem quadsUp_chain (c : Nat) : QuadsUp (Reg.CHAIN_STATE c) ∧ QuadsUp (Reg.CSTATE_SEQ c) ∧ QuadsUp (Reg.TX_POWER_NOW c) ∧
    QuadsUp (Reg.FWD_POWER c) ∧ QuadsUp (Reg.RETURN_LOSS c) ∧ QuadsUp (Reg.REED_RESIDUAL c) ∧ QuadsUp (Reg.CARRIER_ON_US c) ∧
    QuadsUp (Reg.MUTE_COUNT c) := by
  simp only [QuadsUp, Reg.CHAIN_STATE, Reg.CSTATE_SEQ, Reg.TX_POWER_NOW, Reg.FWD_POWER, Reg.RETURN_LOSS, Reg.REED_RESIDUAL,
    Reg.CARRIER_ON_US, Reg.MUTE_COUNT]
  omega

theorem quadsUp_phase (c : Nat) : QuadsUp (Reg.RX_PHASE c) ∧ QuadsUp (Reg.TX_PHASE c) := by
  simp only [QuadsUp, Reg.RX_PHASE, Reg.TX_PHASE]
  omega

section
variable {s t : State} (h : Writes QuadsUp s t)
include h

theorem Writes.showQuad (q : Nat) : Writes QuadsUp s (t.showQuad q) := by
  obtain ⟨state, seq, -⟩ := quadsUp_quad q
  exact (h.record seq (by simpa using state)).ite ((h.record seq (by simpa using state)).ite h)

theorem Writes.keepFwd (c : Nat) : Writes QuadsUp s (t.keepFwd c) := h.ite (h.updChain ..)

theorem Writes.stopChain (c st : Nat) (mute : Bool) : Writes QuadsUp s (t.stopChain c st mute) := by
  unfold State.stopChain
  extract_lets on s1 s2 s3
  obtain ⟨state, seq, power, fwd, loss, residual, onUs, mutes⟩ := quadsUp_chain c
  have stopped : Writes QuadsUp s s2 := by
    refine ((h.keepFwd c).record seq fun p mem => ?_).updChain ..
    simp only [List.mem_append, List.mem_cons, List.not_mem_nil, or_false, List.mem_ite_nil_right] at mem
    obtain (⟨rfl | rfl | rfl | rfl | rfl⟩ | ⟨-, rfl⟩) | ⟨-, rfl⟩ := mem <;> assumption
  exact ((stopped.updQuad ..).ite stopped).showQuad ..

theorem Writes.rampDown (c : Nat) : Writes QuadsUp s (t.rampDown c) := by
  obtain ⟨state, seq, -⟩ := quadsUp_chain c
  exact (((h.keepFwd c).record seq (fun _ mem => List.mem_singleton.1 mem ▸ state)).updChain ..).ite h

theorem Writes.quadDark (q : Nat) : Writes QuadsUp s (t.quadDark q) := h.foldl _ fun _ _ hu => (hu.stopChain ..).ite hu

theorem Writes.phaseless (q : Nat) : Writes QuadsUp s (t.phaseless q) := by
  unfold State.phaseless
  extract_lets s1 s2
  have shown : Writes QuadsUp s s1 := by
    refine (h.recordIf (by unfold QuadsUp; decide) fun p mem => ?_).recordIf (by unfold QuadsUp; decide) fun p mem => ?_
    · obtain ⟨c, -, rfl⟩ := List.mem_map.1 mem
      exact (quadsUp_phase c).1
    · obtain ⟨c, -, rfl⟩ := List.mem_map.1 mem
      exact (quadsUp_phase c).2
  have unmeasured : Writes QuadsUp s s2 := shown.foldl _ fun _ _ hu => hu.updChain ..
  exact unmeasured.arr _

theorem Writes.synthOff (q : Nat) : Writes QuadsUp s (t.synthOff q) := by
  obtain ⟨state, seq, freq⟩ := quadsUp_quad q
  exact (((h.quadDark q).phaseless q).updQuad ..).recordIf seq (by simpa using ⟨state, freq⟩)

theorem Writes.quadsOff : Writes QuadsUp s t.quadsOff := h.foldl _ fun _ q hu => hu.synthOff q

theorem Writes.cutSweep : Writes QuadsUp s t.cutSweep := by
  unfold State.cutSweep
  split
  · exact h
  · exact (h.sweep none).foldl _ fun _ c hu => hu.rampDown c

end

end Sys2Proof.Machine
end

section
/-! SUPPORT. Replays, loss and training of a die-to-die link (R27 to R32), and the statement settled with it. -/

namespace Sys2Proof.Machine

/-! ### Replays (R27, R30, R31) -/

theorem linkReplays_not_mem_eventKeys (h : Nat) : Reg.LINK_REPLAYS h ∉ eventKeys := by
  simp only [eventKeys, List.mem_cons, List.not_mem_nil, or_false, Reg.LINK_REPLAYS, Reg.EVT_LATCHED, Reg.EVTH_SEQ,
    Reg.LOG_DROPPED, Reg.LOGS_SEQ, Reg.EMCY_DROPPED, Reg.CANSTATE_SEQ, Reg.IRQ_ASSERTIONS]
  omega

/-- What a replay that leaves the link up comes to: its end holds the flits to send again, a quad's LINK_REPLAYS counts, and
the link's width stands. -/
structure Replayed (h : Nat) (side : LinkSide) (s t : State) : Prop where
  ends : (t.hub h).end_ side = ((s.hub h).end_ side).resend
  width : (t.hub h).width = (s.hub h).width
  counts : h < 4 → t.get (Reg.LINK_REPLAYS h) = (s.get (Reg.LINK_REPLAYS h) + 1) % 2 ^ 32

/-- An event leaves a replay's outcome as it is. -/
theorem Replayed.latch {h : Nat} {side : LinkSide} {s t : State} (r : Replayed h side s t) (e a b : Nat) :
    Replayed h side s (t.latch e a b) := by
  have hub : (t.latch e a b).hub h = t.hub h := ((Quiet.refl t).latch e a b).hub_eq h
  refine ⟨?_, ?_, fun quad => ?_⟩
  · rw [hub]; exact r.ends
  · rw [hub]; exact r.width
  · rw [State.get_latch_ne _ _ _ _ (linkReplays_not_mem_eventKeys h)]
    exact r.counts quad

/-- Below the eighth resend a replay sends the unacknowledged flits again (R27, R30). -/
theorem State.replay_replayed {s : State} {h : Nat} {side : LinkSide} (held : ((s.hub h).end_ side).unacked ≠ [])
    (few : ((s.hub h).end_ side).resends < 7) : Replayed h side s (s.replay h side) := by
  unfold State.replay
  extract_lets hub e before kept high s1 s2 s3
  rw [if_neg (by simpa using held), if_neg (Nat.not_le.2 (Nat.succ_lt_succ few))]
  have resent : (s1.hub h).end_ side = e.resend ∧ (s1.hub h).width = hub.width := by
    simp only [s1, State.hub_updHub_self]
    cases side <;> exact ⟨rfl, rfl⟩
  obtain ⟨ends, width⟩ := resent
  have recorded : Replayed h side s s2 := by
    have apart : Reg.LINK_REPLAYS h ≠ Reg.QLINK_SEQ h := by simp only [Reg.LINK_REPLAYS, Reg.QLINK_SEQ]; omega
    by_cases quad : h < 4
    · simp only [s2, if_pos quad]
      exact ⟨ends, width, fun _ => State.get_record_one _ _ apart⟩
    · simp only [s2, if_neg quad]
      exact ⟨ends, width, fun lt => absurd lt quad⟩
  show Replayed h side s s3
  by_cases many : high = true
  · simp only [s3, if_pos many]
    exact recorded.latch ..
  · simp only [s3, if_neg many]
    exact recorded

theorem exec_replayTimeout {h : Fin 5} {side : LinkSide} {s : State} (up : (s.hub h).width ≠ 0) :
    exec (.replayTimeout h side) s = .next (s.replay h side) := by
  show execReplayTimeout h side s = _
  rw [execReplayTimeout, if_neg up]

/-! ### Loss and training (R30, R32, Sequence 1.1) -/

/-- A link cleared has both ends empty, with the width and the training given. -/
theorem State.hub_linkClear (s : State) (h width : Nat) (training : Bool) :
    ((s.linkClear h width training).hub h).width = width ∧ ((s.linkClear h width training).hub h).training = training ∧
    ((s.linkClear h width training).hub h).cx = default ∧ ((s.linkClear h width training).hub h).die = default := by
  simp only [State.linkClear, State.hub_updHub_self, and_self]

/-- Beside the link itself, the loss of a link is quiet: what it does to carriers, rounds and the field changes no link. -/
theorem Quiet.linkLost {s : State} {h : Nat} (up : (s.hub h).width ≠ 0) : Quiet (s.linkClear h 0 true) (s.linkLost h) := by
  unfold State.linkLost
  rw [if_neg up]
  extract_lets s1 s2 test s3 s4
  have cleared : Quiet s1 s1 := Quiet.refl s1
  have counted : Quiet s1 s2 := cleared.record ..
  have ramped : Quiet s1 s3 := (counted.rampAll.endTest .fault).ite (counted.rampQuad h)
  have stopped : Quiet s1 s4 := ramped.updQuad ..
  exact ((stopped.quadOut h 1).loseQuad h 5).ite cleared.hfFieldFault

/-- Beside the link itself, what a quad goes on with once its link is up is quiet. -/
theorem Quiet.quadUp {s t : State} (h : Quiet s t) (q : Nat) : Quiet s (t.quadUp q) := by
  unfold State.quadUp
  extract_lets s1 bring
  have back : Quiet s s1 := h.quadBack q 1
  exact back.ite (back.ite ((back.startCal q).ite (back.retune ..)))

theorem Quiet.hxUp {s t : State} (h : Quiet s t) : Quiet s t.hxUp := h.startSlide.ite h

/-- The end of training brings a link up at the width of its lanes; the rest of what it does is quiet. -/
theorem exec_linkTrainingDone {h : Fin 5} {up down : Nat} {s : State} (training : (s.hub h).training = true) :
    Completes (.linkTrainingDone h up down) s (Quiet (s.linkClear h (linkWidth h up down) false)) := by
  show ∃ t, execLinkTrainingDone h up down s = .next t ∧ _
  unfold execLinkTrainingDone
  simp only [training, Bool.not_true, Bool.false_eq_true, if_false]
  have cleared := Quiet.refl (s.linkClear h (linkWidth h up down) false)
  by_cases quad : h.val < 4
  · rw [if_pos quad]
    have counted := cleared.record (Reg.QLINK_SEQ h) [(Reg.LINK_STATE h, linkWidth h up down), (Reg.LINK_RETRAINS h,
      ((s.linkClear h (linkWidth h up down) false).get (Reg.LINK_RETRAINS h) + 1) % 2 ^ 32)]
    exact ⟨_, rfl, counted.ite (counted.quadUp h)⟩
  · rw [if_neg quad]
    exact ⟨_, rfl, cleared.ite cleared.hxUp⟩

theorem exec_linkRetrainTimer {h : Fin 5} {s : State} (down : (s.hub h).width = 0)
    (powered : s.mode = .hold ∨ s.mode = .ready ∨ s.mode = .run ∨ s.mode = .test)
    (present : if h.val < 4 then h.val < Variant.quads s.variant else Variant.hx s.variant = true) :
    exec (.linkRetrainTimer h) s = .next (s.updHub h fun x => { x with training := true }) := by
  show execLinkRetrainTimer h s = _
  have there : (if h.val < 4 then decide (h.val < Variant.quads s.variant) else Variant.hx s.variant) = true := by
    split at present <;> simp_all
  have on : (s.mode = .hold || s.mode = .ready || s.mode = .run || s.mode = .test) = true := by
    simpa [or_assoc] using powered
  rw [execLinkRetrainTimer, if_pos]
  simp [down, on, there]

/-- Settles O2, by what a replay, a loss and a training make of the link itself, all else they do being quiet. -/
theorem linkTrainingAndLossRows : Obligations.LinkTrainingAndLossRows := by
  refine ⟨fun h side s up held few => ?_, fun h s up => ?_, fun h lanesUp lanesDown s training => ?_,
    fun h s down powered present => ?_⟩
  · have replayed := State.replay_replayed held few
    refine ⟨_, exec_replayTimeout up, ?_⟩
    dsimp only
    rw [replayed.ends]
    exact ⟨rfl, rfl, rfl, replayed.counts, replayed.width⟩
  · refine ⟨_, rfl, ?_⟩
    dsimp only
    rw [(Quiet.linkLost up).hub_eq h]
    exact s.hub_linkClear h 0 true
  · obtain ⟨t, exec_eq, quiet⟩ := exec_linkTrainingDone (up := lanesUp) (down := lanesDown) training
    refine ⟨t, exec_eq, ?_⟩
    dsimp only
    rw [quiet.hub_eq h]
    obtain ⟨width, untrained, -⟩ := s.hub_linkClear h (linkWidth h lanesUp lanesDown) false
    exact ⟨width, untrained⟩
  · refine ⟨_, exec_linkRetrainTimer down powered present, ?_, ?_,
      fun g ne => s.hub_updHub_ne _ (Fin.val_ne_of_ne ne), rfl⟩
    · rw [State.hub_updHub_self]
    · rw [State.hub_updHub_self]
      exact down

end Sys2Proof.Machine
end

section
/-! SUPPORT. The loss of REFCLK and its return (R40, R41), and the statement settled with it. -/

namespace Sys2Proof.Machine

/-! ### HOLD forced (R59, R61, R64) -/

/-- What abandoning a transition leaves: the record of a lost reference, and the latched events. -/
theorem State.abandon_keeps (s : State) :
    s.abandon.sys.refLost = s.sys.refLost ∧ s.abandon.get Reg.EVT_LATCHED = s.get Reg.EVT_LATCHED := by
  unfold State.abandon
  split
  · exact ⟨rfl, rfl⟩
  · split
    · exact ⟨rfl, State.get_put_ne _ _ (by decide)⟩
    · exact ⟨rfl, rfl⟩

/-- A forced HOLD leaves the record of a lost reference and the latched events as they are. -/
theorem State.forceHold_keeps (s : State) (reason : Nat) :
    (s.forceHold reason).sys.refLost = s.sys.refLost ∧ (s.forceHold reason).get Reg.EVT_LATCHED = s.get Reg.EVT_LATCHED := by
  obtain ⟨lost, latched⟩ := s.abandon_keeps
  unfold State.forceHold
  split
  · exact ⟨rfl, rfl⟩
  · exact ⟨rfl, rfl⟩
  · extract_lets s1
    have off : s1.sys.refLost = s.sys.refLost ∧ s1.get Reg.EVT_LATCHED = s.get Reg.EVT_LATCHED := by
      by_cases moving : s.sys.trans.isSome = true
      · simp only [s1, if_pos moving]
        have quiet := (Quiet.refl s.abandon).cutSweep.quadsOff
        have writes := (Writes.refl QuadsUp s.abandon).cutSweep.quadsOff
        exact ⟨quiet.refLost_eq.trans lost, (writes.get _ (by unfold QuadsUp; decide)).trans latched⟩
      · simp only [s1, if_neg moving, and_self]
    split
    · exact off
    · exact ⟨off.1, (State.get_put_ne _ _ (by decide)).trans off.2⟩
  · exact ⟨lost, latched⟩

/-- Out of the modes that go on at once, a forced HOLD is being entered (R61). -/
theorem State.forceHold_enters {s : State} (reason : Nat) (mode : s.mode = .ready ∨ s.mode = .run ∨ s.mode = .watch) :
    ∃ x, (s.forceHold reason).sys.trans = some x ∧ x.target = .hold ∧ x.forced = true := by
  obtain mode | mode | mode := mode <;> exact ⟨⟨.hold, true, none, _⟩, by simp only [State.forceHold, mode]; rfl, rfl, rfl⟩

/-! ### REFCLK (R40, R41) -/

/-- The state in which HOLD is forced by REF_LOST: every carrier off and event 16 latched (R40). -/
def State.refMuted (s : State) : State := (({ s with sys := { s.sys with refLost := true } }).carriersOff true).latch 16 0 0

theorem State.refGone_eq (s : State) : s.refGone = s.refMuted.forceHold 1 := rfl

theorem exec_refLost {s : State} (present : s.sys.refLost = false) (released : s.sys.phase = .released) :
    exec .refLost s = .next (s.refMuted.forceHold 1) := by
  show execRefLost s = _
  simp [execRefLost, present, released, State.refGone_eq]

theorem State.refMuted_quiet (s : State) : Quiet { s with sys := { s.sys with refLost := true } } s.refMuted :=
  ((Quiet.refl _).carriersOff true).latch 16 0 0

@[simp] theorem State.quad_updQuad_self (s : State) (q : Nat) (f : Quad → Quad) : (s.updQuad q f).quad q = f (s.quad q) :=
  Tab.get_upd_self ..

theorem State.quad_updQuad_ne (s : State) {q p : Nat} (f : Quad → Quad) (ne : p ≠ q) : (s.updQuad q f).quad p = s.quad p :=
  Tab.get_upd_ne _ _ ne

/-- Calibrations that fall due change the quads' hidden parts only. -/
theorem foldl_calDue_only (l : List Nat) (s : State) :
    ∃ x, l.foldl (fun t q => t.updQuad q fun y => { y with calDue := true }) s = { s with quads := x } := by
  induction l generalizing s with
  | nil => exact ⟨s.quads, rfl⟩
  | cons q r ih => exact ih (s.updQuad q fun y => { y with calDue := true })

/-- Every quad of the list is due for calibration then. -/
theorem calDue_foldl {l : List Nat} (s : State) {q : Nat} (mem : q ∈ l ∨ (s.quad q).calDue = true) :
    ((l.foldl (fun t p => t.updQuad p fun y => { y with calDue := true }) s).quad q).calDue = true := by
  induction l generalizing s with
  | nil => simpa using mem
  | cons p r ih =>
    refine ih _ ?_
    by_cases same : q = p
    · subst same
      exact .inr (by rw [State.quad_updQuad_self])
    · rw [State.quad_updQuad_ne _ _ same]
      simpa [same] using mem

/-- The state after REFCLK_ACCEPTED outside TEST (R41). -/
def State.refBack (s : State) : State :=
  s.quadList.foldl (fun t q => t.updQuad q fun x => { x with calDue := true }) { s with sys := { s.sys with refLost := false } }

theorem State.refBack_only (s : State) : ∃ x, s.refBack = { s with sys := { s.sys with refLost := false }, quads := x } :=
  foldl_calDue_only ..

theorem exec_refclkAccepted {s : State} (lost : s.sys.refLost = true) (mode : s.mode ≠ .test) :
    exec .refclkAccepted s = .next s.refBack := by
  obtain ⟨x, only⟩ := s.refBack_only
  have mode' : s.refBack.mode ≠ .test := by rw [only]; exact mode
  show execRefclkAccepted s = _
  unfold execRefclkAccepted
  rw [if_neg (by simp [lost])]
  exact congrArg Host.Outcome.next (if_neg mode')

/-- Settles O4, by what switching every carrier off and forcing HOLD leave as it is. -/
theorem referenceLossAndReturn : Obligations.ReferenceLossAndReturn := by
  refine ⟨fun s present released => ?_, fun s lost mode => ?_⟩
  · have quiet := s.refMuted_quiet
    obtain ⟨keepsLost, keepsLatched⟩ := s.refMuted.forceHold_keeps 1
    have latched : s.refMuted.latched 16 = true := State.latched_latch ..
    refine ⟨_, exec_refLost present released, keepsLost.trans quiet.refLost_eq, ?_, fun mode => ?_⟩
    · unfold State.latched at latched ⊢
      rw [keepsLatched]
      exact latched
    · exact State.forceHold_enters 1 (by rw [quiet.mode_eq]; exact mode)
  · obtain ⟨x, only⟩ := s.refBack_only
    refine ⟨_, exec_refclkAccepted lost mode, ?_, fun q lt => ?_, ?_, ?_⟩
    · rw [only]
    · exact calDue_foldl _ (.inl (List.mem_range.2 lt))
    · rw [only]
    · rw [only]

end Sys2Proof.Machine
end

section
/-! SUPPORT. Host requests whatever they ask: what each link's request comes to where it is not served (R68, R73, R76, R93, R425),
and the statements on the step, the state after reset and requests out of service. -/

namespace Sys2Proof.Machine

/-! ### Every host command is a request of its link -/

/-- What a host sends is a request on its link, served in WATCH where R76 says so. -/
theorem exec_of_link {c : Instr} {l : Link} (host : Instr.link c = some l) :
    ∃ f, ∀ s, exec c s = .next (s.request l (Instr.inWatch c) f) := by
  cases c
  all_goals cases host
  all_goals exact ⟨_, fun _ => rfl⟩

/-! ### Requests that are not served -/

section
variable {s : State} {l : Link} {w : Bool} {f : State → Result × State}

theorem State.request_of_linkDown (down : s.linkUp l = false) : s.request l w f = s := by
  simp [State.request, down]

/-- A link that is up answers NOT_READY where the mode does not serve the request (R73, R76). -/
theorem State.request_notReady (up : s.linkUp l = true) (out : s.mode = .boot ∨ s.mode = .watch ∧ w = false) :
    s.request l w f = s.answer l .notReady := by
  have unserved : (s.mode = .boot || (s.mode = .watch && !w)) = true := by simpa using out
  rw [State.request, if_neg (by simp [up]), if_pos unserved]

/-- A link that holds a request as executing answers a further one BUSY (R425). -/
theorem State.request_busy (up : s.linkUp l = true) (boot : s.mode ≠ .boot) (watch : s.mode = .watch → w = true)
    (firing : s.sys.firing = some l) : s.request l w f = s.answer l .busy := by
  have served : (s.mode = .boot || (s.mode = .watch && !w)) = false := by simpa [boot] using watch
  rw [State.request, if_neg (by simp [up]), if_neg (by simp [served]), if_pos firing]

end

/-- Settles O57, by the request that every host command is and its three ways of not being served. -/
theorem requestsOutOfServiceAreRefused : Obligations.RequestsOutOfServiceAreRefused := by
  refine ⟨fun c l s host down => ?_, fun c l s host up boot => ?_, fun c l s host up watch out => ?_,
    fun c l s host up boot watch firing => ?_⟩ <;>
    obtain ⟨f, asks⟩ := exec_of_link host <;> rw [asks]
  · rw [State.request_of_linkDown down]
  · rw [State.request_notReady up (.inl boot)]
  · rw [State.request_notReady up (.inr ⟨watch, out⟩)]
  · rw [State.request_busy up boot watch firing]

/-! ### The step and the state after reset -/

/-- Settles O52, by the two cases of the queue. -/
theorem stepRunsTheFrontCommand : Obligations.StepRunsTheFrontCommand :=
  ⟨fun _ _ _ => rfl, fun s empty => by rw [step, empty]⟩

/-- Settles O56, by the defaults that the objects read after reset. -/
theorem resetState : Obligations.ResetState := by
  refine ⟨⟨rfl, rfl, ?_, ?_⟩, ⟨rfl, rfl, rfl, rfl, rfl⟩, ?_, ?_⟩
  · decide
  · decide
  · decide
  · decide

end Sys2Proof.Machine
end

section
/-! SUPPORT. Mode requests (R55 to R57, Table 2.4) and what a transition under way and its end leave (R49, R54, R60), with the
statements settled with them. -/

namespace Sys2Proof.Machine

/-! ### Dwells going down write none of the objects below those of the quads -/

theorem quadsUp_seed (c : Nat) : QuadsUp (Reg.SEED_SEQ c) := by
  simp only [QuadsUp, Reg.SEED_SEQ]
  omega

theorem quadsUp_txBeam (q : Nat) : QuadsUp (Reg.TXB_SEQ q) ∧ QuadsUp (Reg.TXB_STATE q) ∧ QuadsUp (Reg.GANG_MASK q) ∧
    QuadsUp (Reg.LEADER q) ∧ QuadsUp (Reg.TXB_CHANNEL_KHZ q) ∧ QuadsUp (Reg.TXB_AZ q) ∧ QuadsUp (Reg.TXB_EL q) ∧
    QuadsUp (Reg.TXB_ZONE q) := by
  simp only [QuadsUp, Reg.TXB_SEQ, Reg.TXB_STATE, Reg.GANG_MASK, Reg.LEADER, Reg.TXB_CHANNEL_KHZ, Reg.TXB_AZ, Reg.TXB_EL,
    Reg.TXB_ZONE]
  omega

theorem quadsUp_rxBeam (b : Nat) : QuadsUp (Reg.RXB_SEQ b) ∧ QuadsUp (Reg.RXB_MODE b) ∧ QuadsUp (Reg.RXB_AZ b) ∧
    QuadsUp (Reg.RXB_EL b) ∧ QuadsUp (Reg.RXB_TAPER b) ∧ QuadsUp (Reg.RXB_CHAIN_MASK b) := by
  simp only [QuadsUp, Reg.RXB_SEQ, Reg.RXB_MODE, Reg.RXB_AZ, Reg.RXB_EL, Reg.RXB_TAPER, Reg.RXB_CHAIN_MASK]
  omega

theorem quadsUp_active : QuadsUp Reg.ASTATE_SEQ ∧ QuadsUp Reg.ACTIVE_TX_BEAMS ∧ QuadsUp Reg.ACTIVE_RX_BEAMS := by
  unfold QuadsUp
  decide

/-- The noting of a round's end changes the engine's own part only. -/
theorem State.dueRound_only (s : State) (b cause : Nat) : ∃ e, s.dueRound b cause = { s with eng := e } := by
  unfold State.dueRound
  split
  · exact ⟨s.eng, rfl⟩
  · extract_lets c r1
    split <;> exact ⟨_, rfl⟩

section
variable {s t : State} (h : Writes QuadsUp s t)
include h

theorem Writes.rampQuad (q : Nat) : Writes QuadsUp s (t.rampQuad q) := h.foldl _ fun _ c hu => hu.rampDown c

theorem Writes.showTx (q : Nat) : Writes QuadsUp s (t.showTx q) := by
  obtain ⟨seq, state, gang, leader, khz, az, el, zone⟩ := quadsUp_txBeam q
  unfold State.showTx
  split <;> exact h.recordIf seq (by simpa using ⟨state, gang, leader, khz, az, el, zone⟩)

theorem Writes.showRx (b : Nat) : Writes QuadsUp s (t.showRx b) := by
  obtain ⟨seq, mode, az, el, taper, chains⟩ := quadsUp_rxBeam b
  unfold State.showRx
  split
  · refine Writes.ite ?_ ?_ <;> exact h.recordIf seq (by simpa using ⟨mode, az, el, taper, chains⟩)
  · exact h.recordIf seq (by simpa using ⟨mode, az, el, taper, chains⟩)

theorem Writes.showActive : Writes QuadsUp s t.showActive := by
  obtain ⟨seq, tx, rx⟩ := quadsUp_active
  exact h.recordIf seq (by simpa using ⟨tx, rx⟩)

theorem Writes.weigh (b : Nat) : Writes QuadsUp s (t.weigh b) := h.congr rfl rfl rfl

theorem Writes.beamsOut (b : Nat) : Writes QuadsUp s (t.beamsOut b) :=
  (h.arr _).foldl _ fun _ b hu => (hu.weigh b).showRx b

theorem Writes.showBeams : Writes QuadsUp s t.showBeams := by
  refine (h.foldl _ fun u q hu => ?_).showActive
  extract_lets v
  have shown : Writes QuadsUp s v := hu.showTx q
  exact (shown.arr _).ite (shown.beamsOut q)

theorem Writes.writeBack (d : Dwell) : Writes QuadsUp s (t.writeBack d) :=
  h.foldl _ fun _ c hu => (hu.updChain ..).seq (quadsUp_seed c)

theorem Writes.val (v : Val) : Writes QuadsUp s { t with val := v } := h.congr rfl rfl rfl

theorem Writes.dropTone (l : Nat) : Writes QuadsUp s (t.dropTone l) := h.arr _

theorem Writes.closeDwell (l : Nat) : Writes QuadsUp s (t.closeDwell l) := by
  unfold State.closeDwell
  split
  · exact h.dropTone l
  · next r _ => exact ((h.writeBack r.d).val _).dropTone l

theorem Writes.dissolve (l : Nat) : Writes QuadsUp s (t.dissolve l) := (h.closeDwell l).val _

theorem Writes.gangDown (l : Nat) : Writes QuadsUp s (t.gangDown l) := by
  unfold State.gangDown
  split
  · exact h
  · exact ((h.foldl _ fun _ q hu => hu.rampQuad q).dissolve l).showBeams

theorem Writes.dueRound (b cause : Nat) : Writes QuadsUp s (t.dueRound b cause) := by
  obtain ⟨e, only⟩ := t.dueRound_only b cause
  rw [only]
  exact h.congr rfl rfl rfl

theorem Writes.endRounds : Writes QuadsUp s t.endRounds :=
  (h.foldl _ fun _ q hu => hu.dueRound q 6).foldl _ fun _ p hu => hu.gangDown p.1

end

section
variable {s t : State} (h : Quiet s t)
include h

theorem Quiet.gangDown (l : Nat) : Quiet s (t.gangDown l) := by
  unfold State.gangDown
  split
  · exact h
  · exact ((h.rampQuads _).dissolve l).showBeams

theorem Quiet.dueRound (b cause : Nat) : Quiet s (t.dueRound b cause) := by
  obtain ⟨e, only⟩ := t.dueRound_only b cause
  rw [only]
  exact h.eng e

theorem Quiet.endRounds : Quiet s t.endRounds :=
  (h.foldl _ fun _ q hu => hu.dueRound q 6).foldl _ fun _ p hu => hu.gangDown p.1

end

/-! ### Requests that leave the answering of requests as it is -/

/-- The registers by which requests are answered stand: the reset's phase, the request held, and the reset that is due. -/
structure Steady (s t : State) : Prop where
  phase : t.sys.phase = s.sys.phase
  firing : t.sys.firing = s.sys.firing
  resetDue : t.sys.resetDue = s.sys.resetDue

theorem Quiet.steady {s t : State} (h : Quiet s t) : Steady s t := by
  obtain ⟨-, -, off, sys⟩ := h
  constructor <;> rw [sys]

theorem Serves.released {s : State} {l : Link} {w : Bool} (h : Serves s l w) : s.sys.phase = .released := by
  obtain ⟨up, -⟩ := h
  unfold State.linkUp at up
  simp only [Bool.and_eq_true, decide_eq_true_eq] at up
  exact up.1

/-- A request that leaves those registers is carried out and answered, and nothing follows. -/
theorem State.request_steady {s : State} {l : Link} {w : Bool} {f : State → Result × State} (serves : Serves s l w)
    (steady : Steady s (f s).2) : s.request l w f = (f s).2.answer l (f s).1 := by
  have released := serves.released
  rw [State.request_serves serves]
  obtain ⟨-, -, -, free, due⟩ := serves
  have noReset : ((f s).2.answer l (f s).1).sys.resetDue = s.sys.resetDue := steady.resetDue
  rw [if_neg (by simp [steady.firing, free, steady.phase, released]), State.resetsFor_none (by rw [noReset]; exact due)]

/-- A served command whose work is quiet is carried out, answered, and nothing follows. -/
theorem State.request_quiet {s t : State} {l : Link} {w : Bool} {f : State → Result × State} {r : Result}
    (serves : Serves s l w) (work : f s = (r, t)) (quiet : Quiet s t) : s.request l w f = t.answer l r := by
  rw [State.request_steady serves (by rw [work]; exact quiet.steady), work]

/-- An answer leaves every object but the links' last results. -/
theorem State.get_answer_apart (s : State) (l : Link) (r : Result) {k : Nat}
    (apart : k ∉ [Reg.SPT_LAST_RESULT, Reg.TWA_LAST_RESULT, Reg.CAN_LAST_RESULT]) : (s.answer l r).get k = s.get k := by
  refine State.get_answer_ne _ _ ?_
  rintro rfl
  cases l <;> simp [Link.lastResult] at apart

/-! ### The request (R55 to R57, Table 2.4) -/

/-- No check stands against a request that Table 2.4 gives, with nothing in progress, outside a DEBUG session, that needs
neither a valid configuration nor the absence of faults. -/
theorem State.modeRefusal_passes {s : State} {l : Link} {m : Mode} (test : s.mode = .hold → m = .test → s.testSession l = true)
    (allowed : tableAllows s.mode m = true) (debug : s.get Reg.SESSION_KIND = 3 → m = .hold ∨ m = .test)
    (idle : s.sys.trans = none) (commit : s.get Reg.COMMIT_STATE = 0) (up : ¬ (s.mode = .hold ∧ m = .ready))
    (run : ¬ (s.mode = .ready ∧ m = .run)) : ∀ p ∈ s.modeRefusal l m, p.1 = false := by
  have session : (decide (s.get Reg.SESSION_KIND = 3) && (m = .ready || m = .run || m = .watch)) = false := by
    by_cases kind : s.get Reg.SESSION_KIND = 3
    · obtain rfl | rfl := debug kind <;> simp
    · simp [kind]
  have hold : (decide (s.mode = .hold) && m = .ready) = false := by simpa using up
  have ready : (decide (s.mode = .ready) && m = .run) = false := by simpa using run
  have denied : (decide (s.mode = .hold) && m = .test && !s.testSession l) = false := by
    simpa using test
  simp only [State.modeRefusal, List.mem_cons, List.not_mem_nil, or_false]
  rintro p (rfl | rfl | rfl | rfl | rfl | rfl)
  · exact denied
  · simp [allowed]
  · exact session
  · simp [idle, commit]
  · simp [hold]
  · simp [hold, ready]

/-- A request for the mode in force, with nothing in progress, is answered OK and does nothing (R56). -/
theorem State.modeRequest_inForce {s : State} {l : Link} {v : Nat} (code : modeOf v = some s.mode) (idle : s.sys.trans = none)
    (commit : s.get Reg.COMMIT_STATE = 0) : s.modeRequest l v = (.ok, s) := by
  simp [State.modeRequest, State.modeAsked, code, idle, commit]

/-- A request for another mode that no check refuses is carried out from MODE_REQUEST on (R55). -/
theorem State.modeRequest_goes {s : State} {l : Link} {v : Nat} {m : Mode} (code : modeOf v = some m) (other : m ≠ s.mode)
    (passes : ∀ p ∈ s.modeRefusal l m, p.1 = false) :
    s.modeRequest l v = (.ok,
      if s.mode = .watch && (m = .ready || m = .run) then (s.put Reg.MODE_REQUEST v).wake 128 (m = .run) (some l)
      else (s.put Reg.MODE_REQUEST v).startTrans m (some l) (if m = .hold then 8 else 0)) := by
  have asked : s.modeAsked l v = (.ok,
      if s.mode = .watch && (m = .ready || m = .run) then (s.put Reg.MODE_REQUEST v).wake 128 (m = .run) (some l)
      else (s.put Reg.MODE_REQUEST v).startTrans m (some l) (if m = .hold then 8 else 0)) := by
    simp only [State.modeAsked, code]
    rw [if_neg (by simp [other])]
    exact checks_pass passes
  rw [State.modeRequest, asked, if_pos rfl]

/-! ### The transition under way (R55, R60, R79) -/

/-- The state in which a transition has been entered in the part's registers. -/
def State.moving (s : State) (x : Trans) : State :=
  { s with sys := { s.sys with trans := some x, wakeBits := 0, wakeRun := false } }

/-- From RUN, and where no calibration or link has to come up, the transition brings nothing but the end of rounds and dwells. -/
theorem State.startTrans_moving {s : State} {m : Mode} (l : Option Link) (reason : Nat)
    (easy : s.mode = .run ∨ s.mode = .ready ∧ m ≠ .run ∨ s.mode = .hold ∧ m ≠ .ready) :
    Quiet (s.moving ⟨m, false, l, reason⟩) (s.startTrans m l reason) ∧
    Writes QuadsUp (s.moving ⟨m, false, l, reason⟩) (s.startTrans m l reason) := by
  have quiet := Quiet.refl (s.moving ⟨m, false, l, reason⟩)
  have writes := Writes.refl QuadsUp (s.moving ⟨m, false, l, reason⟩)
  unfold State.startTrans
  split
  · exact ⟨quiet.endRounds, writes.endRounds⟩
  · next hold =>
    have notReady : m ≠ .ready := by simpa [hold] using easy
    rw [if_neg notReady]
    exact ⟨quiet, writes⟩
  · next watch => simp [watch] at easy
  · next ready =>
    have notRun : m ≠ .run := by simpa [ready] using easy
    rw [if_neg notRun]
    exact ⟨quiet, writes⟩
  · exact ⟨quiet, writes⟩

theorem Quiet.trans_eq {s t : State} (h : Quiet s t) : t.sys.trans = s.sys.trans := by
  obtain ⟨-, -, off, sys⟩ := h
  rw [sys]

/-- A served request that no check refuses, from RUN or to a mode that brings nothing up, is answered OK with the transition
under way and the mode still in force (R55). -/
theorem State.request_starts {s : State} {l : Link} {v : Nat} {m : Mode} (serves : Serves s l true) (code : modeOf v = some m)
    (other : m ≠ s.mode) (passes : ∀ p ∈ s.modeRefusal l m, p.1 = false)
    (easy : s.mode = .run ∨ s.mode = .ready ∧ m ≠ .run ∨ s.mode = .hold ∧ m ≠ .ready) :
    ∃ t, s.request l true (fun u => u.modeRequest l v) = t ∧ Answered t l .ok ∧
      t.sys.trans = some ⟨m, false, some l, if m = .hold then 8 else 0⟩ ∧ t.mode = s.mode ∧ t.get Reg.MODE_REQUEST = v := by
  obtain ⟨quiet, writes⟩ := State.startTrans_moving (s := s.put Reg.MODE_REQUEST v) (some l) (if m = .hold then 8 else 0) easy
  have asleep : ¬ (s.mode = .watch && (m = .ready || m = .run)) = true := by
    obtain run | ⟨ready, -⟩ | ⟨hold, -⟩ := easy <;> simp_all
  have goes := State.modeRequest_goes code other passes
  rw [if_neg asleep] at goes
  have steady := quiet.steady
  refine ⟨_, State.request_steady serves (by rw [goes]; exact ⟨steady.phase, steady.firing, steady.resetDue⟩), ?_⟩
  rw [goes]
  refine ⟨State.answered_answer .., quiet.trans_eq, quiet.mode_eq, ?_⟩
  rw [State.get_answer_apart _ _ _ (by decide), writes.get _ (by unfold QuadsUp; decide)]
  exact State.get_put_self ..

/-- The training of links changes the hubs only. -/
theorem State.linksTrain_only (s : State) : ∃ x, s.linksTrain = { s with hubs := x } := by
  refine List.foldlRecOn s.quadList _ (motive := fun t => ∃ x : Tab Hub, t = { s with hubs := x }) ⟨s.hubs, rfl⟩ ?_
  rintro _ ⟨x, rfl⟩ q -
  split
  · exact ⟨_, rfl⟩
  · exact ⟨x, rfl⟩

/-- A wake begins in WATCH, its transition under way and its source shown (R79). -/
theorem State.wake_starts {s : State} (bits : Nat) (run : Bool) (l : Option Link) (idle : s.sys.trans = none) :
    (s.wake bits run l).sys.trans = some ⟨if run then .run else .ready, false, l, 0⟩ ∧ (s.wake bits run l).mode = s.mode ∧
    (s.wake bits run l).get Reg.WAKE_CAUSE = bits ∧ Steady s (s.wake bits run l) := by
  obtain ⟨x, train⟩ := s.stopBreath.linksTrain_only
  have quiet := (Quiet.refl s).stopBreath
  have steady := quiet.steady
  simp only [State.wake, idle, train]
  exact ⟨trivial, quiet.mode_eq, State.get_put_self .., steady.phase, steady.firing, steady.resetDue⟩

/-- A served request out of WATCH that no check refuses is answered OK and wakes the part (R77, R79). -/
theorem State.request_wakes {s : State} {l : Link} {v : Nat} {m : Mode} (serves : Serves s l true) (code : modeOf v = some m)
    (watch : s.mode = .watch) (target : m = .ready ∨ m = .run) (idle : s.sys.trans = none)
    (passes : ∀ p ∈ s.modeRefusal l m, p.1 = false) :
    ∃ t, s.request l true (fun u => u.modeRequest l v) = t ∧ Answered t l .ok ∧ t.sys.trans = some ⟨m, false, some l, 0⟩ ∧
      t.mode = s.mode ∧ t.get Reg.WAKE_CAUSE = 128 := by
  have other : m ≠ s.mode := by
    rw [watch]
    rintro rfl
    simp at target
  have goes := State.modeRequest_goes code other passes
  rw [if_pos (by simpa [watch] using target)] at goes
  obtain ⟨trans, mode, cause, steady⟩ := State.wake_starts (s := s.put Reg.MODE_REQUEST v) 128 (m = .run) (some l) idle
  refine ⟨_, State.request_steady serves (by rw [goes]; exact ⟨steady.phase, steady.firing, steady.resetDue⟩), ?_⟩
  rw [goes]
  refine ⟨State.answered_answer .., trans.trans ?_, mode, ?_⟩
  · obtain rfl | rfl := target <;> rfl
  · exact (State.get_answer_apart _ _ _ (by decide)).trans cause

/-- Settles O7, by the transition that a request starts when no check of Table 2.4 refuses it. -/
theorem modeRequestsStartTransitions : Obligations.ModeRequestsStartTransitions := by
  refine ⟨fun l s serves idle commit mode => ?_, fun l s serves idle commit kind mode => ?_,
    fun l s serves idle commit kind mode => ?_, fun l s serves idle commit kind mode => ?_,
    fun l s serves idle commit mode session => ?_⟩
  · have passes : ∀ p ∈ s.modeRefusal l .hold, p.1 = false := by
      refine State.modeRefusal_passes nofun ?_ (fun _ => .inl rfl) idle commit nofun nofun
      obtain mode | mode := mode <;> rw [mode] <;> rfl
    obtain ⟨t, asked, started⟩ := State.request_starts (v := 1) serves rfl (by obtain mode | mode := mode <;> simp [mode])
      passes (mode.imp_right fun ready => .inl ⟨ready, nofun⟩)
    exact ⟨t, congrArg _ asked, started⟩
  · have passes : ∀ p ∈ s.modeRefusal l .ready, p.1 = false :=
      State.modeRefusal_passes nofun (by rw [mode]; rfl) (absurd · kind) idle commit (by simp [mode]) nofun
    obtain ⟨t, asked, started⟩ := State.request_starts (v := 2) serves rfl (by simp [mode]) passes (.inl mode)
    exact ⟨t, congrArg _ asked, started⟩
  · have passes : ∀ p ∈ s.modeRefusal l .run, p.1 = false :=
      State.modeRefusal_passes nofun (by rw [mode]; rfl) (absurd · kind) idle commit nofun (by simp [mode])
    obtain ⟨t, asked, started⟩ := State.request_wakes (v := 3) serves rfl mode (.inr rfl) idle passes
    exact ⟨t, congrArg _ asked, started⟩
  · have passes : ∀ p ∈ s.modeRefusal l .watch, p.1 = false := by
      refine State.modeRefusal_passes nofun ?_ (absurd · kind) idle commit nofun nofun
      obtain mode | mode := mode <;> rw [mode] <;> rfl
    obtain ⟨t, asked, started⟩ := State.request_starts (v := 4) serves rfl (by obtain mode | mode := mode <;> simp [mode])
      passes (mode.symm.imp_right fun ready => .inl ⟨ready, nofun⟩)
    exact ⟨t, congrArg _ asked, started⟩
  · have passes : ∀ p ∈ s.modeRefusal l .test, p.1 = false :=
      State.modeRefusal_passes (fun _ _ => session) (by rw [mode]; rfl) (fun _ => .inr rfl) idle commit nofun nofun
    obtain ⟨t, asked, started⟩ := State.request_starts (v := 5) serves rfl (by simp [mode]) passes
      (.inr (.inr ⟨mode, nofun⟩))
    exact ⟨t, congrArg _ asked, started⟩

/-- A served request for the mode in force comes to its answer alone (R56). -/
theorem State.request_inForce {s : State} {l : Link} {v : Nat} (serves : Serves s l true) (code : modeOf v = some s.mode)
    (idle : s.sys.trans = none) (commit : s.get Reg.COMMIT_STATE = 0) :
    s.request l true (fun u => u.modeRequest l v) = s.answer l .ok := by
  have same := State.modeRequest_inForce (l := l) code idle commit
  rw [State.request_answers serves (by rw [same]), same]

theorem State.answered_only (s : State) (l : Link) (r : Result) :
    Answered (s.answer l r) l r ∧ SameButAnswer l [] s (s.answer l r) :=
  ⟨s.answered_answer l r, (SameBut.refl [] s).answer l r⟩

/-- Settles O60, by the answer that a request for the mode in force comes to. -/
theorem aRequestForTheModeInForce : Obligations.ARequestForTheModeInForce := by
  refine ⟨fun l s serves mode idle commit => ?_, fun l s serves mode idle commit => ?_, fun l s serves mode idle commit => ?_,
    fun l s serves mode idle commit => ?_, fun l s serves mode idle commit => ?_⟩ <;>
    exact ⟨_, congrArg Host.Outcome.next (State.request_inForce serves (by rw [mode]; rfl) idle commit), s.answered_only l .ok⟩

/-! ### The end of a transition (R49, R54, R55) -/

/-- A mode has come into force: no transition is left, event 1 is latched and HOLD_REASON is the mode's (R49, R54). -/
structure InForce (t : State) (m : Mode) (reason : Nat) : Prop where
  mode : t.mode = m
  idle : t.sys.trans = none
  told : t.latched 1 = true
  reason : t.get Reg.HOLD_REASON = reason

/-- The mode set with its HOLD_REASON, event 1 still to be latched. -/
def State.entering (s : State) (m : Mode) (reason : Nat) : State :=
  ({ s with mode := m, sys := { s.sys with trans := none, unacked := if m = Mode.hold then s.sys.unacked else 0 } }).put
    Reg.HOLD_REASON (if m = Mode.hold then reason else 0)

theorem State.enter_eq (s : State) (m : Mode) (reason : Nat) :
    s.enter m reason = (s.entering m reason).latch 1 Reg.MODE_CURRENT (Mode.code m) := rfl

theorem State.enter_inForce (s : State) (m : Mode) (reason : Nat) :
    InForce (s.enter m reason) m (if m = .hold then reason else 0) := by
  have quiet := (Quiet.refl (s.entering m reason)).latch 1 Reg.MODE_CURRENT (Mode.code m)
  rw [s.enter_eq]
  refine ⟨quiet.mode_eq, quiet.trans_eq, State.latched_latch .., ?_⟩
  rw [State.get_latch_ne _ _ _ _ (by decide)]
  exact State.get_put_self ..

theorem InForce.showHf {t : State} {m : Mode} {reason : Nat} (h : InForce t m reason) : InForce t.showHf m reason := by
  have quiet := (Quiet.refl t).showHf
  have writes : Writes QuadsUp t t.showHf :=
    (Writes.refl _ t).ite ((Writes.refl _ t).recordIf (by unfold QuadsUp; decide) (by simp [QuadsUp, Reg.HF_STATE]))
  refine ⟨quiet.mode_eq.trans h.mode, quiet.trans_eq.trans h.idle, ?_, ?_⟩
  · rw [State.latched, writes.get _ (by unfold QuadsUp; decide)]
    exact h.told
  · rw [writes.get _ (by unfold QuadsUp; decide)]
    exact h.reason

/-- The mode asked for being in force, only MODE_RESULT is still to come: OK for the link that asked (R55). -/
theorem InForce.arrived {t : State} {m : Mode} {reason : Nat} (h : InForce t m reason) (x : Trans) :
    InForce (t.arrived x) m reason ∧ (x.link ≠ none → (t.arrived x).get Reg.MODE_RESULT = 0) := by
  unfold State.arrived
  split
  · refine ⟨⟨h.mode, h.idle, ?_, ?_⟩, fun _ => State.get_put_self ..⟩
    · rw [State.latched, State.get_put_ne _ _ (by decide)]
      exact h.told
    · rw [State.get_put_ne _ _ (by decide)]
      exact h.reason
  · next noLink => exact ⟨h, fun asked => absurd (Option.isSome_iff_ne_none.2 asked) noLink⟩

/-- MODE_TRANSITION_DONE where RUN is not held, by the mode asked for. -/
theorem exec_modeTransitionDone {s : State} {x : Trans} (moving : s.sys.trans = some x) (free : s.runHeld x = false) :
    (x.target = .hold → exec .modeTransitionDone s = .next ((s.enterHold x.reason).arrived x)) ∧
    (x.target = .test → exec .modeTransitionDone s = .next ((s.enter .test 0).arrived x)) ∧
    (x.target = .ready → s.calsDone = true → s.sweep = none → s.hf.calRuns = false →
      exec .modeTransitionDone s = .next (s.enterReady.arrived x)) := by
  have exec_eq : exec .modeTransitionDone s = execModeTransitionDone s := rfl
  refine ⟨fun target => ?_, fun target => ?_, fun target cals sweep slide => ?_⟩
  · simp [exec_eq, execModeTransitionDone, moving, free, target]
  · simp [exec_eq, execModeTransitionDone, moving, free, target]
  · simp [exec_eq, execModeTransitionDone, moving, free, target, cals, sweep, slide]

/-- Settles O8, by what a mode coming into force leaves, whatever its entry does first. -/
theorem transitionsEndInTheirMode : Obligations.TransitionsEndInTheirMode := by
  refine ⟨fun x s moving target free => ?_, fun x s moving target free => ?_,
    fun x s moving target free cals sweep slide => ?_⟩ <;>
    obtain ⟨hold, test, ready⟩ := exec_modeTransitionDone moving free
  · obtain ⟨⟨mode, idle, told, reason⟩, result⟩ := (State.enter_inForce _ .hold x.reason).showHf.arrived x
    exact ⟨_, hold target, mode, idle, told, reason, result⟩
  · obtain ⟨⟨mode, idle, told, reason⟩, result⟩ := (s.enter_inForce .test 0).arrived x
    exact ⟨_, test target, mode, idle, told, reason, result⟩
  · obtain ⟨⟨mode, idle, told, reason⟩, result⟩ := (State.enter_inForce _ .ready 0).showHf.arrived x
    exact ⟨_, ready target cals sweep slide, mode, idle, told, reason, result⟩

end Sys2Proof.Machine
end

section
/-! SUPPORT. The resets of the part and what they keep (R58, R556, R574, R577), and the statement settled with them. -/

namespace Sys2Proof.Machine

/-- What every reset leaves: the mode BOOT, and what fuses, CX NVM, the flashes, the retention domain and the queue hold. -/
def ResetKeeps (s t : State) : Prop :=
  t.mode = .boot ∧ t.sec.debugFuse = s.sec.debugFuse ∧ t.cfg.rec0 = s.cfg.rec0 ∧ t.cfg.rec1 = s.cfg.rec1 ∧
    t.mem.retired = s.mem.retired ∧ t.brd.flash = s.brd.flash ∧ t.brd.stored = s.brd.stored ∧ t.io.linkRec = s.io.linkRec ∧
    t.ilk = s.ilk ∧ t.pending = s.pending

theorem State.resetPart_keeps (s : State) (cause detail : Nat) (phase : ResetPhase) :
    ResetKeeps s (s.resetPart cause detail phase) :=
  ⟨rfl, rfl, rfl, rfl, rfl, rfl, rfl, rfl, rfl, rfl⟩

theorem State.phase_resetPart (s : State) (cause detail : Nat) (phase : ResetPhase) :
    (s.resetPart cause detail phase).sys.phase = phase := rfl

/-- The cause and the detail show after a reset (R556). -/
theorem State.get_resetPart (s : State) (cause detail : Nat) (phase : ResetPhase) :
    (s.resetPart cause detail phase).get Reg.RESET_CAUSE = cause ∧ (s.resetPart cause detail phase).get Reg.RESET_DETAIL = detail :=
  ⟨State.get_puts_last _ [] _ _ _ (by simp [Reg.RESET_CAUSE, Reg.RESET_DETAIL, Reg.SPARE_ROWS_USED]),
    State.get_puts_last _ [(Reg.RESET_CAUSE, cause)] _ _ _ (by simp [Reg.RESET_DETAIL, Reg.SPARE_ROWS_USED])⟩

/-- The state in which link `l` has its reset due, the request answered (R58). -/
def State.resetAsked (s : State) (l : Link) : State :=
  ({ s with sys := { s.sys with resetDue := some (l, 4, Link.code l) } }).answer l .ok

/-- A served RESET_REQUEST is answered, and the part resets at the end of the answer (R58). -/
theorem exec_resetRequest {s : State} {l : Link} (serves : Serves s l false) :
    exec (.resetRequest l) s = .next (s.resetAsked l).resets := by
  have released := serves.released
  refine congrArg Host.Outcome.next ((State.request_serves serves).trans ?_)
  have passes : s.resetRequest l 0xA5 = (.ok, { s with sys := { s.sys with resetDue := some (l, 4, Link.code l) } }) :=
    checks_pass (by simp)
  obtain ⟨-, -, -, free, -⟩ := serves
  rw [passes, if_neg (by simp [free, released])]
  exact if_pos (by simp [State.answer, State.put])

/-- The reset that a request asked for is that of cause 4 with the link as its detail; the answer's bytes stay. -/
theorem State.resets_resetAsked (s : State) (l : Link) : (s.resetAsked l).resets.sys.phase = .resetHeld ∧
    (s.resetAsked l).resets.get Reg.RESET_CAUSE = 4 ∧ (s.resetAsked l).resets.get Reg.RESET_DETAIL = Link.code l ∧
    ResetKeeps s (s.resetAsked l).resets := by
  obtain ⟨cause, detail⟩ := (s.resetAsked l).get_resetPart 4 (Link.code l) .resetHeld
  exact ⟨rfl, cause, detail, rfl, rfl, rfl, rfl, rfl, rfl, rfl, rfl, rfl, rfl⟩

theorem exec_resetNAssert {s : State} (powered : s.sys.phase ≠ .porHeld) :
    exec .resetNAssert s = .next (s.resetPart 1 0 .resetHeld) := by
  show execResetNAssert s = _
  rw [execResetNAssert, if_neg powered]

/-- Settles O9, by the reset of the part that each cause comes to. -/
theorem resetsKeepWhatIsStored : Obligations.ResetsKeepWhatIsStored := by
  refine ⟨fun l s serves => ?_, fun s powered => ?_, fun s => ?_, fun b s => ?_⟩
  · exact ⟨_, exec_resetRequest serves, s.resets_resetAsked l⟩
  · obtain ⟨cause, detail⟩ := s.get_resetPart 1 0 .resetHeld
    exact ⟨_, exec_resetNAssert powered, s.phase_resetPart .., cause, detail, s.resetPart_keeps ..⟩
  · obtain ⟨cause, detail⟩ := s.get_resetPart 2 0 .porHeld
    exact ⟨_, rfl, s.phase_resetPart .., cause, detail, s.resetPart_keeps ..⟩
  · obtain ⟨cause, -⟩ := s.get_resetPart 2 0 .porHeld
    exact ⟨_, rfl, s.phase_resetPart .., cause, s.resetPart_keeps ..⟩

end Sys2Proof.Machine
end

section
/-! SUPPORT. The TEST carrier, the TEST field and the capture (R86), and the statement settled with them. -/

namespace Sys2Proof.Machine

/-! ### Masks -/

theorem testBit_setBit (v i j : Nat) : (setBit v i).testBit j = true ↔ v.testBit j = true ∨ i = j := by
  simp [setBit, Nat.testBit_two_pow]

/-- A mask has the bits of its list. -/
theorem testBit_maskOf (l : List Nat) (i : Nat) : (maskOf l).testBit i = true ↔ i ∈ l := by
  have folded : ∀ m : Nat, (l.foldl setBit m).testBit i = true ↔ m.testBit i = true ∨ i ∈ l := by
    induction l with
    | nil => simp
    | cons j r ih =>
      intro m
      rw [List.foldl_cons, ih, testBit_setBit, List.mem_cons, or_assoc, eq_comm (a := j)]
  exact (folded 0).trans (by simp)

/-! ### The carrier -/

theorem State.testC_keepFwd (s : State) (c : Nat) : (s.keepFwd c).testC = s.testC := by
  unfold State.keepFwd
  extract_lets khz
  split <;> rfl

theorem State.testC_rampDown (s : State) (c : Nat) : (s.rampDown c).testC = s.testC := by
  unfold State.rampDown
  split
  · simp [s.testC_keepFwd c]
  · rfl

theorem State.testC_rampQuad (s : State) (q : Nat) : (s.rampQuad q).testC = s.testC :=
  List.foldlRecOn (motive := fun t : State => t.testC = s.testC) _ _ rfl fun t kept c _ => (t.testC_rampDown c).trans kept

theorem State.testC_phaseless (s : State) (q : Nat) : (s.phaseless q).testC = s.testC := by
  unfold State.phaseless
  extract_lets s1 s2
  have shown : s1.testC = s.testC := by simp [s1]
  exact List.foldlRecOn (motive := fun t : State => t.testC = s.testC) _ _ shown fun _ kept _ _ => kept

/-- A quad's retuning leaves the TEST carrier's request as it is. -/
theorem State.testC_retune (s : State) (q khz : Nat) (why : Option HeldBy) : (s.retune q khz why).testC = s.testC := by
  have kept : ((s.rampQuad q).phaseless q).testC = s.testC := (State.testC_phaseless ..).trans (s.testC_rampQuad q)
  unfold State.retune
  extract_lets s1
  have asked : s1.testC = s.testC := by simp [s1, kept]
  split
  · exact asked
  · simp [asked]

theorem State.testC_testUp (s : State) : s.testUp.testC = s.testC := by
  unfold State.testUp
  split
  · rfl
  · split
    · simp
    · rfl

theorem Quiet.testUp {s t : State} (h : Quiet s t) : Quiet s t.testUp := by
  unfold State.testUp
  split
  · exact h
  · exact (h.record ..).ite h

/-- The quads that the TEST carrier takes: those in service with a chain of the mask in service (R86). -/
def State.testQuads (s : State) : List Nat := s.quadList.filter fun q => s.quadIn q && (s.testChains.any fun c => c / 4 = q)

theorem State.mem_testQuads {s : State} {q : Nat} (lt : q < Variant.quads s.variant) :
    q ∈ s.testQuads ↔ s.quadIn q = true ∧ ∃ c ∈ s.testChains, c / 4 = q := by
  simp [State.testQuads, State.quadList, lt]

/-- A TEST carrier that starts tunes its quads, none of them locked or measured yet. -/
theorem State.testC_startTest (s : State) : s.startTest.testC = some ⟨maskOf s.testQuads, maskOf s.testQuads, false⟩ := by
  unfold State.startTest
  extract_lets qs m s1
  refine (State.testC_testUp _).trans ?_
  exact List.foldlRecOn (motive := fun t : State => t.testC = some ⟨m, m, false⟩) _ _ (by simp [s1])
    fun t kept q _ => (t.testC_retune ..).trans kept

theorem Quiet.startTest {s t : State} (h : Quiet s t) : Quiet s t.startTest := by
  unfold State.startTest
  extract_lets qs m s1
  have begun : Quiet s s1 := (h.testC _).record ..
  exact (begun.foldl _ fun _ _ hu => hu.retune ..).testUp

/-- The TEST carrier stops in state 3, ramped down (R86). -/
theorem State.stopTest_ends {s : State} {x : TestC} (up : s.testC = some x) :
    s.stopTest.testC = none ∧ s.stopTest.get Reg.TEST_CARRIER_STATE = 3 ∧ Quiet s s.stopTest := by
  simp only [State.stopTest, up]
  exact ⟨rfl, State.get_record_one _ _ (by decide), (((Quiet.refl s).rampAll).testC none).record ..⟩

/-- A write of TEST_CARRIER 1 that no check of R86 refuses starts the carrier. -/
theorem State.testCarrier_starts {s : State} (mode : s.mode = .test) (notTuning : s.get Reg.TEST_CARRIER_STATE ≠ 1)
    (notUp : s.get Reg.TEST_CARRIER_STATE ≠ 2) (chains : s.testNone = false) (sound : s.critical = 0)
    (ref : s.sys.refLost = false)
    (permits : s.interlock (s.get Reg.TEST_FREQ_KHZ) (s.testChains.map fun c => (c, s.i16 Reg.TEST_LEVEL)) = true) :
    s.testCarrier 1 = (.ok, s.startTest) := by
  simp [State.testCarrier, mode, notTuning, notUp, chains, sound, ref, permits]

theorem State.testCarrier_stops {s : State} (mode : s.mode = .test) : s.testCarrier 0 = (.ok, s.stopTest) := by
  simp [State.testCarrier, mode]

/-! ### The field -/

/-- HX as it is with the TEST field up, beside a calibration that may run. -/
def Hf.testing (h : Hf) : Hf := { h with test := true, warned := false, excess := 0 }

/-- The state with the TEST field up: where Slide is to be calibrated first at 20 mW, else at TEST_HF_POWER_MW (R86, R415). -/
def State.testFieldUp (s : State) : State :=
  (if s.slideStale then (s.updHf Hf.testing).startSlide else (s.updHf Hf.testing).raiseField (s.get Reg.TEST_HF_POWER_MW)).put
    Reg.TEST_HF_STATE 1

/-- A write of TEST_HF_FIELD 1 that no check of R86 refuses raises the field. -/
theorem State.testField_raises {s : State} (mode : s.mode = .test) (hx : Variant.hx s.variant = true)
    (down : s.hf.fieldAt = none) (inService : s.get Reg.HF_STATE ≠ 5) (sound : s.critical = 0) (ref : s.sys.refLost = false)
    (enabled : s.get Reg.HF_ENABLE = 1) : s.testField 1 = (.ok, s.testFieldUp) := by
  unfold State.testField
  extract_lets s1
  have raised : (if s1.slideStale then s1.startSlide else s1.raiseField (s.get Reg.TEST_HF_POWER_MW)).put Reg.TEST_HF_STATE 1 =
    s.testFieldUp := rfl
  rw [raised]
  simp [mode, hx, down, inService, sound, ref, enabled]

/-- The power at which the TEST field rises. -/
def State.testFieldPower (s : State) : Nat := if s.slideStale then 20 else s.get Reg.TEST_HF_POWER_MW

/-- A field that rises shows its power; all else it changes is HX's part (R399). -/
theorem State.raiseField_updHf (s : State) (f : Hf → Hf) (mw : Nat) : (s.updHf f).raiseField mw =
    { s.record Reg.HSTATE_SEQ [(Reg.HF_TX_POWER_NOW, mw)] with
      hf := { f s.hf with fieldAt := some ((f s.hf).fieldAt.getD s.tim.now) } } := rfl

theorem State.put_withHf (s : State) (h : Hf) (k v : Nat) :
    ({ s with hf := h } : State).put k v = { s.put k v with hf := h } := rfl

/-- The TEST field that rises shows its power and its state, and all else it changes is HX's part (R86, R399). -/
theorem State.testFieldUp_only {s : State} (down : s.hf.fieldAt = none) : ∃ h : Hf, s.testFieldUp =
      { (s.record Reg.HSTATE_SEQ [(Reg.HF_TX_POWER_NOW, s.testFieldPower)]).put Reg.TEST_HF_STATE 1 with hf := h } ∧
    h.fieldAt = some s.tim.now ∧ h.test = true := by
  by_cases due : s.slideStale = true
  · rw [State.testFieldUp, State.testFieldPower, if_pos due, if_pos due, State.startSlide, State.raiseField_updHf]
    exact ⟨_, State.put_withHf .., by simp [Hf.testing, down], rfl⟩
  · rw [State.testFieldUp, State.testFieldPower, if_neg due, if_neg due, State.raiseField_updHf]
    exact ⟨_, State.put_withHf .., by simp [Hf.testing, down], rfl⟩

/-- The TEST field that is up drops (R86, R399). -/
theorem State.endTestField_ends {s : State} {a : Nat} (test : s.hf.test = true) (up : s.hf.fieldAt = some a) :
    (s.endTestField false).get Reg.TEST_HF_STATE = 0 ∧ (s.endTestField false).hf.fieldAt = none ∧
    (s.endTestField false).hf.test = false := by
  simp only [State.endTestField, test, if_true, State.dropField, up]
  exact ⟨State.get_put_self .., rfl, rfl⟩

theorem State.testField_drops {s : State} (mode : s.mode = .test) (hx : Variant.hx s.variant = true) :
    s.testField 0 = (.ok, s.endTestField false) := by
  simp [State.testField, mode, hx]

/-! ### The capture -/

/-- A capture that no check refuses begins: its chain's die sends its samples (R86). -/
theorem State.capture_begins {s : State} (mode : s.mode = .test) (idle : s.get Reg.CAPTURE_STATE ≠ 1) :
    ∃ x, s.capture 1 = (.ok, ({ s with hubs := x } : State).record Reg.TCAP_SEQ [(Reg.CAPTURE_STATE, 1)]) :=
  ⟨_, checks_pass (by simp [mode, idle])⟩

/-- A capture ends with its 16,384 samples in CAPTURE_DATA (R86). -/
theorem exec_captureDone {s : State} (data : Bytes) (runs : s.get Reg.CAPTURE_STATE = 1) :
    exec (.captureDone data) s = .next (((s.updChain (s.get Reg.CAPTURE_CHAIN) fun x => { x with captured := 16384 }).putDom
      Reg.CAPTURE_DATA (padTo 49152 data)).record Reg.TCAP_SEQ [(Reg.CAPTURE_STATE, 2)]) :=
  congrArg Host.Outcome.next (if_pos runs)

/-- Settles O11, by what each accepted TEST command makes of the state and the answer that follows. -/
theorem testCommands : Obligations.TestCommands := by
  refine ⟨fun l s serves mode notTuning notUp chains sound ref permits => ?_, fun l x s serves mode up => ?_,
    fun x s up carrier => ?_, fun l s serves mode hx down inService sound ref enabled => ?_,
    fun l a s serves mode hx test up => ?_, fun a s test up => ?_, fun l s serves mode idle => ?_, fun data s runs => ?_⟩
  · have work := State.testCarrier_starts mode notTuning notUp chains sound ref permits
    refine ⟨_, congrArg Host.Outcome.next (State.request_quiet serves work (Quiet.refl s).startTest), State.answered_answer ..,
      _, s.testC_startTest, rfl, rfl, fun q lt => ?_⟩
    rw [testBit_maskOf, State.mem_testQuads lt]
  · obtain ⟨ended, state, quiet⟩ := State.stopTest_ends up
    exact ⟨_, congrArg Host.Outcome.next (State.request_quiet serves (State.testCarrier_stops mode) quiet),
      State.answered_answer .., ended, (State.get_answer_apart _ _ _ (by decide)).trans state⟩
  · obtain ⟨ended, state, quiet⟩ := State.stopTest_ends carrier
    exact ⟨_, congrArg Host.Outcome.next (if_pos up), ended, state, quiet.mode_eq⟩
  · have work := State.testField_raises mode hx down inService sound ref enabled
    obtain ⟨h, only, field, test⟩ := s.testFieldUp_only down
    have same : SameBut [Reg.TEST_HF_STATE, Reg.HF_TX_POWER_NOW, Reg.HSTATE_SEQ] s
        ((s.record Reg.HSTATE_SEQ [(Reg.HF_TX_POWER_NOW, s.testFieldPower)]).put Reg.TEST_HF_STATE 1) :=
      (SameBut.record (by simp) (by simp)).trans (SameBut.put _ (by simp))
    rw [only] at work
    refine ⟨_, congrArg Host.Outcome.next (State.request_answers serves (by rw [work]; rfl)), ?_⟩
    rw [work]
    refine ⟨State.answered_answer .., ?_, ?_, field, test, same.answer l .ok⟩
    · exact (State.get_answer_apart _ _ _ (by decide)).trans (State.get_put_self ..)
    · exact (State.get_answer_apart _ _ _ (by decide)).trans
        ((State.get_put_ne _ _ (by decide)).trans (State.get_record_one _ _ (by decide)))
  · obtain ⟨state, field, ended⟩ := State.endTestField_ends test up
    have quiet := (Quiet.refl s).endTestField false
    exact ⟨_, congrArg Host.Outcome.next (State.request_quiet serves (State.testField_drops mode hx) quiet),
      State.answered_answer .., (State.get_answer_apart _ _ _ (by decide)).trans state, field, ended⟩
  · exact ⟨_, rfl, State.endTestField_ends test up⟩
  · obtain ⟨x, work⟩ := State.capture_begins mode idle
    refine ⟨_, congrArg Host.Outcome.next (State.request_answers serves (by rw [work]; rfl)), ?_⟩
    rw [work]
    refine ⟨State.answered_answer .., ?_, ?_⟩
    · exact (State.get_answer_apart _ _ _ (by decide)).trans (State.get_record_one _ _ (by decide))
    · have same : SameBut [Reg.CAPTURE_STATE, Reg.TCAP_SEQ] s (s.record Reg.TCAP_SEQ [(Reg.CAPTURE_STATE, 1)]) :=
        SameBut.record (by simp) (by simp)
      exact same.answer l .ok
  · refine ⟨_, exec_captureDone data runs, State.get_record_one _ _ (by decide), ?_, ?_, ?_⟩
    · rw [State.dom_congr (State.record_doms ..) (State.record_variant ..), State.dom_putDom_self]
    · simp [State.chain, State.updChain]
    · have same : SameBut [Reg.CAPTURE_STATE, Reg.TCAP_SEQ] s (s.record Reg.TCAP_SEQ [(Reg.CAPTURE_STATE, 2)]) :=
        SameBut.record (by simp) (by simp)
      exact same

end Sys2Proof.Machine
end

section
/-! SUPPORT. NMT commands, the heartbeat and the error states of the CAN controllers (R75, R450 to R455), and the statement
settled with them. -/

namespace Sys2Proof.Machine

/-! ### NMT commands (R75, R454) -/

/-- Outside WATCH and its entry no wake source acts (R80). -/
theorem State.wakeSource_awake {s : State} (b : Nat) (mode : s.mode ≠ .watch) (idle : s.sys.trans = none) :
    s.wakeSource b = s := by
  simp [State.wakeSource, mode, idle]

/-- With CAN started, outside WATCH and its entry, an NMT command is carried out and wakes nothing. -/
theorem State.nmtCommand_awake {s : State} (f : State → State) (up : s.sys.canUp = true) (mode : s.mode ≠ .watch)
    (idle : s.sys.trans = none) : s.nmtCommand f = f s := by
  rw [State.nmtCommand, if_pos up, State.wakeSource_awake 3 mode idle]

/-- A packet that the push transmitter gives up changes the reports' part only. -/
theorem State.stopPush_only (s : State) : ∃ r, s.stopPush = { s with rep := r } := by
  refine List.foldlRecOn (motive := fun t => ∃ r : Rep, t = { s with rep := r }) _ _ ⟨s.rep, rfl⟩ ?_
  rintro _ ⟨r, rfl⟩ i -
  split
  · exact ⟨_, rfl⟩
  · exact ⟨r, rfl⟩

theorem State.get_stopPush (s : State) (k : Nat) : s.stopPush.get k = s.get k := by
  obtain ⟨r, only⟩ := s.stopPush_only
  rw [only]
  rfl

theorem State.get_updIo (s : State) (f : Io → Io) (k : Nat) : (s.updIo f).get k = s.get k := rfl

/-- A change of the NMT state writes it, and touches the reports and what the host links hold beside. -/
theorem State.enterNmt_only (s : State) (v : Nat) : ∃ i r,
    s.enterNmt v = { s.record Reg.CANSTATE_SEQ [(Reg.CAN_NMT_STATE, v)] with io := i, rep := r } := by
  unfold State.enterNmt
  extract_lets s1
  split
  · exact ⟨_, s1.rep, rfl⟩
  · obtain ⟨r, only⟩ := s1.stopPush_only
    exact ⟨_, r, only⟩

/-- What NMT Start, Stop and Enter Pre-Operational come to (R454). -/
theorem State.enterNmt_enters (s : State) (v : Nat) : (s.enterNmt v).get Reg.CAN_NMT_STATE = v ∧ (s.enterNmt v).mode = s.mode ∧
    SameBut [Reg.CAN_NMT_STATE, Reg.CANSTATE_SEQ] s { s.enterNmt v with io := s.io, rep := s.rep } := by
  obtain ⟨i, r, only⟩ := s.enterNmt_only v
  have same : SameBut [Reg.CAN_NMT_STATE, Reg.CANSTATE_SEQ] s (s.record Reg.CANSTATE_SEQ [(Reg.CAN_NMT_STATE, v)]) :=
    SameBut.record (by simp) (by simp)
  rw [only]
  exact ⟨State.get_record_one _ _ (by decide), rfl, same⟩

/-- The objects that a start of the controllers writes (R450, R454). -/
def State.canStarted (s : State) : State :=
  s.record Reg.CANSTATE_SEQ
    [(Reg.CAN0_STATE, ofBool (bit s.io.inForce.lines 0)), (Reg.CAN1_STATE, ofBool (bit s.io.inForce.lines 1)),
     (Reg.CAN_ACTIVE_LINE, ofBool (s.io.inForce.lines = 2)), (Reg.CAN_NMT_STATE, 0x7F)]

theorem State.startCan_only (s : State) : ∃ i, s.startCan = { s.canStarted with io := i } ∧ i.usdo = none := ⟨_, rfl, rfl⟩

/-- Reset Communication restarts the controllers in Pre-Operational, without a USDO transfer (R75, R454). -/
theorem State.startCan_restarts (s : State) : s.stopPush.startCan.get Reg.CAN_NMT_STATE = 0x7F ∧
    s.stopPush.startCan.mode = s.mode ∧ s.stopPush.startCan.io.usdo = none ∧
    SameBut [Reg.CAN0_STATE, Reg.CAN1_STATE, Reg.CAN_ACTIVE_LINE, Reg.CAN_NMT_STATE, Reg.CANSTATE_SEQ] s
      { s.stopPush.startCan with io := s.io, rep := s.rep } := by
  obtain ⟨r, stopped⟩ := s.stopPush_only
  obtain ⟨i, only, closed⟩ := s.stopPush.startCan_only
  have nmt : s.canStarted.get Reg.CAN_NMT_STATE = 0x7F :=
    (State.get_seq_ne _ (by decide)).trans (State.get_puts_last s [_, _, _] [] _ _ nofun)
  have same : SameBut [Reg.CAN0_STATE, Reg.CAN1_STATE, Reg.CAN_ACTIVE_LINE, Reg.CAN_NMT_STATE, Reg.CANSTATE_SEQ] s s.canStarted :=
    SameBut.record (by simp) (by simp)
  rw [only, stopped]
  exact ⟨nmt, rfl, closed, same⟩

/-- The heartbeat timer sends one frame with the NMT state, outside BOOT by HEARTBEAT_TIME (R455). -/
theorem exec_heartbeatTimer {s : State} (up : s.sys.canUp = true) (mode : s.mode ≠ .boot) (period : s.get Reg.HEARTBEAT_TIME ≠ 0) :
    exec .heartbeatTimer s = .next (s.canSend [s.nmtFrame s.nmt]) := by
  have every : s.heartbeatMs = s.get Reg.HEARTBEAT_TIME := if_neg mode
  exact congrArg Host.Outcome.next (if_pos (by simp [up, every, period]))

theorem State.canSend_live {s : State} (fs : List CanFrame) (live : s.canLive = true) :
    s.canSend fs = { s with io := { s.io with canOut := fs } } := by
  rw [State.canSend, if_pos live]

/-! ### Error states (R450, R453) -/

/-- A controller's state is none of the objects that follow it. -/
theorem canState_apart : ∀ c : Fin 2, canState c ∉
    [Reg.CANSTATE_SEQ, Reg.CAN_ACTIVE_LINE, Reg.CAN_BUSOFF_COUNT, Reg.CAN_NMT_STATE] ++ eventKeys := by
  decide

/-- The line that follows the controllers may change with its group, and end a USDO transfer; nothing else does. -/
theorem State.showLine_only (s : State) : ∃ x u, s.showLine = { s with regs := x, io := { s.io with usdo := u } } := by
  unfold State.showLine
  split
  · exact ⟨s.regs, s.io.usdo, rfl⟩
  · obtain ⟨x, only⟩ := s.record_only Reg.CANSTATE_SEQ [(Reg.CAN_ACTIVE_LINE, s.activeLine)]
    rw [only]
    exact ⟨x, none, rfl⟩

theorem State.get_showLine (s : State) {k : Nat} (seq : k ≠ Reg.CANSTATE_SEQ) (line : k ≠ Reg.CAN_ACTIVE_LINE) :
    s.showLine.get k = s.get k := by
  unfold State.showLine
  split
  · rfl
  · exact State.get_record_ne _ seq (by simpa using line.symm)

/-- A controller's new state shows; of the other objects only the active line and the group's sequence may differ. -/
theorem State.get_setCan (s : State) (c : Fin 2) (v : Nat) : (s.setCan c v).get (canState c) = v ∧
    ∀ k, k ≠ Reg.CANSTATE_SEQ → k ≠ Reg.CAN_ACTIVE_LINE → k ≠ canState c → (s.setCan c v).get k = s.get k := by
  have apart := canState_apart c
  simp only [List.cons_append, List.mem_cons, not_or] at apart
  obtain ⟨seq, line, -⟩ := apart
  refine ⟨?_, fun k seq line other => ?_⟩
  · rw [State.setCan, State.get_showLine _ seq line, State.get_record_one _ _ seq]
  · rw [State.setCan, State.get_showLine _ seq line, State.get_record_ne _ seq (by simpa using other.symm)]

/-- Beside the objects, a controller's new state may only end a USDO transfer. -/
theorem State.setCan_only (s : State) (c : Fin 2) (v : Nat) :
    ∃ x u, s.setCan c v = { s with regs := x, io := { s.io with usdo := u } } := by
  obtain ⟨x, only⟩ := s.record_only Reg.CANSTATE_SEQ [(canState c, v)]
  rw [State.setCan, only]
  exact State.showLine_only _

/-- A controller that is error active again may have event 49 latched once more; nothing is sent (R453). -/
theorem State.canActive_active (s : State) (c : Fin 2) : (s.canActive c).get (canState c) = 1 ∧
    bit (s.canActive c).io.passive c = false ∧ (s.canActive c).ev = s.ev ∧ (s.canActive c).io.canOut = s.io.canOut ∧
    (s.canActive c).get Reg.CAN_NMT_STATE = s.get Reg.CAN_NMT_STATE := by
  obtain ⟨state, others⟩ := s.get_setCan c 1
  obtain ⟨x, u, only⟩ := s.setCan_only c 1
  have nmt : Reg.CAN_NMT_STATE ≠ canState c := fun e => canState_apart c (by simp [← e])
  have kept := others Reg.CAN_NMT_STATE (by decide) (by decide) nmt
  refine ⟨(State.get_updIo ..).trans state, ?_, ?_, ?_, (State.get_updIo ..).trans kept⟩
  · exact bit_clrBit_self ..
  · rw [State.canActive, only]
    rfl
  · rw [State.canActive, only]
    rfl

/-- The state of an error-active controller that goes passive, event 49 still to come (R453). -/
def State.canPassive (s : State) (c : Fin 2) : State := (s.setCan c 2).updIo fun i => { i with passive := setBit i.passive c }

theorem exec_canErrPassive {s : State} {c : Fin 2} (active : s.get (canState c) = 1) :
    exec (.canErrPassive c) s =
      .next (if bit s.io.passive c then s.canPassive c else (s.canPassive c).latch 49 (canState c) 2) :=
  if_neg (by simp [active])

/-- The state in which a bus-off is counted, shown and latched (R453). -/
def State.canDown (s : State) (c : Fin 2) : State :=
  ((s.record Reg.CANSTATE_SEQ [(Reg.CAN_BUSOFF_COUNT, (s.get Reg.CAN_BUSOFF_COUNT + 1) % 2 ^ 32)]).setCan c 3).latch 48
    Reg.CAN_BUSOFF_COUNT ((s.get Reg.CAN_BUSOFF_COUNT + 1) % 2 ^ 32)

theorem exec_canBusOff {s : State} {c : Fin 2} (on : s.get (canState c) = 1 ∨ s.get (canState c) = 2) :
    exec (.canBusOff c) s = .next (if (s.canDown c).canLive then s.canDown c else (s.canDown c).stopPush) :=
  if_neg (by obtain on | on := on <;> simp [on])

theorem State.canDown_shows (s : State) (c : Fin 2) : (s.canDown c).get (canState c) = 3 ∧
    (s.canDown c).get Reg.CAN_BUSOFF_COUNT = (s.get Reg.CAN_BUSOFF_COUNT + 1) % 2 ^ 32 ∧ (s.canDown c).latched 48 = true := by
  have apart := canState_apart c
  simp only [List.cons_append, List.mem_cons, not_or] at apart
  obtain ⟨-, -, count, -, event⟩ := apart
  obtain ⟨state, others⟩ :=
    (s.record Reg.CANSTATE_SEQ [(Reg.CAN_BUSOFF_COUNT, (s.get Reg.CAN_BUSOFF_COUNT + 1) % 2 ^ 32)]).get_setCan c 3
  refine ⟨?_, ?_, State.latched_latch ..⟩
  · rw [State.canDown, State.get_latch_ne _ _ _ _ (by simpa using event), state]
  · rw [State.canDown, State.get_latch_ne _ _ _ _ (by decide), others _ (by decide) (by decide) (Ne.symm count),
      State.get_record_one _ _ (by decide)]

/-- Settles O37, by what each NMT command and each change of a controller's error state makes of the objects. -/
theorem nmtCommandsAndHeartbeat : Obligations.NmtCommandsAndHeartbeat := by
  refine ⟨fun s up mode idle => ?_, fun s up mode idle => ?_, fun s up mode idle => ?_, fun s up mode idle => ?_,
    fun s up mode idle => ?_, fun s up live mode period => ?_, fun c s active fresh => ?_, fun c s active told => ?_,
    fun c s passive => ?_, fun c s on => ?_, fun c s off => ?_⟩
  · exact ⟨_, congrArg Host.Outcome.next (State.nmtCommand_awake (·.enterNmt 5) up mode idle), s.enterNmt_enters 5⟩
  · exact ⟨_, congrArg Host.Outcome.next (State.nmtCommand_awake (·.enterNmt 4) up mode idle), s.enterNmt_enters 4⟩
  · exact ⟨_, congrArg Host.Outcome.next (State.nmtCommand_awake (·.enterNmt 0x7F) up mode idle), s.enterNmt_enters 0x7F⟩
  · obtain ⟨cause, detail⟩ := s.get_resetPart 5 0 .resetHeld
    obtain ⟨boot, fuse, -, -, -, flash, -⟩ := s.resetPart_keeps 5 0 .resetHeld
    exact ⟨_, congrArg Host.Outcome.next (State.nmtCommand_awake (·.resetPart 5 0 .resetHeld) up mode idle), boot,
      s.phase_resetPart .., cause, detail, flash, fuse⟩
  · exact ⟨_, congrArg Host.Outcome.next (State.nmtCommand_awake (·.stopPush.startCan) up mode idle), s.startCan_restarts⟩
  · refine ⟨_, exec_heartbeatTimer up mode period, ?_⟩
    rw [State.canSend_live _ live]
    exact ⟨rfl, rfl⟩
  · obtain ⟨state, -⟩ := s.get_setCan c 2
    refine ⟨_, exec_canErrPassive active, ?_⟩
    rw [if_neg (by simp [fresh])]
    refine ⟨?_, State.latched_latch .., ?_⟩
    · rw [State.get_latch_ne _ _ _ _ fun mem => canState_apart c (List.mem_append_right _ mem)]
      exact (State.get_updIo ..).trans state
    · rw [State.latch_io]
      exact bit_setBit_self ..
  · obtain ⟨state, -⟩ := s.get_setCan c 2
    obtain ⟨x, u, only⟩ := s.setCan_only c 2
    refine ⟨_, exec_canErrPassive active, ?_⟩
    rw [if_pos told]
    refine ⟨(State.get_updIo ..).trans state, ?_⟩
    rw [State.canPassive, only]
    rfl
  · obtain ⟨state, again, events, -⟩ := s.canActive_active c
    exact ⟨_, congrArg Host.Outcome.next (if_pos passive), state, again, events⟩
  · obtain ⟨state, count, event⟩ := s.canDown_shows c
    refine ⟨_, exec_canBusOff on, ?_⟩
    split
    · exact ⟨state, count, event⟩
    · simp only [State.latched, State.get_stopPush]
      exact ⟨state, count, event⟩
  · obtain ⟨state, -, -, sent, nmt⟩ := s.canActive_active c
    exact ⟨_, congrArg Host.Outcome.next (if_pos off), state, nmt, sent⟩

end Sys2Proof.Machine
end

section
/-! SUPPORT. The USDO server: what its answers change and what an initiate comes to (R94, R95, R456), and the statement settled
with it. -/

namespace Sys2Proof.Machine

/-! ### Frames of a request with more to come after its answer -/

/-- What follows an answer may change the listed objects too. -/
theorem SameButAnswer.trans {l : Link} {ks : List Nat} {s t u : State} (h : SameButAnswer l ks s t) (g : SameBut ks t u) :
    SameButAnswer l ks s u := by
  obtain ⟨kept, rest⟩ := g
  refine SameBut.trans h ⟨fun k hk => kept k fun mem => hk (List.mem_cons_of_mem _ mem), ?_⟩
  exact congrArg (fun x : State => { x with sys := { x.sys with busy := s.sys.busy } }) rest

/-! ### Answers of the server (Table 13.12) -/

section
variable {s : State} (released : s.sys.phase = .released)
include released

theorem State.usdoAnswer_data (d : Bytes) (left : Nat) :
    s.usdoAnswer (.data d left) = { s with io := { s.io with usdoOut := some (.data d left) } } := by
  simp [State.usdoAnswer, released]

theorem State.usdoAnswer_done : s.usdoAnswer .done = { s with io := { s.io with usdoOut := some .done } } := by
  simp [State.usdoAnswer, released]

/-- An abort frame is counted in USDO_ABORTS. -/
theorem State.usdoAnswer_abort (code : Nat) : s.usdoAnswer (.abort code) =
    { s.record Reg.CANSTATE_SEQ [(Reg.USDO_ABORTS, (s.get Reg.USDO_ABORTS + 1) % 2 ^ 32)] with
      io := { s.io with usdoOut := some (.abort code) } } := by
  unfold State.usdoAnswer
  rw [if_neg (by simp [released])]
  rfl

end

/-- The objects that an abort frame writes. -/
theorem SameBut.abortCounted (s : State) : SameBut [Reg.USDO_ABORTS, Reg.CANSTATE_SEQ] s
    (s.record Reg.CANSTATE_SEQ [(Reg.USDO_ABORTS, (s.get Reg.USDO_ABORTS + 1) % 2 ^ 32)]) :=
  SameBut.record (by simp) (by simp)

/-! ### Requests (R456) -/

/-- The state in which a USDO request is served: no answer has been sent yet. -/
def State.usdoHeard (s : State) : State := s.updIo fun i => { i with usdoOut := none }

/-- An abort that follows an answer leaves the answer and is counted. -/
theorem State.abort_answered {s : State} (released : s.sys.phase = .released) (r : Result) (code : Nat) :
    ∃ t, (s.usdoHeard.answer .can r).usdoAnswer (.abort code) = t ∧ Answered t .can r ∧
      t.io = { s.io with usdoOut := some (.abort code) } ∧
      t.get Reg.USDO_ABORTS = (s.get Reg.USDO_ABORTS + 1) % 2 ^ 32 ∧
      SameButAnswer .can [Reg.USDO_ABORTS, Reg.CANSTATE_SEQ] s { t with io := s.io } := by
  have count : (s.answer .can r).get Reg.USDO_ABORTS = s.get Reg.USDO_ABORTS := s.get_answer_ne r (by decide)
  have counted := SameBut.abortCounted (s.answer .can r)
  obtain ⟨last, busy⟩ := s.answered_answer .can r
  refine ⟨_, State.usdoAnswer_abort (s := s.usdoHeard.answer .can r) released code, ⟨?_, ?_⟩, rfl, ?_, ?_⟩
  · exact (counted.1 _ (by decide)).trans last
  · exact (congrArg (fun x : Sys => bit x.busy (Link.code .can)) counted.sys_eq).trans busy
  · rw [← count]
    exact State.get_record_one _ _ (by decide)
  · exact ((SameBut.refl _ s).answer .can r).trans counted

/-- An upload while a transfer is open is refused as BUSY. -/
theorem State.usdoServe_upload_busy {s : State} {x : Xfer} (index sub : Nat) (opened : s.io.usdo = some x) :
    s.usdoHeard.usdoServe (.upload index sub) = (s.usdoHeard.answer .can .busy).usdoAnswer (.abort 0x060A0023) := by
  have busy : s.usdoHeard.usdoBusy = true := by simp [State.usdoBusy, State.usdoHeard, State.updIo, opened]
  rw [State.usdoServe, State.usdoInit, busy]
  rfl

section
variable {s : State} (serves : Serves s .can false)
include serves

theorem Serves.awake : s.mode ≠ .watch := by
  obtain ⟨-, -, watch, -⟩ := serves
  exact fun mode => Bool.false_ne_true (watch mode)

/-- Outside WATCH and its entry a request is served by the USDO server at once. -/
theorem exec_usdoRequest (req : UsdoReq) (idle : s.sys.trans = none) :
    exec (.usdoRequest req) s = .next (s.usdoHeard.usdoServe req) := by
  have awake := serves.awake
  obtain ⟨up, boot, -⟩ := serves
  have canUp : s.sys.canUp = true := by
    simp only [State.linkUp, Bool.and_eq_true] at up
    exact up.2.1
  show execUsdoRequest req s = _
  unfold execUsdoRequest
  rw [if_neg (by simp [canUp]), State.wakeSource_awake 3 awake idle]
  have mode : (s.updIo fun i => { i with usdoOut := none }).mode = s.mode := rfl
  simp only [mode, up, boot, awake, Bool.not_true, Bool.false_eq_true, decide_false, Bool.false_and, if_false]
  rfl

/-- With no transfer open an initiate is carried out. -/
theorem State.usdoInit_free (f : State → State) (closed : s.io.usdo = none) : s.usdoHeard.usdoInit f = f s.usdoHeard := by
  obtain ⟨-, -, -, free, -⟩ := serves
  have idle : s.usdoHeard.usdoBusy = false := by simp [State.usdoBusy, State.usdoHeard, State.updIo, closed, free]
  rw [State.usdoInit, idle]
  rfl

/-- An upload is the read that its address gives. -/
theorem State.usdoServe_upload {index sub : Nat} (closed : s.io.usdo = none) (index_lt : index < 65536) (sub_lt : sub < 256) :
    s.usdoHeard.usdoServe (.upload index sub) = s.usdoHeard.usdoRead index sub := by
  rw [State.usdoServe, Nat.mod_eq_of_lt index_lt, Nat.mod_eq_of_lt sub_lt, State.usdoInit_free serves _ closed]

/-- An expedited download is the write that its address gives. -/
theorem State.usdoServe_download {index sub : Nat} (d : Bytes) (closed : s.io.usdo = none) (index_lt : index < 65536)
    (sub_lt : sub < 256) :
    s.usdoHeard.usdoServe (.downloadExpedited index sub d) = s.usdoHeard.usdoWrite (index * 256 + sub) d := by
  rw [State.usdoServe, Nat.mod_eq_of_lt index_lt, Nat.mod_eq_of_lt sub_lt, State.usdoInit_free serves _ closed]

/-- A read of one object that gives data for one frame only is answered with it. -/
theorem State.usdoRead_data {index sub k : Nat} {d : Bytes} (read : s.usdoHeard.readObj .can k = (.ok, d, s.usdoHeard))
    (short : d.length ≤ usdoPayload) (address : index * 256 + sub = k) (one : sub ≠ 0xFF) :
    s.usdoHeard.usdoRead index sub =
      { s.answer .can .ok with io := { s.io with usdo := none, usdoOut := some (.data d 0) } } := by
  have awake : s.usdoHeard.mode ≠ .watch := serves.awake
  have released := serves.released
  have all : d.take usdoPayload = d := List.take_of_length_le short
  have none : d.drop usdoPayload = [] := List.drop_of_length_le short
  simp only [State.usdoRead, awake, one, read, Result.gives, State.usdoData, all, none, address, decide_false, decide_true,
    Bool.false_and, Bool.true_or, Bool.false_eq_true, List.isEmpty_nil, List.length_nil, if_true, if_false]
  exact State.usdoAnswer_data (s := (s.usdoHeard.answer .can .ok).setUsdo Option.none) released d 0

/-- A read that an absent object refuses is aborted with the code of NO_OBJECT. -/
theorem State.usdoRead_absent {index sub : Nat} (one : sub ≠ 0xFF) (absent : s.object (index * 256 + sub) = none)
    (unknown : s.indexKnown (index * 256 + sub) = false) :
    s.usdoHeard.usdoRead index sub = (s.usdoHeard.answer .can .noObject).usdoAnswer (.abort 0x06020000) := by
  have awake : s.usdoHeard.mode ≠ .watch := serves.awake
  have noObject : s.usdoHeard.readObj .can (index * 256 + sub) = (.noObject, [], s.usdoHeard) := by
    have absent : s.usdoHeard.object (index * 256 + sub) = none := absent
    rw [State.readObj, absent]
  have unknown : s.usdoHeard.indexKnown (index * 256 + sub) = false := unknown
  simp [State.usdoRead, awake, one, noObject, Result.gives, unknown, Result.abortCode]

/-- A write that changes objects only is done, and nothing follows its answer. -/
theorem State.usdoWrite_done {k : Nat} {d : Bytes} {ks : List Nat} {t : State}
    (write : s.usdoHeard.write .can k d = (.ok, t)) (same : SameBut ks s.usdoHeard t) :
    s.usdoHeard.usdoWrite k d =
      { t.answer .can .ok with io := { t.io with usdo := none, usdoOut := some .done } } := by
  have awake : s.usdoHeard.mode ≠ .watch := serves.awake
  have released := serves.released
  obtain ⟨-, -, -, free, due⟩ := serves
  have sys : t.sys = s.sys := same.sys_eq
  have closed : (t.setUsdo none).sys = s.sys := sys
  have answered : ((t.setUsdo none).answer .can .ok).sys.phase = .released := by
    show t.sys.phase = _
    rw [sys, released]
  unfold State.usdoWrite
  simp only [awake, write, closed, released, free, decide_false, Bool.false_and, Bool.false_eq_true, if_false, bne_self_eq_false]
  rw [if_pos (by decide), State.usdoAnswer_done answered, State.resetsFor_none]
  · rfl
  · show (t.sys.resetDue.any fun d => d.1 = .can) = false
    rw [sys]
    exact due

end

/-! ### MODE_CURRENT -/

/-- MODE_CURRENT is a U8 to be read, which every variant has in every mode. -/
theorem find_modeCurrent : (Dict.find Reg.MODE_CURRENT).any (fun f =>
    f.group.pres = .always && f.row.pres = .always && f.row.acc != .wo && f.row.ty = .u8) = true := by
  decide

/-- A read of MODE_CURRENT gives the mode's code. -/
theorem State.readObj_modeCurrent (s : State) (l : Link) :
    s.readObj l Reg.MODE_CURRENT = (.ok, [BitVec.ofNat 8 (Mode.code s.mode)], s) := by
  obtain ⟨f, found, shape⟩ := (Option.any_eq_true ..).1 find_modeCurrent
  simp only [Bool.and_eq_true, decide_eq_true_eq, bne_iff_ne] at shape
  obtain ⟨⟨⟨group, row⟩, readable⟩, type⟩ := shape
  have object : s.object Reg.MODE_CURRENT = some f := by
    simp [State.object, found, Found.present, group, row, Pres.holds]
  have notHot : Reg.MODE_CURRENT ≠ Reg.HOT_READ := by decide
  have notNext : (List.range 3).find? (fun i => decide (Reg.MODE_CURRENT = Reg.REPORT_NEXT i)) = none := by decide
  have view : s.view l Reg.MODE_CURRENT = (Mode.code s.mode, s) := rfl
  simp only [State.readObj, object, State.readFound, readable, notHot, notNext, view, type, if_false]
  rfl

/-- USDO_TIMEOUT closes the open transfer with an abort. -/
theorem exec_usdoTimeout {s : State} {x : Xfer} (serves : Serves s .can false) (opened : s.io.usdo = some x) :
    exec .usdoTimeout s = .next ((s.setUsdo none).usdoAnswer (.abort 0x05040000)) := by
  obtain ⟨up, -, -, free, -⟩ := serves
  exact if_neg (by simp [up, opened, free])

/-- Settles O38, by what each initiate comes to with no transfer open, and the abort of one that is open. -/
theorem usdoServesReadsAndWrites : Obligations.UsdoServesReadsAndWrites := by
  refine ⟨fun s serves closed idle => ?_, fun v s serves closed idle => ?_,
    fun index sub s serves closed idle index_lt sub_lt absent unknown => ?_,
    fun x index sub s serves opened idle => ?_, fun x s serves opened => ?_⟩
  · have read := State.usdoRead_data (index := Reg.MODE_CURRENT / 256) (sub := Reg.MODE_CURRENT % 256) serves
      (s.usdoHeard.readObj_modeCurrent .can) (Nat.le_of_ble_eq_true rfl) rfl (by decide)
    have upload := (State.usdoServe_upload serves closed (by decide) (by decide)).trans read
    exact ⟨_, (exec_usdoRequest serves _ idle).trans (congrArg _ upload), s.answered_answer .can .ok, rfl, rfl,
      (SameBut.refl [] s).answer .can .ok⟩
  · have same : SameBut [Reg.HOT_CURSOR] s (s.put Reg.HOT_CURSOR v.toNat) := SameBut.put _ (List.mem_singleton_self _)
    have write := State.usdoWrite_done serves (s.usdoHeard.write_hotCursor .can v) (SameBut.put _ (List.mem_singleton_self _))
    have download := (State.usdoServe_download (index := Reg.HOT_CURSOR / 256) (sub := Reg.HOT_CURSOR % 256) serves _ closed
      (by decide) (by decide)).trans write
    refine ⟨_, (exec_usdoRequest serves _ idle).trans (congrArg _ download),
      (s.put Reg.HOT_CURSOR v.toNat).answered_answer .can .ok, rfl, ?_, same.answer .can .ok⟩
    exact (State.get_answer_ne (s.put Reg.HOT_CURSOR v.toNat) .ok (hotCursor_ne_lastResult .can)).trans (State.get_put_self ..)
  · have upload := (State.usdoServe_upload serves closed index_lt (Nat.lt_succ_of_lt sub_lt)).trans
      (State.usdoRead_absent serves (Nat.ne_of_lt sub_lt) absent unknown)
    obtain ⟨t, aborted, answered, io, count, same⟩ := State.abort_answered serves.released .noObject 0x06020000
    refine ⟨t, (exec_usdoRequest serves _ idle).trans (congrArg _ (upload.trans aborted)), answered, ?_, count, same⟩
    rw [io]
  · obtain ⟨t, aborted, answered, io, -⟩ := State.abort_answered serves.released .busy 0x060A0023
    refine ⟨t, (exec_usdoRequest serves _ idle).trans (congrArg _ ((State.usdoServe_upload_busy index sub opened).trans aborted)),
      answered, ?_, ?_⟩
    · rw [io]
    · rw [io]
      exact opened
  · have counted := SameBut.abortCounted s
    refine ⟨_, exec_usdoTimeout serves opened, ?_⟩
    rw [State.usdoAnswer_abort (s := s.setUsdo none) serves.released]
    exact ⟨rfl, rfl, State.get_record_one _ _ (by decide), counted⟩

end Sys2Proof.Machine
end

section
/-! SUPPORT. What a flash reads after bytes are written to it or a range of it is erased. -/

namespace Sys2Proof.Machine

/-- Below the first address that a flash's contents list, it reads blank. -/
theorem Memory.read_below {lo a : Nat} {m : Memory} (wf : Memory.wfFrom lo m = true) (lt : a < lo) :
    m.read a = Memory.blank := by
  induction m generalizing lo with
  | nil => rfl
  | cons p r ih =>
    obtain ⟨x, b⟩ := p
    simp only [Memory.wfFrom, Bool.and_eq_true, decide_eq_true_eq] at wf
    obtain ⟨⟨le, -⟩, rest⟩ := wf
    rw [Memory.read, if_neg (by omega)]
    exact ih rest (by omega)

theorem Memory.read_write_self_of_wfFrom {lo : Nat} {m : Memory} (a : Nat) (v : Byte) (wf : Memory.wfFrom lo m = true) :
    (m.write a v).read a = v := by
  induction m generalizing lo with
  | nil =>
    rw [Memory.write]
    split
    · next blank => exact blank.symm
    · exact if_pos rfl
  | cons p r ih =>
    obtain ⟨x, b⟩ := p
    simp only [Memory.wfFrom, Bool.and_eq_true, decide_eq_true_eq] at wf
    obtain ⟨-, rest⟩ := wf
    rw [Memory.write]
    split
    · next before =>
      split
      · next blank =>
        rw [Memory.read, if_neg (by omega), Memory.read_below rest (by omega), blank]
      · exact if_pos rfl
    · split
      · next same =>
        split
        · next blank => rw [Memory.read_below rest (by omega), blank]
        · exact if_pos rfl
      · next other => rw [Memory.read, if_neg other, ih rest]

/-- A byte written is read back. -/
theorem Memory.read_write_self {m : Memory} (a : Nat) (v : Byte) (wf : Memory.wf m = true) : (m.write a v).read a = v :=
  Memory.read_write_self_of_wfFrom a v wf

/-- A byte written leaves every other one. -/
theorem Memory.read_write_ne (m : Memory) {a b : Nat} (v : Byte) (ne : b ≠ a) : (m.write a v).read b = m.read b := by
  induction m with
  | nil =>
    rw [Memory.write]
    split
    · rfl
    · exact if_neg ne
  | cons p r ih =>
    obtain ⟨x, c⟩ := p
    rw [Memory.write]
    split
    · split
      · rfl
      · exact if_neg ne
    · split
      · next same =>
        subst same
        split <;> simp [Memory.read, ne]
      · simp only [Memory.read, ih]

/-- Bytes written leave what lies before and behind them. -/
theorem Memory.read_writeAll_outside (m : Memory) {a b : Nat} {d : Bytes} (out : b < a ∨ a + d.length ≤ b) :
    (m.writeAll a d).read b = m.read b := by
  induction d generalizing m a with
  | nil => rfl
  | cons v r ih =>
    rw [List.length_cons] at out
    rw [Memory.writeAll, ih _ (by omega), Memory.read_write_ne _ _ (by omega)]

/-- Bytes written are read back. -/
theorem Memory.readAll_writeAll {m : Memory} (a : Nat) (d : Bytes) (wf : Memory.wf m = true) :
    (m.writeAll a d).readAll a d.length = d := by
  induction d generalizing m a with
  | nil => rfl
  | cons v r ih =>
    rw [Memory.writeAll, List.length_cons, Memory.readAll, ih (a + 1) (Memory.wf_write a v wf),
      Memory.read_writeAll_outside _ (by omega), Memory.read_write_self a v wf]

/-- An erased range leaves what lies before and behind it. -/
theorem Memory.read_erase_outside (m : Memory) {a n b : Nat} (out : b < a ∨ a + n ≤ b) : (m.erase a n).read b = m.read b := by
  induction m with
  | nil => rfl
  | cons p r ih =>
    obtain ⟨x, v⟩ := p
    rw [Memory.erase, List.filter_cons]
    split
    · show Memory.read ((x, v) :: Memory.erase r a n) b = _
      rw [Memory.read, Memory.read, ih]
    · next gone =>
      have other : b ≠ x := by
        rintro rfl
        simp [out] at gone
      show Memory.read (Memory.erase r a n) b = _
      rw [ih, Memory.read, if_neg other]

end Sys2Proof.Machine
end

section
/-! SUPPORT. What the carriers, rounds and the field going off leave to a commit: the staged set with the rest of the
configuration's part, and every event that is latched. -/

namespace Sys2Proof.Machine

/-! ### The configuration's part under the operations on chains, quads and beams -/

theorem State.cfg_foldl {α : Type} (l : List α) (s : State) {f : State → α → State} (step : ∀ u a, (f u a).cfg = u.cfg) :
    (l.foldl f s).cfg = s.cfg :=
  List.foldlRecOn (motive := fun t : State => t.cfg = s.cfg) l f rfl fun u kept a _ => (step u a).trans kept

@[simp] theorem State.cfg_keepFwd (s : State) (c : Nat) : (s.keepFwd c).cfg = s.cfg := by
  unfold State.keepFwd
  extract_lets khz
  split <;> rfl

@[simp] theorem State.cfg_showQuad (s : State) (q : Nat) : (s.showQuad q).cfg = s.cfg := by
  unfold State.showQuad
  extract_lets st
  split
  · simp
  · split <;> simp

@[simp] theorem State.cfg_stopChain (s : State) (c st : Nat) (mute : Bool) : (s.stopChain c st mute).cfg = s.cfg := by
  unfold State.stopChain
  extract_lets on s1 s2 s3
  have stopped : s2.cfg = s.cfg := by simp [s2, s1]
  rw [State.cfg_showQuad]
  simp only [s3]
  split <;> simp [stopped]

@[simp] theorem State.cfg_rampDown (s : State) (c : Nat) : (s.rampDown c).cfg = s.cfg := by
  unfold State.rampDown
  split <;> simp

@[simp] theorem State.cfg_muteChain (s : State) (c : Nat) : (s.muteChain c).cfg = s.cfg := by
  unfold State.muteChain
  split <;> simp

@[simp] theorem State.cfg_rampQuad (s : State) (q : Nat) : (s.rampQuad q).cfg = s.cfg := State.cfg_foldl _ _ State.cfg_rampDown

@[simp] theorem State.cfg_quadDark (s : State) (q : Nat) : (s.quadDark q).cfg = s.cfg :=
  State.cfg_foldl _ _ fun u c => by split <;> simp

@[simp] theorem State.cfg_phaseless (s : State) (q : Nat) : (s.phaseless q).cfg = s.cfg := by
  unfold State.phaseless
  extract_lets s1 s2
  have shown : s1.cfg = s.cfg := by simp [s1]
  have unmeasured : s2.cfg = s1.cfg := State.cfg_foldl _ _ fun _ _ => rfl
  exact unmeasured.trans shown

@[simp] theorem State.cfg_synthOff (s : State) (q : Nat) : (s.synthOff q).cfg = s.cfg := by
  simp [State.synthOff]

@[simp] theorem State.cfg_quadsOff (s : State) : s.quadsOff.cfg = s.cfg := State.cfg_foldl _ _ State.cfg_synthOff

@[simp] theorem State.cfg_cutSweep (s : State) : s.cutSweep.cfg = s.cfg := by
  unfold State.cutSweep
  split
  · rfl
  · exact State.cfg_foldl _ _ State.cfg_rampDown

@[simp] theorem State.cfg_showTx (s : State) (q : Nat) : (s.showTx q).cfg = s.cfg := by
  unfold State.showTx
  split <;> simp

@[simp] theorem State.cfg_showRx (s : State) (b : Nat) : (s.showRx b).cfg = s.cfg := by
  unfold State.showRx
  split
  · dsimp only
    split <;> simp
  · simp

@[simp] theorem State.cfg_showActive (s : State) : s.showActive.cfg = s.cfg := State.recordIf_cfg ..

@[simp] theorem State.cfg_beamsOut (s : State) (t : Nat) : (s.beamsOut t).cfg = s.cfg :=
  State.cfg_foldl _ _ fun u b => State.cfg_showRx (u.weigh b) b

@[simp] theorem State.cfg_showBeams (s : State) : s.showBeams.cfg = s.cfg := by
  refine (State.cfg_showActive _).trans (State.cfg_foldl _ _ fun u q => ?_)
  extract_lets v
  have shown : v.cfg = u.cfg := u.cfg_showTx q
  split <;> simp [shown]

@[simp] theorem State.cfg_closeDwell (s : State) (l : Nat) : (s.closeDwell l).cfg = s.cfg := by
  unfold State.closeDwell
  split
  · rfl
  · exact State.cfg_foldl _ _ fun _ _ => rfl

/-! ### The configuration and the latched events -/

/-- The configuration's part stands, and no latched event is lost. -/
structure Upholds (s t : State) : Prop where
  cfg : t.cfg = s.cfg
  latched : ∀ e, s.latched e = true → t.latched e = true

theorem Upholds.refl (s : State) : Upholds s s := ⟨rfl, fun _ told => told⟩

section
variable {s t : State} (h : Upholds s t)
include h

/-- A change after which EVT_LATCHED and the configuration's part stand. -/
theorem Upholds.then {u : State} (cfg : u.cfg = t.cfg) (latched : u.get Reg.EVT_LATCHED = t.get Reg.EVT_LATCHED) :
    Upholds s u := by
  refine ⟨cfg.trans h.cfg, fun e told => ?_⟩
  rw [State.latched, latched]
  exact h.latched e told

theorem Upholds.congr {u : State} (cfg : u.cfg = t.cfg) (regs : u.regs = t.regs) (variant : u.variant = t.variant)
    (node : u.sys.node = t.sys.node) : Upholds s u :=
  h.then cfg (State.get_congr regs variant node _)

/-- Writes of objects from the quads' upward leave EVT_LATCHED. -/
theorem Upholds.writes {u : State} (w : Writes QuadsUp t u) (cfg : u.cfg = t.cfg) : Upholds s u :=
  h.then cfg (w.get _ (by unfold QuadsUp; decide))

theorem Upholds.ite {c : Prop} [Decidable c] {u : State} (g : Upholds s u) : Upholds s (if c then t else u) := by
  split
  · exact h
  · exact g

theorem Upholds.foldl {α : Type} (l : List α) {f : State → α → State} (step : ∀ u a, Upholds s u → Upholds s (f u a)) :
    Upholds s (l.foldl f t) :=
  List.foldlRecOn l f h fun u hu a _ => step u a hu

theorem Upholds.val (v : Val) : Upholds s { t with val := v } := h.congr rfl rfl rfl rfl
theorem Upholds.eng (e : Eng) : Upholds s { t with eng := e } := h.congr rfl rfl rfl rfl
theorem Upholds.testC (c : Option TestC) : Upholds s { t with testC := c } := h.congr rfl rfl rfl rfl
theorem Upholds.putDom (k : Nat) (b : Bytes) : Upholds s (t.putDom k b) := h.congr rfl rfl rfl rfl
theorem Upholds.updChain (c : Nat) (f : Chain → Chain) : Upholds s (t.updChain c f) := h.congr rfl rfl rfl rfl
theorem Upholds.updHf (f : Hf → Hf) : Upholds s (t.updHf f) := h.congr rfl rfl rfl rfl

theorem Upholds.put {k : Nat} (other : Reg.EVT_LATCHED ≠ k) (v : Nat) : Upholds s (t.put k v) :=
  h.then rfl (State.get_put_ne _ _ other)

theorem Upholds.record {q : Nat} {l : List (Nat × Nat)} (seq : Reg.EVT_LATCHED ≠ q) (members : ∀ p ∈ l, p.1 ≠ Reg.EVT_LATCHED) :
    Upholds s (t.record q l) :=
  h.then (State.record_cfg ..) (State.get_record_ne _ seq members)

theorem Upholds.recordIf {q : Nat} {l : List (Nat × Nat)} (seq : Reg.EVT_LATCHED ≠ q)
    (members : ∀ p ∈ l, p.1 ≠ Reg.EVT_LATCHED) : Upholds s (t.recordIf q l) :=
  h.then (State.recordIf_cfg ..) (State.get_recordIf_ne _ seq members)

/-- A further event leaves the latched ones latched (R557). -/
theorem Upholds.latch (e a b : Nat) : Upholds s (t.latch e a b) := by
  refine ⟨(State.latch_cfg ..).trans h.cfg, fun j told => ?_⟩
  rw [State.latched, State.latch, (Writes.latchAs t _ _ e a b).get _ (by decide), State.noteEvent,
    State.get_seq_ne _ (by decide), State.get_put_self]
  exact (testBit_setBit ..).2 (.inl (h.latched j told))

/-! ### Carriers and beams -/

theorem Upholds.muteAll : Upholds s t.muteAll := h.foldl _ fun u c hu =>
  hu.writes (((Writes.refl _ u).stopChain ..).ite (Writes.refl _ u)) (u.cfg_muteChain c)

theorem Upholds.rampAll : Upholds s t.rampAll := h.foldl _ fun u c hu =>
  hu.writes ((Writes.refl _ u).rampDown c) (u.cfg_rampDown c)

theorem Upholds.cutSweep : Upholds s t.cutSweep := h.writes (Writes.refl _ t).cutSweep t.cfg_cutSweep

theorem Upholds.beamsDue (b : Nat) : Upholds s (t.beamsDue b) :=
  (h.writes ((Writes.refl _ t).beamsOut b).showActive ((State.cfg_showActive _).trans (t.cfg_beamsOut b))).ite h

theorem Upholds.dropDwells : Upholds s t.dropDwells := by
  have dissolved := h.foldl t.val.running (f := fun u p => ((bitsOf 4 p.2.d.gang).foldl State.rampQuad u).dissolve p.1)
    fun u p hu => hu.writes (((Writes.refl _ u).foldl _ fun _ q hv => hv.rampQuad q).dissolve p.1)
      ((State.cfg_closeDwell _ p.1).trans (State.cfg_foldl _ _ State.cfg_rampQuad))
  exact dissolved.writes (Writes.refl _ _).showBeams (State.cfg_showBeams _)

theorem Upholds.replyOver (b : Nat) : Upholds s (t.replyOver b) := by
  unfold State.replyOver
  split
  · exact h
  · refine h.foldl _ fun u c hu => ?_
    split
    · exact (hu.updChain ..).recordIf (by simp only [Reg.EVT_LATCHED, Reg.CSTATE_SEQ]; omega)
        (by simp only [List.mem_singleton, forall_eq, Reg.EVT_LATCHED, Reg.RX_GAIN_STATE]; omega)
    · exact hu

/-! ### Rounds and access operations -/

theorem Upholds.opState (n : Nat) : Upholds s (t.opState n) :=
  h.ite (h.record (by simp only [Reg.EVT_LATCHED, Reg.OP_SEQ]; omega)
    (by simp only [List.mem_singleton, forall_eq, Reg.EVT_LATCHED, Reg.OP_STATE]; omega))

theorem Upholds.armOp (n : Nat) (on : Bool) : Upholds s (t.armOp n on) := (h.eng _).opState n

theorem Upholds.pushResult (b slot op code tagErr : Nat) (r : Round) (data : Bytes) :
    Upholds s (t.pushResult b slot op code tagErr r data) :=
  h.ite (((h.eng _).putDom ..).record (by decide) (by simp only [List.mem_singleton, forall_eq]; decide))

theorem Upholds.watchOne (w : Nat) (data : Bytes) : Upholds s (t.watchOne w data) := by
  have seq : Reg.EVT_LATCHED ≠ Reg.WATCH_SEQ w := by simp only [Reg.EVT_LATCHED, Reg.WATCH_SEQ]; omega
  have shown : Reg.WATCH_STATE w ≠ Reg.EVT_LATCHED ∧ Reg.WATCH_LAST w ≠ Reg.EVT_LATCHED ∧
      Reg.WATCH_TIME w ≠ Reg.EVT_LATCHED := by
    simp only [Reg.EVT_LATCHED, Reg.WATCH_STATE, Reg.WATCH_LAST, Reg.WATCH_TIME]; omega
  obtain ⟨state, last, time⟩ := shown
  unfold State.watchOne
  extract_lets o word v old new s1
  have evaluated : Upholds s s1 := h.record seq (by simpa using ⟨last, state, time⟩)
  exact (h.recordIf seq (by simpa using state)).ite ((evaluated.latch ..).ite evaluated)

theorem Upholds.watch (slot : Nat) (epc data : Bytes) : Upholds s (t.watch slot epc data) :=
  h.foldl _ fun _ w hu => (hu.watchOne w data).ite hu

theorem Upholds.opEnds (b slot code tagErr : Nat) (r : Round) (data : Bytes) :
    Upholds s (t.opEnds b slot code tagErr r data) := by
  unfold State.opEnds
  extract_lets op s1 s2 s3 s4
  have counted : Upholds s s2 := (h.pushResult ..).record (by simp only [Reg.EVT_LATCHED, Reg.OP_SEQ]; omega)
    (by simp only [List.mem_singleton, forall_eq, Reg.EVT_LATCHED, Reg.OP_RUNS]; omega)
  have told : Upholds s s3 := (counted.latch ..).ite (counted.latch ..)
  have ended : Upholds s s4 := (told.armOp ..).ite (told.opState ..)
  exact (ended.watch ..).ite ended

theorem Upholds.roundStats (b cause : Nat) (aborted : Bool) (r : Round) : Upholds s (t.roundStats b cause aborted r) := by
  refine (h.record ?_ ?_).latch ..
  · simp only [Reg.EVT_LATCHED, Reg.RSTAT_SEQ]; omega
  · simp only [List.mem_cons, List.not_mem_nil, or_false, forall_eq_or_imp, forall_eq, Reg.EVT_LATCHED, Reg.ROUND_STATE,
      Reg.ROUND_ZONE, Reg.ROUND_PROFILE, Reg.LR_SLOTS, Reg.LR_SINGLES, Reg.LR_EMPTIES, Reg.LR_COLLISIONS, Reg.LR_CRC_ERRORS,
      Reg.LR_LATE, Reg.LR_END_CAUSE, Reg.LR_FLAGS, Reg.LR_DURATION, Reg.ROUND_NUMBER]
    omega

theorem Upholds.endRound (b cause : Nat) (aborted : Bool) : Upholds s (t.endRound b cause aborted) := by
  unfold State.endRound
  split
  · exact h
  · next r _ =>
    extract_lets s0 _ s1 s2
    have closed : Upholds s s1 := ((h.replyOver b).beamsDue b).eng _
    have ended : Upholds s s2 := by
      show Upholds s (match r.opNow with
        | some n => s1.opEnds b n 7 0xFF r []
        | none => s1)
      split
      · exact closed.opEnds ..
      · exact closed
    exact (ended.eng _).roundStats ..

/-! ### The HF field and the TEST carrier -/

theorem Upholds.showHf : Upholds s t.showHf :=
  h.ite (h.recordIf (by decide) (by simp only [List.mem_singleton, forall_eq]; decide))

theorem Upholds.dropField : Upholds s t.dropField := by
  unfold State.dropField
  split
  · exact h
  · refine ((h.record (by decide) ?_).record (by decide) ?_).updHf _
    · simp only [List.mem_cons, List.not_mem_nil, or_false, forall_eq_or_imp, forall_eq]; decide
    · simp only [List.mem_cons, List.not_mem_nil, or_false, forall_eq_or_imp, forall_eq]; decide

theorem Upholds.hfEnd (status : Nat) (rsp : Bytes) : Upholds s (t.hfEnd status rsp) := by
  unfold State.hfEnd
  split
  · exact h
  · extract_lets s1 s2
    have shown : Upholds s s2 := ((h.updHf _).putDom ..).record (by decide)
      (by simp only [List.mem_cons, List.not_mem_nil, or_false, forall_eq_or_imp, forall_eq]; decide)
    exact ((shown.record (by decide) (by simp only [List.mem_singleton, forall_eq]; decide)).latch ..).showHf

theorem Upholds.closeSession : Upholds s t.closeSession :=
  (((h.dropField.updHf _).putDom ..).record (by decide) (by simp only [List.mem_singleton, forall_eq]; decide)).showHf.ite h

theorem Upholds.hfStop (status : Nat) : Upholds s (t.hfStop status) := by
  unfold State.hfStop
  extract_lets _ _ s1
  have kept : Upholds s s1 := h.congr rfl rfl rfl rfl
  exact (kept.hfEnd status []).closeSession.dropField

theorem Upholds.endTestField (fault : Bool) : Upholds s (t.endTestField fault) :=
  ((h.dropField.updHf _).put (by decide) _).ite h

theorem Upholds.stopBreath : Upholds s t.stopBreath :=
  h.ite ((h.dropField.updHf _).record (by decide) (by simp only [List.mem_singleton, forall_eq]; decide)).showHf

theorem Upholds.endTest (r : Result) : Upholds s (t.endTest r) := by
  unfold State.endTest
  split
  · exact h
  · exact (h.testC _).record (by decide)
      (by simp only [List.mem_cons, List.not_mem_nil, or_false, forall_eq_or_imp, forall_eq]; decide)

/-- Every carrier and the field going off leave the configuration's part and the latched events (R40, R145, R547). -/
theorem Upholds.carriersOff (mute : Bool) : Upholds s (t.carriersOff mute) := by
  unfold State.carriersOff
  extract_lets s1 s2 s3 _ s4
  have ended : Upholds s s1 := h.foldl _ fun _ q hu => hu.endRound q 5 true
  have dark : Upholds s s2 := ended.muteAll.ite ended.rampAll
  have cut : Upholds s s3 := (dark.endTest .fault).cutSweep
  have bare : Upholds s s4 := cut.val _
  exact ((bare.dropDwells.hfStop 8).endTestField true).stopBreath

end

end Sys2Proof.Machine
end

section
/-! SUPPORT. Staging, commits and storing (R97 to R124), and the statement settled with them. -/

namespace Sys2Proof.Machine

/-! ### Requests that change the configuration's part -/

/-- Nothing is to be disarmed while the lock is not armed (R197). -/
theorem State.disarm_unarmed {s : State} (unarmed : s.get Reg.LOCK_STATE ≠ 1) : s.disarm = s := by
  simp [State.disarm, unarmed]

/-! ### Staging (R97 to R100, R105, R124) -/

theorem Tab.mem_of_find {α : Type} {t : Tab α} {k : Nat} {v : α} (found : Tab.find t k = some v) : (k, v) ∈ t := by
  induction t with
  | nil => cases found
  | cons p r ih =>
    obtain ⟨a, x⟩ := p
    rw [Tab.find] at found
    split at found
    · next same =>
      cases found
      rw [same]
      exact List.mem_cons_self
    · exact List.mem_cons_of_mem _ (ih found)

/-- STAGED_LINKS has the bit of every link that staged an entry present (Table 3.5). -/
theorem State.bit_stagedLinks {s : State} {k : Nat} {l : Link} (staged : Tab.find s.cfg.stagedBy k = some l) :
    bit s.stagedLinks (Link.code l - 1) = true :=
  (testBit_maskOf ..).2 (List.mem_eraseDups.2 (List.mem_map.2 ⟨(k, l), Tab.mem_of_find staged, rfl⟩))

/-- A new staged set may count one update of the peek group; nothing else beside itself changes. -/
theorem State.restage_only (s : State) (staged : DomStore) (by_ : Tab Link) : ∃ x,
    s.restage staged by_ = { s with regs := x, cfg := { s.cfg with staged := staged, stagedBy := by_ } } ∧
    SameBut [Reg.PEEK_SEQ] s { s with regs := x } := by
  unfold State.restage
  extract_lets u
  split
  · exact ⟨s.regs, rfl, SameBut.refl _ s⟩
  · exact ⟨(s.seq Reg.PEEK_SEQ).regs, rfl, SameBut.put _ (List.mem_singleton_self _)⟩

/-- A new staged set leaves an unarmed lock unarmed. -/
theorem State.restage_unarmed {s : State} (staged : DomStore) (by_ : Tab Link) (unarmed : s.get Reg.LOCK_STATE ≠ 1) :
    (s.restage staged by_).get Reg.LOCK_STATE ≠ 1 := by
  obtain ⟨x, only, kept, -⟩ := s.restage_only staged by_
  rw [only]
  exact fun armed => unarmed ((kept _ (by decide)).symm.trans armed)

/-- A write of a configuration object that no check of R97 refuses enters the staged set. -/
theorem State.stageWrite_enters {s : State} {l : Link} {k : Nat} {d : Bytes}
    (found : (Dict.find k).any (fun f => decide (f.row.acc = Acc.rws ∨ (f.row.acc = Acc.lock ∧ s.regLocked = false)) &&
      f.present s.variant s.mode && f.writeOk s.variant d) = true)
    (region : k = Reg.REGION_ID → (Region.ofId (leNat d)).isSome = true) (owner : s.ownerLocked = false)
    (unclaimed : s.claimedKey k = false) (idle : s.get Reg.COMMIT_STATE = 0) (fits : s.canStage k d = true)
    (unarmed : s.get Reg.LOCK_STATE ≠ 1) : s.stageWrite l k d = (.ok, s.stagePut (some l) k d) := by
  obtain ⟨f, find, meets⟩ := (Option.any_eq_true ..).1 found
  simp only [Bool.and_eq_true, decide_eq_true_eq] at meets
  obtain ⟨⟨access, present⟩, valid⟩ := meets
  have object : s.object k = some f := by simp [State.object, find, present]
  have takes : f.row.acc = .rws ∨ f.row.acc = .lock := access.imp_right And.left
  have unlocked : (decide (f.row.acc = .lock) && s.regLocked) = false := by
    obtain rws | ⟨-, free⟩ := access
    · simp [rws]
    · simp [free]
  have shipped : (decide (k = Reg.REGION_ID) && decide (d.length = 1) && (Region.ofId (leNat d)).isNone) = false := by
    by_cases id : k = Reg.REGION_ID
    · simp [Option.isNone_eq_false_iff.2 (region id)]
    · simp [id]
  have staged : s.stage l k f d = (.ok, (s.stagePut (some l) k d).disarm) := by
    unfold State.stage
    extract_lets unshipped
    have ruled : unshipped = false := shipped
    exact checks_pass (by simp [present, owner, unlocked, unclaimed, valid, ruled, idle, fits])
  rw [State.stageWrite, object]
  simp only [takes, Bool.or_eq_true, decide_eq_true_eq, if_true, staged]
  exact congrArg (Prod.mk _) (State.disarm_unarmed (State.restage_unarmed _ _ unarmed))

/-- A write of a LOCK object under the fired regulatory lock is refused and changes nothing (R97, R197). -/
theorem State.stageWrite_locked {s : State} {l : Link} {k : Nat} {d : Bytes}
    (found : (Dict.find k).any (fun f => decide (f.row.acc = Acc.lock) && f.present s.variant s.mode) = true)
    (fired : s.get Reg.LOCK_STATE = 2) : s.stageWrite l k d = (.denied, s) := by
  obtain ⟨f, find, meets⟩ := (Option.any_eq_true ..).1 found
  simp only [Bool.and_eq_true, decide_eq_true_eq] at meets
  obtain ⟨access, present⟩ := meets
  have object : s.object k = some f := by simp [State.object, find, present]
  have locked : s.regLocked = true := decide_eq_true fired
  have refused : s.stage l k f d = (.denied, s) := by
    unfold State.stage
    exact checks_fail (p := (true, .denied)) (by simp [present, access, locked])
  simp [State.stageWrite, object, access, refused]

/-- DISCARD empties the staged set and the image (R124). -/
theorem State.discardAll_empties {s : State} (idle : s.get Reg.COMMIT_STATE = 0) (unarmed : s.get Reg.LOCK_STATE ≠ 1) :
    s.discardAll 1 = (.ok, s.unstage.dropImage) := by
  have kept : s.unstage.dropImage.get Reg.LOCK_STATE ≠ 1 := State.restage_unarmed [] [] unarmed
  have emptied : s.discardAll 1 = (.ok, s.unstage.dropImage.disarm) := checks_pass (by simp [idle])
  exact emptied.trans (congrArg (Prod.mk _) (State.disarm_unarmed kept))

/-- A completed transfer that the image has room for extends it (R124). -/
theorem State.imageAppend_extends {s : State} {d : Bytes} (room : s.cfg.image.length + d.length ≤ 524288)
    (idle : s.get Reg.COMMIT_STATE = 0) (unarmed : s.get Reg.LOCK_STATE ≠ 1) :
    s.imageAppend d = (.ok, { s with cfg := { s.cfg with image := s.cfg.image ++ d } }) := by
  have extended : s.imageAppend d = (.ok, ({ s with cfg := { s.cfg with image := s.cfg.image ++ d } } : State).disarm) :=
    checks_pass (by simp [idle, room])
  exact extended.trans (congrArg (Prod.mk _) (State.disarm_unarmed unarmed))

/-! ### Commits (R103 to R116, R121) -/

/-- A write of COMMIT that no check refuses starts validation of its source (R106). -/
theorem State.commit_starts {s : State} {v : Nat} {src : CommitSrc}
    (source : v = 1 ∧ src = .staged ∧ s.ownerLocked = false ∨ v = 2 ∧ src = .image) (mode : s.mode ≠ .test)
    (idle : s.get Reg.COMMIT_STATE = 0) (still : s.sys.trans = none) (unarmed : s.get Reg.LOCK_STATE ≠ 1) :
    s.commit v = (.ok, ({ s with cfg := { s.cfg with src := some src } } : State).put Reg.COMMIT_STATE 1) := by
  have kept : (({ s with cfg := { s.cfg with src := some src } } : State).put Reg.COMMIT_STATE 1).get Reg.LOCK_STATE ≠ 1 := by
    rw [State.get_put_ne _ _ (by decide)]
    exact unarmed
  have started : s.commit v =
      (.ok, (({ s with cfg := { s.cfg with src := some src } } : State).put Reg.COMMIT_STATE 1).disarm) := by
    obtain ⟨rfl, rfl, owner⟩ | ⟨rfl, rfl⟩ := source
    · exact checks_pass (by simp [owner, mode, idle, still])
    · exact checks_pass (by simp [mode, idle, still])
  exact started.trans (congrArg (Prod.mk _) (State.disarm_unarmed kept))

/-- The answered start of a commit: COMMIT_STATE shows it, and the source is all else that changes. -/
theorem State.commit_begun {s : State} {l : Link} {v : Nat} {src : CommitSrc} (serves : Serves s l false)
    (started : s.commit v = (.ok, ({ s with cfg := { s.cfg with src := some src } } : State).put Reg.COMMIT_STATE 1)) :
    ∃ t, s.request l false (fun u => u.commit v) = t ∧ Answered t l .ok ∧ t.get Reg.COMMIT_STATE = 1 ∧
      t.cfg.src = some src ∧ SameButAnswer l [Reg.COMMIT_STATE] s { t with cfg := { t.cfg with src := s.cfg.src } } := by
  have same : SameBut [Reg.COMMIT_STATE] s (s.put Reg.COMMIT_STATE 1) := SameBut.put _ (List.mem_singleton_self _)
  refine ⟨_, State.request_answers serves (by rw [started]; rfl), ?_⟩
  rw [started]
  exact ⟨State.answered_answer .., (State.get_answer_apart _ _ _ (by decide)).trans (State.get_put_self ..), rfl,
    same.answer l .ok⟩

/-! ### Validation (R106, R107, R113, R116) -/

/-- A staged set that passes its stages becomes the configuration that will result (R113). -/
theorem exec_validationDone_passes {s : State} (source : s.cfg.src = some .staged) (validating : s.get Reg.COMMIT_STATE = 1)
    (entries : s.cfg.staged ≠ []) (passes : s.judgeEntries (s.overlay s.cfg.staged) s.cfg.staged = none)
    (mode : s.mode ≠ .run) : exec .validationDone s =
      .next (({ s with cfg := { s.cfg with next := some (s.changesTo (s.overlay s.cfg.staged)) } } : State).put
        Reg.COMMIT_STATE 2) := by
  show execValidationDone s = _
  simp [execValidationDone, source, validating, State.judgeStaged, passes, entries, mode]

/-- A staged set that fails a stage is rejected (R116). -/
theorem exec_validationDone_rejects {s : State} {r : Reject} (source : s.cfg.src = some .staged)
    (validating : s.get Reg.COMMIT_STATE = 1) (fails : s.judgeEntries (s.overlay s.cfg.staged) s.cfg.staged = some r) :
    exec .validationDone s = .next (s.rejected .staged r) := by
  show execValidationDone s = _
  simp [execValidationDone, source, validating, State.judgeStaged, fails]

/-- Stages 4 and 5 are all that the entries of a staged set can fail (R107). -/
theorem State.stage_of_judgeEntries {s c : State} {es : DomStore} {r : Reject} (fails : s.judgeEntries c es = some r) :
    r.stage = 4 ∨ r.stage = 5 := by
  unfold State.judgeEntries at fails
  split at fails
  · cases fails
    exact .inl rfl
  · obtain ⟨b, -, rfl⟩ := Option.map_eq_some_iff.1 fails
    exact .inr rfl

/-! ### The end of a commit (R116, R121) -/

/-- The end of a commit writes COMMIT_STATE and COMMIT_RESULT only. -/
theorem State.get_commitOver (s : State) (r : Result) {k : Nat} (state : k ≠ Reg.COMMIT_STATE) (result : k ≠ Reg.COMMIT_RESULT) :
    (s.commitOver r).get k = s.get k :=
  (State.get_put_ne _ _ result).trans (State.get_put_ne _ _ state)

/-- A commit has ended OK: COMMIT_STATE and COMMIT_RESULT show it, nothing is being committed, and event 3 is latched. -/
structure CommitEnded (t : State) : Prop where
  state : t.get Reg.COMMIT_STATE = 0
  result : t.get Reg.COMMIT_RESULT = 0
  source : t.cfg.src = none
  told : t.latched 3 = true

/-- A state that reads as one whose commit is over has ended it once event 3 is latched. -/
theorem CommitEnded.of_commitOver {s u : State} (regs : u.regs = (s.commitOver .ok).regs) (variant : u.variant = s.variant)
    (node : u.sys.node = s.sys.node) (source : u.cfg.src = none) (a b : Nat) : CommitEnded (u.latch 3 a b) := by
  have get : ∀ k, u.get k = (s.commitOver .ok).get k := State.get_congr regs variant node
  refine ⟨?_, ?_, ?_, State.latched_latch ..⟩
  · rw [State.get_latch_ne _ _ _ _ (by decide), get]
    exact (State.get_put_ne _ _ (by decide)).trans (State.get_put_self ..)
  · rw [State.get_latch_ne _ _ _ _ (by decide), get]
    exact State.get_put_self ..
  · rw [State.latch_cfg]
    exact source

/-- The start of storing leaves the end of the commit, and shows in PERSIST_STATE (R115). -/
theorem CommitEnded.startStoring {t : State} (h : CommitEnded t) : CommitEnded t.startStoring ∧
    t.startStoring.get Reg.PERSIST_STATE = 1 ∧ t.startStoring.cfg.storing ≠ none ∧ t.startStoring.sys = t.sys := by
  refine ⟨⟨(State.get_put_ne _ _ (by decide)).trans h.state, (State.get_put_ne _ _ (by decide)).trans h.result, h.source, ?_⟩,
    State.get_put_self .., Option.some_ne_none _, rfl⟩
  exact (congrArg (bit · 3) (State.get_put_ne _ _ (by decide))).trans h.told

/-- The state in which an empty staged set's commit is over, event 3 still to come (R116, log entry 13). -/
def State.emptyCommitted (s : State) : State :=
  { s.commitOver .ok with sys := { s.sys with commitBad := false } }

/-- An empty staged set ends its commit at once; nothing is stored unless storing had failed (R116). -/
theorem exec_validationDone_empty {s : State} (source : s.cfg.src = some .staged) (validating : s.get Reg.COMMIT_STATE = 1)
    (empty : s.cfg.staged = []) (passes : s.judgeEntries s [] = none) (stored : s.get Reg.PERSIST_STATE ≠ 2) :
    exec .validationDone s =
      .next (s.emptyCommitted.latch 3 Reg.CONFIG_GENERATION (s.emptyCommitted.get Reg.CONFIG_GENERATION)) := by
  have kept : (s.emptyCommitted.latch 3 Reg.CONFIG_GENERATION (s.emptyCommitted.get Reg.CONFIG_GENERATION)).get
      Reg.PERSIST_STATE ≠ 2 := by
    rw [State.get_latch_ne _ _ _ _ (by decide)]
    exact fun failed => stored ((s.get_commitOver .ok (by decide) (by decide)).symm.trans failed)
  have unchanged : s.overlay [] = s := rfl
  show execValidationDone s = _
  simp only [execValidationDone, source, validating, State.judgeStaged, empty, unchanged, passes]
  exact congrArg Host.Outcome.next (if_neg kept)

/-- The generation that a commit gives its configuration (R114). -/
def State.nextGeneration (s : State) : Nat := (s.get Reg.CONFIG_GENERATION + 1) % 2 ^ 32

/-- The state in which a new configuration's generation and the end of its commit show, event 3 still to come. -/
def State.generated (s : State) : State :=
  { (s.put Reg.CONFIG_GENERATION s.nextGeneration).commitOver .ok with
    sys := { s.sys with validConfig := true, commitBad := false } }

/-- What an apply instant comes to once the new configuration `s` is in force: event 3, and storing starts (R114, R115). -/
def State.committed (s : State) : State :=
  (s.generated.latch 3 Reg.CONFIG_GENERATION s.nextGeneration).startStoring

/-- The apply instant puts the new configuration in force and ends the commit (R111 to R115). -/
theorem exec_applyInstant {s : State} {x : CommitSrc} {es : DomStore} (source : s.cfg.src = some x)
    (next : s.cfg.next = some es) (applying : s.get Reg.COMMIT_STATE = 2) (ended : s.eng.rounds = []) :
    exec .applyInstant s = .next ((s.emptySource x).applyConfig es false).committed := by
  show execApplyInstant s = _
  unfold execApplyInstant
  rw [source, next]
  exact if_neg (by simp [applying, ended])

/-- Whatever configuration came into force, its commit has ended and it is being stored. -/
theorem State.committed_ends (s : State) : CommitEnded s.committed ∧ s.committed.get Reg.PERSIST_STATE = 1 ∧
    s.committed.cfg.storing ≠ none ∧ s.committed.sys.validConfig = true ∧ s.committed.sys.commitBad = false := by
  have ended := CommitEnded.of_commitOver (s := s.put Reg.CONFIG_GENERATION s.nextGeneration) (u := s.generated) rfl rfl rfl rfl
    Reg.CONFIG_GENERATION s.nextGeneration
  obtain ⟨-, -, alert, sys⟩ := (Quiet.refl s.generated).latch 3 Reg.CONFIG_GENERATION s.nextGeneration
  obtain ⟨stored, persist, storing, kept⟩ := ended.startStoring
  refine ⟨stored, persist, storing, ?_, ?_⟩ <;> rw [State.committed, kept, sys] <;> rfl

/-! ### A rejected commit (R121 to R123) -/

/-- A forced HOLD leaves the configuration's part and the record of the failed commit as they are. -/
theorem State.forceHold_commit (s : State) (reason : Nat) :
    (s.forceHold reason).cfg = s.cfg ∧ (s.forceHold reason).sys.commitBad = s.sys.commitBad := by
  have abandoned : s.abandon.cfg = s.cfg ∧ s.abandon.sys.commitBad = s.sys.commitBad := by
    unfold State.abandon
    split
    · exact ⟨rfl, rfl⟩
    · split <;> exact ⟨rfl, rfl⟩
  unfold State.forceHold
  split
  · exact ⟨rfl, rfl⟩
  · exact ⟨rfl, rfl⟩
  · extract_lets s1
    have off : s1.cfg = s.cfg ∧ s1.sys.commitBad = s.sys.commitBad := by
      by_cases moving : s.sys.trans.isSome = true
      · obtain ⟨-, -, alert, sys⟩ := (Quiet.refl s.abandon).cutSweep.quadsOff
        simp only [s1, if_pos moving, State.cfg_quadsOff, State.cfg_cutSweep, sys]
        exact abandoned
      · simp only [s1, if_neg moving, and_self]
    split
    · exact off
    · exact off
  · exact abandoned

/-- The state of a staged set that failed, its result shown and event 2 latched, the carriers still on (R121). -/
def State.refused (s : State) (r : Reject) : State :=
  let t := ((s.record Reg.REJECT_SEQ
    [(Reg.REJECT_INDEX, r.key / 256), (Reg.REJECT_SUB, r.key % 256), (Reg.REJECT_REASON, Result.code r.why),
     (Reg.REJECT_OTHER_INDEX, r.other / 256), (Reg.REJECT_OTHER_SUB, r.other % 256), (Reg.REJECT_STAGE, r.stage),
     (Reg.REJECT_COUNT, (s.get Reg.REJECT_COUNT + 1) % 2 ^ 32)]).latch 2 Reg.REJECT_REASON (Result.code r.why)).commitOver r.why
  { t with sys := { t.sys with commitBad := true } }

/-- A rejection out of stage 3, which alone counts a failed authentication, drops the carriers and forces HOLD (R121). -/
theorem State.rejected_eq {s : State} {r : Reject} (stage : r.stage ≠ 3) :
    s.rejected .staged r = ((s.refused r).hfStop 7 |>.carriersOff false).forceHold 5 := by
  unfold State.rejected
  rw [if_neg stage]
  rfl

/-- A refused staged set is kept, with event 2 latched and nothing being committed any more. -/
theorem State.refused_keeps (s : State) (r : Reject) : (s.refused r).cfg = { s.cfg with src := none, next := none } ∧
    (s.refused r).sys.commitBad = true ∧ (s.refused r).latched 2 = true := by
  refine ⟨?_, rfl, ?_⟩
  · simp [State.refused, State.commitOver]
  · exact (congrArg (bit · 2) (State.get_commitOver _ r.why (by decide) (by decide))).trans (State.latched_latch ..)

/-- A rejected staged set is kept, whatever going to HOLD does to the carriers, the rounds and the field (R121). -/
theorem State.rejected_keeps {s : State} {r : Reject} (stage : r.stage ≠ 3) :
    (s.rejected .staged r).cfg = { s.cfg with src := none, next := none } ∧ (s.rejected .staged r).sys.commitBad = true ∧
    (s.rejected .staged r).latched 2 = true := by
  obtain ⟨cfg, bad, told⟩ := s.refused_keeps r
  have off := ((Upholds.refl (s.refused r)).hfStop 7).carriersOff false
  obtain ⟨-, -, alert, sys⟩ := ((Quiet.refl (s.refused r)).hfStop 7).carriersOff false
  obtain ⟨holdCfg, holdBad⟩ := (((s.refused r).hfStop 7).carriersOff false).forceHold_commit 5
  obtain ⟨-, holdTold⟩ := (((s.refused r).hfStop 7).carriersOff false).forceHold_keeps 5
  rw [State.rejected_eq stage]
  refine ⟨holdCfg.trans (off.cfg.trans cfg), holdBad.trans ?_, (congrArg (bit · 2) holdTold).trans (off.latched 2 told)⟩
  rw [sys]
  exact bad

/-! ### Storing (R115, R118) -/

/-- The state in which the slot that takes the next configuration is erased, and nothing waits to be stored. -/
def State.slotErased (s : State) : State :=
  ({ s with cfg := { s.cfg with storing := none } } : State).updFlash 0 fun m => m.erase (configBase s.cfg.target) configSize

/-- The state in which an image stands in that slot, its record still to be written. -/
def State.slotWritten (s : State) (img : Bytes) : State :=
  s.slotErased.updFlash 0 fun m => m.writeAll (configBase s.cfg.target) img

theorem Cfg.writeRecord_storing (c : Cfg) (f : SlotRec → SlotRec) : (c.writeRecord f).storing = c.storing := by
  unfold Cfg.writeRecord
  split <;> rfl

section
variable {s : State} {img : Bytes} (waits : s.cfg.storing = some img) (free : s.flashTaken 0 = false)
include waits free

/-- The image is stored: the record then names its slot as the current one. -/
theorem exec_configPersistDone_stored : ∃ c : Cfg, c.storing = none ∧ c.slot = some s.cfg.target ∧
    exec (.configPersistDone true) s = .next (({ s.slotWritten img with cfg := c } : State).put Reg.PERSIST_STATE 0) := by
  have exec_eq : exec (.configPersistDone true) s = execConfigPersistDone true s := rfl
  rw [exec_eq, execConfigPersistDone, waits]
  simp only [free, Bool.false_eq_true, if_false, if_true]
  refine ⟨_, ?_, ?_, rfl⟩
  · exact (Cfg.writeRecord_storing ..).trans (Cfg.writeRecord_storing ..)
  · rfl

/-- Storing fails: the slot's bytes are unknown, and the flash error is counted with event 54. -/
theorem exec_configPersistDone_fails : exec (.configPersistDone false) s =
    .next (((s.slotErased.scramble 0 (configBase s.cfg.target) img.length).put Reg.PERSIST_STATE 2).flashError 0) := by
  show execConfigPersistDone false s = _
  unfold execConfigPersistDone
  rw [waits]
  simp only [free]
  rfl

end

/-- The written slot reads as the image, and outside the slot flash 0 reads as before. -/
theorem State.flash_slotWritten {s : State} (img : Bytes) (wf : Memory.wf (s.flash 0) = true) :
    ((s.slotWritten img).flash 0).readAll (configBase s.cfg.target) img.length = img ∧
    ∀ a, a < configBase s.cfg.target ∨ configBase s.cfg.target + max configSize img.length ≤ a →
      ((s.slotWritten img).flash 0).read a = (s.flash 0).read a := by
  have flash : (s.slotWritten img).flash 0 =
      ((s.flash 0).erase (configBase s.cfg.target) configSize).writeAll (configBase s.cfg.target) img := by
    rw [State.slotWritten, State.flash_updFlash_self, State.slotErased, State.flash_updFlash_self]
    rfl
  rw [flash]
  refine ⟨Memory.readAll_writeAll _ _ (Memory.wf_erase _ _ wf), fun a out => ?_⟩
  rw [Memory.read_writeAll_outside _ (by omega), Memory.read_erase_outside _ (by omega)]

/-- A flash error is counted, with event 54, and leaves the objects outside its group and the events' (R478). -/
theorem State.flashError_counts (s : State) : (s.flashError 0).latched 54 = true ∧
    (s.flashError 0).get (Reg.FLASH_ERRORS 0) = (s.get (Reg.FLASH_ERRORS 0) + 1) % 2 ^ 32 ∧
    (s.flashError 0).get Reg.PERSIST_STATE = s.get Reg.PERSIST_STATE ∧ (s.flashError 0).cfg = s.cfg := by
  refine ⟨State.latched_latch .., ?_, ?_, (State.latch_cfg ..).trans (State.record_cfg ..)⟩
  · exact (State.get_latch_ne _ _ _ _ (by decide)).trans (State.get_record_one _ _ (by decide))
  · refine (State.get_latch_ne _ _ _ _ (by decide)).trans (State.get_record_ne _ (by decide) ?_)
    simp only [List.mem_singleton, forall_eq]
    decide

/-- Settles O12, by what staging, each verdict, the apply instant and storing leave. -/
theorem commitsAreStagedCheckedAndApplied : Obligations.CommitsAreStagedCheckedAndApplied := by
  refine ⟨fun l index sub d s serves found region owner unclaimed idle fits unarmed => ?_,
    fun l index sub d s serves found fired => ?_, fun l s serves mode idle still unarmed owner => ?_,
    fun l s serves mode idle still unarmed => ?_, fun s source validating entries passes mode => ?_,
    fun r s source validating fails => ?_, fun s source validating empty passes stored => ?_,
    fun x es s source next applying ended => ?_, fun img s waits free wf => ?_, fun img s waits free => ?_,
    fun l s serves idle unarmed => ?_, fun l d s serves idle unarmed room => ?_⟩
  · have work := State.stageWrite_enters (l := l) found region owner unclaimed idle fits unarmed
    obtain ⟨x, only, same⟩ := s.restage_only (Tab.put s.cfg.staged (index * 256 + sub % 256) d)
      (Tab.put s.cfg.stagedBy (index * 256 + sub % 256) l)
    rw [State.stagePut, only] at work
    refine ⟨_, congrArg Host.Outcome.next (State.request_answers serves (by rw [work])), ?_⟩
    rw [work]
    exact ⟨State.answered_answer .., Tab.find_put_self .., fun j ne => Tab.find_put_ne _ _ ne, Tab.find_put_self ..,
      State.bit_stagedLinks (Tab.find_put_self ..), same.answer l .ok⟩
  · have work := State.stageWrite_locked (l := l) (d := d) found fired
    refine ⟨_, congrArg Host.Outcome.next (State.request_answers serves (by rw [work])), ?_⟩
    rw [work]
    exact s.answered_only l .denied
  · have started := State.commit_starts (.inl ⟨rfl, rfl, owner⟩) mode idle still unarmed
    obtain ⟨t, asked, begun⟩ := State.commit_begun serves started
    exact ⟨t, congrArg _ asked, begun⟩
  · have started := State.commit_starts (.inr ⟨rfl, rfl⟩) mode idle still unarmed
    obtain ⟨t, asked, begun⟩ := State.commit_begun serves started
    exact ⟨t, congrArg _ asked, begun⟩
  · have same : SameBut [Reg.COMMIT_STATE] s (s.put Reg.COMMIT_STATE 2) := SameBut.put _ (List.mem_singleton_self _)
    exact ⟨_, exec_validationDone_passes source validating entries passes mode, State.get_put_self .., rfl, rfl, same⟩
  · have stage : r.stage ≠ 3 := by
      obtain four | five := State.stage_of_judgeEntries fails <;> omega
    obtain ⟨cfg, bad, told⟩ := State.rejected_keeps (s := s) stage
    refine ⟨_, exec_validationDone_rejects source validating fails, ?_, bad, ?_, told⟩ <;> rw [cfg]
  · obtain ⟨state, result, closed, told⟩ := CommitEnded.of_commitOver (s := s) (u := s.emptyCommitted) rfl rfl rfl rfl
      Reg.CONFIG_GENERATION (s.emptyCommitted.get Reg.CONFIG_GENERATION)
    obtain ⟨-, -, alert, sys⟩ := (Quiet.refl s.emptyCommitted).latch 3 Reg.CONFIG_GENERATION
      (s.emptyCommitted.get Reg.CONFIG_GENERATION)
    refine ⟨_, exec_validationDone_empty source validating empty passes stored, closed, state, result, told, ?_, ?_⟩
    · rw [sys]
      rfl
    · exact (State.get_latch_ne _ _ _ _ (by decide)).trans (s.get_commitOver .ok (by decide) (by decide))
  · obtain ⟨⟨state, result, closed, told⟩, persist, storing, valid, bad⟩ :=
      ((s.emptySource x).applyConfig es false).committed_ends
    exact ⟨_, exec_applyInstant source next applying ended, state, result, persist, closed, storing, valid, bad, told⟩
  · obtain ⟨c, done, slot, exec_eq⟩ := exec_configPersistDone_stored waits free
    obtain ⟨reads, outside⟩ := State.flash_slotWritten img wf
    have same : SameBut [Reg.PERSIST_STATE] s (s.put Reg.PERSIST_STATE 0) := SameBut.put _ (List.mem_singleton_self _)
    exact ⟨_, exec_eq, State.get_put_self .., done, slot, reads, outside, same⟩
  · obtain ⟨told, count, persist, cfg⟩ :=
      ((s.slotErased.scramble 0 (configBase s.cfg.target) img.length).put Reg.PERSIST_STATE 2).flashError_counts
    refine ⟨_, exec_configPersistDone_fails waits free, persist.trans (State.get_put_self ..), ?_, ?_, told, ?_⟩
    · rw [cfg]
      rfl
    · rw [cfg]
      rfl
    · rw [count, State.get_put_ne _ _ (by decide)]
      rfl
  · have work := State.discardAll_empties idle unarmed
    obtain ⟨x, only, same⟩ := s.restage_only [] []
    rw [State.unstage, only] at work
    refine ⟨_, congrArg Host.Outcome.next (State.request_answers serves (by rw [work]; rfl)), ?_⟩
    rw [work]
    exact ⟨State.answered_answer .., rfl, same.answer l .ok⟩
  · have work := State.imageAppend_extends room idle unarmed
    refine ⟨_, congrArg Host.Outcome.next (State.request_answers serves (by rw [work])), ?_⟩
    rw [work]
    exact ⟨State.answered_answer .., rfl, (SameBut.refl [] s).answer l .ok⟩

end Sys2Proof.Machine
end

section
/-! SUPPORT. What raising and lowering Drone, sweeping a chain, calibrating a quad and showing the beams change and leave (R145,
R150, R170, R203). -/

namespace Sys2Proof.Machine

/-! ### Members of a group update, and objects from the quads' upward -/

theorem State.get_puts_of_mem {l : List (Nat × Nat)} {k v : Nat} (s : State) (nodup : (l.map Prod.fst).Nodup)
    (mem : (k, v) ∈ l) : (s.puts l).get k = v := by
  obtain ⟨a, b, rfl⟩ := List.append_of_mem mem
  refine State.get_puts_last s a b k v fun p after => ?_
  rintro rfl
  simp only [List.map_append, List.map_cons, List.nodup_append, List.nodup_cons] at nodup
  obtain ⟨-, ⟨fresh, -⟩, -⟩ := nodup
  exact fresh (List.mem_map_of_mem after)

/-- After a group update of members all different, and none of them the sequence sub-index, each has its value (R129). -/
theorem State.get_record_of_mem {q : Nat} {l : List (Nat × Nat)} {k v : Nat} (s : State) (nodup : (q :: l.map Prod.fst).Nodup)
    (mem : (k, v) ∈ l) : (s.record q l).get k = v := by
  obtain ⟨seq, members⟩ := List.nodup_cons.1 nodup
  have other : k ≠ q := by
    rintro rfl
    exact seq (List.mem_map_of_mem mem)
  exact (State.get_seq_ne _ other).trans (State.get_puts_of_mem s members mem)

/-- The objects that events write lie below those of the quads. -/
theorem State.get_latch_quadsUp (s : State) (e a b : Nat) {k : Nat} (up : QuadsUp k) : (s.latch e a b).get k = s.get k := by
  refine State.get_latch_ne _ _ _ _ ?_
  simp only [QuadsUp, eventKeys, List.mem_cons, List.not_mem_nil, or_false, Reg.EVT_LATCHED, Reg.EVTH_SEQ, Reg.LOG_DROPPED,
    Reg.LOGS_SEQ, Reg.EMCY_DROPPED, Reg.CANSTATE_SEQ, Reg.IRQ_ASSERTIONS] at up ⊢
  omega

/-- The links' last results lie below the objects of the quads too. -/
theorem State.get_answer_quadsUp (s : State) (l : Link) (r : Result) {k : Nat} (up : QuadsUp k) :
    (s.answer l r).get k = s.get k := by
  refine State.get_answer_apart _ _ _ ?_
  simp only [QuadsUp, List.mem_cons, List.not_mem_nil, or_false, Reg.SPT_LAST_RESULT, Reg.TWA_LAST_RESULT,
    Reg.CAN_LAST_RESULT] at up ⊢
  omega

theorem State.latched_answer (s : State) (l : Link) (r : Result) (e : Nat) : (s.answer l r).latched e = s.latched e :=
  congrArg (Nat.testBit · e) (State.get_answer_apart s l r (by decide))

theorem State.chain_answer (s : State) (l : Link) (r : Result) (c : Nat) : (s.answer l r).chain c = s.chain c := rfl

theorem State.quad_answer (s : State) (l : Link) (r : Result) (q : Nat) : (s.answer l r).quad q = s.quad q := rfl

/-! ### Frames -/

theorem SameBut.get_eq {ks : List Nat} {s t : State} (same : SameBut ks s t) {k : Nat} (apart : k ∉ ks) : t.get k = s.get k :=
  same.1 k apart

/-- All but the held objects stands. -/
theorem SameBut.regs_only {ks : List Nat} {s t : State} (same : SameBut ks s t) : t = { s with regs := t.regs } := by
  obtain ⟨-, rest⟩ := same
  exact (congrArg (fun u : State => { u with regs := t.regs }) rest :)

/-- A change of a chain's hidden part beside the objects of a frame. -/
theorem SameBut.updChain {ks : List Nat} {s t : State} (same : SameBut ks s t) (c : Nat) (f : Chain → Chain) :
    SameBut ks s { t.updChain c f with chains := s.chains } := by
  have chains : t.chains = s.chains := (congrArg State.chains same.regs_only :)
  have only : { t.updChain c f with chains := s.chains } = t := by
    rw [← chains]
    rfl
  rw [only]
  exact same

theorem Quiet.trans {s t u : State} (h : Quiet s t) (g : Quiet t u) : Quiet s u := by
  obtain ⟨hubs, mode, off, sys⟩ := h
  obtain ⟨hubs', mode', off', sys'⟩ := g
  exact ⟨hubs'.trans hubs, mode'.trans mode, off', by rw [sys', sys]⟩

/-! ### The beam groups -/

/-- The beam groups and the array's part alone may differ. -/
def Shows (s t : State) : Prop := ∃ x y, t = { s with regs := x, arr := y }

theorem Shows.refl (s : State) : Shows s s := ⟨s.regs, s.arr, rfl⟩

section
variable {s t : State} (h : Shows s t)
include h

theorem Shows.trans {u : State} (g : Shows t u) : Shows s u := by
  obtain ⟨_, _, rfl⟩ := h
  obtain ⟨x, y, rfl⟩ := g
  exact ⟨x, y, rfl⟩

theorem Shows.foldl {α : Type} (l : List α) {f : State → α → State} (step : ∀ u a, Shows u (f u a)) : Shows s (l.foldl f t) :=
  List.foldlRecOn l f h fun u hu a _ => hu.trans (step u a)

theorem Shows.arr (a : Arr) : Shows s { t with arr := a } := h.trans ⟨t.regs, a, rfl⟩

theorem Shows.recordIf (q : Nat) (l : List (Nat × Nat)) : Shows s (t.recordIf q l) := by
  obtain ⟨x, only⟩ := t.recordIf_only q l
  exact h.trans ⟨x, t.arr, only⟩

theorem Shows.showTx (q : Nat) : Shows s (t.showTx q) := by
  unfold State.showTx
  split <;> exact h.recordIf ..

theorem Shows.showRx (b : Nat) : Shows s (t.showRx b) := by
  unfold State.showRx
  extract_lets k
  split
  · dsimp only
    split <;> exact h.recordIf ..
  · exact h.recordIf ..

theorem Shows.beamsOut (b : Nat) : Shows s (t.beamsOut b) :=
  (h.arr _).foldl _ fun u b => ((Shows.refl u).arr _).showRx b

theorem Shows.showBeams : Shows s t.showBeams := by
  refine (h.foldl _ fun u q => ?_).recordIf ..
  extract_lets v
  have shown : Shows u v := (Shows.refl u).showTx q
  split
  · exact shown.arr _
  · exact shown.beamsOut q

theorem Shows.quads_eq : t.quads = s.quads := by
  obtain ⟨_, _, rfl⟩ := h
  rfl

theorem Shows.chains_eq : t.chains = s.chains := by
  obtain ⟨_, _, rfl⟩ := h
  rfl

end

/-! ### Chains, their Drone and their calibrations -/

/-- What raising and lowering Drone, calibrating and sweeping leave as it is: beside what is quiet, the dwells, the TEST carrier
and the sweep. -/
structure Tunes (s t : State) : Prop where
  quiet : Quiet s t
  val : t.val = s.val
  testC : t.testC = s.testC
  sweep : t.sweep = s.sweep

theorem Tunes.refl (s : State) : Tunes s s := ⟨Quiet.refl s, rfl, rfl, rfl⟩

section
variable {s t : State} (h : Tunes s t)
include h

/-- A quiet change of anything but the dwells, the TEST carrier and the sweep. -/
theorem Tunes.congr {u : State} (quiet : Quiet s u) (val : u.val = t.val) (testC : u.testC = t.testC)
    (sweep : u.sweep = t.sweep) : Tunes s u :=
  ⟨quiet, val.trans h.val, testC.trans h.testC, sweep.trans h.sweep⟩

theorem Tunes.ite {c : Prop} [Decidable c] {u : State} (g : Tunes s u) : Tunes s (if c then t else u) := by
  split
  · exact h
  · exact g

theorem Tunes.foldl {α : Type} (l : List α) {f : State → α → State} (step : ∀ u a, Tunes s u → Tunes s (f u a)) :
    Tunes s (l.foldl f t) :=
  List.foldlRecOn l f h fun u hu a _ => step u a hu

theorem Tunes.arr (a : Arr) : Tunes s { t with arr := a } := h.congr (h.quiet.arr a) rfl rfl rfl
theorem Tunes.draw : Tunes s t.draw.2 := h.congr (h.quiet.congr rfl rfl rfl) rfl rfl rfl
theorem Tunes.updQuad (q : Nat) (f : Quad → Quad) : Tunes s (t.updQuad q f) := h.congr (h.quiet.updQuad q f) rfl rfl rfl
theorem Tunes.updChain (c : Nat) (f : Chain → Chain) : Tunes s (t.updChain c f) := h.congr (h.quiet.updChain c f) rfl rfl rfl

theorem Tunes.record (q : Nat) (l : List (Nat × Nat)) : Tunes s (t.record q l) :=
  h.congr (h.quiet.record q l) (by simp) (by simp) (by simp)

theorem Tunes.updSeed (c khz : Nat) (f : Seed → Seed) : Tunes s (t.updSeed c khz f) :=
  h.congr ((h.quiet.updChain ..).seq _) rfl rfl rfl

theorem Tunes.recordIf (q : Nat) (l : List (Nat × Nat)) : Tunes s (t.recordIf q l) :=
  h.congr (h.quiet.recordIf q l) (by simp) (by simp) (by simp)

theorem Tunes.latch (e a b : Nat) : Tunes s (t.latch e a b) :=
  h.congr (h.quiet.latch e a b) (by simp) (by simp) (by simp)

theorem Tunes.showBeams : Tunes s t.showBeams := by
  have quiet := h.quiet.showBeams
  obtain ⟨x, y, only⟩ := (Shows.refl t).showBeams
  rw [only] at quiet ⊢
  exact h.congr quiet rfl rfl rfl

theorem Tunes.showQuad (q : Nat) : Tunes s (t.showQuad q) := (h.record ..).ite ((h.record ..).ite h)

theorem Tunes.keepFwd (c : Nat) : Tunes s (t.keepFwd c) := h.ite (h.updChain ..)

theorem Tunes.stopChain (c st : Nat) (mute : Bool) : Tunes s (t.stopChain c st mute) := by
  unfold State.stopChain
  extract_lets on s1 s2 s3
  have stopped : Tunes s s2 := ((h.keepFwd c).record ..).updChain ..
  exact ((stopped.updQuad ..).ite stopped).showQuad ..

theorem Tunes.faultChain (c b : Nat) : Tunes s (t.faultChain c b) := (h.record ..).stopChain ..

theorem Tunes.raiseChain (c : Nat) (level : Int) : Tunes s (t.raiseChain c level) := ((h.record ..).updChain ..).showQuad ..

theorem Tunes.loadSeed (khz c : Nat) : Tunes s (t.loadSeed khz c) := by
  unfold State.loadSeed
  extract_lets s1
  have afresh : Tunes s s1 := h.updChain ..
  split
  · exact afresh.record ..
  · exact afresh

theorem Tunes.phaseless (q : Nat) : Tunes s (t.phaseless q) := by
  unfold State.phaseless
  extract_lets s1 s2
  have shown : Tunes s s1 := (h.recordIf ..).recordIf ..
  have unmeasured : Tunes s s2 := shown.foldl _ fun _ _ hu => hu.updChain ..
  exact unmeasured.arr _

theorem Tunes.quadDark (q : Nat) : Tunes s (t.quadDark q) := h.foldl _ fun _ _ hu => (hu.stopChain ..).ite hu

theorem Tunes.synthOff (q : Nat) : Tunes s (t.synthOff q) := (((h.quadDark q).phaseless q).updQuad ..).recordIf ..

theorem Tunes.quadsOff : Tunes s t.quadsOff := h.foldl _ fun _ q hu => hu.synthOff q

theorem Tunes.quadBack (q cause : Nat) : Tunes s (t.quadBack q cause) := ((h.record ..).updQuad ..).ite h

theorem Tunes.calChain (res : CalRes) (c : Nat) : Tunes s (t.calChain res c) := by
  unfold State.calChain
  extract_lets k bad a b d rej s1 s2
  have found : Tunes s s1 := h.draw.draw.draw.record ..
  have cleared : Tunes s s2 := found.record ..
  exact (found.faultChain ..).ite (((cleared.record ..).updChain ..).ite found)

theorem Tunes.sweepOn (khz : Nat) (only : Option Nat) : Tunes s (t.sweepOn khz only) := by
  unfold State.sweepOn
  extract_lets cs s1
  have tuned : Tunes s s1 := h.foldl _ fun _ q hu => ((hu.phaseless q).updQuad ..).record ..
  exact tuned.foldl _ fun _ c hu => ((hu.loadSeed ..).raiseChain ..).record ..

end

end Sys2Proof.Machine
end

section
/-! SUPPORT. Blockers, return loss and probes of a chain, and the calibrations of a quad (R159 to R174). -/

namespace Sys2Proof.Machine

@[simp] theorem State.chain_updChain_self (s : State) (c : Nat) (f : Chain → Chain) :
    (s.updChain c f).chain c = f (s.chain c) := Tab.get_upd_self ..

theorem State.get_updChain (s : State) (c : Nat) (f : Chain → Chain) (k : Nat) : (s.updChain c f).get k = s.get k := rfl

/-! ### Blockers, return loss and probes (R159, R161, R163) -/

/-- The gain that a blocker asks for under AUTO: after the reply window where one is open (R158). -/
theorem State.gainTo_cases (s : State) (c g : Nat) :
    if (s.leaderOf (c / 4)).any s.inWindow then ((s.gainTo c g).chain c).gainDue = some g
    else (s.gainTo c g).get (Reg.RX_GAIN_STATE c) = g := by
  unfold State.gainTo
  split
  · rw [State.chain_updChain_self]
  · exact State.get_recordIf_one _ _ (by simp only [Reg.RX_GAIN_STATE, Reg.CSTATE_SEQ]; omega)

/-- A change of gain leaves a blocker noted, and every object but the gain's. -/
theorem State.gainTo_keeps (s : State) (c g : Nat) :
    ((s.gainTo c g).chain c).blocked = (s.chain c).blocked ∧
    ∀ k, k ≠ Reg.RX_GAIN_STATE c → k ≠ Reg.CSTATE_SEQ c → (s.gainTo c g).get k = s.get k := by
  unfold State.gainTo
  split
  · exact ⟨by rw [State.chain_updChain_self], fun _ _ _ => rfl⟩
  · refine ⟨by rw [State.chain, State.recordIf_chains, State.chain], fun k gain seq => ?_⟩
    exact State.get_recordIf_ne _ seq fun p mem => by simpa [List.mem_singleton.1 mem] using gain.symm

/-- The state in which a blocker has been counted and told (R159). -/
def State.blockerCounted (s : State) (c : Nat) : State :=
  let n := (s.get (Reg.BLOCKER_COUNT c) + 1) % 2 ^ 32
  ((s.record (Reg.RX_SEQ c) [(Reg.BLOCKER_COUNT c, n)]).latch 27 (Reg.BLOCKER_COUNT c) n).updChain c fun x =>
    { x with blocked := true }

theorem exec_blocker {s : State} {c : Fin 16} (gang : s.leaderOf (c.val / 4) ≠ none) (first : (s.chain c).blocked = false) :
    exec (.blocker c) s = .next (if (s.chain c).excluded then s.blockerCounted c
      else if (s.blockerCounted c).get (Reg.RX_GAIN_POLICY c) = 0 then (s.blockerCounted c).gainTo c 1
      else s.blockerCounted c) := by
  show execBlocker c s = _
  unfold execBlocker
  rw [if_neg (by simpa using gang)]
  simp only [first, Bool.false_eq_true, if_false, Bool.false_and]
  rfl

/-- The counting notes the blocker, counts it and latches event 27; the gain's policy and the reply windows stand. -/
theorem State.blockerCounted_counts (s : State) (c : Nat) :
    ((s.blockerCounted c).chain c).blocked = true ∧
    (s.blockerCounted c).get (Reg.BLOCKER_COUNT c) = (s.get (Reg.BLOCKER_COUNT c) + 1) % 2 ^ 32 ∧
    (s.blockerCounted c).latched 27 = true ∧
    (s.blockerCounted c).get (Reg.RX_GAIN_POLICY c) = s.get (Reg.RX_GAIN_POLICY c) ∧
    ((s.blockerCounted c).leaderOf (c / 4)).any (s.blockerCounted c).inWindow = (s.leaderOf (c / 4)).any s.inWindow := by
  unfold State.blockerCounted
  extract_lets n
  have up : QuadsUp (Reg.BLOCKER_COUNT c) ∧ QuadsUp (Reg.RX_GAIN_POLICY c) := by
    simp only [QuadsUp, Reg.BLOCKER_COUNT, Reg.RX_GAIN_POLICY]
    omega
  obtain ⟨count, policy⟩ := up
  refine ⟨by rw [State.chain_updChain_self], ?_, State.latched_latch .., ?_, ?_⟩
  · rw [State.get_updChain, State.get_latch_quadsUp _ _ _ _ count]
    exact State.get_record_one _ _ (by simp only [Reg.BLOCKER_COUNT, Reg.RX_SEQ]; omega)
  · rw [State.get_updChain, State.get_latch_quadsUp _ _ _ _ policy]
    exact State.get_record_ne _ (by simp only [Reg.RX_GAIN_POLICY, Reg.RX_SEQ]; omega)
      (by simp only [List.mem_singleton, forall_eq, Reg.RX_GAIN_POLICY, Reg.BLOCKER_COUNT]; omega)
  · have alike : ∀ u : State, u.val = s.val → u.eng = s.eng →
        (u.leaderOf (c / 4)).any u.inWindow = (s.leaderOf (c / 4)).any s.inWindow := fun u val eng => by
      unfold State.leaderOf State.inWindow State.round
      rw [val, eng]
    exact alike _ (by simp [State.updChain]) (by simp [State.updChain])

/-- A first blocker's outcome, whatever becomes of the gain. -/
theorem blocker_completes {s : State} {c : Fin 16} (gang : s.leaderOf (c.val / 4) ≠ none)
    (first : (s.chain c).blocked = false) :
    Completes (.blocker c) s fun t =>
      (t.chain c).blocked = true ∧
      t.get (Reg.BLOCKER_COUNT c) = (s.get (Reg.BLOCKER_COUNT c) + 1) % 2 ^ 32 ∧
      t.latched 27 = true ∧
      ((s.chain c).excluded = false → s.get (Reg.RX_GAIN_POLICY c) = 0 →
        if (s.leaderOf (c.val / 4)).any s.inWindow then (t.chain c).gainDue = some 1 else t.get (Reg.RX_GAIN_STATE c) = 1) := by
  obtain ⟨noted, count, told, policy, window⟩ := s.blockerCounted_counts c
  refine ⟨_, exec_blocker gang first, ?_⟩
  rw [policy]
  split
  · next out => exact ⟨noted, count, told, fun used => absurd out (by simp [used])⟩
  · split
    · obtain ⟨kept, same⟩ := (s.blockerCounted c).gainTo_keeps c 1
      have gain := (s.blockerCounted c).gainTo_cases c 1
      rw [window] at gain
      refine ⟨kept.trans noted, (same _ ?_ ?_).trans count, ?_, fun _ _ => gain⟩
      · simp only [Reg.BLOCKER_COUNT, Reg.RX_GAIN_STATE]; omega
      · simp only [Reg.BLOCKER_COUNT, Reg.CSTATE_SEQ]; omega
      · have latches : Reg.EVT_LATCHED ≠ Reg.RX_GAIN_STATE c ∧ Reg.EVT_LATCHED ≠ Reg.CSTATE_SEQ c := by
          simp only [Reg.EVT_LATCHED, Reg.RX_GAIN_STATE, Reg.CSTATE_SEQ]
          omega
        rw [State.latched, same _ latches.1 latches.2]
        exact told
    · next manual => exact ⟨noted, count, told, fun _ auto => absurd auto manual⟩

/-- A return loss at or above both limits is shown, and nothing acts on it (R161 to R163). -/
theorem exec_returnLossUpdate_shown {s : State} {c : Fin 16} {rl : Int} (fwd : Int) (up : s.get (Reg.CHAIN_STATE c) = 2)
    (warn : s.i16 (Reg.MISMATCH_WARN_RL c) ≤ rl) (cut : s.i16 (Reg.MISMATCH_CUT_RL c) ≤ rl) :
    exec (.returnLossUpdate c rl fwd) s =
      .next (s.record (Reg.CSTATE_SEQ c) [(Reg.RETURN_LOSS c, ofInt 16 rl), (Reg.FWD_POWER c, ofInt 16 fwd)]) := by
  show execReturnLossUpdate c rl fwd s = _
  unfold execReturnLossUpdate
  extract_lets s1 s2
  have limits : s1.get (Reg.MISMATCH_WARN_RL c) = s.get (Reg.MISMATCH_WARN_RL c) ∧
      s1.get (Reg.MISMATCH_CUT_RL c) = s.get (Reg.MISMATCH_CUT_RL c) := by
    constructor <;> refine State.get_record_ne _ ?_ ?_ <;>
      simp [Reg.MISMATCH_WARN_RL, Reg.MISMATCH_CUT_RL, Reg.CSTATE_SEQ, Reg.RETURN_LOSS, Reg.FWD_POWER]
  have silent : s2 = s1 := if_neg (by rw [State.i16, limits.1]; exact Int.not_lt.2 warn)
  have uncut : (if rl < s1.i16 (Reg.MISMATCH_CUT_RL c) then s1.mismatchCut c rl else s1) = s1 :=
    if_neg (by rw [State.i16, limits.2]; exact Int.not_lt.2 cut)
  rw [if_neg (by simp [up]), silent, uncut]
  exact ite_self _

/-- The chain after a probe that succeeded on channel `k`, the beams still to follow (R163). -/
def State.probed (s : State) (c k : Nat) : State :=
  (((s.record (Reg.CSTATE_SEQ c) [(Reg.CHAIN_FAULT c, clrBit (s.get (Reg.CHAIN_FAULT c)) 2)]).updSeed c k fun e =>
    { e with flags := clrBit e.flags 2 }).record (Reg.PORT_SEQ c) [(Reg.CUT_RUN c, 0)]).updChain c fun x =>
      { x with probing := none, cut := none, probes := x.probes.filter fun y => y != k }

theorem State.probed_done (s : State) (c k : Nat) :
    ((s.probed c k).chain c).probing = none ∧ ((s.probed c k).chain c).cut = none ∧
    ∀ y ∈ ((s.probed c k).chain c).probes, y ≠ k := by
  rw [State.probed, State.chain_updChain_self]
  refine ⟨rfl, rfl, fun y mem => ?_⟩
  obtain ⟨-, other⟩ := List.mem_filter.1 mem
  simpa using other

theorem exec_probeSuccess {s : State} {c : Fin 16} {k : Nat} (probing : (s.chain c).probing = some k) :
    exec (.probeSuccess c) s = .next (s.probed c k).showBeams := by
  show execProbeSuccess c s = _
  simp only [execProbeSuccess, probing]
  rfl

theorem State.chain_showBeams (s : State) (c : Nat) : s.showBeams.chain c = s.chain c :=
  congrArg (Tab.get · c) (Shows.refl s).showBeams.chains_eq

/-! ### Calibrations (R170, R172, R174) -/

theorem State.quad_congr {s t : State} (h : t.quads = s.quads) (q : Nat) : t.quad q = s.quad q := congrArg (Tab.get · q) h

theorem State.quads_rampDown (s : State) (c : Nat) : (s.rampDown c).quads = s.quads := by
  unfold State.rampDown State.keepFwd
  extract_lets khz
  split
  · split <;> simp [State.updChain]
  · rfl

theorem State.quads_loadSeed (s : State) (khz c : Nat) : (s.loadSeed khz c).quads = s.quads := by
  unfold State.loadSeed
  extract_lets s1
  split
  · simp [s1, State.updChain]
  · rfl

theorem State.quads_foldl {α : Type} (l : List α) (s : State) {f : State → α → State} (step : ∀ u a, (f u a).quads = u.quads) :
    (l.foldl f s).quads = s.quads :=
  List.foldlRecOn (motive := fun t : State => t.quads = s.quads) l f rfl fun u kept a _ => (step u a).trans kept

theorem State.quads_askTone (s : State) (l : Nat) : (s.askTone l).quads = s.quads := by
  have ramped : ((bitsOf 4 (s.toneGang l)).foldl State.rampQuad s).quads = s.quads :=
    State.quads_foldl _ _ fun u _ => State.quads_foldl _ u State.quads_rampDown
  unfold State.askTone
  extract_lets s1 r
  split <;> exact ramped

/-- A quad that locks for no TEST carrier and no dwell asks for the tone bus at most (R36). -/
theorem State.quadLocked_alone {s : State} (q : Nat) (test : s.testC = none) (idle : s.val.running = []) :
    (s.quadLocked q).quads = s.quads ∧ Quiet s (s.quadLocked q) := by
  have alone : s.quadLocked q = if s.channels.isEmpty then s else s.askTone q := by
    simp [State.quadLocked, test, State.leaderOf, idle]
  rw [alone]
  split
  · exact ⟨rfl, Quiet.refl s⟩
  · exact ⟨s.quads_askTone q, (Quiet.refl s).askTone q⟩

/-- In READY no transition waits for the calibrations. -/
theorem State.calsEnded_ready {s : State} (mode : s.mode = .ready) : s.calsEnded = s := by
  simp [State.calsEnded, mode]

/-- A full calibration that passes outside a dwell ends with the quad neither calibrating nor failed (R170). -/
theorem State.calPasses_ends {s : State} (q : Nat) (res : CalRes) (test : s.testC = none) (idle : s.val.running = [])
    (mode : s.mode = .ready) :
    ((s.calPasses q res).quad q).calibrating = false ∧ ((s.calPasses q res).quad q).calFailed = false ∧
    (s.calPasses q res).mode = .ready := by
  unfold State.calPasses
  extract_lets x rc s1 s2 s3 s4 onIt out s5 n s6 s7
  have found : Tunes s s1 := (Tunes.refl s).draw.foldl _ fun _ c hu => hu.calChain res c
  have back : Tunes s s2 := found.quadBack q 2
  have returned : Tunes s s3 := (back.quadBack q 3).ite back
  have told : Tunes s s6 := (((returned.updQuad q _).record ..).record ..).latch .. |>.showBeams
  have quads6 : s6.quads = s4.quads := by
    simp [s6, s5, (Shows.refl _).showBeams.quads_eq]
  have locked : s7.quads = s4.quads ∧ s7.mode = .ready := by
    simp only [s7]
    split
    · exact ⟨quads6, told.quiet.mode_eq.trans mode⟩
    · have seeded := told.foldl (chainsOf q) (f := (State.loadSeed · x.calKhz)) fun _ c hu => hu.loadSeed _ c
      obtain ⟨quads, quiet⟩ := State.quadLocked_alone q (seeded.testC.trans test) ((congrArg Val.running seeded.val).trans idle)
      refine ⟨quads.trans ?_, quiet.mode_eq.trans (seeded.quiet.mode_eq.trans mode)⟩
      exact (State.quads_foldl _ _ fun u c => u.quads_loadSeed _ c).trans quads6
  obtain ⟨quads, ready⟩ := locked
  rw [State.calsEnded_ready ready, State.quad_congr quads]
  exact ⟨by rw [State.quad_updQuad_self], by rw [State.quad_updQuad_self], ready⟩

/-- The objects that a full calibration's results are shown in (Table 4.5). -/
def State.calShown (s : State) (q : Nat) (res : CalRes) : State :=
  s.record (Reg.QCAL_SEQ q)
    [(Reg.CAL_LAST_SET q, 0x1F), (Reg.CAL_LAST_FAILED q, CalRes.failed res),
     (Reg.CAL_LAST_RESULT q, Result.code (if CalRes.failed res = 0 then .ok else .fault)),
     (Reg.CAL_LAST_DURATION q, res.durUs % 2 ^ 32)]

theorem exec_fullCalDone_passes {s : State} {q : Fin 4} {res : CalRes} (runs : (s.quad q).calibrating = true)
    (osc : res.failOsc = false) (filter : res.failFilter = false) :
    exec (.fullCalDone q res) s = .next ((s.calShown q res).calPasses q res) := by
  show execFullCalDone q res s = _
  simp only [execFullCalDone, runs, osc, filter]
  rfl

theorem exec_fullCalDone_repeats {s : State} {q : Fin 4} {res : CalRes} (runs : (s.quad q).calibrating = true)
    (first : (s.quad q).calRepeat = false) (osc : res.failOsc = true) :
    exec (.fullCalDone q res) s = .next ((s.calShown q res).updQuad q fun x => { x with calRepeat := true }) := by
  show execFullCalDone q res s = _
  simp only [execFullCalDone, runs, osc, first]
  rfl

/-- What the results of a full calibration show (Table 4.5). -/
theorem State.calShown_shows (s : State) (q : Nat) (res : CalRes) :
    (s.calShown q res).get (Reg.CAL_LAST_SET q) = 0x1F ∧
    (s.calShown q res).get (Reg.CAL_LAST_FAILED q) = CalRes.failed res ∧
    (s.calShown q res).get (Reg.CAL_LAST_RESULT q) = Result.code (if CalRes.failed res = 0 then .ok else .fault) ∧
    SameBut [Reg.CAL_LAST_SET q, Reg.CAL_LAST_FAILED q, Reg.CAL_LAST_RESULT q, Reg.CAL_LAST_DURATION q, Reg.QCAL_SEQ q] s
      (s.calShown q res) := by
  have nodup : [Reg.QCAL_SEQ q, Reg.CAL_LAST_SET q, Reg.CAL_LAST_FAILED q, Reg.CAL_LAST_RESULT q,
      Reg.CAL_LAST_DURATION q].Nodup := by
    simp [Reg.QCAL_SEQ, Reg.CAL_LAST_SET, Reg.CAL_LAST_FAILED, Reg.CAL_LAST_RESULT, Reg.CAL_LAST_DURATION]
  exact ⟨s.get_record_of_mem nodup (by simp), s.get_record_of_mem nodup (by simp), s.get_record_of_mem nodup (by simp),
    SameBut.record (by simp) (by simp)⟩

theorem CalRes.failed_ne_zero {res : CalRes} (osc : res.failOsc = true) : CalRes.failed res ≠ 0 := by
  simp [CalRes.failed, osc, ofBool]

theorem State.updQuad_only (s : State) (q : Nat) (f : Quad → Quad) : { s.updQuad q f with quads := s.quads } = s := rfl

/-- CAL_RETRY_TIMER on a quad that is OUT for its calibration (R172). -/
theorem exec_calRetryTimer {s : State} {q : Fin 4} (out : s.get (Reg.QUAD_STATE q) = 5)
    (cause : s.get (Reg.QUAD_OUT_CAUSE q) = 2) (idle : (s.quad q).calibrating = false) :
    (s.mode = .hold → exec (.calRetryTimer q) s = .next (s.updQuad q fun x => { x with calDue := true })) ∧
    (s.mode = .ready → (s.hub q).width ≠ 0 → s.sys.refLost = false →
      exec (.calRetryTimer q) s = .next ((s.startCal q).updQuad q fun x => { x with calRepeat := true })) := by
  have exec_eq : exec (.calRetryTimer q) s = execCalRetryTimer q s := rfl
  refine ⟨fun mode => ?_, fun mode up ref => ?_⟩
  · simp [exec_eq, execCalRetryTimer, out, cause, idle, mode]
  · simp [exec_eq, execCalRetryTimer, out, cause, idle, mode, up, ref]

theorem State.quad_startCal (s : State) (q : Nat) : ((s.startCal q).quad q).calibrating = true := by
  unfold State.startCal
  extract_lets s1 out
  rw [State.quad_congr (State.record_quads ..), State.quad_updQuad_self]

/-- A calibration asked for outside a dwell runs then (R174). -/
theorem State.calNow_runs (s : State) (q : Nat) : ((s.calNow q).quad q).calibrating = true ∧ Quiet s (s.calNow q) := by
  unfold State.calNow
  extract_lets s1
  have quiet : Quiet s s1 := by
    simp only [s1]
    split
    · exact ((Quiet.refl s).testC _).ite (Quiet.refl s)
    · exact Quiet.refl s
  split
  · next runs => exact ⟨runs, quiet⟩
  · exact ⟨s1.quad_startCal q, quiet.startCal q⟩

theorem State.calRequest_runs {s : State} {q : Nat} (present : q < Variant.quads s.variant) (mode : s.mode = .ready)
    (up : (s.hub q).width ≠ 0) : s.calRequest q 1 = (.ok, s.calNow q) := by
  refine (checks_pass (by simp [present, mode])).trans ?_
  rw [if_neg (by simp [up, mode])]

end Sys2Proof.Machine
end

section
/-! SUPPORT. What the interlock and a sweep read, a chain's own sweep, the clearing of its faults and the end of a sweep
(R72, R150, R175, R179, R190), with the statement settled with them. -/

namespace Sys2Proof.Machine

/-! ### What the interlock and a sweep read (R139, R186, R190) -/

theorem Variant.quads_le (v : Sys2Proof.Variant) : Variant.quads v ≤ 4 := by
  cases v <;> decide

/-- The levels on a channel are those of the part's chains. -/
theorem State.onChannel_lt {s : State} {khz : Nat} {p : Nat × Int} (mem : p ∈ s.onChannel khz) : p.1 < 16 := by
  have quads := Variant.quads_le s.variant
  simp only [State.onChannel, State.carrying, State.chainList, List.mem_append, List.mem_filterMap, List.mem_range,
    Option.ite_none_right_eq_some, Option.map_eq_some_iff, List.mem_flatMap, List.mem_map, List.mem_filter] at mem
  obtain ⟨d, lt, -, _, -, rfl⟩ | ⟨_, -, d, ⟨gang, -⟩, rfl⟩ := mem
  · exact Nat.lt_of_lt_of_le lt (by omega)
  · exact gangChains_lt gang

section
variable {c : Nat} {s t : State} (same : SameBut [Reg.SWEEP_MIN_RL c, Reg.PORT_SEQ c] s t)
include same

/-- Objects at another place of their group than the least return loss and its sequence number keep their values. -/
theorem State.get_afterPort {k : Nat} (least : k % 16384 ≠ 0x406) (seq : k % 16384 ≠ 0x407) : t.get k = s.get k := by
  refine same.get_eq ?_
  simp only [List.mem_cons, List.not_mem_nil, or_false, Reg.SWEEP_MIN_RL, Reg.PORT_SEQ]
  omega

/-- The least return loss of a chain's sweep is no object that says whether a chain is in service. -/
theorem State.chainIn_afterPort (d : Nat) : t.chainIn d = s.chainIn d := by
  have enable : t.get (Reg.CHAIN_ENABLE d) = s.get (Reg.CHAIN_ENABLE d) :=
    State.get_afterPort same (by simp only [Reg.CHAIN_ENABLE]; omega) (by simp only [Reg.CHAIN_ENABLE]; omega)
  have fault : t.get (Reg.CHAIN_FAULT d) = s.get (Reg.CHAIN_FAULT d) :=
    State.get_afterPort same (by simp only [Reg.CHAIN_FAULT]; omega) (by simp only [Reg.CHAIN_FAULT]; omega)
  have variant : t.variant = s.variant := (congrArg State.variant same.regs_only :)
  rw [State.chainIn, State.chainIn, enable, fault, variant]

theorem State.sweepable_afterPort (d : Nat) : t.sweepable d = s.sweepable d := by
  have state : t.get (Reg.QUAD_STATE (d / 4)) = s.get (Reg.QUAD_STATE (d / 4)) :=
    State.get_afterPort same (by simp only [Reg.QUAD_STATE]; omega) (by simp only [Reg.QUAD_STATE]; omega)
  have variant : t.variant = s.variant := (congrArg State.variant same.regs_only :)
  have hubs : t.hubs = s.hubs := (congrArg State.hubs same.regs_only :)
  have quads : t.quads = s.quads := (congrArg State.quads same.regs_only :)
  rw [State.sweepable, State.sweepable, State.chainIn_afterPort same, State.quadIn, State.quadIn, state, variant, State.hub,
    State.hub, hubs, State.quad, State.quad, quads]

/-- The channels and the levels already on them are as before. -/
theorem State.onChannel_afterPort (khz : Nat) :
    t.channels = s.channels ∧ t.region = s.region ∧ t.onChannel khz = s.onChannel khz := by
  have id : t.get Reg.REGION_ID = s.get Reg.REGION_ID := State.get_afterPort same (by decide) (by decide)
  have mask : t.get Reg.CHANNEL_MASK = s.get Reg.CHANNEL_MASK := State.get_afterPort same (by decide) (by decide)
  have region : t.region = s.region := by rw [State.region, State.region, id]
  refine ⟨by rw [State.channels, State.channels, region, mask], region, ?_⟩
  have chains : t.chains = s.chains := (congrArg State.chains same.regs_only :)
  have planned : t.chainPlanned khz = s.chainPlanned khz := funext fun d => by
    simp only [State.chainPlanned, State.seedBad, State.seed, State.chain, chains, State.chainIn_afterPort same]
  have carrying : t.carrying khz = s.carrying khz := by
    rw [same.regs_only]
    rfl
  have val : t.val = s.val := (congrArg State.val same.regs_only :)
  simp only [State.onChannel, planned, carrying, val]

/-- The levels of the part's own chains are within the limits as before. -/
theorem State.within_afterPort (e : ChanEntry) {l : List (Nat × Int)} (chains : ∀ p ∈ l, p.1 < 16) :
    t.within e l = s.within e l := by
  have kept : ∀ k, k % 16384 ≠ 0x406 → k % 16384 ≠ 0x407 → t.i16 k = s.i16 k := fun k least seq =>
    congrArg (toInt 16) (State.get_afterPort same least seq)
  have margin : t.i16 Reg.REG_MARGIN = s.i16 Reg.REG_MARGIN := kept _ (by decide) (by decide)
  have top : ∀ d, t.i16 (Reg.TX_POWER_MAX d) = s.i16 (Reg.TX_POWER_MAX d) := fun d =>
    kept _ (by simp only [Reg.TX_POWER_MAX]; omega) (by simp only [Reg.TX_POWER_MAX]; omega)
  obtain ⟨-, region, -⟩ := State.onChannel_afterPort same 0
  have eirp : (l.map fun p => linAmp (t.eirpOf p.1 p.2)) = l.map fun p => linAmp (s.eirpOf p.1 p.2) := by
    refine List.map_congr_left fun p mem => ?_
    have lt := chains p mem
    have loss : t.i16 (Reg.CABLE_LOSS p.1) = s.i16 (Reg.CABLE_LOSS p.1) :=
      kept _ (by simp only [Reg.CABLE_LOSS]; omega) (by simp only [Reg.CABLE_LOSS]; omega)
    have gain : t.i16 (Reg.ANT_GAIN p.1) = s.i16 (Reg.ANT_GAIN p.1) :=
      kept _ (by simp only [Reg.ANT_GAIN]; omega) (by simp only [Reg.ANT_GAIN]; omega)
    rw [State.eirpOf, State.eirpOf, loss, gain]
  rw [State.within, State.within, eirp, region, margin]
  simp only [top]

/-- The interlock judges a request for the part's chains as before (R190). -/
theorem State.interlock_afterPort (khz : Nat) {l : List (Nat × Int)} (chains : ∀ p ∈ l, p.1 < 16) :
    t.interlock khz l = s.interlock khz l := by
  obtain ⟨channels, -, on⟩ := State.onChannel_afterPort same khz
  have ilk : t.ilk = s.ilk := (congrArg State.ilk same.regs_only :)
  simp only [State.interlock, State.channelAt, channels, on, State.permitted, State.permit, ilk]
  split
  · rfl
  · rw [State.within_afterPort same]
    intro p mem
    obtain before | asked := List.mem_append.1 mem
    · exact State.onChannel_lt (List.mem_filter.1 before).1
    · exact chains p asked

end

/-! ### A reseed (R175) -/

/-- A quad's synthesiser is put on a swept channel. -/
def State.tunedTo (s : State) (q khz : Nat) : State :=
  ((s.phaseless q).updQuad q fun x => { x with want := khz }).record (Reg.QSTATE_SEQ q)
    [(Reg.QUAD_STATE q, 3), (Reg.SYNTH_FREQ_KHZ q, khz)]

/-- A chain's Drone is raised for the sweep. -/
def State.sweptAt (s : State) (c khz : Nat) : State :=
  ((s.loadSeed khz c).raiseChain c (-40)).record (Reg.CSTATE_SEQ c) [(Reg.CHAIN_STATE c, 2)]

theorem State.sweepChains_one {s : State} {c : Nat} (fit : s.sweepable c = true) : s.sweepChains (some c) = [c] := by
  simp [State.sweepChains, fit]

theorem filter_eq_range {n q : Nat} (lt : q < n) : (List.range n).filter (fun p => decide (q = p)) = [q] := by
  induction n with
  | zero => omega
  | succ n ih =>
    rw [List.range_succ, List.filter_append]
    by_cases last : q = n
    · subst last
      have before : (List.range q).filter (fun p => decide (q = p)) = [] := by
        refine List.filter_eq_nil_iff.2 fun p mem => ?_
        have lower := List.mem_range.1 mem
        simp only [decide_eq_true_eq]
        omega
      simp [before]
    · rw [ih (by omega)]
      simp [last]

/-- A sweep of one chain tunes its quad and raises its Drone. -/
theorem State.sweepOn_one {s : State} {c : Nat} (khz : Nat) (present : c / 4 < Variant.quads s.variant)
    (fit : s.sweepable c = true) : s.sweepOn khz (some c) = (s.tunedTo (c / 4) khz).sweptAt c khz := by
  have quad : (s.quadList.filter fun q => [c].any fun d => d / 4 = q) = [c / 4] := by
    simp only [List.any_cons, List.any_nil, Bool.or_false, State.quadList]
    exact filter_eq_range present
  simp only [State.sweepOn, State.sweepChains_one fit, quad]
  rfl

theorem State.get_loadSeed_ne (s : State) (khz : Nat) {c k : Nat} (seq : k ≠ Reg.REED_SEQ c) (wi : k ≠ Reg.REED_WEIGHT_I c)
    (wq : k ≠ Reg.REED_WEIGHT_Q c) : (s.loadSeed khz c).get k = s.get k := by
  unfold State.loadSeed
  extract_lets s1
  split
  · exact State.get_record_ne _ seq (by simpa using ⟨wi.symm, wq.symm⟩)
  · rfl

theorem State.get_showQuad_ne (s : State) {q k : Nat} (state : k ≠ Reg.QUAD_STATE q) (seq : k ≠ Reg.QSTATE_SEQ q) :
    (s.showQuad q).get k = s.get k := by
  have only : Writes (· ∈ [Reg.QUAD_STATE q, Reg.QSTATE_SEQ q]) s (s.showQuad q) :=
    have same := Writes.refl _ s
    (same.record (by simp) (by simp)).ite ((same.record (by simp) (by simp)).ite same)
  exact only.get k (by simp [state, seq])

/-- Beside the quad's and the chain's states, Drone that starts to rise writes its level (R145). -/
theorem State.raiseChain_shows (s : State) {c : Nat} (lt : c < 16) (level : Int) :
    (s.raiseChain c level).get (Reg.TX_POWER_NOW c) = ofInt 16 level ∧
    (s.raiseChain c level).get (Reg.SYNTH_FREQ_KHZ (c / 4)) = s.get (Reg.SYNTH_FREQ_KHZ (c / 4)) := by
  unfold State.raiseChain
  constructor
  · rw [State.get_showQuad_ne, State.get_updChain]
    · exact State.get_record_of_mem _ (by simp [Reg.CSTATE_SEQ, Reg.CHAIN_STATE, Reg.TX_POWER_NOW]) (by simp)
    · simp only [Reg.TX_POWER_NOW, Reg.QUAD_STATE]; omega
    · simp only [Reg.TX_POWER_NOW, Reg.QSTATE_SEQ]; omega
  · rw [State.get_showQuad_ne, State.get_updChain]
    · refine State.get_record_ne _ ?_ fun p mem => ?_
      · simp only [Reg.SYNTH_FREQ_KHZ, Reg.CSTATE_SEQ]; omega
      · simp only [List.mem_cons, List.not_mem_nil, or_false] at mem
        obtain rfl | rfl := mem <;> simp only [Reg.SYNTH_FREQ_KHZ, Reg.CHAIN_STATE, Reg.TX_POWER_NOW] <;> omega
    · simp [Reg.SYNTH_FREQ_KHZ, Reg.QUAD_STATE]
    · simp [Reg.SYNTH_FREQ_KHZ, Reg.QSTATE_SEQ]

/-- On the first channel the chain holds Drone at −10 dBm with its synthesiser on the channel (R150). -/
theorem State.sweptAt_shows (s : State) {c : Nat} (khz : Nat) (lt : c < 16) :
    ((s.tunedTo (c / 4) khz).sweptAt c khz).get (Reg.CHAIN_STATE c) = 2 ∧
    ((s.tunedTo (c / 4) khz).sweptAt c khz).get (Reg.SYNTH_FREQ_KHZ (c / 4)) = khz ∧
    ((s.tunedTo (c / 4) khz).sweptAt c khz).get (Reg.TX_POWER_NOW c) = ofInt 16 (-40) := by
  obtain ⟨power, freq⟩ := ((s.tunedTo (c / 4) khz).loadSeed khz c).raiseChain_shows lt (-40)
  unfold State.sweptAt
  refine ⟨State.get_record_one _ _ (by simp [Reg.CHAIN_STATE, Reg.CSTATE_SEQ]), ?_, ?_⟩
  · rw [State.get_record_ne, freq, State.get_loadSeed_ne]
    · exact State.get_record_of_mem _ (by simp [Reg.QSTATE_SEQ, Reg.QUAD_STATE, Reg.SYNTH_FREQ_KHZ]) (by simp)
    · simp only [Reg.SYNTH_FREQ_KHZ, Reg.REED_SEQ]; omega
    · simp only [Reg.SYNTH_FREQ_KHZ, Reg.REED_WEIGHT_I]; omega
    · simp only [Reg.SYNTH_FREQ_KHZ, Reg.REED_WEIGHT_Q]; omega
    · simp only [Reg.SYNTH_FREQ_KHZ, Reg.CSTATE_SEQ]; omega
    · simp only [List.mem_singleton, forall_eq, Reg.SYNTH_FREQ_KHZ, Reg.CHAIN_STATE]; omega
  · rw [State.get_record_ne]
    · exact power
    · simp [Reg.TX_POWER_NOW, Reg.CSTATE_SEQ]
    · simp [Reg.TX_POWER_NOW, Reg.CHAIN_STATE]

/-- A chain's least return loss has no value at the start of its sweep (R178). -/
def State.leastCleared (s : State) (c : Nat) : State := s.record (Reg.PORT_SEQ c) [(Reg.SWEEP_MIN_RL c, noValue)]

/-- The state in which a chain's own sweep is entered (R175). -/
def State.reseeding (s : State) (c : Nat) (w : Sweep) : State := { s.leastCleared c with sweep := some w }

/-- A chain's own sweep over some channels, no reseed waiting behind it. -/
def State.ownSweep (s : State) (c : Nat) (khzs : List Nat) : Sweep := ⟨khzs, some c, false, s.tim.now, 0, []⟩

/-- The state in which that sweep has begun on its first channel. -/
def State.reseeded (s : State) (c khz : Nat) (w : Sweep) : State :=
  ((s.reseeding c w).tunedTo (c / 4) khz).sweptAt c khz

theorem State.reseeded_keeps (s : State) (c khz : Nat) (w : Sweep) :
    (s.reseeded c khz w).sweep = some w ∧ Quiet s (s.reseeded c khz w) := by
  have tuned : Tunes (s.reseeding c w) ((s.reseeding c w).tunedTo (c / 4) khz) :=
    (((Tunes.refl _).phaseless _).updQuad ..).record ..
  have begun : Tunes (s.reseeding c w) (s.reseeded c khz w) := ((tuned.loadSeed khz c).raiseChain c (-40)).record ..
  exact ⟨begun.sweep, (((Quiet.refl s).record ..).sweep _).trans begun.quiet⟩

/-- A chain's own sweep begins on its first channel, which the interlock passes (R175, R190). -/
theorem State.startSweep_one {s : State} {c k : Nat} {rest : List Nat} (lt : c < 16) (fit : s.sweepable c = true)
    (passes : s.sweepPasses k (some c) = true) :
    s.startSweep (k :: rest) (some c) false = s.reseeded c k (s.ownSweep c (k :: rest)) := by
  have same : SameBut [Reg.SWEEP_MIN_RL c, Reg.PORT_SEQ c] s (s.leastCleared c) := SameBut.record (by simp) (by simp)
  have stillFit : (s.leastCleared c).sweepable c = true := (State.sweepable_afterPort same c).trans fit
  have stillPasses : (s.leastCleared c).sweepPasses k (some c) = true := by
    rw [State.sweepPasses, State.sweepChains_one fit] at passes
    rw [State.sweepPasses, State.sweepChains_one stillFit, State.interlock_afterPort same k (by simpa using lt)]
    exact passes
  have present : c / 4 < Variant.quads (s.leastCleared c).variant := by
    simp only [State.sweepable, State.quadIn, Bool.and_eq_true, decide_eq_true_eq] at stillFit
    obtain ⟨⟨⟨-, present, -⟩, -⟩, -⟩ := stillFit
    exact present
  have first : s.startSweep (k :: rest) (some c) false =
      (s.leastCleared c).sweepNext (s.ownSweep c (k :: rest)) (k :: rest) := by
    rw [State.startSweep, State.sweepChains_one fit]
    rfl
  have chains : ((s.leastCleared c).sweepChains (s.ownSweep c (k :: rest)).only).isEmpty = false := by
    rw [State.ownSweep, State.sweepChains_one stillFit]
    rfl
  rw [first, State.sweepNext, if_neg (by simp [chains]), State.ownSweep, if_pos stillPasses]
  exact State.sweepOn_one k present stillFit

/-- With no other reseed waiting, the chain's own sweep over the committed channels is all that begins. -/
theorem State.sweepQueued_one {s : State} {c k : Nat} {rest : List Nat} (lt : c < 16)
    (channels : (s.channels.map fun p => p.2.khz) = k :: rest) (fit : s.sweepable c = true)
    (passes : s.sweepPasses k (some c) = true) :
    s.sweepQueued [c] = s.reseeded c k (s.ownSweep c (k :: rest)) := by
  have begun := State.startSweep_one (rest := rest) lt fit passes
  rw [← channels] at begun
  obtain ⟨held, -⟩ := s.reseeded_keeps c k (s.ownSweep c (k :: rest))
  rw [State.sweepQueued, begun, channels, held]
  show { s.reseeded c k (s.ownSweep c (k :: rest)) with sweep := some (s.ownSweep c (k :: rest)) } = _
  rw [← held]

theorem State.reedReseed_waits {s : State} {c : Nat} {w : Sweep} (mode : s.mode = .ready)
    (present : c < 4 * Variant.quads s.variant) (sweeping : s.sweep = some w) (other : w.only ≠ some c) (fresh : c ∉ w.queue) :
    s.reedReseed c 1 = (.ok, { s with sweep := some { w with queue := w.queue ++ [c] } }) := by
  refine (checks_pass (by simp [present, mode])).trans ?_
  simp [sweeping, other, fresh]

theorem State.reedReseed_begins {s : State} {c : Nat} (mode : s.mode = .ready ∨ s.mode = .test)
    (present : c < 4 * Variant.quads s.variant) (idle : s.sweep = none) : s.reedReseed c 1 = (.ok, s.sweepQueued [c]) := by
  refine (checks_pass (by obtain mode | mode := mode <;> simp [present, mode])).trans ?_
  simp only [idle]

/-! ### CHAIN_FAULT_CLEAR (R147, R179) -/

/-- The chain's faults and cut run cleared, and the chain offered to Valve (R179). -/
def State.faultCleared (s : State) (c : Nat) : State :=
  ((s.record (Reg.CSTATE_SEQ c) [(Reg.CHAIN_FAULT c, 0),
    (Reg.CHAIN_STATE c, if s.get (Reg.CHAIN_STATE c) = 5 then 0 else s.get (Reg.CHAIN_STATE c))]).record (Reg.PORT_SEQ c)
      [(Reg.CUT_RUN c, 0)]).updChain c fun x => { x with offered := true }

/-- A fault of the PA rail that persists is raised again (R147). -/
def State.railFaulted (s : State) (c : Nat) : State :=
  (s.record (Reg.CSTATE_SEQ c) [(Reg.CHAIN_FAULT c, 32), (Reg.CHAIN_STATE c, 5)]).latch 11 (Reg.V_PA_MV (c / 4))
    (s.get (Reg.V_PA_MV (c / 4)))

theorem State.chainFaultClear_clears {s : State} {c : Nat} (present : c < 4 * Variant.quads s.variant) :
    s.chainFaultClear c 1 =
      (.ok, if (s.quad (c / 4)).railBad then (s.faultCleared c).railFaulted c else s.faultCleared c) := by
  have quad : ∀ q, (s.faultCleared c).quad q = s.quad q := State.quad_congr (by simp [State.faultCleared, State.updChain])
  rw [← quad]
  exact checks_pass (by simp [present])

theorem quadsUp_faults (c : Nat) : QuadsUp (Reg.CHAIN_FAULT c) ∧ QuadsUp (Reg.CHAIN_STATE c) ∧ QuadsUp (Reg.CUT_RUN c) := by
  simp only [QuadsUp, Reg.CHAIN_FAULT, Reg.CHAIN_STATE, Reg.CUT_RUN]
  omega

/-- What the clearing shows (R179). -/
theorem State.faultCleared_shows (s : State) (c : Nat) :
    (s.faultCleared c).get (Reg.CHAIN_FAULT c) = 0 ∧
    (s.faultCleared c).get (Reg.CHAIN_STATE c) = (if s.get (Reg.CHAIN_STATE c) = 5 then 0 else s.get (Reg.CHAIN_STATE c)) ∧
    (s.faultCleared c).get (Reg.CUT_RUN c) = 0 ∧
    ((s.faultCleared c).chain c).offered = true := by
  have nodup : [Reg.CSTATE_SEQ c, Reg.CHAIN_FAULT c, Reg.CHAIN_STATE c].Nodup := by
    simp [Reg.CSTATE_SEQ, Reg.CHAIN_FAULT, Reg.CHAIN_STATE]
  unfold State.faultCleared
  refine ⟨?_, ?_, ?_, by rw [State.chain_updChain_self]⟩
  · rw [State.get_updChain, State.get_record_ne _ (by simp [Reg.CHAIN_FAULT, Reg.PORT_SEQ])
      (by simp [Reg.CHAIN_FAULT, Reg.CUT_RUN])]
    exact State.get_record_of_mem _ nodup (by simp)
  · rw [State.get_updChain, State.get_record_ne _ (by simp [Reg.CHAIN_STATE, Reg.PORT_SEQ])
      (by simp [Reg.CHAIN_STATE, Reg.CUT_RUN])]
    exact State.get_record_of_mem _ nodup (by simp)
  · exact State.get_record_one _ _ (by simp [Reg.CUT_RUN, Reg.PORT_SEQ])

/-- Beside those objects only the chain's hidden part changes. -/
theorem State.faultCleared_only (s : State) (c : Nat) :
    SameBut [Reg.CHAIN_FAULT c, Reg.CHAIN_STATE c, Reg.CSTATE_SEQ c, Reg.CUT_RUN c, Reg.PORT_SEQ c] s
      { s.faultCleared c with chains := s.chains } :=
  SameBut.updChain ((SameBut.record (by simp) (by simp)).trans (SameBut.record (by simp) (by simp))) c _

/-- What the rail's fault raised again shows. -/
theorem State.railFaulted_shows (s : State) (c : Nat) :
    (s.railFaulted c).get (Reg.CHAIN_FAULT c) = 32 ∧ (s.railFaulted c).get (Reg.CHAIN_STATE c) = 5 ∧
    (s.railFaulted c).latched 11 = true := by
  have nodup : [Reg.CSTATE_SEQ c, Reg.CHAIN_FAULT c, Reg.CHAIN_STATE c].Nodup := by
    simp [Reg.CSTATE_SEQ, Reg.CHAIN_FAULT, Reg.CHAIN_STATE]
  obtain ⟨fault, state, -⟩ := quadsUp_faults c
  unfold State.railFaulted
  refine ⟨?_, ?_, State.latched_latch ..⟩
  · rw [State.get_latch_quadsUp _ _ _ _ fault]
    exact State.get_record_of_mem _ nodup (by simp)
  · rw [State.get_latch_quadsUp _ _ _ _ state]
    exact State.get_record_of_mem _ nodup (by simp)

/-! ### The end of a sweep (R72, R150) -/

/-- The sweep goes on as `w`, but for the chains that gave no reading. -/
def State.sweepsAs (s : State) (w : Sweep) : Prop := ∃ b, s.sweep = some { w with bad := b }

theorem State.sweepsAs_sweptChain {s : State} {w : Sweep} (h : s.sweepsAs w) (khz : Nat) (results : List SweepRes) (c : Nat) :
    (s.sweptChain khz results c).sweepsAs w := by
  obtain ⟨b, sweeping⟩ := h
  unfold State.sweptChain
  extract_lets s0 s1
  have stopped : Tunes s s0 := ((Tunes.refl s).stopChain ..).updChain ..
  split
  · have out := stopped.faultChain c 4
    exact ⟨setBit b c, by simp [s1, out.sweep, sweeping]⟩
  · extract_lets bad t1 t2 old
    have shown : Tunes s t2 := (stopped.updSeed ..).updChain ..
    exact ⟨b, by rw [(shown.record ..).sweep, sweeping]⟩

/-- The end of a sweep of every chain with no reseed waiting: no sweep goes on, and READY needs no further one (R72). -/
theorem State.sweepEnds_all {s : State} {w : Sweep} (all : w.only = none) (alone : w.queue = []) (idle : s.sweep = none) :
    (s.sweepEnds w).sys.sweepDone = true ∧ (s.sweepEnds w).sweep = none := by
  unfold State.sweepEnds
  extract_lets qs s1 _ s2 s3
  have shown : Tunes s s1 := (Tunes.refl s).foldl _ fun _ _ hu => hu.record ..
  have ended : s3.sys.sweepDone = true ∧ s3.sweep = s1.sweep := by
    simp [s3, s2, all, alone, State.sweepQueued]
  obtain ⟨done, swept⟩ := ended
  have kept : Tunes s3 (if s3.mode = .hold && s3.sweep.isNone && !(s3.sys.trans.any fun t => t.target = .ready) then s3.quadsOff
      else s3) := (Tunes.refl s3).quadsOff.ite (Tunes.refl s3)
  obtain ⟨⟨-, -, off, sys⟩, -, -, sweep⟩ := kept
  exact ⟨by rw [sys]; exact done, sweep.trans (swept.trans (shown.sweep.trans idle))⟩

/-- A channel's results taken, and the isolation after the lowest channel (R150, R207). -/
def State.channelMeasured (s : State) (w : Sweep) (khz : Nat) (results : List SweepRes) (iso : List IsoMeas) : State :=
  let swept := s.sweepChains w.only
  let s1 := swept.foldl (fun t c => t.sweptChain khz results c) s
  if w.iso && khz = s1.lowestKhz && 1 < Variant.quads s1.variant then s1.storeIso swept iso else s1

theorem State.sweepsAs_channelMeasured {s : State} {w : Sweep} (sweeping : s.sweep = some w) (khz : Nat)
    (results : List SweepRes) (iso : List IsoMeas) : (s.channelMeasured w khz results iso).sweepsAs w := by
  unfold State.channelMeasured
  extract_lets swept s1
  have measured : s1.sweepsAs w :=
    List.foldlRecOn (motive := fun t : State => t.sweepsAs w) _ _ ⟨w.bad, sweeping⟩ fun _ hu c _ =>
      State.sweepsAs_sweptChain hu khz results c
  have stored : Tunes s1 (if w.iso && khz = s1.lowestKhz && 1 < Variant.quads s1.variant then s1.storeIso swept iso else s1) :=
    (((Tunes.refl s1).record ..).record ..).ite (Tunes.refl s1)
  obtain ⟨b, goes⟩ := measured
  exact ⟨b, stored.sweep.trans goes⟩

/-- After its last channel a sweep has none to go on with. -/
theorem exec_sweepChannelDone_last {s : State} {w : Sweep} {k : Nat} (results : List SweepRes) (iso : List IsoMeas)
    (sweeping : s.sweep = some w) (last : w.left = [k]) :
    exec (.sweepChannelDone results iso) s = .next (({ s.channelMeasured w k results iso with sweep := none } : State).sweepEnds
      ((s.channelMeasured w k results iso).sweep.getD w)) := by
  show execSweepChannelDone results iso s = _
  simp only [execSweepChannelDone, sweeping, last]
  rfl

/-- The last channel of a sweep of every chain ends it. -/
theorem sweepChannelDone_ends {s : State} {w : Sweep} {k : Nat} (results : List SweepRes) (iso : List IsoMeas)
    (sweeping : s.sweep = some w) (last : w.left = [k]) (all : w.only = none) (alone : w.queue = []) :
    Completes (.sweepChannelDone results iso) s fun t => t.sys.sweepDone = true ∧ t.sweep = none := by
  obtain ⟨b, goes⟩ := State.sweepsAs_channelMeasured sweeping k results iso
  refine ⟨_, exec_sweepChannelDone_last results iso sweeping last, ?_⟩
  rw [goes]
  exact State.sweepEnds_all all alone rfl

/-- Settles O16, by what each command makes of its chain, its quad or the sweep, and what the beams that follow leave. -/
theorem receiversCalibrationsAndSweeps : Obligations.ReceiversCalibrationsAndSweeps := by
  refine ⟨fun c s gang first => blocker_completes gang first, fun c rl fwd s up warn cut => ?_, fun c k s probing => ?_,
    fun q res s runs osc filter test idle mode => ?_, fun q res s runs first osc => ?_,
    fun q s out cause idle mode => ?_, fun q s out cause idle mode up ref => ?_, fun l q s serves present mode up => ?_,
    fun l c w s serves mode present sweeping other fresh => ?_,
    fun l c k rest s serves mode present idle channels fit passes => ?_, fun l c s serves present sound => ?_,
    fun l c s serves present bad => ?_,
    fun results iso w k s sweeping last all alone => sweepChannelDone_ends results iso sweeping last all alone⟩
  · have nodup : [Reg.CSTATE_SEQ c, Reg.RETURN_LOSS c, Reg.FWD_POWER c].Nodup := by
      simp [Reg.CSTATE_SEQ, Reg.RETURN_LOSS, Reg.FWD_POWER]
    exact ⟨_, exec_returnLossUpdate_shown fwd up warn cut, s.get_record_of_mem nodup (by simp),
      s.get_record_of_mem nodup (by simp), SameBut.record (by simp) (by simp)⟩
  · refine ⟨_, exec_probeSuccess probing, ?_⟩
    obtain ⟨probing, cut, probes⟩ := s.probed_done c k
    rw [← State.chain_showBeams] at probing cut probes
    exact ⟨probing, cut, probes⟩
  · have shown : Tunes s (s.calShown q res) := (Tunes.refl s).record ..
    have ends := State.calPasses_ends (s := s.calShown q res) q res (shown.testC.trans test)
      ((congrArg Val.running shown.val).trans idle) (shown.quiet.mode_eq.trans mode)
    rw [mode]
    exact ⟨_, exec_fullCalDone_passes runs osc filter, ends⟩
  · obtain ⟨set, failed, result, same⟩ := s.calShown_shows q res
    refine ⟨_, exec_fullCalDone_repeats runs first osc, by rw [State.quad_updQuad_self], set, failed, ?_, ?_⟩
    · rw [if_neg (CalRes.failed_ne_zero osc)] at result
      exact result
    · have quads : (s.calShown q res).quads = s.quads := State.record_quads ..
      rw [← quads]
      exact same
  · obtain ⟨hold, -⟩ := exec_calRetryTimer out cause idle
    refine ⟨_, hold mode, ?_, s.updQuad_only q _⟩
    rw [State.quad_updQuad_self]
  · obtain ⟨-, ready⟩ := exec_calRetryTimer out cause idle
    refine ⟨_, ready mode up ref, ?_, ?_⟩ <;> simp only [State.quad_updQuad_self, State.quad_startCal]
  · obtain ⟨runs, quiet⟩ := s.calNow_runs q
    exact ⟨_, congrArg Host.Outcome.next (State.request_quiet serves (State.calRequest_runs present mode up) quiet),
      State.answered_answer .., (congrArg Quad.calibrating (State.quad_answer ..)).trans runs⟩
  · have work := State.reedReseed_waits mode present sweeping other fresh
    exact ⟨_, congrArg Host.Outcome.next (State.request_quiet serves work ((Quiet.refl s).sweep _)),
      State.answered_answer .., rfl, (SameBut.refl [] s).answer l .ok⟩
  · have work := State.reedReseed_begins mode present idle
    rw [State.sweepQueued_one c.isLt channels fit passes] at work
    obtain ⟨held, quiet⟩ := s.reseeded_keeps c k (s.ownSweep c (k :: rest))
    obtain ⟨state, freq, power⟩ := (s.reseeding c (s.ownSweep c (k :: rest))).sweptAt_shows k c.isLt
    obtain ⟨stateUp, -, powerUp, -⟩ := quadsUp_chain c
    obtain ⟨-, -, freqUp⟩ := quadsUp_quad (c.val / 4)
    exact ⟨_, congrArg Host.Outcome.next (State.request_quiet serves work quiet), State.answered_answer ..,
      (State.answer_sweep ..).trans held, (State.get_answer_quadsUp _ _ _ stateUp).trans state,
      (State.get_answer_quadsUp _ _ _ freqUp).trans freq, (State.get_answer_quadsUp _ _ _ powerUp).trans power⟩
  · have work := State.chainFaultClear_clears present
    rw [if_neg (by simp [sound])] at work
    obtain ⟨fault, state, run, offered⟩ := s.faultCleared_shows c
    obtain ⟨faultUp, stateUp, runUp⟩ := quadsUp_faults c
    have quiet : Quiet s (s.faultCleared c) := (((Quiet.refl s).record ..).record ..).updChain ..
    exact ⟨_, congrArg Host.Outcome.next (State.request_quiet serves work quiet), State.answered_answer ..,
      (State.get_answer_quadsUp _ _ _ faultUp).trans fault, (State.get_answer_quadsUp _ _ _ stateUp).trans state,
      (State.get_answer_quadsUp _ _ _ runUp).trans run, (congrArg Chain.offered (State.chain_answer ..)).trans offered,
      (s.faultCleared_only c).answer l .ok⟩
  · have work := State.chainFaultClear_clears present
    rw [if_pos bad] at work
    obtain ⟨fault, state, told⟩ := (s.faultCleared c).railFaulted_shows c
    obtain ⟨faultUp, stateUp, -⟩ := quadsUp_faults c
    have quiet : Quiet s ((s.faultCleared c).railFaulted c) :=
      (((((Quiet.refl s).record ..).record ..).updChain ..).record ..).latch ..
    exact ⟨_, congrArg Host.Outcome.next (State.request_quiet serves work quiet), State.answered_answer ..,
      (State.get_answer_quadsUp _ _ _ faultUp).trans fault, (State.get_answer_quadsUp _ _ _ stateUp).trans state,
      (State.latched_answer ..).trans told⟩

end Sys2Proof.Machine
end

section
/-! SUPPORT. What the interlock's pass of a descriptor or a hop leaves (R190, R187, R246), and the statement settled with it. -/

namespace Sys2Proof.Machine

/-! ### SCRIPT flits to a gang (Table 1.4) -/

theorem State.sendFlit_only (s : State) (h : Nat) (side : LinkSide) (type stream : Nat) :
    ∃ x, s.sendFlit h side type stream = { s with hubs := x } := by
  unfold State.sendFlit
  split
  · exact ⟨s.hubs, rfl⟩
  · exact ⟨_, rfl⟩

/-- What is sent to a gang's quads enters the links' queues, and nothing else changes. -/
theorem State.sendScript_only (s : State) (gang : Nat) : ∃ x, s.sendScript gang = { s with hubs := x } := by
  refine List.foldlRecOn (motive := fun t : State => ∃ x, t = { s with hubs := x }) _ _ ⟨s.hubs, rfl⟩ ?_
  rintro _ ⟨x, rfl⟩ q -
  exact State.sendFlit_only ..

/-! ### A descriptor -/

/-- A descriptor out of the plan, waiting for its leader to start it (R190). -/
def State.dwellWaits (s : State) (l : Nat) (d : Dwell) : State :=
  { s with val := { s.val with plan := s.val.plan.filter (fun x => x != d), released := Tab.put s.val.released l d } }

theorem State.releaseDwell_passes {s : State} {l : Nat} {d : Dwell} (free : Tab.find s.val.released l = none)
    (planned : (s.val.plan.find? fun x => x.leader = l) = some d)
    (passes : d.khz = 0 ∨ s.interlock d.khz (s.dwellLevels d) = true) :
    s.releaseDwell l = (s.dwellWaits l d).sendScript d.gang := by
  unfold State.releaseDwell
  rw [if_neg (by simp [free]), planned]
  exact if_pos (by simpa using passes)

theorem State.mem_plan_dwellWaits (s : State) (l : Nat) (d x : Dwell) :
    x ∈ (s.dwellWaits l d).val.plan ↔ x ∈ s.val.plan ∧ x ≠ d := by
  simp [State.dwellWaits]

/-! ### A hop -/

/-- The hop sent to its gang's quads and noted in the leader's dwell for the round's end (R246). -/
def State.hopWaits (s : State) (l : Nat) (r : Running) (khz : Nat) : State :=
  (s.sendScript r.d.gang).putRunning l { r with hop := some khz }

theorem State.hopWaits_keeps (s : State) (l : Nat) (r : Running) (khz : Nat) :
    (s.hopWaits l r khz).running l = some { r with hop := some khz } ∧ (s.hopWaits l r khz).round l = s.round l ∧
    (s.hopWaits l r khz).regs = s.regs := by
  obtain ⟨x, sent⟩ := s.sendScript_only r.d.gang
  unfold State.hopWaits
  rw [sent]
  exact ⟨Tab.find_put_self .., rfl, rfl⟩

/-- A hop passed during a round waits, and the round is to end with cause 2 (R246). -/
theorem State.releaseHop_passes {s : State} {l khz : Nat} {r : Running} {rd : Round} (running : s.running l = some r)
    (round : s.round l = some rd) (may : s.hopMay l khz = true)
    (passes : s.interlock khz (s.dwellLevels { r.d with khz := khz }) = true) :
    s.releaseHop l khz = (s.hopWaits l r khz).dueRound l 2 := by
  have going : ((s.sendScript r.d.gang).round l).isSome = true := by
    obtain ⟨x, sent⟩ := s.sendScript_only r.d.gang
    rw [sent]
    exact Option.isSome_of_eq_some round
  simp [State.releaseHop, running, may, passes, going, State.hopWaits]

/-- A round's end that is noted has the lower code of the one noted before and the new one (R246, R247). -/
theorem State.round_dueRound {s : State} {b : Nat} {r : Round} (cause : Nat) (round : s.round b = some r) :
    ∃ x, (s.dueRound b cause).round b = some x ∧ x.due = some (r.due.elim cause fun d => min d cause) := by
  unfold State.dueRound
  cases due : r.due <;> simp only [round, due] <;> split <;> exact ⟨_, State.round_putRound_self .., rfl⟩

theorem exec_descriptorRelease_dwell {s : State} (l : Fin 4) (run : s.mode = .run) :
    exec (.descriptorRelease l none) s = .next (s.releaseDwell l) :=
  if_neg (by simp [run])

theorem exec_descriptorRelease_hop {s : State} (l : Fin 4) (k : BitVec 32) (run : s.mode = .run) :
    exec (.descriptorRelease l (some k)) s = .next (s.releaseHop l k.toNat) :=
  if_neg (by simp [run])

/-- Settles O17, by the state that a pass of the interlock leaves: flits sent, and Valve's part or the round's end noted. -/
theorem descriptorsAndHops : Obligations.DescriptorsAndHops := by
  refine ⟨fun l d s run free planned passes => ?_, fun l k r rd s run running round may passes => ?_⟩
  · obtain ⟨x, sent⟩ := (s.dwellWaits l d).sendScript_only d.gang
    refine ⟨_, exec_descriptorRelease_dwell l run, ?_⟩
    rw [State.releaseDwell_passes free planned passes, sent]
    exact ⟨Tab.find_put_self .., s.mem_plan_dwellWaits l d, rfl⟩
  · obtain ⟨noted, same, regs⟩ := s.hopWaits_keeps l r k.toNat
    obtain ⟨x, ends, due⟩ := State.round_dueRound 2 (same.trans round)
    obtain ⟨e, only⟩ := (s.hopWaits l r k.toNat).dueRound_only l 2
    refine ⟨_, exec_descriptorRelease_hop l k run, ?_⟩
    rw [State.releaseHop_passes running round may passes]
    refine ⟨?_, ⟨x, ends, ?_⟩, ?_⟩
    · rw [only]
      exact noted
    · rw [due]
      cases rd.due <;> rfl
    · rw [only]
      exact regs

end Sys2Proof.Machine
end

section
/-! SUPPORT. What the commands of the regulatory lock and of the region view leave (R197, R198, R200, R425), and the statement
settled with them. -/

namespace Sys2Proof.Machine

/-! ### Requests that are held, and their end (R425) -/

/-- A request that its link then holds as executing is carried out and not answered yet (R425). -/
theorem State.request_holds {s t : State} {l : Link} {w : Bool} {f : State → Result × State} {r : Result} (serves : Serves s l w)
    (work : f s = (r, t)) (held : t.sys.firing = some l) : s.request l w f = t := by
  rw [State.request_serves serves, work]
  exact if_pos (by simp [held])

/-- Beside the answer, the end of a held request that went well changes only what its link's protocol holds (R425). -/
theorem State.endHeld_ok_only (s : State) (l : Link) : ∃ x, s.endHeld l .ok = { s.answer l .ok with io := x } := by
  cases l with
  | spt =>
    simp only [State.endHeld]
    split
    · unfold State.sptAnswer
      split <;> exact ⟨_, rfl⟩
    · exact ⟨_, rfl⟩
  | twa =>
    simp only [State.endHeld, State.twaAnswer]
    split <;> exact ⟨_, rfl⟩
  | can =>
    simp only [State.endHeld]
    split
    · split
      · unfold State.usdoAnswer
        split <;> exact ⟨_, rfl⟩
      · exact ⟨_, rfl⟩
    · exact ⟨_, rfl⟩

/-! ### LOCK_STATE (R197) -/

theorem State.get_lockState (s : State) (v : Nat) : (s.lockState v).get Reg.LOCK_STATE = v :=
  State.get_record_one _ _ (by decide)

theorem SameBut.lockState (s : State) (v : Nat) : SameBut [Reg.LOCK_STATE, Reg.REGSTATE_SEQ] s (s.lockState v) :=
  SameBut.record (by simp) (by simp)

/-- A write of REG_LOCK_ARM that no check of R197 refuses arms the lock. -/
theorem State.regLockArm_arms {s : State} (unset : s.get Reg.LOCK_STATE ≠ 2) (mode : s.mode = .hold ∨ s.mode = .ready)
    (idle : s.sys.firing = none) (region : s.get Reg.REGION_ID ≠ 0) (unstaged : s.cfg.staged = [])
    (stored : s.get Reg.PERSIST_STATE = 0) : s.regLockArm 0x4C = (.ok, s.lockState 1) :=
  checks_pass (by obtain mode | mode := mode <;> simp [unset, mode, idle, region, unstaged, stored])

section
variable {s : State} (armed : s.get Reg.LOCK_STATE = 1) (idle : s.sys.firing = none)
include armed idle

/-- The right CONFIG_CRC fires an armed lock: the OTP write runs and its link's request is held (R197, R425). -/
theorem State.regLockFire_fires {v : Nat} (l : Link) (crc : v = s.get Reg.CONFIG_CRC) :
    s.regLockFire l v = (.ok, { s with sys := { s.sys with firing := some l } }) := by
  simp [State.regLockFire, armed, idle, crc]

/-- A wrong CONFIG_CRC disarms an armed lock (R197). -/
theorem State.regLockFire_disarms {v : Nat} (l : Link) (crc : v ≠ s.get Reg.CONFIG_CRC) :
    s.regLockFire l v = (.check, s.lockState 0) := by
  simp [State.regLockFire, armed, idle, crc]

theorem State.disarm_armed : s.disarm = s.lockState 0 :=
  if_pos (by simp [armed, idle])

end

/-- The lock set for good, with the check value of what it holds, before its request is answered (R197, R198). -/
def State.lockSet (s : State) : State :=
  ({ s with sys := { s.sys with firing := none } }).record Reg.REGSTATE_SEQ
    [(Reg.LOCK_STATE, 2), (Reg.LOCKED_CRC, s.lockedCrc)]

theorem State.lockSet_shows (s : State) : s.lockSet.get Reg.LOCK_STATE = 2 ∧ s.lockSet.get Reg.LOCKED_CRC = s.lockedCrc ∧
    s.lockSet.sys.firing = none := by
  have nodup : [Reg.REGSTATE_SEQ, Reg.LOCK_STATE, Reg.LOCKED_CRC].Nodup := by decide
  refine ⟨State.get_record_of_mem _ nodup (by simp), State.get_record_of_mem _ nodup (by simp), ?_⟩
  simp [State.lockSet]

theorem exec_lockFireDone_good {s : State} {l : Link} (held : s.sys.firing = some l) :
    exec (.lockFireDone true) s = .next (s.lockSet.endHeld l .ok) := by
  show execLockFireDone true s = _
  simp only [execLockFireDone, held]
  rfl

/-! ### VIEW_INDEX (R200) -/

theorem State.viewIndex_takes {s : State} {v : Nat} (known : (Region.ofId v).isSome = true) :
    s.viewIndex v = (.ok, s.record Reg.VIEW_SEQ [(Reg.VIEW_INDEX, v)]) :=
  checks_pass (by simpa [Option.isSome_iff_ne_none] using known)

/-- Settles O19, by what each write of the lock and of the view makes of the objects, and the answer that follows or waits. -/
theorem regulatoryLockSequence : Obligations.RegulatoryLockSequence := by
  refine ⟨fun l s serves unset mode idle region unstaged stored => ?_, fun l v s serves armed idle crc => ?_,
    fun l v s serves armed idle crc => ?_, fun l s held => ?_, fun s armed idle => ?_, fun l v s serves known => ?_⟩
  · have work := State.regLockArm_arms unset mode idle region unstaged stored
    exact ⟨_, congrArg Host.Outcome.next (State.request_quiet serves work ((Quiet.refl s).record ..)),
      State.answered_answer .., (State.get_answer_apart _ _ _ (by decide)).trans (s.get_lockState 1),
      (SameBut.lockState s 1).answer l .ok⟩
  · have work := State.regLockFire_fires armed idle l crc
    exact ⟨_, congrArg Host.Outcome.next (State.request_holds serves work rfl), rfl, rfl, rfl⟩
  · have work := State.regLockFire_disarms armed idle l crc
    exact ⟨_, congrArg Host.Outcome.next (State.request_quiet serves work ((Quiet.refl s).record ..)),
      State.answered_answer .., (State.get_answer_apart _ _ _ (by decide)).trans (s.get_lockState 0),
      (SameBut.lockState s 0).answer l .check⟩
  · obtain ⟨x, only⟩ := s.lockSet.endHeld_ok_only l
    obtain ⟨state, crc, free⟩ := s.lockSet_shows
    refine ⟨_, exec_lockFireDone_good held, ?_⟩
    rw [only]
    exact ⟨(State.get_answer_apart _ l .ok (by decide)).trans state, (State.get_answer_apart _ l .ok (by decide)).trans crc, free,
      State.get_answer_self _ l .ok⟩
  · exact ⟨_, congrArg Host.Outcome.next (State.disarm_armed armed idle), s.get_lockState 0, SameBut.lockState s 0⟩
  · have work := State.viewIndex_takes (s := s) known
    have same : SameBut [Reg.VIEW_INDEX, Reg.VIEW_SEQ] s (s.record Reg.VIEW_SEQ [(Reg.VIEW_INDEX, v.toNat)]) :=
      SameBut.record (by simp) (by simp)
    exact ⟨_, congrArg Host.Outcome.next (State.request_quiet serves work ((Quiet.refl s).record ..)),
      State.answered_answer .., (State.get_answer_apart _ _ _ (by decide)).trans (State.get_record_one _ _ (by decide)),
      same.answer l .ok⟩

end Sys2Proof.Machine
end

section
/-! SUPPORT. What the taking of a tone measurement keeps and changes (R35, R211 to R216), and the statement settled with it. -/

namespace Sys2Proof.Machine

/-! ### The parts that the taking of a measurement leaves -/

/-- The array's part, the dwells, the TEST carrier and TONE_COUNT stand: so they do until a measurement that is taken counts. -/
structure TakesTone (s t : State) : Prop where
  arr : t.arr = s.arr
  val : t.val = s.val
  testC : t.testC = s.testC
  count : t.get Reg.TONE_COUNT = s.get Reg.TONE_COUNT

theorem TakesTone.refl (s : State) : TakesTone s s := ⟨rfl, rfl, rfl, rfl⟩

section
variable {s t : State} (h : TakesTone s t)
include h

theorem TakesTone.ite {c : Prop} [Decidable c] {u : State} (g : TakesTone s u) : TakesTone s (if c then t else u) := by
  split
  · exact h
  · exact g

theorem TakesTone.foldl {α : Type} (l : List α) {f : State → α → State}
    (step : ∀ u, ∀ a ∈ l, TakesTone s u → TakesTone s (f u a)) : TakesTone s (l.foldl f t) :=
  List.foldlRecOn l f h fun u hu a mem => step u a mem hu

theorem TakesTone.updQuad (q : Nat) (f : Quad → Quad) : TakesTone s (t.updQuad q f) := ⟨h.arr, h.val, h.testC, h.count⟩

theorem TakesTone.updChain (c : Nat) (f : Chain → Chain) : TakesTone s (t.updChain c f) := ⟨h.arr, h.val, h.testC, h.count⟩

theorem TakesTone.record {q : Nat} {l : List (Nat × Nat)} (seq : Reg.TONE_COUNT ≠ q) (members : ∀ p ∈ l, p.1 ≠ Reg.TONE_COUNT) :
    TakesTone s (t.record q l) :=
  ⟨(t.record_arr q l).trans h.arr, (t.record_val q l).trans h.val, (t.record_testC q l).trans h.testC,
    (t.get_record_ne seq members).trans h.count⟩

theorem TakesTone.recordIf {q : Nat} {l : List (Nat × Nat)} (seq : Reg.TONE_COUNT ≠ q)
    (members : ∀ p ∈ l, p.1 ≠ Reg.TONE_COUNT) : TakesTone s (t.recordIf q l) :=
  h.ite (h.record seq members)

/-! ### Drone that ends when the bus is taken -/

theorem TakesTone.showQuad {q : Nat} (lt : q < 4) : TakesTone s (t.showQuad q) := by
  have seq : Reg.TONE_COUNT ≠ Reg.QSTATE_SEQ q := by simp only [Reg.TONE_COUNT, Reg.QSTATE_SEQ]; omega
  have state : Reg.QUAD_STATE q ≠ Reg.TONE_COUNT := by simp only [Reg.TONE_COUNT, Reg.QUAD_STATE]; omega
  exact (h.record seq (by simpa using state)).ite ((h.record seq (by simpa using state)).ite h)

theorem TakesTone.keepFwd (c : Nat) : TakesTone s (t.keepFwd c) := h.ite (h.updChain ..)

theorem TakesTone.stopChain {c : Nat} (lt : c < 16) (st : Nat) (mute : Bool) : TakesTone s (t.stopChain c st mute) := by
  unfold State.stopChain
  extract_lets on s1 s2 s3
  have stopped : TakesTone s s2 := by
    refine ((h.keepFwd c).record ?_ fun p mem => ?_).updChain ..
    · simp only [Reg.TONE_COUNT, Reg.CSTATE_SEQ]
      omega
    · simp only [List.mem_append, List.mem_cons, List.not_mem_nil, or_false, List.mem_ite_nil_right] at mem
      obtain (⟨rfl | rfl | rfl | rfl | rfl⟩ | ⟨-, rfl⟩) | ⟨-, rfl⟩ := mem <;>
        simp only [Reg.TONE_COUNT, Reg.CHAIN_STATE, Reg.TX_POWER_NOW, Reg.FWD_POWER, Reg.RETURN_LOSS, Reg.REED_RESIDUAL,
          Reg.CARRIER_ON_US, Reg.MUTE_COUNT] <;> omega
  exact ((stopped.updQuad ..).ite stopped).showQuad (by omega)

theorem TakesTone.quadDark {q : Nat} (lt : q < 4) : TakesTone s (t.quadDark q) := by
  refine h.foldl _ fun _ c mem hu => (hu.stopChain ?_ ..).ite hu
  simp only [chainsOf, List.mem_cons, List.not_mem_nil, or_false] at mem
  omega

/-! ### Entries of the phase table, and runs of calibrations -/

theorem TakesTone.setPhase (driver khz : Nat) (m : ToneMeas) : TakesTone s (t.setPhase driver khz m) := by
  refine ((h.updChain ..).recordIf (by decide) ?_).recordIf (by decide) ?_
  · simp only [List.map_cons, List.map_nil, List.mem_singleton, forall_eq, Reg.RX_PHASE, Reg.TONE_COUNT]
    omega
  · simp only [List.map_cons, List.map_nil, List.mem_singleton, forall_eq, Reg.TX_PHASE, Reg.TONE_COUNT]
    omega

theorem TakesTone.toneRun (began : Nat) (bad : List Nat) (q : Nat) : TakesTone s (t.toneRun began bad q) := by
  refine h.record ?_ fun p mem => ?_
  · simp only [Reg.TONE_COUNT, Reg.QCAL_SEQ]
    omega
  · simp only [List.mem_cons, List.not_mem_nil, or_false] at mem
    obtain rfl | rfl | rfl | rfl := mem <;>
      simp only [Reg.TONE_COUNT, Reg.CAL_LAST_SET, Reg.CAL_LAST_FAILED, Reg.CAL_LAST_RESULT, Reg.CAL_LAST_DURATION] <;> omega

end

theorem mem_bitsOf_lt {n v i : Nat} (mem : i ∈ bitsOf n v) : i < n := List.mem_range.1 (List.mem_filter.1 mem).1

/-! ### A measurement that is taken (R34, R213) -/

/-- What is kept of a gang's measurement: its channel, its time, and the temperatures of its quads' dies (R216). -/
def State.toneMem (s : State) (l : Nat) : ToneMem :=
  ⟨s.get (Reg.SYNTH_FREQ_KHZ l), s.tim.now, (bitsOf 4 (s.toneGang l)).map fun q => (q, s.i16 (Reg.QUAD_DIE_TEMP q))⟩

/-- The array's part once a measurement is kept, the bus at its next request (R35). -/
def Arr.keepTone (a : Arr) (l : Nat) (m : ToneMem) : Arr := { a with bus := a.bus.tail, tone := Tab.put a.tone l m }

/-- A measurement that is taken is kept and counts, whichever chains passed; the dwells and the TEST carrier stand. -/
theorem State.toneTaken_keeps (s : State) (l asked : Nat) (meas : List ToneMeas) :
    (s.toneTaken l asked meas).arr = s.arr.keepTone l (s.toneMem l) ∧
    (s.toneTaken l asked meas).get Reg.TONE_COUNT = (s.get Reg.TONE_COUNT + 1) % 2 ^ 32 ∧
    (s.toneTaken l asked meas).val = s.val ∧ (s.toneTaken l asked meas).testC = s.testC := by
  unfold State.toneTaken
  extract_lets gang khz cs temps s0 _ s1 s2 good bad s3 s4 s5 s6
  have dark : TakesTone s s0 := (TakesTone.refl s).foldl _ fun _ _ mem hu => hu.quadDark (mem_bitsOf_lt mem)
  have captured : TakesTone s1 s2 := (TakesTone.refl s1).foldl _ fun _ _ _ hu => hu.updChain ..
  have phased : TakesTone s1 s3 := captured.foldl _ fun _ _ _ hu => hu.setPhase ..
  have timed : TakesTone s1 s4 := by
    refine phased.record ?_ ?_ <;>
      simp only [List.mem_singleton, forall_eq, Reg.TONE_COUNT, Reg.TXB_SEQ, Reg.TONE_TIME] <;> omega
  have waited : TakesTone s1 s5 := by
    refine timed.record ?_ ?_ <;>
      simp only [List.mem_singleton, forall_eq, Reg.TONE_COUNT, Reg.QCAL_SEQ, Reg.TONE_WAIT_MAX] <;> omega
  have taken : TakesTone s1 s6 := waited.foldl _ fun _ _ _ hu => hu.toneRun ..
  have arr : s1.arr = s.arr.keepTone l (s.toneMem l) := congrArg (Arr.keepTone · l (s.toneMem l)) dark.arr
  have count : s1.get Reg.TONE_COUNT = s.get Reg.TONE_COUNT := dark.count
  refine ⟨(s6.record_arr ..).trans (taken.arr.trans arr), ?_, (s6.record_val ..).trans (taken.val.trans dark.val),
    (s6.record_testC ..).trans (taken.testC.trans dark.testC)⟩
  rw [State.get_record_one _ _ (by decide), taken.count, count]

/-- The state in which a gang's measurement is taken and no repetition of it is due (R215). -/
def State.toneDone (s : State) (l asked : Nat) (meas : List ToneMeas) : State :=
  let t := s.toneTaken l asked meas
  { t with arr := { t.arr with repeats := Tab.del t.arr.repeats l } }

/-- A measurement in which every chain of its gang in service passes is taken, and its gang goes on (R213). -/
theorem exec_toneMeasureDone_passes {leader : Fin 4} {asked : Nat} {rest : List (Nat × Nat)} {meas : List ToneMeas} {s : State}
    (turn : s.arr.bus = (leader.val, asked) :: rest)
    (passes : ∀ c ∈ gangChains (s.toneGang leader), s.chainIn c = true → ∃ m ∈ meas, m.chain.val = c ∧ toneOk m = true) :
    exec (.toneMeasureDone leader meas) s = .next ((s.toneDone leader asked meas).tonePassed leader) := by
  have noneBad : (((gangChains (s.toneGang leader)).filter s.chainIn).filter fun c =>
      !meas.any fun m => m.chain.val = c && toneOk m).isEmpty = true := by
    refine List.isEmpty_iff.2 (List.filter_eq_nil_iff.2 fun c mem => ?_)
    obtain ⟨inGang, inService⟩ := List.mem_filter.1 mem
    obtain ⟨m, measured, chain, ok⟩ := passes c inGang inService
    simpa using ⟨m, measured, chain, ok⟩
  show execToneMeasureDone leader meas s = _
  unfold execToneMeasureDone
  rw [turn]
  dsimp only
  rw [if_neg (by simp), if_pos noneBad]
  rfl

/-- With no dwell and no TEST carrier a quad measures for itself alone, and nothing rises after it. -/
theorem State.toneGang_alone {s : State} {l : Nat} (test : s.testC = none) (idle : s.running l = none) : s.toneGang l = 2 ^ l := by
  simp only [State.toneGang, test, idle]

theorem State.tonePassed_alone (s : State) {l : Nat} (test : s.testC = none) (idle : s.running l = none) : s.tonePassed l = s := by
  simp only [State.tonePassed, State.raiseGang, test, idle]

theorem gangChains_one : ∀ q : Fin 4, gangChains (2 ^ q.val) = chainsOf q := by decide

/-- Settles O3, by what the taking of a measurement changes, and what is to rise after it: nothing. -/
theorem toneMeasurementOfAQuadAlone : Obligations.ToneMeasurementOfAQuadAlone := by
  intro leader asked rest meas s turn test idle passes
  obtain ⟨arr, count, val, testC⟩ := s.toneTaken_keeps leader asked meas
  have exec_eq := exec_toneMeasureDone_passes (meas := meas) turn (by
    rw [State.toneGang_alone test idle, gangChains_one]
    intro c mem inService
    obtain ⟨m, measured, chain, low, high, residual⟩ := passes c mem inService
    exact ⟨m, measured, chain, by simp [toneOk, low, high, residual]⟩)
  have noDwell : (s.toneDone leader asked meas).running leader = none :=
    (congrArg (fun v : Val => Tab.find v.running leader) val).trans idle
  rw [(s.toneDone leader asked meas).tonePassed_alone (testC.trans test) noDwell] at exec_eq
  refine ⟨_, exec_eq, ?_, count, ?_, ?_⟩ <;> simp [State.toneDone, arr, Arr.keepTone, State.toneMem, turn]

end Sys2Proof.Machine
end

section
/-! SUPPORT. What the survey's commands, the lanes' known-answer tests and the measurement of a read leave (R220, R221, R233 to
R236, R334), and the statement settled with them. -/

namespace Sys2Proof.Machine

/-! ### The survey (R220, R221) -/

/-- The state in which a survey has started (R220). -/
def State.surveyed (s : State) : State :=
  ({ s with arr := { s.arr with survey := some ⟨s.get Reg.SURVEY_EPC_TAIL, s.i16 Reg.SURVEY_AZ, s.i16 Reg.SURVEY_EL, []⟩ } }).record
    Reg.SURV_SEQ [(Reg.SURVEY_STATE, 1), (Reg.SURVEY_RESULT, 0), (Reg.SURVEY_READS, 0)]

theorem State.surveyStart_starts {s : State} (mode : s.mode = .run) (idle : s.arr.survey = none) :
    s.surveyCmd 1 = (.ok, s.surveyed) :=
  show s.surveyStart = _ from checks_pass (by simp [mode, idle])

theorem State.surveyed_shows (s : State) : s.surveyed.arr.survey =
      some ⟨s.get Reg.SURVEY_EPC_TAIL, s.i16 Reg.SURVEY_AZ, s.i16 Reg.SURVEY_EL, []⟩ ∧
    s.surveyed.get Reg.SURVEY_STATE = 1 ∧ s.surveyed.get Reg.SURVEY_READS = 0 := by
  have nodup : [Reg.SURV_SEQ, Reg.SURVEY_STATE, Reg.SURVEY_RESULT, Reg.SURVEY_READS].Nodup := by decide
  exact ⟨by simp [State.surveyed], State.get_record_of_mem _ nodup (by simp), State.get_record_of_mem _ nodup (by simp)⟩

/-- Beside the survey's own part its start changes its state, its result and its reads only. -/
theorem State.surveyed_same (s : State) :
    SameBut [Reg.SURVEY_STATE, Reg.SURVEY_RESULT, Reg.SURVEY_READS, Reg.SURV_SEQ] s { s.surveyed with arr := s.arr } :=
  SameBut.record (s := s) (q := Reg.SURV_SEQ) (l := [(Reg.SURVEY_STATE, 1), (Reg.SURVEY_RESULT, 0), (Reg.SURVEY_READS, 0)])
    (by simp) (by simp)

/-- The state in which a survey has ended without result (R221). -/
def State.surveyCut (s : State) (r : Result) : State :=
  ({ s with arr := { s.arr with survey := none } }).record Reg.SURV_SEQ [(Reg.SURVEY_STATE, 4), (Reg.SURVEY_RESULT, Result.code r)]

theorem State.endSurvey_cuts {s : State} (runs : s.arr.survey ≠ none) (r : Result) : s.endSurvey r = s.surveyCut r :=
  if_pos (Option.isSome_iff_ne_none.2 runs)

theorem State.surveyCut_shows (s : State) (r : Result) : (s.surveyCut r).arr.survey = none ∧
    (s.surveyCut r).get Reg.SURVEY_STATE = 4 ∧ (s.surveyCut r).get Reg.SURVEY_RESULT = Result.code r := by
  have nodup : [Reg.SURV_SEQ, Reg.SURVEY_STATE, Reg.SURVEY_RESULT].Nodup := by decide
  exact ⟨by simp [State.surveyCut], State.get_record_of_mem _ nodup (by simp), State.get_record_of_mem _ nodup (by simp)⟩

/-- Beside the survey's own part its end changes its state and its result only. -/
theorem State.surveyCut_same (s : State) (r : Result) :
    SameBut [Reg.SURVEY_STATE, Reg.SURVEY_RESULT, Reg.SURV_SEQ] s { s.surveyCut r with arr := s.arr } :=
  SameBut.record (s := s) (q := Reg.SURV_SEQ) (l := [(Reg.SURVEY_STATE, 4), (Reg.SURVEY_RESULT, Result.code r)])
    (by simp) (by simp)

/-! ### Lanes (R233, R334) -/

/-- The state in which a lane's known-answer test has been counted: `n` failed in a row (R233). -/
def State.laneTested (s : State) (lane n : Nat) : State :=
  { s with arr := { s.arr with laneFails := Tab.put s.arr.laneFails lane n } }

theorem exec_laneSelftest_passed {lane : Fin 32} {s : State} (serves : bit (s.get Reg.LANES_RETIRED) lane = false) :
    exec (.laneSelftest lane true) s = .next (s.laneTested lane 0) := by
  show execLaneSelftest lane true s = _
  rw [execLaneSelftest, if_neg (by simp [serves])]
  rfl

/-- A second failure in a row retires the lane (R233). -/
theorem exec_laneSelftest_failed {lane : Fin 32} {s : State} (serves : bit (s.get Reg.LANES_RETIRED) lane = false) :
    exec (.laneSelftest lane false) s = .next (
      if 2 ≤ Tab.get s.arr.laneFails lane + 1 then (s.laneTested lane (Tab.get s.arr.laneFails lane + 1)).retireLane lane
      else s.laneTested lane (Tab.get s.arr.laneFails lane + 1)) := by
  show execLaneSelftest lane false s = _
  rw [execLaneSelftest, if_neg (by simp [serves])]
  rfl

section
variable {s t : State} (h : Writes (· ≠ Reg.LANES_RETIRED) s t)
include h

/-! The groups of the part's own beams lie apart from the lanes' objects. -/

theorem Writes.showTx_lanes {q : Nat} (lt : q < 4) : Writes (· ≠ Reg.LANES_RETIRED) s (t.showTx q) := by
  have apart : Reg.TXB_SEQ q ≠ Reg.LANES_RETIRED ∧ Reg.TXB_STATE q ≠ Reg.LANES_RETIRED ∧ Reg.GANG_MASK q ≠ Reg.LANES_RETIRED ∧
      Reg.LEADER q ≠ Reg.LANES_RETIRED ∧ Reg.TXB_CHANNEL_KHZ q ≠ Reg.LANES_RETIRED ∧ Reg.TXB_AZ q ≠ Reg.LANES_RETIRED ∧
      Reg.TXB_EL q ≠ Reg.LANES_RETIRED ∧ Reg.TXB_ZONE q ≠ Reg.LANES_RETIRED := by
    simp only [Reg.LANES_RETIRED, Reg.TXB_SEQ, Reg.TXB_STATE, Reg.GANG_MASK, Reg.LEADER, Reg.TXB_CHANNEL_KHZ, Reg.TXB_AZ,
      Reg.TXB_EL, Reg.TXB_ZONE]
    omega
  obtain ⟨seq, members⟩ := apart
  unfold State.showTx
  split <;> exact h.recordIf seq (by simpa using members)

theorem Writes.showRx_lanes {b : Nat} (lt : b < 16) : Writes (· ≠ Reg.LANES_RETIRED) s (t.showRx b) := by
  have apart : Reg.RXB_SEQ b ≠ Reg.LANES_RETIRED ∧ Reg.RXB_MODE b ≠ Reg.LANES_RETIRED ∧ Reg.RXB_AZ b ≠ Reg.LANES_RETIRED ∧
      Reg.RXB_EL b ≠ Reg.LANES_RETIRED ∧ Reg.RXB_TAPER b ≠ Reg.LANES_RETIRED ∧ Reg.RXB_CHAIN_MASK b ≠ Reg.LANES_RETIRED := by
    simp only [Reg.LANES_RETIRED, Reg.RXB_SEQ, Reg.RXB_MODE, Reg.RXB_AZ, Reg.RXB_EL, Reg.RXB_TAPER, Reg.RXB_CHAIN_MASK]
    omega
  obtain ⟨seq, members⟩ := apart
  unfold State.showRx
  split
  · refine Writes.ite ?_ ?_ <;> exact h.recordIf seq (by simpa using members)
  · exact h.recordIf seq (by simpa using members)

theorem Writes.beamsOut_lanes {q : Nat} (lt : q < 4) : Writes (· ≠ Reg.LANES_RETIRED) s (t.beamsOut q) := by
  refine List.foldlRecOn _ _ (h.arr _) fun u hu b mem => Writes.showRx_lanes (hu.congr (u := u.weigh b) rfl rfl rfl) ?_
  simp only [chainsOf, List.mem_cons, List.not_mem_nil, or_false] at mem
  omega

theorem Writes.showBeams_lanes : Writes (· ≠ Reg.LANES_RETIRED) s t.showBeams := by
  refine Writes.recordIf (List.foldlRecOn _ _ h fun u hu q mem => ?_) (by decide) ?_
  · have lt : q < 4 := Nat.lt_of_lt_of_le (List.mem_range.1 mem) (Variant.quads_le _)
    extract_lets v
    have shown : Writes (· ≠ Reg.LANES_RETIRED) s v := hu.showTx_lanes lt
    exact (shown.arr _).ite (shown.beamsOut_lanes lt)
  · simp [Reg.ACTIVE_TX_BEAMS, Reg.ACTIVE_RX_BEAMS, Reg.LANES_RETIRED]

end

/-- A lane that is retired shows as retired, and event 47 tells it (R233). -/
theorem State.retireLane_retires (s : State) (n : Nat) :
    (s.retireLane n).latched 47 = true ∧ bit ((s.retireLane n).get Reg.LANES_RETIRED) n = true := by
  unfold State.retireLane
  extract_lets m u m1 s1 _ s2
  have retired : s1.get Reg.LANES_RETIRED = setBit (s.get Reg.LANES_RETIRED) n := State.get_record_one _ _ (by decide)
  have moved : s2.get Reg.LANES_RETIRED = s1.get Reg.LANES_RETIRED := by
    simp only [s2]
    split
    · rfl
    · split
      · rfl
      · split <;> rfl
  have shown : ((s2.lanesOn (s2.mode = .run)).latch 47 Reg.LANES_RETIRED n).get Reg.LANES_RETIRED = s2.get Reg.LANES_RETIRED := by
    rw [State.get_latch_quadsUp _ _ _ _ (by unfold QuadsUp; decide)]
    exact State.get_recordIf_ne _ (by decide) (by simp [Reg.LANES_ACTIVE, Reg.LANES_RETIRED])
  constructor
  · rw [State.latched, (Writes.refl QuadsUp _).showBeams.get _ (by unfold QuadsUp; decide)]
    exact State.latched_latch ..
  · rw [(Writes.refl (· ≠ Reg.LANES_RETIRED) _).showBeams_lanes.get _ (by simp), shown, moved, retired]
    exact bit_setBit_self ..

/-! ### Measurements (R234 to R236) -/

/-- A chain whose entry of the phase table has a value is measured against it (R235). -/
theorem State.element_phase {s : State} {x : RawMeas} (entry : s.get (Reg.RX_PHASE x.chain) ≠ noValue) :
    (s.element x).phase.val = (roundDiv ((x.theta - s.i16 (Reg.RX_PHASE x.chain)) * 4096) 36000 % 4096).toNat := by
  simp only [State.element, if_neg entry, Fin.ofNat]
  omega

/-- The chains that measure a read of a transmit beam: those of its dwell's receive beams, or every chain where no dwell runs. -/
def State.beamChains (s : State) (beam : Nat) : List Nat :=
  match s.running beam with
  | some r => s.rxChains r.d
  | none => s.chainList

/-- A read with its measurements (R235, R236). -/
def State.measuredRead (s : State) (beam : Nat) (meas : List RawMeas) (r0 : Read) : Read :=
  let ms := (meas.filter fun m => (s.beamChains beam).contains m.chain.val).map s.element
  { r0 with
    meas := ms, power := readPower ms
    flags := r0.flags + ofBool (ms.any fun m => m.snr < 40) * 2 +
      ofBool (ms.any fun m => s.get (Reg.RX_GAIN_STATE m.chain) = 1) * 4 }

/-- The state in which a measured read is no longer waited for, and is the last read where the filter lets it. -/
def State.readShown (s : State) (beam : Nat) (r : Read) : State :=
  let t := { s with eng := { s.eng with heard := Tab.del s.eng.heard beam } }
  if s.get Reg.LAST_READ_FILTER = 0xFF || s.get Reg.LAST_READ_FILTER = beam then
    (t.putDom Reg.LAST_READ_BLOCK r.block).seq Reg.LREAD_SEQ
  else t

theorem exec_readMeasured_heard {beam : Fin 4} {meas : List RawMeas} {r0 : Read} {s : State}
    (heard : Tab.find s.eng.heard beam = some r0) :
    exec (.readMeasured beam meas) s = .next
      (((s.readShown beam (s.measuredRead beam meas r0)).surveyRead (s.measuredRead beam meas r0)).readOn
        (s.measuredRead beam meas r0)) := by
  show execReadMeasured beam meas s = _
  unfold execReadMeasured
  rw [heard]
  rfl

theorem State.surveyRead_idle {s : State} (idle : s.arr.survey = none) (r : Read) : s.surveyRead r = s := by
  unfold State.surveyRead
  rw [idle]

/-- A read of a tracked zone waits in RUN to be located (R279). -/
theorem State.readOn_waits {s : State} {r : Read} (mode : s.mode = .run) (enabled : s.get Reg.LOC_ENABLE = 1)
    (tracked : (s.get Reg.TRACK_ZONE_MASK).testBit r.zone = true) :
    s.readOn r = { s with rep := { s.rep with reads := s.rep.reads ++ [r] } } :=
  if_pos (by simp [mode, enabled, tracked])

/-- Showing a read changes no object but its group's, and neither the survey nor the mode nor the reads that wait. -/
theorem State.readShown_keeps (s : State) (beam : Nat) (r : Read) :
    (∀ k, k ≠ Reg.LREAD_SEQ → (s.readShown beam r).get k = s.get k) ∧ (s.readShown beam r).arr = s.arr ∧
    (s.readShown beam r).mode = s.mode ∧ (s.readShown beam r).rep = s.rep ∧
    Tab.find (s.readShown beam r).eng.heard beam = none := by
  unfold State.readShown
  extract_lets t
  split
  · exact ⟨fun _ other => State.get_seq_ne _ other, rfl, rfl, rfl, Tab.find_del_self ..⟩
  · exact ⟨fun _ _ => rfl, rfl, rfl, rfl, Tab.find_del_self ..⟩

theorem State.readShown_block {s : State} {beam : Nat} (r : Read)
    (passes : s.get Reg.LAST_READ_FILTER = 0xFF ∨ s.get Reg.LAST_READ_FILTER = beam) :
    (s.readShown beam r).dom Reg.LAST_READ_BLOCK = r.block := by
  rw [State.readShown, if_pos (by simpa using passes)]
  exact State.dom_putDom_self ..

/-- Each measurement of a read is one of those that came, its phase less its chain's entry of the phase table. -/
theorem State.measuredRead_meas {s : State} {beam : Nat} {meas : List RawMeas} {r0 : Read} {m : ChainMeas}
    (mem : m ∈ (s.measuredRead beam meas r0).meas) : ∃ x ∈ meas, m = s.element x := by
  obtain ⟨x, took, rfl⟩ := List.mem_map.1 mem
  exact ⟨x, (List.mem_filter.1 took).1, rfl⟩

/-- Settles O20, by what the survey's commands, a lane's test and the measurement of a read each leave. -/
theorem surveyCommands : Obligations.SurveyCommands := by
  refine ⟨fun l s serves mode idle => ?_, fun l s serves runs => ?_, fun s runs => ?_, fun lane s used => ?_,
    fun lane s used fresh => ?_, fun lane s used failed => ?_, fun beam meas r0 s heard idle mode enabled tracked => ?_⟩
  · have work := State.surveyStart_starts mode idle
    obtain ⟨survey, state, reads⟩ := s.surveyed_shows
    exact ⟨_, congrArg Host.Outcome.next (State.request_quiet serves work (((Quiet.refl s).arr _).record ..)),
      State.answered_answer .., survey, (State.get_answer_apart _ _ _ (by decide)).trans state,
      (State.get_answer_apart _ _ _ (by decide)).trans reads, s.surveyed_same.answer l .ok⟩
  · have work : s.surveyCmd 2 = (.ok, s.surveyCut .mode) := congrArg (Prod.mk Result.ok) (State.endSurvey_cuts runs .mode)
    obtain ⟨survey, state, result⟩ := s.surveyCut_shows .mode
    exact ⟨_, congrArg Host.Outcome.next (State.request_quiet serves work (((Quiet.refl s).arr _).record ..)),
      State.answered_answer .., survey, (State.get_answer_apart _ _ _ (by decide)).trans state,
      (State.get_answer_apart _ _ _ (by decide)).trans result⟩
  · obtain ⟨survey, state, result⟩ := s.surveyCut_shows .notReady
    exact ⟨_, congrArg Host.Outcome.next (State.endSurvey_cuts runs .notReady), survey, state, result, s.surveyCut_same _⟩
  · exact ⟨_, exec_laneSelftest_passed used, Tab.get_put_self .., rfl, rfl⟩
  · have exec_eq := exec_laneSelftest_failed used
    rw [fresh, if_neg (by decide)] at exec_eq
    exact ⟨_, exec_eq, Tab.get_put_self .., rfl, rfl⟩
  · have exec_eq := exec_laneSelftest_failed used
    rw [if_pos (by omega)] at exec_eq
    exact ⟨_, exec_eq, State.retireLane_retires ..⟩
  · have exec_eq := exec_readMeasured_heard (meas := meas) heard
    obtain ⟨objects, arr, mode', rep, unheard⟩ := s.readShown_keeps beam (s.measuredRead beam meas r0)
    rw [State.surveyRead_idle (by rw [arr, idle]), State.readOn_waits (mode'.trans mode)
      ((objects _ (by decide)).trans enabled) (by rw [objects _ (by decide)]; exact tracked)] at exec_eq
    refine ⟨_, exec_eq, unheard, s.measuredRead beam meas r0, congrArg (·.reads ++ _) rep, rfl, rfl, rfl, fun m mem => ?_,
      State.readShown_block _⟩
    obtain ⟨x, came, rfl⟩ := State.measuredRead_meas mem
    exact ⟨x, came, rfl, rfl, rfl, State.element_phase⟩

end Sys2Proof.Machine
end

section
/-! SUPPORT. What keeps the flashes canonical and the log, the EMCYs that wait and the access results within their sizes: every
operation on objects, hidden parts, events and flashes (R277, R463, R478, R562). -/

namespace Sys2Proof.Machine

/-- A command that answers a next state answers one within the bounds. -/
def EndsBounded (o : Host.Outcome State Fault Refusal) : Prop := ∀ t, o = .next t → t.Bounded

section
variable {s : State} (h : s.Bounded)
include h

theorem State.Bounded.next : EndsBounded (.next s) := by
  rintro _ ⟨⟩
  exact h

/-- The bounds rest on the flashes' contents, the log buffer, the waiting EMCYs and the access results alone. -/
theorem State.Bounded.congr {t : State} (flash : t.brd.flash = s.brd.flash) (log : t.ev.log = s.ev.log)
    (emcy : t.ev.emcy = s.ev.emcy) (results : t.eng.results = s.eng.results) : t.Bounded := by
  unfold State.Bounded State.flash
  rw [flash, log, emcy, results]
  exact h

theorem State.Bounded.ite {c : Prop} [Decidable c] {t : State} (g : t.Bounded) : (if c then s else t).Bounded := by
  split
  · exact h
  · exact g

theorem State.Bounded.foldl {α : Type} (l : List α) {f : State → α → State} (step : ∀ u a, u.Bounded → (f u a).Bounded) :
    (l.foldl f s).Bounded :=
  List.foldlRecOn l f h fun u hu a _ => step u a hu

/-! ### Hidden parts -/

theorem State.Bounded.mode (x : Mode) : State.Bounded { s with mode := x } := h.congr rfl rfl rfl rfl
theorem State.Bounded.sys (x : Sys) : State.Bounded { s with sys := x } := h.congr rfl rfl rfl rfl
theorem State.Bounded.tim (x : Tim) : State.Bounded { s with tim := x } := h.congr rfl rfl rfl rfl
theorem State.Bounded.shadows (x : List Shadow) : State.Bounded { s with shadows := x } := h.congr rfl rfl rfl rfl
theorem State.Bounded.cfg (x : Cfg) : State.Bounded { s with cfg := x } := h.congr rfl rfl rfl rfl
theorem State.Bounded.chk (x : Chk) : State.Bounded { s with chk := x } := h.congr rfl rfl rfl rfl
theorem State.Bounded.sec (x : Sec) : State.Bounded { s with sec := x } := h.congr rfl rfl rfl rfl
theorem State.Bounded.hlt (x : Hlt) : State.Bounded { s with hlt := x } := h.congr rfl rfl rfl rfl
theorem State.Bounded.sweep (x : Option Sweep) : State.Bounded { s with sweep := x } := h.congr rfl rfl rfl rfl
theorem State.Bounded.rep (x : Rep) : State.Bounded { s with rep := x } := h.congr rfl rfl rfl rfl
theorem State.Bounded.ilk (x : Ilk) : State.Bounded { s with ilk := x } := h.congr rfl rfl rfl rfl
theorem State.Bounded.arr (x : Arr) : State.Bounded { s with arr := x } := h.congr rfl rfl rfl rfl
theorem State.Bounded.val (x : Val) : State.Bounded { s with val := x } := h.congr rfl rfl rfl rfl
theorem State.Bounded.trk (x : Trk) : State.Bounded { s with trk := x } := h.congr rfl rfl rfl rfl
theorem State.Bounded.hf (x : Hf) : State.Bounded { s with hf := x } := h.congr rfl rfl rfl rfl
theorem State.Bounded.testC (x : Option TestC) : State.Bounded { s with testC := x } := h.congr rfl rfl rfl rfl
theorem State.Bounded.mem (x : Mem) : State.Bounded { s with mem := x } := h.congr rfl rfl rfl rfl
theorem State.Bounded.io (x : Io) : State.Bounded { s with io := x } := h.congr rfl rfl rfl rfl
theorem State.Bounded.hubs (x : Tab Hub) : State.Bounded { s with hubs := x } := h.congr rfl rfl rfl rfl
theorem State.Bounded.quads (x : Tab Quad) : State.Bounded { s with quads := x } := h.congr rfl rfl rfl rfl
theorem State.Bounded.chains (x : Tab Chain) : State.Bounded { s with chains := x } := h.congr rfl rfl rfl rfl
theorem State.Bounded.free (x : Nat) : State.Bounded { s with free := x } := h.congr rfl rfl rfl rfl
theorem State.Bounded.pending (x : List Instr) : State.Bounded { s with pending := x } := h.congr rfl rfl rfl rfl
theorem State.Bounded.rounds (x : Tab Round) : State.Bounded { s with eng := { s.eng with rounds := x } } :=
  h.congr rfl rfl rfl rfl
theorem State.Bounded.zones (x : Tab ZoneMem) : State.Bounded { s with eng := { s.eng with zones := x } } :=
  h.congr rfl rfl rfl rfl
theorem State.Bounded.armed (x : Nat) : State.Bounded { s with eng := { s.eng with armed := x } } := h.congr rfl rfl rfl rfl
theorem State.Bounded.heard (x : Tab Read) : State.Bounded { s with eng := { s.eng with heard := x } } := h.congr rfl rfl rfl rfl
theorem State.Bounded.spc (x : Option SpcOp) : State.Bounded { s with brd := { s.brd with spc := x } } := h.congr rfl rfl rfl rfl

/-! ### Objects -/

theorem State.Bounded.put (k v : Nat) : (s.put k v).Bounded := h.congr rfl rfl rfl rfl
theorem State.Bounded.putDom (k : Nat) (b : Bytes) : (s.putDom k b).Bounded := h.congr rfl rfl rfl rfl
theorem State.Bounded.puts (l : List (Nat × Nat)) : (s.puts l).Bounded := by
  obtain ⟨_, only⟩ := s.puts_only l
  rw [only]
  exact h.congr rfl rfl rfl rfl
theorem State.Bounded.seq (q : Nat) : (s.seq q).Bounded := h.put ..
theorem State.Bounded.record (q : Nat) (l : List (Nat × Nat)) : (s.record q l).Bounded := (h.puts l).seq q
theorem State.Bounded.recordIf (q : Nat) (l : List (Nat × Nat)) : (s.recordIf q l).Bounded := h.ite (h.record ..)
theorem State.Bounded.bump (k : Nat) : (s.bump k).Bounded := h.put ..
theorem State.Bounded.addWide (lo n : Nat) : (s.addWide lo n).Bounded := (h.put ..).put ..
theorem State.Bounded.raise (k v : Nat) : (s.raise k v).Bounded := h.put ..
theorem State.Bounded.checked (u n bad : Nat) : (s.checked u n bad).Bounded := h.record ..
theorem State.Bounded.draw : s.draw.2.Bounded := h.free _

/-! ### The event log, the EMCYs that wait, and the access results -/

/-- An EMCY enters the queue while fewer than 16 wait (R463). -/
theorem State.Bounded.queueEmcy (e : Emcy) : (s.queueEmcy e).Bounded := by
  unfold State.queueEmcy
  obtain ⟨flash, log, emcy, results⟩ := id h
  split
  · exact h
  · split
    · next room =>
      have fits : (s.ev.emcy ++ [e]).length ≤ 16 := by
        rw [List.length_append]
        exact room
      exact ⟨flash, log, fits, results⟩
    · exact (h.bump _).seq _

/-- An entry enters the log buffer while it holds fewer than 64 (R562). -/
theorem State.Bounded.logEvent (crit : Bool) (cls e a b : Nat) : (s.logEvent crit cls e a b).Bounded := by
  unfold State.logEvent
  obtain ⟨flash, log, emcy, results⟩ := id h
  split
  · split
    · next room =>
      extract_lets _ t
      have fits : t.ev.log.length ≤ 64 := by
        simp only [t, List.length_append]
        exact room
      have logged : t.Bounded := ⟨flash, fits, emcy, results⟩
      exact logged.seq _
    · exact (h.bump _).seq _
  · exact h

theorem State.Bounded.noteEvent (e a b : Nat) : (s.noteEvent e a b).Bounded := by
  unfold State.noteEvent
  extract_lets _ s1
  have noted : s1.Bounded := h.congr rfl rfl rfl rfl
  exact (noted.put ..).seq _

theorem State.Bounded.deliver (e : Nat) : (s.deliver e).Bounded := by
  unfold State.deliver
  split
  · exact h.congr rfl rfl rfl rfl
  · extract_lets _ s1
    have driven : s1.Bounded := (h.sys _).ite h
    exact (driven.queueEmcy _).ite driven

/-- An occurrence keeps the log buffer and the EMCYs that wait within their sizes (R463, R562). -/
theorem State.Bounded.latchAs (crit : Bool) (cls e a b : Nat) : (s.latchAs crit cls e a b).Bounded := by
  unfold State.latchAs
  extract_lets fresh s1 s2 s3
  have logged : s2.Bounded := (h.noteEvent ..).logEvent ..
  have told : s3.Bounded := (logged.deliver e).ite logged
  exact (told.bump _).ite told

theorem State.Bounded.latch (e a b : Nat) : (s.latch e a b).Bounded := h.latchAs ..

theorem State.Bounded.resultsChanged : s.resultsChanged.Bounded := (h.putDom ..).record ..

/-- An entry enters the result queue while it holds fewer than 64 (R277). -/
theorem State.Bounded.pushResult (t slot op code tagErr : Nat) (r : Round) (data : Bytes) :
    (s.pushResult t slot op code tagErr r data).Bounded := by
  unfold State.pushResult
  obtain ⟨flash, log, emcy, results⟩ := id h
  split
  · exact h
  · next room =>
    extract_lets id e
    refine State.Bounded.resultsChanged ⟨flash, log, emcy, ?_⟩
    simp only [List.length_append, List.length_singleton]
    omega

/-! ### Flashes -/

/-- A program or an erase that keeps the form of a flash's contents keeps that of every flash (R478). -/
theorem State.Bounded.updFlash (n : Nat) {f : Memory → Memory} (keeps : ∀ m, Memory.wf m = true → Memory.wf (f m) = true) :
    (s.updFlash n f).Bounded := by
  obtain ⟨flash, log, emcy, results⟩ := h
  exact ⟨State.flash_wf_updFlash n keeps flash, log, emcy, results⟩

theorem State.Bounded.writeFlash (n a : Nat) (d : Bytes) : (s.updFlash n fun m => m.writeAll a d).Bounded :=
  h.updFlash n fun _ wf => Memory.wf_writeAll a d wf

theorem State.Bounded.eraseFlash (n a len : Nat) : (s.updFlash n fun m => m.erase a len).Bounded :=
  h.updFlash n fun _ wf => Memory.wf_erase a len wf

theorem State.Bounded.scramble (n a len : Nat) : (s.scramble n a len).Bounded := (h.free _).writeFlash ..

theorem State.Bounded.flashOther (n : Nat) : (s.flashOther n).Bounded := by
  unfold State.flashOther
  split
  · exact h.congr s.brd.modeExit_flash rfl rfl rfl
  · exact h

theorem State.Bounded.updTwb {f : Brd → Brd} (flash : (f s.brd).flash = s.brd.flash) : (s.updTwb f).Bounded :=
  h.congr flash rfl rfl rfl

/-! ### Resets -/

/-- A reset keeps the flashes and empties every queue (R58, R556). -/
theorem State.Bounded.resetPart (cause detail : Nat) (phase : ResetPhase) : (s.resetPart cause detail phase).Bounded := by
  unfold State.resetPart
  obtain ⟨flash, -⟩ := h
  refine State.Bounded.puts ?_ _
  exact ⟨flash, Nat.zero_le _, Nat.zero_le _, Nat.zero_le _⟩

theorem State.Bounded.resets : s.resets.Bounded := by
  unfold State.resets
  split
  · exact h
  · exact (h.resetPart ..).io _

theorem State.Bounded.resetsFor (l : Link) : (s.resetsFor l).Bounded := h.resets.ite h

/-! ### Requests -/

theorem State.Bounded.answer (l : Link) (r : Result) : (s.answer l r).Bounded := (h.sys _).put ..

/-- A host's request keeps the bounds where what it carries out does (R92). -/
theorem State.Bounded.request {l : Link} {w : Bool} {f : State → Result × State} (carried : (f s).2.Bounded) :
    (s.request l w f).Bounded := by
  unfold State.request
  extract_lets r
  exact h.ite ((h.answer ..).ite ((h.answer ..).ite (carried.ite ((carried.answer ..).resetsFor l))))

theorem State.Bounded.checks {l : List (Bool × Result)} {f : State → State} (carried : (f s).Bounded) :
    (checks l f s).2.Bounded := by
  unfold Machine.checks
  split
  · exact h
  · exact carried

theorem State.Bounded.give (l : Link) (b : Bytes) : (s.give l b).Bounded := h.io _

theorem State.Bounded.read {l : Link} {f : State → Result × Bytes × State} (carried : (f s).2.2.Bounded) :
    (s.read l f).Bounded :=
  h.request (carried.give ..)

end

theorem EndsBounded.ite {c : Prop} [Decidable c] {o p : Host.Outcome State Fault Refusal} (ho : EndsBounded o)
    (hp : EndsBounded p) : EndsBounded (if c then o else p) := by
  split
  · exact ho
  · exact hp

end Sys2Proof.Machine
end

section
/-! SUPPORT. What the operations on answers, links, the interlock and the reports keep: the bounds of `State.Bounded`. -/

namespace Sys2Proof.Machine

section
variable {s : State} (h : s.Bounded)
include h

/-! ### Requests and answers (R92, R93, R96) -/

theorem State.Bounded.updQuad (q : Nat) (f : Quad → Quad) : (s.updQuad q f).Bounded := h.quads _

theorem State.Bounded.updChain (c : Nat) (f : Chain → Chain) : (s.updChain c f).Bounded := h.chains _

theorem State.Bounded.updHub (n : Nat) (f : Hub → Hub) : (s.updHub n f).Bounded := h.hubs _

theorem State.Bounded.attnFell (before : Bool) : (s.attnFell before).Bounded := (h.queueEmcy ..).ite h

theorem State.Bounded.ackEvents (mask : Nat) : (s.ackEvents mask).Bounded := by
  unfold State.ackEvents
  extract_lets before t
  refine State.Bounded.attnFell ?_ _
  exact h.congr rfl rfl rfl rfl

theorem State.Bounded.pxHandover : s.pxHandover.Bounded := (h.sys _).ite h

theorem State.Bounded.softStartTick : s.softStartTick.Bounded := h.ite (h.sys _)

theorem State.Bounded.usdoAnswer (r : UsdoRsp) : (s.usdoAnswer r).Bounded := by
  unfold State.usdoAnswer
  split
  · exact h
  · extract_lets
    split
    · exact (h.io _).record ..
    · exact (h.io _)

theorem State.Bounded.sptAnswer (q : SptReq) (r : Result) (body : Bytes) : (s.sptAnswer q r body).Bounded := h.ite (h.io _)

theorem State.Bounded.twaAnswer (r : Result) (more : Bytes) : (s.twaAnswer r more).Bounded := h.ite (h.io _)

theorem State.Bounded.endHeld (l : Link) (r : Result) : (s.endHeld l r).Bounded := by
  unfold State.endHeld
  extract_lets
  split
  · split
    · exact (h.answer ..).sptAnswer ..
    · exact h.answer ..
  · exact (h.answer ..).twaAnswer ..
  · split
    · exact (((h.answer ..).io _).usdoAnswer ..).ite (h.answer ..)
    · exact h.answer ..

/-! ### Links (R21 to R32) -/

theorem State.Bounded.updEnd (n : Nat) (side : LinkSide) (f : LinkEnd → LinkEnd) : (s.updEnd n side f).Bounded := h.updHub ..

theorem State.Bounded.linkClear (n width : Nat) (training : Bool) : (s.linkClear n width training).Bounded := h.updHub ..

theorem State.Bounded.sendFlit (n : Nat) (side : LinkSide) (type stream : Nat) : (s.sendFlit n side type stream).Bounded :=
  h.ite (h.updEnd ..)

theorem State.Bounded.droneFlits (n : Nat) : (s.droneFlits n).Bounded := by
  unfold State.droneFlits
  extract_lets _ s1
  have hs1 : s1.Bounded := (h.foldl _ fun _ _ hu => hu.sendFlit ..).ite h
  exact h.ite ((hs1.sendFlit ..).ite hs1)

theorem State.Bounded.quadFlits (n : Nat) : (s.quadFlits n).Bounded := by
  unfold State.quadFlits
  extract_lets t
  have ht : t.Bounded := h.droneFlits ..
  exact ht.ite ((ht.sendFlit ..).updHub ..)

theorem State.Bounded.linkTick : s.linkTick.Bounded := h.ite (h.foldl _ fun _ _ hu => hu.ite ((hu.quadFlits ..).updHub ..))

/-! ### The interlock (R190, R191) -/

theorem State.Bounded.refuse : s.refuse.Bounded := (h.bump ..).seq ..

theorem State.Bounded.ilkMicro : s.ilkMicro.Bounded := by
  unfold State.ilkMicro
  extract_lets _ _ _ _ t
  have ht : t.Bounded := h.ilk _
  exact ht.ite (ht.seq ..)

theorem State.Bounded.ilkTick : s.ilkTick.Bounded := (h.ilk _).ilkMicro.ite (h.ilk _)

theorem State.Bounded.ilkLoad : s.ilkLoad.Bounded := h.ilk _

/-! ### Reports (chapter 10) -/

theorem State.Bounded.updStream (i : Nat) (f : Machine.Stream → Machine.Stream) : (s.updStream i f).Bounded := h.rep _

theorem State.Bounded.recordsLost (key : Nat) : (s.recordsLost key).Bounded := h.ite (h.latch ..)

theorem State.Bounded.fillChanged (i : Nat) : (s.fillChanged i).Bounded := by
  unfold State.fillChanged
  extract_lets _ _ _ _ _ s2
  have hs2 : s2.Bounded := ((h.record ..).record ..).updStream ..
  exact ((hs2.put ..).latch ..).ite hs2

theorem State.Bounded.loseMarks (i q : Nat) : (s.loseMarks i q).Bounded :=
  h.foldl _ fun _ _ hu => ((hu.record ..).latch ..).ite hu

theorem State.Bounded.goneBy (p : Pkt) : (s.goneBy p).Bounded := h.rep _

theorem State.Bounded.dropOldest (p : Pkt) : (s.dropOldest p).Bounded := by
  unfold State.dropOldest
  extract_lets _ _ _ _ _ s3
  have hs3 : s3.Bounded := (((h.rep _).goneBy ..).loseMarks ..).updStream ..
  exact (((hs3.addWide ..).seq ..).recordsLost ..).ite hs3

theorem State.Bounded.makeRoom (room : Nat) (l : List Pkt) : (s.makeRoom room l).Bounded := by
  induction l generalizing s with
  | nil => exact h
  | cons p r ih => exact h.ite (ih (h.dropOldest p))

theorem State.Bounded.toArchive (p : Pkt) : (s.toArchive p).Bounded := by
  unfold State.toArchive
  extract_lets _ _ _ _ _ _ s2
  have hs2 : s2.Bounded := (h.makeRoom ..).rep _
  exact (hs2.latch ..).ite hs2

theorem State.Bounded.placePkt (p : Pkt) : (s.placePkt p).Bounded := by
  unfold State.placePkt
  extract_lets _ _ _ _ _ _ _ _ _ s2
  have hs2 : s2.Bounded := (h.ite (h.toArchive ..)).updStream ..
  exact (hs2.ite ((hs2.bump ..).seq ..)).fillChanged ..

theorem State.Bounded.closeOne (i kind : Nat) : (s.closeOne i kind).Bounded := by
  unfold State.closeOne
  split
  · exact h
  · exact ((h.updStream ..).record ..).placePkt ..

theorem State.Bounded.closePkt (i kind : Nat) : (s.closePkt i kind).Bounded :=
  ((h.closeOne ..).closeOne ..).ite (h.closeOne ..)

theorem State.Bounded.closeAll (i : Nat) : (s.closeAll i).Bounded := h.foldl _ fun _ _ hu => hu.closePkt ..

theorem State.Bounded.offer (i : Nat) (tiers : List Nat) (kind size : Nat) (tags : List Nat) : (s.offer i tiers kind size
    tags).Bounded :=
  h.updStream ..

theorem State.Bounded.offerT2 (i : Nat) : (s.offerT2 i).Bounded := (h.foldl _ fun _ _ hu => hu.offer ..).updStream ..

theorem State.Bounded.place (i kind size time : Nat) (tags : List Nat) (baseRecs : Nat) (mk : Nat → Bytes) : (s.place i kind
    size time tags baseRecs mk).Bounded :=
  ((h.closePkt ..).ite h).updStream ..

theorem State.Bounded.lost (i n : Nat) : (s.lost i n).Bounded := (h.addWide ..).seq ..

theorem State.Bounded.carry (i : Nat) (r : Read) (l : Loc) (first : Bool) : (s.carry i r l first).Bounded := by
  unfold State.carry
  extract_lets _ _ _ s1 _ s3
  have hs1 : s1.Bounded := h.offer ..
  have hs3 : s3.Bounded := (hs1.ite (hs1.offer ..)).updStream ..
  exact (hs3.place ..).ite ((((hs3.addWide ..).seq ..).recordsLost ..).ite
    ((((hs3.lost ..).ite hs3).place ..).ite ((hs3.lost ..).ite hs3)))

theorem State.Bounded.toHot (r : Read) (l : Loc) (first : Bool) : (s.toHot r l first).Bounded := (h.rep _).record ..

theorem State.Bounded.report (r : Read) (l : Loc) : (s.report r l).Bounded :=
  (((h.toHot ..).rep _).ite (h.toHot ..)).foldl _ fun _ _ hu => hu.carry ..

theorem State.Bounded.placeT2 (i base : Nat) (cut : Bool) : (s.placeT2 i base cut).Bounded := by
  unfold State.placeT2
  extract_lets _ _ s0
  have hs0 : s0.Bounded := (h.offerT2 ..).updStream ..
  exact hs0.ite (hs0.foldl _ fun _ _ hu => hu.ite (((hu.lost ..).ite hu).ite (hu.place ..)))

theorem State.Bounded.reportPassage (body : Bytes) (tag reads : Nat) : (s.reportPassage body tag reads).Bounded :=
  h.foldl _ fun _ _ hu => (hu.offer ..).place ..

theorem State.Bounded.announce (idx : Nat) (reused : Bool) (pc xpc : Nat) (epc : Bytes) : (s.announce idx reused pc xpc
    epc).Bounded :=
  h.foldl _ fun _ _ hu => (hu.offer ..).place ..

theorem State.Bounded.assign (idx : Nat) (reused : Bool) (pc xpc : Nat) (epc : Bytes) : (s.assign idx reused pc xpc
    epc).Bounded :=
  (((h.rep _).record ..).announce ..).latch ..

theorem State.Bounded.tagIndex (pc xpc : Nat) (epc : Bytes) (tracked : List Nat) : (s.tagIndex pc xpc epc
    tracked).2.2.Bounded := by
  unfold State.tagIndex
  split
  · exact (h.bump ..).seq ..
  · split
    · exact h.rep _
    · extract_lets
      split
      · exact h.assign ..
      · split
        · exact h.assign ..
        · exact (h.bump ..).seq ..

theorem State.Bounded.setCredits (i v : Nat) : (s.setCredits i v).Bounded := by
  unfold State.setCredits
  extract_lets _ _ s1
  have hs1 : s1.Bounded := h.record ..
  exact (hs1.latch ..).ite hs1

theorem State.Bounded.charge (i : Nat) (p : Pkt) : (s.charge i p).Bounded := h.ite ((h.updStream ..).setCredits ..)

theorem State.Bounded.delivered (i : Nat) (p : Pkt) : (s.delivered i p).Bounded := (h.updStream ..).fillChanged ..

theorem State.Bounded.sendPkt (i : Nat) (p : Pkt) : (s.sendPkt i p).2.Bounded := h.updStream ..

theorem State.Bounded.closeReports : s.closeReports.Bounded :=
  h.foldl _ fun _ _ hu => ((hu.placeT2 ..).closeAll ..).updStream ..

end

end Sys2Proof.Machine
end

section
/-! SUPPORT. What the operations on carriers, rounds and access operations keep: the bounds of `State.Bounded`. -/

namespace Sys2Proof.Machine

section
variable {s : State} (h : s.Bounded)
include h

/-! ### Quads, chains and their carriers (chapters 4, 6) -/

theorem State.Bounded.putRound (t : Nat) (r : Round) : (s.putRound t r).Bounded := h.rounds _

theorem State.Bounded.showQuad (q : Nat) : (s.showQuad q).Bounded := (h.record ..).ite ((h.record ..).ite h)

theorem State.Bounded.keepFwd (c : Nat) : (s.keepFwd c).Bounded := h.ite (h.updChain ..)

theorem State.Bounded.stopChain (c st : Nat) (mute : Bool) : (s.stopChain c st mute).Bounded := by
  unfold State.stopChain
  extract_lets _ _ s2
  have hs2 : s2.Bounded := ((h.keepFwd ..).record ..).updChain ..
  exact ((hs2.updQuad ..).ite hs2).showQuad ..

theorem State.Bounded.muteChain (c : Nat) : (s.muteChain c).Bounded := (h.stopChain ..).ite h

theorem State.Bounded.rampDown (c : Nat) : (s.rampDown c).Bounded := (((h.keepFwd ..).record ..).updChain ..).ite h

theorem State.Bounded.raiseChain (c : Nat) (level : Int) : (s.raiseChain c level).Bounded :=
  ((h.record ..).updChain ..).showQuad ..

theorem State.Bounded.setLevel (c : Nat) (level : Int) : (s.setLevel c level).Bounded := (h.record ..).updChain ..

theorem State.Bounded.faultChain (c b : Nat) : (s.faultChain c b).Bounded := (h.record ..).stopChain ..

theorem State.Bounded.muteQuad (q : Nat) : (s.muteQuad q).Bounded := h.foldl _ fun _ _ hu => hu.muteChain ..

theorem State.Bounded.rampQuad (q : Nat) : (s.rampQuad q).Bounded := h.foldl _ fun _ _ hu => hu.rampDown ..

theorem State.Bounded.muteAll : s.muteAll.Bounded := h.foldl _ fun _ _ hu => hu.muteChain ..

theorem State.Bounded.rampAll : s.rampAll.Bounded := h.foldl _ fun _ _ hu => hu.rampDown ..

theorem State.Bounded.updSeed (c khz : Nat) (f : Seed → Seed) : (s.updSeed c khz f).Bounded := (h.updChain ..).seq ..

theorem State.Bounded.rebuildSeeds : s.rebuildSeeds.Bounded := h.foldl _ fun _ _ hu => (hu.updChain ..).seq ..

theorem State.Bounded.loadSeed (khz c : Nat) : (s.loadSeed khz c).Bounded := by
  unfold State.loadSeed
  extract_lets s1
  have hs1 : s1.Bounded := h.updChain ..
  split
  · exact hs1.record ..
  · exact hs1

theorem State.Bounded.showPhases (cs : List Nat) : (s.showPhases cs).Bounded := (h.recordIf ..).recordIf ..

theorem State.Bounded.setGamma (prof c : Nat) : (s.setGamma prof c).Bounded := h.updChain ..

theorem State.Bounded.putRunning (q : Nat) (r : Running) : (s.putRunning q r).Bounded := h.val _

theorem State.Bounded.showTx (q : Nat) : (s.showTx q).Bounded := by
  unfold State.showTx
  extract_lets
  split
  · exact h.recordIf ..
  · exact h.recordIf ..

theorem State.Bounded.steerGang (d : Dwell) : (s.steerGang d).Bounded := h.foldl _ fun _ _ hu => hu.updChain ..

theorem State.Bounded.setWeights (b : Nat) (w : List Weight) : (s.setWeights b w).Bounded := h.arr _

theorem State.Bounded.weigh (b : Nat) : (s.weigh b).Bounded := h.setWeights ..

theorem State.Bounded.showRx (b : Nat) : (s.showRx b).Bounded := by
  unfold State.showRx
  extract_lets
  split
  · exact (h.recordIf ..).ite (h.recordIf ..)
  · exact h.recordIf ..

theorem State.Bounded.showActive : s.showActive.Bounded := h.recordIf ..

theorem State.Bounded.beamsOut (t : Nat) : (s.beamsOut t).Bounded := (h.arr _).foldl _ fun _ _ hu => (hu.weigh ..).showRx ..

theorem State.Bounded.beamsDue (t : Nat) : (s.beamsDue t).Bounded := (h.beamsOut ..).showActive.ite h

theorem State.Bounded.showBeams : s.showBeams.Bounded :=
  (h.foldl _ fun _ _ hu => ((hu.showTx ..).arr _).ite ((hu.showTx ..).beamsOut ..)).showActive

theorem State.Bounded.reedReady (l : Nat) : (s.reedReady l).Bounded := by
  unfold State.reedReady
  split
  · exact h
  · exact (h.putRunning ..).ite h

theorem State.Bounded.beamsLost : s.beamsLost.Bounded := h.showBeams.foldl _ fun _ _ hu => hu.reedReady ..

theorem State.Bounded.gainTo (c g : Nat) : (s.gainTo c g).Bounded := (h.updChain ..).ite (h.recordIf ..)

theorem State.Bounded.replyOver (t : Nat) : (s.replyOver t).Bounded := by
  unfold State.replyOver
  split
  · exact h
  · refine h.foldl _ fun u a hu => ?_
    split
    · exact (hu.updChain ..).recordIf ..
    · exact hu

theorem State.Bounded.dropTone (leader : Nat) : (s.dropTone leader).Bounded := h.arr _

theorem State.Bounded.askTone (leader : Nat) : (s.askTone leader).Bounded :=
  (h.foldl _ fun _ _ hu => hu.rampQuad ..).ite ((h.foldl _ fun _ _ hu => hu.rampQuad ..).arr _)

theorem State.Bounded.phaseless (q : Nat) : (s.phaseless q).Bounded :=
  (((h.recordIf ..).recordIf ..).foldl _ fun _ _ hu => hu.updChain ..).arr _

theorem State.Bounded.retune (q khz : Nat) (why : Option HeldBy) : (s.retune q khz why).Bounded := by
  unfold State.retune
  extract_lets s1
  have hs1 : s1.Bounded := ((h.rampQuad ..).phaseless ..).updQuad ..
  exact hs1.ite (hs1.record ..)

theorem State.Bounded.quadDark (q : Nat) : (s.quadDark q).Bounded := h.foldl _ fun _ _ hu => (hu.stopChain ..).ite hu

theorem State.Bounded.synthOff (q : Nat) : (s.synthOff q).Bounded := (((h.quadDark ..).phaseless ..).updQuad ..).recordIf ..

theorem State.Bounded.startCal (q : Nat) : (s.startCal q).Bounded := (((h.rampQuad ..).phaseless ..).updQuad ..).record ..

theorem State.Bounded.sweepOn (khz : Nat) (only : Option Nat) : (s.sweepOn khz only).Bounded :=
  (h.foldl _ fun _ _ hu => ((hu.phaseless ..).updQuad ..).record ..).foldl _ fun _ _ hu =>
    ((hu.loadSeed ..).raiseChain ..).record ..

theorem State.Bounded.sweepNext (w : Sweep) (l : List Nat) : (s.sweepNext w l).Bounded := by
  induction l generalizing s with
  | nil => exact h.sweep _
  | cons k r ih => exact (h.sweep _).ite (((h.sweep _).sweepOn ..).ite (ih h.refuse))

theorem State.Bounded.startSweep (khzs : List Nat) (only : Option Nat) (iso : Bool) : (s.startSweep khzs only iso).Bounded :=
  (h.foldl _ fun _ _ hu => hu.record ..).sweepNext ..

theorem State.Bounded.sweepQueued (l : List Nat) : (s.sweepQueued l).Bounded := by
  induction l generalizing s with
  | nil => exact h
  | cons c r ih =>
    unfold State.sweepQueued
    extract_lets t
    have started : t.Bounded := h.startSweep ..
    split
    · exact started.sweep _
    · exact ih started

theorem State.Bounded.cutSweep : s.cutSweep.Bounded := by
  unfold State.cutSweep
  split
  · exact h
  · exact (h.sweep _).foldl _ fun _ _ hu => hu.rampDown ..

/-! ### Rounds and access operations (chapter 7) -/

theorem State.Bounded.opState (n : Nat) : (s.opState n).Bounded := h.ite (h.record ..)

theorem State.Bounded.armOp (n : Nat) (on : Bool) : (s.armOp n on).Bounded := (h.armed _).opState ..

theorem State.Bounded.autoArm : s.autoArm.Bounded := h.foldl _ fun _ _ hu => (hu.armOp ..).ite hu

theorem State.Bounded.watchOne (w : Nat) (data : Bytes) : (s.watchOne w data).Bounded := by
  unfold State.watchOne
  extract_lets _ _ _ _ _ s1
  have hs1 : s1.Bounded := h.record ..
  exact (h.recordIf ..).ite ((hs1.latch ..).ite hs1)

theorem State.Bounded.watch (slot : Nat) (epc data : Bytes) : (s.watch slot epc data).Bounded :=
  h.foldl _ fun _ _ hu => (hu.watchOne ..).ite hu

theorem State.Bounded.opEnds (t slot code tagErr : Nat) (r : Round) (data : Bytes) : (s.opEnds t slot code tagErr r
    data).Bounded := by
  unfold State.opEnds
  extract_lets _ _ s2 s3 s4
  have hs2 : s2.Bounded := (h.pushResult ..).record ..
  have hs3 : s3.Bounded := (hs2.latch ..).ite (hs2.latch ..)
  have hs4 : s4.Bounded := (hs3.armOp ..).ite (hs3.opState ..)
  exact (hs4.watch ..).ite hs4

theorem State.Bounded.showRound (t : Nat) (r : Round) : (s.showRound t r).Bounded := h.record ..

theorem State.Bounded.keepZone (r : Round) : (s.keepZone r).Bounded := h.zones _

theorem State.Bounded.roundStats (t cause : Nat) (aborted : Bool) (r : Round) : (s.roundStats t cause aborted r).Bounded :=
  (h.record ..).latch ..

theorem State.Bounded.endRound (t cause : Nat) (aborted : Bool) : (s.endRound t cause aborted).Bounded := by
  unfold State.endRound
  split
  · exact h
  · extract_lets _ _ s1 s2
    have hs1 : s1.Bounded := ((h.replyOver ..).beamsDue ..).rounds _
    have hs2 : s2.Bounded := by
      unfold s2
      split
      · exact hs1.opEnds ..
      · exact hs1
    exact (hs2.keepZone ..).roundStats ..

theorem State.Bounded.dueRound (t cause : Nat) : (s.dueRound t cause).Bounded := by
  unfold State.dueRound
  split
  · exact h
  · exact (h.putRound ..).ite (h.putRound ..)

theorem State.Bounded.slotBoundary (t : Nat) (r : Round) : (s.slotBoundary t r).Bounded :=
  (((h.replyOver ..).beamsDue ..).putRound ..).showRound ..

theorem State.Bounded.nextOp (t : Nat) (r : Round) (l : List Nat) : (s.nextOp t r l).Bounded := by
  induction l generalizing s with
  | nil => exact h.slotBoundary ..
  | cons n rest ih =>
    unfold State.nextOp
    exact (h.slotBoundary ..).ite ((ih h).ite ((ih ((h.bump ..).seq ..)).ite (((h.putRound ..).opState ..).showRound ..)))

theorem State.Bounded.readTag (t khz : Nat) (r : Round) (e : EpcReply) : (s.readTag t khz r e).2.Bounded := by
  unfold State.readTag
  extract_lets _ _ _ _ _ s2
  have hs2 : s2.Bounded := (h.tagIndex ..).congr rfl rfl rfl rfl
  exact hs2.record ..

end

end Sys2Proof.Machine
end

section
/-! SUPPORT. What the operations on plans, tracks, the HF field and the modes keep: the bounds of `State.Bounded`. -/

namespace Sys2Proof.Machine

section
variable {s : State} (h : s.Bounded)
include h

/-! ### Plans and dwells (chapter 9) -/

theorem State.Bounded.showZones (served : List Nat) : (s.showZones served).Bounded := h.foldl _ fun _ _ hu => hu.recordIf ..

theorem State.Bounded.budgetEvents (step : Nat) : (s.budgetEvents step).Bounded :=
  ((((((((h.recordIf ..).ite (h.recordIf ..)).val _).record ..).latch ..).ite ((((h.recordIf ..).ite
    (h.recordIf ..)).val _).ite ((h.recordIf ..).ite (h.recordIf ..)))).val _).latch ..).ite ((((((((h.recordIf ..).ite
    (h.recordIf ..)).val _).record ..).latch ..).ite ((((h.recordIf ..).ite (h.recordIf ..)).val _).ite ((h.recordIf ..).ite
    (h.recordIf ..)))).val _).ite ((((((h.recordIf ..).ite (h.recordIf ..)).val _).record ..).latch ..).ite
    ((((h.recordIf ..).ite (h.recordIf ..)).val _).ite ((h.recordIf ..).ite (h.recordIf ..)))))

theorem State.Bounded.usePlan (p : Plan) : (s.usePlan p).Bounded :=
  ((((h.putDom ..).record ..).val _).budgetEvents ..).showZones ..

theorem State.Bounded.replan : s.replan.Bounded := (h.usePlan ..).ite h

theorem State.Bounded.replanNow (lost : Option Nat) (fallback : Bool) : (s.replanNow lost fallback).Bounded :=
  (h.usePlan ..).val _

theorem State.Bounded.writeBack (d : Dwell) : (s.writeBack d).Bounded := h.foldl _ fun _ _ hu => hu.updSeed ..

theorem State.Bounded.closeDwell (l : Nat) : (s.closeDwell l).Bounded := by
  unfold State.closeDwell
  split
  · exact h.dropTone ..
  · exact ((h.writeBack ..).val _).dropTone ..

theorem State.Bounded.dissolve (leader : Nat) : (s.dissolve leader).Bounded := (h.closeDwell ..).val _

theorem State.Bounded.gangDown (l : Nat) : (s.gangDown l).Bounded := by
  unfold State.gangDown
  split
  · exact h
  · exact ((h.foldl _ fun _ _ hu => hu.rampQuad ..).dissolve ..).showBeams

theorem State.Bounded.dropDwells : s.dropDwells.Bounded :=
  (h.foldl _ fun _ _ hu => (hu.foldl _ fun _ _ hu => hu.rampQuad ..).dissolve ..).showBeams

theorem State.Bounded.setRails (gang : Nat) (lv : List (Nat × Int)) : (s.setRails gang lv).Bounded :=
  h.foldl _ fun _ _ hu => hu.updQuad ..

theorem State.Bounded.raiseGang (l : Nat) : (s.raiseGang l).Bounded := by
  unfold State.raiseGang
  split
  · exact h
  · exact h.ite ((((((((h.steerGang ..).foldl _ fun _ _ hu => (hu.setLevel ..).ite
        (hu.raiseChain ..)).foldl _ fun _ _ hu => hu.updChain ..).foldl _ fun _ _ hu => hu.updQuad ..).val
        _).putRunning ..).foldl _ fun _ _ hu => hu.weigh ..).ite
      ((h.refuse.foldl _ fun _ _ hu => hu.rampQuad ..).dissolve ..).showBeams.replan)

theorem State.Bounded.gangLocked (l : Nat) : (s.gangLocked l).Bounded := by
  unfold State.gangLocked
  split
  · exact h
  · split
    · exact h
    · split
      · exact (h.raiseGang ..).ite (h.askTone ..)
      · exact h.askTone ..

theorem State.Bounded.leaveGang (q : Nat) : (s.leaveGang q).Bounded := by
  unfold State.leaveGang
  split
  · exact h
  · split
    · exact h
    · extract_lets _ _ t
      have ht : t.Bounded := (h.putRunning ..).beamsLost
      exact (ht.gangLocked ..).ite ht

theorem State.Bounded.fallback (q gang : Nat) : (s.fallback q gang).Bounded :=
  ((h.foldl _ fun _ _ hu => hu.rampQuad ..).replanNow ..).record ..

theorem State.Bounded.loseQuad (q cause : Nat) : (s.loseQuad q cause).Bounded := by
  unfold State.loseQuad
  split
  · extract_lets s1
    have hs1 : s1.Bounded := ((h.endRound ..).dissolve ..).showBeams
    exact (hs1.fallback ..).ite hs1
  · exact h.leaveGang ..

theorem State.Bounded.quadOut (q cause : Nat) : (s.quadOut q cause).Bounded := by
  unfold State.quadOut
  extract_lets _ s2
  have hs2 : s2.Bounded := ((h.phaseless ..).record ..).updQuad ..
  exact hs2.ite (hs2.latch ..)

theorem State.Bounded.quadBack (q cause : Nat) : (s.quadBack q cause).Bounded := ((h.record ..).updQuad ..).ite h

/-! ### Location and tracks (chapter 8) -/

theorem State.Bounded.closeTrack (t : Track) (flag : Nat) : (s.closeTrack t flag).Bounded :=
  ((((h.trk _).record ..).record ..).latch ..).reportPassage ..

theorem State.Bounded.closeTracks (flag : Nat) : (s.closeTracks flag).Bounded := h.foldl _ fun _ _ hu => hu.closeTrack ..

theorem State.Bounded.publish (i : Ival) : (s.publish i).Bounded :=
  ((h.foldl _ fun _ _ hu => hu.record ..).record ..).latch ..

theorem State.Bounded.cutIvals : s.cutIvals.Bounded := (h.trk _).foldl _ fun _ _ hu => hu.publish ..

theorem State.Bounded.rollIvals : s.rollIvals.Bounded := by
  unfold State.rollIvals
  split
  · exact h
  · exact h.ite (h.trk _)

theorem State.Bounded.startTracking : s.startTracking.Bounded := h.trk _

theorem State.Bounded.stopTracking (flag : Nat) : (s.stopTracking flag).Bounded := (h.closeTracks ..).cutIvals

theorem State.Bounded.countLocated (l : Loc) : (s.countLocated l).Bounded := h.record ..

theorem State.Bounded.locateOne (r : Read) : (s.locateOne r).Bounded := (((h.countLocated ..).record ..).report ..).rep _

theorem State.Bounded.locateAll : s.locateAll.Bounded := (h.rep _).foldl _ fun _ _ hu => hu.locateOne ..

theorem State.Bounded.locateNone : s.locateNone.Bounded := ((h.rep _).foldl _ fun _ _ hu => hu.report ..).rep _

theorem State.Bounded.withTrack (r : Read) : (s.withTrack r).Bounded := by
  unfold State.withTrack
  split
  · exact h
  · extract_lets s1 s2
    have room : s1.Bounded := by
      unfold s1
      split
      · split
        · exact ((h.closeTrack ..).bump _).seq _
        · exact h
      · exact h
    exact (room.trk _).record ..

theorem State.Bounded.join (r : Read) (l : Loc) : (s.join r l).Bounded := ((h.bump ..).seq ..).ite ((h.withTrack ..).trk _)

theorem State.Bounded.joinOne : s.joinOne.Bounded := by
  unfold State.joinOne
  split
  · exact h
  · exact (h.rep _).join ..

theorem State.Bounded.joinAll : s.joinAll.Bounded := h.foldl _ fun _ _ hu => hu.joinOne

/-! ### The HF field and its operations (chapter 12) -/

theorem State.Bounded.updHf (f : Hf → Hf) : (s.updHf f).Bounded := h.hf _

theorem State.Bounded.showHf : s.showHf.Bounded := h.ite (h.recordIf ..)

theorem State.Bounded.raiseField (mw : Nat) : (s.raiseField mw).Bounded := (h.updHf ..).record ..

theorem State.Bounded.dropField : s.dropField.Bounded := by
  unfold State.dropField
  split
  · exact h
  · exact ((h.record ..).record ..).updHf ..

theorem State.Bounded.hfEnd (status : Nat) (rsp : Bytes) : (s.hfEnd status rsp).Bounded := by
  unfold State.hfEnd
  split
  · exact h
  · exact (((((h.updHf ..).putDom ..).record ..).record ..).latch ..).showHf

theorem State.Bounded.closeSession : s.closeSession.Bounded := (((h.dropField.updHf ..).putDom ..).record ..).showHf.ite h

theorem State.Bounded.hfStop (status : Nat) : (s.hfStop status).Bounded := by
  unfold State.hfStop
  extract_lets _ _ s1
  have hs1 : s1.Bounded := h.congr rfl rfl rfl rfl
  exact (hs1.hfEnd ..).closeSession.dropField

theorem State.Bounded.endTestField (fault : Bool) : (s.endTestField fault).Bounded := ((h.dropField.updHf ..).put ..).ite h

theorem State.Bounded.hfFieldFault : s.hfFieldFault.Bounded := (h.hfStop ..).endTestField ..

theorem State.Bounded.hfOut (cause : Nat) : (s.hfOut cause).Bounded := h.hfFieldFault.record ..

theorem State.Bounded.hfBack : s.hfBack.Bounded := (h.record ..).showHf

theorem State.Bounded.slideMismatch (always : Bool) : (s.slideMismatch always).Bounded :=
  h.ite (((h.updHf ..).record ..).latch ..)

theorem State.Bounded.hfFault (cause : Nat) : (s.hfFault cause).Bounded := ((h.hfOut ..).record ..).latch ..

theorem State.Bounded.startSlide : s.startSlide.Bounded := (h.raiseField ..).updHf ..

theorem State.Bounded.startBreath : s.startBreath.Bounded := ((h.updHf ..).record ..).showHf.ite h.showHf

theorem State.Bounded.stopBreath : s.stopBreath.Bounded := h.ite ((h.dropField.updHf ..).record ..).showHf

/-! ### Modes left, HOLD forced, faults (R59 to R64, R547) -/

theorem State.Bounded.endTest (r : Result) : (s.endTest r).Bounded := by
  unfold State.endTest
  split
  · exact h
  · exact (h.testC _).record ..

theorem State.Bounded.endSurvey (r : Result) : (s.endSurvey r).Bounded := ((h.arr _).record ..).ite h

theorem State.Bounded.lanesOn (on : Bool) : (s.lanesOn on).Bounded := h.recordIf ..

theorem State.Bounded.leaveRun : s.leaveRun.Bounded :=
  (((((h.endSurvey ..).dropDwells.val _).foldl _ fun _ _ hu =>
    hu.quadDark ..).locateAll.joinAll.stopTracking ..).closeReports.lanesOn ..).showZones ..

theorem State.Bounded.quadsOff : s.quadsOff.Bounded := h.foldl _ fun _ _ hu => hu.synthOff ..

theorem State.Bounded.linksOff : s.linksOff.Bounded := h.foldl _ fun _ _ hu => (hu.linkClear ..).recordIf ..

theorem State.Bounded.linksTrain : s.linksTrain.Bounded := h.foldl _ fun _ _ hu => (hu.updHub ..).ite hu

theorem State.Bounded.enter (m : Mode) (reason : Nat) : (s.enter m reason).Bounded := by
  unfold State.enter
  refine State.Bounded.latch ?_ ..
  refine State.Bounded.put ?_ ..
  exact h.congr rfl rfl rfl rfl

theorem State.Bounded.abandon : s.abandon.Bounded := by
  unfold State.abandon
  split
  · exact h
  · extract_lets _ s1
    have hs1 : s1.Bounded := h.sys _
    exact (hs1.put ..).ite hs1

theorem State.Bounded.wake (bits : Nat) (run : Bool) (l : Option Link) : (s.wake bits run l).Bounded := by
  unfold State.wake
  split
  · exact (h.stopBreath.linksTrain.put ..).sys _
  · exact h.ite ((h.put ..).sys _)

theorem State.Bounded.wakeSource (b : Nat) : (s.wakeSource b).Bounded := h.ite ((h.wake ..).ite ((h.sys _).ite h))

theorem State.Bounded.forceHold (reason : Nat) : (s.forceHold reason).Bounded := by
  unfold State.forceHold
  split
  · exact h.sys _
  · exact h
  · extract_lets s1
    have hs1 : s1.Bounded := h.abandon.cutSweep.quadsOff.ite h
    exact hs1.ite (hs1.put ..)
  · exact h.abandon.sys _

theorem State.Bounded.carriersOff (mute : Bool) : (s.carriersOff mute).Bounded :=
  ((((h.foldl _ fun _ _ hu => hu.endRound ..).muteAll.ite
    (h.foldl _ fun _ _ hu => hu.endRound ..).rampAll).endTest ..).cutSweep.val _).dropDwells.hfFieldFault.stopBreath

theorem State.Bounded.faultBits (b : Nat) : (s.faultBits b).Bounded := (h.sys _).record ..

theorem State.Bounded.criticalFault (b : Nat) (ev : Option (Nat × Nat × Nat)) : (s.criticalFault b ev).Bounded := by
  unfold State.criticalFault
  extract_lets s1 s2
  have hs1 : s1.Bounded := (h.carriersOff ..).faultBits ..
  have hs2 : s2.Bounded := by
    unfold s2
    split
    · exact hs1.latchAs ..
    · exact hs1
  exact hs2.forceHold ..

theorem State.Bounded.refGone : s.refGone.Bounded := (((h.sys _).carriersOff ..).latch ..).forceHold ..

theorem State.Bounded.holdFails (q : Nat) : (s.holdFails q).Bounded := by
  unfold State.holdFails
  extract_lets s1
  have hs1 : s1.Bounded := (h.updQuad ..).latch ..
  split
  · exact hs1.rampAll.endTest ..
  · split
    · exact (((hs1.endRound ..).dissolve ..).showBeams.foldl _ fun _ _ hu => hu.rampQuad ..).replan
    · exact (hs1.updQuad ..).leaveGang ..

end

end Sys2Proof.Machine
end

section
/-! SUPPORT. What the commands of the links and of the UHF chains keep: the bounds of `State.Bounded`. -/

namespace Sys2Proof.Machine

section
variable {s : State} (h : s.Bounded)
include h

/-! ### Commands of the links and of REFCLK (chapter 1) -/

theorem State.Bounded.linkLost (n : Nat) : (s.linkLost n).Bounded := by
  unfold State.linkLost
  split
  · exact h
  · extract_lets s1 s2 _ s3
    have hs1 : s1.Bounded := h.linkClear ..
    have hs2 : s2.Bounded := hs1.record ..
    have hs3 : s3.Bounded := (hs2.rampAll.endTest ..).ite (hs2.rampQuad ..)
    exact (((hs3.updQuad ..).quadOut ..).loseQuad ..).ite hs1.hfFieldFault

theorem State.Bounded.replay (n : Nat) (side : LinkSide) : (s.replay n side).Bounded := by
  unfold State.replay
  extract_lets _ _ _ _ _ s1 s2 s3
  have hs1 : s1.Bounded := h.updHub ..
  have hs2 : s2.Bounded := (hs1.record ..).ite hs1
  have hs3 : s3.Bounded := (hs2.latch ..).ite hs2
  exact h.ite ((hs3.linkLost ..).ite hs3)

theorem State.Bounded.takeAck (n : Nat) (side : LinkSide) (flit : Bytes) : (s.takeAck n side flit).Bounded := by
  unfold State.takeAck
  extract_lets _ s1
  have hs1 : s1.Bounded := (h.updEnd ..).ite h
  exact (hs1.replay ..).ite hs1

theorem execFlitReceived_bounded (n : Fin 5) (side : LinkSide) (flit : Bytes) (codeErr : Bool) : EndsBounded
    (execFlitReceived n side flit codeErr s) :=
  h.next.ite ((h.next.ite (h.updEnd ..).next).ite ((h.updEnd ..).takeAck ..).next)

theorem execReplayTimeout_bounded (n : Fin 5) (side : LinkSide) : EndsBounded (execReplayTimeout n side s) :=
  (h.ite (h.replay ..)).next

theorem execLinkDown_bounded (n : Fin 5) : EndsBounded (execLinkDown n s) := (h.linkLost ..).next

theorem State.Bounded.quadUp (q : Nat) : (s.quadUp q).Bounded := by
  unfold State.quadUp
  extract_lets s1
  have hs1 : s1.Bounded := h.quadBack ..
  exact hs1.ite (hs1.ite ((hs1.startCal ..).ite (hs1.retune ..)))

theorem State.Bounded.hxUp : s.hxUp.Bounded := h.startSlide.ite h

theorem execLinkTrainingDone_bounded (n : Fin 5) (up down : Nat) : EndsBounded (execLinkTrainingDone n up down s) := by
  unfold execLinkTrainingDone
  extract_lets _ _ s1 s2
  have hs1 : s1.Bounded := h.linkClear ..
  have hs2 : s2.Bounded := hs1.record ..
  exact h.next.ite ((hs2.ite (hs2.quadUp ..)).next.ite (hs1.ite hs1.hxUp).next)

theorem execLinkRetrainTimer_bounded (n : Fin 5) : EndsBounded (execLinkRetrainTimer n s) := (h.updHub ..).next.ite h.next

theorem State.Bounded.railLost (q : Nat) : (s.railLost q).Bounded := by
  unfold State.railLost
  split
  · exact h
  · extract_lets _ s2 _ s3
    have hs2 : s2.Bounded := ((h.muteQuad ..).updQuad ..).foldl _ fun _ _ hu => hu.record ..
    have hs3 : s3.Bounded := (hs2.rampAll.endTest ..).ite hs2
    exact (hs3.ite ((hs3.quadOut ..).loseQuad ..)).latchAs ..

theorem State.Bounded.railCritical (key : Nat) : (s.railCritical key).Bounded := by
  unfold State.railCritical
  extract_lets _ s1
  have hs1 : s1.Bounded := h.hlt _
  exact hs1.ite (hs1.criticalFault ..)

theorem execPxRailFault_bounded (quad : Option (Fin 4)) : EndsBounded (execPxRailFault quad s) := by
  unfold execPxRailFault
  split
  · exact h.next
  · split
    · exact (h.railLost ..).next
    · exact (h.ite (h.railCritical ..)).next

theorem State.Bounded.setPhase (driver khz : Nat) (m : ToneMeas) : (s.setPhase driver khz m).Bounded :=
  (h.updChain ..).showPhases ..

theorem State.Bounded.toneRun (began : Nat) (bad : List Nat) (q : Nat) : (s.toneRun began bad q).Bounded := h.record ..

theorem State.Bounded.raiseTest : s.raiseTest.Bounded :=
  h.ite (((h.setRails ..).foldl _ fun _ _ hu => (hu.updChain ..).raiseChain ..).ite (h.refuse.rampAll.endTest ..))

theorem State.Bounded.tonePassed (l : Nat) : (s.tonePassed l).Bounded := by
  unfold State.tonePassed
  split
  · exact (h.testC _).raiseTest
  · exact h.raiseGang ..

theorem State.Bounded.toneOut (l : Nat) : (s.toneOut l).Bounded := (((h.endTest ..).ite h).quadOut ..).loseQuad ..

theorem State.Bounded.toneTaken (l asked : Nat) (meas : List ToneMeas) : (s.toneTaken l asked meas).Bounded :=
  (((((((h.foldl _ fun _ _ hu => hu.quadDark ..).arr _).foldl _ fun _ _ hu => hu.updChain ..).foldl _ fun _ _ hu =>
    hu.setPhase ..).record ..).record ..).foldl _ fun _ _ hu => hu.toneRun ..).record ..

theorem State.Bounded.toneVoid (l : Nat) : (s.toneVoid l).Bounded := h.arr _

theorem execToneMeasureDone_bounded (leader : Fin 4) (meas : List ToneMeas) :
    EndsBounded (execToneMeasureDone leader meas s) := by
  unfold execToneMeasureDone
  split
  · exact h.next
  · next l asked _ _ =>
    split
    · exact h.next
    · extract_lets gang cs bad s5 again _ clear f _ g g1
      have taken : s5.Bounded := h.toneTaken ..
      have cleared : clear.Bounded := taken.arr _
      have failed : f.Bounded := (cleared.record ..).latch ..
      clear_value again
      split
      · exact (cleared.tonePassed l).next
      · split
        · exact (((failed.arr _).toneVoid l).askTone l).next
        · split
          · exact (failed.toneOut l).next
          · have left : g.Bounded := (failed.toneVoid l).foldl _ fun _ q hu => (hu.rampQuad q).leaveGang q
            have halved : g1.Bounded := left.record ..
            extract_lets twice
            split
            · split
              · exact (failed.toneOut l).next
              · exact ((halved.arr _).askTone l).next
            · exact ((failed.foldl _ fun _ c hu => hu.faultChain c 4).tonePassed l).next

theorem execRefLost_bounded : EndsBounded (execRefLost s) := (h.ite h.refGone).next

theorem execRefclkAccepted_bounded : EndsBounded (execRefclkAccepted s) := by
  unfold execRefclkAccepted
  split
  · exact h.next
  · extract_lets _ _ s2
    have hs2 : s2.Bounded := (h.sys _).foldl _ fun _ _ hu => hu.updQuad ..
    exact ((hs2.foldl _ fun _ _ hu => hu.startCal ..).ite hs2).next

theorem State.Bounded.latchWide (l : Link) (k : Nat) : (s.latchWide l k).Bounded := h.shadows _

theorem State.Bounded.readPart (l : Link) (k : Nat) : (s.readPart l k).2.Bounded := by
  unfold State.readPart
  split
  · exact h.latchWide ..
  · split
    · exact h
    · exact (h.shadows _).ite h

theorem execDeviceTimeLoRead_bounded (l : Link) : EndsBounded (execDeviceTimeLoRead l s) := (h.read (h.latchWide ..)).next

theorem execWideShadowExpire_bounded (l : Link) : EndsBounded (execWideShadowExpire l s) := by
  unfold execWideShadowExpire
  refine State.Bounded.next ?_
  split
  · exact h.shadows _
  · exact h

theorem execTagReplyEnd_bounded (beam : Fin 4) : EndsBounded (execTagReplyEnd beam s) := by
  unfold execTagReplyEnd
  split
  · exact h.next
  · exact ((h.putRound ..).ite h).next

theorem State.Bounded.decision (beam : Nat) : (s.decision beam).Bounded := h.sendFlit ..

theorem State.Bounded.combine (pre : List PreMeas) (b : Nat) : (s.combine pre b).Bounded := by
  unfold State.combine
  split
  · exact (h.setWeights ..).ite h
  · exact h

theorem State.Bounded.combineAll (t : Nat) (pre : List PreMeas) : (s.combineAll t pre).Bounded :=
  h.foldl _ fun _ _ hu => hu.combine ..

theorem State.Bounded.decodedOn (b : Nat) : (s.decodedOn b).Bounded := h.record ..

theorem execReplyDecoded_bounded (beam : Fin 4) (reply : SlotReply) : EndsBounded (execReplyDecoded beam reply s) := by
  unfold execReplyDecoded
  split
  · exact h.next
  · extract_lets _ _ s1
    have hs1 : s1.Bounded := (((h.decision ..).combineAll ..).replyOver ..).foldl _ fun _ _ hu => hu.decodedOn ..
    split
    · exact h.next
    · split
      · exact (hs1.putRound ..).next
      · extract_lets _ _ s2
        have hs2 : s2.Bounded := hs1.record ..
        exact (((hs2.record ..).ite hs2).putRound ..).next

/-! ### Commands of the UHF chains (chapter 4) -/

theorem State.Bounded.quadLocked (q : Nat) : (s.quadLocked q).Bounded := by
  unfold State.quadLocked
  split
  · split
    · extract_lets _ s1
      have hs1 : s1.Bounded := h.testC _
      exact (hs1.askTone ..).ite hs1
    · exact h
  · split
    · exact h.ite (h.askTone ..)
    · split
      · exact h
      · exact (h.putRunning ..).gangLocked ..

theorem State.Bounded.hopOffset (bad : BitVec 4) (c : Nat) : (s.hopOffset bad c).Bounded := by
  unfold State.hopOffset
  extract_lets _ _ s1
  have hs1 : s1.Bounded := h.draw.draw.record ..
  exact (hs1.faultChain ..).ite hs1

theorem execSynthLock_bounded (q : Fin 4) (res : SynthRes) : EndsBounded (execSynthLock q res s) :=
  h.next.ite ((((h.record ..).foldl _ fun _ _ hu => hu.hopOffset ..).foldl _ fun _ _ hu => hu.loadSeed ..).quadLocked ..).next

theorem State.Bounded.relock (q : Nat) : (s.relock q).Bounded := (h.phaseless ..).record ..

theorem State.Bounded.waitLock (l q : Nat) : (s.waitLock l q).Bounded := by
  unfold State.waitLock
  split
  · exact h
  · exact (h.putRunning ..).updQuad ..

theorem State.Bounded.relockIn (q : Nat) : (s.relockIn q).Bounded := by
  unfold State.relockIn
  split
  · exact (((h.testC _).relock ..).updQuad ..).ite (h.relock ..)
  · split
    · exact h.relock ..
    · exact (((h.endRound ..).relock ..).waitLock ..).showBeams.ite ((((h.leaveGang ..).relock ..).updQuad ..).ite
        ((h.relock ..).waitLock ..))

theorem State.Bounded.lockLost (q : Nat) : (s.lockLost q).Bounded := by
  unfold State.lockLost
  extract_lets _ _ s2 s3
  have hs2 : s2.Bounded := (((h.muteQuad ..).record ..).latch ..).updQuad ..
  have hs3 : s3.Bounded := by
    unfold s3
    split
    · exact (hs2.rampAll.endTest ..).ite hs2
    · exact hs2
  split
  · exact (((hs3.quadOut ..).loseQuad ..).updQuad ..).startCal ..
  · split
    · exact hs3.relockIn ..
    · exact ((hs3.leaveGang ..).relock ..).updQuad ..

theorem execSynthUnlock_bounded (q : Fin 4) : EndsBounded (execSynthUnlock q s) :=
  ((h.lockLost ..).ite (h.relockIn ..)).next.ite h.next

theorem execSynthHoldTimeout_bounded (q : Fin 4) : EndsBounded (execSynthHoldTimeout q s) := by
  unfold execSynthHoldTimeout
  extract_lets _ s1
  have hs1 : s1.Bounded := h.holdFails ..
  exact h.next.ite ((hs1.startCal ..).ite hs1).next

theorem State.Bounded.testUp : s.testUp.Bounded := by
  unfold State.testUp
  split
  · exact h
  · exact (h.record ..).ite h

theorem execDroneRampDone_bounded (c : Fin 16) : EndsBounded (execDroneRampDone c s) :=
  (h.record ..).testUp.next.ite ((h.stopChain ..).next.ite h.next)

theorem State.Bounded.testMuted (c : Nat) : (s.testMuted c).Bounded := (h.rampAll.endTest ..).ite h

theorem execPaFault_bounded (c : Fin 16) (temp : Bool) : EndsBounded (execPaFault c temp s) :=
  h.next.ite ((((h.faultChain ..).sendFlit ..).latch ..).testMuted ..).beamsLost.next

theorem execPaRailFault_bounded (q : Fin 4) : EndsBounded (execPaRailFault q s) := (h.railLost ..).next

theorem execPaRailRecovered_bounded (q : Fin 4) : EndsBounded (execPaRailRecovered q s) := by
  unfold execPaRailRecovered
  extract_lets s1 s2
  have hs1 : s1.Bounded := (h.updQuad ..).foldl _ fun _ _ hu => ((hu.record ..).recordIf ..).ite hu
  have hs2 : s2.Bounded := hs1.quadBack ..
  exact ((hs2.ite (hs2.quadUp ..)).ite hs1).next

theorem State.Bounded.excludeRx (c : Nat) : (s.excludeRx c).Bounded := ((h.updChain ..).record ..).beamsLost

theorem State.Bounded.reedLimit (c : Nat) : (s.reedLimit c).Bounded :=
  ((((h.updChain ..).record ..).record ..).latch ..).excludeRx ..

theorem State.Bounded.converged (w : ReedRes) : (s.converged w).Bounded := by
  unfold State.converged
  extract_lets _ _ _ s1
  have hs1 : s1.Bounded := h.draw.draw.record ..
  exact (hs1.reedLimit ..).ite ((hs1.updChain ..).recordIf ..)

theorem execReedConverged_bounded (beam : Fin 4) (weights : List ReedRes) : EndsBounded (execReedConverged beam weights s) :=
    by
  unfold execReedConverged
  split
  · exact h.next
  · exact ((h.foldl _ fun _ _ hu => hu.converged ..).reedReady ..).next

theorem execReedConvergeTimeout_bounded (c : Fin 16) : EndsBounded (execReedConvergeTimeout c s) := by
  unfold execReedConvergeTimeout
  split
  · exact h.next
  · split
    · exact h.next
    · exact (h.ite (h.excludeRx ..)).next

theorem execReedTrackTick_bounded (c : Fin 16) (di dq : Int) (res : TrackRes) : EndsBounded
    (execReedTrackTick c di dq res s) := by
  unfold execReedTrackTick
  split
  · exact h.next
  · extract_lets _ _ _ _ _ s2
    have hs2 : s2.Bounded := (((h.record ..).record ..).updChain ..).showPhases ..
    exact ((hs2.reedLimit ..).ite hs2).next

theorem execReedLimit_bounded (c : Fin 16) : EndsBounded (execReedLimit c s) := ((h.reedLimit ..).ite h).next

theorem execBlocker_bounded (c : Fin 16) : EndsBounded (execBlocker c s) := by
  unfold execBlocker
  split
  · exact h.next
  · extract_lets _ s1
    have hs1 : s1.Bounded := h.ite (((h.record ..).latch ..).updChain ..)
    exact (hs1.ite ((hs1.excludeRx ..).ite ((hs1.gainTo ..).ite hs1))).next

theorem State.Bounded.mismatchWarn (c : Nat) (rl : Int) : (s.mismatchWarn c rl).Bounded :=
  h.ite (((h.updChain ..).record ..).latch ..)

theorem State.Bounded.mismatchCut (c : Nat) (rl : Int) : (s.mismatchCut c rl).Bounded :=
  (((((((h.faultChain ..).sendFlit ..).updChain ..).updSeed ..).record ..).latch ..).testMuted ..).beamsLost

theorem execReturnLossUpdate_bounded (c : Fin 16) (rl fwd : Int) : EndsBounded (execReturnLossUpdate c rl fwd s) := by
  unfold execReturnLossUpdate
  split
  · exact h.next
  · extract_lets s1 s2
    have hs1 : s1.Bounded := h.record ..
    have hs2 : s2.Bounded := (hs1.mismatchWarn ..).ite hs1
    exact hs1.next.ite ((hs2.mismatchCut ..).ite hs2).next

theorem execProbeSuccess_bounded (c : Fin 16) : EndsBounded (execProbeSuccess c s) := by
  unfold execProbeSuccess
  split
  · exact h.next
  · exact ((((h.record ..).updSeed ..).record ..).updChain ..).showBeams.next

theorem State.Bounded.calsEnded : s.calsEnded.Bounded := h.ite (h.ite (((h.startSweep ..).sys _).ite (h.startSweep ..)))

theorem State.Bounded.calChain (res : CalRes) (c : Nat) : (s.calChain res c).Bounded := by
  unfold State.calChain
  extract_lets _ _ _ _ _ _ s1
  have hs1 : s1.Bounded := h.draw.draw.draw.record ..
  exact (hs1.faultChain ..).ite ((((hs1.record ..).record ..).updChain ..).ite hs1)

theorem State.Bounded.calFails (q : Nat) : (s.calFails q).Bounded := by
  unfold State.calFails
  extract_lets _ _ s1 s2 s3
  have hs1 : s1.Bounded := h.record ..
  have hs2 : s2.Bounded := hs1.ite (hs1.latch ..)
  have hs3 : s3.Bounded := ((hs2.quadOut ..).loseQuad ..).ite ((hs2.record ..).ite hs2)
  exact (hs3.updQuad ..).calsEnded

theorem State.Bounded.calPasses (q : Nat) (res : CalRes) : (s.calPasses q res).Bounded := by
  unfold State.calPasses
  extract_lets _ _ _ s2 _ _ _ _ _ _ s6 s7
  have hs2 : s2.Bounded := (h.draw.foldl _ fun _ _ hu => hu.calChain ..).quadBack ..
  have hs6 : s6.Bounded := ((((((hs2.quadBack ..).ite hs2).updQuad ..).record ..).record ..).latch ..).showBeams
  have hs7 : s7.Bounded := hs6.ite ((hs6.foldl _ fun _ _ hu => hu.loadSeed ..).quadLocked ..)
  exact hs7.calsEnded

theorem execFullCalDone_bounded (q : Fin 4) (res : CalRes) : EndsBounded (execFullCalDone q res s) := by
  unfold execFullCalDone
  split
  · exact h.next
  · extract_lets _ s1
    have hs1 : s1.Bounded := h.record ..
    exact ((hs1.calFails ..).next.ite (hs1.updQuad ..).next).ite (hs1.calPasses ..).next

theorem execCalRetryTimer_bounded (q : Fin 4) : EndsBounded (execCalRetryTimer q s) :=
  h.next.ite (((h.startCal ..).updQuad ..).next.ite (h.updQuad ..).next)

theorem State.Bounded.calNow (q : Nat) : (s.calNow q).Bounded := by
  unfold State.calNow
  extract_lets s1
  have hs1 : s1.Bounded := by
    unfold s1
    split
    · exact (h.testC _).ite h
    · exact h
  exact hs1.ite (hs1.startCal ..)

theorem State.Bounded.calRequest (q v : Nat) : (s.calRequest q v).2.Bounded := h.checks ((h.updQuad ..).ite (h.calNow ..))

theorem execCalRequest_bounded (l : Link) (q : Fin 4) : EndsBounded (execCalRequest l q s) :=
  (h.request (h.calRequest ..)).next

theorem State.Bounded.reedReseed (c v : Nat) : (s.reedReseed c v).2.Bounded := by
  unfold State.reedReseed
  refine h.checks ?_
  split
  · exact h.ite (h.sweep _)
  · exact h.sweepQueued ..

theorem execReedReseed_bounded (l : Link) (c : Fin 16) : EndsBounded (execReedReseed l c s) :=
  (h.request (h.reedReseed ..)).next

theorem State.Bounded.chainFaultClear (c v : Nat) : (s.chainFaultClear c v).2.Bounded := by
  unfold State.chainFaultClear
  refine h.checks ?_
  extract_lets _ _ s2
  have hs2 : s2.Bounded := ((h.record ..).record ..).updChain ..
  exact ((hs2.record ..).latchAs ..).ite hs2

theorem execChainFaultClear_bounded (l : Link) (c : Fin 16) : EndsBounded (execChainFaultClear l c s) :=
  (h.request (h.chainFaultClear ..)).next

theorem State.Bounded.sweptChain (khz : Nat) (results : List SweepRes) (c : Nat) : (s.sweptChain khz results c).Bounded := by
  unfold State.sweptChain
  extract_lets
  split
  · exact (((h.stopChain ..).updChain ..).faultChain ..).sweep _
  · exact ((((h.stopChain ..).updChain ..).updSeed ..).updChain ..).record ..

theorem State.Bounded.storeIso (swept : List Nat) (iso : List IsoMeas) : (s.storeIso swept iso).Bounded :=
  (h.record ..).record ..

theorem State.Bounded.sweepEnds (w : Sweep) : (s.sweepEnds w).Bounded := by
  unfold State.sweepEnds
  extract_lets _ _ _ s2 s3
  have hs2 : s2.Bounded := ((h.foldl _ fun _ _ hu => hu.record ..).sys _).ite (h.foldl _ fun _ _ hu => hu.record ..)
  have hs3 : s3.Bounded := hs2.sweepQueued ..
  exact hs3.quadsOff.ite hs3

theorem execSweepChannelDone_bounded (results : List SweepRes) (iso : List IsoMeas) : EndsBounded
    (execSweepChannelDone results iso s) := by
  unfold execSweepChannelDone
  split
  · exact h.next
  · split
    · exact (h.sweep _).next
    · extract_lets _ s1 _ _ s3
      have hs1 : s1.Bounded := h.foldl _ fun _ _ hu => hu.sweptChain ..
      have hs3 : s3.Bounded := ((hs1.storeIso ..).ite hs1).sweepNext ..
      exact ((hs3.sweepEnds ..).ite hs3).next

end

end Sys2Proof.Machine
end

section
/-! SUPPORT. What the commands of the interlock, the array, the rounds, the tracks and the plans keep: the bounds of
`State.Bounded`. -/

namespace Sys2Proof.Machine

section
variable {s : State} (h : s.Bounded)
include h

/-! ### Values staged and committed (R98 to R113) -/

theorem State.Bounded.setBytes (k : Nat) (b : Bytes) : (s.setBytes k b).Bounded := by
  unfold State.setBytes
  split
  · exact h
  · exact (h.putDom ..).ite (h.put ..)

theorem State.Bounded.restage (staged : DomStore) (by_ : Tab Link) : (s.restage staged by_).Bounded := by
  unfold State.restage
  extract_lets _ t
  have ht : t.Bounded := h.cfg _
  exact ht.ite (ht.seq ..)

theorem State.Bounded.stagePut (l : Option Link) (k : Nat) (b : Bytes) : (s.stagePut l k b).Bounded := h.restage ..

theorem State.Bounded.settle (p : Nat) : (s.settle p).Bounded := h.recordIf ..

/-! ### Commands of the interlock and the lock (chapter 5) -/

theorem State.Bounded.hopTo (l khz : Nat) : (s.hopTo l khz).Bounded := by
  unfold State.hopTo
  split
  · exact h
  · exact (((h.foldl _ fun _ _ hu => hu.retune ..).putRunning ..).val _).showBeams

theorem State.Bounded.sendScript (gang : Nat) : (s.sendScript gang).Bounded := h.foldl _ fun _ _ hu => hu.sendFlit ..

theorem State.Bounded.releaseDwell (l : Nat) : (s.releaseDwell l).Bounded := by
  unfold State.releaseDwell
  split
  · exact h
  · split
    · exact h
    · exact ((h.val _).sendScript ..).ite (h.refuse.val _).replan

theorem State.Bounded.releaseHop (l khz : Nat) : (s.releaseHop l khz).Bounded := by
  unfold State.releaseHop
  split
  · exact h
  · split
    · exact h
    · split
      · extract_lets t
        have ht : t.Bounded := h.sendScript ..
        exact ((ht.putRunning ..).dueRound ..).ite (ht.hopTo ..)
      · exact h.refuse.replan

theorem execDescriptorRelease_bounded (l : Fin 4) (hop : Option (BitVec 32)) : EndsBounded (execDescriptorRelease l hop s) :=
    by
  unfold execDescriptorRelease
  split
  · exact h.next
  · split
    · exact (h.releaseDwell ..).next
    · exact (h.releaseHop ..).next

theorem State.Bounded.updPermit (e : Nat) (f : Permit → Permit) : (s.updPermit e f).Bounded := h.ilk _

theorem State.Bounded.clearChannel (khz : Nat) : (s.clearChannel khz).Bounded :=
  ((h.foldl _ fun _ _ hu => hu.endRound ..).foldl _ fun _ _ hu => hu.muteChain ..).foldl _ fun _ _ hu => hu.dissolve ..

theorem State.Bounded.sweepBarred (khz : Nat) : (s.sweepBarred khz).Bounded := by
  unfold State.sweepBarred
  split
  · exact h
  · exact (h.sweepNext ..).ite h

theorem State.Bounded.planFault (khz : Nat) : (s.planFault khz).Bounded := by
  unfold State.planFault
  extract_lets s1 second _ _ s2
  have counted : s1.Bounded := h.record ..
  have barred : s2.Bounded := counted.congr rfl rfl rfl rfl
  exact (barred.criticalFault ..).ite barred

theorem execPermitWithdraw_bounded (e : Fin 64) (dwell : Bool) : EndsBounded (execPermitWithdraw e dwell s) := by
  unfold execPermitWithdraw
  split
  · exact h.next
  · extract_lets _ _ _ _ _ _ _ _ s4 s5
    have hs4 : s4.Bounded := ((((h.updPermit ..).clearChannel ..).record ..).latch ..).sweepBarred ..
    have hs5 : s5.Bounded := (hs4.rampAll.endTest ..).ite hs4
    exact h.next.ite ((hs5.planFault ..).ite hs5).showBeams.replan.next

theorem execPermitReturn_bounded (e : Fin 64) (dwell : Bool) : EndsBounded (execPermitReturn e dwell s) := by
  unfold execPermitReturn
  split
  · exact h.next
  · exact (h.ite (((h.updPermit ..).val _).ite (h.updPermit ..))).next

theorem State.Bounded.lockState (v : Nat) : (s.lockState v).Bounded := h.record ..

theorem State.Bounded.disarm : s.disarm.Bounded := (h.lockState ..).ite h

theorem State.Bounded.regLockArm (v : Nat) : (s.regLockArm v).2.Bounded := h.checks (h.lockState ..)

theorem execRegLockArm_bounded (l : Link) (v : BitVec 8) : EndsBounded (execRegLockArm l v s) :=
  (h.request (h.regLockArm ..)).next

theorem State.Bounded.regLockFire (l : Link) (v : Nat) : (s.regLockFire l v).2.Bounded := by
  unfold State.regLockFire
  split
  · exact h
  · split
    · exact h
    · split
      · exact h.lockState ..
      · exact h.sys _

theorem execRegLockFire_bounded (l : Link) (v : BitVec 32) : EndsBounded (execRegLockFire l v s) :=
  (h.request (h.regLockFire ..)).next

theorem State.Bounded.untrusted (k : Nat) : (s.untrusted k).Bounded := h.draw.put ..

theorem execLockFireDone_bounded (ok : Bool) : EndsBounded (execLockFireDone ok s) := by
  unfold execLockFireDone
  split
  · exact h.next
  · extract_lets _ s1
    have hs1 : s1.Bounded := (h.sys _).record ..
    exact (hs1.endHeld ..).next.ite (((hs1.foldl _ fun _ _ hu => hu.untrusted ..).criticalFault ..).endHeld ..).next

theorem execLockArmTimeout_bounded : EndsBounded (execLockArmTimeout s) := h.disarm.next

theorem State.Bounded.viewIndex (v : Nat) : (s.viewIndex v).2.Bounded := h.checks (h.record ..)

theorem execViewIndexWrite_bounded (l : Link) (v : BitVec 8) : EndsBounded (execViewIndexWrite l v s) :=
  (h.request (h.viewIndex ..)).next

/-! ### Commands of the array (chapter 6) -/

theorem State.Bounded.surveyStart : (s.surveyStart).2.Bounded := h.checks ((h.arr _).record ..)

theorem State.Bounded.surveyCmd (v : Nat) : (s.surveyCmd v).2.Bounded := by
  unfold State.surveyCmd
  split
  · exact h.surveyStart
  · exact h.endSurvey ..
  · exact h

theorem execSurveyStart_bounded (l : Link) : EndsBounded (execSurveyStart l s) := (h.request (h.surveyCmd ..)).next

theorem execSurveyAbort_bounded (l : Link) : EndsBounded (execSurveyAbort l s) := (h.request (h.surveyCmd ..)).next

theorem execSurveyTimeout_bounded : EndsBounded (execSurveyTimeout s) := (h.endSurvey ..).next

theorem State.Bounded.surveyDone (v : Survey) : (s.surveyDone v).Bounded := by
  unfold State.surveyDone
  extract_lets _ _ _ _ _ _ _ _ _ _ _ _ _ _ s2
  have hs2 : s2.Bounded := (((h.arr _).putDom ..).putDom ..).putDom ..
  exact (hs2.record ..).ite (((hs2.foldl _ fun _ _ hu => hu.stagePut ..).disarm.record ..).ite (hs2.record ..))

theorem State.Bounded.surveyRead (r : Read) : (s.surveyRead r).Bounded := by
  unfold State.surveyRead
  split
  · exact h
  · split
    · exact h
    · extract_lets _ _ _ s1
      have hs1 : s1.Bounded := (h.arr _).record ..
      exact (hs1.surveyDone ..).ite hs1

theorem State.Bounded.retireLane (n : Nat) : (s.retireLane n).Bounded := by
  unfold State.retireLane
  extract_lets _ _ _ s1 _ s2
  have hs1 : s1.Bounded := h.record ..
  have hs2 : s2.Bounded := by
    unfold s2
    split
    · exact hs1.putDom ..
    · split
      · exact hs1.putDom ..
      · split
        · exact hs1.putDom ..
        · exact ((h.record ..).arr _).putDom ..
  exact ((hs2.lanesOn ..).latch ..).showBeams

theorem execLaneSelftest_bounded (lane : Fin 32) (pass : Bool) : EndsBounded (execLaneSelftest lane pass s) := by
  unfold execLaneSelftest
  split
  · exact h.next
  · extract_lets _ _ s1
    have hs1 : s1.Bounded := h.arr _
    exact ((hs1.retireLane ..).ite hs1).next

theorem State.Bounded.readOn (r : Read) : (s.readOn r).Bounded := (h.rep _).ite (h.report ..)

theorem execReadMeasured_bounded (beam : Fin 4) (meas : List RawMeas) : EndsBounded (execReadMeasured beam meas s) := by
  unfold execReadMeasured
  split
  · exact h.next
  · extract_lets _ _ _ _ _ _ s1
    have hs1 : s1.Bounded := h.heard _
    exact (((((hs1.putDom ..).seq ..).ite hs1).surveyRead ..).readOn ..).next

/-! ### Commands of the rounds (chapter 7) -/

theorem State.Bounded.levelGang (d : Dwell) : (s.levelGang d).Bounded :=
  (h.steerGang ..).foldl _ fun _ _ hu => (hu.setLevel ..).ite hu

theorem execRoundStart_bounded (beam : Fin 4) : EndsBounded (execRoundStart beam s) := by
  unfold execRoundStart
  split
  · exact h.next
  · exact h.next.ite (((((h.levelGang ..).val _).putRunning ..).putRound ..).showRound ..).next

theorem execPowerUpHoldEnd_bounded (beam : Fin 4) : EndsBounded (execPowerUpHoldEnd beam s) := by
  unfold execPowerUpHoldEnd
  split
  · exact h.next
  · split
    · exact h.next
    · extract_lets _ s1
      have hs1 : s1.Bounded := by
        unfold s1
        split
        · exact h.putRunning ..
        · exact h
      exact ((hs1.putRound ..).showRound ..).next

theorem State.Bounded.ackFailed (t : Nat) (n : Round) (replied : Bool) : (s.ackFailed t n replied).Bounded := by
  unfold State.ackFailed
  extract_lets s
  have hs : s.Bounded := h.replyOver ..
  exact (hs.putRound ..).ite ((hs.putRound ..).ite (hs.slotBoundary ..))

theorem execSlotEmptyTimeout_bounded (beam : Fin 4) : EndsBounded (execSlotEmptyTimeout beam s) := by
  unfold execSlotEmptyTimeout
  split
  · exact h.next
  · split
    · exact ((h.decision ..).slotBoundary ..).next
    · exact (h.ackFailed ..).next
    · exact h.next

theorem execEpcReply_bounded (beam : Fin 4) (reply : EpcReply) : EndsBounded (execEpcReply beam reply s) := by
  unfold execEpcReply
  split
  · exact h.next
  · next n _ =>
    extract_lets s0 khz
    have decided : s0.Bounded := h.decision ..
    split
    · exact h.next
    · split
      · exact ((decided.checked ..).ackFailed ..).next
      · have read := ((((decided.checked 0 1 0).foldl (reply.rx.map Fin.val) fun _ b hu => hu.decodedOn b).combineAll beam
          reply.pre).replyOver beam).readTag beam khz n reply
        split
        next n1 s1 taken =>
        rw [taken] at read
        extract_lets s2 ops
        have charged : s2.Bounded := by
          unfold s2
          split
          · exact (read.pushResult ..).ite read
          · exact read
        exact (charged.putRound ..).next

theorem execTurnroundEnd_bounded (beam : Fin 4) : EndsBounded (execTurnroundEnd beam s) := by
  unfold execTurnroundEnd
  split
  · exact h.next
  · split
    · exact (h.putRound ..).next
    · exact (h.slotBoundary ..).next
    · exact (h.nextOp ..).next
    · exact h.next

theorem State.Bounded.opOver (t : Nat) (n : Round) (code tagErr : Nat) (data : Bytes) : (s.opOver t n code tagErr
    data).Bounded := by
  unfold State.opOver
  split
  · exact h
  · exact ((h.putRound ..).opEnds ..).nextOp ..

theorem State.Bounded.accessChecks (replies : List TagReply) : (s.accessChecks replies).Bounded := h.draw.checked ..

theorem execAccessReplyTimeout_bounded (beam : Fin 4) : EndsBounded (execAccessReplyTimeout beam s) := by
  unfold execAccessReplyTimeout
  split
  · exact h.next
  · split
    · extract_lets _ s1
      have hs1 : s1.Bounded := h.replyOver ..
      exact (hs1.putRound ..).next.ite (hs1.opOver ..).next
    · exact h.next

theorem execAccessOpEnd_bounded (beam : Fin 4) (replies : List TagReply) (rx : List (Fin 16)) (pre : List
    PreMeas) : EndsBounded (execAccessOpEnd beam replies rx pre s) := by
  unfold execAccessOpEnd
  split
  · exact h.next
  · split
    · exact h.next
    · extract_lets _ _ s1
      have hs1 : s1.Bounded :=
        ((((h.accessChecks ..).decision ..).foldl _ fun _ _ hu => hu.decodedOn ..).combineAll ..).replyOver ..
      split
      · exact (hs1.opOver ..).next
      · exact (hs1.opOver ..).next

theorem State.Bounded.opArm (k v : Nat) : (s.opArm k v).2.Bounded := by
  unfold State.opArm
  split
  · exact h.armOp ..
  · exact h.checks (h.armOp ..)

theorem execOpArm_bounded (l : Link) (slot : Fin 16) : EndsBounded (execOpArm l slot s) := (h.request (h.opArm ..)).next

theorem execOpDisarm_bounded (l : Link) (slot : Fin 16) : EndsBounded (execOpDisarm l slot s) := (h.request (h.opArm ..)).next

theorem State.Bounded.resultRelease (n : Nat) : (s.resultRelease n).2.Bounded := by
  obtain ⟨flash, log, emcy, results⟩ := id h
  refine h.checks (State.Bounded.resultsChanged ⟨flash, log, emcy, ?_⟩)
  simp only [List.length_tail]
  omega

theorem execResultRelease_bounded (l : Link) (id : BitVec 32) : EndsBounded (execResultRelease l id s) :=
  (h.request (h.resultRelease ..)).next

theorem State.Bounded.pauseGang (l : Nat) (r : Running) (cals : List Nat) : (s.pauseGang l r cals).Bounded :=
  ((h.foldl _ fun _ _ hu => hu.rampQuad ..).foldl _ fun _ _ hu => (hu.startCal ..).updQuad ..).putRunning ..

theorem State.Bounded.endDwell (l : Nat) : (s.endDwell l).Bounded := by
  unfold State.endDwell
  split
  · exact h
  · exact ((h.closeDwell ..).foldl _ fun _ _ hu => (hu.startCal ..).ite (hu.ite ((hu.rampQuad ..).updQuad ..))).showBeams

theorem State.Bounded.atBoundary (l : Nat) : (s.atBoundary l).Bounded := by
  unfold State.atBoundary
  split
  · exact h
  · extract_lets
    split
    · exact h.gangDown ..
    · split
      · exact (h.hopTo ..).foldl _ fun _ _ hu => (hu.startCal ..).updQuad ..
      · exact (h.endDwell ..).ite ((h.pauseGang ..).ite (((h.pauseGang ..).askTone ..).ite h))

theorem execRoundEnd_bounded (beam : Fin 4) : EndsBounded (execRoundEnd beam s) := by
  unfold execRoundEnd
  split
  · exact h.next
  · exact h.next.ite ((h.endRound ..).atBoundary ..).next

/-! ### Commands of location and tracks (chapter 8) -/

theorem execLocBatch_bounded : EndsBounded (execLocBatch s) := h.locateAll.next

theorem execTrackJoin_bounded : EndsBounded (execTrackJoin s) := h.joinOne.next

theorem execTrackCloseGap_bounded (tag : BitVec 32) : EndsBounded (execTrackCloseGap tag s) := by
  unfold execTrackCloseGap
  split
  · exact h.next
  · exact (h.closeTrack ..).next

theorem execCountIntervalPublish_bounded : EndsBounded (execCountIntervalPublish s) := by
  unfold execCountIntervalPublish
  extract_lets
  split
  · exact (((h.rollIvals.trk _).publish ..).ite h.rollIvals).next
  · exact h.rollIvals.next

/-! ### Commands of plans and dwells (chapter 9) -/

theorem State.Bounded.goals (z : Nat) : (s.goals z).Bounded := by
  unfold State.goals
  extract_lets _ _ _ _ _ _ _ _ _ _ _ _ _ s4
  have hs4 : s4.Bounded := (((h.val _).record ..).recordIf ..).val _
  exact ((hs4.latch ..).ite (hs4.latch ..)).ite hs4

theorem State.Bounded.correct (v : Nat) : (s.correct v).Bounded := h.recordIf ..

theorem State.Bounded.probesDue (c : Nat) : (s.probesDue c).Bounded := h.updChain ..

theorem State.Bounded.takeOffered : s.takeOffered.Bounded :=
  ((h.foldl _ fun _ _ hu => hu.quadBack ..).foldl _ fun _ _ hu => hu.updQuad ..).foldl _ fun _ _ hu => hu.updChain ..

theorem execPlanBoundary_bounded (measMw : BitVec 16) : EndsBounded (execPlanBoundary measMw s) :=
  h.takeOffered.next.ite
    (((h.foldl _ fun _ _ hu => hu.goals ..).correct ..).takeOffered.foldl _ fun _ _ hu => hu.probesDue ..).replan.next

theorem State.Bounded.freshChain (d : Dwell) (c : Nat) : (s.freshChain d c).Bounded := by
  unfold State.freshChain
  extract_lets _ _ _ s2
  have hs2 : s2.Bounded := ((h.updChain ..).recordIf ..).recordIf ..
  exact ((hs2.ite (hs2.loadSeed ..)).setGamma ..).showPhases ..

theorem State.Bounded.quadOnto (khz q : Nat) : (s.quadOnto khz q).Bounded :=
  ((h.startCal ..).updQuad ..).ite (h.ite (h.retune ..))

theorem State.Bounded.startDwell (l : Nat) (d : Dwell) : (s.startDwell l d).Bounded := by
  unfold State.startDwell
  extract_lets _ _ _ _ _ _ _ _ s3 s4 s5
  have hs3 : s3.Bounded :=
    (((h.foldl _ fun _ _ hu => hu.freshChain ..).foldl _ fun _ _ hu => hu.rampQuad ..).ite
      ((h.foldl _ fun _ _ hu => hu.freshChain ..).foldl _ fun _ _ hu => hu.quadOnto ..)).val _
  have hs4 : s4.Bounded := (hs3.setRails ..).record ..
  have hs5 : s5.Bounded := hs4.ite ((hs4.raiseGang ..).ite (hs4.gangLocked ..))
  exact hs5.showBeams

theorem execDwellStart_bounded (leader : Fin 4) : EndsBounded (execDwellStart leader s) := by
  unfold execDwellStart
  split
  · exact h.next
  · exact ((h.startDwell ..).ite h).next

theorem execDwellEnd_bounded (leader : Fin 4) : EndsBounded (execDwellEnd leader s) := by
  unfold execDwellEnd
  split
  · exact h.next
  · split
    · exact (h.endDwell ..).next
    · extract_lets s1
      have hs1 : s1.Bounded := h.putRunning ..
      exact ((hs1.dueRound ..).ite hs1).next

theorem execPowerMeasure_bounded (mw : BitVec 16) : EndsBounded (execPowerMeasure mw s) :=
  ((h.correct ..).replanNow ..).next.ite h.next

end

end Sys2Proof.Machine
end

section
/-! SUPPORT. What the commands of the reports, the store and the HF reader keep: the bounds of `State.Bounded`. -/

namespace Sys2Proof.Machine

section
variable {s : State} (h : s.Bounded)
include h

/-! ### Commands of the reports (chapter 10) -/

theorem execPacketAgeTimeout_bounded (stream : Fin 3) (kind : Fin 5) : EndsBounded (execPacketAgeTimeout stream kind s) :=
  (h.closePkt ..).next

theorem State.Bounded.changeTier (i n : Nat) : (s.changeTier i n).Bounded := h.ite (((h.closeAll ..).record ..).latch ..)

theorem State.Bounded.windowEnd (base i : Nat) : (s.windowEnd base i).Bounded :=
  (((((h.placeT2 ..).closePkt ..).updStream ..).putDom ..).record ..).changeTier ..

theorem execReportWindowEnd_bounded : EndsBounded (execReportWindowEnd s) :=
  h.next.ite ((h.foldl _ fun _ _ hu => hu.windowEnd ..).rep _).next

theorem State.Bounded.creditGrant (i n : Nat) : (s.creditGrant i n).2.Bounded := h.checks (h.setCredits ..)

theorem State.Bounded.linkGrant (target : Link) (n : Nat) : (s.linkGrant target n).2.Bounded := by
  unfold State.linkGrant
  split
  · exact h
  · exact h.creditGrant ..

theorem execCreditGrant_bounded (l : Link) (stream : Fin 3) (n : BitVec 32) : EndsBounded (execCreditGrant l stream n s) :=
  (h.request (h.creditGrant ..)).next

theorem execLinkCreditGrant_bounded (l target : Link) (n : BitVec 32) : EndsBounded (execLinkCreditGrant l target n s) :=
  (h.request (h.linkGrant ..)).next

theorem State.Bounded.reportNext (i : Nat) : (s.reportNext i).2.2.Bounded := by
  unfold State.reportNext
  split
  · exact h
  · split
    · exact h
    · split
      · exact h
      · split
        · exact h
        · exact ((h.charge ..).sendPkt ..).updStream ..

theorem State.Bounded.reportRelease (i seq : Nat) : (s.reportRelease i seq).2.Bounded := by
  unfold State.reportRelease
  split
  · exact h
  · split
    · exact h
    · split
      · exact h.delivered ..
      · exact h

theorem execReportNext_bounded (l : Link) (stream : Fin 3) : EndsBounded (execReportNext l stream s) :=
  (h.read (h.reportNext ..)).next

theorem execReportRelease_bounded (l : Link) (stream : Fin 3) (seq : BitVec 32) : EndsBounded
    (execReportRelease l stream seq s) :=
  (h.request (h.reportRelease ..)).next

theorem State.Bounded.wmAck (i v : Nat) : (s.wmAck i v).2.Bounded := h.checks (h.record ..)

theorem execWmAck_bounded (l : Link) (stream : Fin 3) : EndsBounded (execWmAck l stream s) := (h.request (h.wmAck ..)).next

theorem State.Bounded.hotRead : s.hotRead.2.2.Bounded := by
  unfold State.hotRead
  extract_lets c l
  show State.Bounded (match l.getLast? with
    | some p => s.put Reg.HOT_CURSOR ((p.time + 1) % 2 ^ 64)
    | none => s)
  split
  · exact h.put ..
  · exact h

theorem execHotRead_bounded (l : Link) : EndsBounded (execHotRead l s) := (h.read h.hotRead).next

theorem State.Bounded.markSet (i n : Nat) : (s.markSet i n).2.Bounded := h.checks ((h.rep _).record ..)

theorem State.Bounded.markDrop (i n : Nat) : (s.markDrop i n).Bounded := h.record ..

theorem State.Bounded.markClear (i n : Nat) : (s.markClear i n).2.Bounded := h.checks (h.markDrop ..)

theorem State.Bounded.startReplay (i from_ : Nat) : (s.startReplay i from_).Bounded := (h.updStream ..).record ..

theorem State.Bounded.rewind (i n : Nat) : (s.rewind i n).2.Bounded := by
  unfold State.rewind
  extract_lets
  split
  · exact h
  · split
    · exact h
    · split
      · exact ((h.startReplay ..).record ..).markDrop ..
      · exact h.startReplay ..

theorem execMarkSet_bounded (l : Link) (stream : Fin 3) (n : BitVec 8) : EndsBounded (execMarkSet l stream n s) :=
  (h.request (h.markSet ..)).next

theorem execMarkClear_bounded (l : Link) (stream : Fin 3) (n : BitVec 8) : EndsBounded (execMarkClear l stream n s) :=
  (h.request (h.markClear ..)).next

theorem execRewind_bounded (l : Link) (stream : Fin 3) (n : BitVec 8) : EndsBounded (execRewind l stream n s) :=
  (h.request (h.rewind ..)).next

theorem execRewindDone_bounded (stream : Fin 3) : EndsBounded (execRewindDone stream s) := ((h.record ..).ite h).next

/-! ### Commands of the store (chapter 11) -/

theorem State.Bounded.lineSpoiled (r line : Nat) (left : List (Nat × Byte)) : (s.lineSpoiled r line left).Bounded := by
  unfold State.lineSpoiled
  split
  · exact h
  · split
    · exact h.rep _
    · exact h.rep _
    · exact (h.rep _).foldl _ fun _ _ hu => hu.updStream ..
    · exact h

theorem State.Bounded.memErr (kind r line key : Nat) : (s.memErr kind r line key).Bounded := h.record ..

theorem State.Bounded.memCorrected (key : Nat) : (s.memCorrected key).Bounded := h.ite (h.latch ..)

theorem State.Bounded.rowDue (row : Nat) : (s.rowDue row).Bounded := h.ite (h.mem _)

theorem State.Bounded.rowCorrected (row : Nat) : (s.rowCorrected row).Bounded := by
  unfold State.rowCorrected
  extract_lets _ _ s1
  have hs1 : s1.Bounded := h.mem _
  exact (hs1.rowDue ..).ite hs1

theorem State.Bounded.lostMemory (i n : Nat) : (s.lostMemory i n).Bounded := h.ite (((h.addWide ..).seq ..).recordsLost ..)

theorem State.Bounded.discard (i : Nat) (hit : Pkt → Bool) : (s.discard i hit).Bounded := by
  unfold State.discard
  extract_lets _ s1
  have hs1 : s1.Bounded := h.updStream ..
  exact hs1.ite ((hs1.lostMemory ..).fillChanged ..)

theorem State.Bounded.archiveLine (line : Nat) : (s.archiveLine line).Bounded :=
  (h.rep _).foldl _ fun _ _ hu => (hu.updStream ..).discard ..

theorem State.Bounded.queueLine (line : Nat) : (s.queueLine line).Bounded := h.foldl _ fun _ _ hu => hu.discard ..

theorem State.Bounded.hotLine (line : Nat) : (s.hotLine line).Bounded := ((h.rep _).record ..).record ..

theorem State.Bounded.dictLine (line : Nat) : (s.dictLine line).Bounded := ((h.rep _).record ..).record ..

theorem State.Bounded.locLine : s.locLine.Bounded := h.draw.trk _

theorem State.Bounded.lineLost (r line : Nat) : (s.lineLost r line).Bounded := by
  unfold State.lineLost
  split
  · exact h.locLine
  · exact h.dictLine ..
  · exact h.hotLine ..
  · exact h.archiveLine ..
  · exact h.queueLine ..
  · exact h

theorem State.Bounded.uncorrectable (mx : Bool) (base r line : Nat) : (s.uncorrectable mx base r line).Bounded := by
  unfold State.uncorrectable
  extract_lets s1 _ _ _ s3
  have hs1 : s1.Bounded := h.memErr ..
  have hs3 : s3.Bounded := (hs1.ite (hs1.latchAs ..)).lineLost ..
  exact (hs3.rowDue ..).ite ((hs3.criticalFault ..).ite (hs3.ite (((((h.memErr ..).ite
    ((h.memErr ..).latchAs ..)).lineLost ..).mem _).record ..)))

theorem State.Bounded.lineCorrected (base r line n : Nat) : (s.lineCorrected base r line n).Bounded := by
  unfold State.lineCorrected
  split
  · exact h
  · exact ((h.memErr ..).memCorrected ..).rowCorrected ..
  · exact ((h.memErr ..).memCorrected ..).rowCorrected ..

theorem State.Bounded.lineRead (r line : Nat) (err : MemErr) : (s.lineRead r line err).Bounded := by
  unfold State.lineRead
  split
  · exact h
  · split
    · exact h
    · split
      · split
        · exact h
        · split
          · exact h.uncorrectable ..
          · exact (h.lineCorrected ..).lineSpoiled ..
      · exact h.ite ((h.memErr ..).memCorrected ..)
      · exact h.ite (h.uncorrectable ..)

theorem execScrubStep_bounded (region : Fin 7) (line : BitVec 32) (err : MemErr) (last : Bool) : EndsBounded
    (execScrubStep region line err last s) := by
  unfold execScrubStep
  split
  · exact h.next
  · extract_lets s1
    have hs1 : s1.Bounded := h.lineRead ..
    exact ((hs1.record ..).ite hs1).next

theorem execRowRepairDone_bounded : EndsBounded (execRowRepairDone s) := by
  unfold execRowRepairDone
  split
  · exact h.next
  · exact ((h.mem _).record ..).next

theorem execRepairMapStored_bounded (ok : Bool) : EndsBounded (execRepairMapStored ok s) :=
  h.next.ite (((h.record ..).mem _).ite (h.record ..)).next

theorem execInnerCountUpdate_bounded (n : BitVec 32) : EndsBounded (execInnerCountUpdate n s) := ((h.record ..).ite h).next

/-! ### Commands of the HF reader (chapter 12) -/

theorem State.Bounded.setActive (a : Option Nat) : (s.setActive a).Bounded := (h.updHf ..).putDom ..

theorem State.Bounded.sessionField : s.sessionField.Bounded := h.startSlide.ite ((h.raiseField ..).updHf ..)

theorem State.Bounded.openSession : s.openSession.Bounded := (((h.updHf ..).val _).replanNow ..).ite (h.updHf ..).sessionField

theorem execHfStartDeferred_bounded : EndsBounded (execHfStartDeferred s) := (h.val _).sessionField.replan.next.ite h.next

theorem State.Bounded.opBegins (code : Nat) : (s.opBegins code).Bounded := ((h.updHf ..).record ..).showHf

theorem State.Bounded.hfRun (code : Nat) : (s.hfRun code).Bounded := by
  unfold State.hfRun
  extract_lets
  split
  · exact ((h.opBegins ..).setActive ..).ite (h.opBegins ..).openSession
  · exact ((h.opBegins ..).setActive ..).ite ((h.opBegins ..).hfEnd ..)
  · split
    · exact (h.opBegins ..).hfEnd ..
    · exact ((h.opBegins ..).updHf ..).ite ((h.opBegins ..).ite ((h.opBegins ..).hfEnd ..))
  · exact (h.opBegins ..).ite ((h.opBegins ..).hfEnd ..).closeSession
  · exact (h.hfStop ..).ite ((h.opBegins ..).hfEnd ..).closeSession

theorem State.Bounded.hfOp (code : Nat) : (s.hfOp code).2.Bounded := h.checks (h.hfRun ..)

theorem execHfDiscover_bounded (l : Link) : EndsBounded (execHfDiscover l s) := (h.request (h.hfOp ..)).next

theorem execHfActivate_bounded (l : Link) : EndsBounded (execHfActivate l s) := (h.request (h.hfOp ..)).next

theorem execHfExchange_bounded (l : Link) : EndsBounded (execHfExchange l s) := (h.request (h.hfOp ..)).next

theorem execHfRelease_bounded (l : Link) : EndsBounded (execHfRelease l s) := (h.request (h.hfOp ..)).next

theorem execHfAbort_bounded (l : Link) : EndsBounded (execHfAbort l s) := (h.request (h.hfOp ..)).next

theorem execHfGuardTimeEnd_bounded : EndsBounded (execHfGuardTimeEnd s) := ((h.updHf ..).ite ((h.updHf ..).ite h)).next

theorem State.Bounded.hfEnds (code status : Nat) (rsp : Bytes) : (s.hfEnds code status rsp).Bounded :=
  (h.hfEnd ..).closeSession.ite (h.hfEnd ..)

theorem State.Bounded.frameFailed (crc : Bool) : (s.frameFailed crc).Bounded := by
  unfold State.frameFailed
  split
  · exact h
  · exact (h.updHf ..).ite ((h.updHf ..).ite ((h.hfEnds ..).ite (((h.setActive ..).hfEnds ..).ite (h.hfEnds ..))))

theorem State.Bounded.rawDone (frame : Bytes) : (s.rawDone frame).Bounded := h.hfEnd ..

theorem execHfFrameReceived_bounded (frame : Bytes) (check : FrameCheck) : EndsBounded (execHfFrameReceived frame check s) :=
    by
  unfold execHfFrameReceived
  split
  · exact h.next
  · exact ((h.hfEnds ..).ite ((h.rawDone ..).ite (((h.checked ..).frameFailed ..).ite (((h.checked ..).rawDone ..).ite
      ((h.checked ..).updHf ..))))).next

theorem execHfReplyTimeout_bounded : EndsBounded (execHfReplyTimeout s) := (h.frameFailed ..).next

theorem State.Bounded.discovered (status : Nat) (cards : List Bytes) (more : Bool) : (s.discovered status cards
    more).Bounded :=
  ((h.putDom ..).put ..).hfEnd ..

theorem execHfOpEnd_bounded (status : Fin 12) (rsp : Bytes) (cards : List Bytes) (more : Bool) : EndsBounded
    (execHfOpEnd status rsp cards more s) := by
  unfold execHfOpEnd
  split
  · exact h.next
  · extract_lets s1
    have hs1 : s1.Bounded := (h.setActive ..).ite h
    split
    · exact (hs1.discovered ..).next
    · exact (((hs1.setActive ..).ite hs1).hfEnds ..).next
    · exact (hs1.hfEnds ..).next

theorem execHfSessionIdle_bounded : EndsBounded (execHfSessionIdle s) :=
  h.next.ite (((h.updHf ..).hfEnd ..).draw.put ..).closeSession.next

theorem State.Bounded.slideSeen (phase z : Nat) : (s.slideSeen phase z).Bounded := by
  unfold State.slideSeen
  extract_lets s1
  have hs1 : s1.Bounded := h.record ..
  exact ((hs1.slideMismatch ..).hfFault ..).ite hs1

theorem execSlideTrackTick_bounded (dcs dcp phase : Int) (z : BitVec 16) : EndsBounded
    (execSlideTrackTick dcs dcp phase z s) := by
  unfold execSlideTrackTick
  split
  · exact h.next
  · extract_lets _ _ _ _ _ s3
    have hs3 : s3.Bounded := ((h.recordIf ..).updHf ..).slideSeen ..
    exact ((hs3.slideMismatch ..).ite hs3).next

theorem execHfDriverFault_bounded (why : DriverFault) : EndsBounded (execHfDriverFault why s) :=
  h.next.ite (h.hfFault ..).next

theorem State.Bounded.hfFaultClear (v : Nat) : (s.hfFaultClear v).2.Bounded := h.checks (((h.updHf ..).ite h).hfBack.ite h)

theorem execHfFaultClear_bounded (l : Link) : EndsBounded (execHfFaultClear l s) := (h.request (h.hfFaultClear ..)).next

theorem execHfPllUnlock_bounded : EndsBounded (execHfPllUnlock s) := by
  unfold execHfPllUnlock
  split
  · exact h.next
  · extract_lets _ s1
    have hs1 : s1.Bounded := (h.hfFieldFault.updHf ..).latch ..
    exact (((hs1.updHf ..).hfOut ..).ite hs1).next

theorem State.Bounded.slideRetry (ok : Bool) : (s.slideRetry ok).Bounded :=
  ((h.draw.updHf _).record ..).hfBack.ite ((h.latch ..).slideMismatch _)

theorem execHfRecoveryRetry_bounded (ok : Bool) : EndsBounded (execHfRecoveryRetry ok s) := by
  unfold execHfRecoveryRetry
  refine State.Bounded.next ?_
  split
  · exact h
  · split
    · exact h.hfBack.ite h
    · exact (h.slideRetry ..).ite h
    · exact h

theorem State.Bounded.slideRetune (v : Nat) : (s.slideRetune v).2.Bounded := h.checks (h.ite h.startSlide)

theorem execSlideRetune_bounded (l : Link) : EndsBounded (execSlideRetune l s) := (h.request (h.slideRetune ..)).next

theorem State.Bounded.slideCalPasses (cs cp phase z temp : Nat) : (s.slideCalPasses cs cp phase z temp).Bounded := by
  unfold State.slideCalPasses
  extract_lets _ s2 s3 s4
  have hs2 : s2.Bounded := ((h.updHf ..).record ..).slideSeen ..
  have hs3 : s3.Bounded := (hs2.slideMismatch ..).ite hs2
  have hs4 : s4.Bounded := hs3.hfBack.ite hs3
  exact hs4.sessionField.ite ((hs4.raiseField ..).ite hs4.dropField)

theorem State.Bounded.slideCalFails : s.slideCalFails.Bounded := (((h.updHf ..).hfOut ..).latch ..).slideMismatch ..

theorem execSlideCalDone_bounded (ok : Bool) (cs cp : Fin 64) (phase : Int) (z : BitVec 16) (temp : Int) : EndsBounded
    (execSlideCalDone ok cs cp phase z temp s) :=
  h.next.ite ((h.slideCalPasses ..).ite h.slideCalFails).next

theorem State.Bounded.follow (amp phase : Int) : (s.follow amp phase).Bounded := h.updHf ..

theorem State.Bounded.pulses (n : Nat) : (s.pulses n).Bounded := (h.record ..).record ..

theorem State.Bounded.cardDetected : s.cardDetected.Bounded := (((h.dropField.updHf ..).record ..).latch ..).wakeSource ..

theorem State.Bounded.falseDetection : s.falseDetection.Bounded := (h.dropField.updHf ..).record ..

theorem execBreathPulse_bounded (amp phase : Int) : EndsBounded (execBreathPulse amp phase s) := by
  unfold execBreathPulse
  split
  · exact h.next
  · extract_lets s1
    have hs1 : s1.Bounded := h.pulses ..
    exact ((hs1.updHf ..).ite (hs1.follow ..)).next

theorem execBreathSecondPulse_bounded (amp phase : Int) : EndsBounded (execBreathSecondPulse amp phase s) := by
  unfold execBreathSecondPulse
  split
  · exact h.next
  · extract_lets s1
    have hs1 : s1.Bounded := h.pulses ..
    exact ((hs1.follow ..).ite (hs1.cardDetected.ite ((hs1.raiseField ..).updHf ..))).next

theorem execBreathConfirmEnd_bounded (sof : Bool) : EndsBounded (execBreathConfirmEnd sof s) := by
  unfold execBreathConfirmEnd
  split
  · exact (h.cardDetected.ite h.falseDetection).next
  · exact (h.cardDetected.ite h).next

theorem execBreathBaselineDone_bounded (amp phase : Int) (ok : Bool) : EndsBounded (execBreathBaselineDone amp phase ok s) :=
    by
  unfold execBreathBaselineDone
  split
  · exact h.next
  · extract_lets s1
    have hs1 : s1.Bounded := h.pulses ..
    exact (((hs1.updHf ..).record ..).ite ((hs1.record ..).showHf.ite (hs1.updHf ..))).next

end

end Sys2Proof.Machine
end

section
/-! SUPPORT. What the commands of the board ports, the timers and the modes keep: the bounds of `State.Bounded`. -/

namespace Sys2Proof.Machine

section
variable {s : State} (h : s.Bounded)
include h

/-! ### Flashes (R474, R478) -/

theorem State.Bounded.secureRead : s.secureRead.Bounded := h.congr rfl rfl rfl rfl

/-! ### Commands of the board ports (chapter 14) -/

theorem State.Bounded.spcOp (code : Nat) : (s.spcOp code).2.Bounded := h.checks ((h.spc _).record ..)

theorem execSpcRead_bounded (l : Link) : EndsBounded (execSpcRead l s) := (h.request (h.spcOp ..)).next

theorem execSpcProgram_bounded (l : Link) : EndsBounded (execSpcProgram l s) := (h.request (h.spcOp ..)).next

theorem execSpcErase4k_bounded (l : Link) : EndsBounded (execSpcErase4k l s) := (h.request (h.spcOp ..)).next

theorem execSpcErase64k_bounded (l : Link) : EndsBounded (execSpcErase64k l s) := (h.request (h.spcOp ..)).next

theorem execSpcReadSfdp_bounded (l : Link) : EndsBounded (execSpcReadSfdp l s) := (h.request (h.spcOp ..)).next

theorem State.Bounded.flashError (n : Nat) : (s.flashError n).Bounded := (h.record ..).latch ..

theorem State.Bounded.spcTick : s.spcTick.Bounded := (h.record ..).ite h

theorem State.Bounded.spcEffect (o : SpcOp) (status : Nat) (sfdp : Bytes) : (s.spcEffect o status sfdp).2.Bounded := by
  unfold State.spcEffect
  extract_lets
  split
  · exact h.flashOther ..
  · exact (h.writeFlash ..).ite (h.scramble ..)
  · exact (h.eraseFlash ..).ite (h.scramble ..)
  · exact (h.eraseFlash ..).ite (h.scramble ..)
  · exact h.flashOther ..

theorem execSpcOpEnd_bounded (status : Fin 4) (sfdp : Bytes) : EndsBounded (execSpcOpEnd status sfdp s) := by
  unfold execSpcOpEnd
  split
  · exact h.next
  · extract_lets _ _ _ _ t1
    have ht1 : t1.Bounded := (((h.spcEffect ..).spc _).putDom ..).record ..
    exact (ht1.ite (ht1.flashError ..)).next

theorem State.Bounded.twbEnd (status state nack : Nat) (rdata : Bytes) : (s.twbEnd status state nack rdata).Bounded :=
  ((h.updTwb rfl).putDom ..).record ..

theorem State.Bounded.twbStuck (was : Nat) : (s.twbStuck was).Bounded := by
  unfold State.twbStuck
  extract_lets _ s1
  have hs1 : s1.Bounded := h.record ..
  exact hs1.ite (hs1.latch ..)

theorem State.Bounded.twbStart (bus : TwbBus) : (s.twbStart bus).Bounded := by
  cases bus with
  | free => exact h.updTwb rfl
  | recovers => exact (h.updTwb rfl).record ..
  | stuck => exact ((h.record ..).twbEnd ..).twbStuck _

theorem State.Bounded.twbGo (value : Nat) (bus : TwbBus) : (s.twbGo value bus).2.Bounded :=
  h.checks (((h.updTwb rfl).record ..).twbStart ..)

theorem execTwbGo_bounded (l : Link) (bus : TwbBus) : EndsBounded (execTwbGo l bus s) := (h.request (h.twbGo ..)).next

theorem State.Bounded.twbRecover (value : Nat) (ok : Bool) : (s.twbRecover value ok).2.Bounded := by
  unfold State.twbRecover
  refine h.checks ?_
  extract_lets t1
  have ht1 : t1.Bounded := (h.updTwb rfl).record ..
  exact (ht1.record ..).ite (ht1.twbStuck ..)

theorem execTwbRecover_bounded (l : Link) (ok : Bool) : EndsBounded (execTwbRecover l ok s) :=
  (h.request (h.twbRecover ..)).next

theorem execTwbTransferEnd_bounded (how : TwbEnd) (nackByte : BitVec 8) (rdata : Bytes) : EndsBounded
    (execTwbTransferEnd how nackByte rdata s) := by
  unfold execTwbTransferEnd
  split
  · exact h.next
  · split
    · exact (h.twbEnd ..).next
    · exact (h.twbEnd ..).next
    · exact (h.twbEnd ..).next

theorem execTwbSclTimeout_bounded : EndsBounded (execTwbSclTimeout s) := h.next.ite ((h.twbEnd ..).updTwb rfl).next

theorem execTwbSclStuck_bounded : EndsBounded (execTwbSclStuck s) := h.next.ite (((h.updTwb rfl).record ..).twbStuck ..).next

theorem execTwbConflict_bounded : EndsBounded (execTwbConflict s) := by
  unfold execTwbConflict
  split
  · exact h.next
  · extract_lets s1
    have hs1 : s1.Bounded := h.updTwb rfl
    exact (hs1.ite ((hs1.record ..).latch ..)).next

theorem execTwbBusReleased_bounded : EndsBounded (execTwbBusReleased s) := by
  unfold execTwbBusReleased
  extract_lets s1
  have hs1 : s1.Bounded := h.updTwb rfl
  exact hs1.next.ite ((hs1.twbEnd ..).next.ite (hs1.updTwb rfl).next)

theorem execTwbRetry_bounded (bus : TwbBus) : EndsBounded (execTwbRetry bus s) := h.next.ite ((h.updTwb rfl).twbStart ..).next

theorem State.Bounded.gpioDrive (mask : Nat) (high : Bool) : (s.gpioDrive mask high).2.Bounded := h.checks (h.updTwb rfl)

theorem execGpioSet_bounded (l : Link) (mask : BitVec 32) : EndsBounded (execGpioSet l mask s) :=
  (h.request (h.gpioDrive ..)).next

theorem execGpioClear_bounded (l : Link) (mask : BitVec 32) : EndsBounded (execGpioClear l mask s) :=
  (h.request (h.gpioDrive ..)).next

/-! ### Commands of the timers and checks (chapter 15) -/

theorem State.Bounded.tmrFlags (n flags : Nat) : (s.tmrFlags n flags).Bounded := by
  unfold State.tmrFlags
  split
  · exact h
  · extract_lets _ s1
    have hs1 : s1.Bounded := h.puts ..
    exact (hs1.latch ..).ite hs1

theorem State.Bounded.tmrTick (n : Nat) : (s.tmrTick n).Bounded := by
  unfold State.tmrTick
  extract_lets _ _ _ s1 _ s3
  have hs1 : s1.Bounded := h.put ..
  have hs3 : s3.Bounded := ((hs1.bump ..).ite hs1).tmrFlags ..
  exact (hs3.wakeSource ..).ite hs3

theorem execTimerWrap_bounded (n : Fin 16) : EndsBounded (execTimerWrap n s) := ((h.tmrTick ..).ite h).next

theorem execTimerMatch_bounded (n : Fin 16) : EndsBounded (execTimerMatch n s) := ((h.tmrTick ..).ite h).next

theorem State.Bounded.tmrFlagClear (n mask : Nat) : (s.tmrFlagClear n mask).2.Bounded := h.checks (h.puts ..)

theorem execTmrFlagClear_bounded (l : Link) (n : Fin 16) (mask : BitVec 8) : EndsBounded (execTmrFlagClear l n mask s) :=
  (h.request (h.tmrFlagClear ..)).next

theorem State.Bounded.tmrRestart (n v : Nat) : (s.tmrRestart n v).2.Bounded := h.checks (h.puts ..)

theorem execTmrRestart_bounded (l : Link) (n : Fin 16) (v : BitVec 8) : EndsBounded (execTmrRestart l n v s) :=
  (h.request (h.tmrRestart ..)).next

theorem State.Bounded.loadGroup (base n : Nat) : (s.loadGroup base n).Bounded := h.foldl _ fun _ _ hu => hu.put ..

theorem State.Bounded.groupLoad (v : Nat) : (s.groupLoad v).2.Bounded := h.checks (h.loadGroup ..)

theorem execTmrGroupLoad_bounded (l : Link) (v : BitVec 8) : EndsBounded (execTmrGroupLoad l v s) :=
  (h.request (h.groupLoad ..)).next

theorem State.Bounded.claimTimers (base : Option Nat) : (s.claimTimers base).Bounded := by
  unfold State.claimTimers
  split
  · exact h
  · extract_lets own s1 _ s2
    have owned : s1.Bounded := h.foldl _ fun _ _ hu => hu.put ..
    have claimed : s2.Bounded := (owned.val _).put ..
    clear_value s2
    cases base with
    | none => exact claimed
    | some b => exact claimed.loadGroup b 4

theorem State.Bounded.setRate (freq slew : Int) : (s.setRate freq slew).Bounded := (h.tim _).put ..

theorem State.Bounded.stepTime (e : Nat) : (s.stepTime e).Bounded := by
  unfold State.stepTime
  extract_lets _ s1
  have hs1 : s1.Bounded := h.tim _
  split
  · exact hs1
  · exact hs1.ite ((h.tim _).cutIvals.trk _)

theorem State.Bounded.firstEvent (t : Nat) (ext : Int) : (s.firstEvent t ext).Bounded := ((h.tim _).setRate ..).record ..

theorem State.Bounded.nextEvent (t : Nat) (e : Int) : (s.nextEvent t e).Bounded := by
  unfold State.nextEvent
  extract_lets _ _ _ _ s1
  have hs1 : s1.Bounded := (h.setRate ..).record ..
  exact (hs1.stepTime ..).ite hs1

theorem State.Bounded.rejectTime : s.rejectTime.Bounded := h.record ..

theorem State.Bounded.ppsEdge (t : Nat) : (s.ppsEdge t).Bounded :=
  h.ite ((h.firstEvent ..).ite (h.rejectTime.ite (h.nextEvent ..)))

theorem State.Bounded.timeFrame (t ms days : Nat) : (s.timeFrame t ms days).Bounded :=
  h.ite (h.rejectTime.ite ((h.nextEvent ..).ite (h.firstEvent ..)))

theorem State.Bounded.startDiscipline : s.startDiscipline.Bounded := (h.tim _).record ..

theorem execDiscPhaseEnd_bounded : EndsBounded (execDiscPhaseEnd s) := (h.setRate ..).next

theorem execDiscHoldover_bounded : EndsBounded (execDiscHoldover s) := ((((h.setRate ..).record ..).latch ..).ite h).next

theorem State.Bounded.gateEdge (g : Nat) (rising : Bool) : (s.gateEdge g rising).Bounded := by
  unfold State.gateEdge
  extract_lets _ _ s1 _ s2 s3
  have hs1 : s1.Bounded := h.record ..
  have hs2 : s2.Bounded := (hs1.latch ..).ite hs1
  have hs3 : s3.Bounded := (hs2.wakeSource ..).ite hs2
  exact (hs3.ppsEdge ..).ite hs3

theorem execGateEdge_bounded (g : Fin 8) (rising : Bool) : EndsBounded (execGateEdge g rising s) :=
  (h.ite (h.gateEdge ..)).next

theorem State.Bounded.scanEnd (status value : Nat) : (s.scanEnd status value).Bounded := h.record ..

theorem State.Bounded.scanCut (status : Nat) : (s.scanCut status).Bounded := (h.draw.scanEnd ..).ite h

theorem State.Bounded.scanGo (v : Nat) : (s.scanGo v).2.Bounded := by
  unfold State.scanGo
  split
  · exact h.scanCut ..
  · exact h.checks ((h.chk _).record ..)

theorem execScanStart_bounded (l : Link) : EndsBounded (execScanStart l s) := (h.request (h.scanGo ..)).next

theorem execScanAbort_bounded (l : Link) : EndsBounded (execScanAbort l s) := (h.request (h.scanGo ..)).next

theorem execScanDone_bounded (flashFail : Bool) : EndsBounded (execScanDone flashFail s) := by
  unfold execScanDone
  extract_lets s _ _ _ s1
  have hs : s.Bounded := (h.flashOther ..).ite h
  have hs1 : s1.Bounded := hs.scanEnd ..
  exact hs.next.ite (((hs.record ..).scanCut ..).next.ite ((hs1.latch ..).ite hs1).next)

theorem State.Bounded.unitFails (u : Nat) : (s.unitFails u).Bounded := by
  unfold State.unitFails
  extract_lets _ s1
  have hs1 : s1.Bounded := h.record ..
  exact (hs1.criticalFault ..).ite (((hs1.latch ..).scanCut ..).ite (((((h.record ..).latch ..).chk _).record ..).scanCut ..))

theorem execCheckSelftest_bounded (u : Fin 4) (pass : Bool) : EndsBounded (execCheckSelftest u pass s) := by
  unfold execCheckSelftest
  split
  · exact h.next
  · extract_lets _ _ s1
    have hs1 : s1.Bounded := h.chk _
    exact ((hs1.unitFails ..).ite hs1).next

/-! ### Commands of the modes (chapter 2) -/

theorem State.Bounded.bringUp : s.bringUp.Bounded := by
  unfold State.bringUp
  extract_lets s1
  have hs1 : s1.Bounded := h.foldl _ fun _ _ hu => (hu.startCal ..).ite ((hu.retune ..).ite hu)
  exact (hs1.startSlide.ite hs1).calsEnded

theorem State.Bounded.endRounds : s.endRounds.Bounded :=
  (h.foldl _ fun _ _ hu => hu.dueRound ..).foldl _ fun _ _ hu => hu.gangDown ..

theorem State.Bounded.startTrans (m : Mode) (l : Option Link) (reason : Nat) : (s.startTrans m l reason).Bounded := by
  unfold State.startTrans
  extract_lets _ s1
  have hs1 : s1.Bounded := h.sys _
  split
  · exact hs1.endRounds
  · exact hs1.bringUp.ite hs1
  · exact hs1.stopBreath.linksTrain
  · exact hs1.bringUp.ite hs1
  · exact hs1

theorem State.Bounded.modeAsked (l : Link) (v : Nat) : (s.modeAsked l v).2.Bounded := by
  unfold State.modeAsked
  split
  · exact h
  · split
    · exact h
    · refine h.checks ?_
      extract_lets t1
      have ht1 : t1.Bounded := h.put ..
      exact (ht1.wake ..).ite (ht1.startTrans ..)

theorem State.Bounded.modeRequest (l : Link) (v : Nat) : (s.modeRequest l v).2.Bounded := by
  unfold State.modeRequest
  extract_lets r
  have hr : r.2.Bounded := h.modeAsked ..
  split
  · exact hr
  · exact hr.put ..

theorem execReqHold_bounded (l : Link) : EndsBounded (execReqHold l s) := (h.request (h.modeRequest ..)).next

theorem execReqReady_bounded (l : Link) : EndsBounded (execReqReady l s) := (h.request (h.modeRequest ..)).next

theorem execReqRun_bounded (l : Link) : EndsBounded (execReqRun l s) := (h.request (h.modeRequest ..)).next

theorem execReqWatch_bounded (l : Link) : EndsBounded (execReqWatch l s) := (h.request (h.modeRequest ..)).next

theorem execReqTest_bounded (l : Link) : EndsBounded (execReqTest l s) := (h.request (h.modeRequest ..)).next

theorem State.Bounded.leave : s.leave.Bounded := h.leaveRun.ite h

theorem State.Bounded.coldZone (warm : Bool) (z : Nat) : (s.coldZone warm z).Bounded := by
  unfold State.coldZone
  extract_lets _ _ t
  have ht : t.Bounded := h.congr rfl rfl rfl rfl
  exact ht.recordIf ..

theorem State.Bounded.enterReady : s.enterReady.Bounded :=
  (((h.foldl _ fun _ _ hu => hu.coldZone ..).ite h).leave.enter ..).showHf

theorem State.Bounded.enterRun : s.enterRun.Bounded :=
  (((h.enter ..).takeOffered.foldl _ fun _ _ hu => hu.updChain ..).autoArm.startTracking.lanesOn ..).replan

theorem State.Bounded.enterWatch : s.enterWatch.Bounded := by
  unfold State.enterWatch
  extract_lets s1
  have hs1 : s1.Bounded := ((h.hfStop ..).cutSweep.quadsOff.linksOff.enter ..).startBreath
  exact (hs1.wake ..).ite hs1

theorem State.Bounded.enterHold (reason : Nat) : (s.enterHold reason).Bounded :=
  ((h.leave.hfStop ..).cutSweep.quadsOff.enter ..).showHf

theorem State.Bounded.through (t : Trans) : (s.through t).Bounded := by
  unfold State.through
  extract_lets _ _ s2
  have hs2 : s2.Bounded := h.enterReady.sys _
  exact hs2.bringUp.ite hs2

theorem State.Bounded.arrived (t : Trans) : (s.arrived t).Bounded := (h.put ..).ite h

theorem execModeTransitionDone_bounded : EndsBounded (execModeTransitionDone s) := by
  unfold execModeTransitionDone
  split
  · exact h.next
  · split
    · exact h.next
    · split
      · exact ((h.enterHold ..).arrived ..).next
      · exact ((h.enter ..).arrived ..).next
      · exact ((h.through ..).ite (h.enterWatch.arrived ..)).next
      · exact (h.ite (h.enterReady.arrived ..)).next
      · exact (h.ite ((h.through ..).ite (h.enterRun.arrived ..))).next
      · exact h.next

theorem State.Bounded.resetRequest (l : Link) (v : Nat) : (s.resetRequest l v).2.Bounded := h.checks (h.sys _)

theorem execResetRequest_bounded (l : Link) : EndsBounded (execResetRequest l s) := (h.request (h.resetRequest ..)).next

theorem State.Bounded.startTest : s.startTest.Bounded := (((h.testC _).record ..).foldl _ fun _ _ hu => hu.retune ..).testUp

theorem State.Bounded.stopTest : s.stopTest.Bounded := by
  unfold State.stopTest
  split
  · exact h
  · exact (h.rampAll.testC _).record ..

theorem State.Bounded.testCarrier (v : Nat) : (s.testCarrier v).2.Bounded := by
  unfold State.testCarrier
  extract_lets
  split
  · exact h
  · split
    · exact h
    · split
      · exact h.stopTest
      · split
        · exact h
        · split
          · exact h
          · split
            · exact h
            · split
              · exact h.refuse
              · exact h.startTest

theorem execTestCarrierStart_bounded (l : Link) : EndsBounded (execTestCarrierStart l s) :=
  (h.request (h.testCarrier ..)).next

theorem execTestCarrierStop_bounded (l : Link) : EndsBounded (execTestCarrierStop l s) := (h.request (h.testCarrier ..)).next

theorem execTestCarrierTimeout_bounded : EndsBounded (execTestCarrierTimeout s) := (h.stopTest.ite h).next

theorem State.Bounded.testField (v : Nat) : (s.testField v).2.Bounded := by
  unfold State.testField
  split
  · exact h
  · split
    · exact h
    · split
      · exact h.endTestField ..
      · split
        · exact h
        · split
          · exact h
          · split
            · exact h
            · extract_lets s1
              have hs1 : s1.Bounded := h.updHf ..
              exact (hs1.startSlide.ite (hs1.raiseField ..)).put ..

theorem execTestHfFieldRaise_bounded (l : Link) : EndsBounded (execTestHfFieldRaise l s) := (h.request (h.testField ..)).next

theorem execTestHfFieldDrop_bounded (l : Link) : EndsBounded (execTestHfFieldDrop l s) := (h.request (h.testField ..)).next

theorem execTestHfTimeout_bounded : EndsBounded (execTestHfTimeout s) := (h.endTestField ..).next

theorem State.Bounded.capture (v : Nat) : (s.capture v).2.Bounded := h.checks ((h.updHub ..).record ..)

theorem execCaptureGo_bounded (l : Link) : EndsBounded (execCaptureGo l s) := (h.request (h.capture ..)).next

theorem execCaptureDone_bounded (data : Bytes) : EndsBounded (execCaptureDone data s) :=
  ((((h.updChain ..).putDom ..).record ..).ite h).next

end

end Sys2Proof.Machine
end

section
/-! SUPPORT. What the commands of security, health and the configuration keep: the bounds of `State.Bounded`. -/

namespace Sys2Proof.Machine

section
variable {s : State} (h : s.Bounded)
include h

/-! ### Commands of firmware and security (chapter 16) -/

theorem State.Bounded.updIo (f : Io → Io) : (s.updIo f).Bounded := h.io _

theorem State.Bounded.mbxEnd (r : Result) : (s.mbxEnd r).Bounded := h.updIo ..

theorem State.Bounded.mbxDone (c : Nat) (r : Result) : (s.mbxDone c r).Bounded := (h.mbxEnd ..).ite h

theorem State.Bounded.authFailed : s.authFailed.Bounded := ((h.record ..).sec _).latch ..

theorem State.Bounded.writeHdr (b : BootHdr) : (s.writeHdr b).Bounded := by
  unfold State.writeHdr
  exact h.updFlash 0 fun _ wf => Memory.wf_writeAll _ _ (Memory.wf_erase _ _ wf)

theorem State.Bounded.setSlot (b : Bool) (v : Option (Nat × Nat)) : (s.setSlot b v).Bounded := by
  unfold State.setSlot
  extract_lets _ t
  have ht : t.Bounded := h.sec _
  exact ht.ite (ht.record ..)

theorem State.Bounded.spoilSlot (b : Bool) : (s.spoilSlot b).Bounded := (h.setSlot ..).sec _

theorem State.Bounded.fwErase (b : Bool) : (s.fwErase b).Bounded := ((h.spoilSlot ..).sec _).record ..

theorem State.Bounded.fwUpdate (v : Nat) : (s.fwUpdate v).2.Bounded := by
  unfold State.fwUpdate
  split
  · exact h.checks (h.fwErase _)
  · exact h.checks (h.record ..)
  · dsimp only
    split
    · exact h
    · exact ((h.spoilSlot _).sec _).record ..
  · exact h

theorem execFwUpdateBegin_bounded (l : Link) : EndsBounded (execFwUpdateBegin l s) := (h.request (h.fwUpdate ..)).next

theorem execFwUpdateFinish_bounded (l : Link) : EndsBounded (execFwUpdateFinish l s) := (h.request (h.fwUpdate ..)).next

theorem execFwUpdateAbandon_bounded (l : Link) : EndsBounded (execFwUpdateAbandon l s) := (h.request (h.fwUpdate ..)).next

theorem execFwEraseDone_bounded : EndsBounded (execFwEraseDone s) := by
  unfold execFwEraseDone
  split
  · exact h.next
  · exact h.next.ite (((h.eraseFlash ..).record ..).mbxDone ..).next

theorem State.Bounded.fwAppend (d : Bytes) : (s.fwAppend d).2.Bounded := h.checks ((h.writeFlash ..).record ..)

theorem execFwImageAppend_bounded (l : Link) (d : Bytes) : EndsBounded (execFwImageAppend l d s) :=
  (h.request (h.fwAppend ..)).next

theorem State.Bounded.fwFails (r : Result) : (s.fwFails r).Bounded := (h.record ..).mbxDone ..

theorem execFwVerifyDone_bounded (digests sig : Bool) : EndsBounded (execFwVerifyDone digests sig s) := by
  unfold execFwVerifyDone
  split
  · exact h.next
  · extract_lets
    split
    · exact (h.secureRead.fwFails ..).next
    · exact ((h.secureRead.fwFails ..).latch ..).next
    · exact ((((((h.secureRead.writeHdr ..).setSlot ..).sec _).record ..).latch ..).mbxDone ..).next

theorem State.Bounded.fwConfirm (v : Nat) : (s.fwConfirm v).2.Bounded := h.checks (h.ite ((h.writeHdr ..).raise ..))

theorem execFwConfirm_bounded (l : Link) (v : BitVec 8) : EndsBounded (execFwConfirm l v s) :=
  (h.request (h.fwConfirm ..)).next

theorem execDemandPageLoad_bounded (first second : Bool) : EndsBounded (execDemandPageLoad first second s) :=
  (h.ite ((h.flashOther ..).ite ((h.flashOther ..).criticalFault ..))).next

theorem State.Bounded.freshNonce : s.freshNonce.Bounded := ((h.sec _).putDom ..).seq ..

theorem State.Bounded.nonceRequest (v : Nat) : (s.nonceRequest v).2.Bounded := h.checks h.freshNonce

theorem execNonceRequest_bounded (l : Link) (v : BitVec 8) : EndsBounded (execNonceRequest l v s) :=
  (h.request (f := fun t => t.nonceRequest v.toNat) (h.nonceRequest _)).next

theorem execNonceExpire_bounded : EndsBounded (execNonceExpire s) := (h.sec _).next

theorem State.Bounded.submit (l : Link) : (s.submit l).Bounded := (h.sec _).record ..

theorem State.Bounded.tokenSubmit (l : Link) (v : Nat) : (s.tokenSubmit l v).2.Bounded := h.checks (h.submit ..)

theorem execTokenSubmit_bounded (l : Link) (v : BitVec 8) : EndsBounded (execTokenSubmit l v s) :=
  (h.request (h.tokenSubmit ..)).next

theorem State.Bounded.tokenEnds (r : Result) (more : List (Nat × Nat)) : (s.tokenEnds r more).Bounded :=
  ((h.sec _).record ..).mbxDone ..

theorem State.Bounded.passes {kind : Nat} {f : Link → Bytes → State} (passed : ∀ l b, (f l b).Bounded) :
    (s.passes kind f).Bounded := by
  unfold State.passes
  split
  · exact h
  · exact (passed ..).ite h

theorem execTokenTest_bounded : EndsBounded (execTokenTest s) := (h.passes fun _ _ => h.tokenEnds ..).next

theorem State.Bounded.recover : s.recover.Bounded := by
  unfold State.recover
  split
  · exact h.put ..
  · split
    · exact (h.sys _).ite (h.abandon.startTrans ..)
    · exact h.startTrans ..

theorem execTokenRecovery_bounded : EndsBounded (execTokenRecovery s) := (h.passes fun _ _ => (h.tokenEnds ..).recover).next

theorem execTokenDebug_bounded : EndsBounded (execTokenDebug s) := (h.passes fun _ _ => (h.tokenEnds ..).record ..).next

theorem execOwnerRelease_bounded : EndsBounded (execOwnerRelease s) :=
  (h.passes fun _ _ => (((h.tokenEnds ..).putDom ..).putDom ..).record ..).next

theorem State.Bounded.takeOwner : s.takeOwner.Bounded := (h.putDom ..).putDom ..

theorem execOwnerEnrol_bounded : EndsBounded (execOwnerEnrol s) :=
  (h.passes fun _ _ => (h.tokenEnds ..).takeOwner.record ..).next

theorem execOwnerRotate_bounded : EndsBounded (execOwnerRotate s) :=
  (h.passes fun _ _ => (h.tokenEnds ..).takeOwner.seq ..).next

theorem execTokenRejected_bounded (badSig : Bool) : EndsBounded (execTokenRejected badSig s) := by
  unfold execTokenRejected
  split
  · exact h.next
  · exact (h.ite ((h.tokenEnds ..).authFailed.ite (h.tokenEnds ..))).next

theorem State.Bounded.sessionEnds (l : Option Link) : (s.sessionEnds l).Bounded := by
  unfold State.sessionEnds
  extract_lets _ s1
  have hs1 : s1.Bounded := h.record ..
  split
  · split
    · exact (h.record ..).sys _
    · exact hs1.resetPart ..
  · exact (((h.record ..).sec _).record ..).ite hs1

theorem State.Bounded.sessionClose (l : Link) (v : Nat) : (s.sessionClose l v).2.Bounded :=
  h.checks (h.ite (h.sessionEnds ..))

theorem execSessionClose_bounded (l : Link) (v : BitVec 8) : EndsBounded (execSessionClose l v s) :=
  (h.request (h.sessionClose ..)).next

theorem execSessionExpire_bounded : EndsBounded (execSessionExpire s) := (h.ite (h.sessionEnds ..)).next

theorem State.Bounded.mbxServe {c : Nat} {f : State → Result × State} (served : (f s).2.Bounded) : (s.mbxServe c f).Bounded :=
  h.ite (served.mbxEnd ..)

theorem execMbxNonce_bounded : EndsBounded (execMbxNonce s) := by
  refine (h.mbxServe ?_).next
  extract_lets r
  have answered : r.2.Bounded := h.nonceRequest 1
  split
  · exact answered.updIo _
  · exact answered

theorem execMbxReadCert_bounded : EndsBounded (execMbxReadCert s) := (h.mbxServe (h.checks (h.updIo ..))).next

theorem execMbxTokenWrite_bounded : EndsBounded (execMbxTokenWrite s) := (h.mbxServe (h.checks (h.putDom ..))).next

theorem execMbxTokenSubmit_bounded : EndsBounded (execMbxTokenSubmit s) := (h.ite ((h.mbxEnd ..).ite (h.submit ..))).next

theorem execMbxFwBegin_bounded : EndsBounded (execMbxFwBegin s) :=
  (h.ite ((h.mbxEnd ..).ite ((h.mbxEnd ..).ite ((h.mbxEnd ..).ite ((h.mbxEnd ..).ite (h.fwErase ..)))))).next

theorem execMbxFwWrite_bounded : EndsBounded (execMbxFwWrite s) := by
  refine (h.mbxServe ?_).next
  split
  · exact h
  · split
    · exact h
    · exact h.fwAppend _

theorem execMbxFwFinish_bounded : EndsBounded (execMbxFwFinish s) :=
  (h.ite ((h.mbxEnd ..).ite ((h.fwUpdate ..).ite (h.mbxEnd ..)))).next

theorem execMbxReset_bounded : EndsBounded (execMbxReset s) := ((h.resetPart ..).ite h).next

theorem State.Bounded.quoteGo (v : Nat) : (s.quoteGo v).2.Bounded := h.checks ((h.sec _).record ..)

theorem execQuoteGo_bounded (l : Link) (v : BitVec 8) : EndsBounded (execQuoteGo l v s) := (h.request (h.quoteGo ..)).next

theorem execQuoteDone_bounded : EndsBounded (execQuoteDone s) := by
  unfold execQuoteDone
  split
  · exact h.next
  · exact (((h.sec _).putDom ..).record ..).next

theorem State.Bounded.debugDisable (v : Nat) : (s.debugDisable v).2.Bounded := h.checks ((h.sec _).record ..)

theorem execDebugDisable_bounded (l : Link) (v : BitVec 8) : EndsBounded (execDebugDisable l v s) :=
  (h.request (h.debugDisable ..)).next

theorem execDebugAttach_bounded (core : Fin 4) : EndsBounded (execDebugAttach core s) :=
  h.next.ite (((h.sec _).record ..).latch ..).next

theorem execTapInstruction_bounded (i : TapInstr) : EndsBounded (execTapInstruction i s) := (h.sec _).next

/-! ### Commands of health and events (chapter 17) -/

theorem State.Bounded.showTemps (t : Temps) : (s.showTemps t).Bounded := by
  unfold State.showTemps
  extract_lets _ _ _ _ s2 s3
  have hs2 : s2.Bounded := (h.record ..).foldl _ fun _ _ hu => hu.recordIf ..
  have hs3 : s3.Bounded := (hs2.recordIf ..).ite hs2
  exact (hs3.recordIf ..).ite hs3

theorem State.Bounded.judgeTemp (n : Nat × Nat × Int) : (s.judgeTemp n).Bounded := by
  unfold State.judgeTemp
  extract_lets _ _ _ s1
  have hs1 : s1.Bounded := ((h.hlt _).latch ..).ite ((h.hlt _).ite h)
  exact (hs1.criticalFault ..).ite hs1

theorem State.Bounded.calByTemp (q : Nat) : (s.calByTemp q).Bounded := by
  unfold State.calByTemp
  extract_lets _ s1
  have hs1 : s1.Bounded := (h.updQuad ..).latch ..
  exact h.ite ((hs1.calNow ..).ite hs1)

theorem State.Bounded.toneDue (l : Nat) : (s.toneDue l).Bounded := by
  unfold State.toneDue
  split
  · exact (h.dueRound ..).ite h
  · exact h

theorem State.Bounded.derateRearm : s.derateRearm.Bounded := (h.val _).ite h

theorem execTempSample_bounded (t : Temps) : EndsBounded (execTempSample t s) := by
  unfold execTempSample
  split
  · exact h.next
  · extract_lets s0 s1 s2
    have hs0 : s0.Bounded := h.showTemps ..
    have hs1 : s1.Bounded := ((hs0.hfFault ..).ite hs0).judgeTemp ..
    have hs2 : s2.Bounded := (hs1.foldl _ fun _ _ hu => hu.calByTemp ..).derateRearm
    exact (hs2.foldl _ fun _ _ hu => hu.toneDue ..).next

theorem State.Bounded.showVolts (v : Volts) : (s.showVolts v).Bounded := h.record ..

theorem State.Bounded.judgeRipple (v : Nat) : (s.judgeRipple v).Bounded := by
  unfold State.judgeRipple
  extract_lets _ _ _ _ _ _ s1
  have hs1 : s1.Bounded := h.hlt _
  exact (hs1.latch ..).ite hs1

theorem execVoltageSample_bounded (v : Volts) : EndsBounded (execVoltageSample v s) :=
  h.next.ite (((h.showVolts ..).judgeRipple ..).hlt _).next

theorem execRailComparatorTrip_bounded (r : Rail) : EndsBounded (execRailComparatorTrip r s) := by
  unfold execRailComparatorTrip
  split
  · exact h.next
  · split
    · exact (((h.hlt _).latch ..).ite h).next
    · exact (h.railCritical ..).next
    · exact (h.railCritical ..).next
    · exact (h.railCritical ..).next
    · exact ((h.railCritical ..).ite h).next
    · exact (h.railLost ..).next

theorem execProcessMeasure_bounded (p : Procs) : EndsBounded (execProcessMeasure p s) :=
  h.next.ite ((h.record ..).foldl _ fun _ _ hu => ((hu.hlt _).latch ..).ite hu).next

theorem execCxPllUnlock_bounded : EndsBounded (execCxPllUnlock s) :=
  h.next.ite (((h.sys _).foldl _ fun _ _ hu => hu.linkLost ..).criticalFault ..).next

theorem execCxPllRelock_bounded : EndsBounded (execCxPllRelock s) := (h.sys _).next

theorem State.Bounded.faultClear (v : Nat) : (s.faultClear v).2.Bounded := h.checks (h.record ..)

theorem execFaultClear_bounded (l : Link) (v : BitVec 8) : EndsBounded (execFaultClear l v s) :=
  (h.request (h.faultClear ..)).next

theorem State.Bounded.barkEmcy : s.barkEmcy.Bounded := (h.queueEmcy ..).ite h

theorem execWatchdogBark_bounded (core : Fin 5) : EndsBounded (execWatchdogBark core s) := by
  unfold execWatchdogBark
  split
  · exact h.next
  · extract_lets _ _ s2
    have hs2 : s2.Bounded := ((h.record ..).hlt _).latch ..
    exact (hs2.ite hs2.barkEmcy).next

theorem execWatchdogBite_bounded (core : Fin 5) : EndsBounded (execWatchdogBite core s) := ((h.resetPart ..).ite h).next

theorem State.Bounded.bufferLost (r : Nat) : (s.bufferLost r).Bounded := by
  unfold State.bufferLost
  split
  · exact h.rep _
  · exact h.foldl _ fun _ _ hu => (hu.updStream ..).lostMemory ..
  · exact h.foldl _ fun _ _ hu => (hu.updStream ..).lostMemory ..
  · exact h

theorem execWorkMemError_bounded (e : WorkErr) : EndsBounded (execWorkMemError e s) := by
  unfold execWorkMemError
  split
  · exact h.next
  · split
    · exact ((h.record ..).latch ..).next
    · exact (h.latch ..).next
    · exact (h.latch ..).next
    · exact ((h.latch ..).bufferLost ..).next
    · exact ((h.latch ..).resetPart ..).next

theorem execEvtAck_bounded (l : Link) (mask : BitVec 64) : EndsBounded (execEvtAck l mask s) :=
  (h.request (h.ackEvents ..)).next

theorem State.Bounded.logOne (e : LogEntry) : (s.logOne e).Bounded := (((h.eraseFlash ..).ite h).writeFlash ..).record ..

theorem execEventLogWrite_bounded : EndsBounded (execEventLogWrite s) := by
  obtain ⟨flash, -, emcy, results⟩ := id h
  have emptied : State.Bounded { s with ev := { s.ev with log := [] } } := ⟨flash, Nat.zero_le _, emcy, results⟩
  exact (h.ite (emptied.foldl _ fun _ _ hu => hu.logOne ..)).next

/-! ### Commands of the configuration (chapter 3) -/

theorem State.Bounded.overlay (es : DomStore) : (s.overlay es).Bounded := h.foldl _ fun _ _ hu => hu.setBytes ..

theorem State.Bounded.startStoring : s.startStoring.Bounded := (h.cfg _).put ..

theorem execConfigPersistDone_bounded (ok : Bool) : EndsBounded (execConfigPersistDone ok s) := by
  unfold execConfigPersistDone
  split
  · exact h.next
  · exact h.next.ite ((((((h.cfg _).eraseFlash ..).writeFlash ..).cfg _).put ..).next.ite
      (((((h.cfg _).eraseFlash ..).scramble ..).put ..).flashError ..).next)

theorem State.Bounded.stage (l : Link) (k : Nat) (f : Found) (d : Bytes) : (s.stage l k f d).2.Bounded :=
  h.checks (h.stagePut ..).disarm

theorem State.Bounded.stageWrite (l : Link) (k : Nat) (d : Bytes) : (s.stageWrite l k d).2.Bounded := by
  unfold State.stageWrite
  split
  · exact h
  · split
    · exact h.stage ..
    · exact h

theorem execStageWrite_bounded (l : Link) (index sub : Nat) (d : Bytes) : EndsBounded (execStageWrite l index sub d s) :=
  (h.request (h.stageWrite ..)).next

theorem State.Bounded.unstage : s.unstage.Bounded := h.restage ..

theorem State.Bounded.dropImage : s.dropImage.Bounded := h.cfg _

theorem State.Bounded.discardAll (v : Nat) : (s.discardAll v).2.Bounded := h.checks h.unstage.dropImage.disarm

theorem execDiscard_bounded (l : Link) : EndsBounded (execDiscard l s) := (h.request (h.discardAll ..)).next

theorem State.Bounded.imageAppend (d : Bytes) : (s.imageAppend d).2.Bounded := h.checks (h.cfg _).disarm

theorem execConfigImageAppend_bounded (l : Link) (d : Bytes) : EndsBounded (execConfigImageAppend l d s) :=
  (h.request (h.imageAppend ..)).next

theorem State.Bounded.commit (v : Nat) : (s.commit v).2.Bounded := h.checks ((h.cfg _).put ..).disarm

theorem execCommitStaged_bounded (l : Link) : EndsBounded (execCommitStaged l s) := (h.request (h.commit ..)).next

theorem execCommitImage_bounded (l : Link) : EndsBounded (execCommitImage l s) := (h.request (h.commit ..)).next

theorem State.Bounded.commitOver (r : Result) : (s.commitOver r).Bounded := ((h.cfg _).put ..).put ..

theorem State.Bounded.rejected (src : CommitSrc) (r : Reject) : (s.rejected src r).Bounded := by
  unfold State.rejected
  extract_lets n s1 s2 s3 _ s4
  have told : s2.Bounded := ((h.authFailed.ite h).record ..).latch ..
  have ended : s3.Bounded := by
    unfold s3
    split
    · exact told.dropImage.commitOver _
    · exact told.commitOver _
  exact (((ended.sys _).hfStop 7).carriersOff false).forceHold 5

theorem execValidationDone_bounded : EndsBounded (execValidationDone s) := by
  unfold execValidationDone
  split
  · exact h.next
  · next src _ =>
    split
    · exact h.next
    · extract_lets v s1 s2 _ s3
      clear_value v
      have judged : s1.Bounded := by
        unfold s1
        split
        · exact h
        · exact h.ite (h.checked ..)
        · exact h.checked ..
      split
      · exact (judged.rejected ..).next
      · split
        · have told : s3.Bounded := ((judged.commitOver _).sys _).latch ..
          exact (told.startStoring.ite told).next
        · extract_lets s4
          have changed : s4.Bounded := (judged.cfg _).put ..
          exact ((changed.foldl _ fun _ _ hu => hu.dueRound ..).ite changed).next

theorem State.Bounded.unqueue (i : Nat) : (s.unqueue i).Bounded :=
  ((((h.foldl _ fun _ _ hu => hu.ite (hu.toArchive ..)).rep _).updStream ..).record ..).fillChanged ..

theorem State.Bounded.restream (d : Delta) (i : Nat) : (s.restream d i).Bounded := by
  unfold State.restream
  extract_lets _ s2
  have hs2 : s2.Bounded := (((h.put ..).ite (h.changeTier ..)).record ..).updStream ..
  exact (hs2.unqueue ..).ite hs2

theorem State.Bounded.applyStreams (d : Delta) : (s.applyStreams d).Bounded := h.foldl _ fun _ _ hu => (hu.restream ..).ite hu

theorem State.Bounded.closeForApply (d : Delta) : (s.closeForApply d).Bounded :=
  h.foldl _ fun _ _ hu => (((hu.placeT2 ..).ite hu).closeAll ..).updStream ..

theorem State.Bounded.emptyRings : s.emptyRings.Bounded := by
  unfold State.emptyRings
  extract_lets _ _ _ s2 s3
  have hs2 : s2.Bounded :=
    ((h.rep _).foldl _ fun _ _ hu => hu.goneBy ..).foldl _ fun _ _ hu => hu.foldl _ fun _ _ hu =>
      ((hu.record ..).latch ..).ite hu
  have hs3 : s3.Bounded := by
    unfold s3
    refine hs2.foldl _ fun u a hu => ?_
    extract_lets _ v
    have hv : v.Bounded := hu.updStream ..
    exact hv.ite (((hv.addWide ..).seq ..).recordsLost ..)
  exact hs3.record ..

theorem State.Bounded.applyAir (d : Delta) : (s.applyAir d).Bounded := by
  unfold State.applyAir
  extract_lets s1
  have hs1 : s1.Bounded := h.foldl _ fun _ _ hu => hu.settle ..
  exact hs1.ite (hs1.foldl _ fun _ _ hu => hu.coldZone ..)

theorem State.Bounded.applySlots (d : Delta) : (s.applySlots d).Bounded :=
  (h.foldl _ fun _ _ hu => (hu.armOp ..).ite hu).autoArm

theorem State.Bounded.applyRange : s.applyRange.Bounded := by
  unfold State.applyRange
  split
  · exact h.recordIf ..
  · exact h.recordIf ..

theorem State.Bounded.applyInterlock (old : Region) (boot : Bool) : (s.applyInterlock old boot).Bounded :=
  h.ite (h.ilkLoad.ite (h.ite (h.ilk _)))

theorem State.Bounded.sweepNew (old : List Nat) (region : Bool) : (s.sweepNew old region).Bounded :=
  h.ite ((h.cutSweep.startSweep ..).sweep _)

theorem State.Bounded.applyChannels (old : State) (d : Delta) : (s.applyChannels old d).Bounded := by
  unfold State.applyChannels
  extract_lets _ _ s1 s2 s3
  have hs1 : s1.Bounded := h.applyInterlock ..
  have hs2 : s2.Bounded := (hs1.record ..).ite hs1
  have hs3 : s3.Bounded := (hs2.rebuildSeeds.ite hs2).applyRange
  exact hs3.ite (hs3.sweepNew ..)

theorem State.Bounded.applyTracking (d : Delta) : (s.applyTracking d).Bounded := by
  unfold State.applyTracking
  extract_lets s1
  have hs1 : s1.Bounded := h.ite h.locateNone
  exact hs1.startTracking.ite hs1

theorem State.Bounded.applyBoard (d : Delta) : (s.applyBoard d).Bounded := by
  unfold State.applyBoard
  extract_lets _ _ _ _ s3 s4
  have hs3 : s3.Bounded := ((h.updTwb rfl).updIo ..).claimTimers ..
  have hs4 : s4.Bounded := hs3.startDiscipline.ite hs3
  exact (hs4.put ..).ite hs4

theorem State.Bounded.applyChains (d : Delta) : (s.applyChains d).Bounded :=
  (h.foldl _ fun _ _ hu => hu.rampDown ..).showPhases ..

theorem State.Bounded.applyPins : s.applyPins.Bounded := h.foldl _ fun _ _ hu => (hu.rampQuad ..).quadOut ..

theorem State.Bounded.endDwells : s.endDwells.Bounded := h.foldl _ fun _ _ hu => hu.closeDwell ..

theorem State.Bounded.applyPlan (old : State) : (s.applyPlan old).Bounded :=
  h.ite (h.endDwells.replan.foldl _ fun _ _ hu => hu.ite ((hu.rampQuad ..).updQuad ..)).showBeams

theorem State.Bounded.seqGroups (ks : List Nat) : (s.seqGroups ks).Bounded := h.foldl _ fun _ _ hu => hu.seq ..

theorem State.Bounded.applyConfig (es : DomStore) (boot : Bool) : (s.applyConfig es boot).Bounded := by
  unfold State.applyConfig
  extract_lets _ _ _ s1 s2 _ s4 _ s6 s7 s8
  have hs1 : s1.Bounded := (h.endSurvey ..).closeForApply ..
  have hs2 : s2.Bounded := (hs1.stopTracking ..).ite hs1
  have hs4 : s4.Bounded := (((hs2.hfStop ..).ite hs2).overlay ..).seqGroups ..
  have hs6 : s6.Bounded := ((((hs4.emptyRings.ite hs4).applyStreams ..).applyAir ..).applySlots ..).applyTracking ..
  have hs7 : s7.Bounded := (((hs6.applyBoard ..).applyPins.applyChains ..).applyChannels ..).applyPlan ..
  have hs8 : s8.Bounded := (hs7.put ..).attnFell ..
  exact (hs8.bump ..).ite hs8

theorem State.Bounded.emptySource (src : CommitSrc) : (s.emptySource src).Bounded := by
  unfold State.emptySource
  extract_lets
  split
  · exact h.unstage.cfg _
  · exact ((h.dropImage.cfg _).record ..).ite (h.dropImage.cfg _)

theorem execApplyInstant_bounded : EndsBounded (execApplyInstant s) := by
  unfold execApplyInstant
  split
  · exact h.next.ite ((((((h.emptySource ..).applyConfig ..).put ..).commitOver ..).sys _).latch ..).startStoring.next
  · exact h.next

theorem State.Bounded.loadConfig : s.loadConfig.Bounded := by
  unfold State.loadConfig
  extract_lets t order
  have read : t.Bounded := h.flashOther 0
  split
  · next b img c _ =>
    have applied := (read.applyConfig (t.changesTo c) true).put Reg.CONFIG_GENERATION (t.slotGen b)
    exact applied.congr rfl rfl rfl rfl
  · exact ((read.applyConfig ..).put ..).sys _

end

end Sys2Proof.Machine
end

section
/-! SUPPORT. What reads, BOOT and writes by address keep: the bounds of `State.Bounded`. -/

namespace Sys2Proof.Machine

section
variable {s : State} (h : s.Bounded)
include h

/-! ### Reads (R132, R133) -/

theorem State.Bounded.view (l : Link) (k : Nat) : (s.view l k).2.Bounded := by
  unfold State.view
  split
  · exact h
  · split
    · exact h.draw
    · exact h.readPart ..

theorem State.Bounded.readFound (l : Link) (k : Nat) (f : Found) : (s.readFound l k f).2.2.Bounded := by
  unfold State.readFound
  split
  · exact h
  · split
    · exact h.hotRead
    · split
      · exact h.reportNext ..
      · split
        · exact h
        · exact (h.view ..)

theorem State.Bounded.readObj (l : Link) (k : Nat) : (s.readObj l k).2.2.Bounded := by
  unfold State.readObj
  split
  · exact h
  · exact h.readFound ..

theorem State.Bounded.readFrom (s0 : State) (l : Link) (k : Nat) (f : Found) : (s.readFrom s0 l k f).2.2.Bounded := by
  unfold State.readFrom
  extract_lets y
  have hy : y.2.2.Bounded := h.readFound ..
  split
  · exact hy
  · exact hy

theorem State.Bounded.readEntry (s0 : State) (l : Link) (k offset maxLen : Nat) : (s.readEntry s0 l k offset
    maxLen).2.2.Bounded := by
  unfold State.readEntry
  split
  · exact h
  · split
    · extract_lets r
      have hr : r.2.2.Bounded := h.readFrom ..
      split
      · exact hr
      · exact hr
    · split
      · exact h
      · exact h.readFrom ..

theorem State.Bounded.packFrom (s0 : State) (l : Link) (count : Nat) (r : Result) (d : Bytes) (ks : List Nat) :
    (s.packFrom s0 l count r d ks).2.2.Bounded := by
  induction ks generalizing s r d with
  | nil => exact h
  | cons k ks ih =>
    unfold State.packFrom
    split
    · exact h
    · split
      · exact ih h ..
      · exact ih (h.readFrom ..) ..

theorem State.Bounded.readCount (l : Link) (k count : Nat) : (s.readCount l k count).2.2.Bounded := by
  unfold State.readCount
  split
  · exact h
  · exact h.packFrom ..

theorem State.Bounded.readWhole (l : Link) (index : Nat) : (s.readWhole l index).2.2.Bounded := by
  unfold State.readWhole
  extract_lets
  split
  · exact h
  · exact (h.packFrom ..)

theorem execWideValueLoRead_bounded (l : Link) (index sub : Nat) : EndsBounded (execWideValueLoRead l index sub s) :=
  (h.read (h.readObj ..)).next

/-! ### Resets and BOOT (R69 to R72) -/

theorem execPorRelease_bounded (vioA vioB : BitVec 16) (unpowered : Bool) : EndsBounded
    (execPorRelease vioA vioB unpowered s) :=
  h.next.ite ((((h.sys _).ilk _).puts ..).ite (h.sys _)).next

theorem execResetNAssert_bounded : EndsBounded (execResetNAssert s) := (h.resetPart ..).next

theorem execBrownOut_bounded : EndsBounded (execBrownOut s) := (h.resetPart ..).next

theorem execVioBrownOut_bounded (x : Bool) : EndsBounded (execVioBrownOut x s) := (h.resetPart ..).next

theorem State.Bounded.canSend (fs : List CanFrame) : (s.canSend fs).Bounded := h.io _

theorem State.Bounded.startCan : s.startCan.Bounded := ((h.record ..).io _).canSend ..

theorem State.Bounded.sampled (testen : Bool) (as canId gates : Nat) : (s.sampled testen as canId gates).Bounded := by
  unfold State.sampled
  extract_lets _ _ _ _ s1
  have hs1 : s1.Bounded := h.congr rfl rfl rfl rfl
  exact (hs1.puts ..).foldl _ fun _ _ hu => hu.put ..

theorem State.Bounded.discover (n : Nat) (f : FlashInfo) : (s.discover n f).Bounded := h.ite ((h.puts ..).ite (h.put ..))

theorem State.Bounded.discoverAll (n : Nat) (l : List FlashInfo) : (s.discoverAll n l).Bounded := by
  induction l generalizing s n with
  | nil => exact h.foldl _ fun _ _ hu => (hu.put ..).ite hu
  | cons f r ih => exact ih (h.discover ..) _

theorem State.Bounded.countBoot : s.countBoot.Bounded := (h.writeHdr ..).put ..

theorem State.Bounded.runSlot (b : Bool) : (s.runSlot b).Bounded := (h.puts ..).record ..

theorem State.Bounded.chooseSlot (a b : Option (Nat × Nat)) : (s.chooseSlot a b).Bounded := by
  unfold State.chooseSlot
  extract_lets first s1 _ _ s2
  have counted : s1.Bounded := h.countBoot
  have chosen : s2.Bounded := counted.congr rfl rfl rfl rfl
  exact (chosen.runSlot _).ite ((chosen.runSlot _).ite (chosen.sys _))

theorem State.Bounded.bootLinksTrain : s.bootLinksTrain.Bounded := (h.linksTrain.updHub ..).ite h.linksTrain

theorem State.Bounded.bootFirmware : s.bootFirmware.Bounded := ((h.criticalFault ..).ite h).loadConfig.bootLinksTrain

theorem execResetRelease_bounded (testen : Bool) (as canId : Fin 8) (gates : BitVec 8) (fwA fwB : FwVerdict) (flashes : List
    FlashInfo) : EndsBounded (execResetRelease testen as canId gates fwA fwB flashes s) := by
  unfold execResetRelease
  extract_lets _ _ s2 _ s3
  have hs2 : s2.Bounded := (((h.resets.sampled ..).flashOther ..).discoverAll ..).put ..
  have hs3 : s3.Bounded := (hs2.secureRead.ite hs2).chooseSlot ..
  exact h.resets.next.ite (hs3.ite hs3.pxHandover.bootFirmware).next

theorem execBootRefclkAccepted_bounded : EndsBounded (execBootRefclkAccepted s) := by
  unfold execBootRefclkAccepted
  split
  · exact h.next
  · refine State.Bounded.next ?_
    exact h.congr rfl rfl rfl rfl

theorem execBootLinkStart_bounded (which : BootLink) : EndsBounded (execBootLinkStart which s) := by
  unfold execBootLinkStart
  split
  · exact h.next
  · split
    · exact (h.sys _).next
    · exact (h.sys _).next
    · exact (h.ite (h.sys _).startCan).next

theorem State.Bounded.flashEvents : s.flashEvents.Bounded := h.foldl _ fun _ _ hu => hu.latch ..

theorem State.Bounded.deliverBoot : s.deliverBoot.Bounded := by
  unfold State.deliverBoot
  extract_lets _ _ _ s2
  have hs2 : s2.Bounded := (h.foldl _ fun _ _ hu => hu.queueEmcy ..).congr rfl rfl rfl rfl
  exact (hs2.bump ..).ite hs2

theorem State.Bounded.endBoot (reason durUs : Nat) : (s.endBoot reason durUs).Bounded :=
  ((((((h.flashEvents.ite
    (h.flashEvents.hfStop ..).cutSweep.quadsOff).mode _).puts ..).deliverBoot.latch ..).latch ..).latch ..).showHf

theorem execBootEnd_bounded (durUs : BitVec 32) : EndsBounded (execBootEnd durUs s) :=
  h.next.ite ((h.endBoot ..).next.ite h.calsEnded.next)

/-! ### Writes (R14, R92, R94) -/

theorem State.Bounded.twbGoAny (v : Nat) : (s.twbGoAny v).2.Bounded := h.draw.twbGo ..

theorem State.Bounded.twbRecoverAny (v : Nat) : (s.twbRecoverAny v).2.Bounded := h.draw.twbRecover ..

theorem State.Bounded.evtAck (v : Nat) : (s.evtAck v).2.Bounded := h.checks (h.ackEvents ..)

theorem State.Bounded.writeOp {op : Op} (keeps : ∀ l v, (op s l v).2.Bounded) (l : Link) (k : Nat) (f : Found) (d : Bytes) :
    (s.writeOp l k f op d).2.Bounded := by
  unfold State.writeOp
  split
  · exact keeps ..
  · exact h

/-- What each command that stands once does keeps the bounds. -/
theorem State.Bounded.fixedOps (l : Link) (v : Nat) : ∀ p ∈ fixedOps, (p.2 s l v).2.Bounded := by
  simp only [Machine.fixedOps, List.forall_mem_cons]
  exact ⟨h.modeRequest .., h.resetRequest .., h.testCarrier .., h.testField .., h.capture .., h.commit .., h.discardAll ..,
    h.regLockArm .., h.regLockFire .., h.viewIndex .., h.surveyCmd .., h.resultRelease .., h.hfFaultClear ..,
    h.slideRetune .., h.hfOp .., h.linkGrant .., h.linkGrant .., h.linkGrant .., h.spcOp .., h.twbGoAny ..,
    h.twbRecoverAny .., h.gpioDrive .., h.gpioDrive .., h.groupLoad .., h.scanGo .., h.fwUpdate .., h.fwConfirm ..,
    h.nonceRequest .., h.tokenSubmit .., h.sessionClose .., h.quoteGo .., h.debugDisable .., h.faultClear .., h.evtAck ..,
    nofun⟩

/-- What each command of a quad, chain, stream, access slot or timer channel does keeps the bounds. -/
theorem State.Bounded.indexedOps (l : Link) (v : Nat) : ∀ p ∈ indexedOps, (p.2 s l v).2.Bounded := by
  simp only [Machine.indexedOps, List.forall_mem_append, List.forall_mem_map, and_assoc]
  exact ⟨fun _ _ => h.calRequest .., fun _ _ => h.chainFaultClear .., fun _ _ => h.reedReseed .., fun _ _ => h.opArm ..,
    fun _ _ => h.creditGrant .., fun _ _ => h.wmAck .., fun _ _ => h.reportRelease .., fun _ _ => h.markSet ..,
    fun _ _ => h.markClear .., fun _ _ => h.rewind .., fun _ _ => h.tmrFlagClear .., fun _ _ => h.tmrRestart ..⟩

theorem State.Bounded.opOf {k : Nat} {op : Op} (found : opOf k = some op) (l : Link) (v : Nat) : (op s l v).2.Bounded := by
  obtain mem | mem := List.mem_append.1 (Tab.mem_of_find found)
  · exact h.fixedOps l v _ mem
  · exact h.indexedOps l v _ mem

theorem State.Bounded.store (k : Nat) (f : Found) (d : Bytes) : (s.store k f d).Bounded := by
  unfold State.store
  extract_lets s1
  have hs1 : s1.Bounded := (h.putDom ..).ite (h.put ..)
  exact (hs1.seq ..).ite ((hs1.seq ..).ite hs1)

theorem State.Bounded.writeValue (k : Nat) (f : Found) (d : Bytes) : (s.writeValue k f d).2.Bounded := h.checks (h.store ..)

theorem State.Bounded.writeFound (l : Link) (k : Nat) (f : Found) (d : Bytes) : (s.writeFound l k f d).2.Bounded := by
  unfold State.writeFound
  split
  · exact h.imageAppend d
  · split
    · exact h.fwAppend d
    · split
      · next found => exact h.writeOp (h.opOf found) ..
      · exact h.writeValue ..

theorem State.Bounded.write (l : Link) (k : Nat) (d : Bytes) : (s.write l k d).2.Bounded := by
  unfold State.write
  split
  · exact h
  · split
    · exact h
    · exact h
    · exact h.stage ..
    · exact h.stage ..
    · exact h.writeFound ..
    · exact h.writeFound ..

theorem execObjectWrite_bounded (l : Link) (index sub : Nat) (d : Bytes) : EndsBounded (execObjectWrite l index sub d s) :=
  (h.request (h.write ..)).next

theorem State.Bounded.writeList {l : Link} {n : Nat} {r : Result} {ws : List (Nat × Bytes)} {x : Result × State}
    (ok : s.writeList l n r ws = .ok x) : x.2.Bounded := by
  induction ws generalizing s n r with
  | nil =>
    obtain rfl : (r, s) = x := by simpa [State.writeList] using ok
    exact h
  | cons w ws ih =>
    unfold State.writeList at ok
    extract_lets y at ok
    have written : y.2.Bounded := h.write ..
    split at ok
    · exact ih written ok
    · cases ok

end

end Sys2Proof.Machine
end

section
/-! SUPPORT. What the commands of the host links and a tick keep: the bounds of `State.Bounded`. -/

namespace Sys2Proof.Machine

section
variable {s : State} (h : s.Bounded)
include h

/-! ### Commands of SPT (R430 to R438) -/

theorem State.Bounded.shiftOut (n : Nat) : (s.shiftOut n).Bounded := h.io _

theorem execSptFetch_bounded : EndsBounded (execSptFetch s) :=
  (h.ite (((h.shiftOut ..).resetsFor ..).ite (h.shiftOut ..))).next

theorem State.Bounded.sptReject (kind : Nat) (b : Bytes) : (s.sptReject kind b).Bounded := by
  unfold State.sptReject
  extract_lets _ _ _ s2
  have hs2 : s2.Bounded := (h.sptAnswer ..).record ..
  exact (hs2.latch ..).ite (hs2.latch ..)

theorem State.Bounded.sptEnd (q : SptReq) (r : Result) (body : Bytes) : (s.sptEnd q r body).Bounded :=
  h.ite ((h.answer ..).sptAnswer ..)

theorem State.Bounded.sptAccept (b : Bytes) : (s.sptAccept b).Bounded :=
  ((((h.puts ..).record ..).wakeSource ..).sptEnd ..).ite ((((h.puts ..).record ..).wakeSource ..).io _)

theorem State.Bounded.sptFrame (b : Bytes) : (s.sptFrame b).Bounded := by
  unfold State.sptFrame
  extract_lets _ s1
  have hs1 : s1.Bounded := h.ite (h.checked ..)
  exact (hs1.sptAccept ..).ite (hs1.sptReject ..)

theorem State.Bounded.sptDiscard : s.sptDiscard.Bounded := (h.sys _).record ..

theorem execSptSelectRelease_bounded (mosi : Bytes) : EndsBounded (execSptSelectRelease mosi s) := by
  unfold execSptSelectRelease
  split
  · exact h.next
  · extract_lets s1
    have hs1 : s1.Bounded := h.shiftOut ..
    exact (hs1.resets.ite (hs1.ite (hs1.sptDiscard.ite (hs1.sptFrame ..)))).next

theorem State.Bounded.readList (s0 : State) (r : Result) (body : Bytes) (es : List (Nat × Nat × Nat)) :
    (s.readList s0 r body es).2.2.Bounded := by
  induction es generalizing s r body with
  | nil => exact h
  | cons e es ih =>
    unfold State.readList
    extract_lets x
    have read : x.2.2.Bounded := by
      unfold x
      split
      · exact h
      · exact h.readEntry ..
    exact ih read ..

theorem execSptRead_bounded : EndsBounded (execSptRead s) := by
  unfold execSptRead
  split
  · exact h.next
  · split
    · exact (h.sptEnd ..).next
    · exact ((h.sptEnd ..).ite ((h.readList ..).sptEnd ..)).next

theorem execSptWrite_bounded : EndsBounded (execSptWrite s) := by
  unfold execSptWrite
  split
  · exact h.next
  · split
    · exact (h.sptEnd ..).next
    · exact (h.sptEnd ..).next
    · extract_lets bad
      clear_value bad
      split
      · exact (h.sptEnd ..).next
      · split
        · exact (h.sptEnd ..).next
        · next ok =>
          have written := h.writeList ok
          split
          · exact (written.io _).next
          · exact (written.sptEnd ..).next

theorem execSptBlockRead_bounded : EndsBounded (execSptBlockRead s) := by
  unfold execSptBlockRead
  split
  · exact h.next
  · extract_lets _ _ x
    have hx : x.2.2.Bounded := by
      unfold x
      split
      · exact h
      · split
        · exact h
        · exact h.readCount ..
    exact (hx.sptEnd ..).next

/-! ### Commands of TWA (R439 to R449) -/

theorem State.Bounded.twaCount (k : Nat) : (s.twaCount k).Bounded := h.record ..

theorem State.Bounded.twaNack : s.twaNack.Bounded := (h.sys _).twaCount ..

theorem State.Bounded.twaAccept : s.twaAccept.Bounded := ((h.twaCount ..).checked ..).wakeSource ..

theorem State.Bounded.twaEnd (r : Result) (more : Bytes) : (s.twaEnd r more).Bounded :=
  (h.io _).ite (h.ite ((h.answer ..).twaAnswer ..))

theorem State.Bounded.twaRequest {inBoot inWatch : Bool} {f : State → Result × Bytes × State}
    (served : ∀ u, u.Bounded → (f u).2.2.Bounded) : (s.twaRequest inBoot inWatch f).Bounded :=
  h.ite (h.twaNack.ite (h.ite ((h.twaAccept.twaEnd ..).ite ((served _ h.twaAccept).twaEnd ..))))

theorem execTwaStatus_bounded : EndsBounded (execTwaStatus s) := (h.twaRequest fun _ hu => hu).next

theorem execTwaModeSet_bounded (mode : BitVec 8) : EndsBounded (execTwaModeSet mode s) :=
  (h.twaRequest fun _ hu => hu.modeRequest ..).next

theorem execTwaEvents_bounded : EndsBounded (execTwaEvents s) := (h.twaRequest fun _ hu => hu).next

theorem execTwaEventAck_bounded (mask : BitVec 64) : EndsBounded (execTwaEventAck mask s) :=
  (h.twaRequest fun _ hu => hu.evtAck ..).next

theorem execTwaCredit_bounded (n : BitVec 32) : EndsBounded (execTwaCredit n s) :=
  (h.twaRequest fun _ hu => hu.linkGrant ..).next

theorem execTwaObjRead_bounded (index : BitVec 16) (sub n : BitVec 8) : EndsBounded (execTwaObjRead index sub n s) := by
  refine (h.twaRequest fun u hu => ?_).next
  show State.Bounded (if n = 0 then (.range, [], u) else u.readCount .twa (address index sub) n.toNat : _ × _ × State).2.2
  split
  · exact hu
  · exact hu.readCount ..

theorem execTwaObjWrite_bounded (index : BitVec 16) (sub : BitVec 8) (data : Bytes) :
    EndsBounded (execTwaObjWrite index sub data s) := by
  refine (h.twaRequest fun u hu => ?_).next
  dsimp only [plain]
  split
  · exact hu
  · exact hu.write ..

theorem execTwaDomRead_bounded (index : BitVec 16) (sub : BitVec 8) (offset : BitVec 16) (n : BitVec 8) :
    EndsBounded (execTwaDomRead index sub offset n s) := by
  refine (h.twaRequest fun u hu => ?_).next
  dsimp only [counted]
  split
  · exact hu
  · exact hu.readEntry ..

theorem State.Bounded.setDom (d : Option (Nat × Bytes)) : (s.setDom d).Bounded := h.io _

theorem State.Bounded.domSegment (k seg : Nat) (data : Bytes) : (s.domSegment k seg data).2.Bounded := by
  unfold State.domSegment
  extract_lets held
  clear_value held
  split
  · exact h
  · next b _ =>
    extract_lets d
    split
    · exact h.setDom _
    · split
      · exact (h.setDom _).write ..
      · exact h.setDom _

theorem execTwaDomWrite_bounded (index : BitVec 16) (sub seg : BitVec 8) (data : Bytes) :
    EndsBounded (execTwaDomWrite index sub seg data s) := by
  refine (h.twaRequest fun u hu => ?_).next
  dsimp only [plain]
  split
  · exact hu
  · exact hu.domSegment ..

theorem State.Bounded.dropLatch : s.dropLatch.Bounded := h.shadows _

theorem State.Bounded.latchWindow : s.latchWindow.Bounded := h.dropLatch.shadows _

theorem State.Bounded.windowRead (p : Nat) : (s.windowRead p).2.Bounded := by
  unfold State.windowRead
  split
  · exact h.latchWindow
  · split
    · split
      · exact h.dropLatch.ite h
      · exact h
    · exact h

theorem State.Bounded.windowWrite (p : Nat) (b : Byte) : (s.windowWrite p b).Bounded :=
  (h.updIo ..).ite ((h.updIo ..).ite ((h.updIo ..).ite ((h.updIo ..).ite h)))

theorem State.Bounded.windowWrites (d : Bytes) : (s.windowWrites d).Bounded := by
  induction d generalizing s with
  | nil => exact h
  | cons b r ih => exact ih ((h.windowWrite ..).updIo _)

theorem State.Bounded.windowReads (n : Nat) : (s.windowReads n).2.Bounded := by
  induction n generalizing s with
  | zero => exact h
  | succ n ih => exact ih ((h.windowRead _).updIo _)

theorem State.Bounded.mbxStart : s.mbxStart.Bounded := (h.updIo ..).ite (h.mbxEnd ..)

theorem execTwaWindow_bounded (ptr : BitVec 8) (data : Bytes) : EndsBounded (execTwaWindow ptr data s) := by
  unfold execTwaWindow
  split
  · exact h.next
  · split
    · exact h.twaNack.next
    · split
      · exact (h.wakeSource ..).next
      · extract_lets _ s2
        have hs2 : s2.Bounded := ((h.twaAccept.answer ..).updIo ..).windowWrites ..
        exact (hs2.mbxStart.ite hs2).next

theorem execTwaReplyRead_bounded (n : Nat) : EndsBounded (execTwaReplyRead n s) :=
  h.next.ite (h.twaNack.next.ite ((((h.windowReads ..).updIo ..).wakeSource ..).next.ite
    (((h.updIo ..).wakeSource ..).resetsFor ..).next))

theorem execTwaWriteReject_bounded (excess : Bool) : EndsBounded (execTwaWriteReject excess s) := by
  unfold execTwaWriteReject
  split
  · exact h.next
  · split
    · exact h.twaNack.next
    · extract_lets s1
      have hs1 : s1.Bounded := h.wakeSource ..
      exact (hs1.twaAnswer ..).next.ite ((((hs1.twaAnswer ..).twaCount ..).checked ..).latch ..).next

theorem execTwaAddressNack_bounded : EndsBounded (execTwaAddressNack s) := (h.ite h.twaNack).next

theorem execTwaAra_bounded (won : Bool) : EndsBounded (execTwaAra won s) :=
  h.next.ite ((((h.sys _).updIo ..).twaCount ..).next.ite (h.twaCount ..).next)

theorem execTwaAlertReassert_bounded : EndsBounded (execTwaAlertReassert s) := (h.sys _).next

theorem execTwaBusTimeout_bounded : EndsBounded (execTwaBusTimeout s) := ((h.twaCount ..).ite h).next

/-! ### Commands of CAN (R450 to R465) -/

theorem State.Bounded.stopPush : s.stopPush.Bounded := h.foldl _ fun _ _ hu => (hu.updStream ..).ite hu

theorem State.Bounded.enterNmt (v : Nat) : (s.enterNmt v).Bounded := by
  unfold State.enterNmt
  extract_lets s1
  have hs1 : s1.Bounded := (h.record ..).updIo ..
  exact hs1.ite hs1.stopPush

theorem State.Bounded.nmtCommand {f : State → State} (obeyed : ∀ u, u.Bounded → (f u).Bounded) : (s.nmtCommand f).Bounded :=
  (obeyed _ (h.wakeSource 3)).ite h

theorem execNmtStart_bounded : EndsBounded (execNmtStart s) := (h.nmtCommand fun _ hu => hu.enterNmt ..).next

theorem execNmtStop_bounded : EndsBounded (execNmtStop s) := (h.nmtCommand fun _ hu => hu.enterNmt ..).next

theorem execNmtEnterPreop_bounded : EndsBounded (execNmtEnterPreop s) := (h.nmtCommand fun _ hu => hu.enterNmt ..).next

theorem execNmtResetNode_bounded : EndsBounded (execNmtResetNode s) := (h.nmtCommand fun _ hu => hu.resetPart ..).next

theorem execNmtResetComm_bounded : EndsBounded (execNmtResetComm s) := (h.nmtCommand fun _ hu => hu.stopPush.startCan).next

theorem execHeartbeatTimer_bounded : EndsBounded (execHeartbeatTimer s) := ((h.canSend ..).ite h).next

theorem State.Bounded.setUsdo (x : Option Xfer) : (s.setUsdo x).Bounded := h.updIo ..

theorem State.Bounded.usdoWrite (k : Nat) (d : Bytes) : (s.usdoWrite k d).Bounded := by
  unfold State.usdoWrite
  extract_lets x t
  have hx : x.2.Bounded := by
    unfold x
    split
    · exact h
    · exact h.write ..
  have ht : t.Bounded := hx.setUsdo ..
  exact ht.ite ((ht.setUsdo ..).ite ((((ht.answer ..).usdoAnswer ..).resetsFor ..).ite ((ht.answer ..).usdoAnswer ..)))

theorem State.Bounded.usdoData (k : Nat) (d : Bytes) : (s.usdoData k d).Bounded := (h.setUsdo ..).usdoAnswer ..

theorem State.Bounded.usdoRead (index sub : Nat) : (s.usdoRead index sub).Bounded := by
  unfold State.usdoRead
  extract_lets _ x t
  have hx : x.2.2.Bounded := by
    unfold x
    split
    · exact h
    · split
      · exact h.readWhole ..
      · exact h.readObj ..
  have ht : t.Bounded := hx.answer ..
  exact (ht.usdoData ..).ite (ht.usdoAnswer ..)

theorem State.Bounded.usdoRefuse (code : Nat) : (s.usdoRefuse code).Bounded := h.usdoAnswer ..

theorem State.Bounded.usdoInit {f : State → State} (served : (f s).Bounded) : (s.usdoInit f).Bounded :=
  ((h.answer ..).usdoRefuse _).ite served

theorem State.Bounded.usdoSegment (x : Xfer) (d : Bytes) (last : Bool) : (s.usdoSegment x d last).Bounded :=
  ((h.setUsdo ..).usdoAnswer ..).ite ((((h.setUsdo ..).answer ..).usdoRefuse ..).ite (h.usdoWrite ..))

theorem State.Bounded.usdoNotReady (req : UsdoReq) : (s.usdoNotReady req).Bounded := by
  unfold State.usdoNotReady
  extract_lets t
  have ht : t.Bounded := by
    unfold t
    split
    · exact h.setUsdo ..
    · exact h.setUsdo ..
    · exact h
  exact (ht.answer ..).usdoRefuse ..

theorem State.Bounded.usdoServe (a : UsdoReq) : (s.usdoServe a).Bounded := by
  unfold State.usdoServe
  split
  · exact h.usdoInit (h.usdoRead ..)
  · exact h.usdoInit (h.usdoWrite ..)
  · exact h.usdoInit ((h.setUsdo ..).usdoAnswer ..)
  · split
    · exact (h.usdoRefuse ..).ite (h.usdoData ..)
    · exact h.usdoRefuse ..
  · split
    · exact (h.usdoSegment ..).ite (h.usdoRefuse ..)
    · exact h.usdoRefuse ..
  · exact h.ite (h.setUsdo ..)
  · exact h.usdoRefuse ..

theorem execUsdoRequest_bounded (req : UsdoReq) : EndsBounded (execUsdoRequest req s) := by
  unfold execUsdoRequest
  split
  · exact h.next
  · extract_lets w t
    have hw : w.Bounded := h.wakeSource ..
    have ht : t.Bounded := hw.updIo ..
    exact (hw.ite ((ht.ite (ht.usdoNotReady ..)).ite ((ht.usdoNotReady ..).ite (ht.usdoServe ..)))).next

theorem execUsdoTimeout_bounded : EndsBounded (execUsdoTimeout s) := h.next.ite ((h.setUsdo ..).usdoRefuse ..).next

theorem State.Bounded.mapped (s0 : State) (l : List (Nat × Nat)) : (s.mapped s0 l).2.Bounded := by
  induction l generalizing s with
  | nil => exact h
  | cons e r ih =>
    unfold State.mapped
    extract_lets x y
    have read : x.2.2.Bounded := by
      unfold x
      split
      · exact h
      · exact h.readFrom ..
    exact ih read

theorem State.Bounded.assemble (n : Nat) : (s.assemble n).2.Bounded := (h.mapped ..)

theorem State.Bounded.updTpdo (n : Nat) (f : Tpdo → Tpdo) : (s.updTpdo n f).Bounded := h.updIo ..

theorem State.Bounded.sendTpdo (n : Nat) (b : Bytes) : (s.sendTpdo n b).Bounded := (h.updTpdo ..).canSend ..

theorem State.Bounded.tpdoNow (n : Nat) : (s.tpdoNow n).Bounded := (h.assemble ..).sendTpdo ..

theorem execTpdoSend_bounded (n : Fin 8) : EndsBounded (execTpdoSend n s) := by
  unfold execTpdoSend
  split
  · exact h.next
  · split
    · exact (h.sendTpdo ..).next
    · exact ((h.tpdoNow ..).ite h).next

theorem execTpdoEventTimer_bounded (n : Fin 8) : EndsBounded (execTpdoEventTimer n s) :=
  (h.ite ((h.tpdoNow ..).ite ((h.assemble ..).updTpdo ..))).next

theorem State.Bounded.syncTpdo (n : Nat) : (s.syncTpdo n).Bounded := h.ite ((h.updTpdo ..).ite ((h.assemble ..).updTpdo ..))

theorem execSyncReceived_bounded : EndsBounded (execSyncReceived s) := ((h.foldl _ fun _ _ hu => hu.syncTpdo ..).ite h).next

theorem execTimeReceived_bounded (ms : BitVec 28) (days : BitVec 16) : EndsBounded (execTimeReceived ms days s) :=
  ((h.timeFrame ..).ite h).next

theorem State.Bounded.rpdoWrites (d : Bytes) (l : List (Nat × Nat)) : (s.rpdoWrites d l).Bounded := by
  induction l generalizing s d with
  | nil => exact h
  | cons e r ih =>
    unfold State.rpdoWrites
    extract_lets x t
    have written : x.2.Bounded := by
      unfold x
      split
      · exact h
      · exact h.write ..
    exact written.ite (ih (written.ite (written.record ..)) _)

theorem execRpdoReceived_bounded (n : Fin 4) (data : Bytes) : EndsBounded (execRpdoReceived n data s) := by
  unfold execRpdoReceived
  split
  · exact h.next
  · extract_lets t
    have ht : t.Bounded := h.wakeSource ..
    exact (ht.ite ((ht.rpdoWrites ..).resetsFor ..)).next

theorem State.Bounded.sendFragment (i : Nat) (p : Pkt) (b : Bytes) (first : Bool) : (s.sendFragment i p b first).Bounded :=
  ((h.updStream ..).updIo ..).canSend ..

theorem execTpdo0PacketSend_bounded : EndsBounded (execTpdo0PacketSend s) := by
  unfold execTpdo0PacketSend
  split
  · exact h.next
  · split
    · exact h.next
    · exact h.next.ite (((h.charge ..).sendPkt ..).sendFragment ..).next

theorem execTpdo0FragmentSent_bounded : EndsBounded (execTpdo0FragmentSent s) := by
  unfold execTpdo0FragmentSent
  split
  · exact h.stopPush.next
  · split
    · exact h.next
    · exact h.stopPush.next.ite (((h.updStream ..).delivered ..).next.ite (h.sendFragment ..).next)

theorem execEmcySend_bounded : EndsBounded (execEmcySend s) := by
  unfold execEmcySend
  split
  · exact h.next
  · next e r queue =>
    obtain ⟨flash, log, emcy, results⟩ := id h
    rw [queue] at emcy
    refine h.next.ite (State.Bounded.next ?_)
    refine State.Bounded.canSend ?_ _
    exact ⟨flash, log, Nat.le_of_succ_le emcy, results⟩

theorem State.Bounded.showLine : s.showLine.Bounded := h.ite ((h.record ..).setUsdo ..)

theorem State.Bounded.setCan (c : Fin 2) (v : Nat) : (s.setCan c v).Bounded := (h.record ..).showLine

theorem State.Bounded.canActive (c : Fin 2) : (s.canActive c).Bounded := (h.setCan ..).updIo ..

theorem execCanErrPassive_bounded (c : Fin 2) : EndsBounded (execCanErrPassive c s) := by
  unfold execCanErrPassive
  split
  · exact h.next
  · extract_lets t
    have ht : t.Bounded := (h.setCan ..).updIo ..
    exact (ht.ite (ht.latch ..)).next

theorem execCanErrorActive_bounded (c : Fin 2) : EndsBounded (execCanErrorActive c s) := ((h.canActive ..).ite h).next

theorem execCanBusOff_bounded (c : Fin 2) : EndsBounded (execCanBusOff c s) := by
  unfold execCanBusOff
  split
  · exact h.next
  · extract_lets _ t
    have ht : t.Bounded := ((h.record ..).setCan ..).latch ..
    exact (ht.ite ht.stopPush).next

theorem execCanBusOffRecovered_bounded (c : Fin 2) : EndsBounded (execCanBusOffRecovered c s) := ((h.canActive ..).ite h).next

/-! ### The tick of 25 ns -/

theorem State.Bounded.tmrStep (n : Nat) : (s.tmrStep n).Bounded := (h.tmrTick ..).ite h

theorem State.Bounded.chanterTick : s.chanterTick.Bounded :=
  h.foldl _ fun _ _ hu => hu.ite ((hu.putRound ..).ite ((hu.putRound ..).showRound ..))

theorem State.Bounded.tick : s.tick.Bounded :=
  h.softStartTick.ilkTick.linkTick.chanterTick.spcTick.ite
    ((h.softStartTick.ilkTick.linkTick.chanterTick.spcTick.tim _).foldl _ fun _ _ hu => hu.tmrStep ..).rollIvals

end

end Sys2Proof.Machine
end

section
/-! SUPPORT. Every step keeps the bounds, and the statement settled with it. -/

namespace Sys2Proof.Machine

section
variable {s : State} (h : s.Bounded)
include h

/-- Every command keeps the bounds. -/
theorem exec_bounded (c : Instr) : EndsBounded (exec c s) :=
  match c with
  | .flitReceived .. => execFlitReceived_bounded h _ _ _ _
  | .replayTimeout .. => execReplayTimeout_bounded h _ _
  | .linkDown .. => execLinkDown_bounded h _
  | .linkTrainingDone .. => execLinkTrainingDone_bounded h _ _ _
  | .linkRetrainTimer .. => execLinkRetrainTimer_bounded h _
  | .pxRailFault .. => execPxRailFault_bounded h _
  | .toneMeasureDone .. => execToneMeasureDone_bounded h _ _
  | .refLost => execRefLost_bounded h
  | .refclkAccepted => execRefclkAccepted_bounded h
  | .deviceTimeLoRead .. => execDeviceTimeLoRead_bounded h _
  | .wideShadowExpire .. => execWideShadowExpire_bounded h _
  | .wideValueLoRead .. => execWideValueLoRead_bounded h _ _ _
  | .tagReplyEnd .. => execTagReplyEnd_bounded h _
  | .replyDecoded .. => execReplyDecoded_bounded h _ _
  | .reqHold .. => execReqHold_bounded h _
  | .reqReady .. => execReqReady_bounded h _
  | .reqRun .. => execReqRun_bounded h _
  | .reqWatch .. => execReqWatch_bounded h _
  | .reqTest .. => execReqTest_bounded h _
  | .modeTransitionDone => execModeTransitionDone_bounded h
  | .resetRequest .. => execResetRequest_bounded h _
  | .resetRelease .. => execResetRelease_bounded h _ _ _ _ _ _ _
  | .bootRefclkAccepted => execBootRefclkAccepted_bounded h
  | .bootLinkStart .. => execBootLinkStart_bounded h _
  | .bootEnd .. => execBootEnd_bounded h _
  | .testCarrierStart .. => execTestCarrierStart_bounded h _
  | .testCarrierStop .. => execTestCarrierStop_bounded h _
  | .testCarrierTimeout => execTestCarrierTimeout_bounded h
  | .testHfFieldRaise .. => execTestHfFieldRaise_bounded h _
  | .testHfFieldDrop .. => execTestHfFieldDrop_bounded h _
  | .testHfTimeout => execTestHfTimeout_bounded h
  | .captureGo .. => execCaptureGo_bounded h _
  | .captureDone .. => execCaptureDone_bounded h _
  | .objectWrite .. => execObjectWrite_bounded h _ _ _ _
  | .stageWrite .. => execStageWrite_bounded h _ _ _ _
  | .commitStaged .. => execCommitStaged_bounded h _
  | .commitImage .. => execCommitImage_bounded h _
  | .validationDone => execValidationDone_bounded h
  | .applyInstant => execApplyInstant_bounded h
  | .configPersistDone .. => execConfigPersistDone_bounded h _
  | .discard .. => execDiscard_bounded h _
  | .configImageAppend .. => execConfigImageAppend_bounded h _ _
  | .synthLock .. => execSynthLock_bounded h _ _
  | .synthUnlock .. => execSynthUnlock_bounded h _
  | .synthHoldTimeout .. => execSynthHoldTimeout_bounded h _
  | .droneRampDone .. => execDroneRampDone_bounded h _
  | .paFault .. => execPaFault_bounded h _ _
  | .paRailFault .. => execPaRailFault_bounded h _
  | .paRailRecovered .. => execPaRailRecovered_bounded h _
  | .reedConverged .. => execReedConverged_bounded h _ _
  | .reedConvergeTimeout .. => execReedConvergeTimeout_bounded h _
  | .reedTrackTick .. => execReedTrackTick_bounded h _ _ _ _
  | .reedLimit .. => execReedLimit_bounded h _
  | .blocker .. => execBlocker_bounded h _
  | .returnLossUpdate .. => execReturnLossUpdate_bounded h _ _ _
  | .probeSuccess .. => execProbeSuccess_bounded h _
  | .sweepChannelDone .. => execSweepChannelDone_bounded h _ _
  | .turnroundEnd .. => execTurnroundEnd_bounded h _
  | .fullCalDone .. => execFullCalDone_bounded h _ _
  | .calRetryTimer .. => execCalRetryTimer_bounded h _
  | .calRequest .. => execCalRequest_bounded h _ _
  | .reedReseed .. => execReedReseed_bounded h _ _
  | .chainFaultClear .. => execChainFaultClear_bounded h _ _
  | .descriptorRelease .. => execDescriptorRelease_bounded h _ _
  | .permitWithdraw .. => execPermitWithdraw_bounded h _ _
  | .permitReturn .. => execPermitReturn_bounded h _ _
  | .regLockArm .. => execRegLockArm_bounded h _ _
  | .regLockFire .. => execRegLockFire_bounded h _ _
  | .lockFireDone .. => execLockFireDone_bounded h _
  | .lockArmTimeout => execLockArmTimeout_bounded h
  | .viewIndexWrite .. => execViewIndexWrite_bounded h _ _
  | .surveyStart .. => execSurveyStart_bounded h _
  | .surveyAbort .. => execSurveyAbort_bounded h _
  | .surveyTimeout => execSurveyTimeout_bounded h
  | .laneSelftest .. => execLaneSelftest_bounded h _ _
  | .readMeasured .. => execReadMeasured_bounded h _ _
  | .roundStart .. => execRoundStart_bounded h _
  | .powerUpHoldEnd .. => execPowerUpHoldEnd_bounded h _
  | .slotEmptyTimeout .. => execSlotEmptyTimeout_bounded h _
  | .epcReply .. => execEpcReply_bounded h _ _
  | .accessReplyTimeout .. => execAccessReplyTimeout_bounded h _
  | .accessOpEnd .. => execAccessOpEnd_bounded h _ _ _ _
  | .roundEnd .. => execRoundEnd_bounded h _
  | .opArm .. => execOpArm_bounded h _ _
  | .opDisarm .. => execOpDisarm_bounded h _ _
  | .resultRelease .. => execResultRelease_bounded h _ _
  | .locBatch => execLocBatch_bounded h
  | .trackJoin => execTrackJoin_bounded h
  | .trackCloseGap .. => execTrackCloseGap_bounded h _
  | .countIntervalPublish => execCountIntervalPublish_bounded h
  | .planBoundary .. => execPlanBoundary_bounded h _
  | .dwellStart .. => execDwellStart_bounded h _
  | .dwellEnd .. => execDwellEnd_bounded h _
  | .powerMeasure .. => execPowerMeasure_bounded h _
  | .hfStartDeferred => execHfStartDeferred_bounded h
  | .packetAgeTimeout .. => execPacketAgeTimeout_bounded h _ _
  | .reportWindowEnd => execReportWindowEnd_bounded h
  | .creditGrant .. => execCreditGrant_bounded h _ _ _
  | .linkCreditGrant .. => execLinkCreditGrant_bounded h _ _ _
  | .reportNext .. => execReportNext_bounded h _ _
  | .reportRelease .. => execReportRelease_bounded h _ _ _
  | .wmAck .. => execWmAck_bounded h _ _
  | .hotRead .. => execHotRead_bounded h _
  | .markSet .. => execMarkSet_bounded h _ _ _
  | .markClear .. => execMarkClear_bounded h _ _ _
  | .rewind .. => execRewind_bounded h _ _ _
  | .rewindDone .. => execRewindDone_bounded h _
  | .scrubStep .. => execScrubStep_bounded h _ _ _ _
  | .rowRepairDone => execRowRepairDone_bounded h
  | .repairMapStored .. => execRepairMapStored_bounded h _
  | .innerCountUpdate .. => execInnerCountUpdate_bounded h _
  | .hfDiscover .. => execHfDiscover_bounded h _
  | .hfActivate .. => execHfActivate_bounded h _
  | .hfExchange .. => execHfExchange_bounded h _
  | .hfRelease .. => execHfRelease_bounded h _
  | .hfAbort .. => execHfAbort_bounded h _
  | .hfFrameReceived .. => execHfFrameReceived_bounded h _ _
  | .hfReplyTimeout => execHfReplyTimeout_bounded h
  | .hfOpEnd .. => execHfOpEnd_bounded h _ _ _ _
  | .hfSessionIdle => execHfSessionIdle_bounded h
  | .slideTrackTick .. => execSlideTrackTick_bounded h _ _ _ _
  | .hfDriverFault .. => execHfDriverFault_bounded h _
  | .hfFaultClear .. => execHfFaultClear_bounded h _
  | .hfPllUnlock => execHfPllUnlock_bounded h
  | .hfRecoveryRetry .. => execHfRecoveryRetry_bounded h _
  | .slideRetune .. => execSlideRetune_bounded h _
  | .slideCalDone .. => execSlideCalDone_bounded h _ _ _ _ _ _
  | .breathPulse .. => execBreathPulse_bounded h _ _
  | .breathSecondPulse .. => execBreathSecondPulse_bounded h _ _
  | .breathConfirmEnd .. => execBreathConfirmEnd_bounded h _
  | .breathBaselineDone .. => execBreathBaselineDone_bounded h _ _ _
  | .sptSelectRelease .. => execSptSelectRelease_bounded h _
  | .sptFetch => execSptFetch_bounded h
  | .sptRead => execSptRead_bounded h
  | .sptWrite => execSptWrite_bounded h
  | .sptBlockRead => execSptBlockRead_bounded h
  | .twaStatus => execTwaStatus_bounded h
  | .twaModeSet .. => execTwaModeSet_bounded h _
  | .twaEvents => execTwaEvents_bounded h
  | .twaEventAck .. => execTwaEventAck_bounded h _
  | .twaCredit .. => execTwaCredit_bounded h _
  | .twaObjRead .. => execTwaObjRead_bounded h _ _ _
  | .twaObjWrite .. => execTwaObjWrite_bounded h _ _ _
  | .twaDomRead .. => execTwaDomRead_bounded h _ _ _ _
  | .twaDomWrite .. => execTwaDomWrite_bounded h _ _ _ _
  | .twaWindow .. => execTwaWindow_bounded h _ _
  | .twaReplyRead .. => execTwaReplyRead_bounded h _
  | .twaWriteReject .. => execTwaWriteReject_bounded h _
  | .twaAra .. => execTwaAra_bounded h _
  | .twaAlertReassert => execTwaAlertReassert_bounded h
  | .twaBusTimeout => execTwaBusTimeout_bounded h
  | .mbxNonce => execMbxNonce_bounded h
  | .mbxReadCert => execMbxReadCert_bounded h
  | .mbxTokenWrite => execMbxTokenWrite_bounded h
  | .mbxTokenSubmit => execMbxTokenSubmit_bounded h
  | .mbxFwBegin => execMbxFwBegin_bounded h
  | .mbxFwWrite => execMbxFwWrite_bounded h
  | .mbxFwFinish => execMbxFwFinish_bounded h
  | .mbxReset => execMbxReset_bounded h
  | .nmtStart => execNmtStart_bounded h
  | .nmtStop => execNmtStop_bounded h
  | .nmtEnterPreop => execNmtEnterPreop_bounded h
  | .nmtResetNode => execNmtResetNode_bounded h
  | .nmtResetComm => execNmtResetComm_bounded h
  | .heartbeatTimer => execHeartbeatTimer_bounded h
  | .usdoRequest .. => execUsdoRequest_bounded h _
  | .usdoTimeout => execUsdoTimeout_bounded h
  | .rpdoReceived .. => execRpdoReceived_bounded h _ _
  | .syncReceived => execSyncReceived_bounded h
  | .timeReceived .. => execTimeReceived_bounded h _ _
  | .tpdoSend .. => execTpdoSend_bounded h _
  | .tpdoEventTimer .. => execTpdoEventTimer_bounded h _
  | .tpdo0PacketSend => execTpdo0PacketSend_bounded h
  | .tpdo0FragmentSent => execTpdo0FragmentSent_bounded h
  | .emcySend => execEmcySend_bounded h
  | .canErrPassive .. => execCanErrPassive_bounded h _
  | .canErrorActive .. => execCanErrorActive_bounded h _
  | .canBusOff .. => execCanBusOff_bounded h _
  | .canBusOffRecovered .. => execCanBusOffRecovered_bounded h _
  | .spcRead .. => execSpcRead_bounded h _
  | .spcProgram .. => execSpcProgram_bounded h _
  | .spcErase4k .. => execSpcErase4k_bounded h _
  | .spcErase64k .. => execSpcErase64k_bounded h _
  | .spcReadSfdp .. => execSpcReadSfdp_bounded h _
  | .spcOpEnd .. => execSpcOpEnd_bounded h _ _
  | .twbGo .. => execTwbGo_bounded h _ _
  | .twbRecover .. => execTwbRecover_bounded h _ _
  | .twbTransferEnd .. => execTwbTransferEnd_bounded h _ _ _
  | .twbSclTimeout => execTwbSclTimeout_bounded h
  | .twbConflict => execTwbConflict_bounded h
  | .twbRetry .. => execTwbRetry_bounded h _
  | .gpioSet .. => execGpioSet_bounded h _ _
  | .gpioClear .. => execGpioClear_bounded h _ _
  | .gateEdge .. => execGateEdge_bounded h _ _
  | .timerWrap .. => execTimerWrap_bounded h _
  | .timerMatch .. => execTimerMatch_bounded h _
  | .tmrFlagClear .. => execTmrFlagClear_bounded h _ _ _
  | .tmrRestart .. => execTmrRestart_bounded h _ _ _
  | .tmrGroupLoad .. => execTmrGroupLoad_bounded h _ _
  | .discPhaseEnd => execDiscPhaseEnd_bounded h
  | .discHoldover => execDiscHoldover_bounded h
  | .scanStart .. => execScanStart_bounded h _
  | .scanAbort .. => execScanAbort_bounded h _
  | .scanDone .. => execScanDone_bounded h _
  | .checkSelftest .. => execCheckSelftest_bounded h _ _
  | .demandPageLoad .. => execDemandPageLoad_bounded h _ _
  | .fwUpdateBegin .. => execFwUpdateBegin_bounded h _
  | .fwEraseDone => execFwEraseDone_bounded h
  | .fwImageAppend .. => execFwImageAppend_bounded h _ _
  | .fwUpdateFinish .. => execFwUpdateFinish_bounded h _
  | .fwVerifyDone .. => execFwVerifyDone_bounded h _ _
  | .fwUpdateAbandon .. => execFwUpdateAbandon_bounded h _
  | .fwConfirm .. => execFwConfirm_bounded h _ _
  | .nonceRequest .. => execNonceRequest_bounded h _ _
  | .nonceExpire => execNonceExpire_bounded h
  | .tokenSubmit .. => execTokenSubmit_bounded h _ _
  | .tokenTest => execTokenTest_bounded h
  | .tokenRecovery => execTokenRecovery_bounded h
  | .tokenDebug => execTokenDebug_bounded h
  | .ownerRelease => execOwnerRelease_bounded h
  | .ownerEnrol => execOwnerEnrol_bounded h
  | .ownerRotate => execOwnerRotate_bounded h
  | .tokenRejected .. => execTokenRejected_bounded h _
  | .sessionClose .. => execSessionClose_bounded h _ _
  | .sessionExpire => execSessionExpire_bounded h
  | .quoteGo .. => execQuoteGo_bounded h _ _
  | .quoteDone => execQuoteDone_bounded h
  | .debugDisable .. => execDebugDisable_bounded h _ _
  | .debugAttach .. => execDebugAttach_bounded h _
  | .tapInstruction .. => execTapInstruction_bounded h _
  | .tempSample .. => execTempSample_bounded h _
  | .voltageSample .. => execVoltageSample_bounded h _
  | .railComparatorTrip .. => execRailComparatorTrip_bounded h _
  | .processMeasure .. => execProcessMeasure_bounded h _
  | .cxPllUnlock => execCxPllUnlock_bounded h
  | .cxPllRelock => execCxPllRelock_bounded h
  | .faultClear .. => execFaultClear_bounded h _ _
  | .watchdogBark .. => execWatchdogBark_bounded h _
  | .watchdogBite .. => execWatchdogBite_bounded h _
  | .evtAck .. => execEvtAck_bounded h _ _
  | .eventLogWrite => execEventLogWrite_bounded h
  | .workMemError .. => execWorkMemError_bounded h _
  | .porRelease .. => execPorRelease_bounded h _ _ _
  | .vioBrownOut b => execVioBrownOut_bounded h b
  | .hfGuardTimeEnd => execHfGuardTimeEnd_bounded h
  | .twaAddressNack => execTwaAddressNack_bounded h
  | .twbSclStuck => execTwbSclStuck_bounded h
  | .twbBusReleased => execTwbBusReleased_bounded h
  | .brownOut => execBrownOut_bounded h
  | .resetNAssert => execResetNAssert_bounded h

/-- A step within the bounds stays within them (R277, R463, R478, R562). -/
theorem step_bounded : EndsBounded (step s) := by
  unfold step
  split
  · exact h.tick.next
  · exact exec_bounded (h.pending _) _

end

/-- Settles O54, by what each command makes of the flashes, the log, the EMCYs that wait and the access results. -/
theorem stepsKeepTheBounds : Obligations.StepsKeepTheBounds := by
  unfold Obligations.StepsKeepTheBounds
  exact fun s t bounded stepped => step_bounded bounded t stepped

end Sys2Proof.Machine
end

section
/-! SUPPORT. What a slot boundary counts, what a reply to ACK brings (R256, R260 to R262), and the statement settled with it. -/

namespace Sys2Proof.Machine

/-! ### The count of a slot (R259, R262) -/

/-- A slot boundary leaves the round with the counts of the slot's outcome, whether the round goes on or ends there. -/
theorem State.round_slotBoundary (s : State) (t : Nat) (r : Round) :
    ∃ m qmin qmax qc, (s.slotBoundary t r).round t = some m ∧ m.slots = (r.outcomeIn qmin qmax qc).slots ∧
      m.singles = (r.outcomeIn qmin qmax qc).singles ∧ m.empties = (r.outcomeIn qmin qmax qc).empties ∧
      m.colls = (r.outcomeIn qmin qmax qc).colls := by
  unfold State.slotBoundary
  extract_lets u p qmin r1 nak r2
  refine ⟨r2, qmin, u.get (Reg.QMAX p), u.get (Reg.Q_C p), ?_, ?_⟩
  · simp only [State.round, State.showRound, State.record_eng]
    exact u.round_putRound_self t r2
  · simp only [r2]
    split <;> exact ⟨rfl, rfl, rfl, rfl⟩

/-- An empty slot. -/
theorem Round.outcomeIn_empty {r : Round} (outcome : r.outcome = 0) (qmin qmax qc : Nat) :
    (r.outcomeIn qmin qmax qc).slots = r.slots + 1 ∧ (r.outcomeIn qmin qmax qc).empties = r.empties + 1 ∧
      (r.outcomeIn qmin qmax qc).colls = r.colls ∧ (r.outcomeIn qmin qmax qc).singles = r.singles := by
  simp [Round.outcomeIn, outcome]

/-- A slot with a collision. -/
theorem Round.outcomeIn_collision {r : Round} (outcome : r.outcome = 1) (qmin qmax qc : Nat) :
    (r.outcomeIn qmin qmax qc).slots = r.slots + 1 ∧ (r.outcomeIn qmin qmax qc).colls = r.colls + 1 ∧
      (r.outcomeIn qmin qmax qc).empties = r.empties := by
  simp [Round.outcomeIn, outcome]

/-! ### A failed ACK (R260) -/

theorem State.get_replyOver (s : State) (beam : Nat) {k : Nat} (above : 0x350000 ≤ k) : (s.replyOver beam).get k = s.get k :=
  ((SameButReply.refl [] s).replyOver beam).get (by simpa using not_mem_gainKeys above)

theorem State.get_decision (s : State) (beam : Nat) {k : Nat} (above : 0x350000 ≤ k) : (s.decision beam).get k = s.get k :=
  ((SameButReply.refl [] s).decision beam).get (by simpa using not_mem_gainKeys above)

/-- While retries are left a failed ACK is sent again: at once after a missing reply, after the turn-round otherwise. -/
theorem State.ackFailed_retry {s : State} {n : Round} (left : n.acks ≤ s.get (Reg.EPC_RETRIES n.prof)) (beam : Nat)
    (replied : Bool) :
    s.ackFailed beam n replied =
      (s.replyOver beam).putRound beam (if replied then { n with stage := .turnAck } else n.acked) := by
  have above : 0x350000 ≤ Reg.EPC_RETRIES n.prof := by simp only [Reg.EPC_RETRIES]; omega
  unfold State.ackFailed
  rw [if_pos (by rwa [State.get_replyOver s beam above])]

/-- The counts of a check lie below the objects of the beams and the profiles. -/
theorem State.get_checked (s : State) (n bad : Nat) {k : Nat} (above : 0x350000 ≤ k) :
    (s.checked 0 n bad).get k = s.get k := by
  unfold State.checked
  extract_lets w
  have small : w ≤ 3 := by simp only [w]; split <;> omega
  refine State.get_record_ne s ?_ fun p mem => ?_
  · simp only [Reg.CHK_SEQ]; omega
  · simp only [List.mem_cons, List.not_mem_nil, or_false] at mem
    obtain rfl | rfl := mem <;> simp only [Reg.CHK_CHECKED, Reg.CHK_FAILED] <;> omega

/-- EPC_REPLY with a reply that fails while retries are left: ACK goes again after the turn-round. -/
theorem exec_epcReply_fails {beam : Fin 4} {n : Round} {reply : EpcReply} {s : State} (round : s.round beam = some n)
    (stage : n.stage = .ack) (fails : epcPasses reply = false) (left : n.acks ≤ s.get (Reg.EPC_RETRIES n.prof)) :
    exec (.epcReply beam reply) s =
      .next ((((s.decision beam).checked 0 1 1).replyOver beam).putRound beam { n with stage := .turnAck }) := by
  have above : 0x350000 ≤ Reg.EPC_RETRIES n.prof := by simp only [Reg.EPC_RETRIES]; omega
  have still : n.acks ≤ ((s.decision beam).checked 0 1 1).get (Reg.EPC_RETRIES n.prof) := by
    rwa [State.get_checked _ 1 1 above, State.get_decision s beam above]
  show execEpcReply beam reply s = _
  simp [execEpcReply, round, stage, fails, State.ackFailed_retry still beam true]

/-! ### A tag that is read (R234, R261) -/

/-- A tag read is on the round with its EPC and PC word. -/
theorem State.readTag_fst (s : State) (t khz : Nat) (r : Round) (e : EpcReply) :
    (s.readTag t khz r e).1.epc = e.epc ∧ (s.readTag t khz r e).1.pc = e.pc.toNat := ⟨rfl, rfl⟩

/-- A tag read waits for its measurement, with the instant its reply ended and the round's zone. -/
theorem State.heard_readTag (s : State) (t khz : Nat) (r : Round) (e : EpcReply) :
    ∃ d, Tab.find (s.readTag t khz r e).2.eng.heard t = some d ∧
      d.epc = e.epc ∧ d.time = r.replyAt ∧ d.zone = r.zone := by
  unfold State.readTag
  extract_lets ti rd s1 s2
  refine ⟨rd, ?_, rfl, rfl, rfl⟩
  rw [State.record_eng]
  exact Tab.find_put_self ..

/-- The reply window of a PC+EPC reply that passes, over: its check and its decodes are counted (R33, R158, R224). -/
def State.epcOver (s : State) (beam : Nat) (reply : EpcReply) : State :=
  (((reply.rx.map Fin.val).foldl State.decodedOn ((s.decision beam).checked 0 1 0)).combineAll beam reply.pre).replyOver beam

/-- The round after the reply window in which its tag was read: the slot is SINGLE, and the armed slots that match wait (R267). -/
def Round.singulated (m : Round) (ops : List Nat) : Round :=
  { m with outcome := 2, ops := ops, stage := if ops.isEmpty then .turnSlot else .turnOp }

theorem Round.stage_singulated (m : Round) (ops : List Nat) :
    (m.singulated ops).stage = .turnSlot ∨ (m.singulated ops).stage = .turnOp := by
  cases ops with
  | nil => exact .inl rfl
  | cons k rest => exact .inr rfl

/-- EPC_REPLY with a reply that passes and brings no Challenge response: the tag is read, and the slot is SINGLE. -/
theorem exec_epcReply_passes {beam : Fin 4} {n : Round} {reply : EpcReply} {s : State} (round : s.round beam = some n)
    (stage : n.stage = .ack) (passes : epcPasses reply = true) (plain : reply.challenge = none) :
    ∃ khz, exec (.epcReply beam reply) s =
      .next (let (m, t) := (s.epcOver beam reply).readTag beam khz n reply
        t.putRound beam (m.singulated (t.opsFor m))) := by
  refine ⟨(s.running beam).elim 0 fun r => r.d.khz, ?_⟩
  show execEpcReply beam reply s = _
  simp [execEpcReply, round, stage, passes, plain, State.epcOver, Round.singulated]

/-! ### Empty slots, turn-rounds, and the statement (R256, R166) -/

/-- SLOT_EMPTY_TIMEOUT in a slot is its boundary, the slot being EMPTY. -/
theorem exec_slotEmptyTimeout_slot {beam : Fin 4} {n : Round} {s : State} (round : s.round beam = some n)
    (stage : n.stage = .slot) :
    exec (.slotEmptyTimeout beam) s = .next ((s.decision beam).slotBoundary beam { n with outcome := 0 }) := by
  show execSlotEmptyTimeout beam s = _
  simp [execSlotEmptyTimeout, round, stage]

/-- SLOT_EMPTY_TIMEOUT after an ACK is the reply to ACK that has not come. -/
theorem exec_slotEmptyTimeout_ack {beam : Fin 4} {n : Round} {s : State} (round : s.round beam = some n)
    (stage : n.stage = .ack) : exec (.slotEmptyTimeout beam) s = .next (s.ackFailed beam n false) := by
  show execSlotEmptyTimeout beam s = _
  simp [execSlotEmptyTimeout, round, stage]

/-- TURNROUND_END sends ACK where that was decided. -/
theorem exec_turnroundEnd_ack {beam : Fin 4} {n : Round} {s : State} (round : s.round beam = some n)
    (stage : n.stage = .turnAck) : exec (.turnroundEnd beam) s = .next (s.putRound beam n.acked) := by
  show execTurnroundEnd beam s = _
  simp [execTurnroundEnd, round, stage]

/-- TURNROUND_END opens the next slot where no tag is singulated. -/
theorem exec_turnroundEnd_slot {beam : Fin 4} {n : Round} {s : State} (round : s.round beam = some n)
    (stage : n.stage = .turnSlot) : exec (.turnroundEnd beam) s = .next (s.slotBoundary beam n) := by
  show execTurnroundEnd beam s = _
  simp [execTurnroundEnd, round, stage]

/-- Settles O22, by what each command leaves on the round: the counts of a slot boundary, the ACK of a retry, the tag read. -/
theorem slotsAndAcknowledgement : Obligations.SlotsAndAcknowledgement := by
  refine ⟨fun beam n s round stage => ?_, fun beam n s round stage left => ?_, fun beam n s round stage => ?_,
    fun beam n s round stage outcome => ?_, fun beam n reply s round stage crc len plain => ?_,
    fun beam n reply s round stage bad left => ?_⟩
  · obtain ⟨m, qmin, qmax, qc, at_, slots, singles, empties, colls⟩ :=
      (s.decision beam).round_slotBoundary beam { n with outcome := 0 }
    obtain ⟨slots', empties', colls', singles'⟩ := Round.outcomeIn_empty (r := { n with outcome := 0 }) rfl qmin qmax qc
    exact ⟨_, exec_slotEmptyTimeout_slot round stage, m, at_, slots.trans slots', empties.trans empties',
      colls.trans colls', singles.trans singles'⟩
  · refine ⟨_, (exec_slotEmptyTimeout_ack round stage).trans (congrArg _ (State.ackFailed_retry left beam false)), ?_,
      ((SameButReply.refl [] s).replyOver beam).putRound ..⟩
    rw [State.round_putRound_self, if_neg (by decide), Round.acked, ← stage]
  · exact ⟨_, exec_turnroundEnd_ack round stage, s.round_putRound_self .., rfl⟩
  · obtain ⟨m, qmin, qmax, qc, at_, slots, -, empties, colls⟩ := s.round_slotBoundary beam n
    obtain ⟨slots', colls', empties'⟩ := Round.outcomeIn_collision outcome qmin qmax qc
    exact ⟨_, exec_turnroundEnd_slot round stage, m, at_, slots.trans slots', colls.trans colls', empties.trans empties'⟩
  · obtain ⟨khz, run⟩ := exec_epcReply_passes round stage (by simp [epcPasses, crc, len]) plain
    obtain ⟨epc, pc⟩ := (s.epcOver beam reply).readTag_fst beam khz n reply
    exact ⟨_, run, ⟨_, State.round_putRound_self .., epc, pc, rfl, Round.stage_singulated ..⟩,
      (s.epcOver beam reply).heard_readTag beam khz n reply⟩
  · have fails : epcPasses reply = false := by
      obtain crc | len := bad
      · simp [epcPasses, crc]
      · simp [epcPasses, len]
    exact ⟨_, exec_epcReply_fails round stage fails left, State.round_putRound_self ..⟩

end Sys2Proof.Machine
end

section
/-! SUPPORT. How an operation ends and what its replies leave on the round (R269, R270), and the statement settled with it. -/

namespace Sys2Proof.Machine

/-! ### What does not touch the engine -/

/-- Steps that leave the engine leave it when they are done one after another. -/
theorem State.foldl_eng {α : Type} {f : State → α → State} (keeps : ∀ u x, (f u x).eng = u.eng) (l : List α)
    (s : State) : (l.foldl f s).eng = s.eng :=
  List.foldlRecOn (motive := fun t : State => t.eng = s.eng) l f rfl fun u hu x _ => (keeps u x).trans hu

@[simp] theorem State.decodedOn_eng (s : State) (b : Nat) : (s.decodedOn b).eng = s.eng := State.record_eng ..

@[simp] theorem State.decision_eng (s : State) (beam : Nat) : (s.decision beam).eng = s.eng := State.sendFlit_eng ..

@[simp] theorem State.combineAll_eng (s : State) (beam : Nat) (pre : List PreMeas) : (s.combineAll beam pre).eng = s.eng := by
  refine State.foldl_eng (fun u b => ?_) _ s
  unfold State.combine
  split
  · split <;> rfl
  · rfl

@[simp] theorem State.replyOver_eng (s : State) (beam : Nat) : (s.replyOver beam).eng = s.eng := by
  unfold State.replyOver
  split
  · rfl
  · refine State.foldl_eng (fun u c => ?_) _ s
    split <;> simp

theorem State.showRx_eng (s : State) (b : Nat) : (s.showRx b).eng = s.eng := by
  unfold State.showRx
  split
  · extract_lets
    split <;> exact State.recordIf_eng ..
  · exact State.recordIf_eng ..

@[simp] theorem State.beamsDue_eng (s : State) (beam : Nat) : (s.beamsDue beam).eng = s.eng := by
  unfold State.beamsDue
  split
  · exact (State.recordIf_eng ..).trans (State.foldl_eng (fun u b => (u.weigh b).showRx_eng b) _ _)
  · rfl

@[simp] theorem State.accessChecks_eng (s : State) (replies : List TagReply) : (s.accessChecks replies).eng = s.eng :=
  State.record_eng ..

@[simp] theorem State.opState_eng (s : State) (k : Nat) : (s.opState k).eng = s.eng := by
  unfold State.opState
  extract_lets v
  split
  · rfl
  · exact State.record_eng ..

@[simp] theorem State.watchOne_eng (s : State) (w : Nat) (data : Bytes) : (s.watchOne w data).eng = s.eng := by
  unfold State.watchOne
  extract_lets o word v old new s1
  have written : s1.eng = s.eng := State.record_eng ..
  split
  · exact State.recordIf_eng ..
  · split
    · exact (State.latch_eng ..).trans written
    · exact written

@[simp] theorem State.watch_eng (s : State) (slot : Nat) (epc data : Bytes) : (s.watch slot epc data).eng = s.eng := by
  refine State.foldl_eng (fun u w => ?_) _ s
  split
  · exact u.watchOne_eng w data
  · rfl

/-! ### The result queue (R277) -/

/-- The result queue and the identifier that its next entry takes. -/
def State.queue (s : State) : List ResEntry × Nat := (s.eng.results, s.eng.nextId)

theorem State.queue_congr {s t : State} (same : t.eng = s.eng) : t.queue = s.queue := by
  unfold State.queue
  rw [same]

theorem State.queue_armOp (s : State) (k : Nat) (on : Bool) : (s.armOp k on).queue = s.queue := by
  unfold State.armOp
  exact (State.queue_congr (State.opState_eng ..)).trans rfl

theorem State.queue_slotBoundary (s : State) (beam : Nat) (r : Round) : (s.slotBoundary beam r).queue = s.queue := by
  unfold State.slotBoundary
  extract_lets u p qmin r1 nak r2
  have shown : ((u.putRound beam r2).showRound beam r2).queue = (u.putRound beam r2).queue :=
    State.queue_congr (State.record_eng ..)
  exact shown.trans (State.queue_congr (t := u) (by simp [u]))

/-- What follows an operation on its tag writes no result. -/
theorem State.queue_nextOp (s : State) (beam : Nat) (r : Round) (ops : List Nat) : (s.nextOp beam r ops).queue = s.queue := by
  induction ops generalizing s with
  | nil => exact s.queue_slotBoundary beam _
  | cons k rest ih =>
    unfold State.nextOp
    split
    · exact s.queue_slotBoundary beam _
    split
    · exact ih s
    split
    · exact (ih _).trans (State.queue_congr (by simp))
    · extract_lets r1 r2
      have shown : (((s.putRound beam r2).opState k).showRound beam r2).eng = (s.putRound beam r2).eng :=
        (State.record_eng ..).trans (State.opState_eng ..)
      exact State.queue_congr (s := s.putRound beam r2) shown

/-- While the queue has room an entry with the next identifier goes to its end. -/
theorem State.queue_pushResult {s : State} (room : s.eng.results.length < 64) (beam slot op code tagErr : Nat) (r : Round)
    (data : Bytes) : ∃ e : ResEntry, e.id = s.eng.nextId ∧
      (s.pushResult beam slot op code tagErr r data).queue = (s.eng.results ++ [e], (s.eng.nextId + 1) % 2 ^ 32) := by
  unfold State.pushResult
  rw [if_neg (by omega)]
  extract_lets id e
  exact ⟨e, rfl, State.queue_congr (State.record_eng ..)⟩

/-- The end of an operation writes its result entry, and no other. -/
theorem State.queue_opEnds (s : State) (beam slot code tagErr : Nat) (r : Round) (data : Bytes) :
    (s.opEnds beam slot code tagErr r data).queue =
      (s.pushResult beam slot (s.get (Reg.OP_CODE slot)) code (if code = 3 then tagErr else 0xFF) r data).queue := by
  unfold State.opEnds
  extract_lets op s1 s2 s3 s4
  have counted : s2.queue = s1.queue := State.queue_congr (State.record_eng ..)
  have told : s3.queue = s2.queue := by
    unfold s3
    split <;> exact State.queue_congr (State.latch_eng ..)
  have shown : s4.queue = s3.queue := by
    unfold s4
    split
    · exact State.queue_armOp ..
    · exact State.queue_congr (State.opState_eng ..)
  have done := shown.trans (told.trans counted)
  split
  · exact (State.queue_congr (State.watch_eng ..)).trans done
  · exact done

/-- An operation that is over has put one entry with the next identifier in the result queue while it has room. -/
theorem State.queue_opOver {s : State} {n : Round} {k : Nat} {rest : List Nat} (ops : n.ops = k :: rest)
    (room : s.eng.results.length < 64) (beam code tagErr : Nat) (data : Bytes) : ∃ e : ResEntry, e.id = s.eng.nextId ∧
      (s.opOver beam n code tagErr data).queue = (s.eng.results ++ [e], (s.eng.nextId + 1) % 2 ^ 32) := by
  unfold State.opOver
  rw [ops]
  obtain ⟨e, id, pushed⟩ := State.queue_pushResult
    (s := s.putRound beam { n with stage := .turnOp, ops := rest, tries := 0 }) room beam k
    (s.get (Reg.OP_CODE k)) code (if code = 3 then tagErr else 0xFF) n data
  exact ⟨e, id, (State.queue_nextOp ..).trans ((State.queue_opEnds ..).trans pushed)⟩

/-! ### Replies to an operation's commands (R269) -/

@[simp] theorem Round.ops_sending (n : Round) : n.sending.ops = n.ops := by
  unfold Round.sending
  split <;> rfl

@[simp] theorem Round.ops_stepDone (n : Round) (d : Bytes) : (n.stepDone d).ops = n.ops := by
  unfold Round.stepDone
  split
  · rfl
  · extract_lets m
    rw [Round.ops_sending]
    split <;> rfl

@[simp] theorem Round.ops_again (n : Round) (retries : Nat) (r : TagReply) (st : OpStep) :
    (n.again retries r st).1.ops = n.ops := by
  unfold Round.again
  split
  · exact Round.ops_sending _
  · rfl

/-- A reply does not change which operation runs. -/
theorem Round.ops_answered (n : Round) (retries : Nat) (r : TagReply) : (n.answered retries r).1.ops = n.ops := by
  unfold Round.answered
  split
  · rfl
  · next st rest _ =>
    split
    · rfl
    · next d =>
      split
      · exact Round.ops_again ..
      · extract_lets fin
        split
        · split <;> simp
        · split <;> simp
        all_goals exact Round.ops_stepDone ..
    · exact Round.ops_again ..

theorem Round.ops_answers (n : Round) (retries : Nat) (got : Bytes) (replies : List TagReply) :
    (n.answers retries got replies).1.ops = n.ops := by
  induction replies generalizing n got with
  | nil => rfl
  | cons r rs ih =>
    have kept := n.ops_answered retries r
    unfold Round.answers
    split
    · next m d e out => simpa [out] using kept
    · next m d out => exact (ih m _).trans (by simpa [out] using kept)

/-! ### Access commands (R257, R269) -/

/-- ACCESS_REPLY_TIMEOUT with retries left and no end cause due: the command whose reply is awaited is sent again. -/
theorem exec_accessReplyTimeout_again {beam : Fin 4} {n : Round} {k : Nat} {st : OpStep} {rest : List OpStep} {s : State}
    (round : s.round beam = some n) (runs : n.opNow = some k) (awaited : (n.steps.dropWhile fun x => !x.delayed) = st :: rest)
    (left : (if n.steps = st :: rest then n.tries else 0) < s.get (Reg.OP_RETRIES k)) (free : n.due = none) :
    exec (.accessReplyTimeout beam) s = .next ((s.replyOver beam).putRound beam { n with
      steps := st :: rest, tries := (if n.steps = st :: rest then n.tries else 0) + 1,
      sent := n.sent ++ [st.cmd n.rn16 n.handle n.cover] }) := by
  show execAccessReplyTimeout beam s = _
  simp [execAccessReplyTimeout, round, runs, awaited, left, free, Round.sending]

/-- ACCESS_OP_END ends the operation that runs, with the access code that its replies give. -/
theorem exec_accessOpEnd {beam : Fin 4} {n : Round} {k : Nat} {rest : List Nat} {s : State}
    (round : s.round beam = some n) (stage : n.stage = .access) (ops : n.ops = k :: rest) (replies : List TagReply)
    (rx : List (Fin 16)) (pre : List PreMeas) :
    ∃ (u : State) (m : Round) (code tagErr : Nat) (data : Bytes), u.eng = s.eng ∧ m.ops = k :: rest ∧
      exec (.accessOpEnd beam replies rx pre) s = .next (u.opOver beam m code tagErr data) := by
  have runs : n.opNow = some k := by simp [Round.opNow, stage, ops]
  show ∃ u m code tagErr data, _ ∧ _ ∧ execAccessOpEnd beam replies rx pre s = _
  simp only [execAccessOpEnd, round, runs]
  generalize closed : (((rx.map Fin.val).foldl State.decodedOn ((s.accessChecks replies).decision beam)).combineAll beam
    pre).replyOver beam = u
  have engine : u.eng = s.eng := by
    rw [← closed]
    simp [State.foldl_eng State.decodedOn_eng]
  split
  · next m d code err out =>
    exact ⟨u, m, code, err, _, engine, (congrArg (fun r => r.1.ops) out).symm.trans ((n.ops_answers ..).trans ops), rfl⟩
  · next m d out =>
    exact ⟨u, m, 7, 0xFF, [], engine, (congrArg (fun r => r.1.ops) out).symm.trans ((n.ops_answers ..).trans ops), rfl⟩

/-! ### Arming and release (R273, R277) -/

theorem SameBut.opState (s : State) (k : Nat) : SameBut [Reg.OP_STATE k, Reg.OP_SEQ k] s (s.opState k) := by
  unfold State.opState
  extract_lets v
  split
  · exact SameBut.refl ..
  · exact SameBut.record (by simp) (by simp)

/-- Arming and disarming show in OP_STATE alone (Table 7.8). -/
theorem SameBut.armOp (s : State) (k : Nat) (on : Bool) :
    SameBut [Reg.OP_STATE k, Reg.OP_SEQ k] s { s.armOp k on with eng := s.eng } := by
  obtain ⟨kept, rest⟩ := SameBut.opState { s with eng := { s.eng with armed := putBit s.eng.armed k on } } k
  exact ⟨kept, congrArg (fun x : State => { x with eng := s.eng }) rest⟩

theorem State.armed_armOp (s : State) (k : Nat) (on : Bool) : bit (s.armOp k on).eng.armed k = on := by
  unfold State.armOp
  rw [State.opState_eng]
  exact bit_putBit_self ..

/-- A served request that arms or disarms a slot is answered OK. -/
theorem armRequest {s : State} {l : Link} {k v : Nat} {on : Bool} (serves : Serves s l false)
    (work : s.opArm k v = (.ok, s.armOp k on)) :
    Answered (s.request l false fun t => t.opArm k v) l .ok ∧
      bit (s.request l false fun t => t.opArm k v).eng.armed k = on ∧
      SameButAnswer l [Reg.OP_STATE k, Reg.OP_SEQ k] s { s.request l false (fun t => t.opArm k v) with eng := s.eng } := by
  rw [State.request_quiet serves work ((Quiet.refl s).armOp k on)]
  exact ⟨State.answered_answer .., s.armed_armOp k on, (SameBut.armOp s k on).answer l .ok⟩

/-- OP_ARM with a fitting slot, no commit in progress and an operation code arms. -/
theorem State.opArm_arms {s : State} {k : Nat} (fits : s.opFits k = true) (commit : s.get Reg.COMMIT_STATE = 0)
    (code : s.get (Reg.OP_CODE k) ≠ 0) : s.opArm k 1 = (.ok, s.armOp k true) := by
  unfold State.opArm
  rw [if_neg (by decide)]
  refine checks_pass fun p mem => ?_
  simp only [List.mem_cons, List.not_mem_nil, or_false] at mem
  obtain rfl | rfl | rfl := mem
  · simp [fits]
  · simp [commit]
  · simp [code]

/-- The release of the oldest entry takes it off the queue. -/
theorem State.resultRelease_oldest {s : State} {id : Nat} {e : ResEntry} {rest : List ResEntry}
    (queue : s.eng.results = e :: rest) (oldest : e.id = id) :
    s.resultRelease id = (.ok, ({ s with eng := { s.eng with results := rest } } : State).resultsChanged) := by
  unfold State.resultRelease
  rw [checks_pass (by simp [queue, oldest]), queue, List.tail_cons]

theorem Quiet.resultsChanged {s t : State} (h : Quiet s t) : Quiet s t.resultsChanged := (h.putDom ..).record ..

/-- RESULT_COUNT follows the queue. -/
theorem State.get_resultsChanged (s : State) : s.resultsChanged.get Reg.RESULT_COUNT = s.eng.results.length :=
  State.get_record_one _ _ (by decide)

/-- RESULT_COUNT and its group are the only numbers that follow the queue. -/
theorem SameBut.resultsChanged (s : State) (results : List ResEntry) :
    SameBut [Reg.RESULT_COUNT, Reg.RESQ_SEQ] s
      { ({ s with eng := { s.eng with results := results } } : State).resultsChanged with eng := s.eng, doms := s.doms } :=
  SameBut.record (s := s) (q := Reg.RESQ_SEQ) (l := [(Reg.RESULT_COUNT, results.length)]) (by simp) (by simp)

/-- Settles O23, by the round that a repeat leaves, the one entry that an operation's end writes, and the requests' answers. -/
theorem accessOperationsAndResults : Obligations.AccessOperationsAndResults := by
  refine ⟨fun beam n k st rest s round runs awaited left free => ?_,
    fun beam replies rx pre n k rest s round stage ops room => ?_, fun l slot s serves fits commit code => ?_,
    fun l slot s serves => ?_, fun l id e rest s serves queue oldest => ?_⟩
  · exact ⟨_, exec_accessReplyTimeout_again round runs awaited left free, State.round_putRound_self ..,
      ((SameButReply.refl [] s).replyOver beam).putRound ..⟩
  · obtain ⟨u, m, code, tagErr, data, engine, ops', run⟩ := exec_accessOpEnd round stage ops replies rx pre
    obtain ⟨e, id, queue⟩ := State.queue_opOver ops' (by rwa [engine]) beam code tagErr data
    rw [engine] at id queue
    obtain ⟨results, nextId⟩ := Prod.mk.inj queue
    exact ⟨_, run, ⟨e, results, id⟩, nextId⟩
  · exact ⟨_, rfl, armRequest serves (State.opArm_arms fits commit code)⟩
  · exact ⟨_, rfl, armRequest serves rfl⟩
  · have work := State.resultRelease_oldest queue oldest
    refine ⟨_, congrArg Host.Outcome.next (State.request_quiet serves work ((Quiet.refl s).eng _).resultsChanged),
      State.answered_answer .., by simp [State.resultsChanged], ?_, (SameBut.resultsChanged s rest).answer l .ok⟩
    exact (State.get_answer_apart _ _ _ (by decide)).trans (State.get_resultsChanged _)

end Sys2Proof.Machine
end

section
/-! SUPPORT. What reporting leaves to localisation and the tracker, the equations of the four commands of chapter 8 (R279, R280,
R294, R300, R302), and the statement settled with them. -/

namespace Sys2Proof.Machine

/-- The reads that wait, the located ones and the tracker of `s` stand in `t` as they were. -/
structure KeepsReads (s t : State) : Prop where
  reads : t.rep.reads = s.rep.reads
  joins : t.rep.joins = s.rep.joins
  trk : t.trk = s.trk

theorem KeepsReads.refl (s : State) : KeepsReads s s := ⟨rfl, rfl, rfl⟩

section
variable {s t : State} (h : KeepsReads s t)
include h

/-! ### Objects, events and streams -/

/-- An update beside the reads and the tracker leaves them. -/
theorem KeepsReads.congr {u : State} (reads : u.rep.reads = t.rep.reads) (joins : u.rep.joins = t.rep.joins)
    (trk : u.trk = t.trk) : KeepsReads s u :=
  ⟨reads.trans h.reads, joins.trans h.joins, trk.trans h.trk⟩

theorem KeepsReads.ite {c : Prop} [Decidable c] {u : State} (g : KeepsReads s u) : KeepsReads s (if c then t else u) := by
  split
  · exact h
  · exact g

theorem KeepsReads.foldl {α : Type} (l : List α) {f : State → α → State}
    (step : ∀ u a, KeepsReads s u → KeepsReads s (f u a)) : KeepsReads s (l.foldl f t) :=
  List.foldlRecOn l f h fun u hu a _ => step u a hu

theorem KeepsReads.put (k v : Nat) : KeepsReads s (t.put k v) := h.congr rfl rfl rfl

theorem KeepsReads.seq (q : Nat) : KeepsReads s (t.seq q) := h.put ..

theorem KeepsReads.bump (k : Nat) : KeepsReads s (t.bump k) := h.put ..

theorem KeepsReads.addWide (lo n : Nat) : KeepsReads s (t.addWide lo n) := (h.put ..).put ..

theorem KeepsReads.record (q : Nat) (l : List (Nat × Nat)) : KeepsReads s (t.record q l) :=
  h.congr (by simp) (by simp) (by simp)

theorem KeepsReads.latch (e a b : Nat) : KeepsReads s (t.latch e a b) := h.congr (by simp) (by simp) (by simp)

theorem KeepsReads.updStream (i : Nat) (f : Stream → Stream) : KeepsReads s (t.updStream i f) := h.congr rfl rfl rfl

/-! ### The archive and the queues (R335, R367 to R376) -/

theorem KeepsReads.recordsLost (key : Nat) : KeepsReads s (t.recordsLost key) := h.ite (h.latch ..)

theorem KeepsReads.fillChanged (i : Nat) : KeepsReads s (t.fillChanged i) := by
  unfold State.fillChanged
  extract_lets _ _ _ _ _ s2
  have shown : KeepsReads s s2 := ((h.record ..).record ..).updStream ..
  exact ((shown.put ..).latch ..).ite shown

theorem KeepsReads.loseMarks (i q : Nat) : KeepsReads s (t.loseMarks i q) :=
  h.foldl _ fun _ _ hu => ((hu.record ..).latch ..).ite hu

theorem KeepsReads.dropOldest (p : Pkt) : KeepsReads s (t.dropOldest p) := by
  unfold State.dropOldest
  extract_lets _ s1 _ _ _ s3
  have cut : KeepsReads s s1 := h.congr rfl rfl rfl
  have gone : KeepsReads s s3 := (cut.loseMarks ..).updStream ..
  exact (((gone.addWide ..).seq ..).recordsLost ..).ite gone

theorem KeepsReads.makeRoom (room : Nat) (l : List Pkt) : KeepsReads s (t.makeRoom room l) := by
  induction l generalizing t with
  | nil => exact h
  | cons p r ih => exact h.ite (ih (h.dropOldest p))

theorem KeepsReads.toArchive (p : Pkt) : KeepsReads s (t.toArchive p) := by
  unfold State.toArchive
  extract_lets _ _ _ _ _ _ s2
  have archived : KeepsReads s s2 := (h.makeRoom ..).congr rfl rfl rfl
  exact (archived.latch ..).ite archived

/-! ### Packets and records (R349, R354 to R360, R368) -/

theorem KeepsReads.placePkt (p : Pkt) : KeepsReads s (t.placePkt p) := by
  unfold State.placePkt
  extract_lets _ _ _ _ _ _ _ _ _ s2
  have queued : KeepsReads s s2 := (h.ite (h.toArchive ..)).updStream ..
  exact (queued.ite ((queued.bump ..).seq ..)).fillChanged ..

theorem KeepsReads.closeOne (i kind : Nat) : KeepsReads s (t.closeOne i kind) := by
  unfold State.closeOne
  split
  · exact h
  · exact ((h.updStream ..).record ..).placePkt ..

theorem KeepsReads.closePkt (i kind : Nat) : KeepsReads s (t.closePkt i kind) :=
  ((h.closeOne ..).closeOne ..).ite (h.closeOne ..)

theorem KeepsReads.offer (i : Nat) (tiers : List Nat) (kind size : Nat) (tags : List Nat) :
    KeepsReads s (t.offer i tiers kind size tags) :=
  h.updStream ..

theorem KeepsReads.place (i kind size time : Nat) (tags : List Nat) (baseRecs : Nat) (mk : Nat → Bytes) :
    KeepsReads s (t.place i kind size time tags baseRecs mk) :=
  ((h.closePkt ..).ite h).updStream ..

theorem KeepsReads.lost (i n : Nat) : KeepsReads s (t.lost i n) := (h.addWide ..).seq ..

theorem KeepsReads.carry (i : Nat) (r : Read) (l : Loc) (first : Bool) : KeepsReads s (t.carry i r l first) := by
  unfold State.carry
  extract_lets _ _ _ s1 _ s3
  have offered : KeepsReads s s1 := h.offer ..
  have summed : KeepsReads s s3 := (offered.ite (offered.offer ..)).updStream ..
  have unindexed := ((summed.addWide (Reg.LOST_UNINDEXED_LO i) 1).seq (Reg.LOSS_SEQ i)).recordsLost (Reg.LOST_UNINDEXED_LO i)
  exact (summed.place ..).ite (unindexed.ite
    ((((summed.lost ..).ite summed).place ..).ite ((summed.lost ..).ite summed)))

theorem KeepsReads.toHot (r : Read) (l : Loc) (first : Bool) : KeepsReads s (t.toHot r l first) := by
  unfold State.toHot
  extract_lets
  refine KeepsReads.record ?_ ..
  exact h.congr rfl rfl rfl

theorem KeepsReads.report (r : Read) (l : Loc) : KeepsReads s (t.report r l) := by
  unfold State.report
  extract_lets first s1 _ s2
  have hot : KeepsReads s s1 := h.toHot ..
  have seen : KeepsReads s s2 := by
    unfold s2
    split
    · exact hot.congr rfl rfl rfl
    · exact hot
  exact seen.foldl _ fun _ _ hu => hu.carry ..

theorem KeepsReads.reportPassage (body : Bytes) (tag reads : Nat) : KeepsReads s (t.reportPassage body tag reads) :=
  h.foldl _ fun _ _ hu => (hu.offer ..).place ..

/-- Publication of an interval that the tracker has let go (R302). -/
theorem KeepsReads.publish (i : Ival) : KeepsReads s (t.publish i) :=
  ((h.foldl _ fun _ _ hu => hu.record ..).record ..).latch ..

end

/-! ### Localisation (R280 to R291) -/

section
variable (s : State) (reads : List Read)

/-! Localisation reads the objects, the open tracks and the located reads, and none of the reads that wait. -/

theorem State.bestDirection_reads (khz : Nat) (c : List ChainMeas) (both : Bool) :
    ({ s with rep := { s.rep with reads := reads } } : State).bestDirection khz c both = s.bestDirection khz c both := by
  rfl

theorem State.rangeOf_reads (r : Read) (phi : Int) :
    ({ s with rep := { s.rep with reads := reads } } : State).rangeOf r phi = s.rangeOf r phi := by
  rfl

theorem State.placeRead_reads (r : Read) (c : List ChainMeas) (az el : Int) (l : Loc) :
    ({ s with rep := { s.rep with reads := reads } } : State).placeRead r c az el l = s.placeRead r c az el l := by
  simp only [State.placeRead, State.rangeOf_reads]
  rfl

theorem State.locate_reads (r : Read) :
    ({ s with rep := { s.rep with reads := reads } } : State).locate r = s.locate r := by
  simp only [State.locate, State.bestDirection_reads, State.placeRead_reads]
  rfl

end

/-- A located read stands last among those that the tracker has still to join, and the reads that wait are the same. -/
theorem State.locateOne_rep (s : State) (r : Read) : (s.locateOne r).rep.reads = s.rep.reads ∧
    (s.locateOne r).rep.joins = s.rep.joins ++ [(r, s.locate r)] := by
  unfold State.locateOne
  extract_lets l s1 s2
  have shown : KeepsReads s s1 := ((KeepsReads.refl s).record ..).record ..
  have reported : KeepsReads s s2 := shown.report r l
  exact ⟨reported.reads, congrArg (· ++ [(r, l)]) reported.joins⟩

/-! ### The tracker (R280, R294, R300) -/

/-- The only located read joins the one open track, which is its tag's. -/
theorem State.joinOne_onlyTrack {s : State} {r : Read} {x : Loc} {k : Track} (joins : s.rep.joins = [(r, x)])
    (indexed : bit r.tag 31 = false) (tracks : s.trk.tracks = [k]) (tag : k.tag = r.tag) :
    s.joinOne = { s with rep := { s.rep with joins := [] }, trk := { s.trk with tracks := [k.take r x] } } := by
  simp [State.joinOne, joins, earliest, State.join, indexed, State.withTrack, tracks, tag]

/-- A track that closes leaves the others open. -/
theorem State.mem_tracks_closeTrack (s : State) (t : Track) (flag : Nat) (x : Track) :
    x ∈ (s.closeTrack t flag).trk.tracks ↔ x ∈ s.trk.tracks ∧ x.tag ≠ t.tag := by
  have kept : (s.closeTrack t flag).trk.tracks = s.trk.tracks.filter fun y => y.tag != t.tag :=
    congrArg Trk.tracks (((((KeepsReads.refl _).record ..).record ..).latch ..).reportPassage ..).trk
  simp [kept]

/-- TRACK_CLOSE_GAP of a tag with an open track closes a track of that tag. -/
theorem exec_trackCloseGap {s : State} {k : Track} {tag : BitVec 32} (mem : k ∈ s.trk.tracks) (tagged : k.tag = tag.toNat) :
    ∃ t : Track, t.tag = tag.toNat ∧ exec (.trackCloseGap tag) s = .next (s.closeTrack t 0) := by
  show ∃ t : Track, _ ∧ execTrackCloseGap tag s = _
  unfold execTrackCloseGap
  split
  · next absent => simpa [tagged] using List.find?_eq_none.1 absent k mem
  · next t found => exact ⟨t, by simpa using List.find?_some found, rfl⟩

/-! ### Count intervals (R302) -/

/-- No interval follows the one in progress before it has ended. -/
theorem State.rollIvals_of_lt {s : State} {i : Ival} (last : s.trk.ivals.getLast? = some i) (before : s.tim.now < i.stop) :
    s.rollIvals = s := by
  simp [State.rollIvals, last, before]

/-- COUNT_INTERVAL_PUBLISH, while a later interval is in progress, publishes the oldest that is due. -/
theorem exec_countIntervalPublish {s : State} {i : Ival} {rest : List Ival} (ivals : s.trk.ivals = i :: rest)
    (due : i.stop + (s.get Reg.CLOSE_GAP_MS + 10) * 40000 ≤ s.tim.now)
    (progress : (rest.getLast?.any fun x => decide (s.tim.now < x.stop)) = true) :
    exec (.countIntervalPublish) s =
      .next (({ s with trk := { s.trk with ivals := rest } } : State).publish i) := by
  obtain ⟨x, last, before⟩ := (Option.any_eq_true _ _).1 progress
  have rolled : s.rollIvals = s :=
    State.rollIvals_of_lt (i := x) (by simp [ivals, List.getLast?_cons, last]) (by simpa using before)
  show execCountIntervalPublish s = _
  simp [execCountIntervalPublish, rolled, ivals, due]

/-- An interval is published with its bounds and its flag, none of which event 38 writes. -/
theorem State.publish_shows (s : State) (i : Ival) :
    (s.publish i).get Reg.INTERVAL_START = i.start ∧ (s.publish i).get Reg.INTERVAL_END = i.stop ∧
      (s.publish i).get Reg.INTERVAL_FLAGS = ofBool i.short ∧ (s.publish i).latched 38 = true := by
  have members : [Reg.COUNT_SEQ, Reg.INTERVAL_START, Reg.INTERVAL_END, Reg.CNT_UNASSIGNED, Reg.CNT_PARTIAL, Reg.CNT_LATE,
    Reg.INTERVAL_FLAGS, Reg.INTERVAL_NUMBER].Nodup := by decide
  unfold State.publish
  extract_lets s1
  refine ⟨?_, ?_, ?_, State.latched_latch ..⟩
  all_goals
    rw [State.get_latch_ne _ _ _ _ (by decide)]
    exact State.get_record_of_mem _ members (by simp)

/-- Settles O24, by what reporting and publication leave to localisation and the tracker. -/
theorem readsAreLocatedAndTracked : Obligations.ReadsAreLocatedAndTracked := by
  refine ⟨fun r s waiting => ⟨s.locateAll, rfl, ?_⟩, fun r x k s joins indexed tracks tag => ⟨s.joinOne, rfl, ?_⟩,
    fun tag k s mem tagged => ?_, fun i rest s ivals due progress => ?_⟩
  · rw [State.locateAll, waiting]
    obtain ⟨reads, joins⟩ := State.locateOne_rep { s with rep := { s.rep with reads := [] } } r
    rw [State.locate_reads] at joins
    exact ⟨reads, joins⟩
  · rw [State.joinOne_onlyTrack joins indexed tracks tag]
    exact ⟨rfl, rfl, rfl⟩
  · obtain ⟨t, closed, run⟩ := exec_trackCloseGap mem tagged
    exact ⟨_, run, fun x => closed ▸ s.mem_tracks_closeTrack t 0 x⟩
  · have kept := (KeepsReads.refl { s with trk := { s.trk with ivals := rest } }).publish i
    exact ⟨_, exec_countIntervalPublish ivals due progress, congrArg Trk.ivals kept.trk, State.publish_shows _ i⟩

end Sys2Proof.Machine
end

section
/-! SUPPORT. What the judging of the goals, the taking back of what is offered and the making of a plan leave, and the objects
that a plan in force shows (R309, R316, R325, R331, Table 9.6). -/

namespace Sys2Proof.Machine

/-! ### Device time -/

/-- What a plan boundary leaves until its plan is built: beside what is quiet, device time. -/
structure OnTime (s t : State) : Prop where
  quiet : Quiet s t
  tim : t.tim = s.tim

theorem OnTime.refl (s : State) : OnTime s s := ⟨Quiet.refl s, rfl⟩

section
variable {s t : State} (h : OnTime s t)
include h

theorem OnTime.ite {c : Prop} [Decidable c] {u : State} (g : OnTime s u) : OnTime s (if c then t else u) := by
  split
  · exact h
  · exact g

theorem OnTime.foldl {α : Type} (l : List α) {f : State → α → State} (step : ∀ u a, OnTime s u → OnTime s (f u a)) :
    OnTime s (l.foldl f t) :=
  List.foldlRecOn l f h fun u hu a _ => step u a hu

theorem OnTime.val (v : Val) : OnTime s { t with val := v } := ⟨h.quiet.val v, h.tim⟩
theorem OnTime.updQuad (q : Nat) (f : Quad → Quad) : OnTime s (t.updQuad q f) := ⟨h.quiet.updQuad q f, h.tim⟩
theorem OnTime.updChain (c : Nat) (f : Chain → Chain) : OnTime s (t.updChain c f) := ⟨h.quiet.updChain c f, h.tim⟩

theorem OnTime.record (q : Nat) (l : List (Nat × Nat)) : OnTime s (t.record q l) :=
  ⟨h.quiet.record q l, (State.record_tim ..).trans h.tim⟩

theorem OnTime.recordIf (q : Nat) (l : List (Nat × Nat)) : OnTime s (t.recordIf q l) := OnTime.ite h (h.record q l)

theorem OnTime.latch (e a b : Nat) : OnTime s (t.latch e a b) := ⟨h.quiet.latch e a b, (State.latch_tim ..).trans h.tim⟩

theorem OnTime.goals (z : Nat) : OnTime s (t.goals z) := by
  unfold State.goals
  extract_lets now _ s1 v rate s2 s3 goal lat slow late miss _ s4
  have shown : OnTime s s3 := ((h.val _).record ..).recordIf ..
  have judged : OnTime s s4 := shown.val _
  exact ((judged.latch ..).ite (judged.latch ..)).ite judged

theorem OnTime.quadBack (q cause : Nat) : OnTime s (t.quadBack q cause) := ((h.record ..).updQuad ..).ite h

theorem OnTime.takeOffered : OnTime s t.takeOffered :=
  ((h.foldl _ fun _ q hu => hu.quadBack q 5).foldl _ fun _ _ hu => hu.updQuad ..).foldl _ fun _ _ hu => hu.updChain ..

end

/-! ### The objects of a plan (Table 9.6) -/

/-- Every object but the two of the plan's group that tell its time and its correction. -/
def OtherThanPlan (k : Nat) : Prop := k ≠ Reg.PLAN_TIME ∧ k ≠ Reg.MEAS_CORR

theorem State.get_val (s : State) (v : Val) (k : Nat) : ({ s with val := v } : State).get k = s.get k := rfl

section
variable {s t : State} (h : Writes OtherThanPlan s t)
include h

theorem Writes.latch_planned (e a b : Nat) : Writes OtherThanPlan s (t.latch e a b) := by
  have outside : ∀ k, ¬ OtherThanPlan k → k ∉ eventKeys := fun k plan mem => by
    refine plan ⟨?_, ?_⟩ <;> rintro rfl
    · exact absurd mem (by decide)
    · exact absurd mem (by decide)
  exact ⟨fun k hk => (State.get_latch_ne _ _ _ _ (outside k hk)).trans (h.get k hk)⟩

theorem Writes.val_planned (v : Val) : Writes OtherThanPlan s { t with val := v } := h.congr rfl rfl rfl

theorem Writes.quadBack (q cause : Nat) : Writes OtherThanPlan s (t.quadBack q cause) := by
  have apart : OtherThanPlan (Reg.QSTATE_SEQ q) ∧ OtherThanPlan (Reg.QUAD_STATE q) ∧
      OtherThanPlan (Reg.QUAD_OUT_CAUSE q) := by
    simp only [OtherThanPlan, Reg.QSTATE_SEQ, Reg.QUAD_STATE, Reg.QUAD_OUT_CAUSE, Reg.PLAN_TIME, Reg.MEAS_CORR]
    omega
  obtain ⟨seq, state, cause⟩ := apart
  exact ((h.record seq (by simpa using ⟨state, cause⟩)).updQuad ..).ite h

theorem Writes.takeOffered : Writes OtherThanPlan s t.takeOffered :=
  ((h.foldl _ fun _ q hu => hu.quadBack q 5).foldl _ fun _ _ hu => hu.updQuad ..).foldl _ fun _ _ hu => hu.updChain ..

theorem Writes.showZones (served : List Nat) : Writes OtherThanPlan s (t.showZones served) := by
  refine h.foldl _ fun u z hu => ?_
  have apart : OtherThanPlan (Reg.ZS_SEQ z) ∧ OtherThanPlan (Reg.ZS_STATE z) := by
    simp only [OtherThanPlan, Reg.ZS_SEQ, Reg.ZS_STATE, Reg.PLAN_TIME, Reg.MEAS_CORR]
    omega
  exact hu.recordIf apart.1 (by simpa using apart.2)

theorem Writes.budgetEvents (step : Nat) : Writes OtherThanPlan s (t.budgetEvents step) := by
  have apart : OtherThanPlan Reg.FAULT_SEQ ∧ OtherThanPlan Reg.FAULT_ACTIVE ∧ OtherThanPlan Reg.FAULT_SEEN ∧
      OtherThanPlan Reg.FAULT_LAST := by
    unfold OtherThanPlan
    decide
  obtain ⟨seq, active, seen, last⟩ := apart
  unfold State.budgetEvents
  extract_lets b ps act s1 _ s2
  have shown : Writes OtherThanPlan s s1 :=
    (h.recordIf seq (by simpa using ⟨active, seen⟩)).ite (h.recordIf seq (by simpa using active))
  have derated : Writes OtherThanPlan s s2 :=
    (((shown.val_planned _).record seq (by simpa using last)).latch_planned ..).ite ((shown.val_planned _).ite shown)
  exact ((derated.val_planned _).latch_planned ..).ite ((derated.val_planned _).ite derated)

end

/-- A plan in force shows the present time, and leaves the correction it was built with. -/
theorem State.usePlan_shows (s : State) (p : Plan) :
    (s.usePlan p).get Reg.PLAN_TIME = s.tim.now ∧ (s.usePlan p).get Reg.MEAS_CORR = s.get Reg.MEAS_CORR := by
  unfold State.usePlan
  extract_lets crcIn tab s1 _ s2
  have held : Writes OtherThanPlan s1 s2 := (Writes.refl _ s1).val_planned _
  have follows := (held.budgetEvents p.step).showZones ((p.dwells.filter fun d => d.khz != 0).map fun d => d.zone)
  rw [follows.get _ (by simp [OtherThanPlan]), follows.get _ (by simp [OtherThanPlan])]
  refine ⟨State.get_record_of_mem _ ?_ (by simp), State.get_record_ne _ (by decide) ?_⟩
  · simp only [List.map_cons, List.map_nil]
    decide
  · simp only [List.forall_mem_cons]
    decide

/-- The correction set reads back (R325). -/
theorem State.correct_shows (s : State) (v : Nat) : (s.correct v).get Reg.MEAS_CORR = v := State.get_recordIf_one _ _ (by decide)

/-! ### The boundary in RUN (R309) -/

/-- The state of which a boundary in RUN builds its plan: the goals judged, the correction taken, and what is offered and the
probes that are due taken in. -/
def State.beforePlan (s : State) (mw : Nat) : State :=
  let s1 := s.enabledZones.foldl State.goals s
  let s2 := s1.correct (max 922 (min 1331 (s1.powerRatio mw)))
  s2.chainList.foldl State.probesDue s2.takeOffered

theorem exec_planBoundary_run {s : State} (mw : BitVec 16) (run : s.mode = .run) :
    exec (.planBoundary mw) s = .next (s.beforePlan mw.toNat).replan :=
  if_neg (by simp [run])

theorem State.beforePlan_keeps (s : State) (mw : Nat) :
    OnTime s (s.beforePlan mw) ∧ 922 ≤ (s.beforePlan mw).get Reg.MEAS_CORR ∧ (s.beforePlan mw).get Reg.MEAS_CORR ≤ 1331 := by
  unfold State.beforePlan
  extract_lets s1 s2
  have corrected : OnTime s s2 := ((OnTime.refl s).foldl _ fun _ z hu => hu.goals z).recordIf ..
  have kept : Writes OtherThanPlan s2 (s2.chainList.foldl State.probesDue s2.takeOffered) :=
    (Writes.refl _ s2).takeOffered.foldl _ fun _ _ hu => hu.updChain ..
  refine ⟨corrected.takeOffered.foldl _ fun _ _ hu => hu.updChain .., ?_⟩
  rw [kept.get _ (by simp [OtherThanPlan]), State.correct_shows]
  omega

theorem State.replan_run {s : State} (run : s.mode = .run) : s.replan = s.usePlan (s.buildPlan none false) := if_pos run

/-! ### The boundary outside RUN (R331, Table 9.5) -/

theorem exec_planBoundary_idle {s : State} (mw : BitVec 16) (idle : s.mode ≠ .run) :
    exec (.planBoundary mw) s = .next s.takeOffered :=
  if_pos (by simpa using idle)

theorem Tunes.takeOffered {s t : State} (h : Tunes s t) : Tunes s t.takeOffered :=
  ((h.foldl _ fun _ q hu => hu.quadBack q 5).foldl _ fun _ _ hu => hu.updQuad ..).foldl _ fun _ _ hu => hu.updChain ..

/-- What the step of one member brings about, and no other step undoes, holds after all of them. -/
theorem foldl_brings {α : Type} {l : List α} {a : α} {f : State → α → State} {P : State → Prop} (s : State) (mem : a ∈ l)
    (brings : ∀ u, P (f u a)) (keeps : ∀ u b, P u → P (f u b)) : P (l.foldl f s) := by
  obtain ⟨before, after, rfl⟩ := List.append_of_mem mem
  rw [List.foldl_append, List.foldl_cons]
  exact List.foldlRecOn after f (brings _) fun u hu b _ => keeps u b hu

/-- A quad that is not OUT for cause `c`. -/
def State.notOutFor (s : State) (q c : Nat) : Prop := s.get (Reg.QUAD_STATE q) = 5 → s.get (Reg.QUAD_OUT_CAUSE q) ≠ c

theorem State.quadBack_notOutFor (s : State) (q c : Nat) : (s.quadBack q c).notOutFor q c := by
  unfold State.notOutFor State.quadBack
  split
  · have back : ((s.record (Reg.QSTATE_SEQ q) [(Reg.QUAD_STATE q, 0), (Reg.QUAD_OUT_CAUSE q, 0)]).updQuad q fun x =>
        { x with offered := true }).get (Reg.QUAD_STATE q) = 0 :=
      State.get_record_of_mem s (by simp [Reg.QSTATE_SEQ, Reg.QUAD_STATE, Reg.QUAD_OUT_CAUSE]) (by simp)
    rw [back]
    exact fun out => absurd out (by decide)
  · next other => simpa using other

theorem State.get_quadBack_ne (s : State) {b k : Nat} (c : Nat) (seq : k ≠ Reg.QSTATE_SEQ b) (state : k ≠ Reg.QUAD_STATE b)
    (cause : k ≠ Reg.QUAD_OUT_CAUSE b) : (s.quadBack b c).get k = s.get k := by
  unfold State.quadBack
  split
  · exact State.get_record_ne s seq (by simpa using ⟨state.symm, cause.symm⟩)
  · rfl

theorem State.notOutFor_quadBack {s : State} {q c : Nat} (h : s.notOutFor q c) (b : Nat) : (s.quadBack b c).notOutFor q c := by
  by_cases same : b = q
  · rw [same]
    exact s.quadBack_notOutFor q c
  · unfold State.notOutFor
    rw [State.get_quadBack_ne, State.get_quadBack_ne]
    · exact h
    all_goals
      simp only [Reg.QUAD_STATE, Reg.QUAD_OUT_CAUSE, Reg.QSTATE_SEQ]
      omega

theorem State.quadBack_variant (s : State) (q c : Nat) : (s.quadBack q c).variant = s.variant := by
  unfold State.quadBack
  split <;> simp

/-- A present quad is no longer offered, and is not OUT for the host's pin unless the pin holds it out. -/
theorem State.takeOffered_back {s : State} {q : Nat} (mem : q ∈ s.quadList) :
    (s.takeOffered.quad q).offered = false ∧
    (bit (s.get Reg.PIN_QUAD_OUT) q = false → s.takeOffered.notOutFor q 5) := by
  unfold State.takeOffered
  extract_lets s1 s2
  have listed : s1.quadList = s.quadList := congrArg (fun v => List.range (Variant.quads v))
    (List.foldlRecOn (motive := fun t : State => t.variant = s.variant) _ _ rfl
      fun u kept p _ => (u.quadBack_variant p 5).trans kept)
  have quads : (s2.chainList.foldl (fun t c => t.updChain c fun x => { x with offered := false }) s2).quads = s2.quads :=
    State.quads_foldl _ _ fun _ _ => rfl
  have objects : Writes (fun _ => False) s1
      (s2.chainList.foldl (fun t c => t.updChain c fun x => { x with offered := false }) s2) :=
    ((Writes.refl _ s1).foldl _ fun _ _ hu => hu.updQuad ..).foldl _ fun _ _ hu => hu.updChain ..
  constructor
  · rw [State.quad_congr quads]
    refine foldl_brings (P := fun t => (t.quad q).offered = false) s1 (listed ▸ mem)
      (fun u => by rw [State.quad_updQuad_self]) fun u b taken => ?_
    by_cases same : q = b
    · rw [same, State.quad_updQuad_self]
    · rw [State.quad_updQuad_ne _ _ same]
      exact taken
  · intro free
    unfold State.notOutFor
    rw [objects.get _ id, objects.get _ id]
    exact foldl_brings (P := fun t => t.notOutFor q 5) s (List.mem_filter.2 ⟨mem, by simp [free]⟩)
      (fun u => u.quadBack_notOutFor q 5) fun u b kept => State.notOutFor_quadBack kept b

/-! ### The measured power (R325) -/

/-- The correction that an excess of the measured power calls for. -/
def State.raisedCorr (s : State) (mw : Nat) : Nat := max (s.get Reg.MEAS_CORR) (min 1331 (s.powerRatio mw))

theorem exec_powerMeasure_over {s : State} {mw : BitVec 16} (run : s.mode = .run)
    (excess : 105 * s.get Reg.BUDGET_MW < 100 * mw.toNat) :
    exec (.powerMeasure mw) s = .next ((s.correct (s.raisedCorr mw.toNat)).replanNow none false) :=
  if_pos (by simp [run, excess])

/-- A plan that waits for the round boundaries of the gangs that run is in force at once. -/
theorem State.replanNow_shows (s : State) (lost : Option Nat) (fallback : Bool) :
    (s.replanNow lost fallback).get Reg.PLAN_TIME = s.tim.now ∧
    (s.replanNow lost fallback).get Reg.MEAS_CORR = s.get Reg.MEAS_CORR := by
  unfold State.replanNow
  extract_lets _ p u on
  obtain ⟨time, corr⟩ := s.usePlan_shows p
  exact ⟨(u.get_val ..).trans time, (u.get_val ..).trans corr⟩

end Sys2Proof.Machine
end

section
/-! SUPPORT. How a dwell ends, and how one starts on a quad that must retune (R171, R315, R320), with the statement settled with
them. -/

namespace Sys2Proof.Machine

/-! ### The end of a dwell (R315) -/

section
variable {s t : State} (h : Tunes s t)
include h

theorem Tunes.rampDown (c : Nat) : Tunes s (t.rampDown c) := (((h.keepFwd c).record ..).updChain ..).ite h

theorem Tunes.rampQuad (q : Nat) : Tunes s (t.rampQuad q) := h.foldl _ fun _ c hu => hu.rampDown c

theorem Tunes.startCal (q : Nat) : Tunes s (t.startCal q) := (((h.rampQuad q).phaseless q).updQuad ..).record ..

end

theorem State.closeDwell_running {s : State} {l : Nat} {r : Running} (running : s.running l = some r) :
    (s.closeDwell l).running l = none := by
  unfold State.closeDwell
  rw [running]
  exact Tab.find_del_self ..

/-- A dwell that ends is over for its leader, and what its quads then do is quiet. -/
theorem State.endDwell_ends {s : State} {l : Nat} {r : Running} (running : s.running l = some r) :
    (s.endDwell l).running l = none ∧ (s.endDwell l).mode = s.mode := by
  have idle := State.closeDwell_running running
  have closed : Quiet s (s.closeDwell l) := (Quiet.refl s).closeDwell l
  have done : Tunes (s.closeDwell l) (s.endDwell l) := by
    unfold State.endDwell
    rw [running]
    exact ((Tunes.refl _).foldl _ fun _ q hu =>
      (hu.startCal q).ite (hu.ite ((hu.rampQuad q).updQuad ..))).showBeams
  exact ⟨(congrArg (fun v : Val => Tab.find v.running l) done.val).trans idle, done.quiet.mode_eq.trans closed.mode_eq⟩

theorem exec_dwellEnd_idle {s : State} {l : Fin 4} {r : Running} (running : s.running l = some r) (round : s.round l = none) :
    exec (.dwellEnd l) s = .next (s.endDwell l) := by
  show execDwellEnd l s = _
  simp [execDwellEnd, running, round]

theorem exec_dwellEnd_round {s : State} {l : Fin 4} {r : Running} {n : Round} (running : s.running l = some r)
    (round : s.round l = some n) (short : s.tim.now - r.at_ < s.get Reg.DWELL_MAX_MS * 40000) :
    exec (.dwellEnd l) s = .next (s.putRunning l { r with past := true }) := by
  show execDwellEnd l s = _
  simp [execDwellEnd, running, round, Nat.not_le.2 short]

/-! ### The chains of a dwell that starts (R151, R156 to R159, R217) -/

theorem State.quads_freshChain (s : State) (d : Dwell) (c : Nat) : (s.freshChain d c).quads = s.quads := by
  unfold State.freshChain
  extract_lets blf gain s1 s2 s3
  have set : s2.quads = s.quads := by simp [s2, s1]
  have seeded : s3.quads = s.quads := by
    simp only [s3]
    split
    · exact set
    · exact (s2.quads_loadSeed ..).trans set
  simp [State.showPhases, State.setGamma, seeded]

/-- Filters, gains, weights and phases lie apart from the synthesisers' channels. -/
theorem Writes.freshChain {s t : State} {q : Nat} (h : Writes (· ≠ Reg.SYNTH_FREQ_KHZ q) s t) (d : Dwell) {c : Nat} (lt : c < 16) :
    Writes (· ≠ Reg.SYNTH_FREQ_KHZ q) s (t.freshChain d c) := by
  have chain : Reg.CSTATE_SEQ c ≠ Reg.SYNTH_FREQ_KHZ q ∧ Reg.RX_GAIN_STATE c ≠ Reg.SYNTH_FREQ_KHZ q ∧
      Reg.RX_SEQ c ≠ Reg.SYNTH_FREQ_KHZ q ∧ Reg.IF_CENTRE_HZ c ≠ Reg.SYNTH_FREQ_KHZ q ∧
      Reg.IF_BANDWIDTH_HZ c ≠ Reg.SYNTH_FREQ_KHZ q := by
    simp only [Reg.CSTATE_SEQ, Reg.RX_GAIN_STATE, Reg.RX_SEQ, Reg.IF_CENTRE_HZ, Reg.IF_BANDWIDTH_HZ, Reg.SYNTH_FREQ_KHZ]
    omega
  have reed : Reg.SYNTH_FREQ_KHZ q ≠ Reg.REED_SEQ c ∧ Reg.SYNTH_FREQ_KHZ q ≠ Reg.REED_WEIGHT_I c ∧
      Reg.SYNTH_FREQ_KHZ q ≠ Reg.REED_WEIGHT_Q c := by
    simp only [Reg.REED_SEQ, Reg.REED_WEIGHT_I, Reg.REED_WEIGHT_Q, Reg.SYNTH_FREQ_KHZ]
    omega
  have phase : Reg.RXPH_SEQ ≠ Reg.SYNTH_FREQ_KHZ q ∧ Reg.TXPH_SEQ ≠ Reg.SYNTH_FREQ_KHZ q ∧
      Reg.RX_PHASE c ≠ Reg.SYNTH_FREQ_KHZ q ∧ Reg.TX_PHASE c ≠ Reg.SYNTH_FREQ_KHZ q := by
    simp only [Reg.RXPH_SEQ, Reg.TXPH_SEQ, Reg.RX_PHASE, Reg.TX_PHASE, Reg.SYNTH_FREQ_KHZ]
    omega
  obtain ⟨cstate, gain, rx, centre, width⟩ := chain
  obtain ⟨seq, wi, wq⟩ := reed
  obtain ⟨rxSeq, txSeq, rxPhase, txPhase⟩ := phase
  unfold State.freshChain
  extract_lets blf _ s1 s2 s3
  have set : Writes (· ≠ Reg.SYNTH_FREQ_KHZ q) s s2 :=
    ((h.updChain ..).recordIf cstate (by simpa using gain)).recordIf rx (by simpa using ⟨centre, width⟩)
  have loaded : Writes (· ≠ Reg.SYNTH_FREQ_KHZ q) s (s2.loadSeed d.khz c) := by
    refine ⟨fun k same => ?_⟩
    rw [Decidable.not_not.1 same, State.get_loadSeed_ne _ _ seq wi wq]
    exact set.get _ (by simp)
  have seeded : Writes (· ≠ Reg.SYNTH_FREQ_KHZ q) s s3 := set.ite loaded
  exact ((seeded.updChain ..).recordIf rxSeq (by simpa using rxPhase)).recordIf txSeq (by simpa using txPhase)

/-- The state in which a dwell's chains are set, its quads still where they were. -/
def State.chainsSet (s : State) (d : Dwell) : State := (gangChains d.gang).foldl (State.freshChain · d) s

theorem State.chainsSet_keeps (s : State) (d : Dwell) (q : Nat) :
    (s.chainsSet d).quad q = s.quad q ∧ (s.chainsSet d).get (Reg.SYNTH_FREQ_KHZ q) = s.get (Reg.SYNTH_FREQ_KHZ q) := by
  have same : Writes (· ≠ Reg.SYNTH_FREQ_KHZ q) s (s.chainsSet d) :=
    List.foldlRecOn _ _ (Writes.refl _ s) fun _ hu _ mem => hu.freshChain d (gangChains_lt mem)
  exact ⟨State.quad_congr (State.quads_foldl _ _ fun u c => u.quads_freshChain d c) q, same.get _ (by simp)⟩

/-! ### A quad that retunes (R139, R320) -/

theorem State.quads_phaseless (s : State) (q : Nat) : (s.phaseless q).quads = s.quads := by
  unfold State.phaseless
  extract_lets s1 s2
  have shown : s1.quads = s.quads := by simp [s1]
  have unmeasured : s2.quads = s1.quads := State.quads_foldl _ _ fun _ _ => rfl
  exact unmeasured.trans shown

/-- A quad that is not calibrating retunes at once: it is asked for the channel and is on none. -/
theorem State.retune_awaits {s : State} {q : Nat} (khz : Nat) (why : Option HeldBy) (idle : (s.quad q).calibrating = false) :
    ((s.retune q khz why).quad q).want = khz ∧ (s.retune q khz why).get (Reg.SYNTH_FREQ_KHZ q) = 0 := by
  have quads : ((s.rampQuad q).phaseless q).quads = s.quads :=
    (State.quads_phaseless ..).trans (State.quads_foldl _ _ State.quads_rampDown)
  unfold State.retune
  extract_lets s1
  have asked : s1.quad q = { s.quad q with want := khz, held := why } := by
    simp only [s1]
    rw [State.quad_updQuad_self, State.quad_congr quads]
  rw [if_neg (by simp [asked, idle]), State.quad_congr (State.record_quads ..), asked]
  exact ⟨rfl, State.get_record_of_mem _ (by simp [Reg.QSTATE_SEQ, Reg.QUAD_STATE, Reg.SYNTH_FREQ_KHZ]) (by simp)⟩

theorem State.quadOnto_retunes {s : State} {q khz : Nat} (due : (s.quad q).calDue = false)
    (away : s.get (Reg.SYNTH_FREQ_KHZ q) ≠ khz) : s.quadOnto khz q = s.retune q khz (some .dwell) := by
  simp [State.quadOnto, due, away]

/-! ### The gang of one quad -/

theorem bitsOf_one : ∀ q : Fin 4, bitsOf 4 (2 ^ q.val) = [q.val] := by decide

theorem maskOf_one (q : Nat) : maskOf [q] = 2 ^ q := Nat.zero_or _

/-- The gang of a leader alone is its leader. -/
theorem State.gangNow_one (s : State) {l : Fin 4} {d : Dwell} (leads : d.leader = l.val) (alone : d.gang = 2 ^ l.val) :
    s.gangNow d = d.gang := by
  simp [State.gangNow, alone, bitsOf_one, leads, maskOf_one]

/-- A quad on another channel is not locked on the gang's. -/
theorem State.unlockedOf_one {s : State} (l : Fin 4) {khz : Nat} (away : s.get (Reg.SYNTH_FREQ_KHZ l) ≠ khz) :
    s.unlockedOf (2 ^ l.val) khz = 2 ^ l.val := by
  simp [State.unlockedOf, bitsOf_one, away, maskOf_one]

/-! ### The beams that follow lie apart from the zones' objects -/

/-- The objects of the array and its beams. -/
def ArrayKey (k : Nat) : Prop := 0x380000 ≤ k ∧ k < 0x390000

section
variable {s t : State} (h : Writes ArrayKey s t)
include h

theorem Writes.showTx_array {q : Nat} (lt : q < 4) : Writes ArrayKey s (t.showTx q) := by
  have keys : ArrayKey (Reg.TXB_SEQ q) ∧ ArrayKey (Reg.TXB_STATE q) ∧ ArrayKey (Reg.GANG_MASK q) ∧ ArrayKey (Reg.LEADER q) ∧
      ArrayKey (Reg.TXB_CHANNEL_KHZ q) ∧ ArrayKey (Reg.TXB_AZ q) ∧ ArrayKey (Reg.TXB_EL q) ∧ ArrayKey (Reg.TXB_ZONE q) := by
    simp only [ArrayKey, Reg.TXB_SEQ, Reg.TXB_STATE, Reg.GANG_MASK, Reg.LEADER, Reg.TXB_CHANNEL_KHZ, Reg.TXB_AZ, Reg.TXB_EL,
      Reg.TXB_ZONE]
    omega
  obtain ⟨seq, members⟩ := keys
  unfold State.showTx
  split <;> exact h.recordIf seq (by simpa using members)

theorem Writes.showRx_array {b : Nat} (lt : b < 16) : Writes ArrayKey s (t.showRx b) := by
  have keys : ArrayKey (Reg.RXB_SEQ b) ∧ ArrayKey (Reg.RXB_MODE b) ∧ ArrayKey (Reg.RXB_AZ b) ∧ ArrayKey (Reg.RXB_EL b) ∧
      ArrayKey (Reg.RXB_TAPER b) ∧ ArrayKey (Reg.RXB_CHAIN_MASK b) := by
    simp only [ArrayKey, Reg.RXB_SEQ, Reg.RXB_MODE, Reg.RXB_AZ, Reg.RXB_EL, Reg.RXB_TAPER, Reg.RXB_CHAIN_MASK]
    omega
  obtain ⟨seq, members⟩ := keys
  unfold State.showRx
  split
  · refine Writes.ite ?_ ?_ <;> exact h.recordIf seq (by simpa using members)
  · exact h.recordIf seq (by simpa using members)

theorem Writes.beamsOut_array {q : Nat} (lt : q < 4) : Writes ArrayKey s (t.beamsOut q) := by
  refine List.foldlRecOn _ _ (h.arr _) fun u hu b mem => Writes.showRx_array (hu.congr (u := u.weigh b) rfl rfl rfl) ?_
  simp only [chainsOf, List.mem_cons, List.not_mem_nil, or_false] at mem
  omega

theorem Writes.showBeams_array : Writes ArrayKey s t.showBeams := by
  have active : ArrayKey Reg.ASTATE_SEQ ∧ ArrayKey Reg.ACTIVE_TX_BEAMS ∧ ArrayKey Reg.ACTIVE_RX_BEAMS := by
    unfold ArrayKey
    decide
  obtain ⟨seq, members⟩ := active
  refine Writes.recordIf (List.foldlRecOn _ _ h fun u hu q mem => ?_) seq (by simpa using members)
  have lt : q < 4 := Nat.lt_of_lt_of_le (List.mem_range.1 mem) (Variant.quads_le _)
  extract_lets v
  have shown : Writes ArrayKey s v := hu.showTx_array lt
  exact (shown.arr _).ite (shown.beamsOut_array lt)

end

/-! ### The start of a dwell (R315, R320) -/

/-- A dwell as it starts, its gang's quads in `off` still to lock. -/
def State.starting (s : State) (d : Dwell) (off : Nat) : Running :=
  { d := d, at_ := s.tim.now, unlocked := off, toned := false, past := false, hop := none,
    holding := false, ready := false, begun := false, locks := 0 }

/-- The rails set leave every quad the channel that it is asked for. -/
theorem State.setRails_keeps (s : State) (gang : Nat) (lv : List (Nat × Int)) (q : Nat) :
    (s.setRails gang lv).val = s.val ∧ ((s.setRails gang lv).quad q).want = (s.quad q).want := by
  refine List.foldlRecOn (motive := fun t : State => t.val = s.val ∧ (t.quad q).want = (s.quad q).want) _ _ ⟨rfl, rfl⟩ ?_
  rintro u ⟨val, want⟩ p -
  refine ⟨val, ?_⟩
  by_cases same : q = p
  · rw [same] at want ⊢
    rw [State.quad_updQuad_self]
    exact want
  · rw [State.quad_updQuad_ne _ _ same]
    exact want

/-- A gang that has a quad still to lock waits for it. -/
theorem State.gangLocked_waits {s : State} {l : Nat} {r : Running} (running : s.running l = some r) (off : r.unlocked ≠ 0) :
    s.gangLocked l = s := by
  simp [State.gangLocked, running, off]

/-- The state in which a leader alone has its chains set and retunes to its dwell's channel. -/
def State.tuning (s : State) (l : Nat) (d : Dwell) : State := (s.chainsSet d).retune l d.khz (some .dwell)

theorem State.tuning_awaits {s : State} {l : Nat} {d : Dwell} (idle : (s.quad l).calibrating = false) :
    ((s.tuning l d).quad l).want = d.khz ∧ (s.tuning l d).get (Reg.SYNTH_FREQ_KHZ l) = 0 := by
  obtain ⟨quad, -⟩ := s.chainsSet_keeps d l
  exact State.retune_awaits d.khz _ (by rw [quad, idle])

/-- A dwell that starts on a leader alone, whose quad stands on another channel, is entered with its lock awaited. -/
theorem State.startDwell_awaits {s : State} {l : Fin 4} {d : Dwell} (alone : d.gang = 2 ^ l.val) (carries : d.khz ≠ 0)
    (due : (s.quad l).calDue = false) (idle : (s.quad l).calibrating = false)
    (away : s.get (Reg.SYNTH_FREQ_KHZ l) ≠ d.khz) :
    (s.startDwell l d).running l = some (s.starting d (2 ^ l.val)) ∧
    Tab.find (s.startDwell l d).val.released l = none ∧
    ((s.startDwell l d).quad l).want = d.khz ∧
    (s.startDwell l d).get (Reg.ZS_LEADER d.zone) = l.val := by
  obtain ⟨quad, synth⟩ := s.chainsSet_keeps d l
  obtain ⟨want, dark⟩ := State.tuning_awaits (d := d) idle
  unfold State.startDwell
  extract_lets pv quads s1 s2 off r held _ s3 s4 s5
  have tunes : s2 = s.tuning l d := by
    have one : s2 = s1.quadOnto d.khz l := by simp [s2, carries, quads, alone, bitsOf_one]
    exact one.trans (State.quadOnto_retunes ((congrArg Quad.calDue quad).trans due) (fun there => away (synth.symm.trans there)))
  have unlocked : off = 2 ^ l.val := by
    simp only [off, if_neg carries, tunes, alone]
    exact State.unlockedOf_one l (by rw [dark]; exact carries.symm)
  have entered : r = s.starting d (2 ^ l.val) := by rw [← unlocked]; rfl
  obtain ⟨railed, sameWant⟩ := s3.setRails_keeps d.gang (s3.risingLevels d) l
  have val : s4.val = s3.val := (State.record_val ..).trans railed
  have running : s4.running l = some (s.starting d (2 ^ l.val)) := by
    rw [State.running, val, ← entered]
    exact Tab.find_put_self ..
  have waits : s5 = s4 := by
    simp only [s5, if_neg carries]
    rw [if_neg (by simp [held, unlocked]), State.gangLocked_waits running (by simp [State.starting])]
  have shown : Tunes s4 s5.showBeams := waits ▸ (Tunes.refl s4).showBeams
  refine ⟨?_, ?_, ?_, ?_⟩
  · rw [State.running, shown.val]
    exact running
  · rw [shown.val, val]
    exact Tab.find_del_self ..
  · rw [waits, State.quad_congr (Shows.refl s4).showBeams.quads_eq, State.quad_congr (State.record_quads ..), sameWant]
    show (s2.quad l).want = d.khz
    rw [tunes, want]
  · have apart : ¬ ArrayKey (Reg.ZS_LEADER d.zone) := by
      simp only [ArrayKey, Reg.ZS_LEADER]
      omega
    rw [waits, (Writes.refl _ s4).showBeams_array.get _ apart]
    exact State.get_record_one _ _ (by simp only [Reg.ZS_LEADER, Reg.ZS_SEQ]; omega)

/-- A leader alone, in service and free, may start a dwell that may run beside those that run (R202, R205). -/
theorem State.dwellMay_one {s : State} {l : Fin 4} {d : Dwell} (run : s.mode = .run) (settled : s.sys.trans = none)
    (noSweep : s.sweep = none) (leads : d.leader = l.val) (alone : d.gang = 2 ^ l.val)
    (beside : ∀ p ∈ s.val.running, s.coexist d p.2.d = true) (offered : (s.quad l).offered = false)
    (free : s.leaderOf l = none) (present : s.quadIn l = true) : s.dwellMay d = true := by
  simp [State.dwellMay, run, settled, noSweep, leads, alone, bitsOf_one, offered, free, present, List.all_eq_true.2 beside]

theorem exec_dwellStart_may {s : State} {l : Fin 4} {d : Dwell} (released : Tab.find s.val.released l = some d)
    (gang : s.gangNow d = d.gang) (may : s.dwellMay d = true) : exec (.dwellStart l) s = .next (s.startDwell l d) := by
  show execDwellStart l s = _
  simp only [execDwellStart, released, gang]
  exact congrArg Host.Outcome.next (if_pos may)

/-- Settles O26, by the objects of a plan in force, what a boundary takes back, and how a dwell starts and ends. -/
theorem plansAndDwells : Obligations.PlansAndDwells := by
  refine ⟨fun mw s run => ?_, fun mw s idle => ?_, fun mw s run excess => ?_,
    fun l d s released run settled noSweep leads alone beside offered carries _ free present due idle away => ?_,
    fun l r s running round => ?_, fun l r n s running round short => ?_⟩
  · obtain ⟨⟨quiet, tim⟩, low, high⟩ := s.beforePlan_keeps mw.toNat
    have stillRun := quiet.mode_eq.trans run
    obtain ⟨time, corr⟩ := (s.beforePlan mw.toNat).usePlan_shows ((s.beforePlan mw.toNat).buildPlan none false)
    refine ⟨_, exec_planBoundary_run mw run, ?_⟩
    rw [State.replan_run stillRun]
    dsimp only
    rw [time, tim, corr]
    exact ⟨rfl, ((Quiet.refl _).usePlan _).mode_eq.trans stillRun, low, high⟩
  · have taken := (Tunes.refl s).takeOffered
    exact ⟨_, exec_planBoundary_idle mw idle, taken.quiet.mode_eq, taken.val, fun q mem => State.takeOffered_back mem⟩
  · obtain ⟨time, corr⟩ := (s.correct (s.raisedCorr mw.toNat)).replanNow_shows none false
    refine ⟨_, exec_powerMeasure_over run excess, time.trans (congrArg Tim.now (State.recordIf_tim ..)), ?_⟩
    rw [corr, State.correct_shows]
    exact Nat.le_max_left ..
  · have may := State.dwellMay_one run settled noSweep leads alone beside offered free present
    obtain ⟨entered, started, want, leader⟩ := State.startDwell_awaits alone carries due idle away
    exact ⟨_, exec_dwellStart_may released (s.gangNow_one leads alone) may,
      ⟨_, entered, rfl, rfl, rfl, rfl, rfl⟩, started, want, leader⟩
  · exact ⟨_, exec_dwellEnd_idle running round, State.endDwell_ends running⟩
  · exact ⟨_, exec_dwellEnd_round running round short, Tab.find_put_self .., rfl⟩

end Sys2Proof.Machine
end

section
/-! SUPPORT. What the operations of the reports (chapter 10) leave as it is, and what a stream holds after each. -/

namespace Sys2Proof.Machine

/-! ### Reports leave the links, the mode and the part's own registers -/

section
variable {s t : State} (h : Quiet s t)
include h

theorem Quiet.bump (k : Nat) : Quiet s (t.bump k) := h.put ..

theorem Quiet.addWide (lo n : Nat) : Quiet s (t.addWide lo n) := (h.put ..).put ..

theorem Quiet.updStream (i : Nat) (f : Stream → Stream) : Quiet s (t.updStream i f) := h.congr rfl rfl rfl

theorem Quiet.recordsLost (key : Nat) : Quiet s (t.recordsLost key) := h.ite (h.latch ..)

theorem Quiet.fillChanged (i : Nat) : Quiet s (t.fillChanged i) := by
  unfold State.fillChanged
  extract_lets _ _ _ _ _ s2
  have shown : Quiet s s2 := ((h.record ..).record ..).updStream ..
  exact ((shown.put ..).latch ..).ite shown

theorem Quiet.loseMarks (i q : Nat) : Quiet s (t.loseMarks i q) :=
  h.foldl _ fun _ _ hu => ((hu.record ..).latch ..).ite hu

theorem Quiet.dropOldest (p : Pkt) : Quiet s (t.dropOldest p) := by
  unfold State.dropOldest
  extract_lets _ s1 _ _ _ s3
  have cut : Quiet s s1 := h.congr rfl rfl rfl
  have gone : Quiet s s3 := (cut.loseMarks ..).updStream ..
  exact (((gone.addWide ..).seq ..).recordsLost ..).ite gone

theorem Quiet.makeRoom (room : Nat) (l : List Pkt) : Quiet s (t.makeRoom room l) := by
  induction l generalizing t with
  | nil => exact h
  | cons p r ih => exact h.ite (ih (h.dropOldest p))

theorem Quiet.toArchive (p : Pkt) : Quiet s (t.toArchive p) := by
  unfold State.toArchive
  extract_lets _ _ _ _ _ _ s2
  have archived : Quiet s s2 := (h.makeRoom ..).congr rfl rfl rfl
  exact (archived.latch ..).ite archived

theorem Quiet.placePkt (p : Pkt) : Quiet s (t.placePkt p) := by
  unfold State.placePkt
  extract_lets _ _ _ _ _ _ _ _ _ s2
  have queued : Quiet s s2 := (h.ite (h.toArchive ..)).updStream ..
  exact (queued.ite ((queued.bump ..).seq ..)).fillChanged ..

theorem Quiet.closeOne (i kind : Nat) : Quiet s (t.closeOne i kind) := by
  unfold State.closeOne
  split
  · exact h
  · exact ((h.updStream ..).record ..).placePkt ..

theorem Quiet.closePkt (i kind : Nat) : Quiet s (t.closePkt i kind) :=
  ((h.closeOne ..).closeOne ..).ite (h.closeOne ..)

theorem Quiet.closeAll (i : Nat) : Quiet s (t.closeAll i) := h.foldl _ fun _ _ hu => hu.closePkt ..

theorem Quiet.offerT2 (i : Nat) : Quiet s (t.offerT2 i) := (h.foldl _ fun _ _ hu => hu.updStream ..).updStream ..

theorem Quiet.place (i kind size time : Nat) (tags : List Nat) (baseRecs : Nat) (mk : Nat → Bytes) :
    Quiet s (t.place i kind size time tags baseRecs mk) :=
  ((h.closePkt ..).ite h).updStream ..

theorem Quiet.lost (i n : Nat) : Quiet s (t.lost i n) := (h.addWide ..).seq ..

theorem Quiet.placeT2 (i base : Nat) (cut : Bool) : Quiet s (t.placeT2 i base cut) := by
  unfold State.placeT2
  extract_lets _ _ s0
  have gathered : Quiet s s0 := (h.offerT2 ..).updStream ..
  exact gathered.ite (gathered.foldl _ fun _ _ hu => hu.ite (((hu.lost ..).ite hu).ite (hu.place ..)))

theorem Quiet.changeTier (i n : Nat) : Quiet s (t.changeTier i n) := h.ite (((h.closeAll ..).record ..).latch ..)

theorem Quiet.windowEnd (base i : Nat) : Quiet s (t.windowEnd base i) :=
  (((((h.placeT2 ..).closePkt ..).updStream ..).putDom ..).record ..).changeTier ..

theorem Quiet.setCredits (i v : Nat) : Quiet s (t.setCredits i v) := by
  unfold State.setCredits
  extract_lets _ _ s1
  have counted : Quiet s s1 := h.record ..
  exact (counted.latch ..).ite counted

theorem Quiet.charge (i : Nat) (p : Pkt) : Quiet s (t.charge i p) := h.ite ((h.updStream ..).setCredits ..)

theorem Quiet.sendPkt (i : Nat) (p : Pkt) : Quiet s (t.sendPkt i p).2 := h.updStream ..

theorem Quiet.delivered (i : Nat) (p : Pkt) : Quiet s (t.delivered i p) := (h.updStream ..).fillChanged ..

theorem Quiet.startReplay (i q : Nat) : Quiet s (t.startReplay i q) := (h.updStream ..).record ..

end

/-! ### What a stream holds after each update -/

@[simp] theorem State.stream_updStream_self (s : State) (i : Nat) (f : Stream → Stream) :
    (s.updStream i f).stream i = f (s.stream i) :=
  Tab.get_upd_self ..

@[simp] theorem State.stream_put (s : State) (k v i : Nat) : (s.put k v).stream i = s.stream i := rfl

@[simp] theorem State.stream_record (s : State) (q : Nat) (l : List (Nat × Nat)) (i : Nat) :
    (s.record q l).stream i = s.stream i := by
  simp [State.stream]

@[simp] theorem State.stream_latch (s : State) (e a b i : Nat) : (s.latch e a b).stream i = s.stream i := by
  simp [State.stream]

/-- A changed fill enters the window's peak and its note that the queue stays busy, and nothing else of the stream (R369). -/
theorem State.stream_fillChanged (s : State) (i : Nat) :
    (s.fillChanged i).stream i = { s.stream i with
      peak := max (s.stream i).peak (s.stream i).fill
      winBusy := (s.stream i).winBusy && !(s.stream i).queue.isEmpty } := by
  unfold State.fillChanged
  extract_lets _ fill _ _ s1 s2
  have counted : s2.stream i = { s1.stream i with
      peak := max (s1.stream i).peak fill, winBusy := (s1.stream i).winBusy && !(s1.stream i).queue.isEmpty } :=
    State.stream_updStream_self ..
  have same : s1.stream i = s.stream i := by simp [s1]
  rw [same] at counted
  split
  · simpa using counted
  · exact counted

end Sys2Proof.Machine
end

section
/-! SUPPORT. How a packet closes, what a grant, a read and a release of a packet come to (R349, R350, R354, R363 to R367, R428),
and the statement settled with them. -/

namespace Sys2Proof.Machine

/-! ### A packet closes (R349, R350) -/

/-- The objects other than the next sequence number of stream `i`. -/
def OtherThanNextSeq (i k : Nat) : Prop := k ≠ Reg.NEXT_SEQ i

/-- Events are written below the streams' objects. -/
theorem Writes.latch_nextSeq {s t : State} {i : Nat} (h : Writes (OtherThanNextSeq i) s t) (e a b : Nat) :
    Writes (OtherThanNextSeq i) s (t.latch e a b) := by
  refine ⟨fun k other => (State.get_latch_quadsUp t e a b ?_).trans (h.get k other)⟩
  rw [Decidable.not_not.1 other]
  simp only [QuadsUp, Reg.NEXT_SEQ]
  omega

theorem Writes.fillChanged {s t : State} {i : Nat} (h : Writes (OtherThanNextSeq i) s t) (j : Nat) :
    Writes (OtherThanNextSeq i) s (t.fillChanged j) := by
  obtain ⟨seq, fill, mark⟩ : OtherThanNextSeq i (Reg.SSTATE_SEQ j) ∧ OtherThanNextSeq i (Reg.SQ_FILL j) ∧
      OtherThanNextSeq i (Reg.WM_LATCHED j) := by
    simp only [OtherThanNextSeq, Reg.SSTATE_SEQ, Reg.SQ_FILL, Reg.WM_LATCHED, Reg.NEXT_SEQ]
    omega
  obtain ⟨store, used⟩ : OtherThanNextSeq i Reg.STORE_SEQ ∧ OtherThanNextSeq i Reg.SQ_USED := by
    simp only [OtherThanNextSeq, Reg.STORE_SEQ, Reg.SQ_USED, Reg.NEXT_SEQ]
    omega
  unfold State.fillChanged
  extract_lets _ _ _ _ s1 s2
  have counted : Writes (OtherThanNextSeq i) s s1 :=
    (h.record seq (by simpa using fill)).record store (by simpa using used)
  have shown : Writes (OtherThanNextSeq i) s s2 := counted.congr rfl rfl rfl
  exact ((shown.put mark 1).latch_nextSeq ..).ite shown

/-- A packet that enters an empty archive changes no stream, and no stream's next sequence number (R335). -/
theorem State.toArchive_first {s : State} (empty : s.rep.archive = []) (p : Pkt) :
    (∀ i, (s.toArchive p).stream i = s.stream i) ∧ ∀ i, Writes (OtherThanNextSeq i) s (s.toArchive p) := by
  unfold State.toArchive
  rw [empty]
  extract_lets _ _ _ _ _ _ s2
  have archived (i : Nat) : Writes (OtherThanNextSeq i) s s2 := (Writes.refl _ s).congr rfl rfl rfl
  refine ⟨fun i => ?_, fun i => ((archived i).latch_nextSeq ..).ite (archived i)⟩
  split
  · exact State.stream_latch ..
  · rfl

/-- A packet that closes while the archive is empty stands last in its stream's queue, whatever place it is given there; the
open packets stay (R335). -/
theorem State.placePkt_queues {s : State} (empty : s.rep.archive = []) (p : Pkt) :
    ((s.placePkt p).stream p.stream).opens = (s.stream p.stream).opens ∧
      ∃ spilled flags sq, ((s.placePkt p).stream p.stream).queue =
        (s.stream p.stream).queue ++ [{ p with spilled := spilled, flags := flags, sq := sq }] := by
  unfold State.placePkt
  extract_lets fits _ p' s1 _ _ _ _ sq s2 s3
  have archived : s1.stream p.stream = s.stream p.stream := by
    unfold s1
    split
    · rfl
    · exact (State.toArchive_first empty p').1 _
  have counted : s3.stream p.stream = s2.stream p.stream := by
    unfold s3
    split <;> rfl
  rw [State.stream_fillChanged, counted, State.stream_updStream_self, archived]
  exact ⟨rfl, _, _, _, rfl⟩

theorem Writes.placePkt {s : State} (empty : s.rep.archive = []) (i : Nat) (p : Pkt) :
    Writes (OtherThanNextSeq i) s (s.placePkt p) := by
  obtain ⟨spills, store⟩ : OtherThanNextSeq i Reg.SPILL_COUNT ∧ OtherThanNextSeq i Reg.STORE_SEQ := by
    simp only [OtherThanNextSeq, Reg.SPILL_COUNT, Reg.STORE_SEQ, Reg.NEXT_SEQ]
    omega
  unfold State.placePkt
  extract_lets _ _ p' s1 _ _ _ _ _ s2 s3
  have archived : Writes (OtherThanNextSeq i) s s1 := (Writes.refl _ s).ite ((State.toArchive_first empty p').2 i)
  have queued : Writes (OtherThanNextSeq i) s s2 := archived.congr rfl rfl rfl
  exact (queued.ite ((queued.bump spills).seq store)).fillChanged ..

/-- The open packet of a kind closes with the records it holds, under the stream's next sequence number (R349, R350). -/
theorem State.closeOne_closes {s : State} {i kind : Nat} {o : OpenPkt} (held : Tab.find (s.stream i).opens kind = some o)
    (empty : s.rep.archive = []) :
    Tab.find ((s.closeOne i kind).stream i).opens kind = none ∧
      (∃ q, ((s.closeOne i kind).stream i).queue = (s.stream i).queue ++ [q] ∧ q.seq = s.get (Reg.NEXT_SEQ i) ∧
        q.kind = kind ∧ q.count = o.count ∧ q.data = o.data) ∧
      (s.closeOne i kind).get (Reg.NEXT_SEQ i) = (s.get (Reg.NEXT_SEQ i) + 1) % 2 ^ 32 := by
  unfold State.closeOne
  split
  · next none => simp [held] at none
  · next found =>
    obtain rfl := Option.some.inj (held.symm.trans found)
    extract_lets tier p s1
    have noArchive : (s1.record (Reg.SSTATE_SEQ i) [(Reg.NEXT_SEQ i, (p.seq + 1) % 2 ^ 32)]).rep.archive = [] := by
      rw [State.record_rep]
      exact empty
    obtain ⟨opens, spilled, flags, sq, queue⟩ := State.placePkt_queues noArchive p
    have closed : s1.stream i = { s.stream i with opens := Tab.del (s.stream i).opens kind } := State.stream_updStream_self ..
    rw [State.stream_record] at opens queue
    refine ⟨?_, ⟨_, queue.trans (by rw [closed]), rfl, rfl, rfl, rfl⟩, ?_⟩
    · rw [opens, closed]
      exact Tab.find_del_self ..
    · rw [(Writes.placePkt noArchive i p).get _ (Decidable.not_not.2 rfl)]
      exact State.get_record_one _ _ (by simp only [Reg.NEXT_SEQ, Reg.SSTATE_SEQ]; omega)

/-- A packet closes alone when it is a DICT packet, or when no DICT packet is open (R360). -/
theorem State.closePkt_alone {s : State} {i kind : Nat} (alone : kind = 4 ∨ Tab.find (s.stream i).opens 4 = none) :
    s.closePkt i kind = s.closeOne i kind := by
  unfold State.closePkt
  obtain rfl | none := alone
  · rfl
  · simp [none]

/-! ### Requests and reads that are answered -/

/-- The objects of the reports lie above the links' last results, so that an answer leaves them. -/
theorem State.get_answer_report (s : State) (l : Link) (r : Result) {k : Nat} (up : 0x480000 ≤ k) :
    (s.answer l r).get k = s.get k := by
  refine s.get_answer_apart l r ?_
  simp only [List.mem_cons, List.not_mem_nil, or_false, Reg.SPT_LAST_RESULT, Reg.TWA_LAST_RESULT, Reg.CAN_LAST_RESULT]
  omega

/-- A group update of one member, answered, shows its value and changes no more than the member and its sequence number. -/
theorem State.recordOne_answered (s : State) (l : Link) {q k : Nat} (v : Nat) (up : 0x480000 ≤ k) (other : k ≠ q) :
    Answered ((s.record q [(k, v)]).answer l .ok) l .ok ∧ ((s.record q [(k, v)]).answer l .ok).get k = v ∧
      SameButAnswer l [k, q] s ((s.record q [(k, v)]).answer l .ok) := by
  refine ⟨State.answered_answer .., ?_, SameBut.answer (SameBut.record (by simp) (by simp)) l .ok⟩
  rw [State.get_answer_report _ _ _ up, State.get_record_one _ _ other]

@[simp] theorem State.get_give (s : State) (l : Link) (b : Bytes) (k : Nat) : (s.give l b).get k = s.get k := rfl

/-- A served read whose work is quiet gives its data and its result, and nothing follows (R14, R96). -/
theorem State.read_quiet {s t : State} {l : Link} {f : State → Result × Bytes × State} {r : Result} {d : Bytes}
    (serves : Serves s l false) (work : f s = (r, d, t)) (quiet : Quiet s t) : s.read l f = (t.give l d).answer l r :=
  State.request_quiet serves (by rw [work]) (quiet.congr rfl rfl rfl)

/-! ### Credits (R363, R366, R428) -/

/-- Credits that do not fall latch no event (R366). -/
theorem State.setCredits_rise {s : State} {i v : Nat} (rise : s.get (Reg.CREDITS i) ≤ v) :
    s.setCredits i v = s.record (Reg.SSTATE_SEQ i) [(Reg.CREDITS i, v)] := by
  unfold State.setCredits
  exact if_neg (by simp; omega)

/-- Credits have the value they are set to, whether or not event 41 follows (R366). -/
theorem State.get_setCredits_self (s : State) (i v : Nat) : (s.setCredits i v).get (Reg.CREDITS i) = v := by
  unfold State.setCredits
  extract_lets _ _ s1
  have credits : s1.get (Reg.CREDITS i) = v :=
    State.get_record_one _ _ (by simp only [Reg.CREDITS, Reg.SSTATE_SEQ]; omega)
  split
  · exact (State.get_latch_quadsUp _ _ _ _ (by simp only [QuadsUp, Reg.CREDITS]; omega)).trans credits
  · exact credits

theorem State.stream_setCredits (s : State) (i v j : Nat) : (s.setCredits i v).stream j = s.stream j := by
  unfold State.setCredits
  extract_lets _ _ s1
  have same : s1.stream j = s.stream j := State.stream_record ..
  split
  · exact (State.stream_latch ..).trans same
  · exact same

/-- A grant within the bound to an enabled stream is added (R363). -/
theorem State.creditGrant_adds {s : State} {i n : Nat} (room : s.get (Reg.CREDITS i) + n ≤ 16777215)
    (enabled : s.get (Reg.STREAM_ENABLE i) = 1) :
    s.creditGrant i n = (.ok, s.record (Reg.SSTATE_SEQ i) [(Reg.CREDITS i, s.get (Reg.CREDITS i) + n)]) := by
  unfold State.creditGrant
  rw [checks_pass (by simp [enabled, room]), State.setCredits_rise (Nat.le_add_right ..)]

/-- A link's shortcut grants to the enabled stream bound to it (R428). -/
theorem State.linkGrant_adds {s : State} {target : Link} {i n : Nat} (bound : s.streamOf target = some i)
    (room : s.get (Reg.CREDITS i) + n ≤ 16777215) :
    s.linkGrant target n = (.ok, s.record (Reg.SSTATE_SEQ i) [(Reg.CREDITS i, s.get (Reg.CREDITS i) + n)]) := by
  have enabled := List.find?_some bound
  simp only [Bool.and_eq_true, decide_eq_true_eq] at enabled
  simp only [State.linkGrant, bound]
  exact State.creditGrant_adds room enabled.1

/-- A request that adds credits is answered OK and changes nothing else. -/
theorem grantRequest {s : State} {l : Link} {i n : Nat} {f : State → Result × State} (serves : Serves s l false)
    (adds : f s = (.ok, s.record (Reg.SSTATE_SEQ i) [(Reg.CREDITS i, s.get (Reg.CREDITS i) + n)])) :
    Answered (s.request l false f) l .ok ∧ (s.request l false f).get (Reg.CREDITS i) = s.get (Reg.CREDITS i) + n ∧
      SameButAnswer l [Reg.CREDITS i, Reg.SSTATE_SEQ i] s (s.request l false f) := by
  rw [State.request_quiet serves adds ((Quiet.refl s).record ..)]
  refine State.recordOne_answered s l _ ?_ ?_
  all_goals
    simp only [Reg.CREDITS, Reg.SSTATE_SEQ]
    omega

/-! ### Delivery by pull (R364) -/

/-- Charging an uncharged head packet takes its slots from the credits, and leaves the stream's alive counter (R364, R366). -/
theorem State.charge_takes {s : State} {i : Nat} {p : Pkt} (fresh : p.charged = false) :
    (s.charge i p).get (Reg.CREDITS i) = s.get (Reg.CREDITS i) - p.slots ∧
      ((s.charge i p).stream i).alive = (s.stream i).alive := by
  unfold State.charge
  rw [if_neg (by simp [fresh])]
  refine ⟨State.get_setCredits_self .., ?_⟩
  rw [State.stream_setCredits, State.stream_updStream_self]
  split <;> rfl

/-- The head packet as it is first read: charged, sent with the next ALIVE, and shown (R351, R364). -/
def State.firstRead (s : State) (i : Nat) (p : Pkt) : State :=
  ((s.charge i p).sendPkt i p).2.updStream i fun st => { st with shown := true }

/-- A packet first read has had its slots taken, and is shown. -/
theorem State.firstRead_shows {s : State} {i : Nat} {p : Pkt} (fresh : p.charged = false) :
    (s.firstRead i p).get (Reg.CREDITS i) = s.get (Reg.CREDITS i) - p.slots ∧ ((s.firstRead i p).stream i).shown = true := by
  have credits : (s.firstRead i p).get (Reg.CREDITS i) = (s.charge i p).get (Reg.CREDITS i) := State.get_congr rfl rfl rfl _
  exact ⟨credits.trans (State.charge_takes fresh).1, congrArg Stream.shown (State.stream_updStream_self ..)⟩

theorem State.reportNext_first {s : State} {i : Nat} {p : Pkt} (pulls : s.pulls i = true) (head : (s.stream i).head = some p)
    (unread : (s.stream i).shown = false) (fresh : p.charged = false) (paid : p.slots ≤ s.get (Reg.CREDITS i)) :
    s.reportNext i = (.ok, p.bytes (((s.stream i).alive + 1) % 256), s.firstRead i p) := by
  rw [← (State.charge_takes fresh).2]
  simp [State.reportNext, pulls, head, unread, fresh, Nat.not_lt.2 paid, State.sendPkt, State.firstRead]

theorem State.reportRelease_shown {s : State} {i : Nat} {p : Pkt} (pulls : s.pulls i = true)
    (head : (s.stream i).head = some p) (shown : (s.stream i).shown = true) :
    s.reportRelease i p.seq = (.ok, s.delivered i p) := by
  simp [State.reportRelease, pulls, head, shown]

/-- A packet delivered outside a rewind leaves the queue, and the next one has not been read (R364). -/
theorem State.delivered_stream {s : State} {i : Nat} (p : Pkt) (noReplay : (s.stream i).replay = []) :
    ((s.delivered i p).stream i).queue = (s.stream i).queue.tail ∧ ((s.delivered i p).stream i).shown = false := by
  unfold State.delivered
  extract_lets s1
  rw [State.stream_fillChanged]
  simp [s1, noReplay]

/-- Settles O27, by what closing makes of the open packet, and the objects and streams that each served request leaves. -/
theorem packetsCloseAndWindowsEnd : Obligations.PacketsCloseAndWindowsEnd := by
  refine ⟨fun i kind o s held alone empty => ?_, fun s boot => ?_, fun l i n s serves room enabled => ?_,
    fun l target i n s serves bound room => ?_, fun l i p s serves pulls head unread fresh paid => ?_,
    fun l i p rest s serves pulls noReplay queue shown small => ?_, fun l i s serves => ?_⟩
  · refine ⟨s.closePkt i kind, rfl, ?_⟩
    rw [State.closePkt_alone (alone.imp_left fun dict => by rw [dict]; rfl)]
    exact State.closeOne_closes held empty
  · exact ⟨_, if_neg boot, rfl, ((Quiet.refl s).foldl _ fun _ _ hu => hu.windowEnd ..).mode_eq⟩
  · exact ⟨_, rfl, grantRequest serves (State.creditGrant_adds room enabled)⟩
  · exact ⟨_, rfl, grantRequest serves (State.linkGrant_adds bound room)⟩
  · have quiet : Quiet s (s.firstRead i p) := (((Quiet.refl s).charge ..).sendPkt ..).updStream ..
    have run := State.read_quiet (f := (State.reportNext · i)) serves
      (State.reportNext_first pulls head unread fresh paid) quiet
    obtain ⟨credits, shown⟩ := State.firstRead_shows (s := s) (i := i) fresh
    refine ⟨_, congrArg Host.Outcome.next run, State.answered_answer .., Tab.find_put_self .., shown, ?_⟩
    rw [State.get_answer_report _ _ _ (by simp only [Reg.CREDITS]; omega), State.get_give, credits]
  · have head : (s.stream i).head = some p := by simp [Stream.head, noReplay, queue]
    have number : (BitVec.ofNat 32 p.seq).toNat = p.seq := Nat.mod_eq_of_lt small
    have work : s.reportRelease i (BitVec.ofNat 32 p.seq).toNat = (.ok, s.delivered i p) := by
      rw [number, State.reportRelease_shown pulls head shown]
    obtain ⟨left, unread⟩ := State.delivered_stream p noReplay
    rw [queue] at left
    exact ⟨_, congrArg Host.Outcome.next (State.request_quiet serves work ((Quiet.refl s).delivered ..)),
      State.answered_answer .., left, unread⟩
  · have work : s.wmAck i 1 = (.ok, s.record (Reg.SSTATE_SEQ i) [(Reg.WM_LATCHED i, 0)]) := rfl
    refine ⟨_, congrArg Host.Outcome.next (State.request_quiet serves work ((Quiet.refl s).record ..)),
      State.recordOne_answered s l 0 ?_ ?_⟩
    all_goals
      simp only [Reg.WM_LATCHED, Reg.SSTATE_SEQ]
      omega

end Sys2Proof.Machine
end

section
/-! SUPPORT. The hot ring, marks and rewinds (R373 to R376), and the statement settled with them. -/

namespace Sys2Proof.Machine

/-! ### The hot ring (R373) -/

/-- A cursor at or after the oldest record reads the records from it on, and moves past the last of them. -/
theorem State.hotRead_from {s : State} {p : HotRec} (within : s.get Reg.HOT_OLDEST ≤ s.get Reg.HOT_CURSOR)
    (last : (s.hotFrom (s.get Reg.HOT_CURSOR)).getLast? = some p) :
    s.hotRead = (.ok, (s.hotFrom (s.get Reg.HOT_CURSOR)).flatMap fun e => e.data,
      s.put Reg.HOT_CURSOR ((p.time + 1) % 2 ^ 64)) := by
  simp [State.hotRead, last, Nat.not_lt.2 within]

/-! ### Marks and rewinds (R374 to R376) -/

/-- The objects of mark `n` as it is set: the next sequence number, valid and not lost (R374). -/
def State.markMembers (s : State) (i n : Nat) : List (Nat × Nat) :=
  [(Reg.MARK_SEQ i n, s.get (Reg.NEXT_SEQ i)), (Reg.MARK_VALID i, setBit (s.get (Reg.MARK_VALID i)) n),
   (Reg.MARK_LOST i, clrBit (s.get (Reg.MARK_LOST i)) n)]

/-- The state that a mark set leaves: none of its records has gone (R374, R376). -/
def State.marked (s : State) (i n : Nat) : State :=
  ({ s with rep := { s.rep with gone := Tab.put s.rep.gone (8 * i + n) 0 } } : State).record (Reg.MARKS_SEQ i)
    (s.markMembers i n)

theorem State.markSet_marks (s : State) (i : Nat) {n : Nat} (mark : n ≤ 7) : s.markSet i n = (.ok, s.marked i n) :=
  checks_pass (by simp [mark])

theorem State.markClear_drops (s : State) (i : Nat) {n : Nat} (mark : n ≤ 7) : s.markClear i n = (.ok, s.markDrop i n) :=
  checks_pass (by simp [mark])

/-- A stream's marks, their two masks and their group's sequence number are different objects. -/
theorem nodup_markKeys {i n : Nat} (mark : n ≤ 7) :
    [Reg.MARKS_SEQ i, Reg.MARK_SEQ i n, Reg.MARK_VALID i, Reg.MARK_LOST i].Nodup := by
  simp only [List.nodup_cons, List.mem_cons, List.not_mem_nil, or_false, not_or, List.nodup_nil, not_false_eq_true, and_true,
    Reg.MARKS_SEQ, Reg.MARK_SEQ, Reg.MARK_VALID, Reg.MARK_LOST]
  omega

theorem State.marked_shows (s : State) (i : Nat) {n : Nat} (mark : n ≤ 7) :
    (s.marked i n).get (Reg.MARK_SEQ i n) = s.get (Reg.NEXT_SEQ i) ∧ bit ((s.marked i n).get (Reg.MARK_VALID i)) n = true ∧
      bit ((s.marked i n).get (Reg.MARK_LOST i)) n = false := by
  have nodup := nodup_markKeys (i := i) mark
  have valid : (s.marked i n).get (Reg.MARK_VALID i) = setBit (s.get (Reg.MARK_VALID i)) n :=
    State.get_record_of_mem _ nodup (by simp [State.markMembers])
  have lost : (s.marked i n).get (Reg.MARK_LOST i) = clrBit (s.get (Reg.MARK_LOST i)) n :=
    State.get_record_of_mem _ nodup (by simp [State.markMembers])
  rw [valid, lost]
  exact ⟨State.get_record_of_mem _ nodup (by simp [State.markMembers]), bit_setBit_self .., bit_clrBit_self ..⟩

theorem State.marked_quiet (s : State) (i n : Nat) : Quiet s (s.marked i n) :=
  Quiet.record (t := { s with rep := { s.rep with gone := Tab.put s.rep.gone (8 * i + n) 0 } })
    ((Quiet.refl s).congr rfl rfl rfl) ..

/-- Beside the marks' objects a mark set changes only how many of its records have gone (R376). -/
theorem SameBut.marked (s : State) (i n : Nat) :
    SameBut [Reg.MARK_SEQ i n, Reg.MARK_VALID i, Reg.MARK_LOST i, Reg.MARKS_SEQ i] s { s.marked i n with rep := s.rep } :=
  SameBut.record (l := s.markMembers i n) (by simp) (by simp [State.markMembers])

theorem State.markDrop_shows (s : State) (i n : Nat) :
    bit ((s.markDrop i n).get (Reg.MARK_VALID i)) n = false ∧ bit ((s.markDrop i n).get (Reg.MARK_LOST i)) n = false := by
  have nodup : [Reg.MARKS_SEQ i, Reg.MARK_VALID i, Reg.MARK_LOST i].Nodup :=
    (nodup_markKeys (i := i) (Nat.zero_le 7)).sublist ((List.sublist_cons_self ..).cons_cons _)
  have valid : (s.markDrop i n).get (Reg.MARK_VALID i) = clrBit (s.get (Reg.MARK_VALID i)) n :=
    State.get_record_of_mem _ nodup (by simp)
  have lost : (s.markDrop i n).get (Reg.MARK_LOST i) = clrBit (s.get (Reg.MARK_LOST i)) n :=
    State.get_record_of_mem _ nodup (by simp)
  rw [valid, lost]
  exact ⟨bit_clrBit_self .., bit_clrBit_self ..⟩

theorem State.rewind_starts {s : State} {i n : Nat} (mark : n ≤ 7) (valid : bit (s.get (Reg.MARK_VALID i)) n = true)
    (kept : bit (s.get (Reg.MARK_LOST i)) n = false) (idle : s.get (Reg.REWIND_ACTIVE i) ≠ 1) :
    s.rewind i n = (.ok, s.startReplay i (s.get (Reg.MARK_SEQ i n))) := by
  unfold bit at valid kept
  simp [State.rewind, valid, kept, idle, mark]

theorem rewindActive_ne_marksSeq (i : Nat) : Reg.REWIND_ACTIVE i ≠ Reg.MARKS_SEQ i := by
  simp only [Reg.REWIND_ACTIVE, Reg.MARKS_SEQ]
  omega

/-- A rewind that starts changes the stream's packets and shows that it is active, and nothing else (R375). -/
theorem State.sameBut_startReplay (s : State) (i q : Nat) :
    SameBut [Reg.REWIND_ACTIVE i, Reg.MARKS_SEQ i] s { s.startReplay i q with rep := s.rep } :=
  SameBut.record (l := [(Reg.REWIND_ACTIVE i, 1)]) (by simp) (by simp)

theorem exec_rewindDone_all {i : Fin 3} {s : State} (active : s.get (Reg.REWIND_ACTIVE i) = 1)
    (sent : (s.stream i).replay = []) :
    exec (.rewindDone i) s = .next (s.record (Reg.MARKS_SEQ i) [(Reg.REWIND_ACTIVE i, 0)]) :=
  congrArg Host.Outcome.next (if_pos (by simp [active, sent]))

/-- Settles O28, by what the cursor, the marks' objects and REWIND_ACTIVE come to, and the answer that follows each request. -/
theorem hotRingMarksAndRewinds : Obligations.HotRingMarksAndRewinds := by
  refine ⟨fun l p s serves within last => ?_, fun l i n s serves mark => ?_, fun l i n s serves mark => ?_,
    fun l i n s serves mark valid kept idle => ?_, fun i s active sent => ?_⟩
  · have moved : SameBut [Reg.HOT_CURSOR] s (s.put Reg.HOT_CURSOR ((p.time + 1) % 2 ^ 64)) := SameBut.put _ (by simp)
    refine ⟨_, congrArg Host.Outcome.next (State.read_quiet serves (State.hotRead_from within last) ((Quiet.refl s).put ..)),
      State.answered_answer .., Tab.find_put_self .., ?_, moved.answer l .ok⟩
    exact (State.get_answer_ne _ _ (hotCursor_ne_lastResult l)).trans (State.get_put_self ..)
  · obtain ⟨number, valid, lost⟩ := s.marked_shows i mark
    refine ⟨_, congrArg Host.Outcome.next (State.request_quiet serves (s.markSet_marks i mark) (s.marked_quiet ..)),
      State.answered_answer .., ?_, ?_, ?_, (SameBut.marked s i n.toNat).answer l .ok⟩
    · rwa [State.get_answer_report _ _ _ (by simp only [Reg.MARK_SEQ]; omega)]
    · rwa [State.get_answer_report _ _ _ (by simp only [Reg.MARK_VALID]; omega)]
    · rwa [State.get_answer_report _ _ _ (by simp only [Reg.MARK_LOST]; omega)]
  · have same : SameBut [Reg.MARK_VALID i, Reg.MARK_LOST i, Reg.MARKS_SEQ i] s (s.markDrop i n.toNat) :=
      SameBut.record (by simp) (by simp)
    obtain ⟨valid, lost⟩ := s.markDrop_shows i n.toNat
    refine ⟨_, congrArg Host.Outcome.next (State.request_quiet serves (s.markClear_drops i mark) ((Quiet.refl s).record ..)),
      State.answered_answer .., ?_, ?_, same.answer l .ok⟩
    · rwa [State.get_answer_report _ _ _ (by simp only [Reg.MARK_VALID]; omega)]
    · rwa [State.get_answer_report _ _ _ (by simp only [Reg.MARK_LOST]; omega)]
  · have started : SameBut [Reg.REWIND_ACTIVE i, Reg.MARKS_SEQ i] s
        { s.startReplay i (s.get (Reg.MARK_SEQ i n.toNat)) with rep := s.rep } := s.sameBut_startReplay ..
    refine ⟨_, congrArg Host.Outcome.next (State.request_quiet serves (State.rewind_starts mark valid kept idle)
      ((Quiet.refl s).startReplay ..)), State.answered_answer .., ?_, started.answer l .ok⟩
    rw [State.get_answer_report _ _ _ (by simp only [Reg.REWIND_ACTIVE]; omega)]
    exact State.get_record_one _ _ (rewindActive_ne_marksSeq i)
  · exact ⟨_, exec_rewindDone_all active sent, State.get_record_one _ _ (rewindActive_ne_marksSeq i),
      SameBut.record (by simp) (by simp)⟩

end Sys2Proof.Machine
end

section
/-! SUPPORT. What no command undoes, resets and power losses among them (R1, R393, R541, R556): the variant, the commands that
wait, a blown debug fuse and the retired lines. Every operation on objects, hidden parts, events and flashes keeps them. -/

namespace Sys2Proof.Machine

/-- A state that comes after `s₀` with no command taken and none added: the variant and the waiting commands are the same, and
neither the debug fuse nor a retired line is restored. -/
def State.Follows (s s₀ : State) : Prop :=
  s.variant = s₀.variant ∧ s.pending = s₀.pending ∧ (s₀.sec.debugFuse = true → s.sec.debugFuse = true) ∧
    ∀ x ∈ s₀.mem.retired, x ∈ s.mem.retired

theorem State.Follows.refl (s : State) : s.Follows s := ⟨rfl, rfl, id, fun _ => id⟩

/-- A command that answers a next state answers one that follows `s₀`. -/
def EndsFollowing (s₀ : State) (o : Host.Outcome State Fault Refusal) : Prop := ∀ t, o = .next t → t.Follows s₀

section
variable {s₀ s : State} (h : s.Follows s₀)
include h

theorem State.Follows.next : EndsFollowing s₀ (.next s) := by
  rintro _ ⟨⟩
  exact h

/-- What a state follows rests on its variant, its queue, its debug fuse and its retired lines alone. -/
theorem State.Follows.congr {t : State} (variant : t.variant = s.variant) (pending : t.pending = s.pending)
    (fuse : t.sec.debugFuse = s.sec.debugFuse) (retired : t.mem.retired = s.mem.retired) : t.Follows s₀ := by
  unfold State.Follows
  rw [variant, pending, fuse, retired]
  exact h

theorem State.Follows.ite {c : Prop} [Decidable c] {t : State} (g : t.Follows s₀) : (if c then s else t).Follows s₀ := by
  split
  · exact h
  · exact g

theorem State.Follows.foldl {α : Type} (l : List α) {f : State → α → State} (step : ∀ u a, u.Follows s₀ → (f u a).Follows s₀) :
    (l.foldl f s).Follows s₀ :=
  List.foldlRecOn (motive := (State.Follows · s₀)) l f h fun u hu a _ => step u a hu

/-! ### Hidden parts -/

theorem State.Follows.mode (x : Mode) : State.Follows { s with mode := x } s₀ := h.congr rfl rfl rfl rfl
theorem State.Follows.sys (x : Sys) : State.Follows { s with sys := x } s₀ := h.congr rfl rfl rfl rfl
theorem State.Follows.tim (x : Tim) : State.Follows { s with tim := x } s₀ := h.congr rfl rfl rfl rfl
theorem State.Follows.shadows (x : List Shadow) : State.Follows { s with shadows := x } s₀ := h.congr rfl rfl rfl rfl
theorem State.Follows.cfg (x : Cfg) : State.Follows { s with cfg := x } s₀ := h.congr rfl rfl rfl rfl
theorem State.Follows.chk (x : Chk) : State.Follows { s with chk := x } s₀ := h.congr rfl rfl rfl rfl
theorem State.Follows.sec (x : Sec) (fuse : x.debugFuse = s.sec.debugFuse := by rfl) : State.Follows { s with sec := x } s₀ :=
  h.congr rfl rfl fuse rfl
theorem State.Follows.hlt (x : Hlt) : State.Follows { s with hlt := x } s₀ := h.congr rfl rfl rfl rfl
theorem State.Follows.sweep (x : Option Sweep) : State.Follows { s with sweep := x } s₀ := h.congr rfl rfl rfl rfl
theorem State.Follows.rep (x : Rep) : State.Follows { s with rep := x } s₀ := h.congr rfl rfl rfl rfl
theorem State.Follows.ilk (x : Ilk) : State.Follows { s with ilk := x } s₀ := h.congr rfl rfl rfl rfl
theorem State.Follows.arr (x : Arr) : State.Follows { s with arr := x } s₀ := h.congr rfl rfl rfl rfl
theorem State.Follows.val (x : Val) : State.Follows { s with val := x } s₀ := h.congr rfl rfl rfl rfl
theorem State.Follows.trk (x : Trk) : State.Follows { s with trk := x } s₀ := h.congr rfl rfl rfl rfl
theorem State.Follows.hf (x : Hf) : State.Follows { s with hf := x } s₀ := h.congr rfl rfl rfl rfl
theorem State.Follows.testC (x : Option TestC) : State.Follows { s with testC := x } s₀ := h.congr rfl rfl rfl rfl
theorem State.Follows.mem (x : Mem) (retired : x.retired = s.mem.retired := by rfl) : State.Follows { s with mem := x } s₀ :=
  h.congr rfl rfl rfl retired
theorem State.Follows.io (x : Io) : State.Follows { s with io := x } s₀ := h.congr rfl rfl rfl rfl
theorem State.Follows.hubs (x : Tab Hub) : State.Follows { s with hubs := x } s₀ := h.congr rfl rfl rfl rfl
theorem State.Follows.quads (x : Tab Quad) : State.Follows { s with quads := x } s₀ := h.congr rfl rfl rfl rfl
theorem State.Follows.chains (x : Tab Chain) : State.Follows { s with chains := x } s₀ := h.congr rfl rfl rfl rfl
theorem State.Follows.free (x : Nat) : State.Follows { s with free := x } s₀ := h.congr rfl rfl rfl rfl
theorem State.Follows.rounds (x : Tab Round) : State.Follows { s with eng := { s.eng with rounds := x } } s₀ :=
  h.congr rfl rfl rfl rfl
theorem State.Follows.zones (x : Tab ZoneMem) : State.Follows { s with eng := { s.eng with zones := x } } s₀ :=
  h.congr rfl rfl rfl rfl
theorem State.Follows.armed (x : Nat) : State.Follows { s with eng := { s.eng with armed := x } } s₀ := h.congr rfl rfl rfl rfl
theorem State.Follows.heard (x : Tab Read) : State.Follows { s with eng := { s.eng with heard := x } } s₀ := h.congr rfl rfl rfl rfl
theorem State.Follows.spc (x : Option SpcOp) : State.Follows { s with brd := { s.brd with spc := x } } s₀ := h.congr rfl rfl rfl rfl

/-! ### Objects -/

theorem State.Follows.put (k v : Nat) : (s.put k v).Follows s₀ := h.congr rfl rfl rfl rfl
theorem State.Follows.putDom (k : Nat) (b : Bytes) : (s.putDom k b).Follows s₀ := h.congr rfl rfl rfl rfl
theorem State.Follows.puts (l : List (Nat × Nat)) : (s.puts l).Follows s₀ := by
  obtain ⟨_, only⟩ := s.puts_only l
  rw [only]
  exact h.congr rfl rfl rfl rfl
theorem State.Follows.seq (q : Nat) : (s.seq q).Follows s₀ := h.put ..
theorem State.Follows.record (q : Nat) (l : List (Nat × Nat)) : (s.record q l).Follows s₀ := (h.puts l).seq q
theorem State.Follows.recordIf (q : Nat) (l : List (Nat × Nat)) : (s.recordIf q l).Follows s₀ := h.ite (h.record ..)
theorem State.Follows.bump (k : Nat) : (s.bump k).Follows s₀ := h.put ..
theorem State.Follows.addWide (lo n : Nat) : (s.addWide lo n).Follows s₀ := (h.put ..).put ..
theorem State.Follows.raise (k v : Nat) : (s.raise k v).Follows s₀ := h.put ..
theorem State.Follows.checked (u n bad : Nat) : (s.checked u n bad).Follows s₀ := h.record ..
theorem State.Follows.draw : s.draw.2.Follows s₀ := h.free _

/-! ### Events and flashes -/

theorem State.Follows.latchAs (crit : Bool) (cls e a b : Nat) : (s.latchAs crit cls e a b).Follows s₀ := by
  obtain ⟨_, _, _, only⟩ := s.latchAs_only crit cls e a b
  rw [only]
  exact h.congr rfl rfl rfl rfl

theorem State.Follows.latch (e a b : Nat) : (s.latch e a b).Follows s₀ := h.latchAs ..

theorem State.Follows.queueEmcy (e : Emcy) : (s.queueEmcy e).Follows s₀ := by
  obtain ⟨_, _, only⟩ := s.queueEmcy_only e
  rw [only]
  exact h.congr rfl rfl rfl rfl

theorem State.Follows.resultsChanged : s.resultsChanged.Follows s₀ := (h.putDom ..).record ..

theorem State.Follows.pushResult (t slot op code tagErr : Nat) (r : Round) (data : Bytes) :
    (s.pushResult t slot op code tagErr r data).Follows s₀ := by
  unfold State.pushResult
  split
  · exact h
  · extract_lets id e
    exact State.Follows.resultsChanged (h.congr rfl rfl rfl rfl)

theorem State.Follows.updFlash (n : Nat) (f : Memory → Memory) : (s.updFlash n f).Follows s₀ := h.congr rfl rfl rfl rfl

theorem State.Follows.scramble (n a len : Nat) : (s.scramble n a len).Follows s₀ := (h.free _).updFlash ..

theorem State.Follows.flashOther (n : Nat) : (s.flashOther n).Follows s₀ := by
  unfold State.flashOther
  split
  · exact h.congr rfl rfl rfl rfl
  · exact h

theorem State.Follows.updTwb (f : Brd → Brd) : (s.updTwb f).Follows s₀ := h.congr rfl rfl rfl rfl

/-! ### Resets -/

/-- A reset keeps the retired lines, the debug fuse and the queue (R58, R393, R541, R556). -/
theorem State.Follows.resetPart (cause detail : Nat) (phase : ResetPhase) : (s.resetPart cause detail phase).Follows s₀ := by
  unfold State.resetPart
  refine State.Follows.puts ?_ _
  exact h.congr rfl rfl rfl rfl

theorem State.Follows.resets : s.resets.Follows s₀ := by
  unfold State.resets
  split
  · exact h
  · exact (h.resetPart ..).io _

theorem State.Follows.resetsFor (l : Link) : (s.resetsFor l).Follows s₀ := h.resets.ite h

/-! ### Requests -/

theorem State.Follows.answer (l : Link) (r : Result) : (s.answer l r).Follows s₀ := (h.sys _).put ..

/-- A host's request follows where what it carries out does (R92). -/
theorem State.Follows.request {l : Link} {w : Bool} {f : State → Result × State} (carried : (f s).2.Follows s₀) :
    (s.request l w f).Follows s₀ := by
  unfold State.request
  extract_lets r
  exact h.ite ((h.answer ..).ite ((h.answer ..).ite (carried.ite ((carried.answer ..).resetsFor l))))

theorem State.Follows.checks {l : List (Bool × Result)} {f : State → State} (carried : (f s).Follows s₀) :
    (checks l f s).2.Follows s₀ := by
  unfold Machine.checks
  split
  · exact h
  · exact carried

theorem State.Follows.give (l : Link) (b : Bytes) : (s.give l b).Follows s₀ := h.io _

theorem State.Follows.read {l : Link} {f : State → Result × Bytes × State} (carried : (f s).2.2.Follows s₀) :
    (s.read l f).Follows s₀ :=
  h.request (carried.give ..)

end

theorem EndsFollowing.ite {c : Prop} [Decidable c] {o p : Host.Outcome State Fault Refusal} (ho : EndsFollowing s₀ o)
    (hp : EndsFollowing s₀ p) : EndsFollowing s₀ (if c then o else p) := by
  split
  · exact ho
  · exact hp

end Sys2Proof.Machine
end

section
/-! SUPPORT. What the operations on answers, links, the interlock and the reports keep of `State.Follows`. -/

namespace Sys2Proof.Machine

section
variable {s₀ s : State} (h : s.Follows s₀)
include h

/-! ### Requests and answers (R92, R93, R96) -/

theorem State.Follows.updQuad (q : Nat) (f : Quad → Quad) : (s.updQuad q f).Follows s₀ := h.quads _

theorem State.Follows.updChain (c : Nat) (f : Chain → Chain) : (s.updChain c f).Follows s₀ := h.chains _

theorem State.Follows.updHub (n : Nat) (f : Hub → Hub) : (s.updHub n f).Follows s₀ := h.hubs _

theorem State.Follows.attnFell (before : Bool) : (s.attnFell before).Follows s₀ := (h.queueEmcy ..).ite h

theorem State.Follows.ackEvents (mask : Nat) : (s.ackEvents mask).Follows s₀ := by
  unfold State.ackEvents
  extract_lets before t
  refine State.Follows.attnFell ?_ _
  exact h.congr rfl rfl rfl rfl

theorem State.Follows.pxHandover : s.pxHandover.Follows s₀ := (h.sys _).ite h

theorem State.Follows.softStartTick : s.softStartTick.Follows s₀ := h.ite (h.sys _)

theorem State.Follows.usdoAnswer (r : UsdoRsp) : (s.usdoAnswer r).Follows s₀ := by
  unfold State.usdoAnswer
  split
  · exact h
  · extract_lets
    split
    · exact (h.io _).record ..
    · exact (h.io _)

theorem State.Follows.sptAnswer (q : SptReq) (r : Result) (body : Bytes) : (s.sptAnswer q r body).Follows s₀ := h.ite (h.io _)

theorem State.Follows.twaAnswer (r : Result) (more : Bytes) : (s.twaAnswer r more).Follows s₀ := h.ite (h.io _)

theorem State.Follows.endHeld (l : Link) (r : Result) : (s.endHeld l r).Follows s₀ := by
  unfold State.endHeld
  extract_lets
  split
  · split
    · exact (h.answer ..).sptAnswer ..
    · exact h.answer ..
  · exact (h.answer ..).twaAnswer ..
  · split
    · exact (((h.answer ..).io _).usdoAnswer ..).ite (h.answer ..)
    · exact h.answer ..

/-! ### Links (R21 to R32) -/

theorem State.Follows.updEnd (n : Nat) (side : LinkSide) (f : LinkEnd → LinkEnd) : (s.updEnd n side f).Follows s₀ := h.updHub ..

theorem State.Follows.linkClear (n width : Nat) (training : Bool) : (s.linkClear n width training).Follows s₀ := h.updHub ..

theorem State.Follows.sendFlit (n : Nat) (side : LinkSide) (type stream : Nat) : (s.sendFlit n side type stream).Follows s₀ :=
  h.ite (h.updEnd ..)

theorem State.Follows.droneFlits (n : Nat) : (s.droneFlits n).Follows s₀ := by
  unfold State.droneFlits
  extract_lets _ s1
  have hs1 : s1.Follows s₀ := (h.foldl _ fun _ _ hu => hu.sendFlit ..).ite h
  exact h.ite ((hs1.sendFlit ..).ite hs1)

theorem State.Follows.quadFlits (n : Nat) : (s.quadFlits n).Follows s₀ := by
  unfold State.quadFlits
  extract_lets t
  have ht : t.Follows s₀ := h.droneFlits ..
  exact ht.ite ((ht.sendFlit ..).updHub ..)

theorem State.Follows.linkTick : s.linkTick.Follows s₀ := h.ite (h.foldl _ fun _ _ hu => hu.ite ((hu.quadFlits ..).updHub ..))

/-! ### The interlock (R190, R191) -/

theorem State.Follows.refuse : s.refuse.Follows s₀ := (h.bump ..).seq ..

theorem State.Follows.ilkMicro : s.ilkMicro.Follows s₀ := by
  unfold State.ilkMicro
  extract_lets _ _ _ _ t
  have ht : t.Follows s₀ := h.ilk _
  exact ht.ite (ht.seq ..)

theorem State.Follows.ilkTick : s.ilkTick.Follows s₀ := (h.ilk _).ilkMicro.ite (h.ilk _)

theorem State.Follows.ilkLoad : s.ilkLoad.Follows s₀ := h.ilk _

/-! ### Reports (chapter 10) -/

theorem State.Follows.updStream (i : Nat) (f : Machine.Stream → Machine.Stream) : (s.updStream i f).Follows s₀ := h.rep _

theorem State.Follows.recordsLost (key : Nat) : (s.recordsLost key).Follows s₀ := h.ite (h.latch ..)

theorem State.Follows.fillChanged (i : Nat) : (s.fillChanged i).Follows s₀ := by
  unfold State.fillChanged
  extract_lets _ _ _ _ _ s2
  have hs2 : s2.Follows s₀ := ((h.record ..).record ..).updStream ..
  exact ((hs2.put ..).latch ..).ite hs2

theorem State.Follows.loseMarks (i q : Nat) : (s.loseMarks i q).Follows s₀ :=
  h.foldl _ fun _ _ hu => ((hu.record ..).latch ..).ite hu

theorem State.Follows.goneBy (p : Pkt) : (s.goneBy p).Follows s₀ := h.rep _

theorem State.Follows.dropOldest (p : Pkt) : (s.dropOldest p).Follows s₀ := by
  unfold State.dropOldest
  extract_lets _ _ _ _ _ s3
  have hs3 : s3.Follows s₀ := (((h.rep _).goneBy ..).loseMarks ..).updStream ..
  exact (((hs3.addWide ..).seq ..).recordsLost ..).ite hs3

theorem State.Follows.makeRoom (room : Nat) (l : List Pkt) : (s.makeRoom room l).Follows s₀ := by
  induction l generalizing s with
  | nil => exact h
  | cons p r ih => exact h.ite (ih (h.dropOldest p))

theorem State.Follows.toArchive (p : Pkt) : (s.toArchive p).Follows s₀ := by
  unfold State.toArchive
  extract_lets _ _ _ _ _ _ s2
  have hs2 : s2.Follows s₀ := (h.makeRoom ..).rep _
  exact (hs2.latch ..).ite hs2

theorem State.Follows.placePkt (p : Pkt) : (s.placePkt p).Follows s₀ := by
  unfold State.placePkt
  extract_lets _ _ _ _ _ _ _ _ _ s2
  have hs2 : s2.Follows s₀ := (h.ite (h.toArchive ..)).updStream ..
  exact (hs2.ite ((hs2.bump ..).seq ..)).fillChanged ..

theorem State.Follows.closeOne (i kind : Nat) : (s.closeOne i kind).Follows s₀ := by
  unfold State.closeOne
  split
  · exact h
  · exact ((h.updStream ..).record ..).placePkt ..

theorem State.Follows.closePkt (i kind : Nat) : (s.closePkt i kind).Follows s₀ :=
  ((h.closeOne ..).closeOne ..).ite (h.closeOne ..)

theorem State.Follows.closeAll (i : Nat) : (s.closeAll i).Follows s₀ := h.foldl _ fun _ _ hu => hu.closePkt ..

theorem State.Follows.offer (i : Nat) (tiers : List Nat) (kind size : Nat) (tags : List Nat) : (s.offer i tiers kind size
    tags).Follows s₀ :=
  h.updStream ..

theorem State.Follows.offerT2 (i : Nat) : (s.offerT2 i).Follows s₀ := (h.foldl _ fun _ _ hu => hu.offer ..).updStream ..

theorem State.Follows.place (i kind size time : Nat) (tags : List Nat) (baseRecs : Nat) (mk : Nat → Bytes) : (s.place i kind
    size time tags baseRecs mk).Follows s₀ :=
  ((h.closePkt ..).ite h).updStream ..

theorem State.Follows.lost (i n : Nat) : (s.lost i n).Follows s₀ := (h.addWide ..).seq ..

theorem State.Follows.carry (i : Nat) (r : Read) (l : Loc) (first : Bool) : (s.carry i r l first).Follows s₀ := by
  unfold State.carry
  extract_lets _ _ _ s1 _ s3
  have hs1 : s1.Follows s₀ := h.offer ..
  have hs3 : s3.Follows s₀ := (hs1.ite (hs1.offer ..)).updStream ..
  exact (hs3.place ..).ite ((((hs3.addWide ..).seq ..).recordsLost ..).ite
    ((((hs3.lost ..).ite hs3).place ..).ite ((hs3.lost ..).ite hs3)))

theorem State.Follows.toHot (r : Read) (l : Loc) (first : Bool) : (s.toHot r l first).Follows s₀ := (h.rep _).record ..

theorem State.Follows.report (r : Read) (l : Loc) : (s.report r l).Follows s₀ :=
  (((h.toHot ..).rep _).ite (h.toHot ..)).foldl _ fun _ _ hu => hu.carry ..

theorem State.Follows.placeT2 (i base : Nat) (cut : Bool) : (s.placeT2 i base cut).Follows s₀ := by
  unfold State.placeT2
  extract_lets _ _ s0
  have hs0 : s0.Follows s₀ := (h.offerT2 ..).updStream ..
  exact hs0.ite (hs0.foldl _ fun _ _ hu => hu.ite (((hu.lost ..).ite hu).ite (hu.place ..)))

theorem State.Follows.reportPassage (body : Bytes) (tag reads : Nat) : (s.reportPassage body tag reads).Follows s₀ :=
  h.foldl _ fun _ _ hu => (hu.offer ..).place ..

theorem State.Follows.announce (idx : Nat) (reused : Bool) (pc xpc : Nat) (epc : Bytes) : (s.announce idx reused pc xpc
    epc).Follows s₀ :=
  h.foldl _ fun _ _ hu => (hu.offer ..).place ..

theorem State.Follows.assign (idx : Nat) (reused : Bool) (pc xpc : Nat) (epc : Bytes) : (s.assign idx reused pc xpc
    epc).Follows s₀ :=
  (((h.rep _).record ..).announce ..).latch ..

theorem State.Follows.tagIndex (pc xpc : Nat) (epc : Bytes) (tracked : List Nat) : (s.tagIndex pc xpc epc
    tracked).2.2.Follows s₀ := by
  unfold State.tagIndex
  split
  · exact (h.bump ..).seq ..
  · split
    · exact h.rep _
    · extract_lets
      split
      · exact h.assign ..
      · split
        · exact h.assign ..
        · exact (h.bump ..).seq ..

theorem State.Follows.setCredits (i v : Nat) : (s.setCredits i v).Follows s₀ := by
  unfold State.setCredits
  extract_lets _ _ s1
  have hs1 : s1.Follows s₀ := h.record ..
  exact (hs1.latch ..).ite hs1

theorem State.Follows.charge (i : Nat) (p : Pkt) : (s.charge i p).Follows s₀ := h.ite ((h.updStream ..).setCredits ..)

theorem State.Follows.delivered (i : Nat) (p : Pkt) : (s.delivered i p).Follows s₀ := (h.updStream ..).fillChanged ..

theorem State.Follows.sendPkt (i : Nat) (p : Pkt) : (s.sendPkt i p).2.Follows s₀ := h.updStream ..

theorem State.Follows.closeReports : s.closeReports.Follows s₀ :=
  h.foldl _ fun _ _ hu => ((hu.placeT2 ..).closeAll ..).updStream ..

end

end Sys2Proof.Machine
end

section
/-! SUPPORT. What the operations on carriers, rounds and access operations keep of `State.Follows`. -/

namespace Sys2Proof.Machine

section
variable {s₀ s : State} (h : s.Follows s₀)
include h

/-! ### Quads, chains and their carriers (chapters 4, 6) -/

theorem State.Follows.putRound (t : Nat) (r : Round) : (s.putRound t r).Follows s₀ := h.rounds _

theorem State.Follows.showQuad (q : Nat) : (s.showQuad q).Follows s₀ := (h.record ..).ite ((h.record ..).ite h)

theorem State.Follows.keepFwd (c : Nat) : (s.keepFwd c).Follows s₀ := h.ite (h.updChain ..)

theorem State.Follows.stopChain (c st : Nat) (mute : Bool) : (s.stopChain c st mute).Follows s₀ := by
  unfold State.stopChain
  extract_lets _ _ s2
  have hs2 : s2.Follows s₀ := ((h.keepFwd ..).record ..).updChain ..
  exact ((hs2.updQuad ..).ite hs2).showQuad ..

theorem State.Follows.muteChain (c : Nat) : (s.muteChain c).Follows s₀ := (h.stopChain ..).ite h

theorem State.Follows.rampDown (c : Nat) : (s.rampDown c).Follows s₀ := (((h.keepFwd ..).record ..).updChain ..).ite h

theorem State.Follows.raiseChain (c : Nat) (level : Int) : (s.raiseChain c level).Follows s₀ :=
  ((h.record ..).updChain ..).showQuad ..

theorem State.Follows.setLevel (c : Nat) (level : Int) : (s.setLevel c level).Follows s₀ := (h.record ..).updChain ..

theorem State.Follows.faultChain (c b : Nat) : (s.faultChain c b).Follows s₀ := (h.record ..).stopChain ..

theorem State.Follows.muteQuad (q : Nat) : (s.muteQuad q).Follows s₀ := h.foldl _ fun _ _ hu => hu.muteChain ..

theorem State.Follows.rampQuad (q : Nat) : (s.rampQuad q).Follows s₀ := h.foldl _ fun _ _ hu => hu.rampDown ..

theorem State.Follows.muteAll : s.muteAll.Follows s₀ := h.foldl _ fun _ _ hu => hu.muteChain ..

theorem State.Follows.rampAll : s.rampAll.Follows s₀ := h.foldl _ fun _ _ hu => hu.rampDown ..

theorem State.Follows.updSeed (c khz : Nat) (f : Seed → Seed) : (s.updSeed c khz f).Follows s₀ := (h.updChain ..).seq ..

theorem State.Follows.rebuildSeeds : s.rebuildSeeds.Follows s₀ := h.foldl _ fun _ _ hu => (hu.updChain ..).seq ..

theorem State.Follows.loadSeed (khz c : Nat) : (s.loadSeed khz c).Follows s₀ := by
  unfold State.loadSeed
  extract_lets s1
  have hs1 : s1.Follows s₀ := h.updChain ..
  split
  · exact hs1.record ..
  · exact hs1

theorem State.Follows.showPhases (cs : List Nat) : (s.showPhases cs).Follows s₀ := (h.recordIf ..).recordIf ..

theorem State.Follows.setGamma (prof c : Nat) : (s.setGamma prof c).Follows s₀ := h.updChain ..

theorem State.Follows.putRunning (q : Nat) (r : Running) : (s.putRunning q r).Follows s₀ := h.val _

theorem State.Follows.showTx (q : Nat) : (s.showTx q).Follows s₀ := by
  unfold State.showTx
  extract_lets
  split
  · exact h.recordIf ..
  · exact h.recordIf ..

theorem State.Follows.steerGang (d : Dwell) : (s.steerGang d).Follows s₀ := h.foldl _ fun _ _ hu => hu.updChain ..

theorem State.Follows.setWeights (b : Nat) (w : List Weight) : (s.setWeights b w).Follows s₀ := h.arr _

theorem State.Follows.weigh (b : Nat) : (s.weigh b).Follows s₀ := h.setWeights ..

theorem State.Follows.showRx (b : Nat) : (s.showRx b).Follows s₀ := by
  unfold State.showRx
  extract_lets
  split
  · exact (h.recordIf ..).ite (h.recordIf ..)
  · exact h.recordIf ..

theorem State.Follows.showActive : s.showActive.Follows s₀ := h.recordIf ..

theorem State.Follows.beamsOut (t : Nat) : (s.beamsOut t).Follows s₀ := (h.arr _).foldl _ fun _ _ hu => (hu.weigh ..).showRx ..

theorem State.Follows.beamsDue (t : Nat) : (s.beamsDue t).Follows s₀ := (h.beamsOut ..).showActive.ite h

theorem State.Follows.showBeams : s.showBeams.Follows s₀ :=
  (h.foldl _ fun _ _ hu => ((hu.showTx ..).arr _).ite ((hu.showTx ..).beamsOut ..)).showActive

theorem State.Follows.reedReady (l : Nat) : (s.reedReady l).Follows s₀ := by
  unfold State.reedReady
  split
  · exact h
  · exact (h.putRunning ..).ite h

theorem State.Follows.beamsLost : s.beamsLost.Follows s₀ := h.showBeams.foldl _ fun _ _ hu => hu.reedReady ..

theorem State.Follows.gainTo (c g : Nat) : (s.gainTo c g).Follows s₀ := (h.updChain ..).ite (h.recordIf ..)

theorem State.Follows.replyOver (t : Nat) : (s.replyOver t).Follows s₀ := by
  unfold State.replyOver
  split
  · exact h
  · refine h.foldl _ fun u a hu => ?_
    split
    · exact (hu.updChain ..).recordIf ..
    · exact hu

theorem State.Follows.dropTone (leader : Nat) : (s.dropTone leader).Follows s₀ := h.arr _

theorem State.Follows.askTone (leader : Nat) : (s.askTone leader).Follows s₀ :=
  (h.foldl _ fun _ _ hu => hu.rampQuad ..).ite ((h.foldl _ fun _ _ hu => hu.rampQuad ..).arr _)

theorem State.Follows.phaseless (q : Nat) : (s.phaseless q).Follows s₀ :=
  (((h.recordIf ..).recordIf ..).foldl _ fun _ _ hu => hu.updChain ..).arr _

theorem State.Follows.retune (q khz : Nat) (why : Option HeldBy) : (s.retune q khz why).Follows s₀ := by
  unfold State.retune
  extract_lets s1
  have hs1 : s1.Follows s₀ := ((h.rampQuad ..).phaseless ..).updQuad ..
  exact hs1.ite (hs1.record ..)

theorem State.Follows.quadDark (q : Nat) : (s.quadDark q).Follows s₀ := h.foldl _ fun _ _ hu => (hu.stopChain ..).ite hu

theorem State.Follows.synthOff (q : Nat) : (s.synthOff q).Follows s₀ := (((h.quadDark ..).phaseless ..).updQuad ..).recordIf ..

theorem State.Follows.startCal (q : Nat) : (s.startCal q).Follows s₀ := (((h.rampQuad ..).phaseless ..).updQuad ..).record ..

theorem State.Follows.sweepOn (khz : Nat) (only : Option Nat) : (s.sweepOn khz only).Follows s₀ :=
  (h.foldl _ fun _ _ hu => ((hu.phaseless ..).updQuad ..).record ..).foldl _ fun _ _ hu =>
    ((hu.loadSeed ..).raiseChain ..).record ..

theorem State.Follows.sweepNext (w : Sweep) (l : List Nat) : (s.sweepNext w l).Follows s₀ := by
  induction l generalizing s with
  | nil => exact h.sweep _
  | cons k r ih => exact (h.sweep _).ite (((h.sweep _).sweepOn ..).ite (ih h.refuse))

theorem State.Follows.startSweep (khzs : List Nat) (only : Option Nat) (iso : Bool) : (s.startSweep khzs only iso).Follows s₀ :=
  (h.foldl _ fun _ _ hu => hu.record ..).sweepNext ..

theorem State.Follows.sweepQueued (l : List Nat) : (s.sweepQueued l).Follows s₀ := by
  induction l generalizing s with
  | nil => exact h
  | cons c r ih =>
    unfold State.sweepQueued
    extract_lets t
    have started : t.Follows s₀ := h.startSweep ..
    split
    · exact started.sweep _
    · exact ih started

theorem State.Follows.cutSweep : s.cutSweep.Follows s₀ := by
  unfold State.cutSweep
  split
  · exact h
  · exact (h.sweep _).foldl _ fun _ _ hu => hu.rampDown ..

/-! ### Rounds and access operations (chapter 7) -/

theorem State.Follows.opState (n : Nat) : (s.opState n).Follows s₀ := h.ite (h.record ..)

theorem State.Follows.armOp (n : Nat) (on : Bool) : (s.armOp n on).Follows s₀ := (h.armed _).opState ..

theorem State.Follows.autoArm : s.autoArm.Follows s₀ := h.foldl _ fun _ _ hu => (hu.armOp ..).ite hu

theorem State.Follows.watchOne (w : Nat) (data : Bytes) : (s.watchOne w data).Follows s₀ := by
  unfold State.watchOne
  extract_lets _ _ _ _ _ s1
  have hs1 : s1.Follows s₀ := h.record ..
  exact (h.recordIf ..).ite ((hs1.latch ..).ite hs1)

theorem State.Follows.watch (slot : Nat) (epc data : Bytes) : (s.watch slot epc data).Follows s₀ :=
  h.foldl _ fun _ _ hu => (hu.watchOne ..).ite hu

theorem State.Follows.opEnds (t slot code tagErr : Nat) (r : Round) (data : Bytes) : (s.opEnds t slot code tagErr r
    data).Follows s₀ := by
  unfold State.opEnds
  extract_lets _ _ s2 s3 s4
  have hs2 : s2.Follows s₀ := (h.pushResult ..).record ..
  have hs3 : s3.Follows s₀ := (hs2.latch ..).ite (hs2.latch ..)
  have hs4 : s4.Follows s₀ := (hs3.armOp ..).ite (hs3.opState ..)
  exact (hs4.watch ..).ite hs4

theorem State.Follows.showRound (t : Nat) (r : Round) : (s.showRound t r).Follows s₀ := h.record ..

theorem State.Follows.keepZone (r : Round) : (s.keepZone r).Follows s₀ := h.zones _

theorem State.Follows.roundStats (t cause : Nat) (aborted : Bool) (r : Round) : (s.roundStats t cause aborted r).Follows s₀ :=
  (h.record ..).latch ..

theorem State.Follows.endRound (t cause : Nat) (aborted : Bool) : (s.endRound t cause aborted).Follows s₀ := by
  unfold State.endRound
  split
  · exact h
  · extract_lets _ _ s1 s2
    have hs1 : s1.Follows s₀ := ((h.replyOver ..).beamsDue ..).rounds _
    have hs2 : s2.Follows s₀ := by
      unfold s2
      split
      · exact hs1.opEnds ..
      · exact hs1
    exact (hs2.keepZone ..).roundStats ..

theorem State.Follows.dueRound (t cause : Nat) : (s.dueRound t cause).Follows s₀ := by
  unfold State.dueRound
  split
  · exact h
  · exact (h.putRound ..).ite (h.putRound ..)

theorem State.Follows.slotBoundary (t : Nat) (r : Round) : (s.slotBoundary t r).Follows s₀ :=
  (((h.replyOver ..).beamsDue ..).putRound ..).showRound ..

theorem State.Follows.nextOp (t : Nat) (r : Round) (l : List Nat) : (s.nextOp t r l).Follows s₀ := by
  induction l generalizing s with
  | nil => exact h.slotBoundary ..
  | cons n rest ih =>
    unfold State.nextOp
    exact (h.slotBoundary ..).ite ((ih h).ite ((ih ((h.bump ..).seq ..)).ite (((h.putRound ..).opState ..).showRound ..)))

theorem State.Follows.readTag (t khz : Nat) (r : Round) (e : EpcReply) : (s.readTag t khz r e).2.Follows s₀ := by
  unfold State.readTag
  extract_lets _ _ _ _ _ s2
  have hs2 : s2.Follows s₀ := (h.tagIndex ..).congr rfl rfl rfl rfl
  exact hs2.record ..

end

end Sys2Proof.Machine
end

section
/-! SUPPORT. What the operations on plans, tracks, the HF field and the modes keep of `State.Follows`. -/

namespace Sys2Proof.Machine

section
variable {s₀ s : State} (h : s.Follows s₀)
include h

/-! ### Plans and dwells (chapter 9) -/

theorem State.Follows.showZones (served : List Nat) : (s.showZones served).Follows s₀ := h.foldl _ fun _ _ hu => hu.recordIf ..

theorem State.Follows.budgetEvents (step : Nat) : (s.budgetEvents step).Follows s₀ :=
  ((((((((h.recordIf ..).ite (h.recordIf ..)).val _).record ..).latch ..).ite ((((h.recordIf ..).ite
    (h.recordIf ..)).val _).ite ((h.recordIf ..).ite (h.recordIf ..)))).val _).latch ..).ite ((((((((h.recordIf ..).ite
    (h.recordIf ..)).val _).record ..).latch ..).ite ((((h.recordIf ..).ite (h.recordIf ..)).val _).ite ((h.recordIf ..).ite
    (h.recordIf ..)))).val _).ite ((((((h.recordIf ..).ite (h.recordIf ..)).val _).record ..).latch ..).ite
    ((((h.recordIf ..).ite (h.recordIf ..)).val _).ite ((h.recordIf ..).ite (h.recordIf ..)))))

theorem State.Follows.usePlan (p : Plan) : (s.usePlan p).Follows s₀ :=
  ((((h.putDom ..).record ..).val _).budgetEvents ..).showZones ..

theorem State.Follows.replan : s.replan.Follows s₀ := (h.usePlan ..).ite h

theorem State.Follows.replanNow (lost : Option Nat) (fallback : Bool) : (s.replanNow lost fallback).Follows s₀ :=
  (h.usePlan ..).val _

theorem State.Follows.writeBack (d : Dwell) : (s.writeBack d).Follows s₀ := h.foldl _ fun _ _ hu => hu.updSeed ..

theorem State.Follows.closeDwell (l : Nat) : (s.closeDwell l).Follows s₀ := by
  unfold State.closeDwell
  split
  · exact h.dropTone ..
  · exact ((h.writeBack ..).val _).dropTone ..

theorem State.Follows.dissolve (leader : Nat) : (s.dissolve leader).Follows s₀ := (h.closeDwell ..).val _

theorem State.Follows.gangDown (l : Nat) : (s.gangDown l).Follows s₀ := by
  unfold State.gangDown
  split
  · exact h
  · exact ((h.foldl _ fun _ _ hu => hu.rampQuad ..).dissolve ..).showBeams

theorem State.Follows.dropDwells : s.dropDwells.Follows s₀ :=
  (h.foldl _ fun _ _ hu => (hu.foldl _ fun _ _ hu => hu.rampQuad ..).dissolve ..).showBeams

theorem State.Follows.setRails (gang : Nat) (lv : List (Nat × Int)) : (s.setRails gang lv).Follows s₀ :=
  h.foldl _ fun _ _ hu => hu.updQuad ..

theorem State.Follows.raiseGang (l : Nat) : (s.raiseGang l).Follows s₀ := by
  unfold State.raiseGang
  split
  · exact h
  · exact h.ite ((((((((h.steerGang ..).foldl _ fun _ _ hu => (hu.setLevel ..).ite
        (hu.raiseChain ..)).foldl _ fun _ _ hu => hu.updChain ..).foldl _ fun _ _ hu => hu.updQuad ..).val
        _).putRunning ..).foldl _ fun _ _ hu => hu.weigh ..).ite
      ((h.refuse.foldl _ fun _ _ hu => hu.rampQuad ..).dissolve ..).showBeams.replan)

theorem State.Follows.gangLocked (l : Nat) : (s.gangLocked l).Follows s₀ := by
  unfold State.gangLocked
  split
  · exact h
  · split
    · exact h
    · split
      · exact (h.raiseGang ..).ite (h.askTone ..)
      · exact h.askTone ..

theorem State.Follows.leaveGang (q : Nat) : (s.leaveGang q).Follows s₀ := by
  unfold State.leaveGang
  split
  · exact h
  · split
    · exact h
    · extract_lets _ _ t
      have ht : t.Follows s₀ := (h.putRunning ..).beamsLost
      exact (ht.gangLocked ..).ite ht

theorem State.Follows.fallback (q gang : Nat) : (s.fallback q gang).Follows s₀ :=
  ((h.foldl _ fun _ _ hu => hu.rampQuad ..).replanNow ..).record ..

theorem State.Follows.loseQuad (q cause : Nat) : (s.loseQuad q cause).Follows s₀ := by
  unfold State.loseQuad
  split
  · extract_lets s1
    have hs1 : s1.Follows s₀ := ((h.endRound ..).dissolve ..).showBeams
    exact (hs1.fallback ..).ite hs1
  · exact h.leaveGang ..

theorem State.Follows.quadOut (q cause : Nat) : (s.quadOut q cause).Follows s₀ := by
  unfold State.quadOut
  extract_lets _ s2
  have hs2 : s2.Follows s₀ := ((h.phaseless ..).record ..).updQuad ..
  exact hs2.ite (hs2.latch ..)

theorem State.Follows.quadBack (q cause : Nat) : (s.quadBack q cause).Follows s₀ := ((h.record ..).updQuad ..).ite h

/-! ### Location and tracks (chapter 8) -/

theorem State.Follows.closeTrack (t : Track) (flag : Nat) : (s.closeTrack t flag).Follows s₀ :=
  ((((h.trk _).record ..).record ..).latch ..).reportPassage ..

theorem State.Follows.closeTracks (flag : Nat) : (s.closeTracks flag).Follows s₀ := h.foldl _ fun _ _ hu => hu.closeTrack ..

theorem State.Follows.publish (i : Ival) : (s.publish i).Follows s₀ :=
  ((h.foldl _ fun _ _ hu => hu.record ..).record ..).latch ..

theorem State.Follows.cutIvals : s.cutIvals.Follows s₀ := (h.trk _).foldl _ fun _ _ hu => hu.publish ..

theorem State.Follows.rollIvals : s.rollIvals.Follows s₀ := by
  unfold State.rollIvals
  split
  · exact h
  · exact h.ite (h.trk _)

theorem State.Follows.startTracking : s.startTracking.Follows s₀ := h.trk _

theorem State.Follows.stopTracking (flag : Nat) : (s.stopTracking flag).Follows s₀ := (h.closeTracks ..).cutIvals

theorem State.Follows.countLocated (l : Loc) : (s.countLocated l).Follows s₀ := h.record ..

theorem State.Follows.locateOne (r : Read) : (s.locateOne r).Follows s₀ := (((h.countLocated ..).record ..).report ..).rep _

theorem State.Follows.locateAll : s.locateAll.Follows s₀ := (h.rep _).foldl _ fun _ _ hu => hu.locateOne ..

theorem State.Follows.locateNone : s.locateNone.Follows s₀ := ((h.rep _).foldl _ fun _ _ hu => hu.report ..).rep _

theorem State.Follows.withTrack (r : Read) : (s.withTrack r).Follows s₀ := by
  unfold State.withTrack
  split
  · exact h
  · extract_lets s1 s2
    have room : s1.Follows s₀ := by
      unfold s1
      split
      · split
        · exact ((h.closeTrack ..).bump _).seq _
        · exact h
      · exact h
    exact (room.trk _).record ..

theorem State.Follows.join (r : Read) (l : Loc) : (s.join r l).Follows s₀ := ((h.bump ..).seq ..).ite ((h.withTrack ..).trk _)

theorem State.Follows.joinOne : s.joinOne.Follows s₀ := by
  unfold State.joinOne
  split
  · exact h
  · exact (h.rep _).join ..

theorem State.Follows.joinAll : s.joinAll.Follows s₀ := h.foldl _ fun _ _ hu => hu.joinOne

/-! ### The HF field and its operations (chapter 12) -/

theorem State.Follows.updHf (f : Hf → Hf) : (s.updHf f).Follows s₀ := h.hf _

theorem State.Follows.showHf : s.showHf.Follows s₀ := h.ite (h.recordIf ..)

theorem State.Follows.raiseField (mw : Nat) : (s.raiseField mw).Follows s₀ := (h.updHf ..).record ..

theorem State.Follows.dropField : s.dropField.Follows s₀ := by
  unfold State.dropField
  split
  · exact h
  · exact ((h.record ..).record ..).updHf ..

theorem State.Follows.hfEnd (status : Nat) (rsp : Bytes) : (s.hfEnd status rsp).Follows s₀ := by
  unfold State.hfEnd
  split
  · exact h
  · exact (((((h.updHf ..).putDom ..).record ..).record ..).latch ..).showHf

theorem State.Follows.closeSession : s.closeSession.Follows s₀ := (((h.dropField.updHf ..).putDom ..).record ..).showHf.ite h

theorem State.Follows.hfStop (status : Nat) : (s.hfStop status).Follows s₀ := by
  unfold State.hfStop
  extract_lets _ _ s1
  have hs1 : s1.Follows s₀ := h.congr rfl rfl rfl rfl
  exact (hs1.hfEnd ..).closeSession.dropField

theorem State.Follows.endTestField (fault : Bool) : (s.endTestField fault).Follows s₀ := ((h.dropField.updHf ..).put ..).ite h

theorem State.Follows.hfFieldFault : s.hfFieldFault.Follows s₀ := (h.hfStop ..).endTestField ..

theorem State.Follows.hfOut (cause : Nat) : (s.hfOut cause).Follows s₀ := h.hfFieldFault.record ..

theorem State.Follows.hfBack : s.hfBack.Follows s₀ := (h.record ..).showHf

theorem State.Follows.slideMismatch (always : Bool) : (s.slideMismatch always).Follows s₀ :=
  h.ite (((h.updHf ..).record ..).latch ..)

theorem State.Follows.hfFault (cause : Nat) : (s.hfFault cause).Follows s₀ := ((h.hfOut ..).record ..).latch ..

theorem State.Follows.startSlide : s.startSlide.Follows s₀ := (h.raiseField ..).updHf ..

theorem State.Follows.startBreath : s.startBreath.Follows s₀ := ((h.updHf ..).record ..).showHf.ite h.showHf

theorem State.Follows.stopBreath : s.stopBreath.Follows s₀ := h.ite ((h.dropField.updHf ..).record ..).showHf

/-! ### Modes left, HOLD forced, faults (R59 to R64, R547) -/

theorem State.Follows.endTest (r : Result) : (s.endTest r).Follows s₀ := by
  unfold State.endTest
  split
  · exact h
  · exact (h.testC _).record ..

theorem State.Follows.endSurvey (r : Result) : (s.endSurvey r).Follows s₀ := ((h.arr _).record ..).ite h

theorem State.Follows.lanesOn (on : Bool) : (s.lanesOn on).Follows s₀ := h.recordIf ..

theorem State.Follows.leaveRun : s.leaveRun.Follows s₀ :=
  (((((h.endSurvey ..).dropDwells.val _).foldl _ fun _ _ hu =>
    hu.quadDark ..).locateAll.joinAll.stopTracking ..).closeReports.lanesOn ..).showZones ..

theorem State.Follows.quadsOff : s.quadsOff.Follows s₀ := h.foldl _ fun _ _ hu => hu.synthOff ..

theorem State.Follows.linksOff : s.linksOff.Follows s₀ := h.foldl _ fun _ _ hu => (hu.linkClear ..).recordIf ..

theorem State.Follows.linksTrain : s.linksTrain.Follows s₀ := h.foldl _ fun _ _ hu => (hu.updHub ..).ite hu

theorem State.Follows.enter (m : Mode) (reason : Nat) : (s.enter m reason).Follows s₀ := by
  unfold State.enter
  refine State.Follows.latch ?_ ..
  refine State.Follows.put ?_ ..
  exact h.congr rfl rfl rfl rfl

theorem State.Follows.abandon : s.abandon.Follows s₀ := by
  unfold State.abandon
  split
  · exact h
  · extract_lets _ s1
    have hs1 : s1.Follows s₀ := h.sys _
    exact (hs1.put ..).ite hs1

theorem State.Follows.wake (bits : Nat) (run : Bool) (l : Option Link) : (s.wake bits run l).Follows s₀ := by
  unfold State.wake
  split
  · exact (h.stopBreath.linksTrain.put ..).sys _
  · exact h.ite ((h.put ..).sys _)

theorem State.Follows.wakeSource (b : Nat) : (s.wakeSource b).Follows s₀ := h.ite ((h.wake ..).ite ((h.sys _).ite h))

theorem State.Follows.forceHold (reason : Nat) : (s.forceHold reason).Follows s₀ := by
  unfold State.forceHold
  split
  · exact h.sys _
  · exact h
  · extract_lets s1
    have hs1 : s1.Follows s₀ := h.abandon.cutSweep.quadsOff.ite h
    exact hs1.ite (hs1.put ..)
  · exact h.abandon.sys _

theorem State.Follows.carriersOff (mute : Bool) : (s.carriersOff mute).Follows s₀ :=
  ((((h.foldl _ fun _ _ hu => hu.endRound ..).muteAll.ite
    (h.foldl _ fun _ _ hu => hu.endRound ..).rampAll).endTest ..).cutSweep.val _).dropDwells.hfFieldFault.stopBreath

theorem State.Follows.faultBits (b : Nat) : (s.faultBits b).Follows s₀ := (h.sys _).record ..

theorem State.Follows.criticalFault (b : Nat) (ev : Option (Nat × Nat × Nat)) : (s.criticalFault b ev).Follows s₀ := by
  unfold State.criticalFault
  extract_lets s1 s2
  have hs1 : s1.Follows s₀ := (h.carriersOff ..).faultBits ..
  have hs2 : s2.Follows s₀ := by
    unfold s2
    split
    · exact hs1.latchAs ..
    · exact hs1
  exact hs2.forceHold ..

theorem State.Follows.refGone : s.refGone.Follows s₀ := (((h.sys _).carriersOff ..).latch ..).forceHold ..

theorem State.Follows.holdFails (q : Nat) : (s.holdFails q).Follows s₀ := by
  unfold State.holdFails
  extract_lets s1
  have hs1 : s1.Follows s₀ := (h.updQuad ..).latch ..
  split
  · exact hs1.rampAll.endTest ..
  · split
    · exact (((hs1.endRound ..).dissolve ..).showBeams.foldl _ fun _ _ hu => hu.rampQuad ..).replan
    · exact (hs1.updQuad ..).leaveGang ..

end

end Sys2Proof.Machine
end

section
/-! SUPPORT. What the commands of the links and of the UHF chains keep of `State.Follows`. -/

namespace Sys2Proof.Machine

section
variable {s₀ s : State} (h : s.Follows s₀)
include h

/-! ### Commands of the links and of REFCLK (chapter 1) -/

theorem State.Follows.linkLost (n : Nat) : (s.linkLost n).Follows s₀ := by
  unfold State.linkLost
  split
  · exact h
  · extract_lets s1 s2 _ s3
    have hs1 : s1.Follows s₀ := h.linkClear ..
    have hs2 : s2.Follows s₀ := hs1.record ..
    have hs3 : s3.Follows s₀ := (hs2.rampAll.endTest ..).ite (hs2.rampQuad ..)
    exact (((hs3.updQuad ..).quadOut ..).loseQuad ..).ite hs1.hfFieldFault

theorem State.Follows.replay (n : Nat) (side : LinkSide) : (s.replay n side).Follows s₀ := by
  unfold State.replay
  extract_lets _ _ _ _ _ s1 s2 s3
  have hs1 : s1.Follows s₀ := h.updHub ..
  have hs2 : s2.Follows s₀ := (hs1.record ..).ite hs1
  have hs3 : s3.Follows s₀ := (hs2.latch ..).ite hs2
  exact h.ite ((hs3.linkLost ..).ite hs3)

theorem State.Follows.takeAck (n : Nat) (side : LinkSide) (flit : Bytes) : (s.takeAck n side flit).Follows s₀ := by
  unfold State.takeAck
  extract_lets _ s1
  have hs1 : s1.Follows s₀ := (h.updEnd ..).ite h
  exact (hs1.replay ..).ite hs1

theorem execFlitReceived_follows (n : Fin 5) (side : LinkSide) (flit : Bytes) (codeErr : Bool) : EndsFollowing s₀
    (execFlitReceived n side flit codeErr s) :=
  h.next.ite ((h.next.ite (h.updEnd ..).next).ite ((h.updEnd ..).takeAck ..).next)

theorem execReplayTimeout_follows (n : Fin 5) (side : LinkSide) : EndsFollowing s₀ (execReplayTimeout n side s) :=
  (h.ite (h.replay ..)).next

theorem execLinkDown_follows (n : Fin 5) : EndsFollowing s₀ (execLinkDown n s) := (h.linkLost ..).next

theorem State.Follows.quadUp (q : Nat) : (s.quadUp q).Follows s₀ := by
  unfold State.quadUp
  extract_lets s1
  have hs1 : s1.Follows s₀ := h.quadBack ..
  exact hs1.ite (hs1.ite ((hs1.startCal ..).ite (hs1.retune ..)))

theorem State.Follows.hxUp : s.hxUp.Follows s₀ := h.startSlide.ite h

theorem execLinkTrainingDone_follows (n : Fin 5) (up down : Nat) : EndsFollowing s₀ (execLinkTrainingDone n up down s) := by
  unfold execLinkTrainingDone
  extract_lets _ _ s1 s2
  have hs1 : s1.Follows s₀ := h.linkClear ..
  have hs2 : s2.Follows s₀ := hs1.record ..
  exact h.next.ite ((hs2.ite (hs2.quadUp ..)).next.ite (hs1.ite hs1.hxUp).next)

theorem execLinkRetrainTimer_follows (n : Fin 5) : EndsFollowing s₀ (execLinkRetrainTimer n s) := (h.updHub ..).next.ite h.next

theorem State.Follows.railLost (q : Nat) : (s.railLost q).Follows s₀ := by
  unfold State.railLost
  split
  · exact h
  · extract_lets _ s2 _ s3
    have hs2 : s2.Follows s₀ := ((h.muteQuad ..).updQuad ..).foldl _ fun _ _ hu => hu.record ..
    have hs3 : s3.Follows s₀ := (hs2.rampAll.endTest ..).ite hs2
    exact (hs3.ite ((hs3.quadOut ..).loseQuad ..)).latchAs ..

theorem State.Follows.railCritical (key : Nat) : (s.railCritical key).Follows s₀ := by
  unfold State.railCritical
  extract_lets _ s1
  have hs1 : s1.Follows s₀ := h.hlt _
  exact hs1.ite (hs1.criticalFault ..)

theorem execPxRailFault_follows (quad : Option (Fin 4)) : EndsFollowing s₀ (execPxRailFault quad s) := by
  unfold execPxRailFault
  split
  · exact h.next
  · split
    · exact (h.railLost ..).next
    · exact (h.ite (h.railCritical ..)).next

theorem State.Follows.setPhase (driver khz : Nat) (m : ToneMeas) : (s.setPhase driver khz m).Follows s₀ :=
  (h.updChain ..).showPhases ..

theorem State.Follows.toneRun (began : Nat) (bad : List Nat) (q : Nat) : (s.toneRun began bad q).Follows s₀ := h.record ..

theorem State.Follows.raiseTest : s.raiseTest.Follows s₀ :=
  h.ite (((h.setRails ..).foldl _ fun _ _ hu => (hu.updChain ..).raiseChain ..).ite (h.refuse.rampAll.endTest ..))

theorem State.Follows.tonePassed (l : Nat) : (s.tonePassed l).Follows s₀ := by
  unfold State.tonePassed
  split
  · exact (h.testC _).raiseTest
  · exact h.raiseGang ..

theorem State.Follows.toneOut (l : Nat) : (s.toneOut l).Follows s₀ := (((h.endTest ..).ite h).quadOut ..).loseQuad ..

theorem State.Follows.toneTaken (l asked : Nat) (meas : List ToneMeas) : (s.toneTaken l asked meas).Follows s₀ :=
  (((((((h.foldl _ fun _ _ hu => hu.quadDark ..).arr _).foldl _ fun _ _ hu => hu.updChain ..).foldl _ fun _ _ hu =>
    hu.setPhase ..).record ..).record ..).foldl _ fun _ _ hu => hu.toneRun ..).record ..

theorem State.Follows.toneVoid (l : Nat) : (s.toneVoid l).Follows s₀ := h.arr _

theorem execToneMeasureDone_follows (leader : Fin 4) (meas : List ToneMeas) :
    EndsFollowing s₀ (execToneMeasureDone leader meas s) := by
  unfold execToneMeasureDone
  split
  · exact h.next
  · next l asked _ _ =>
    split
    · exact h.next
    · extract_lets gang cs bad s5 again _ clear f _ g g1
      have taken : s5.Follows s₀ := h.toneTaken ..
      have cleared : clear.Follows s₀ := taken.arr _
      have failed : f.Follows s₀ := (cleared.record ..).latch ..
      clear_value again
      split
      · exact (cleared.tonePassed l).next
      · split
        · exact (((failed.arr _).toneVoid l).askTone l).next
        · split
          · exact (failed.toneOut l).next
          · have left : g.Follows s₀ := (failed.toneVoid l).foldl _ fun _ q hu => (hu.rampQuad q).leaveGang q
            have halved : g1.Follows s₀ := left.record ..
            extract_lets twice
            split
            · split
              · exact (failed.toneOut l).next
              · exact ((halved.arr _).askTone l).next
            · exact ((failed.foldl _ fun _ c hu => hu.faultChain c 4).tonePassed l).next

theorem execRefLost_follows : EndsFollowing s₀ (execRefLost s) := (h.ite h.refGone).next

theorem execRefclkAccepted_follows : EndsFollowing s₀ (execRefclkAccepted s) := by
  unfold execRefclkAccepted
  split
  · exact h.next
  · extract_lets _ _ s2
    have hs2 : s2.Follows s₀ := (h.sys _).foldl _ fun _ _ hu => hu.updQuad ..
    exact ((hs2.foldl _ fun _ _ hu => hu.startCal ..).ite hs2).next

theorem State.Follows.latchWide (l : Link) (k : Nat) : (s.latchWide l k).Follows s₀ := h.shadows _

theorem State.Follows.readPart (l : Link) (k : Nat) : (s.readPart l k).2.Follows s₀ := by
  unfold State.readPart
  split
  · exact h.latchWide ..
  · split
    · exact h
    · exact (h.shadows _).ite h

theorem execDeviceTimeLoRead_follows (l : Link) : EndsFollowing s₀ (execDeviceTimeLoRead l s) := (h.read (h.latchWide ..)).next

theorem execWideShadowExpire_follows (l : Link) : EndsFollowing s₀ (execWideShadowExpire l s) := by
  unfold execWideShadowExpire
  refine State.Follows.next ?_
  split
  · exact h.shadows _
  · exact h

theorem execTagReplyEnd_follows (beam : Fin 4) : EndsFollowing s₀ (execTagReplyEnd beam s) := by
  unfold execTagReplyEnd
  split
  · exact h.next
  · exact ((h.putRound ..).ite h).next

theorem State.Follows.decision (beam : Nat) : (s.decision beam).Follows s₀ := h.sendFlit ..

theorem State.Follows.combine (pre : List PreMeas) (b : Nat) : (s.combine pre b).Follows s₀ := by
  unfold State.combine
  split
  · exact (h.setWeights ..).ite h
  · exact h

theorem State.Follows.combineAll (t : Nat) (pre : List PreMeas) : (s.combineAll t pre).Follows s₀ :=
  h.foldl _ fun _ _ hu => hu.combine ..

theorem State.Follows.decodedOn (b : Nat) : (s.decodedOn b).Follows s₀ := h.record ..

theorem execReplyDecoded_follows (beam : Fin 4) (reply : SlotReply) : EndsFollowing s₀ (execReplyDecoded beam reply s) := by
  unfold execReplyDecoded
  split
  · exact h.next
  · extract_lets _ _ s1
    have hs1 : s1.Follows s₀ := (((h.decision ..).combineAll ..).replyOver ..).foldl _ fun _ _ hu => hu.decodedOn ..
    split
    · exact h.next
    · split
      · exact (hs1.putRound ..).next
      · extract_lets _ _ s2
        have hs2 : s2.Follows s₀ := hs1.record ..
        exact (((hs2.record ..).ite hs2).putRound ..).next

/-! ### Commands of the UHF chains (chapter 4) -/

theorem State.Follows.quadLocked (q : Nat) : (s.quadLocked q).Follows s₀ := by
  unfold State.quadLocked
  split
  · split
    · extract_lets _ s1
      have hs1 : s1.Follows s₀ := h.testC _
      exact (hs1.askTone ..).ite hs1
    · exact h
  · split
    · exact h.ite (h.askTone ..)
    · split
      · exact h
      · exact (h.putRunning ..).gangLocked ..

theorem State.Follows.hopOffset (bad : BitVec 4) (c : Nat) : (s.hopOffset bad c).Follows s₀ := by
  unfold State.hopOffset
  extract_lets _ _ s1
  have hs1 : s1.Follows s₀ := h.draw.draw.record ..
  exact (hs1.faultChain ..).ite hs1

theorem execSynthLock_follows (q : Fin 4) (res : SynthRes) : EndsFollowing s₀ (execSynthLock q res s) :=
  h.next.ite ((((h.record ..).foldl _ fun _ _ hu => hu.hopOffset ..).foldl _ fun _ _ hu => hu.loadSeed ..).quadLocked ..).next

theorem State.Follows.relock (q : Nat) : (s.relock q).Follows s₀ := (h.phaseless ..).record ..

theorem State.Follows.waitLock (l q : Nat) : (s.waitLock l q).Follows s₀ := by
  unfold State.waitLock
  split
  · exact h
  · exact (h.putRunning ..).updQuad ..

theorem State.Follows.relockIn (q : Nat) : (s.relockIn q).Follows s₀ := by
  unfold State.relockIn
  split
  · exact (((h.testC _).relock ..).updQuad ..).ite (h.relock ..)
  · split
    · exact h.relock ..
    · exact (((h.endRound ..).relock ..).waitLock ..).showBeams.ite ((((h.leaveGang ..).relock ..).updQuad ..).ite
        ((h.relock ..).waitLock ..))

theorem State.Follows.lockLost (q : Nat) : (s.lockLost q).Follows s₀ := by
  unfold State.lockLost
  extract_lets _ _ s2 s3
  have hs2 : s2.Follows s₀ := (((h.muteQuad ..).record ..).latch ..).updQuad ..
  have hs3 : s3.Follows s₀ := by
    unfold s3
    split
    · exact (hs2.rampAll.endTest ..).ite hs2
    · exact hs2
  split
  · exact (((hs3.quadOut ..).loseQuad ..).updQuad ..).startCal ..
  · split
    · exact hs3.relockIn ..
    · exact ((hs3.leaveGang ..).relock ..).updQuad ..

theorem execSynthUnlock_follows (q : Fin 4) : EndsFollowing s₀ (execSynthUnlock q s) :=
  ((h.lockLost ..).ite (h.relockIn ..)).next.ite h.next

theorem execSynthHoldTimeout_follows (q : Fin 4) : EndsFollowing s₀ (execSynthHoldTimeout q s) := by
  unfold execSynthHoldTimeout
  extract_lets _ s1
  have hs1 : s1.Follows s₀ := h.holdFails ..
  exact h.next.ite ((hs1.startCal ..).ite hs1).next

theorem State.Follows.testUp : s.testUp.Follows s₀ := by
  unfold State.testUp
  split
  · exact h
  · exact (h.record ..).ite h

theorem execDroneRampDone_follows (c : Fin 16) : EndsFollowing s₀ (execDroneRampDone c s) :=
  (h.record ..).testUp.next.ite ((h.stopChain ..).next.ite h.next)

theorem State.Follows.testMuted (c : Nat) : (s.testMuted c).Follows s₀ := (h.rampAll.endTest ..).ite h

theorem execPaFault_follows (c : Fin 16) (temp : Bool) : EndsFollowing s₀ (execPaFault c temp s) :=
  h.next.ite ((((h.faultChain ..).sendFlit ..).latch ..).testMuted ..).beamsLost.next

theorem execPaRailFault_follows (q : Fin 4) : EndsFollowing s₀ (execPaRailFault q s) := (h.railLost ..).next

theorem execPaRailRecovered_follows (q : Fin 4) : EndsFollowing s₀ (execPaRailRecovered q s) := by
  unfold execPaRailRecovered
  extract_lets s1 s2
  have hs1 : s1.Follows s₀ := (h.updQuad ..).foldl _ fun _ _ hu => ((hu.record ..).recordIf ..).ite hu
  have hs2 : s2.Follows s₀ := hs1.quadBack ..
  exact ((hs2.ite (hs2.quadUp ..)).ite hs1).next

theorem State.Follows.excludeRx (c : Nat) : (s.excludeRx c).Follows s₀ := ((h.updChain ..).record ..).beamsLost

theorem State.Follows.reedLimit (c : Nat) : (s.reedLimit c).Follows s₀ :=
  ((((h.updChain ..).record ..).record ..).latch ..).excludeRx ..

theorem State.Follows.converged (w : ReedRes) : (s.converged w).Follows s₀ := by
  unfold State.converged
  extract_lets _ _ _ s1
  have hs1 : s1.Follows s₀ := h.draw.draw.record ..
  exact (hs1.reedLimit ..).ite ((hs1.updChain ..).recordIf ..)

theorem execReedConverged_follows (beam : Fin 4) (weights : List ReedRes) : EndsFollowing s₀ (execReedConverged beam weights s) :=
    by
  unfold execReedConverged
  split
  · exact h.next
  · exact ((h.foldl _ fun _ _ hu => hu.converged ..).reedReady ..).next

theorem execReedConvergeTimeout_follows (c : Fin 16) : EndsFollowing s₀ (execReedConvergeTimeout c s) := by
  unfold execReedConvergeTimeout
  split
  · exact h.next
  · split
    · exact h.next
    · exact (h.ite (h.excludeRx ..)).next

theorem execReedTrackTick_follows (c : Fin 16) (di dq : Int) (res : TrackRes) : EndsFollowing s₀
    (execReedTrackTick c di dq res s) := by
  unfold execReedTrackTick
  split
  · exact h.next
  · extract_lets _ _ _ _ _ s2
    have hs2 : s2.Follows s₀ := (((h.record ..).record ..).updChain ..).showPhases ..
    exact ((hs2.reedLimit ..).ite hs2).next

theorem execReedLimit_follows (c : Fin 16) : EndsFollowing s₀ (execReedLimit c s) := ((h.reedLimit ..).ite h).next

theorem execBlocker_follows (c : Fin 16) : EndsFollowing s₀ (execBlocker c s) := by
  unfold execBlocker
  split
  · exact h.next
  · extract_lets _ s1
    have hs1 : s1.Follows s₀ := h.ite (((h.record ..).latch ..).updChain ..)
    exact (hs1.ite ((hs1.excludeRx ..).ite ((hs1.gainTo ..).ite hs1))).next

theorem State.Follows.mismatchWarn (c : Nat) (rl : Int) : (s.mismatchWarn c rl).Follows s₀ :=
  h.ite (((h.updChain ..).record ..).latch ..)

theorem State.Follows.mismatchCut (c : Nat) (rl : Int) : (s.mismatchCut c rl).Follows s₀ :=
  (((((((h.faultChain ..).sendFlit ..).updChain ..).updSeed ..).record ..).latch ..).testMuted ..).beamsLost

theorem execReturnLossUpdate_follows (c : Fin 16) (rl fwd : Int) : EndsFollowing s₀ (execReturnLossUpdate c rl fwd s) := by
  unfold execReturnLossUpdate
  split
  · exact h.next
  · extract_lets s1 s2
    have hs1 : s1.Follows s₀ := h.record ..
    have hs2 : s2.Follows s₀ := (hs1.mismatchWarn ..).ite hs1
    exact hs1.next.ite ((hs2.mismatchCut ..).ite hs2).next

theorem execProbeSuccess_follows (c : Fin 16) : EndsFollowing s₀ (execProbeSuccess c s) := by
  unfold execProbeSuccess
  split
  · exact h.next
  · exact ((((h.record ..).updSeed ..).record ..).updChain ..).showBeams.next

theorem State.Follows.calsEnded : s.calsEnded.Follows s₀ := h.ite (h.ite (((h.startSweep ..).sys _).ite (h.startSweep ..)))

theorem State.Follows.calChain (res : CalRes) (c : Nat) : (s.calChain res c).Follows s₀ := by
  unfold State.calChain
  extract_lets _ _ _ _ _ _ s1
  have hs1 : s1.Follows s₀ := h.draw.draw.draw.record ..
  exact (hs1.faultChain ..).ite ((((hs1.record ..).record ..).updChain ..).ite hs1)

theorem State.Follows.calFails (q : Nat) : (s.calFails q).Follows s₀ := by
  unfold State.calFails
  extract_lets _ _ s1 s2 s3
  have hs1 : s1.Follows s₀ := h.record ..
  have hs2 : s2.Follows s₀ := hs1.ite (hs1.latch ..)
  have hs3 : s3.Follows s₀ := ((hs2.quadOut ..).loseQuad ..).ite ((hs2.record ..).ite hs2)
  exact (hs3.updQuad ..).calsEnded

theorem State.Follows.calPasses (q : Nat) (res : CalRes) : (s.calPasses q res).Follows s₀ := by
  unfold State.calPasses
  extract_lets _ _ _ s2 _ _ _ _ _ _ s6 s7
  have hs2 : s2.Follows s₀ := (h.draw.foldl _ fun _ _ hu => hu.calChain ..).quadBack ..
  have hs6 : s6.Follows s₀ := ((((((hs2.quadBack ..).ite hs2).updQuad ..).record ..).record ..).latch ..).showBeams
  have hs7 : s7.Follows s₀ := hs6.ite ((hs6.foldl _ fun _ _ hu => hu.loadSeed ..).quadLocked ..)
  exact hs7.calsEnded

theorem execFullCalDone_follows (q : Fin 4) (res : CalRes) : EndsFollowing s₀ (execFullCalDone q res s) := by
  unfold execFullCalDone
  split
  · exact h.next
  · extract_lets _ s1
    have hs1 : s1.Follows s₀ := h.record ..
    exact ((hs1.calFails ..).next.ite (hs1.updQuad ..).next).ite (hs1.calPasses ..).next

theorem execCalRetryTimer_follows (q : Fin 4) : EndsFollowing s₀ (execCalRetryTimer q s) :=
  h.next.ite (((h.startCal ..).updQuad ..).next.ite (h.updQuad ..).next)

theorem State.Follows.calNow (q : Nat) : (s.calNow q).Follows s₀ := by
  unfold State.calNow
  extract_lets s1
  have hs1 : s1.Follows s₀ := by
    unfold s1
    split
    · exact (h.testC _).ite h
    · exact h
  exact hs1.ite (hs1.startCal ..)

theorem State.Follows.calRequest (q v : Nat) : (s.calRequest q v).2.Follows s₀ := h.checks ((h.updQuad ..).ite (h.calNow ..))

theorem execCalRequest_follows (l : Link) (q : Fin 4) : EndsFollowing s₀ (execCalRequest l q s) :=
  (h.request (h.calRequest ..)).next

theorem State.Follows.reedReseed (c v : Nat) : (s.reedReseed c v).2.Follows s₀ := by
  unfold State.reedReseed
  refine h.checks ?_
  split
  · exact h.ite (h.sweep _)
  · exact h.sweepQueued ..

theorem execReedReseed_follows (l : Link) (c : Fin 16) : EndsFollowing s₀ (execReedReseed l c s) :=
  (h.request (h.reedReseed ..)).next

theorem State.Follows.chainFaultClear (c v : Nat) : (s.chainFaultClear c v).2.Follows s₀ := by
  unfold State.chainFaultClear
  refine h.checks ?_
  extract_lets _ _ s2
  have hs2 : s2.Follows s₀ := ((h.record ..).record ..).updChain ..
  exact ((hs2.record ..).latchAs ..).ite hs2

theorem execChainFaultClear_follows (l : Link) (c : Fin 16) : EndsFollowing s₀ (execChainFaultClear l c s) :=
  (h.request (h.chainFaultClear ..)).next

theorem State.Follows.sweptChain (khz : Nat) (results : List SweepRes) (c : Nat) : (s.sweptChain khz results c).Follows s₀ := by
  unfold State.sweptChain
  extract_lets
  split
  · exact (((h.stopChain ..).updChain ..).faultChain ..).sweep _
  · exact ((((h.stopChain ..).updChain ..).updSeed ..).updChain ..).record ..

theorem State.Follows.storeIso (swept : List Nat) (iso : List IsoMeas) : (s.storeIso swept iso).Follows s₀ :=
  (h.record ..).record ..

theorem State.Follows.sweepEnds (w : Sweep) : (s.sweepEnds w).Follows s₀ := by
  unfold State.sweepEnds
  extract_lets _ _ _ s2 s3
  have hs2 : s2.Follows s₀ := ((h.foldl _ fun _ _ hu => hu.record ..).sys _).ite (h.foldl _ fun _ _ hu => hu.record ..)
  have hs3 : s3.Follows s₀ := hs2.sweepQueued ..
  exact hs3.quadsOff.ite hs3

theorem execSweepChannelDone_follows (results : List SweepRes) (iso : List IsoMeas) : EndsFollowing s₀
    (execSweepChannelDone results iso s) := by
  unfold execSweepChannelDone
  split
  · exact h.next
  · split
    · exact (h.sweep _).next
    · extract_lets _ s1 _ _ s3
      have hs1 : s1.Follows s₀ := h.foldl _ fun _ _ hu => hu.sweptChain ..
      have hs3 : s3.Follows s₀ := ((hs1.storeIso ..).ite hs1).sweepNext ..
      exact ((hs3.sweepEnds ..).ite hs3).next

end

end Sys2Proof.Machine
end

section
/-! SUPPORT. What the commands of the interlock, the array, the rounds, the tracks and the plans keep of `State.Follows`. -/

namespace Sys2Proof.Machine

section
variable {s₀ s : State} (h : s.Follows s₀)
include h

/-! ### Values staged and committed (R98 to R113) -/

theorem State.Follows.setBytes (k : Nat) (b : Bytes) : (s.setBytes k b).Follows s₀ := by
  unfold State.setBytes
  split
  · exact h
  · exact (h.putDom ..).ite (h.put ..)

theorem State.Follows.restage (staged : DomStore) (by_ : Tab Link) : (s.restage staged by_).Follows s₀ := by
  unfold State.restage
  extract_lets _ t
  have ht : t.Follows s₀ := h.cfg _
  exact ht.ite (ht.seq ..)

theorem State.Follows.stagePut (l : Option Link) (k : Nat) (b : Bytes) : (s.stagePut l k b).Follows s₀ := h.restage ..

theorem State.Follows.settle (p : Nat) : (s.settle p).Follows s₀ := h.recordIf ..

/-! ### Commands of the interlock and the lock (chapter 5) -/

theorem State.Follows.hopTo (l khz : Nat) : (s.hopTo l khz).Follows s₀ := by
  unfold State.hopTo
  split
  · exact h
  · exact (((h.foldl _ fun _ _ hu => hu.retune ..).putRunning ..).val _).showBeams

theorem State.Follows.sendScript (gang : Nat) : (s.sendScript gang).Follows s₀ := h.foldl _ fun _ _ hu => hu.sendFlit ..

theorem State.Follows.releaseDwell (l : Nat) : (s.releaseDwell l).Follows s₀ := by
  unfold State.releaseDwell
  split
  · exact h
  · split
    · exact h
    · exact ((h.val _).sendScript ..).ite (h.refuse.val _).replan

theorem State.Follows.releaseHop (l khz : Nat) : (s.releaseHop l khz).Follows s₀ := by
  unfold State.releaseHop
  split
  · exact h
  · split
    · exact h
    · split
      · extract_lets t
        have ht : t.Follows s₀ := h.sendScript ..
        exact ((ht.putRunning ..).dueRound ..).ite (ht.hopTo ..)
      · exact h.refuse.replan

theorem execDescriptorRelease_follows (l : Fin 4) (hop : Option (BitVec 32)) : EndsFollowing s₀ (execDescriptorRelease l hop s) :=
    by
  unfold execDescriptorRelease
  split
  · exact h.next
  · split
    · exact (h.releaseDwell ..).next
    · exact (h.releaseHop ..).next

theorem State.Follows.updPermit (e : Nat) (f : Permit → Permit) : (s.updPermit e f).Follows s₀ := h.ilk _

theorem State.Follows.clearChannel (khz : Nat) : (s.clearChannel khz).Follows s₀ :=
  ((h.foldl _ fun _ _ hu => hu.endRound ..).foldl _ fun _ _ hu => hu.muteChain ..).foldl _ fun _ _ hu => hu.dissolve ..

theorem State.Follows.sweepBarred (khz : Nat) : (s.sweepBarred khz).Follows s₀ := by
  unfold State.sweepBarred
  split
  · exact h
  · exact (h.sweepNext ..).ite h

theorem State.Follows.planFault (khz : Nat) : (s.planFault khz).Follows s₀ := by
  unfold State.planFault
  extract_lets s1 second _ _ s2
  have counted : s1.Follows s₀ := h.record ..
  have barred : s2.Follows s₀ := counted.congr rfl rfl rfl rfl
  exact (barred.criticalFault ..).ite barred

theorem execPermitWithdraw_follows (e : Fin 64) (dwell : Bool) : EndsFollowing s₀ (execPermitWithdraw e dwell s) := by
  unfold execPermitWithdraw
  split
  · exact h.next
  · extract_lets _ _ _ _ _ _ _ _ s4 s5
    have hs4 : s4.Follows s₀ := ((((h.updPermit ..).clearChannel ..).record ..).latch ..).sweepBarred ..
    have hs5 : s5.Follows s₀ := (hs4.rampAll.endTest ..).ite hs4
    exact h.next.ite ((hs5.planFault ..).ite hs5).showBeams.replan.next

theorem execPermitReturn_follows (e : Fin 64) (dwell : Bool) : EndsFollowing s₀ (execPermitReturn e dwell s) := by
  unfold execPermitReturn
  split
  · exact h.next
  · exact (h.ite (((h.updPermit ..).val _).ite (h.updPermit ..))).next

theorem State.Follows.lockState (v : Nat) : (s.lockState v).Follows s₀ := h.record ..

theorem State.Follows.disarm : s.disarm.Follows s₀ := (h.lockState ..).ite h

theorem State.Follows.regLockArm (v : Nat) : (s.regLockArm v).2.Follows s₀ := h.checks (h.lockState ..)

theorem execRegLockArm_follows (l : Link) (v : BitVec 8) : EndsFollowing s₀ (execRegLockArm l v s) :=
  (h.request (h.regLockArm ..)).next

theorem State.Follows.regLockFire (l : Link) (v : Nat) : (s.regLockFire l v).2.Follows s₀ := by
  unfold State.regLockFire
  split
  · exact h
  · split
    · exact h
    · split
      · exact h.lockState ..
      · exact h.sys _

theorem execRegLockFire_follows (l : Link) (v : BitVec 32) : EndsFollowing s₀ (execRegLockFire l v s) :=
  (h.request (h.regLockFire ..)).next

theorem State.Follows.untrusted (k : Nat) : (s.untrusted k).Follows s₀ := h.draw.put ..

theorem execLockFireDone_follows (ok : Bool) : EndsFollowing s₀ (execLockFireDone ok s) := by
  unfold execLockFireDone
  split
  · exact h.next
  · extract_lets _ s1
    have hs1 : s1.Follows s₀ := (h.sys _).record ..
    exact (hs1.endHeld ..).next.ite (((hs1.foldl _ fun _ _ hu => hu.untrusted ..).criticalFault ..).endHeld ..).next

theorem execLockArmTimeout_follows : EndsFollowing s₀ (execLockArmTimeout s) := h.disarm.next

theorem State.Follows.viewIndex (v : Nat) : (s.viewIndex v).2.Follows s₀ := h.checks (h.record ..)

theorem execViewIndexWrite_follows (l : Link) (v : BitVec 8) : EndsFollowing s₀ (execViewIndexWrite l v s) :=
  (h.request (h.viewIndex ..)).next

/-! ### Commands of the array (chapter 6) -/

theorem State.Follows.surveyStart : (s.surveyStart).2.Follows s₀ := h.checks ((h.arr _).record ..)

theorem State.Follows.surveyCmd (v : Nat) : (s.surveyCmd v).2.Follows s₀ := by
  unfold State.surveyCmd
  split
  · exact h.surveyStart
  · exact h.endSurvey ..
  · exact h

theorem execSurveyStart_follows (l : Link) : EndsFollowing s₀ (execSurveyStart l s) := (h.request (h.surveyCmd ..)).next

theorem execSurveyAbort_follows (l : Link) : EndsFollowing s₀ (execSurveyAbort l s) := (h.request (h.surveyCmd ..)).next

theorem execSurveyTimeout_follows : EndsFollowing s₀ (execSurveyTimeout s) := (h.endSurvey ..).next

theorem State.Follows.surveyDone (v : Survey) : (s.surveyDone v).Follows s₀ := by
  unfold State.surveyDone
  extract_lets _ _ _ _ _ _ _ _ _ _ _ _ _ _ s2
  have hs2 : s2.Follows s₀ := (((h.arr _).putDom ..).putDom ..).putDom ..
  exact (hs2.record ..).ite (((hs2.foldl _ fun _ _ hu => hu.stagePut ..).disarm.record ..).ite (hs2.record ..))

theorem State.Follows.surveyRead (r : Read) : (s.surveyRead r).Follows s₀ := by
  unfold State.surveyRead
  split
  · exact h
  · split
    · exact h
    · extract_lets _ _ _ s1
      have hs1 : s1.Follows s₀ := (h.arr _).record ..
      exact (hs1.surveyDone ..).ite hs1

theorem State.Follows.retireLane (n : Nat) : (s.retireLane n).Follows s₀ := by
  unfold State.retireLane
  extract_lets _ _ _ s1 _ s2
  have hs1 : s1.Follows s₀ := h.record ..
  have hs2 : s2.Follows s₀ := by
    unfold s2
    split
    · exact hs1.putDom ..
    · split
      · exact hs1.putDom ..
      · split
        · exact hs1.putDom ..
        · exact ((h.record ..).arr _).putDom ..
  exact ((hs2.lanesOn ..).latch ..).showBeams

theorem execLaneSelftest_follows (lane : Fin 32) (pass : Bool) : EndsFollowing s₀ (execLaneSelftest lane pass s) := by
  unfold execLaneSelftest
  split
  · exact h.next
  · extract_lets _ _ s1
    have hs1 : s1.Follows s₀ := h.arr _
    exact ((hs1.retireLane ..).ite hs1).next

theorem State.Follows.readOn (r : Read) : (s.readOn r).Follows s₀ := (h.rep _).ite (h.report ..)

theorem execReadMeasured_follows (beam : Fin 4) (meas : List RawMeas) : EndsFollowing s₀ (execReadMeasured beam meas s) := by
  unfold execReadMeasured
  split
  · exact h.next
  · extract_lets _ _ _ _ _ _ s1
    have hs1 : s1.Follows s₀ := h.heard _
    exact (((((hs1.putDom ..).seq ..).ite hs1).surveyRead ..).readOn ..).next

/-! ### Commands of the rounds (chapter 7) -/

theorem State.Follows.levelGang (d : Dwell) : (s.levelGang d).Follows s₀ :=
  (h.steerGang ..).foldl _ fun _ _ hu => (hu.setLevel ..).ite hu

theorem execRoundStart_follows (beam : Fin 4) : EndsFollowing s₀ (execRoundStart beam s) := by
  unfold execRoundStart
  split
  · exact h.next
  · exact h.next.ite (((((h.levelGang ..).val _).putRunning ..).putRound ..).showRound ..).next

theorem execPowerUpHoldEnd_follows (beam : Fin 4) : EndsFollowing s₀ (execPowerUpHoldEnd beam s) := by
  unfold execPowerUpHoldEnd
  split
  · exact h.next
  · split
    · exact h.next
    · extract_lets _ s1
      have hs1 : s1.Follows s₀ := by
        unfold s1
        split
        · exact h.putRunning ..
        · exact h
      exact ((hs1.putRound ..).showRound ..).next

theorem State.Follows.ackFailed (t : Nat) (n : Round) (replied : Bool) : (s.ackFailed t n replied).Follows s₀ := by
  unfold State.ackFailed
  extract_lets s
  have hs : s.Follows s₀ := h.replyOver ..
  exact (hs.putRound ..).ite ((hs.putRound ..).ite (hs.slotBoundary ..))

theorem execSlotEmptyTimeout_follows (beam : Fin 4) : EndsFollowing s₀ (execSlotEmptyTimeout beam s) := by
  unfold execSlotEmptyTimeout
  split
  · exact h.next
  · split
    · exact ((h.decision ..).slotBoundary ..).next
    · exact (h.ackFailed ..).next
    · exact h.next

theorem execEpcReply_follows (beam : Fin 4) (reply : EpcReply) : EndsFollowing s₀ (execEpcReply beam reply s) := by
  unfold execEpcReply
  split
  · exact h.next
  · next n _ =>
    extract_lets s0 khz
    have decided : s0.Follows s₀ := h.decision ..
    split
    · exact h.next
    · split
      · exact ((decided.checked ..).ackFailed ..).next
      · have read := ((((decided.checked 0 1 0).foldl (reply.rx.map Fin.val) fun _ b hu => hu.decodedOn b).combineAll beam
          reply.pre).replyOver beam).readTag beam khz n reply
        split
        next n1 s1 taken =>
        rw [taken] at read
        extract_lets s2 ops
        have charged : s2.Follows s₀ := by
          unfold s2
          split
          · exact (read.pushResult ..).ite read
          · exact read
        exact (charged.putRound ..).next

theorem execTurnroundEnd_follows (beam : Fin 4) : EndsFollowing s₀ (execTurnroundEnd beam s) := by
  unfold execTurnroundEnd
  split
  · exact h.next
  · split
    · exact (h.putRound ..).next
    · exact (h.slotBoundary ..).next
    · exact (h.nextOp ..).next
    · exact h.next

theorem State.Follows.opOver (t : Nat) (n : Round) (code tagErr : Nat) (data : Bytes) : (s.opOver t n code tagErr
    data).Follows s₀ := by
  unfold State.opOver
  split
  · exact h
  · exact ((h.putRound ..).opEnds ..).nextOp ..

theorem State.Follows.accessChecks (replies : List TagReply) : (s.accessChecks replies).Follows s₀ := h.draw.checked ..

theorem execAccessReplyTimeout_follows (beam : Fin 4) : EndsFollowing s₀ (execAccessReplyTimeout beam s) := by
  unfold execAccessReplyTimeout
  split
  · exact h.next
  · split
    · extract_lets _ s1
      have hs1 : s1.Follows s₀ := h.replyOver ..
      exact (hs1.putRound ..).next.ite (hs1.opOver ..).next
    · exact h.next

theorem execAccessOpEnd_follows (beam : Fin 4) (replies : List TagReply) (rx : List (Fin 16)) (pre : List
    PreMeas) : EndsFollowing s₀ (execAccessOpEnd beam replies rx pre s) := by
  unfold execAccessOpEnd
  split
  · exact h.next
  · split
    · exact h.next
    · extract_lets _ _ s1
      have hs1 : s1.Follows s₀ :=
        ((((h.accessChecks ..).decision ..).foldl _ fun _ _ hu => hu.decodedOn ..).combineAll ..).replyOver ..
      split
      · exact (hs1.opOver ..).next
      · exact (hs1.opOver ..).next

theorem State.Follows.opArm (k v : Nat) : (s.opArm k v).2.Follows s₀ := by
  unfold State.opArm
  split
  · exact h.armOp ..
  · exact h.checks (h.armOp ..)

theorem execOpArm_follows (l : Link) (slot : Fin 16) : EndsFollowing s₀ (execOpArm l slot s) := (h.request (h.opArm ..)).next

theorem execOpDisarm_follows (l : Link) (slot : Fin 16) : EndsFollowing s₀ (execOpDisarm l slot s) := (h.request (h.opArm ..)).next

theorem State.Follows.resultRelease (n : Nat) : (s.resultRelease n).2.Follows s₀ := by
  exact h.checks (State.Follows.resultsChanged (h.congr rfl rfl rfl rfl))

theorem execResultRelease_follows (l : Link) (id : BitVec 32) : EndsFollowing s₀ (execResultRelease l id s) :=
  (h.request (h.resultRelease ..)).next

theorem State.Follows.pauseGang (l : Nat) (r : Running) (cals : List Nat) : (s.pauseGang l r cals).Follows s₀ :=
  ((h.foldl _ fun _ _ hu => hu.rampQuad ..).foldl _ fun _ _ hu => (hu.startCal ..).updQuad ..).putRunning ..

theorem State.Follows.endDwell (l : Nat) : (s.endDwell l).Follows s₀ := by
  unfold State.endDwell
  split
  · exact h
  · exact ((h.closeDwell ..).foldl _ fun _ _ hu => (hu.startCal ..).ite (hu.ite ((hu.rampQuad ..).updQuad ..))).showBeams

theorem State.Follows.atBoundary (l : Nat) : (s.atBoundary l).Follows s₀ := by
  unfold State.atBoundary
  split
  · exact h
  · extract_lets
    split
    · exact h.gangDown ..
    · split
      · exact (h.hopTo ..).foldl _ fun _ _ hu => (hu.startCal ..).updQuad ..
      · exact (h.endDwell ..).ite ((h.pauseGang ..).ite (((h.pauseGang ..).askTone ..).ite h))

theorem execRoundEnd_follows (beam : Fin 4) : EndsFollowing s₀ (execRoundEnd beam s) := by
  unfold execRoundEnd
  split
  · exact h.next
  · exact h.next.ite ((h.endRound ..).atBoundary ..).next

/-! ### Commands of location and tracks (chapter 8) -/

theorem execLocBatch_follows : EndsFollowing s₀ (execLocBatch s) := h.locateAll.next

theorem execTrackJoin_follows : EndsFollowing s₀ (execTrackJoin s) := h.joinOne.next

theorem execTrackCloseGap_follows (tag : BitVec 32) : EndsFollowing s₀ (execTrackCloseGap tag s) := by
  unfold execTrackCloseGap
  split
  · exact h.next
  · exact (h.closeTrack ..).next

theorem execCountIntervalPublish_follows : EndsFollowing s₀ (execCountIntervalPublish s) := by
  unfold execCountIntervalPublish
  extract_lets
  split
  · exact (((h.rollIvals.trk _).publish ..).ite h.rollIvals).next
  · exact h.rollIvals.next

/-! ### Commands of plans and dwells (chapter 9) -/

theorem State.Follows.goals (z : Nat) : (s.goals z).Follows s₀ := by
  unfold State.goals
  extract_lets _ _ _ _ _ _ _ _ _ _ _ _ _ s4
  have hs4 : s4.Follows s₀ := (((h.val _).record ..).recordIf ..).val _
  exact ((hs4.latch ..).ite (hs4.latch ..)).ite hs4

theorem State.Follows.correct (v : Nat) : (s.correct v).Follows s₀ := h.recordIf ..

theorem State.Follows.probesDue (c : Nat) : (s.probesDue c).Follows s₀ := h.updChain ..

theorem State.Follows.takeOffered : s.takeOffered.Follows s₀ :=
  ((h.foldl _ fun _ _ hu => hu.quadBack ..).foldl _ fun _ _ hu => hu.updQuad ..).foldl _ fun _ _ hu => hu.updChain ..

theorem execPlanBoundary_follows (measMw : BitVec 16) : EndsFollowing s₀ (execPlanBoundary measMw s) :=
  h.takeOffered.next.ite
    (((h.foldl _ fun _ _ hu => hu.goals ..).correct ..).takeOffered.foldl _ fun _ _ hu => hu.probesDue ..).replan.next

theorem State.Follows.freshChain (d : Dwell) (c : Nat) : (s.freshChain d c).Follows s₀ := by
  unfold State.freshChain
  extract_lets _ _ _ s2
  have hs2 : s2.Follows s₀ := ((h.updChain ..).recordIf ..).recordIf ..
  exact ((hs2.ite (hs2.loadSeed ..)).setGamma ..).showPhases ..

theorem State.Follows.quadOnto (khz q : Nat) : (s.quadOnto khz q).Follows s₀ :=
  ((h.startCal ..).updQuad ..).ite (h.ite (h.retune ..))

theorem State.Follows.startDwell (l : Nat) (d : Dwell) : (s.startDwell l d).Follows s₀ := by
  unfold State.startDwell
  extract_lets _ _ _ _ _ _ _ _ s3 s4 s5
  have hs3 : s3.Follows s₀ :=
    (((h.foldl _ fun _ _ hu => hu.freshChain ..).foldl _ fun _ _ hu => hu.rampQuad ..).ite
      ((h.foldl _ fun _ _ hu => hu.freshChain ..).foldl _ fun _ _ hu => hu.quadOnto ..)).val _
  have hs4 : s4.Follows s₀ := (hs3.setRails ..).record ..
  have hs5 : s5.Follows s₀ := hs4.ite ((hs4.raiseGang ..).ite (hs4.gangLocked ..))
  exact hs5.showBeams

theorem execDwellStart_follows (leader : Fin 4) : EndsFollowing s₀ (execDwellStart leader s) := by
  unfold execDwellStart
  split
  · exact h.next
  · exact ((h.startDwell ..).ite h).next

theorem execDwellEnd_follows (leader : Fin 4) : EndsFollowing s₀ (execDwellEnd leader s) := by
  unfold execDwellEnd
  split
  · exact h.next
  · split
    · exact (h.endDwell ..).next
    · extract_lets s1
      have hs1 : s1.Follows s₀ := h.putRunning ..
      exact ((hs1.dueRound ..).ite hs1).next

theorem execPowerMeasure_follows (mw : BitVec 16) : EndsFollowing s₀ (execPowerMeasure mw s) :=
  ((h.correct ..).replanNow ..).next.ite h.next

end

end Sys2Proof.Machine
end

section
/-! SUPPORT. What the commands of the reports, the store and the HF reader keep of `State.Follows`. -/

namespace Sys2Proof.Machine

section
variable {s₀ s : State} (h : s.Follows s₀)
include h

/-! ### Commands of the reports (chapter 10) -/

theorem execPacketAgeTimeout_follows (stream : Fin 3) (kind : Fin 5) : EndsFollowing s₀ (execPacketAgeTimeout stream kind s) :=
  (h.closePkt ..).next

theorem State.Follows.changeTier (i n : Nat) : (s.changeTier i n).Follows s₀ := h.ite (((h.closeAll ..).record ..).latch ..)

theorem State.Follows.windowEnd (base i : Nat) : (s.windowEnd base i).Follows s₀ :=
  (((((h.placeT2 ..).closePkt ..).updStream ..).putDom ..).record ..).changeTier ..

theorem execReportWindowEnd_follows : EndsFollowing s₀ (execReportWindowEnd s) :=
  h.next.ite ((h.foldl _ fun _ _ hu => hu.windowEnd ..).rep _).next

theorem State.Follows.creditGrant (i n : Nat) : (s.creditGrant i n).2.Follows s₀ := h.checks (h.setCredits ..)

theorem State.Follows.linkGrant (target : Link) (n : Nat) : (s.linkGrant target n).2.Follows s₀ := by
  unfold State.linkGrant
  split
  · exact h
  · exact h.creditGrant ..

theorem execCreditGrant_follows (l : Link) (stream : Fin 3) (n : BitVec 32) : EndsFollowing s₀ (execCreditGrant l stream n s) :=
  (h.request (h.creditGrant ..)).next

theorem execLinkCreditGrant_follows (l target : Link) (n : BitVec 32) : EndsFollowing s₀ (execLinkCreditGrant l target n s) :=
  (h.request (h.linkGrant ..)).next

theorem State.Follows.reportNext (i : Nat) : (s.reportNext i).2.2.Follows s₀ := by
  unfold State.reportNext
  split
  · exact h
  · split
    · exact h
    · split
      · exact h
      · split
        · exact h
        · exact ((h.charge ..).sendPkt ..).updStream ..

theorem State.Follows.reportRelease (i seq : Nat) : (s.reportRelease i seq).2.Follows s₀ := by
  unfold State.reportRelease
  split
  · exact h
  · split
    · exact h
    · split
      · exact h.delivered ..
      · exact h

theorem execReportNext_follows (l : Link) (stream : Fin 3) : EndsFollowing s₀ (execReportNext l stream s) :=
  (h.read (h.reportNext ..)).next

theorem execReportRelease_follows (l : Link) (stream : Fin 3) (seq : BitVec 32) : EndsFollowing s₀
    (execReportRelease l stream seq s) :=
  (h.request (h.reportRelease ..)).next

theorem State.Follows.wmAck (i v : Nat) : (s.wmAck i v).2.Follows s₀ := h.checks (h.record ..)

theorem execWmAck_follows (l : Link) (stream : Fin 3) : EndsFollowing s₀ (execWmAck l stream s) := (h.request (h.wmAck ..)).next

theorem State.Follows.hotRead : s.hotRead.2.2.Follows s₀ := by
  unfold State.hotRead
  extract_lets c l
  show State.Follows (match l.getLast? with
    | some p => s.put Reg.HOT_CURSOR ((p.time + 1) % 2 ^ 64)
    | none => s) s₀
  split
  · exact h.put ..
  · exact h

theorem execHotRead_follows (l : Link) : EndsFollowing s₀ (execHotRead l s) := (h.read h.hotRead).next

theorem State.Follows.markSet (i n : Nat) : (s.markSet i n).2.Follows s₀ := h.checks ((h.rep _).record ..)

theorem State.Follows.markDrop (i n : Nat) : (s.markDrop i n).Follows s₀ := h.record ..

theorem State.Follows.markClear (i n : Nat) : (s.markClear i n).2.Follows s₀ := h.checks (h.markDrop ..)

theorem State.Follows.startReplay (i from_ : Nat) : (s.startReplay i from_).Follows s₀ := (h.updStream ..).record ..

theorem State.Follows.rewind (i n : Nat) : (s.rewind i n).2.Follows s₀ := by
  unfold State.rewind
  extract_lets
  split
  · exact h
  · split
    · exact h
    · split
      · exact ((h.startReplay ..).record ..).markDrop ..
      · exact h.startReplay ..

theorem execMarkSet_follows (l : Link) (stream : Fin 3) (n : BitVec 8) : EndsFollowing s₀ (execMarkSet l stream n s) :=
  (h.request (h.markSet ..)).next

theorem execMarkClear_follows (l : Link) (stream : Fin 3) (n : BitVec 8) : EndsFollowing s₀ (execMarkClear l stream n s) :=
  (h.request (h.markClear ..)).next

theorem execRewind_follows (l : Link) (stream : Fin 3) (n : BitVec 8) : EndsFollowing s₀ (execRewind l stream n s) :=
  (h.request (h.rewind ..)).next

theorem execRewindDone_follows (stream : Fin 3) : EndsFollowing s₀ (execRewindDone stream s) := ((h.record ..).ite h).next

/-! ### Commands of the store (chapter 11) -/

theorem State.Follows.lineSpoiled (r line : Nat) (left : List (Nat × Byte)) : (s.lineSpoiled r line left).Follows s₀ := by
  unfold State.lineSpoiled
  split
  · exact h
  · split
    · exact h.rep _
    · exact h.rep _
    · exact (h.rep _).foldl _ fun _ _ hu => hu.updStream ..
    · exact h

theorem State.Follows.memErr (kind r line key : Nat) : (s.memErr kind r line key).Follows s₀ := h.record ..

theorem State.Follows.memCorrected (key : Nat) : (s.memCorrected key).Follows s₀ := h.ite (h.latch ..)

theorem State.Follows.rowDue (row : Nat) : (s.rowDue row).Follows s₀ := h.ite (h.mem _)

theorem State.Follows.rowCorrected (row : Nat) : (s.rowCorrected row).Follows s₀ := by
  unfold State.rowCorrected
  extract_lets _ _ s1
  have hs1 : s1.Follows s₀ := h.mem _
  exact (hs1.rowDue ..).ite hs1

theorem State.Follows.lostMemory (i n : Nat) : (s.lostMemory i n).Follows s₀ := h.ite (((h.addWide ..).seq ..).recordsLost ..)

theorem State.Follows.discard (i : Nat) (hit : Pkt → Bool) : (s.discard i hit).Follows s₀ := by
  unfold State.discard
  extract_lets _ s1
  have hs1 : s1.Follows s₀ := h.updStream ..
  exact hs1.ite ((hs1.lostMemory ..).fillChanged ..)

theorem State.Follows.archiveLine (line : Nat) : (s.archiveLine line).Follows s₀ :=
  (h.rep _).foldl _ fun _ _ hu => (hu.updStream ..).discard ..

theorem State.Follows.queueLine (line : Nat) : (s.queueLine line).Follows s₀ := h.foldl _ fun _ _ hu => hu.discard ..

theorem State.Follows.hotLine (line : Nat) : (s.hotLine line).Follows s₀ := ((h.rep _).record ..).record ..

theorem State.Follows.dictLine (line : Nat) : (s.dictLine line).Follows s₀ := ((h.rep _).record ..).record ..

theorem State.Follows.locLine : s.locLine.Follows s₀ := h.draw.trk _

theorem State.Follows.lineLost (r line : Nat) : (s.lineLost r line).Follows s₀ := by
  unfold State.lineLost
  split
  · exact h.locLine
  · exact h.dictLine ..
  · exact h.hotLine ..
  · exact h.archiveLine ..
  · exact h.queueLine ..
  · exact h

/-- A line joins the retired ones, and none leaves (R393). -/
theorem State.Follows.retire (line : Nat × Nat) :
    State.Follows { s with mem := { s.mem with retired := s.mem.retired ++ [line] } } s₀ := by
  obtain ⟨variant, pending, fuse, retired⟩ := h
  exact ⟨variant, pending, fuse, fun x mem => List.mem_append_left _ (retired x mem)⟩

theorem State.Follows.uncorrectable (mx : Bool) (base r line : Nat) : (s.uncorrectable mx base r line).Follows s₀ := by
  unfold State.uncorrectable
  extract_lets s1 _ _ _ s3
  have hs1 : s1.Follows s₀ := h.memErr ..
  have hs3 : s3.Follows s₀ := (hs1.ite (hs1.latchAs ..)).lineLost ..
  exact (hs3.rowDue ..).ite ((hs3.criticalFault ..).ite (hs3.ite ((hs3.retire _).record ..)))

theorem State.Follows.lineCorrected (base r line n : Nat) : (s.lineCorrected base r line n).Follows s₀ := by
  unfold State.lineCorrected
  split
  · exact h
  · exact ((h.memErr ..).memCorrected ..).rowCorrected ..
  · exact ((h.memErr ..).memCorrected ..).rowCorrected ..

theorem State.Follows.lineRead (r line : Nat) (err : MemErr) : (s.lineRead r line err).Follows s₀ := by
  unfold State.lineRead
  split
  · exact h
  · split
    · exact h
    · split
      · split
        · exact h
        · split
          · exact h.uncorrectable ..
          · exact (h.lineCorrected ..).lineSpoiled ..
      · exact h.ite ((h.memErr ..).memCorrected ..)
      · exact h.ite (h.uncorrectable ..)

theorem execScrubStep_follows (region : Fin 7) (line : BitVec 32) (err : MemErr) (last : Bool) : EndsFollowing s₀
    (execScrubStep region line err last s) := by
  unfold execScrubStep
  split
  · exact h.next
  · extract_lets s1
    have hs1 : s1.Follows s₀ := h.lineRead ..
    exact ((hs1.record ..).ite hs1).next

theorem execRowRepairDone_follows : EndsFollowing s₀ (execRowRepairDone s) := by
  unfold execRowRepairDone
  split
  · exact h.next
  · exact ((h.mem _).record ..).next

theorem execRepairMapStored_follows (ok : Bool) : EndsFollowing s₀ (execRepairMapStored ok s) :=
  h.next.ite (((h.record ..).mem _).ite (h.record ..)).next

theorem execInnerCountUpdate_follows (n : BitVec 32) : EndsFollowing s₀ (execInnerCountUpdate n s) := ((h.record ..).ite h).next

/-! ### Commands of the HF reader (chapter 12) -/

theorem State.Follows.setActive (a : Option Nat) : (s.setActive a).Follows s₀ := (h.updHf ..).putDom ..

theorem State.Follows.sessionField : s.sessionField.Follows s₀ := h.startSlide.ite ((h.raiseField ..).updHf ..)

theorem State.Follows.openSession : s.openSession.Follows s₀ := (((h.updHf ..).val _).replanNow ..).ite (h.updHf ..).sessionField

theorem execHfStartDeferred_follows : EndsFollowing s₀ (execHfStartDeferred s) := (h.val _).sessionField.replan.next.ite h.next

theorem State.Follows.opBegins (code : Nat) : (s.opBegins code).Follows s₀ := ((h.updHf ..).record ..).showHf

theorem State.Follows.hfRun (code : Nat) : (s.hfRun code).Follows s₀ := by
  unfold State.hfRun
  extract_lets
  split
  · exact ((h.opBegins ..).setActive ..).ite (h.opBegins ..).openSession
  · exact ((h.opBegins ..).setActive ..).ite ((h.opBegins ..).hfEnd ..)
  · split
    · exact (h.opBegins ..).hfEnd ..
    · exact ((h.opBegins ..).updHf ..).ite ((h.opBegins ..).ite ((h.opBegins ..).hfEnd ..))
  · exact (h.opBegins ..).ite ((h.opBegins ..).hfEnd ..).closeSession
  · exact (h.hfStop ..).ite ((h.opBegins ..).hfEnd ..).closeSession

theorem State.Follows.hfOp (code : Nat) : (s.hfOp code).2.Follows s₀ := h.checks (h.hfRun ..)

theorem execHfDiscover_follows (l : Link) : EndsFollowing s₀ (execHfDiscover l s) := (h.request (h.hfOp ..)).next

theorem execHfActivate_follows (l : Link) : EndsFollowing s₀ (execHfActivate l s) := (h.request (h.hfOp ..)).next

theorem execHfExchange_follows (l : Link) : EndsFollowing s₀ (execHfExchange l s) := (h.request (h.hfOp ..)).next

theorem execHfRelease_follows (l : Link) : EndsFollowing s₀ (execHfRelease l s) := (h.request (h.hfOp ..)).next

theorem execHfAbort_follows (l : Link) : EndsFollowing s₀ (execHfAbort l s) := (h.request (h.hfOp ..)).next

theorem execHfGuardTimeEnd_follows : EndsFollowing s₀ (execHfGuardTimeEnd s) := ((h.updHf ..).ite ((h.updHf ..).ite h)).next

theorem State.Follows.hfEnds (code status : Nat) (rsp : Bytes) : (s.hfEnds code status rsp).Follows s₀ :=
  (h.hfEnd ..).closeSession.ite (h.hfEnd ..)

theorem State.Follows.frameFailed (crc : Bool) : (s.frameFailed crc).Follows s₀ := by
  unfold State.frameFailed
  split
  · exact h
  · exact (h.updHf ..).ite ((h.updHf ..).ite ((h.hfEnds ..).ite (((h.setActive ..).hfEnds ..).ite (h.hfEnds ..))))

theorem State.Follows.rawDone (frame : Bytes) : (s.rawDone frame).Follows s₀ := h.hfEnd ..

theorem execHfFrameReceived_follows (frame : Bytes) (check : FrameCheck) : EndsFollowing s₀ (execHfFrameReceived frame check s) :=
    by
  unfold execHfFrameReceived
  split
  · exact h.next
  · exact ((h.hfEnds ..).ite ((h.rawDone ..).ite (((h.checked ..).frameFailed ..).ite (((h.checked ..).rawDone ..).ite
      ((h.checked ..).updHf ..))))).next

theorem execHfReplyTimeout_follows : EndsFollowing s₀ (execHfReplyTimeout s) := (h.frameFailed ..).next

theorem State.Follows.discovered (status : Nat) (cards : List Bytes) (more : Bool) : (s.discovered status cards
    more).Follows s₀ :=
  ((h.putDom ..).put ..).hfEnd ..

theorem execHfOpEnd_follows (status : Fin 12) (rsp : Bytes) (cards : List Bytes) (more : Bool) : EndsFollowing s₀
    (execHfOpEnd status rsp cards more s) := by
  unfold execHfOpEnd
  split
  · exact h.next
  · extract_lets s1
    have hs1 : s1.Follows s₀ := (h.setActive ..).ite h
    split
    · exact (hs1.discovered ..).next
    · exact (((hs1.setActive ..).ite hs1).hfEnds ..).next
    · exact (hs1.hfEnds ..).next

theorem execHfSessionIdle_follows : EndsFollowing s₀ (execHfSessionIdle s) :=
  h.next.ite (((h.updHf ..).hfEnd ..).draw.put ..).closeSession.next

theorem State.Follows.slideSeen (phase z : Nat) : (s.slideSeen phase z).Follows s₀ := by
  unfold State.slideSeen
  extract_lets s1
  have hs1 : s1.Follows s₀ := h.record ..
  exact ((hs1.slideMismatch ..).hfFault ..).ite hs1

theorem execSlideTrackTick_follows (dcs dcp phase : Int) (z : BitVec 16) : EndsFollowing s₀
    (execSlideTrackTick dcs dcp phase z s) := by
  unfold execSlideTrackTick
  split
  · exact h.next
  · extract_lets _ _ _ _ _ s3
    have hs3 : s3.Follows s₀ := ((h.recordIf ..).updHf ..).slideSeen ..
    exact ((hs3.slideMismatch ..).ite hs3).next

theorem execHfDriverFault_follows (why : DriverFault) : EndsFollowing s₀ (execHfDriverFault why s) :=
  h.next.ite (h.hfFault ..).next

theorem State.Follows.hfFaultClear (v : Nat) : (s.hfFaultClear v).2.Follows s₀ := h.checks (((h.updHf ..).ite h).hfBack.ite h)

theorem execHfFaultClear_follows (l : Link) : EndsFollowing s₀ (execHfFaultClear l s) := (h.request (h.hfFaultClear ..)).next

theorem execHfPllUnlock_follows : EndsFollowing s₀ (execHfPllUnlock s) := by
  unfold execHfPllUnlock
  split
  · exact h.next
  · extract_lets _ s1
    have hs1 : s1.Follows s₀ := (h.hfFieldFault.updHf ..).latch ..
    exact (((hs1.updHf ..).hfOut ..).ite hs1).next

theorem State.Follows.slideRetry (ok : Bool) : (s.slideRetry ok).Follows s₀ :=
  ((h.draw.updHf _).record ..).hfBack.ite ((h.latch ..).slideMismatch _)

theorem execHfRecoveryRetry_follows (ok : Bool) : EndsFollowing s₀ (execHfRecoveryRetry ok s) := by
  unfold execHfRecoveryRetry
  refine State.Follows.next ?_
  split
  · exact h
  · split
    · exact h.hfBack.ite h
    · exact (h.slideRetry ..).ite h
    · exact h

theorem State.Follows.slideRetune (v : Nat) : (s.slideRetune v).2.Follows s₀ := h.checks (h.ite h.startSlide)

theorem execSlideRetune_follows (l : Link) : EndsFollowing s₀ (execSlideRetune l s) := (h.request (h.slideRetune ..)).next

theorem State.Follows.slideCalPasses (cs cp phase z temp : Nat) : (s.slideCalPasses cs cp phase z temp).Follows s₀ := by
  unfold State.slideCalPasses
  extract_lets _ s2 s3 s4
  have hs2 : s2.Follows s₀ := ((h.updHf ..).record ..).slideSeen ..
  have hs3 : s3.Follows s₀ := (hs2.slideMismatch ..).ite hs2
  have hs4 : s4.Follows s₀ := hs3.hfBack.ite hs3
  exact hs4.sessionField.ite ((hs4.raiseField ..).ite hs4.dropField)

theorem State.Follows.slideCalFails : s.slideCalFails.Follows s₀ := (((h.updHf ..).hfOut ..).latch ..).slideMismatch ..

theorem execSlideCalDone_follows (ok : Bool) (cs cp : Fin 64) (phase : Int) (z : BitVec 16) (temp : Int) : EndsFollowing s₀
    (execSlideCalDone ok cs cp phase z temp s) :=
  h.next.ite ((h.slideCalPasses ..).ite h.slideCalFails).next

theorem State.Follows.follow (amp phase : Int) : (s.follow amp phase).Follows s₀ := h.updHf ..

theorem State.Follows.pulses (n : Nat) : (s.pulses n).Follows s₀ := (h.record ..).record ..

theorem State.Follows.cardDetected : s.cardDetected.Follows s₀ := (((h.dropField.updHf ..).record ..).latch ..).wakeSource ..

theorem State.Follows.falseDetection : s.falseDetection.Follows s₀ := (h.dropField.updHf ..).record ..

theorem execBreathPulse_follows (amp phase : Int) : EndsFollowing s₀ (execBreathPulse amp phase s) := by
  unfold execBreathPulse
  split
  · exact h.next
  · extract_lets s1
    have hs1 : s1.Follows s₀ := h.pulses ..
    exact ((hs1.updHf ..).ite (hs1.follow ..)).next

theorem execBreathSecondPulse_follows (amp phase : Int) : EndsFollowing s₀ (execBreathSecondPulse amp phase s) := by
  unfold execBreathSecondPulse
  split
  · exact h.next
  · extract_lets s1
    have hs1 : s1.Follows s₀ := h.pulses ..
    exact ((hs1.follow ..).ite (hs1.cardDetected.ite ((hs1.raiseField ..).updHf ..))).next

theorem execBreathConfirmEnd_follows (sof : Bool) : EndsFollowing s₀ (execBreathConfirmEnd sof s) := by
  unfold execBreathConfirmEnd
  split
  · exact (h.cardDetected.ite h.falseDetection).next
  · exact (h.cardDetected.ite h).next

theorem execBreathBaselineDone_follows (amp phase : Int) (ok : Bool) : EndsFollowing s₀ (execBreathBaselineDone amp phase ok s) :=
    by
  unfold execBreathBaselineDone
  split
  · exact h.next
  · extract_lets s1
    have hs1 : s1.Follows s₀ := h.pulses ..
    exact (((hs1.updHf ..).record ..).ite ((hs1.record ..).showHf.ite (hs1.updHf ..))).next

end

end Sys2Proof.Machine
end

section
/-! SUPPORT. What the commands of the board ports, the timers and the modes keep of `State.Follows`. -/

namespace Sys2Proof.Machine

section
variable {s₀ s : State} (h : s.Follows s₀)
include h

/-! ### Flashes (R474, R478) -/

theorem State.Follows.secureRead : s.secureRead.Follows s₀ := h.congr rfl rfl rfl rfl

/-! ### Commands of the board ports (chapter 14) -/

theorem State.Follows.spcOp (code : Nat) : (s.spcOp code).2.Follows s₀ := h.checks ((h.spc _).record ..)

theorem execSpcRead_follows (l : Link) : EndsFollowing s₀ (execSpcRead l s) := (h.request (h.spcOp ..)).next

theorem execSpcProgram_follows (l : Link) : EndsFollowing s₀ (execSpcProgram l s) := (h.request (h.spcOp ..)).next

theorem execSpcErase4k_follows (l : Link) : EndsFollowing s₀ (execSpcErase4k l s) := (h.request (h.spcOp ..)).next

theorem execSpcErase64k_follows (l : Link) : EndsFollowing s₀ (execSpcErase64k l s) := (h.request (h.spcOp ..)).next

theorem execSpcReadSfdp_follows (l : Link) : EndsFollowing s₀ (execSpcReadSfdp l s) := (h.request (h.spcOp ..)).next

theorem State.Follows.flashError (n : Nat) : (s.flashError n).Follows s₀ := (h.record ..).latch ..

theorem State.Follows.spcTick : s.spcTick.Follows s₀ := (h.record ..).ite h

theorem State.Follows.spcEffect (o : SpcOp) (status : Nat) (sfdp : Bytes) : (s.spcEffect o status sfdp).2.Follows s₀ := by
  unfold State.spcEffect
  extract_lets
  split
  · exact h.flashOther ..
  · exact (h.updFlash ..).ite (h.scramble ..)
  · exact (h.updFlash ..).ite (h.scramble ..)
  · exact (h.updFlash ..).ite (h.scramble ..)
  · exact h.flashOther ..

theorem execSpcOpEnd_follows (status : Fin 4) (sfdp : Bytes) : EndsFollowing s₀ (execSpcOpEnd status sfdp s) := by
  unfold execSpcOpEnd
  split
  · exact h.next
  · extract_lets _ _ _ _ t1
    have ht1 : t1.Follows s₀ := (((h.spcEffect ..).spc _).putDom ..).record ..
    exact (ht1.ite (ht1.flashError ..)).next

theorem State.Follows.twbEnd (status state nack : Nat) (rdata : Bytes) : (s.twbEnd status state nack rdata).Follows s₀ :=
  ((h.updTwb _).putDom ..).record ..

theorem State.Follows.twbStuck (was : Nat) : (s.twbStuck was).Follows s₀ := by
  unfold State.twbStuck
  extract_lets _ s1
  have hs1 : s1.Follows s₀ := h.record ..
  exact hs1.ite (hs1.latch ..)

theorem State.Follows.twbStart (bus : TwbBus) : (s.twbStart bus).Follows s₀ := by
  cases bus with
  | free => exact h.updTwb _
  | recovers => exact (h.updTwb _).record ..
  | stuck => exact ((h.record ..).twbEnd ..).twbStuck _

theorem State.Follows.twbGo (value : Nat) (bus : TwbBus) : (s.twbGo value bus).2.Follows s₀ :=
  h.checks (((h.updTwb _).record ..).twbStart ..)

theorem execTwbGo_follows (l : Link) (bus : TwbBus) : EndsFollowing s₀ (execTwbGo l bus s) := (h.request (h.twbGo ..)).next

theorem State.Follows.twbRecover (value : Nat) (ok : Bool) : (s.twbRecover value ok).2.Follows s₀ := by
  unfold State.twbRecover
  refine h.checks ?_
  extract_lets t1
  have ht1 : t1.Follows s₀ := (h.updTwb _).record ..
  exact (ht1.record ..).ite (ht1.twbStuck ..)

theorem execTwbRecover_follows (l : Link) (ok : Bool) : EndsFollowing s₀ (execTwbRecover l ok s) :=
  (h.request (h.twbRecover ..)).next

theorem execTwbTransferEnd_follows (how : TwbEnd) (nackByte : BitVec 8) (rdata : Bytes) : EndsFollowing s₀
    (execTwbTransferEnd how nackByte rdata s) := by
  unfold execTwbTransferEnd
  split
  · exact h.next
  · split
    · exact (h.twbEnd ..).next
    · exact (h.twbEnd ..).next
    · exact (h.twbEnd ..).next

theorem execTwbSclTimeout_follows : EndsFollowing s₀ (execTwbSclTimeout s) := h.next.ite ((h.twbEnd ..).updTwb _).next

theorem execTwbSclStuck_follows : EndsFollowing s₀ (execTwbSclStuck s) := h.next.ite (((h.updTwb _).record ..).twbStuck ..).next

theorem execTwbConflict_follows : EndsFollowing s₀ (execTwbConflict s) := by
  unfold execTwbConflict
  split
  · exact h.next
  · extract_lets s1
    have hs1 : s1.Follows s₀ := h.updTwb _
    exact (hs1.ite ((hs1.record ..).latch ..)).next

theorem execTwbBusReleased_follows : EndsFollowing s₀ (execTwbBusReleased s) := by
  unfold execTwbBusReleased
  extract_lets s1
  have hs1 : s1.Follows s₀ := h.updTwb _
  exact hs1.next.ite ((hs1.twbEnd ..).next.ite (hs1.updTwb _).next)

theorem execTwbRetry_follows (bus : TwbBus) : EndsFollowing s₀ (execTwbRetry bus s) := h.next.ite ((h.updTwb _).twbStart ..).next

theorem State.Follows.gpioDrive (mask : Nat) (high : Bool) : (s.gpioDrive mask high).2.Follows s₀ := h.checks (h.updTwb _)

theorem execGpioSet_follows (l : Link) (mask : BitVec 32) : EndsFollowing s₀ (execGpioSet l mask s) :=
  (h.request (h.gpioDrive ..)).next

theorem execGpioClear_follows (l : Link) (mask : BitVec 32) : EndsFollowing s₀ (execGpioClear l mask s) :=
  (h.request (h.gpioDrive ..)).next

/-! ### Commands of the timers and checks (chapter 15) -/

theorem State.Follows.tmrFlags (n flags : Nat) : (s.tmrFlags n flags).Follows s₀ := by
  unfold State.tmrFlags
  split
  · exact h
  · extract_lets _ s1
    have hs1 : s1.Follows s₀ := h.puts ..
    exact (hs1.latch ..).ite hs1

theorem State.Follows.tmrTick (n : Nat) : (s.tmrTick n).Follows s₀ := by
  unfold State.tmrTick
  extract_lets _ _ _ s1 _ s3
  have hs1 : s1.Follows s₀ := h.put ..
  have hs3 : s3.Follows s₀ := ((hs1.bump ..).ite hs1).tmrFlags ..
  exact (hs3.wakeSource ..).ite hs3

theorem execTimerWrap_follows (n : Fin 16) : EndsFollowing s₀ (execTimerWrap n s) := ((h.tmrTick ..).ite h).next

theorem execTimerMatch_follows (n : Fin 16) : EndsFollowing s₀ (execTimerMatch n s) := ((h.tmrTick ..).ite h).next

theorem State.Follows.tmrFlagClear (n mask : Nat) : (s.tmrFlagClear n mask).2.Follows s₀ := h.checks (h.puts ..)

theorem execTmrFlagClear_follows (l : Link) (n : Fin 16) (mask : BitVec 8) : EndsFollowing s₀ (execTmrFlagClear l n mask s) :=
  (h.request (h.tmrFlagClear ..)).next

theorem State.Follows.tmrRestart (n v : Nat) : (s.tmrRestart n v).2.Follows s₀ := h.checks (h.puts ..)

theorem execTmrRestart_follows (l : Link) (n : Fin 16) (v : BitVec 8) : EndsFollowing s₀ (execTmrRestart l n v s) :=
  (h.request (h.tmrRestart ..)).next

theorem State.Follows.loadGroup (base n : Nat) : (s.loadGroup base n).Follows s₀ := h.foldl _ fun _ _ hu => hu.put ..

theorem State.Follows.groupLoad (v : Nat) : (s.groupLoad v).2.Follows s₀ := h.checks (h.loadGroup ..)

theorem execTmrGroupLoad_follows (l : Link) (v : BitVec 8) : EndsFollowing s₀ (execTmrGroupLoad l v s) :=
  (h.request (h.groupLoad ..)).next

theorem State.Follows.claimTimers (base : Option Nat) : (s.claimTimers base).Follows s₀ := by
  unfold State.claimTimers
  split
  · exact h
  · extract_lets own s1 _ s2
    have owned : s1.Follows s₀ := h.foldl _ fun _ _ hu => hu.put ..
    have claimed : s2.Follows s₀ := (owned.val _).put ..
    clear_value s2
    cases base with
    | none => exact claimed
    | some b => exact claimed.loadGroup b 4

theorem State.Follows.setRate (freq slew : Int) : (s.setRate freq slew).Follows s₀ := (h.tim _).put ..

theorem State.Follows.stepTime (e : Nat) : (s.stepTime e).Follows s₀ := by
  unfold State.stepTime
  extract_lets _ s1
  have hs1 : s1.Follows s₀ := h.tim _
  split
  · exact hs1
  · exact hs1.ite ((h.tim _).cutIvals.trk _)

theorem State.Follows.firstEvent (t : Nat) (ext : Int) : (s.firstEvent t ext).Follows s₀ := ((h.tim _).setRate ..).record ..

theorem State.Follows.nextEvent (t : Nat) (e : Int) : (s.nextEvent t e).Follows s₀ := by
  unfold State.nextEvent
  extract_lets _ _ _ _ s1
  have hs1 : s1.Follows s₀ := (h.setRate ..).record ..
  exact (hs1.stepTime ..).ite hs1

theorem State.Follows.rejectTime : s.rejectTime.Follows s₀ := h.record ..

theorem State.Follows.ppsEdge (t : Nat) : (s.ppsEdge t).Follows s₀ :=
  h.ite ((h.firstEvent ..).ite (h.rejectTime.ite (h.nextEvent ..)))

theorem State.Follows.timeFrame (t ms days : Nat) : (s.timeFrame t ms days).Follows s₀ :=
  h.ite (h.rejectTime.ite ((h.nextEvent ..).ite (h.firstEvent ..)))

theorem State.Follows.startDiscipline : s.startDiscipline.Follows s₀ := (h.tim _).record ..

theorem execDiscPhaseEnd_follows : EndsFollowing s₀ (execDiscPhaseEnd s) := (h.setRate ..).next

theorem execDiscHoldover_follows : EndsFollowing s₀ (execDiscHoldover s) := ((((h.setRate ..).record ..).latch ..).ite h).next

theorem State.Follows.gateEdge (g : Nat) (rising : Bool) : (s.gateEdge g rising).Follows s₀ := by
  unfold State.gateEdge
  extract_lets _ _ s1 _ s2 s3
  have hs1 : s1.Follows s₀ := h.record ..
  have hs2 : s2.Follows s₀ := (hs1.latch ..).ite hs1
  have hs3 : s3.Follows s₀ := (hs2.wakeSource ..).ite hs2
  exact (hs3.ppsEdge ..).ite hs3

theorem execGateEdge_follows (g : Fin 8) (rising : Bool) : EndsFollowing s₀ (execGateEdge g rising s) :=
  (h.ite (h.gateEdge ..)).next

theorem State.Follows.scanEnd (status value : Nat) : (s.scanEnd status value).Follows s₀ := h.record ..

theorem State.Follows.scanCut (status : Nat) : (s.scanCut status).Follows s₀ := (h.draw.scanEnd ..).ite h

theorem State.Follows.scanGo (v : Nat) : (s.scanGo v).2.Follows s₀ := by
  unfold State.scanGo
  split
  · exact h.scanCut ..
  · exact h.checks ((h.chk _).record ..)

theorem execScanStart_follows (l : Link) : EndsFollowing s₀ (execScanStart l s) := (h.request (h.scanGo ..)).next

theorem execScanAbort_follows (l : Link) : EndsFollowing s₀ (execScanAbort l s) := (h.request (h.scanGo ..)).next

theorem execScanDone_follows (flashFail : Bool) : EndsFollowing s₀ (execScanDone flashFail s) := by
  unfold execScanDone
  extract_lets s _ _ _ s1
  have hs : s.Follows s₀ := (h.flashOther ..).ite h
  have hs1 : s1.Follows s₀ := hs.scanEnd ..
  exact hs.next.ite (((hs.record ..).scanCut ..).next.ite ((hs1.latch ..).ite hs1).next)

theorem State.Follows.unitFails (u : Nat) : (s.unitFails u).Follows s₀ := by
  unfold State.unitFails
  extract_lets _ s1
  have hs1 : s1.Follows s₀ := h.record ..
  exact (hs1.criticalFault ..).ite (((hs1.latch ..).scanCut ..).ite (((((h.record ..).latch ..).chk _).record ..).scanCut ..))

theorem execCheckSelftest_follows (u : Fin 4) (pass : Bool) : EndsFollowing s₀ (execCheckSelftest u pass s) := by
  unfold execCheckSelftest
  split
  · exact h.next
  · extract_lets _ _ s1
    have hs1 : s1.Follows s₀ := h.chk _
    exact ((hs1.unitFails ..).ite hs1).next

/-! ### Commands of the modes (chapter 2) -/

theorem State.Follows.bringUp : s.bringUp.Follows s₀ := by
  unfold State.bringUp
  extract_lets s1
  have hs1 : s1.Follows s₀ := h.foldl _ fun _ _ hu => (hu.startCal ..).ite ((hu.retune ..).ite hu)
  exact (hs1.startSlide.ite hs1).calsEnded

theorem State.Follows.endRounds : s.endRounds.Follows s₀ :=
  (h.foldl _ fun _ _ hu => hu.dueRound ..).foldl _ fun _ _ hu => hu.gangDown ..

theorem State.Follows.startTrans (m : Mode) (l : Option Link) (reason : Nat) : (s.startTrans m l reason).Follows s₀ := by
  unfold State.startTrans
  extract_lets _ s1
  have hs1 : s1.Follows s₀ := h.sys _
  split
  · exact hs1.endRounds
  · exact hs1.bringUp.ite hs1
  · exact hs1.stopBreath.linksTrain
  · exact hs1.bringUp.ite hs1
  · exact hs1

theorem State.Follows.modeAsked (l : Link) (v : Nat) : (s.modeAsked l v).2.Follows s₀ := by
  unfold State.modeAsked
  split
  · exact h
  · split
    · exact h
    · refine h.checks ?_
      extract_lets t1
      have ht1 : t1.Follows s₀ := h.put ..
      exact (ht1.wake ..).ite (ht1.startTrans ..)

theorem State.Follows.modeRequest (l : Link) (v : Nat) : (s.modeRequest l v).2.Follows s₀ := by
  unfold State.modeRequest
  extract_lets r
  have hr : r.2.Follows s₀ := h.modeAsked ..
  split
  · exact hr
  · exact hr.put ..

theorem execReqHold_follows (l : Link) : EndsFollowing s₀ (execReqHold l s) := (h.request (h.modeRequest ..)).next

theorem execReqReady_follows (l : Link) : EndsFollowing s₀ (execReqReady l s) := (h.request (h.modeRequest ..)).next

theorem execReqRun_follows (l : Link) : EndsFollowing s₀ (execReqRun l s) := (h.request (h.modeRequest ..)).next

theorem execReqWatch_follows (l : Link) : EndsFollowing s₀ (execReqWatch l s) := (h.request (h.modeRequest ..)).next

theorem execReqTest_follows (l : Link) : EndsFollowing s₀ (execReqTest l s) := (h.request (h.modeRequest ..)).next

theorem State.Follows.leave : s.leave.Follows s₀ := h.leaveRun.ite h

theorem State.Follows.coldZone (warm : Bool) (z : Nat) : (s.coldZone warm z).Follows s₀ := by
  unfold State.coldZone
  extract_lets _ _ t
  have ht : t.Follows s₀ := h.congr rfl rfl rfl rfl
  exact ht.recordIf ..

theorem State.Follows.enterReady : s.enterReady.Follows s₀ :=
  (((h.foldl _ fun _ _ hu => hu.coldZone ..).ite h).leave.enter ..).showHf

theorem State.Follows.enterRun : s.enterRun.Follows s₀ :=
  (((h.enter ..).takeOffered.foldl _ fun _ _ hu => hu.updChain ..).autoArm.startTracking.lanesOn ..).replan

theorem State.Follows.enterWatch : s.enterWatch.Follows s₀ := by
  unfold State.enterWatch
  extract_lets s1
  have hs1 : s1.Follows s₀ := ((h.hfStop ..).cutSweep.quadsOff.linksOff.enter ..).startBreath
  exact (hs1.wake ..).ite hs1

theorem State.Follows.enterHold (reason : Nat) : (s.enterHold reason).Follows s₀ :=
  ((h.leave.hfStop ..).cutSweep.quadsOff.enter ..).showHf

theorem State.Follows.through (t : Trans) : (s.through t).Follows s₀ := by
  unfold State.through
  extract_lets _ _ s2
  have hs2 : s2.Follows s₀ := h.enterReady.sys _
  exact hs2.bringUp.ite hs2

theorem State.Follows.arrived (t : Trans) : (s.arrived t).Follows s₀ := (h.put ..).ite h

theorem execModeTransitionDone_follows : EndsFollowing s₀ (execModeTransitionDone s) := by
  unfold execModeTransitionDone
  split
  · exact h.next
  · split
    · exact h.next
    · split
      · exact ((h.enterHold ..).arrived ..).next
      · exact ((h.enter ..).arrived ..).next
      · exact ((h.through ..).ite (h.enterWatch.arrived ..)).next
      · exact (h.ite (h.enterReady.arrived ..)).next
      · exact (h.ite ((h.through ..).ite (h.enterRun.arrived ..))).next
      · exact h.next

theorem State.Follows.resetRequest (l : Link) (v : Nat) : (s.resetRequest l v).2.Follows s₀ := h.checks (h.sys _)

theorem execResetRequest_follows (l : Link) : EndsFollowing s₀ (execResetRequest l s) := (h.request (h.resetRequest ..)).next

theorem State.Follows.startTest : s.startTest.Follows s₀ := (((h.testC _).record ..).foldl _ fun _ _ hu => hu.retune ..).testUp

theorem State.Follows.stopTest : s.stopTest.Follows s₀ := by
  unfold State.stopTest
  split
  · exact h
  · exact (h.rampAll.testC _).record ..

theorem State.Follows.testCarrier (v : Nat) : (s.testCarrier v).2.Follows s₀ := by
  unfold State.testCarrier
  extract_lets
  split
  · exact h
  · split
    · exact h
    · split
      · exact h.stopTest
      · split
        · exact h
        · split
          · exact h
          · split
            · exact h
            · split
              · exact h.refuse
              · exact h.startTest

theorem execTestCarrierStart_follows (l : Link) : EndsFollowing s₀ (execTestCarrierStart l s) :=
  (h.request (h.testCarrier ..)).next

theorem execTestCarrierStop_follows (l : Link) : EndsFollowing s₀ (execTestCarrierStop l s) := (h.request (h.testCarrier ..)).next

theorem execTestCarrierTimeout_follows : EndsFollowing s₀ (execTestCarrierTimeout s) := (h.stopTest.ite h).next

theorem State.Follows.testField (v : Nat) : (s.testField v).2.Follows s₀ := by
  unfold State.testField
  split
  · exact h
  · split
    · exact h
    · split
      · exact h.endTestField ..
      · split
        · exact h
        · split
          · exact h
          · split
            · exact h
            · extract_lets s1
              have hs1 : s1.Follows s₀ := h.updHf ..
              exact (hs1.startSlide.ite (hs1.raiseField ..)).put ..

theorem execTestHfFieldRaise_follows (l : Link) : EndsFollowing s₀ (execTestHfFieldRaise l s) := (h.request (h.testField ..)).next

theorem execTestHfFieldDrop_follows (l : Link) : EndsFollowing s₀ (execTestHfFieldDrop l s) := (h.request (h.testField ..)).next

theorem execTestHfTimeout_follows : EndsFollowing s₀ (execTestHfTimeout s) := (h.endTestField ..).next

theorem State.Follows.capture (v : Nat) : (s.capture v).2.Follows s₀ := h.checks ((h.updHub ..).record ..)

theorem execCaptureGo_follows (l : Link) : EndsFollowing s₀ (execCaptureGo l s) := (h.request (h.capture ..)).next

theorem execCaptureDone_follows (data : Bytes) : EndsFollowing s₀ (execCaptureDone data s) :=
  ((((h.updChain ..).putDom ..).record ..).ite h).next

end

end Sys2Proof.Machine
end

section
/-! SUPPORT. What the commands of security, health and the configuration keep of `State.Follows`. -/

namespace Sys2Proof.Machine

section
variable {s₀ s : State} (h : s.Follows s₀)
include h

/-! ### Commands of firmware and security (chapter 16) -/

theorem State.Follows.updIo (f : Io → Io) : (s.updIo f).Follows s₀ := h.io _

theorem State.Follows.mbxEnd (r : Result) : (s.mbxEnd r).Follows s₀ := h.updIo ..

theorem State.Follows.mbxDone (c : Nat) (r : Result) : (s.mbxDone c r).Follows s₀ := (h.mbxEnd ..).ite h

theorem State.Follows.authFailed : s.authFailed.Follows s₀ := ((h.record ..).sec _).latch ..

theorem State.Follows.writeHdr (b : BootHdr) : (s.writeHdr b).Follows s₀ := by
  unfold State.writeHdr
  exact h.updFlash ..

theorem State.Follows.setSlot (b : Bool) (v : Option (Nat × Nat)) : (s.setSlot b v).Follows s₀ := by
  unfold State.setSlot
  extract_lets _ t
  have ht : t.Follows s₀ := h.sec _ (by split <;> rfl)
  exact ht.ite (ht.record ..)

theorem State.Follows.spoilSlot (b : Bool) : (s.spoilSlot b).Follows s₀ := (h.setSlot ..).sec _

theorem State.Follows.fwErase (b : Bool) : (s.fwErase b).Follows s₀ := ((h.spoilSlot ..).sec _).record ..

theorem State.Follows.fwUpdate (v : Nat) : (s.fwUpdate v).2.Follows s₀ := by
  unfold State.fwUpdate
  split
  · exact h.checks (h.fwErase _)
  · exact h.checks (h.record ..)
  · dsimp only
    split
    · exact h
    · exact ((h.spoilSlot _).sec _).record ..
  · exact h

theorem execFwUpdateBegin_follows (l : Link) : EndsFollowing s₀ (execFwUpdateBegin l s) := (h.request (h.fwUpdate ..)).next

theorem execFwUpdateFinish_follows (l : Link) : EndsFollowing s₀ (execFwUpdateFinish l s) := (h.request (h.fwUpdate ..)).next

theorem execFwUpdateAbandon_follows (l : Link) : EndsFollowing s₀ (execFwUpdateAbandon l s) := (h.request (h.fwUpdate ..)).next

theorem execFwEraseDone_follows : EndsFollowing s₀ (execFwEraseDone s) := by
  unfold execFwEraseDone
  split
  · exact h.next
  · exact h.next.ite (((h.updFlash ..).record ..).mbxDone ..).next

theorem State.Follows.fwAppend (d : Bytes) : (s.fwAppend d).2.Follows s₀ := h.checks ((h.updFlash ..).record ..)

theorem execFwImageAppend_follows (l : Link) (d : Bytes) : EndsFollowing s₀ (execFwImageAppend l d s) :=
  (h.request (h.fwAppend ..)).next

theorem State.Follows.fwFails (r : Result) : (s.fwFails r).Follows s₀ := (h.record ..).mbxDone ..

theorem execFwVerifyDone_follows (digests sig : Bool) : EndsFollowing s₀ (execFwVerifyDone digests sig s) := by
  unfold execFwVerifyDone
  split
  · exact h.next
  · extract_lets
    split
    · exact (h.secureRead.fwFails ..).next
    · exact ((h.secureRead.fwFails ..).latch ..).next
    · exact ((((((h.secureRead.writeHdr ..).setSlot ..).sec _).record ..).latch ..).mbxDone ..).next

theorem State.Follows.fwConfirm (v : Nat) : (s.fwConfirm v).2.Follows s₀ := h.checks (h.ite ((h.writeHdr ..).raise ..))

theorem execFwConfirm_follows (l : Link) (v : BitVec 8) : EndsFollowing s₀ (execFwConfirm l v s) :=
  (h.request (h.fwConfirm ..)).next

theorem execDemandPageLoad_follows (first second : Bool) : EndsFollowing s₀ (execDemandPageLoad first second s) :=
  (h.ite ((h.flashOther ..).ite ((h.flashOther ..).criticalFault ..))).next

theorem State.Follows.freshNonce : s.freshNonce.Follows s₀ := ((h.sec _).putDom ..).seq ..

theorem State.Follows.nonceRequest (v : Nat) : (s.nonceRequest v).2.Follows s₀ := h.checks h.freshNonce

theorem execNonceRequest_follows (l : Link) (v : BitVec 8) : EndsFollowing s₀ (execNonceRequest l v s) :=
  (h.request (f := fun t => t.nonceRequest v.toNat) (h.nonceRequest _)).next

theorem execNonceExpire_follows : EndsFollowing s₀ (execNonceExpire s) := (h.sec _).next

theorem State.Follows.submit (l : Link) : (s.submit l).Follows s₀ := (h.sec _).record ..

theorem State.Follows.tokenSubmit (l : Link) (v : Nat) : (s.tokenSubmit l v).2.Follows s₀ := h.checks (h.submit ..)

theorem execTokenSubmit_follows (l : Link) (v : BitVec 8) : EndsFollowing s₀ (execTokenSubmit l v s) :=
  (h.request (h.tokenSubmit ..)).next

theorem State.Follows.tokenEnds (r : Result) (more : List (Nat × Nat)) : (s.tokenEnds r more).Follows s₀ :=
  ((h.sec _).record ..).mbxDone ..

theorem State.Follows.passes {kind : Nat} {f : Link → Bytes → State} (passed : ∀ l b, (f l b).Follows s₀) :
    (s.passes kind f).Follows s₀ := by
  unfold State.passes
  split
  · exact h
  · exact (passed ..).ite h

theorem execTokenTest_follows : EndsFollowing s₀ (execTokenTest s) := (h.passes fun _ _ => h.tokenEnds ..).next

theorem State.Follows.recover : s.recover.Follows s₀ := by
  unfold State.recover
  split
  · exact h.put ..
  · split
    · exact (h.sys _).ite (h.abandon.startTrans ..)
    · exact h.startTrans ..

theorem execTokenRecovery_follows : EndsFollowing s₀ (execTokenRecovery s) := (h.passes fun _ _ => (h.tokenEnds ..).recover).next

theorem execTokenDebug_follows : EndsFollowing s₀ (execTokenDebug s) := (h.passes fun _ _ => (h.tokenEnds ..).record ..).next

theorem execOwnerRelease_follows : EndsFollowing s₀ (execOwnerRelease s) :=
  (h.passes fun _ _ => (((h.tokenEnds ..).putDom ..).putDom ..).record ..).next

theorem State.Follows.takeOwner : s.takeOwner.Follows s₀ := (h.putDom ..).putDom ..

theorem execOwnerEnrol_follows : EndsFollowing s₀ (execOwnerEnrol s) :=
  (h.passes fun _ _ => (h.tokenEnds ..).takeOwner.record ..).next

theorem execOwnerRotate_follows : EndsFollowing s₀ (execOwnerRotate s) :=
  (h.passes fun _ _ => (h.tokenEnds ..).takeOwner.seq ..).next

theorem execTokenRejected_follows (badSig : Bool) : EndsFollowing s₀ (execTokenRejected badSig s) := by
  unfold execTokenRejected
  split
  · exact h.next
  · exact (h.ite ((h.tokenEnds ..).authFailed.ite (h.tokenEnds ..))).next

theorem State.Follows.sessionEnds (l : Option Link) : (s.sessionEnds l).Follows s₀ := by
  unfold State.sessionEnds
  extract_lets _ s1
  have hs1 : s1.Follows s₀ := h.record ..
  split
  · split
    · exact (h.record ..).sys _
    · exact hs1.resetPart ..
  · exact (((h.record ..).sec _).record ..).ite hs1

theorem State.Follows.sessionClose (l : Link) (v : Nat) : (s.sessionClose l v).2.Follows s₀ :=
  h.checks (h.ite (h.sessionEnds ..))

theorem execSessionClose_follows (l : Link) (v : BitVec 8) : EndsFollowing s₀ (execSessionClose l v s) :=
  (h.request (h.sessionClose ..)).next

theorem execSessionExpire_follows : EndsFollowing s₀ (execSessionExpire s) := (h.ite (h.sessionEnds ..)).next

theorem State.Follows.mbxServe {c : Nat} {f : State → Result × State} (served : (f s).2.Follows s₀) : (s.mbxServe c f).Follows s₀ :=
  h.ite (served.mbxEnd ..)

theorem execMbxNonce_follows : EndsFollowing s₀ (execMbxNonce s) := by
  refine (h.mbxServe ?_).next
  extract_lets r
  have answered : r.2.Follows s₀ := h.nonceRequest 1
  split
  · exact answered.updIo _
  · exact answered

theorem execMbxReadCert_follows : EndsFollowing s₀ (execMbxReadCert s) := (h.mbxServe (h.checks (h.updIo ..))).next

theorem execMbxTokenWrite_follows : EndsFollowing s₀ (execMbxTokenWrite s) := (h.mbxServe (h.checks (h.putDom ..))).next

theorem execMbxTokenSubmit_follows : EndsFollowing s₀ (execMbxTokenSubmit s) := (h.ite ((h.mbxEnd ..).ite (h.submit ..))).next

theorem execMbxFwBegin_follows : EndsFollowing s₀ (execMbxFwBegin s) :=
  (h.ite ((h.mbxEnd ..).ite ((h.mbxEnd ..).ite ((h.mbxEnd ..).ite ((h.mbxEnd ..).ite (h.fwErase ..)))))).next

theorem execMbxFwWrite_follows : EndsFollowing s₀ (execMbxFwWrite s) := by
  refine (h.mbxServe ?_).next
  split
  · exact h
  · split
    · exact h
    · exact h.fwAppend _

theorem execMbxFwFinish_follows : EndsFollowing s₀ (execMbxFwFinish s) :=
  (h.ite ((h.mbxEnd ..).ite ((h.fwUpdate ..).ite (h.mbxEnd ..)))).next

theorem execMbxReset_follows : EndsFollowing s₀ (execMbxReset s) := ((h.resetPart ..).ite h).next

theorem State.Follows.quoteGo (v : Nat) : (s.quoteGo v).2.Follows s₀ := h.checks ((h.sec _).record ..)

theorem execQuoteGo_follows (l : Link) (v : BitVec 8) : EndsFollowing s₀ (execQuoteGo l v s) := (h.request (h.quoteGo ..)).next

theorem execQuoteDone_follows : EndsFollowing s₀ (execQuoteDone s) := by
  unfold execQuoteDone
  split
  · exact h.next
  · exact (((h.sec _).putDom ..).record ..).next

/-- DEBUG_DISABLE blows the fuse, whatever it was (R541). -/
theorem State.Follows.blowFuse : State.Follows { s with sec := { s.sec with debugFuse := true, attached := 0 } } s₀ := by
  obtain ⟨variant, pending, -, retired⟩ := h
  exact ⟨variant, pending, fun _ => rfl, retired⟩

theorem State.Follows.debugDisable (v : Nat) : (s.debugDisable v).2.Follows s₀ := h.checks (h.blowFuse.record ..)

theorem execDebugDisable_follows (l : Link) (v : BitVec 8) : EndsFollowing s₀ (execDebugDisable l v s) :=
  (h.request (h.debugDisable ..)).next

theorem execDebugAttach_follows (core : Fin 4) : EndsFollowing s₀ (execDebugAttach core s) :=
  h.next.ite (((h.sec _).record ..).latch ..).next

theorem execTapInstruction_follows (i : TapInstr) : EndsFollowing s₀ (execTapInstruction i s) := (h.sec _).next

/-! ### Commands of health and events (chapter 17) -/

theorem State.Follows.showTemps (t : Temps) : (s.showTemps t).Follows s₀ := by
  unfold State.showTemps
  extract_lets _ _ _ _ s2 s3
  have hs2 : s2.Follows s₀ := (h.record ..).foldl _ fun _ _ hu => hu.recordIf ..
  have hs3 : s3.Follows s₀ := (hs2.recordIf ..).ite hs2
  exact (hs3.recordIf ..).ite hs3

theorem State.Follows.judgeTemp (n : Nat × Nat × Int) : (s.judgeTemp n).Follows s₀ := by
  unfold State.judgeTemp
  extract_lets _ _ _ s1
  have hs1 : s1.Follows s₀ := ((h.hlt _).latch ..).ite ((h.hlt _).ite h)
  exact (hs1.criticalFault ..).ite hs1

theorem State.Follows.calByTemp (q : Nat) : (s.calByTemp q).Follows s₀ := by
  unfold State.calByTemp
  extract_lets _ s1
  have hs1 : s1.Follows s₀ := (h.updQuad ..).latch ..
  exact h.ite ((hs1.calNow ..).ite hs1)

theorem State.Follows.toneDue (l : Nat) : (s.toneDue l).Follows s₀ := by
  unfold State.toneDue
  split
  · exact (h.dueRound ..).ite h
  · exact h

theorem State.Follows.derateRearm : s.derateRearm.Follows s₀ := (h.val _).ite h

theorem execTempSample_follows (t : Temps) : EndsFollowing s₀ (execTempSample t s) := by
  unfold execTempSample
  split
  · exact h.next
  · extract_lets s0 s1 s2
    have hs0 : s0.Follows s₀ := h.showTemps ..
    have hs1 : s1.Follows s₀ := ((hs0.hfFault ..).ite hs0).judgeTemp ..
    have hs2 : s2.Follows s₀ := (hs1.foldl _ fun _ _ hu => hu.calByTemp ..).derateRearm
    exact (hs2.foldl _ fun _ _ hu => hu.toneDue ..).next

theorem State.Follows.showVolts (v : Volts) : (s.showVolts v).Follows s₀ := h.record ..

theorem State.Follows.judgeRipple (v : Nat) : (s.judgeRipple v).Follows s₀ := by
  unfold State.judgeRipple
  extract_lets _ _ _ _ _ _ s1
  have hs1 : s1.Follows s₀ := h.hlt _
  exact (hs1.latch ..).ite hs1

theorem execVoltageSample_follows (v : Volts) : EndsFollowing s₀ (execVoltageSample v s) :=
  h.next.ite (((h.showVolts ..).judgeRipple ..).hlt _).next

theorem execRailComparatorTrip_follows (r : Rail) : EndsFollowing s₀ (execRailComparatorTrip r s) := by
  unfold execRailComparatorTrip
  split
  · exact h.next
  · split
    · exact (((h.hlt _).latch ..).ite h).next
    · exact (h.railCritical ..).next
    · exact (h.railCritical ..).next
    · exact (h.railCritical ..).next
    · exact ((h.railCritical ..).ite h).next
    · exact (h.railLost ..).next

theorem execProcessMeasure_follows (p : Procs) : EndsFollowing s₀ (execProcessMeasure p s) :=
  h.next.ite ((h.record ..).foldl _ fun _ _ hu => ((hu.hlt _).latch ..).ite hu).next

theorem execCxPllUnlock_follows : EndsFollowing s₀ (execCxPllUnlock s) :=
  h.next.ite (((h.sys _).foldl _ fun _ _ hu => hu.linkLost ..).criticalFault ..).next

theorem execCxPllRelock_follows : EndsFollowing s₀ (execCxPllRelock s) := (h.sys _).next

theorem State.Follows.faultClear (v : Nat) : (s.faultClear v).2.Follows s₀ := h.checks (h.record ..)

theorem execFaultClear_follows (l : Link) (v : BitVec 8) : EndsFollowing s₀ (execFaultClear l v s) :=
  (h.request (h.faultClear ..)).next

theorem State.Follows.barkEmcy : s.barkEmcy.Follows s₀ := (h.queueEmcy ..).ite h

theorem execWatchdogBark_follows (core : Fin 5) : EndsFollowing s₀ (execWatchdogBark core s) := by
  unfold execWatchdogBark
  split
  · exact h.next
  · extract_lets _ _ s2
    have hs2 : s2.Follows s₀ := ((h.record ..).hlt _).latch ..
    exact (hs2.ite hs2.barkEmcy).next

theorem execWatchdogBite_follows (core : Fin 5) : EndsFollowing s₀ (execWatchdogBite core s) := ((h.resetPart ..).ite h).next

theorem State.Follows.bufferLost (r : Nat) : (s.bufferLost r).Follows s₀ := by
  unfold State.bufferLost
  split
  · exact h.rep _
  · exact h.foldl _ fun _ _ hu => (hu.updStream ..).lostMemory ..
  · exact h.foldl _ fun _ _ hu => (hu.updStream ..).lostMemory ..
  · exact h

theorem execWorkMemError_follows (e : WorkErr) : EndsFollowing s₀ (execWorkMemError e s) := by
  unfold execWorkMemError
  split
  · exact h.next
  · split
    · exact ((h.record ..).latch ..).next
    · exact (h.latch ..).next
    · exact (h.latch ..).next
    · exact ((h.latch ..).bufferLost ..).next
    · exact ((h.latch ..).resetPart ..).next

theorem execEvtAck_follows (l : Link) (mask : BitVec 64) : EndsFollowing s₀ (execEvtAck l mask s) :=
  (h.request (h.ackEvents ..)).next

theorem State.Follows.logOne (e : LogEntry) : (s.logOne e).Follows s₀ := (((h.updFlash ..).ite h).updFlash ..).record ..

theorem execEventLogWrite_follows : EndsFollowing s₀ (execEventLogWrite s) := by
  have emptied : State.Follows { s with ev := { s.ev with log := [] } } s₀ := h.congr rfl rfl rfl rfl
  exact (h.ite (emptied.foldl _ fun _ _ hu => hu.logOne ..)).next

/-! ### Commands of the configuration (chapter 3) -/

theorem State.Follows.overlay (es : DomStore) : (s.overlay es).Follows s₀ := h.foldl _ fun _ _ hu => hu.setBytes ..

theorem State.Follows.startStoring : s.startStoring.Follows s₀ := (h.cfg _).put ..

theorem execConfigPersistDone_follows (ok : Bool) : EndsFollowing s₀ (execConfigPersistDone ok s) := by
  unfold execConfigPersistDone
  split
  · exact h.next
  · exact h.next.ite ((((((h.cfg _).updFlash ..).updFlash ..).cfg _).put ..).next.ite
      (((((h.cfg _).updFlash ..).scramble ..).put ..).flashError ..).next)

theorem State.Follows.stage (l : Link) (k : Nat) (f : Found) (d : Bytes) : (s.stage l k f d).2.Follows s₀ :=
  h.checks (h.stagePut ..).disarm

theorem State.Follows.stageWrite (l : Link) (k : Nat) (d : Bytes) : (s.stageWrite l k d).2.Follows s₀ := by
  unfold State.stageWrite
  split
  · exact h
  · split
    · exact h.stage ..
    · exact h

theorem execStageWrite_follows (l : Link) (index sub : Nat) (d : Bytes) : EndsFollowing s₀ (execStageWrite l index sub d s) :=
  (h.request (h.stageWrite ..)).next

theorem State.Follows.unstage : s.unstage.Follows s₀ := h.restage ..

theorem State.Follows.dropImage : s.dropImage.Follows s₀ := h.cfg _

theorem State.Follows.discardAll (v : Nat) : (s.discardAll v).2.Follows s₀ := h.checks h.unstage.dropImage.disarm

theorem execDiscard_follows (l : Link) : EndsFollowing s₀ (execDiscard l s) := (h.request (h.discardAll ..)).next

theorem State.Follows.imageAppend (d : Bytes) : (s.imageAppend d).2.Follows s₀ := h.checks (h.cfg _).disarm

theorem execConfigImageAppend_follows (l : Link) (d : Bytes) : EndsFollowing s₀ (execConfigImageAppend l d s) :=
  (h.request (h.imageAppend ..)).next

theorem State.Follows.commit (v : Nat) : (s.commit v).2.Follows s₀ := h.checks ((h.cfg _).put ..).disarm

theorem execCommitStaged_follows (l : Link) : EndsFollowing s₀ (execCommitStaged l s) := (h.request (h.commit ..)).next

theorem execCommitImage_follows (l : Link) : EndsFollowing s₀ (execCommitImage l s) := (h.request (h.commit ..)).next

theorem State.Follows.commitOver (r : Result) : (s.commitOver r).Follows s₀ := ((h.cfg _).put ..).put ..

theorem State.Follows.rejected (src : CommitSrc) (r : Reject) : (s.rejected src r).Follows s₀ := by
  unfold State.rejected
  extract_lets n s1 s2 s3 _ s4
  have told : s2.Follows s₀ := ((h.authFailed.ite h).record ..).latch ..
  have ended : s3.Follows s₀ := by
    unfold s3
    split
    · exact told.dropImage.commitOver _
    · exact told.commitOver _
  exact (((ended.sys _).hfStop 7).carriersOff false).forceHold 5

theorem execValidationDone_follows : EndsFollowing s₀ (execValidationDone s) := by
  unfold execValidationDone
  split
  · exact h.next
  · next src _ =>
    split
    · exact h.next
    · extract_lets v s1 s2 _ s3
      clear_value v
      have judged : s1.Follows s₀ := by
        unfold s1
        split
        · exact h
        · exact h.ite (h.checked ..)
        · exact h.checked ..
      split
      · exact (judged.rejected ..).next
      · split
        · have told : s3.Follows s₀ := ((judged.commitOver _).sys _).latch ..
          exact (told.startStoring.ite told).next
        · extract_lets s4
          have changed : s4.Follows s₀ := (judged.cfg _).put ..
          exact ((changed.foldl _ fun _ _ hu => hu.dueRound ..).ite changed).next

theorem State.Follows.unqueue (i : Nat) : (s.unqueue i).Follows s₀ :=
  ((((h.foldl _ fun _ _ hu => hu.ite (hu.toArchive ..)).rep _).updStream ..).record ..).fillChanged ..

theorem State.Follows.restream (d : Delta) (i : Nat) : (s.restream d i).Follows s₀ := by
  unfold State.restream
  extract_lets _ s2
  have hs2 : s2.Follows s₀ := (((h.put ..).ite (h.changeTier ..)).record ..).updStream ..
  exact (hs2.unqueue ..).ite hs2

theorem State.Follows.applyStreams (d : Delta) : (s.applyStreams d).Follows s₀ := h.foldl _ fun _ _ hu => (hu.restream ..).ite hu

theorem State.Follows.closeForApply (d : Delta) : (s.closeForApply d).Follows s₀ :=
  h.foldl _ fun _ _ hu => (((hu.placeT2 ..).ite hu).closeAll ..).updStream ..

theorem State.Follows.emptyRings : s.emptyRings.Follows s₀ := by
  unfold State.emptyRings
  extract_lets _ _ _ s2 s3
  have hs2 : s2.Follows s₀ :=
    ((h.rep _).foldl _ fun _ _ hu => hu.goneBy ..).foldl _ fun _ _ hu => hu.foldl _ fun _ _ hu =>
      ((hu.record ..).latch ..).ite hu
  have hs3 : s3.Follows s₀ := by
    unfold s3
    refine hs2.foldl _ fun u a hu => ?_
    extract_lets _ v
    have hv : v.Follows s₀ := hu.updStream ..
    exact hv.ite (((hv.addWide ..).seq ..).recordsLost ..)
  exact hs3.record ..

theorem State.Follows.applyAir (d : Delta) : (s.applyAir d).Follows s₀ := by
  unfold State.applyAir
  extract_lets s1
  have hs1 : s1.Follows s₀ := h.foldl _ fun _ _ hu => hu.settle ..
  exact hs1.ite (hs1.foldl _ fun _ _ hu => hu.coldZone ..)

theorem State.Follows.applySlots (d : Delta) : (s.applySlots d).Follows s₀ :=
  (h.foldl _ fun _ _ hu => (hu.armOp ..).ite hu).autoArm

theorem State.Follows.applyRange : s.applyRange.Follows s₀ := by
  unfold State.applyRange
  split
  · exact h.recordIf ..
  · exact h.recordIf ..

theorem State.Follows.applyInterlock (old : Region) (boot : Bool) : (s.applyInterlock old boot).Follows s₀ :=
  h.ite (h.ilkLoad.ite (h.ite (h.ilk _)))

theorem State.Follows.sweepNew (old : List Nat) (region : Bool) : (s.sweepNew old region).Follows s₀ :=
  h.ite ((h.cutSweep.startSweep ..).sweep _)

theorem State.Follows.applyChannels (old : State) (d : Delta) : (s.applyChannels old d).Follows s₀ := by
  unfold State.applyChannels
  extract_lets _ _ s1 s2 s3
  have hs1 : s1.Follows s₀ := h.applyInterlock ..
  have hs2 : s2.Follows s₀ := (hs1.record ..).ite hs1
  have hs3 : s3.Follows s₀ := (hs2.rebuildSeeds.ite hs2).applyRange
  exact hs3.ite (hs3.sweepNew ..)

theorem State.Follows.applyTracking (d : Delta) : (s.applyTracking d).Follows s₀ := by
  unfold State.applyTracking
  extract_lets s1
  have hs1 : s1.Follows s₀ := h.ite h.locateNone
  exact hs1.startTracking.ite hs1

theorem State.Follows.applyBoard (d : Delta) : (s.applyBoard d).Follows s₀ := by
  unfold State.applyBoard
  extract_lets _ _ _ _ s3 s4
  have hs3 : s3.Follows s₀ := ((h.updTwb _).updIo ..).claimTimers ..
  have hs4 : s4.Follows s₀ := hs3.startDiscipline.ite hs3
  exact (hs4.put ..).ite hs4

theorem State.Follows.applyChains (d : Delta) : (s.applyChains d).Follows s₀ :=
  (h.foldl _ fun _ _ hu => hu.rampDown ..).showPhases ..

theorem State.Follows.applyPins : s.applyPins.Follows s₀ := h.foldl _ fun _ _ hu => (hu.rampQuad ..).quadOut ..

theorem State.Follows.endDwells : s.endDwells.Follows s₀ := h.foldl _ fun _ _ hu => hu.closeDwell ..

theorem State.Follows.applyPlan (old : State) : (s.applyPlan old).Follows s₀ :=
  h.ite (h.endDwells.replan.foldl _ fun _ _ hu => hu.ite ((hu.rampQuad ..).updQuad ..)).showBeams

theorem State.Follows.seqGroups (ks : List Nat) : (s.seqGroups ks).Follows s₀ := h.foldl _ fun _ _ hu => hu.seq ..

theorem State.Follows.applyConfig (es : DomStore) (boot : Bool) : (s.applyConfig es boot).Follows s₀ := by
  unfold State.applyConfig
  extract_lets _ _ _ s1 s2 _ s4 _ s6 s7 s8
  have hs1 : s1.Follows s₀ := (h.endSurvey ..).closeForApply ..
  have hs2 : s2.Follows s₀ := (hs1.stopTracking ..).ite hs1
  have hs4 : s4.Follows s₀ := (((hs2.hfStop ..).ite hs2).overlay ..).seqGroups ..
  have hs6 : s6.Follows s₀ := ((((hs4.emptyRings.ite hs4).applyStreams ..).applyAir ..).applySlots ..).applyTracking ..
  have hs7 : s7.Follows s₀ := (((hs6.applyBoard ..).applyPins.applyChains ..).applyChannels ..).applyPlan ..
  have hs8 : s8.Follows s₀ := (hs7.put ..).attnFell ..
  exact (hs8.bump ..).ite hs8

theorem State.Follows.emptySource (src : CommitSrc) : (s.emptySource src).Follows s₀ := by
  unfold State.emptySource
  extract_lets
  split
  · exact h.unstage.cfg _
  · exact ((h.dropImage.cfg _).record ..).ite (h.dropImage.cfg _)

theorem execApplyInstant_follows : EndsFollowing s₀ (execApplyInstant s) := by
  unfold execApplyInstant
  split
  · exact h.next.ite ((((((h.emptySource ..).applyConfig ..).put ..).commitOver ..).sys _).latch ..).startStoring.next
  · exact h.next

theorem State.Follows.loadConfig : s.loadConfig.Follows s₀ := by
  unfold State.loadConfig
  extract_lets t order
  have read : t.Follows s₀ := h.flashOther 0
  split
  · next b img c _ =>
    have applied := (read.applyConfig (t.changesTo c) true).put Reg.CONFIG_GENERATION (t.slotGen b)
    exact applied.congr rfl rfl rfl rfl
  · exact ((read.applyConfig ..).put ..).sys _

end

end Sys2Proof.Machine
end

section
/-! SUPPORT. What reads, BOOT and writes by address keep of `State.Follows`. -/

namespace Sys2Proof.Machine

section
variable {s₀ s : State} (h : s.Follows s₀)
include h

/-! ### Reads (R132, R133) -/

theorem State.Follows.view (l : Link) (k : Nat) : (s.view l k).2.Follows s₀ := by
  unfold State.view
  split
  · exact h
  · split
    · exact h.draw
    · exact h.readPart ..

theorem State.Follows.readFound (l : Link) (k : Nat) (f : Found) : (s.readFound l k f).2.2.Follows s₀ := by
  unfold State.readFound
  split
  · exact h
  · split
    · exact h.hotRead
    · split
      · exact h.reportNext ..
      · split
        · exact h
        · exact (h.view ..)

theorem State.Follows.readObj (l : Link) (k : Nat) : (s.readObj l k).2.2.Follows s₀ := by
  unfold State.readObj
  split
  · exact h
  · exact h.readFound ..

theorem State.Follows.readFrom (s0 : State) (l : Link) (k : Nat) (f : Found) : (s.readFrom s0 l k f).2.2.Follows s₀ := by
  unfold State.readFrom
  extract_lets y
  have hy : y.2.2.Follows s₀ := h.readFound ..
  split
  · exact hy
  · exact hy

theorem State.Follows.readEntry (s0 : State) (l : Link) (k offset maxLen : Nat) : (s.readEntry s0 l k offset
    maxLen).2.2.Follows s₀ := by
  unfold State.readEntry
  split
  · exact h
  · split
    · extract_lets r
      have hr : r.2.2.Follows s₀ := h.readFrom ..
      split
      · exact hr
      · exact hr
    · split
      · exact h
      · exact h.readFrom ..

theorem State.Follows.packFrom (s0 : State) (l : Link) (count : Nat) (r : Result) (d : Bytes) (ks : List Nat) :
    (s.packFrom s0 l count r d ks).2.2.Follows s₀ := by
  induction ks generalizing s r d with
  | nil => exact h
  | cons k ks ih =>
    unfold State.packFrom
    split
    · exact h
    · split
      · exact ih h ..
      · exact ih (h.readFrom ..) ..

theorem State.Follows.readCount (l : Link) (k count : Nat) : (s.readCount l k count).2.2.Follows s₀ := by
  unfold State.readCount
  split
  · exact h
  · exact h.packFrom ..

theorem State.Follows.readWhole (l : Link) (index : Nat) : (s.readWhole l index).2.2.Follows s₀ := by
  unfold State.readWhole
  extract_lets
  split
  · exact h
  · exact (h.packFrom ..)

theorem execWideValueLoRead_follows (l : Link) (index sub : Nat) : EndsFollowing s₀ (execWideValueLoRead l index sub s) :=
  (h.read (h.readObj ..)).next

/-! ### Resets and BOOT (R69 to R72) -/

theorem execPorRelease_follows (vioA vioB : BitVec 16) (unpowered : Bool) : EndsFollowing s₀
    (execPorRelease vioA vioB unpowered s) :=
  h.next.ite ((((h.sys _).ilk _).puts ..).ite (h.sys _)).next

theorem execResetNAssert_follows : EndsFollowing s₀ (execResetNAssert s) := (h.resetPart ..).next

theorem execBrownOut_follows : EndsFollowing s₀ (execBrownOut s) := (h.resetPart ..).next

theorem execVioBrownOut_follows (x : Bool) : EndsFollowing s₀ (execVioBrownOut x s) := (h.resetPart ..).next

theorem State.Follows.canSend (fs : List CanFrame) : (s.canSend fs).Follows s₀ := h.io _

theorem State.Follows.startCan : s.startCan.Follows s₀ := ((h.record ..).io _).canSend ..

theorem State.Follows.sampled (testen : Bool) (as canId gates : Nat) : (s.sampled testen as canId gates).Follows s₀ := by
  unfold State.sampled
  extract_lets _ _ _ _ s1
  have hs1 : s1.Follows s₀ := h.congr rfl rfl rfl rfl
  exact (hs1.puts ..).foldl _ fun _ _ hu => hu.put ..

theorem State.Follows.discover (n : Nat) (f : FlashInfo) : (s.discover n f).Follows s₀ := h.ite ((h.puts ..).ite (h.put ..))

theorem State.Follows.discoverAll (n : Nat) (l : List FlashInfo) : (s.discoverAll n l).Follows s₀ := by
  induction l generalizing s n with
  | nil => exact h.foldl _ fun _ _ hu => (hu.put ..).ite hu
  | cons f r ih => exact ih (h.discover ..) _

theorem State.Follows.countBoot : s.countBoot.Follows s₀ := (h.writeHdr ..).put ..

theorem State.Follows.runSlot (b : Bool) : (s.runSlot b).Follows s₀ := (h.puts ..).record ..

theorem State.Follows.chooseSlot (a b : Option (Nat × Nat)) : (s.chooseSlot a b).Follows s₀ := by
  unfold State.chooseSlot
  extract_lets first s1 _ _ s2
  have counted : s1.Follows s₀ := h.countBoot
  have chosen : s2.Follows s₀ := counted.congr rfl rfl rfl rfl
  exact (chosen.runSlot _).ite ((chosen.runSlot _).ite (chosen.sys _))

theorem State.Follows.bootLinksTrain : s.bootLinksTrain.Follows s₀ := (h.linksTrain.updHub ..).ite h.linksTrain

theorem State.Follows.bootFirmware : s.bootFirmware.Follows s₀ := ((h.criticalFault ..).ite h).loadConfig.bootLinksTrain

theorem execResetRelease_follows (testen : Bool) (as canId : Fin 8) (gates : BitVec 8) (fwA fwB : FwVerdict) (flashes : List
    FlashInfo) : EndsFollowing s₀ (execResetRelease testen as canId gates fwA fwB flashes s) := by
  unfold execResetRelease
  extract_lets _ _ s2 _ s3
  have hs2 : s2.Follows s₀ := (((h.resets.sampled ..).flashOther ..).discoverAll ..).put ..
  have hs3 : s3.Follows s₀ := (hs2.secureRead.ite hs2).chooseSlot ..
  exact h.resets.next.ite (hs3.ite hs3.pxHandover.bootFirmware).next

theorem execBootRefclkAccepted_follows : EndsFollowing s₀ (execBootRefclkAccepted s) := by
  unfold execBootRefclkAccepted
  split
  · exact h.next
  · refine State.Follows.next ?_
    exact h.congr rfl rfl rfl rfl

theorem execBootLinkStart_follows (which : BootLink) : EndsFollowing s₀ (execBootLinkStart which s) := by
  unfold execBootLinkStart
  split
  · exact h.next
  · split
    · exact (h.sys _).next
    · exact (h.sys _).next
    · exact (h.ite (h.sys _).startCan).next

theorem State.Follows.flashEvents : s.flashEvents.Follows s₀ := h.foldl _ fun _ _ hu => hu.latch ..

theorem State.Follows.deliverBoot : s.deliverBoot.Follows s₀ := by
  unfold State.deliverBoot
  extract_lets _ _ _ s2
  have hs2 : s2.Follows s₀ := (h.foldl _ fun _ _ hu => hu.queueEmcy ..).congr rfl rfl rfl rfl
  exact (hs2.bump ..).ite hs2

theorem State.Follows.endBoot (reason durUs : Nat) : (s.endBoot reason durUs).Follows s₀ :=
  ((((((h.flashEvents.ite
    (h.flashEvents.hfStop ..).cutSweep.quadsOff).mode _).puts ..).deliverBoot.latch ..).latch ..).latch ..).showHf

theorem execBootEnd_follows (durUs : BitVec 32) : EndsFollowing s₀ (execBootEnd durUs s) :=
  h.next.ite ((h.endBoot ..).next.ite h.calsEnded.next)

/-! ### Writes (R14, R92, R94) -/

theorem State.Follows.twbGoAny (v : Nat) : (s.twbGoAny v).2.Follows s₀ := h.draw.twbGo ..

theorem State.Follows.twbRecoverAny (v : Nat) : (s.twbRecoverAny v).2.Follows s₀ := h.draw.twbRecover ..

theorem State.Follows.evtAck (v : Nat) : (s.evtAck v).2.Follows s₀ := h.checks (h.ackEvents ..)

theorem State.Follows.writeOp {op : Op} (keeps : ∀ l v, (op s l v).2.Follows s₀) (l : Link) (k : Nat) (f : Found) (d : Bytes) :
    (s.writeOp l k f op d).2.Follows s₀ := by
  unfold State.writeOp
  split
  · exact keeps ..
  · exact h

/-- What each command that stands once does follows. -/
theorem State.Follows.fixedOps (l : Link) (v : Nat) : ∀ p ∈ fixedOps, (p.2 s l v).2.Follows s₀ := by
  simp only [Machine.fixedOps, List.forall_mem_cons]
  exact ⟨h.modeRequest .., h.resetRequest .., h.testCarrier .., h.testField .., h.capture .., h.commit .., h.discardAll ..,
    h.regLockArm .., h.regLockFire .., h.viewIndex .., h.surveyCmd .., h.resultRelease .., h.hfFaultClear ..,
    h.slideRetune .., h.hfOp .., h.linkGrant .., h.linkGrant .., h.linkGrant .., h.spcOp .., h.twbGoAny ..,
    h.twbRecoverAny .., h.gpioDrive .., h.gpioDrive .., h.groupLoad .., h.scanGo .., h.fwUpdate .., h.fwConfirm ..,
    h.nonceRequest .., h.tokenSubmit .., h.sessionClose .., h.quoteGo .., h.debugDisable .., h.faultClear .., h.evtAck ..,
    nofun⟩

/-- What each command of a quad, chain, stream, access slot or timer channel does follows. -/
theorem State.Follows.indexedOps (l : Link) (v : Nat) : ∀ p ∈ indexedOps, (p.2 s l v).2.Follows s₀ := by
  simp only [Machine.indexedOps, List.forall_mem_append, List.forall_mem_map, and_assoc]
  exact ⟨fun _ _ => h.calRequest .., fun _ _ => h.chainFaultClear .., fun _ _ => h.reedReseed .., fun _ _ => h.opArm ..,
    fun _ _ => h.creditGrant .., fun _ _ => h.wmAck .., fun _ _ => h.reportRelease .., fun _ _ => h.markSet ..,
    fun _ _ => h.markClear .., fun _ _ => h.rewind .., fun _ _ => h.tmrFlagClear .., fun _ _ => h.tmrRestart ..⟩

theorem State.Follows.opOf {k : Nat} {op : Op} (found : opOf k = some op) (l : Link) (v : Nat) : (op s l v).2.Follows s₀ := by
  obtain mem | mem := List.mem_append.1 (Tab.mem_of_find found)
  · exact h.fixedOps l v _ mem
  · exact h.indexedOps l v _ mem

theorem State.Follows.store (k : Nat) (f : Found) (d : Bytes) : (s.store k f d).Follows s₀ := by
  unfold State.store
  extract_lets s1
  have hs1 : s1.Follows s₀ := (h.putDom ..).ite (h.put ..)
  exact (hs1.seq ..).ite ((hs1.seq ..).ite hs1)

theorem State.Follows.writeValue (k : Nat) (f : Found) (d : Bytes) : (s.writeValue k f d).2.Follows s₀ := h.checks (h.store ..)

theorem State.Follows.writeFound (l : Link) (k : Nat) (f : Found) (d : Bytes) : (s.writeFound l k f d).2.Follows s₀ := by
  unfold State.writeFound
  split
  · exact h.imageAppend d
  · split
    · exact h.fwAppend d
    · split
      · next found => exact h.writeOp (h.opOf found) ..
      · exact h.writeValue ..

theorem State.Follows.write (l : Link) (k : Nat) (d : Bytes) : (s.write l k d).2.Follows s₀ := by
  unfold State.write
  split
  · exact h
  · split
    · exact h
    · exact h
    · exact h.stage ..
    · exact h.stage ..
    · exact h.writeFound ..
    · exact h.writeFound ..

theorem execObjectWrite_follows (l : Link) (index sub : Nat) (d : Bytes) : EndsFollowing s₀ (execObjectWrite l index sub d s) :=
  (h.request (h.write ..)).next

theorem State.Follows.writeList {l : Link} {n : Nat} {r : Result} {ws : List (Nat × Bytes)} {x : Result × State}
    (ok : s.writeList l n r ws = .ok x) : x.2.Follows s₀ := by
  induction ws generalizing s n r with
  | nil =>
    obtain rfl : (r, s) = x := by simpa [State.writeList] using ok
    exact h
  | cons w ws ih =>
    unfold State.writeList at ok
    extract_lets y at ok
    have written : y.2.Follows s₀ := h.write ..
    split at ok
    · exact ih written ok
    · cases ok

end

end Sys2Proof.Machine
end

section
/-! SUPPORT. What the commands of the host links and a tick keep of `State.Follows`. -/

namespace Sys2Proof.Machine

section
variable {s₀ s : State} (h : s.Follows s₀)
include h

/-! ### Commands of SPT (R430 to R438) -/

theorem State.Follows.shiftOut (n : Nat) : (s.shiftOut n).Follows s₀ := h.io _

theorem execSptFetch_follows : EndsFollowing s₀ (execSptFetch s) :=
  (h.ite (((h.shiftOut ..).resetsFor ..).ite (h.shiftOut ..))).next

theorem State.Follows.sptReject (kind : Nat) (b : Bytes) : (s.sptReject kind b).Follows s₀ := by
  unfold State.sptReject
  extract_lets _ _ _ s2
  have hs2 : s2.Follows s₀ := (h.sptAnswer ..).record ..
  exact (hs2.latch ..).ite (hs2.latch ..)

theorem State.Follows.sptEnd (q : SptReq) (r : Result) (body : Bytes) : (s.sptEnd q r body).Follows s₀ :=
  h.ite ((h.answer ..).sptAnswer ..)

theorem State.Follows.sptAccept (b : Bytes) : (s.sptAccept b).Follows s₀ :=
  ((((h.puts ..).record ..).wakeSource ..).sptEnd ..).ite ((((h.puts ..).record ..).wakeSource ..).io _)

theorem State.Follows.sptFrame (b : Bytes) : (s.sptFrame b).Follows s₀ := by
  unfold State.sptFrame
  extract_lets _ s1
  have hs1 : s1.Follows s₀ := h.ite (h.checked ..)
  exact (hs1.sptAccept ..).ite (hs1.sptReject ..)

theorem State.Follows.sptDiscard : s.sptDiscard.Follows s₀ := (h.sys _).record ..

theorem execSptSelectRelease_follows (mosi : Bytes) : EndsFollowing s₀ (execSptSelectRelease mosi s) := by
  unfold execSptSelectRelease
  split
  · exact h.next
  · extract_lets s1
    have hs1 : s1.Follows s₀ := h.shiftOut ..
    exact (hs1.resets.ite (hs1.ite (hs1.sptDiscard.ite (hs1.sptFrame ..)))).next

theorem State.Follows.readList (s0 : State) (r : Result) (body : Bytes) (es : List (Nat × Nat × Nat)) :
    (s.readList s0 r body es).2.2.Follows s₀ := by
  induction es generalizing s r body with
  | nil => exact h
  | cons e es ih =>
    unfold State.readList
    extract_lets x
    have read : x.2.2.Follows s₀ := by
      unfold x
      split
      · exact h
      · exact h.readEntry ..
    exact ih read ..

theorem execSptRead_follows : EndsFollowing s₀ (execSptRead s) := by
  unfold execSptRead
  split
  · exact h.next
  · split
    · exact (h.sptEnd ..).next
    · exact ((h.sptEnd ..).ite ((h.readList ..).sptEnd ..)).next

theorem execSptWrite_follows : EndsFollowing s₀ (execSptWrite s) := by
  unfold execSptWrite
  split
  · exact h.next
  · split
    · exact (h.sptEnd ..).next
    · exact (h.sptEnd ..).next
    · extract_lets bad
      clear_value bad
      split
      · exact (h.sptEnd ..).next
      · split
        · exact (h.sptEnd ..).next
        · next ok =>
          have written := h.writeList ok
          split
          · exact (written.io _).next
          · exact (written.sptEnd ..).next

theorem execSptBlockRead_follows : EndsFollowing s₀ (execSptBlockRead s) := by
  unfold execSptBlockRead
  split
  · exact h.next
  · extract_lets _ _ x
    have hx : x.2.2.Follows s₀ := by
      unfold x
      split
      · exact h
      · split
        · exact h
        · exact h.readCount ..
    exact (hx.sptEnd ..).next

/-! ### Commands of TWA (R439 to R449) -/

theorem State.Follows.twaCount (k : Nat) : (s.twaCount k).Follows s₀ := h.record ..

theorem State.Follows.twaNack : s.twaNack.Follows s₀ := (h.sys _).twaCount ..

theorem State.Follows.twaAccept : s.twaAccept.Follows s₀ := ((h.twaCount ..).checked ..).wakeSource ..

theorem State.Follows.twaEnd (r : Result) (more : Bytes) : (s.twaEnd r more).Follows s₀ :=
  (h.io _).ite (h.ite ((h.answer ..).twaAnswer ..))

theorem State.Follows.twaRequest {inBoot inWatch : Bool} {f : State → Result × Bytes × State}
    (served : ∀ u, u.Follows s₀ → (f u).2.2.Follows s₀) : (s.twaRequest inBoot inWatch f).Follows s₀ :=
  h.ite (h.twaNack.ite (h.ite ((h.twaAccept.twaEnd ..).ite ((served _ h.twaAccept).twaEnd ..))))

theorem execTwaStatus_follows : EndsFollowing s₀ (execTwaStatus s) := (h.twaRequest fun _ hu => hu).next

theorem execTwaModeSet_follows (mode : BitVec 8) : EndsFollowing s₀ (execTwaModeSet mode s) :=
  (h.twaRequest fun _ hu => hu.modeRequest ..).next

theorem execTwaEvents_follows : EndsFollowing s₀ (execTwaEvents s) := (h.twaRequest fun _ hu => hu).next

theorem execTwaEventAck_follows (mask : BitVec 64) : EndsFollowing s₀ (execTwaEventAck mask s) :=
  (h.twaRequest fun _ hu => hu.evtAck ..).next

theorem execTwaCredit_follows (n : BitVec 32) : EndsFollowing s₀ (execTwaCredit n s) :=
  (h.twaRequest fun _ hu => hu.linkGrant ..).next

theorem execTwaObjRead_follows (index : BitVec 16) (sub n : BitVec 8) : EndsFollowing s₀ (execTwaObjRead index sub n s) := by
  refine (h.twaRequest fun u hu => ?_).next
  show State.Follows (if n = 0 then (.range, [], u) else u.readCount .twa (address index sub) n.toNat : _ × _ × State).2.2 s₀
  split
  · exact hu
  · exact hu.readCount ..

theorem execTwaObjWrite_follows (index : BitVec 16) (sub : BitVec 8) (data : Bytes) :
    EndsFollowing s₀ (execTwaObjWrite index sub data s) := by
  refine (h.twaRequest fun u hu => ?_).next
  dsimp only [plain]
  split
  · exact hu
  · exact hu.write ..

theorem execTwaDomRead_follows (index : BitVec 16) (sub : BitVec 8) (offset : BitVec 16) (n : BitVec 8) :
    EndsFollowing s₀ (execTwaDomRead index sub offset n s) := by
  refine (h.twaRequest fun u hu => ?_).next
  dsimp only [counted]
  split
  · exact hu
  · exact hu.readEntry ..

theorem State.Follows.setDom (d : Option (Nat × Bytes)) : (s.setDom d).Follows s₀ := h.io _

theorem State.Follows.domSegment (k seg : Nat) (data : Bytes) : (s.domSegment k seg data).2.Follows s₀ := by
  unfold State.domSegment
  extract_lets held
  clear_value held
  split
  · exact h
  · next b _ =>
    extract_lets d
    split
    · exact h.setDom _
    · split
      · exact (h.setDom _).write ..
      · exact h.setDom _

theorem execTwaDomWrite_follows (index : BitVec 16) (sub seg : BitVec 8) (data : Bytes) :
    EndsFollowing s₀ (execTwaDomWrite index sub seg data s) := by
  refine (h.twaRequest fun u hu => ?_).next
  dsimp only [plain]
  split
  · exact hu
  · exact hu.domSegment ..

theorem State.Follows.dropLatch : s.dropLatch.Follows s₀ := h.shadows _

theorem State.Follows.latchWindow : s.latchWindow.Follows s₀ := h.dropLatch.shadows _

theorem State.Follows.windowRead (p : Nat) : (s.windowRead p).2.Follows s₀ := by
  unfold State.windowRead
  split
  · exact h.latchWindow
  · split
    · split
      · exact h.dropLatch.ite h
      · exact h
    · exact h

theorem State.Follows.windowWrite (p : Nat) (b : Byte) : (s.windowWrite p b).Follows s₀ :=
  (h.updIo ..).ite ((h.updIo ..).ite ((h.updIo ..).ite ((h.updIo ..).ite h)))

theorem State.Follows.windowWrites (d : Bytes) : (s.windowWrites d).Follows s₀ := by
  induction d generalizing s with
  | nil => exact h
  | cons b r ih => exact ih ((h.windowWrite ..).updIo _)

theorem State.Follows.windowReads (n : Nat) : (s.windowReads n).2.Follows s₀ := by
  induction n generalizing s with
  | zero => exact h
  | succ n ih => exact ih ((h.windowRead _).updIo _)

theorem State.Follows.mbxStart : s.mbxStart.Follows s₀ := (h.updIo ..).ite (h.mbxEnd ..)

theorem execTwaWindow_follows (ptr : BitVec 8) (data : Bytes) : EndsFollowing s₀ (execTwaWindow ptr data s) := by
  unfold execTwaWindow
  split
  · exact h.next
  · split
    · exact h.twaNack.next
    · split
      · exact (h.wakeSource ..).next
      · extract_lets _ s2
        have hs2 : s2.Follows s₀ := ((h.twaAccept.answer ..).updIo ..).windowWrites ..
        exact (hs2.mbxStart.ite hs2).next

theorem execTwaReplyRead_follows (n : Nat) : EndsFollowing s₀ (execTwaReplyRead n s) :=
  h.next.ite (h.twaNack.next.ite ((((h.windowReads ..).updIo ..).wakeSource ..).next.ite
    (((h.updIo ..).wakeSource ..).resetsFor ..).next))

theorem execTwaWriteReject_follows (excess : Bool) : EndsFollowing s₀ (execTwaWriteReject excess s) := by
  unfold execTwaWriteReject
  split
  · exact h.next
  · split
    · exact h.twaNack.next
    · extract_lets s1
      have hs1 : s1.Follows s₀ := h.wakeSource ..
      exact (hs1.twaAnswer ..).next.ite ((((hs1.twaAnswer ..).twaCount ..).checked ..).latch ..).next

theorem execTwaAddressNack_follows : EndsFollowing s₀ (execTwaAddressNack s) := (h.ite h.twaNack).next

theorem execTwaAra_follows (won : Bool) : EndsFollowing s₀ (execTwaAra won s) :=
  h.next.ite ((((h.sys _).updIo ..).twaCount ..).next.ite (h.twaCount ..).next)

theorem execTwaAlertReassert_follows : EndsFollowing s₀ (execTwaAlertReassert s) := (h.sys _).next

theorem execTwaBusTimeout_follows : EndsFollowing s₀ (execTwaBusTimeout s) := ((h.twaCount ..).ite h).next

/-! ### Commands of CAN (R450 to R465) -/

theorem State.Follows.stopPush : s.stopPush.Follows s₀ := h.foldl _ fun _ _ hu => (hu.updStream ..).ite hu

theorem State.Follows.enterNmt (v : Nat) : (s.enterNmt v).Follows s₀ := by
  unfold State.enterNmt
  extract_lets s1
  have hs1 : s1.Follows s₀ := (h.record ..).updIo ..
  exact hs1.ite hs1.stopPush

theorem State.Follows.nmtCommand {f : State → State} (obeyed : ∀ u, u.Follows s₀ → (f u).Follows s₀) : (s.nmtCommand f).Follows s₀ :=
  (obeyed _ (h.wakeSource 3)).ite h

theorem execNmtStart_follows : EndsFollowing s₀ (execNmtStart s) := (h.nmtCommand fun _ hu => hu.enterNmt ..).next

theorem execNmtStop_follows : EndsFollowing s₀ (execNmtStop s) := (h.nmtCommand fun _ hu => hu.enterNmt ..).next

theorem execNmtEnterPreop_follows : EndsFollowing s₀ (execNmtEnterPreop s) := (h.nmtCommand fun _ hu => hu.enterNmt ..).next

theorem execNmtResetNode_follows : EndsFollowing s₀ (execNmtResetNode s) := (h.nmtCommand fun _ hu => hu.resetPart ..).next

theorem execNmtResetComm_follows : EndsFollowing s₀ (execNmtResetComm s) := (h.nmtCommand fun _ hu => hu.stopPush.startCan).next

theorem execHeartbeatTimer_follows : EndsFollowing s₀ (execHeartbeatTimer s) := ((h.canSend ..).ite h).next

theorem State.Follows.setUsdo (x : Option Xfer) : (s.setUsdo x).Follows s₀ := h.updIo ..

theorem State.Follows.usdoWrite (k : Nat) (d : Bytes) : (s.usdoWrite k d).Follows s₀ := by
  unfold State.usdoWrite
  extract_lets x t
  have hx : x.2.Follows s₀ := by
    unfold x
    split
    · exact h
    · exact h.write ..
  have ht : t.Follows s₀ := hx.setUsdo ..
  exact ht.ite ((ht.setUsdo ..).ite ((((ht.answer ..).usdoAnswer ..).resetsFor ..).ite ((ht.answer ..).usdoAnswer ..)))

theorem State.Follows.usdoData (k : Nat) (d : Bytes) : (s.usdoData k d).Follows s₀ := (h.setUsdo ..).usdoAnswer ..

theorem State.Follows.usdoRead (index sub : Nat) : (s.usdoRead index sub).Follows s₀ := by
  unfold State.usdoRead
  extract_lets _ x t
  have hx : x.2.2.Follows s₀ := by
    unfold x
    split
    · exact h
    · split
      · exact h.readWhole ..
      · exact h.readObj ..
  have ht : t.Follows s₀ := hx.answer ..
  exact (ht.usdoData ..).ite (ht.usdoAnswer ..)

theorem State.Follows.usdoRefuse (code : Nat) : (s.usdoRefuse code).Follows s₀ := h.usdoAnswer ..

theorem State.Follows.usdoInit {f : State → State} (served : (f s).Follows s₀) : (s.usdoInit f).Follows s₀ :=
  ((h.answer ..).usdoRefuse _).ite served

theorem State.Follows.usdoSegment (x : Xfer) (d : Bytes) (last : Bool) : (s.usdoSegment x d last).Follows s₀ :=
  ((h.setUsdo ..).usdoAnswer ..).ite ((((h.setUsdo ..).answer ..).usdoRefuse ..).ite (h.usdoWrite ..))

theorem State.Follows.usdoNotReady (req : UsdoReq) : (s.usdoNotReady req).Follows s₀ := by
  unfold State.usdoNotReady
  extract_lets t
  have ht : t.Follows s₀ := by
    unfold t
    split
    · exact h.setUsdo ..
    · exact h.setUsdo ..
    · exact h
  exact (ht.answer ..).usdoRefuse ..

theorem State.Follows.usdoServe (a : UsdoReq) : (s.usdoServe a).Follows s₀ := by
  unfold State.usdoServe
  split
  · exact h.usdoInit (h.usdoRead ..)
  · exact h.usdoInit (h.usdoWrite ..)
  · exact h.usdoInit ((h.setUsdo ..).usdoAnswer ..)
  · split
    · exact (h.usdoRefuse ..).ite (h.usdoData ..)
    · exact h.usdoRefuse ..
  · split
    · exact (h.usdoSegment ..).ite (h.usdoRefuse ..)
    · exact h.usdoRefuse ..
  · exact h.ite (h.setUsdo ..)
  · exact h.usdoRefuse ..

theorem execUsdoRequest_follows (req : UsdoReq) : EndsFollowing s₀ (execUsdoRequest req s) := by
  unfold execUsdoRequest
  split
  · exact h.next
  · extract_lets w t
    have hw : w.Follows s₀ := h.wakeSource ..
    have ht : t.Follows s₀ := hw.updIo ..
    exact (hw.ite ((ht.ite (ht.usdoNotReady ..)).ite ((ht.usdoNotReady ..).ite (ht.usdoServe ..)))).next

theorem execUsdoTimeout_follows : EndsFollowing s₀ (execUsdoTimeout s) := h.next.ite ((h.setUsdo ..).usdoRefuse ..).next

theorem State.Follows.mapped (s0 : State) (l : List (Nat × Nat)) : (s.mapped s0 l).2.Follows s₀ := by
  induction l generalizing s with
  | nil => exact h
  | cons e r ih =>
    unfold State.mapped
    extract_lets x y
    have read : x.2.2.Follows s₀ := by
      unfold x
      split
      · exact h
      · exact h.readFrom ..
    exact ih read

theorem State.Follows.assemble (n : Nat) : (s.assemble n).2.Follows s₀ := (h.mapped ..)

theorem State.Follows.updTpdo (n : Nat) (f : Tpdo → Tpdo) : (s.updTpdo n f).Follows s₀ := h.updIo ..

theorem State.Follows.sendTpdo (n : Nat) (b : Bytes) : (s.sendTpdo n b).Follows s₀ := (h.updTpdo ..).canSend ..

theorem State.Follows.tpdoNow (n : Nat) : (s.tpdoNow n).Follows s₀ := (h.assemble ..).sendTpdo ..

theorem execTpdoSend_follows (n : Fin 8) : EndsFollowing s₀ (execTpdoSend n s) := by
  unfold execTpdoSend
  split
  · exact h.next
  · split
    · exact (h.sendTpdo ..).next
    · exact ((h.tpdoNow ..).ite h).next

theorem execTpdoEventTimer_follows (n : Fin 8) : EndsFollowing s₀ (execTpdoEventTimer n s) :=
  (h.ite ((h.tpdoNow ..).ite ((h.assemble ..).updTpdo ..))).next

theorem State.Follows.syncTpdo (n : Nat) : (s.syncTpdo n).Follows s₀ := h.ite ((h.updTpdo ..).ite ((h.assemble ..).updTpdo ..))

theorem execSyncReceived_follows : EndsFollowing s₀ (execSyncReceived s) := ((h.foldl _ fun _ _ hu => hu.syncTpdo ..).ite h).next

theorem execTimeReceived_follows (ms : BitVec 28) (days : BitVec 16) : EndsFollowing s₀ (execTimeReceived ms days s) :=
  ((h.timeFrame ..).ite h).next

theorem State.Follows.rpdoWrites (d : Bytes) (l : List (Nat × Nat)) : (s.rpdoWrites d l).Follows s₀ := by
  induction l generalizing s d with
  | nil => exact h
  | cons e r ih =>
    unfold State.rpdoWrites
    extract_lets x t
    have written : x.2.Follows s₀ := by
      unfold x
      split
      · exact h
      · exact h.write ..
    exact written.ite (ih (written.ite (written.record ..)) _)

theorem execRpdoReceived_follows (n : Fin 4) (data : Bytes) : EndsFollowing s₀ (execRpdoReceived n data s) := by
  unfold execRpdoReceived
  split
  · exact h.next
  · extract_lets t
    have ht : t.Follows s₀ := h.wakeSource ..
    exact (ht.ite ((ht.rpdoWrites ..).resetsFor ..)).next

theorem State.Follows.sendFragment (i : Nat) (p : Pkt) (b : Bytes) (first : Bool) : (s.sendFragment i p b first).Follows s₀ :=
  ((h.updStream ..).updIo ..).canSend ..

theorem execTpdo0PacketSend_follows : EndsFollowing s₀ (execTpdo0PacketSend s) := by
  unfold execTpdo0PacketSend
  split
  · exact h.next
  · split
    · exact h.next
    · exact h.next.ite (((h.charge ..).sendPkt ..).sendFragment ..).next

theorem execTpdo0FragmentSent_follows : EndsFollowing s₀ (execTpdo0FragmentSent s) := by
  unfold execTpdo0FragmentSent
  split
  · exact h.stopPush.next
  · split
    · exact h.next
    · exact h.stopPush.next.ite (((h.updStream ..).delivered ..).next.ite (h.sendFragment ..).next)

theorem execEmcySend_follows : EndsFollowing s₀ (execEmcySend s) := by
  unfold execEmcySend
  split
  · exact h.next
  · refine h.next.ite (State.Follows.next ?_)
    refine State.Follows.canSend ?_ _
    exact h.congr rfl rfl rfl rfl

theorem State.Follows.showLine : s.showLine.Follows s₀ := h.ite ((h.record ..).setUsdo ..)

theorem State.Follows.setCan (c : Fin 2) (v : Nat) : (s.setCan c v).Follows s₀ := (h.record ..).showLine

theorem State.Follows.canActive (c : Fin 2) : (s.canActive c).Follows s₀ := (h.setCan ..).updIo ..

theorem execCanErrPassive_follows (c : Fin 2) : EndsFollowing s₀ (execCanErrPassive c s) := by
  unfold execCanErrPassive
  split
  · exact h.next
  · extract_lets t
    have ht : t.Follows s₀ := (h.setCan ..).updIo ..
    exact (ht.ite (ht.latch ..)).next

theorem execCanErrorActive_follows (c : Fin 2) : EndsFollowing s₀ (execCanErrorActive c s) := ((h.canActive ..).ite h).next

theorem execCanBusOff_follows (c : Fin 2) : EndsFollowing s₀ (execCanBusOff c s) := by
  unfold execCanBusOff
  split
  · exact h.next
  · extract_lets _ t
    have ht : t.Follows s₀ := ((h.record ..).setCan ..).latch ..
    exact (ht.ite ht.stopPush).next

theorem execCanBusOffRecovered_follows (c : Fin 2) : EndsFollowing s₀ (execCanBusOffRecovered c s) := ((h.canActive ..).ite h).next

/-! ### The tick of 25 ns -/

theorem State.Follows.tmrStep (n : Nat) : (s.tmrStep n).Follows s₀ := (h.tmrTick ..).ite h

theorem State.Follows.chanterTick : s.chanterTick.Follows s₀ :=
  h.foldl _ fun _ _ hu => hu.ite ((hu.putRound ..).ite ((hu.putRound ..).showRound ..))

theorem State.Follows.tick : s.tick.Follows s₀ :=
  h.softStartTick.ilkTick.linkTick.chanterTick.spcTick.ite
    ((h.softStartTick.ilkTick.linkTick.chanterTick.spcTick.tim _).foldl _ fun _ _ hu => hu.tmrStep ..).rollIvals

end

end Sys2Proof.Machine
end

section
/-! SUPPORT. Every step leaves what is permanent, and the statement settled with it. -/

namespace Sys2Proof.Machine

section
variable {s₀ s : State} (h : s.Follows s₀)
include h

/-- No command undoes what is permanent or touches the commands that wait. -/
theorem exec_follows (c : Instr) : EndsFollowing s₀ (exec c s) :=
  match c with
  | .flitReceived .. => execFlitReceived_follows h _ _ _ _
  | .replayTimeout .. => execReplayTimeout_follows h _ _
  | .linkDown .. => execLinkDown_follows h _
  | .linkTrainingDone .. => execLinkTrainingDone_follows h _ _ _
  | .linkRetrainTimer .. => execLinkRetrainTimer_follows h _
  | .pxRailFault .. => execPxRailFault_follows h _
  | .toneMeasureDone .. => execToneMeasureDone_follows h _ _
  | .refLost => execRefLost_follows h
  | .refclkAccepted => execRefclkAccepted_follows h
  | .deviceTimeLoRead .. => execDeviceTimeLoRead_follows h _
  | .wideShadowExpire .. => execWideShadowExpire_follows h _
  | .wideValueLoRead .. => execWideValueLoRead_follows h _ _ _
  | .tagReplyEnd .. => execTagReplyEnd_follows h _
  | .replyDecoded .. => execReplyDecoded_follows h _ _
  | .reqHold .. => execReqHold_follows h _
  | .reqReady .. => execReqReady_follows h _
  | .reqRun .. => execReqRun_follows h _
  | .reqWatch .. => execReqWatch_follows h _
  | .reqTest .. => execReqTest_follows h _
  | .modeTransitionDone => execModeTransitionDone_follows h
  | .resetRequest .. => execResetRequest_follows h _
  | .resetRelease .. => execResetRelease_follows h _ _ _ _ _ _ _
  | .bootRefclkAccepted => execBootRefclkAccepted_follows h
  | .bootLinkStart .. => execBootLinkStart_follows h _
  | .bootEnd .. => execBootEnd_follows h _
  | .testCarrierStart .. => execTestCarrierStart_follows h _
  | .testCarrierStop .. => execTestCarrierStop_follows h _
  | .testCarrierTimeout => execTestCarrierTimeout_follows h
  | .testHfFieldRaise .. => execTestHfFieldRaise_follows h _
  | .testHfFieldDrop .. => execTestHfFieldDrop_follows h _
  | .testHfTimeout => execTestHfTimeout_follows h
  | .captureGo .. => execCaptureGo_follows h _
  | .captureDone .. => execCaptureDone_follows h _
  | .objectWrite .. => execObjectWrite_follows h _ _ _ _
  | .stageWrite .. => execStageWrite_follows h _ _ _ _
  | .commitStaged .. => execCommitStaged_follows h _
  | .commitImage .. => execCommitImage_follows h _
  | .validationDone => execValidationDone_follows h
  | .applyInstant => execApplyInstant_follows h
  | .configPersistDone .. => execConfigPersistDone_follows h _
  | .discard .. => execDiscard_follows h _
  | .configImageAppend .. => execConfigImageAppend_follows h _ _
  | .synthLock .. => execSynthLock_follows h _ _
  | .synthUnlock .. => execSynthUnlock_follows h _
  | .synthHoldTimeout .. => execSynthHoldTimeout_follows h _
  | .droneRampDone .. => execDroneRampDone_follows h _
  | .paFault .. => execPaFault_follows h _ _
  | .paRailFault .. => execPaRailFault_follows h _
  | .paRailRecovered .. => execPaRailRecovered_follows h _
  | .reedConverged .. => execReedConverged_follows h _ _
  | .reedConvergeTimeout .. => execReedConvergeTimeout_follows h _
  | .reedTrackTick .. => execReedTrackTick_follows h _ _ _ _
  | .reedLimit .. => execReedLimit_follows h _
  | .blocker .. => execBlocker_follows h _
  | .returnLossUpdate .. => execReturnLossUpdate_follows h _ _ _
  | .probeSuccess .. => execProbeSuccess_follows h _
  | .sweepChannelDone .. => execSweepChannelDone_follows h _ _
  | .turnroundEnd .. => execTurnroundEnd_follows h _
  | .fullCalDone .. => execFullCalDone_follows h _ _
  | .calRetryTimer .. => execCalRetryTimer_follows h _
  | .calRequest .. => execCalRequest_follows h _ _
  | .reedReseed .. => execReedReseed_follows h _ _
  | .chainFaultClear .. => execChainFaultClear_follows h _ _
  | .descriptorRelease .. => execDescriptorRelease_follows h _ _
  | .permitWithdraw .. => execPermitWithdraw_follows h _ _
  | .permitReturn .. => execPermitReturn_follows h _ _
  | .regLockArm .. => execRegLockArm_follows h _ _
  | .regLockFire .. => execRegLockFire_follows h _ _
  | .lockFireDone .. => execLockFireDone_follows h _
  | .lockArmTimeout => execLockArmTimeout_follows h
  | .viewIndexWrite .. => execViewIndexWrite_follows h _ _
  | .surveyStart .. => execSurveyStart_follows h _
  | .surveyAbort .. => execSurveyAbort_follows h _
  | .surveyTimeout => execSurveyTimeout_follows h
  | .laneSelftest .. => execLaneSelftest_follows h _ _
  | .readMeasured .. => execReadMeasured_follows h _ _
  | .roundStart .. => execRoundStart_follows h _
  | .powerUpHoldEnd .. => execPowerUpHoldEnd_follows h _
  | .slotEmptyTimeout .. => execSlotEmptyTimeout_follows h _
  | .epcReply .. => execEpcReply_follows h _ _
  | .accessReplyTimeout .. => execAccessReplyTimeout_follows h _
  | .accessOpEnd .. => execAccessOpEnd_follows h _ _ _ _
  | .roundEnd .. => execRoundEnd_follows h _
  | .opArm .. => execOpArm_follows h _ _
  | .opDisarm .. => execOpDisarm_follows h _ _
  | .resultRelease .. => execResultRelease_follows h _ _
  | .locBatch => execLocBatch_follows h
  | .trackJoin => execTrackJoin_follows h
  | .trackCloseGap .. => execTrackCloseGap_follows h _
  | .countIntervalPublish => execCountIntervalPublish_follows h
  | .planBoundary .. => execPlanBoundary_follows h _
  | .dwellStart .. => execDwellStart_follows h _
  | .dwellEnd .. => execDwellEnd_follows h _
  | .powerMeasure .. => execPowerMeasure_follows h _
  | .hfStartDeferred => execHfStartDeferred_follows h
  | .packetAgeTimeout .. => execPacketAgeTimeout_follows h _ _
  | .reportWindowEnd => execReportWindowEnd_follows h
  | .creditGrant .. => execCreditGrant_follows h _ _ _
  | .linkCreditGrant .. => execLinkCreditGrant_follows h _ _ _
  | .reportNext .. => execReportNext_follows h _ _
  | .reportRelease .. => execReportRelease_follows h _ _ _
  | .wmAck .. => execWmAck_follows h _ _
  | .hotRead .. => execHotRead_follows h _
  | .markSet .. => execMarkSet_follows h _ _ _
  | .markClear .. => execMarkClear_follows h _ _ _
  | .rewind .. => execRewind_follows h _ _ _
  | .rewindDone .. => execRewindDone_follows h _
  | .scrubStep .. => execScrubStep_follows h _ _ _ _
  | .rowRepairDone => execRowRepairDone_follows h
  | .repairMapStored .. => execRepairMapStored_follows h _
  | .innerCountUpdate .. => execInnerCountUpdate_follows h _
  | .hfDiscover .. => execHfDiscover_follows h _
  | .hfActivate .. => execHfActivate_follows h _
  | .hfExchange .. => execHfExchange_follows h _
  | .hfRelease .. => execHfRelease_follows h _
  | .hfAbort .. => execHfAbort_follows h _
  | .hfFrameReceived .. => execHfFrameReceived_follows h _ _
  | .hfReplyTimeout => execHfReplyTimeout_follows h
  | .hfOpEnd .. => execHfOpEnd_follows h _ _ _ _
  | .hfSessionIdle => execHfSessionIdle_follows h
  | .slideTrackTick .. => execSlideTrackTick_follows h _ _ _ _
  | .hfDriverFault .. => execHfDriverFault_follows h _
  | .hfFaultClear .. => execHfFaultClear_follows h _
  | .hfPllUnlock => execHfPllUnlock_follows h
  | .hfRecoveryRetry .. => execHfRecoveryRetry_follows h _
  | .slideRetune .. => execSlideRetune_follows h _
  | .slideCalDone .. => execSlideCalDone_follows h _ _ _ _ _ _
  | .breathPulse .. => execBreathPulse_follows h _ _
  | .breathSecondPulse .. => execBreathSecondPulse_follows h _ _
  | .breathConfirmEnd .. => execBreathConfirmEnd_follows h _
  | .breathBaselineDone .. => execBreathBaselineDone_follows h _ _ _
  | .sptSelectRelease .. => execSptSelectRelease_follows h _
  | .sptFetch => execSptFetch_follows h
  | .sptRead => execSptRead_follows h
  | .sptWrite => execSptWrite_follows h
  | .sptBlockRead => execSptBlockRead_follows h
  | .twaStatus => execTwaStatus_follows h
  | .twaModeSet .. => execTwaModeSet_follows h _
  | .twaEvents => execTwaEvents_follows h
  | .twaEventAck .. => execTwaEventAck_follows h _
  | .twaCredit .. => execTwaCredit_follows h _
  | .twaObjRead .. => execTwaObjRead_follows h _ _ _
  | .twaObjWrite .. => execTwaObjWrite_follows h _ _ _
  | .twaDomRead .. => execTwaDomRead_follows h _ _ _ _
  | .twaDomWrite .. => execTwaDomWrite_follows h _ _ _ _
  | .twaWindow .. => execTwaWindow_follows h _ _
  | .twaReplyRead .. => execTwaReplyRead_follows h _
  | .twaWriteReject .. => execTwaWriteReject_follows h _
  | .twaAra .. => execTwaAra_follows h _
  | .twaAlertReassert => execTwaAlertReassert_follows h
  | .twaBusTimeout => execTwaBusTimeout_follows h
  | .mbxNonce => execMbxNonce_follows h
  | .mbxReadCert => execMbxReadCert_follows h
  | .mbxTokenWrite => execMbxTokenWrite_follows h
  | .mbxTokenSubmit => execMbxTokenSubmit_follows h
  | .mbxFwBegin => execMbxFwBegin_follows h
  | .mbxFwWrite => execMbxFwWrite_follows h
  | .mbxFwFinish => execMbxFwFinish_follows h
  | .mbxReset => execMbxReset_follows h
  | .nmtStart => execNmtStart_follows h
  | .nmtStop => execNmtStop_follows h
  | .nmtEnterPreop => execNmtEnterPreop_follows h
  | .nmtResetNode => execNmtResetNode_follows h
  | .nmtResetComm => execNmtResetComm_follows h
  | .heartbeatTimer => execHeartbeatTimer_follows h
  | .usdoRequest .. => execUsdoRequest_follows h _
  | .usdoTimeout => execUsdoTimeout_follows h
  | .rpdoReceived .. => execRpdoReceived_follows h _ _
  | .syncReceived => execSyncReceived_follows h
  | .timeReceived .. => execTimeReceived_follows h _ _
  | .tpdoSend .. => execTpdoSend_follows h _
  | .tpdoEventTimer .. => execTpdoEventTimer_follows h _
  | .tpdo0PacketSend => execTpdo0PacketSend_follows h
  | .tpdo0FragmentSent => execTpdo0FragmentSent_follows h
  | .emcySend => execEmcySend_follows h
  | .canErrPassive .. => execCanErrPassive_follows h _
  | .canErrorActive .. => execCanErrorActive_follows h _
  | .canBusOff .. => execCanBusOff_follows h _
  | .canBusOffRecovered .. => execCanBusOffRecovered_follows h _
  | .spcRead .. => execSpcRead_follows h _
  | .spcProgram .. => execSpcProgram_follows h _
  | .spcErase4k .. => execSpcErase4k_follows h _
  | .spcErase64k .. => execSpcErase64k_follows h _
  | .spcReadSfdp .. => execSpcReadSfdp_follows h _
  | .spcOpEnd .. => execSpcOpEnd_follows h _ _
  | .twbGo .. => execTwbGo_follows h _ _
  | .twbRecover .. => execTwbRecover_follows h _ _
  | .twbTransferEnd .. => execTwbTransferEnd_follows h _ _ _
  | .twbSclTimeout => execTwbSclTimeout_follows h
  | .twbConflict => execTwbConflict_follows h
  | .twbRetry .. => execTwbRetry_follows h _
  | .gpioSet .. => execGpioSet_follows h _ _
  | .gpioClear .. => execGpioClear_follows h _ _
  | .gateEdge .. => execGateEdge_follows h _ _
  | .timerWrap .. => execTimerWrap_follows h _
  | .timerMatch .. => execTimerMatch_follows h _
  | .tmrFlagClear .. => execTmrFlagClear_follows h _ _ _
  | .tmrRestart .. => execTmrRestart_follows h _ _ _
  | .tmrGroupLoad .. => execTmrGroupLoad_follows h _ _
  | .discPhaseEnd => execDiscPhaseEnd_follows h
  | .discHoldover => execDiscHoldover_follows h
  | .scanStart .. => execScanStart_follows h _
  | .scanAbort .. => execScanAbort_follows h _
  | .scanDone .. => execScanDone_follows h _
  | .checkSelftest .. => execCheckSelftest_follows h _ _
  | .demandPageLoad .. => execDemandPageLoad_follows h _ _
  | .fwUpdateBegin .. => execFwUpdateBegin_follows h _
  | .fwEraseDone => execFwEraseDone_follows h
  | .fwImageAppend .. => execFwImageAppend_follows h _ _
  | .fwUpdateFinish .. => execFwUpdateFinish_follows h _
  | .fwVerifyDone .. => execFwVerifyDone_follows h _ _
  | .fwUpdateAbandon .. => execFwUpdateAbandon_follows h _
  | .fwConfirm .. => execFwConfirm_follows h _ _
  | .nonceRequest .. => execNonceRequest_follows h _ _
  | .nonceExpire => execNonceExpire_follows h
  | .tokenSubmit .. => execTokenSubmit_follows h _ _
  | .tokenTest => execTokenTest_follows h
  | .tokenRecovery => execTokenRecovery_follows h
  | .tokenDebug => execTokenDebug_follows h
  | .ownerRelease => execOwnerRelease_follows h
  | .ownerEnrol => execOwnerEnrol_follows h
  | .ownerRotate => execOwnerRotate_follows h
  | .tokenRejected .. => execTokenRejected_follows h _
  | .sessionClose .. => execSessionClose_follows h _ _
  | .sessionExpire => execSessionExpire_follows h
  | .quoteGo .. => execQuoteGo_follows h _ _
  | .quoteDone => execQuoteDone_follows h
  | .debugDisable .. => execDebugDisable_follows h _ _
  | .debugAttach .. => execDebugAttach_follows h _
  | .tapInstruction .. => execTapInstruction_follows h _
  | .tempSample .. => execTempSample_follows h _
  | .voltageSample .. => execVoltageSample_follows h _
  | .railComparatorTrip .. => execRailComparatorTrip_follows h _
  | .processMeasure .. => execProcessMeasure_follows h _
  | .cxPllUnlock => execCxPllUnlock_follows h
  | .cxPllRelock => execCxPllRelock_follows h
  | .faultClear .. => execFaultClear_follows h _ _
  | .watchdogBark .. => execWatchdogBark_follows h _
  | .watchdogBite .. => execWatchdogBite_follows h _
  | .evtAck .. => execEvtAck_follows h _ _
  | .eventLogWrite => execEventLogWrite_follows h
  | .workMemError .. => execWorkMemError_follows h _
  | .porRelease .. => execPorRelease_follows h _ _ _
  | .vioBrownOut b => execVioBrownOut_follows h b
  | .hfGuardTimeEnd => execHfGuardTimeEnd_follows h
  | .twaAddressNack => execTwaAddressNack_follows h
  | .twbSclStuck => execTwbSclStuck_follows h
  | .twbBusReleased => execTwbBusReleased_follows h
  | .brownOut => execBrownOut_follows h
  | .resetNAssert => execResetNAssert_follows h

end

/-- Settles O53, by what each command makes of the variant, the queue, the debug fuse and the retired lines. -/
theorem stepsKeepWhatIsPermanent : Obligations.StepsKeepWhatIsPermanent := by
  unfold Obligations.StepsKeepWhatIsPermanent
  intro s t stepped
  unfold step at stepped
  split at stepped
  · next empty =>
    obtain ⟨variant, pending, fuse, retired⟩ := (State.Follows.refl s).tick.next t stepped
    exact ⟨variant, by rw [pending, empty]; rfl, fuse, retired⟩
  · next c rest queue =>
    obtain ⟨variant, pending, fuse, retired⟩ := exec_follows (State.Follows.refl { s with pending := rest }) c t stepped
    exact ⟨variant, by rw [pending, queue]; rfl, fuse, retired⟩

end Sys2Proof.Machine
end

section
/-! SUPPORT. What holds right after reset, and the check values of Table 15.2: the two statements settled by them. -/

namespace Sys2Proof.Machine

/-- Settles O55: right after reset every flash is blank and every queue is empty. -/
theorem resetIsBounded : Obligations.ResetIsBounded :=
  ⟨State.reset_flash, Nat.zero_le _, Nat.zero_le _, Nat.zero_le _⟩

/-- Settles O59, by the division of the nine bytes by each polynomial. -/
theorem checkPolynomialsOfTable152 : Obligations.CheckPolynomialsOfTable152 := by
  unfold Obligations.CheckPolynomialsOfTable152
  refine ⟨?_, ?_, ?_, ?_, ?_, ?_⟩ <;> decide +kernel

end Sys2Proof.Machine
end

section
/-! SUPPORT. What an occurrence of an event adds to its history, to the log and to what is delivered (R557 to R562), and the
statement settled with it. -/

namespace Sys2Proof.Machine

/-! ### Bits -/

theorem testBit_setBit_ne (v : Nat) {i j : Nat} (ne : j ≠ i) : (setBit v i).testBit j = v.testBit j := by
  rw [setBit, Nat.testBit_or, Nat.testBit_two_pow_of_ne (Ne.symm ne), Bool.or_false]

/-! ### What follows the bit, the count, the time and the detail of an occurrence (R557) -/

/-- The histories of all events stand, beside what the queues for their delivery hold. -/
structure SameHistory (s t : State) : Prop where
  counts : t.ev.counts = s.ev.counts
  times : t.ev.times = s.ev.times
  detA : t.ev.detA = s.ev.detA
  detB : t.ev.detB = s.ev.detB

theorem SameHistory.refl (s : State) : SameHistory s s := ⟨rfl, rfl, rfl, rfl⟩

section
variable {s t : State} (h : SameHistory s t)
include h

theorem SameHistory.ite {c : Prop} [Decidable c] {u : State} (g : SameHistory s u) : SameHistory s (if c then t else u) := by
  split
  · exact h
  · exact g

theorem SameHistory.put (k v : Nat) : SameHistory s (t.put k v) := ⟨h.counts, h.times, h.detA, h.detB⟩

theorem SameHistory.sys (x : Sys) : SameHistory s { t with sys := x } := ⟨h.counts, h.times, h.detA, h.detB⟩

theorem SameHistory.queues (boot : List (Nat × Nat)) (emcy : List Emcy) (log : List LogEntry) :
    SameHistory s { t with ev := { t.ev with boot := boot, emcy := emcy, log := log } } := ⟨h.counts, h.times, h.detA, h.detB⟩

theorem SameHistory.queueEmcy (e : Emcy) : SameHistory s (t.queueEmcy e) :=
  h.ite ((h.queues ..).ite ((h.put ..).put ..))

theorem SameHistory.logEvent (crit : Bool) (cls e a b : Nat) : SameHistory s (t.logEvent crit cls e a b) :=
  (((h.queues ..).put ..).ite ((h.put ..).put ..)).ite h

theorem SameHistory.deliver (e : Nat) : SameHistory s (t.deliver e) := by
  unfold State.deliver
  extract_lets _ _ s1
  have driven : SameHistory s s1 := (h.sys _).ite h
  exact (h.queues ..).ite ((driven.queueEmcy _).ite driven)

end

/-- After the occurrence's own count, time and detail, only its log entry and its delivery are still to come. -/
theorem SameHistory.latchAs (s : State) (crit : Bool) (cls e a b : Nat) :
    SameHistory (s.noteEvent e a b) (s.latchAs crit cls e a b) := by
  unfold State.latchAs
  extract_lets fresh s1 s2 s3
  have logged : SameHistory s1 s2 := (SameHistory.refl s1).logEvent ..
  have delivered : SameHistory s1 s3 := (logged.deliver e).ite logged
  exact (delivered.put ..).ite delivered

/-- An occurrence latches its own bit, and leaves that of every other event. -/
theorem State.latched_latch_ne (s : State) {e f : Nat} (a b : Nat) (ne : f ≠ e) : (s.latch e a b).latched f = s.latched f := by
  rw [State.latched, State.latch, (Writes.latchAs s _ _ e a b).get _ (by decide), State.noteEvent,
    State.get_seq_ne _ (by decide), State.get_put_self, testBit_setBit_ne _ ne]
  rfl

/-! ### The log and what is delivered (R558, R562) -/

/-- An entry in the log buffer is no delivery. -/
theorem State.logEvent_delivers_nothing (s : State) (crit : Bool) (cls e a b : Nat) :
    (s.logEvent crit cls e a b).ev.emcy = s.ev.emcy ∧ (s.logEvent crit cls e a b).ev.boot = s.ev.boot := by
  unfold State.logEvent
  split
  · split <;> exact ⟨rfl, rfl⟩
  · exact ⟨rfl, rfl⟩

/-- An event whose log mask bit is set enters a buffer with room. -/
theorem State.log_logEvent {s : State} {e : Nat} (crit : Bool) (cls a b : Nat) (masked : (s.get Reg.EVT_LOG_MASK).testBit e = true)
    (room : s.ev.log.length < 64) :
    (s.logEvent crit cls e a b).ev.log = s.ev.log ++ [⟨s.tim.now, e, s.status .can, cls, a, b⟩] := by
  unfold State.logEvent
  rw [if_pos (by simp [masked]), if_pos room]
  rfl

theorem State.log_queueEmcy (s : State) (m : Emcy) : (s.queueEmcy m).ev.log = s.ev.log := by
  unfold State.queueEmcy
  split
  · rfl
  · split <;> rfl

theorem State.log_deliver (s : State) (e : Nat) : (s.deliver e).ev.log = s.ev.log := by
  unfold State.deliver
  split
  · rfl
  · extract_lets _ s1
    have driven : s1.ev.log = s.ev.log := by
      unfold s1
      split <;> rfl
    split
    · rw [State.log_queueEmcy, driven]
    · exact driven

/-- What an occurrence of a latched event leaves to be delivered is what there was (R558). -/
theorem State.latch_again {s : State} {e : Nat} (a b : Nat) (held : s.latched e = true) :
    (s.latch e a b).ev.emcy = s.ev.emcy ∧ (s.latch e a b).ev.boot = s.ev.boot := by
  obtain ⟨emcy, boot⟩ := (s.noteEvent e a b).logEvent_delivers_nothing false (Event.cls e) e a b
  unfold State.latch State.latchAs
  simp only [held, Bool.not_true, Bool.false_eq_true, if_false]
  split <;> exact ⟨emcy, boot⟩

/-- An occurrence whose log mask bit is set enters a buffer with room (R562). -/
theorem State.latch_logs {s : State} {e : Nat} (a b : Nat) (masked : (s.get Reg.EVT_LOG_MASK).testBit e = true)
    (room : s.ev.log.length < 64) : ∃ x, (s.latch e a b).ev.log = s.ev.log ++ [x] ∧ x.event = e ∧ x.time = s.tim.now ∧
      x.detA = a ∧ x.detB = b := by
  have mask : (s.noteEvent e a b).get Reg.EVT_LOG_MASK = s.get Reg.EVT_LOG_MASK := by
    rw [State.noteEvent, State.get_seq_ne _ (by decide), State.get_put_ne _ _ (by decide)]
    rfl
  have logged := State.log_logEvent (s := s.noteEvent e a b) false (Event.cls e) a b (by rw [mask]; exact masked) room
  have kept : (s.latch e a b).ev.log = ((s.noteEvent e a b).logEvent false (Event.cls e) e a b).ev.log := by
    unfold State.latch State.latchAs
    extract_lets fresh s1 s2 s3
    have delivered : s3.ev.log = s2.ev.log := by
      unfold s3
      split
      · exact s2.log_deliver e
      · rfl
    split <;> exact delivered
  exact ⟨_, kept.trans logged, rfl, rfl, rfl, rfl⟩

/-- Beside the events' own part and TWA_ALERT_N's release an occurrence changes nothing. -/
theorem State.sameButEvents_latch (s : State) (e a b : Nat) : SameButEvents [] s (s.latch e a b) := by
  have get : ∀ k, k ∉ eventKeys ++ [] → (s.latch e a b).get k = s.get k := fun k apart =>
    State.get_latch_ne s e a b (by simpa using apart)
  obtain ⟨x, y, z, only⟩ := s.latch_only e a b
  rw [only] at get ⊢
  exact ⟨get, rfl⟩

/-- Settles O58, by what an occurrence notes, logs and delivers. -/
theorem anOccurrenceIsRecorded : Obligations.AnOccurrenceIsRecorded := by
  refine ⟨fun e a b s => ?_, fun e a b s held => State.latch_again a b held,
    fun e a b s masked room => State.latch_logs a b masked room, fun e a b s => s.sameButEvents_latch e a b⟩
  obtain ⟨counts, times, detA, detB⟩ := SameHistory.latchAs s false (Event.cls e) e a b
  simp only [State.latch] at *
  rw [counts, times, detA, detB]
  refine ⟨s.latched_latch e a b, fun f ne => s.latched_latch_ne a b ne, Tab.get_put_self .., Tab.get_put_self ..,
    Tab.get_put_self .., Tab.get_put_self .., fun f ne => ⟨Tab.get_put_ne _ _ ne, Tab.get_put_ne _ _ ne⟩⟩

end Sys2Proof.Machine
end

section
/-! SUPPORT. What an accepted SPC operation leaves waiting (R477), and the statement settled with it. -/

namespace Sys2Proof.Machine

/-- The operation that a write of SPC_OP asks for, with the values of its write (R477). -/
def State.spcAsked (s : State) (code : Nat) : SpcOp :=
  ⟨code, s.get Reg.SPC_OP_FLASH, s.get Reg.SPC_OP_ADDRESS, s.get Reg.SPC_OP_LEN, s.dom Reg.SPC_OP_DATA, s.tim.now⟩

/-- The state in which the operation waits. -/
def State.spcWaits (s : State) (code : Nat) : State :=
  ({ s with brd := { s.brd with spc := some (s.spcAsked code) } } : State).record Reg.SPCOP_SEQ [(Reg.SPC_OP_STATE, 1)]

theorem State.spcWaits_quiet (s : State) (code : Nat) : Quiet s (s.spcWaits code) :=
  Quiet.record (t := { s with brd := { s.brd with spc := some (s.spcAsked code) } }) ((Quiet.refl s).congr rfl rfl rfl) ..

section
variable {s : State} {l : Link} {c : Instr} {code : Nat} (serves : Serves s l false) (queued : s.get Reg.SPC_OP_STATE ≠ 1)
  (running : s.get Reg.SPC_OP_STATE ≠ 2) (fitted : s.get Reg.SPC_OP_FLASH < s.brd.inForce.count)
  (discovered : s.get (Reg.FLASH_STATE (s.get Reg.SPC_OP_FLASH)) = 1)
include queued running fitted discovered

/-- No check of R477 stands against an operation of Table 14.2 that lies in range and keeps off the part's own 16 MiB. -/
theorem State.spcOp_waits (known : 1 ≤ code ∧ code ≤ 5) (range : s.spcRange code = false)
    (apart : 2 ≤ code → code ≤ 4 → 0 < s.get Reg.SPC_OP_FLASH ∨ 0x1000000 ≤ s.get Reg.SPC_OP_ADDRESS) :
    s.spcOp code = (.ok, s.spcWaits code) := by
  obtain ⟨least, most⟩ := known
  have own : (decide (2 ≤ code) && decide (code ≤ 4) && decide (s.get Reg.SPC_OP_FLASH = 0) &&
      decide (s.get Reg.SPC_OP_ADDRESS < 0x1000000)) = false := by
    simp only [Bool.and_eq_false_iff, decide_eq_false_iff_not]
    omega
  unfold State.spcOp
  refine checks_pass (f := (State.spcWaits · code)) ?_
  simp only [List.mem_cons, List.not_mem_nil, or_false]
  rintro p (rfl | rfl | rfl | rfl | rfl | rfl)
  · simp [queued, running]
  · simp only [Bool.or_eq_false_iff, decide_eq_false_iff_not]
    omega
  · simpa using fitted
  · simp [discovered]
  · exact own
  · exact range

include serves

/-- A served row of an SPC operation that no check refuses is answered OK and leaves the operation waiting, and nothing else. -/
theorem completes_spcOp (row : exec c s = .next (s.request l false fun t => t.spcOp code)) (known : 1 ≤ code ∧ code ≤ 5)
    (range : s.spcRange code = false)
    (apart : 2 ≤ code → code ≤ 4 → 0 < s.get Reg.SPC_OP_FLASH ∨ 0x1000000 ≤ s.get Reg.SPC_OP_ADDRESS) :
    Completes c s fun t => Answered t l .ok ∧ t.brd.spc = some (s.spcAsked code) ∧ t.get Reg.SPC_OP_STATE = 1 ∧
      SameButAnswer l [Reg.SPC_OP_STATE, Reg.SPCOP_SEQ] s { t with brd := s.brd } := by
  have work := State.spcOp_waits queued running fitted discovered known range apart
  have same : SameBut [Reg.SPC_OP_STATE, Reg.SPCOP_SEQ] s { s.spcWaits code with brd := s.brd } :=
    SameBut.record (l := [(Reg.SPC_OP_STATE, 1)]) (by simp) (by simp)
  refine ⟨_, row.trans (congrArg _ (State.request_quiet serves work (s.spcWaits_quiet code))), State.answered_answer ..,
    rfl, ?_, same.answer l .ok⟩
  rw [State.get_answer_apart _ _ _ (by decide)]
  exact State.get_record_one _ _ (by decide)

end

/-- Settles O40, by the checks of R477 on each operation of Table 14.2. -/
theorem spcOperationsQueue : Obligations.SpcOperationsQueue := by
  refine ⟨fun l s serves queued running fitted found one most fits => ?_,
    fun l s serves queued running fitted found apart one page length fits => ?_,
    fun l s serves queued running fitted found apart aligned fits => ?_,
    fun l s serves queued running fitted found apart aligned fits => ?_,
    fun l s serves queued running fitted found => ?_⟩
  · refine completes_spcOp serves queued running fitted found (code := 1) rfl (by decide) ?_ (by omega)
    simp only [State.spcRange, Bool.or_eq_false_iff, decide_eq_false_iff_not]
    omega
  · refine completes_spcOp serves queued running fitted found (code := 2) rfl (by decide) ?_ fun _ _ => apart
    simp only [State.spcRange, length, bne_self_eq_false, Bool.or_eq_false_iff, decide_eq_false_iff_not, and_true]
    omega
  · refine completes_spcOp serves queued running fitted found (code := 3) rfl (by decide) ?_ fun _ _ => apart
    simp only [State.spcRange, aligned, bne_self_eq_false, Bool.or_eq_false_iff, decide_eq_false_iff_not, true_and]
    omega
  · refine completes_spcOp serves queued running fitted found (code := 4) rfl (by decide) ?_ fun _ _ => apart
    simp only [State.spcRange, aligned, bne_self_eq_false, Bool.or_eq_false_iff, decide_eq_false_iff_not, true_and]
    omega
  · exact completes_spcOp serves queued running fitted found (code := 5) rfl (by decide) rfl (by omega)

end Sys2Proof.Machine
end

section
/-! SUPPORT. What a flash reads after a write and an erase, that its canonical form is unique, and what the end of an SPC
operation leaves in each flash (R478); and the statement settled with it. -/

namespace Sys2Proof.Machine

/-! ### The contents of a flash -/

/-- Bytes written are read back, one by one. -/
theorem Memory.read_writeAll_at {m : Memory} {a i : Nat} {d : Bytes} (wf : Memory.wf m = true) (lt : i < d.length) :
    (m.writeAll a d).read (a + i) = d.getD i 0 := by
  induction d generalizing m a i with
  | nil => simp at lt
  | cons v r ih =>
    rw [Memory.writeAll]
    cases i with
    | zero => rw [Memory.read_writeAll_outside _ (by omega), Nat.add_zero, Memory.read_write_self a v wf]; rfl
    | succ i =>
      rw [← Nat.add_assoc, Nat.add_right_comm, ih (Memory.wf_write a v wf) (by simpa using lt)]
      rfl

theorem Memory.read_erase_inside (m : Memory) {a n b : Nat} (le : a ≤ b) (lt : b < a + n) :
    (m.erase a n).read b = Memory.blank := by
  induction m with
  | nil => rfl
  | cons p r ih =>
    obtain ⟨x, v⟩ := p
    rw [Memory.erase, List.filter_cons]
    split
    · next kept =>
      have other : b ≠ x := by
        rintro rfl
        simp only [Bool.or_eq_true, decide_eq_true_eq] at kept
        omega
      show Memory.read ((x, v) :: Memory.erase r a n) b = _
      rw [Memory.read, if_neg other, ih]
    · exact ih

/-- An erased range reads blank, and the rest as before. -/
theorem Memory.read_erase (m : Memory) (a n b : Nat) :
    (m.erase a n).read b = if a ≤ b ∧ b < a + n then 0xFF#8 else m.read b := by
  split
  · next inside => exact Memory.read_erase_inside m inside.1 inside.2
  · exact Memory.read_erase_outside m (by omega)

theorem Memory.read_head (x : Nat) (b : Byte) (r : Memory) : Memory.read ((x, b) :: r) x = b := if_pos rfl

/-- What a canonical form lists first, another that reads the same lists too: it does not begin later. -/
theorem Memory.head_not_below {lo x y : Nat} {b c : Byte} {r q : Memory} (wf : Memory.wfFrom lo ((x, b) :: r) = true)
    (wf' : Memory.wfFrom lo ((y, c) :: q) = true) (same : ∀ a, Memory.read ((x, b) :: r) a = Memory.read ((y, c) :: q) a) :
    ¬ x < y := by
  intro lt
  simp only [Memory.wfFrom, Bool.and_eq_true, decide_eq_true_eq, bne_iff_ne] at wf wf'
  obtain ⟨⟨-, listed⟩, -⟩ := wf
  obtain ⟨⟨-, listed'⟩, rest⟩ := wf'
  have below : Memory.wfFrom y ((y, c) :: q) = true := by
    simp only [Memory.wfFrom, Bool.and_eq_true, decide_eq_true_eq, bne_iff_ne]
    exact ⟨⟨Nat.le_refl y, listed'⟩, rest⟩
  have blank := same x
  rw [Memory.read_head, Memory.read_below below lt] at blank
  exact listed blank

/-- A canonical form that reads blank everywhere lists nothing. -/
theorem Memory.nil_of_blank {lo : Nat} {m : Memory} (wf : Memory.wfFrom lo m = true) (blank : ∀ a, m.read a = Memory.blank) :
    m = [] := by
  cases m with
  | nil => rfl
  | cons p r =>
    obtain ⟨x, b⟩ := p
    simp only [Memory.wfFrom, Bool.and_eq_true, bne_iff_ne] at wf
    obtain ⟨⟨-, listed⟩, -⟩ := wf
    exact absurd ((Memory.read_head x b r).symm.trans (blank x)) listed

theorem Memory.eq_of_read_from {lo : Nat} {m k : Memory} (wf : Memory.wfFrom lo m = true) (wf' : Memory.wfFrom lo k = true)
    (same : ∀ a, m.read a = k.read a) : m = k := by
  induction m generalizing k lo with
  | nil => exact (Memory.nil_of_blank wf' fun a => (same a).symm).symm
  | cons p r ih =>
    cases k with
    | nil => exact Memory.nil_of_blank wf same
    | cons p' q =>
      obtain ⟨x, b⟩ := p
      obtain ⟨y, c⟩ := p'
      have ge := Memory.head_not_below wf wf' same
      have le := Memory.head_not_below wf' wf fun a => (same a).symm
      obtain rfl : x = y := by omega
      have head := same x
      rw [Memory.read_head, Memory.read_head] at head
      simp only [Memory.wfFrom, Bool.and_eq_true] at wf wf'
      obtain ⟨-, rest⟩ := wf
      obtain ⟨-, rest'⟩ := wf'
      have tails : ∀ a, Memory.read r a = Memory.read q a := by
        intro a
        by_cases at_ : a = x
        · rw [at_, Memory.read_below rest (Nat.lt_succ_self x), Memory.read_below rest' (Nat.lt_succ_self x)]
        · have := same a
          rwa [Memory.read, Memory.read, if_neg at_, if_neg at_] at this
      rw [head, ih rest rest' tails]

/-- Two canonical forms that read the same are the same. -/
theorem Memory.eq_of_read {m k : Memory} (wf : Memory.wf m = true) (wf' : Memory.wf k = true) (same : ∀ a, m.read a = k.read a) :
    m = k :=
  Memory.eq_of_read_from wf wf' same

/-! ### The end of an SPC operation (R478) -/

/-- What is shown of an operation that ends done with the answer and the flashes of `r`. -/
def State.spcShown (r : Bytes × State) (o : SpcOp) : State :=
  (({ r.2 with brd := { r.2.brd with spc := none } } : State).putDom Reg.SPC_RSP_DATA r.1).record Reg.SPCOP_SEQ
    [(Reg.SPC_OP_STATUS, 0), (Reg.SPC_OP_DURATION, (r.2.tim.now - o.since) / 40 % 2 ^ 32),
     (Reg.SPC_OPS, (r.2.get Reg.SPC_OPS + 1) % 2 ^ 32), (Reg.SPC_OP_STATE, 3)]

theorem exec_spcOpEnd_done {s : State} {o : SpcOp} (sfdp : Bytes) (runs : s.brd.spc = some o) :
    exec (.spcOpEnd 0 sfdp) s = .next (State.spcShown (s.spcEffect o 0 sfdp) o) := by
  show execSpcOpEnd 0 sfdp s = _
  unfold execSpcOpEnd
  rw [runs]
  rfl

theorem State.spcShown_shows (r : Bytes × State) (o : SpcOp) : (State.spcShown r o).brd.flash = r.2.brd.flash ∧
    (State.spcShown r o).dom Reg.SPC_RSP_DATA = r.1 ∧ (State.spcShown r o).get Reg.SPC_OP_STATE = 3 ∧
    (State.spcShown r o).get Reg.SPC_OP_STATUS = 0 ∧ (State.spcShown r o).brd.spc = none := by
  have nodup : [Reg.SPCOP_SEQ, Reg.SPC_OP_STATUS, Reg.SPC_OP_DURATION, Reg.SPC_OPS, Reg.SPC_OP_STATE].Nodup := by decide
  exact ⟨rfl, State.dom_putDom_self .., State.get_record_of_mem _ nodup (by simp), State.get_record_of_mem _ nodup (by simp), rfl⟩

theorem State.flash_spcShown (r : Bytes × State) (o : SpcOp) (n : Nat) : (State.spcShown r o).flash n = r.2.flash n := rfl

/-- Settles O41, by the flash that each operation of Table 14.2 changes and what a changed flash reads. -/
theorem flashBytesChangeOnlyWhereWritten : Obligations.FlashBytesChangeOnlyWhereWritten := by
  refine ⟨fun o sfdp s runs code wf => ?_, fun o sfdp s runs code => ?_, fun o sfdp s runs code => ?_,
    fun m a v wf => ⟨Memory.read_write_self a v wf, fun b ne => Memory.read_write_ne m v ne⟩, Memory.read_erase,
    fun m k => Memory.eq_of_read⟩
  · have effect : s.spcEffect o 0 sfdp = ([], s.updFlash o.flash fun m => m.writeAll o.addr o.data) := by
      unfold State.spcEffect
      rw [code]
      rfl
    refine ⟨_, exec_spcOpEnd_done sfdp runs, ?_⟩
    obtain ⟨-, -, state, status, idle⟩ := State.spcShown_shows (s.spcEffect o 0 sfdp) o
    simp only [State.flash_spcShown, effect] at *
    rw [State.flash_updFlash_self]
    exact ⟨fun i lt => Memory.read_writeAll_at wf lt, fun a out => Memory.read_writeAll_outside _ out,
      fun n ne => State.flash_updFlash_ne _ _ ne, state, status, idle⟩
  · have effect : s.spcEffect o 0 sfdp =
        ([], s.updFlash o.flash fun m => m.erase o.addr (if o.code = 3 then 4096 else 65536)) := by
      unfold State.spcEffect
      obtain code | code := code <;> rw [code] <;> rfl
    refine ⟨_, exec_spcOpEnd_done sfdp runs, ?_⟩
    obtain ⟨-, -, state, -, idle⟩ := State.spcShown_shows (s.spcEffect o 0 sfdp) o
    simp only [State.flash_spcShown, effect] at *
    rw [State.flash_updFlash_self]
    exact ⟨fun a => Memory.read_erase .., fun n ne => State.flash_updFlash_ne _ _ ne, state, idle⟩
  · have effect : s.spcEffect o 0 sfdp = ((s.flash o.flash).readAll o.addr o.len, s.flashOther o.flash) := by
      unfold State.spcEffect
      rw [code]
      rfl
    refine ⟨_, exec_spcOpEnd_done sfdp runs, ?_⟩
    obtain ⟨flash, data, state, -, -⟩ := State.spcShown_shows (s.spcEffect o 0 sfdp) o
    rw [effect] at *
    refine ⟨flash.trans ?_, data, state⟩
    show (s.flashOther o.flash).brd.flash = _
    unfold State.flashOther
    split
    · exact Brd.modeExit_flash ..
    · rfl

end Sys2Proof.Machine
end

section
/-! SUPPORT. What the two-wire controller's transfers and the GPIO outputs come to (R480 to R488), and the statement settled
with it. -/

namespace Sys2Proof.Machine

/-! ### The two-wire controller -/

section
variable (s : State)

theorem Quiet.updTwb {s t : State} (h : Quiet s t) (f : Brd → Brd) : Quiet s (t.updTwb f) := h.congr rfl rfl rfl

theorem State.twbEnd_shows (status state nack : Nat) (rdata : Bytes) :
    (s.twbEnd status state nack rdata).get Reg.TWB_STATUS = status ∧
    (s.twbEnd status state nack rdata).get Reg.TWB_STATE = state ∧
    (s.twbEnd status state nack rdata).get Reg.TWB_NACK_BYTE = nack ∧
    (s.twbEnd status state nack rdata).dom Reg.TWB_RDATA = rdata ∧
    (s.twbEnd status state nack rdata).brd.twb = TwbPhase.idle := by
  have nodup : [Reg.TWB_SEQ, Reg.TWB_STATUS, Reg.TWB_NACK_BYTE, Reg.TWB_STATE].Nodup := by decide
  exact ⟨State.get_record_of_mem _ nodup (by simp), State.get_record_of_mem _ nodup (by simp),
    State.get_record_of_mem _ nodup (by simp), State.dom_putDom_self .., rfl⟩

/-- The entry to an unusable bus is counted and latches event 52 (R484). -/
theorem State.twbStuck_shows {was : Nat} (entered : was ≠ 3) :
    (s.twbStuck was).get Reg.TWB_STATE = 3 ∧ (s.twbStuck was).get Reg.TWB_STUCKS = (s.get Reg.TWB_STUCKS + 1) % 2 ^ 32 ∧
    (s.twbStuck was).get Reg.TWB_STATUS = s.get Reg.TWB_STATUS ∧ (s.twbStuck was).latched 52 = true ∧
    (s.twbStuck was).brd = s.brd := by
  have nodup : [Reg.TWB_SEQ, Reg.TWB_STUCKS, Reg.TWB_STATE].Nodup := by decide
  unfold State.twbStuck
  rw [if_neg entered]
  refine ⟨?_, ?_, ?_, State.latched_latch .., (State.latch_brd ..).trans (State.record_brd ..)⟩
  all_goals rw [State.get_latch_ne _ _ _ _ (by decide)]
  · exact State.get_record_of_mem _ nodup (by simp)
  · exact State.get_record_of_mem _ nodup (by simp)
  · exact State.get_record_ne _ (by decide) (by simp; decide)

/-- The board's part as a write of TWB_GO loads it (R481). -/
def State.twbLoaded : Brd :=
  { s.brd with twbAddr := s.get Reg.TWB_ADDR, twbData := s.dom Reg.TWB_WDATA, twbLen := s.get Reg.TWB_RLEN,
               twbLeft := s.get Reg.TWB_RETRIES, twbSeen := false, twb := .running, sclHeld := false }

/-- The state with the transfer under way. -/
def State.twbGoes : State := ({ s with brd := s.twbLoaded } : State).record Reg.TWB_SEQ [(Reg.TWB_STATE, 1)]

end

/-- No check of R481 stands against a legal address with something to do, on an idle controller. -/
theorem State.twbGo_goes {s : State} (idle : s.get Reg.TWB_STATE ≠ 1) (usable : s.get Reg.TWB_STATE ≠ 3)
    (least : 8 ≤ s.get Reg.TWB_ADDR) (most : s.get Reg.TWB_ADDR ≤ 0x77)
    (work : s.dom Reg.TWB_WDATA ≠ [] ∨ s.get Reg.TWB_RLEN ≠ 0) : s.twbGo 1 .free = (.ok, s.twbGoes) := by
  have something : ((s.dom Reg.TWB_WDATA).isEmpty && decide (s.get Reg.TWB_RLEN = 0)) = false := by
    simpa only [Bool.and_eq_false_iff, List.isEmpty_eq_false_iff, decide_eq_false_iff_not] using work
  unfold State.twbGo
  refine checks_pass (f := State.twbGoes) ?_
  simp only [something, List.mem_cons, List.not_mem_nil, or_false]
  rintro p (rfl | rfl | rfl)
  · exact decide_eq_false idle
  · exact decide_eq_false usable
  · simp [least, most]

/-! ### GPIO -/

theorem testBit_clrMask (v m p : Nat) : (clrMask v m).testBit p = (v.testBit p && !m.testBit p) := by
  induction p generalizing v m with
  | zero =>
    have odd := Nat.and_mod_two_eq_one (a := v) (b := m)
    have le : v &&& m ≤ v := Nat.and_le_left
    have flips : (v - (v &&& m)) % 2 = 1 ↔ v % 2 = 1 ∧ ¬ m % 2 = 1 := by omega
    simp only [clrMask, Nat.testBit_zero, flips, Bool.decide_and, decide_not]
  | succ p ih =>
    have odd := Nat.and_mod_two_eq_one (a := v) (b := m)
    have le : v &&& m ≤ v := Nat.and_le_left
    have halves := Nat.and_div_two (a := v) (b := m)
    have half : clrMask v m / 2 = clrMask (v / 2) (m / 2) := by
      unfold clrMask
      omega
    rw [Nat.testBit_add_one, half, ih, Nat.testBit_add_one, Nat.testBit_add_one]

/-- Output pins that no flash select owns take the level asked for (R487, R488). -/
theorem State.gpioDrive_drives {s : State} {mask : Nat} (high : Bool) (free : mask &&& s.gpioOwned = 0)
    (outputs : clrMask mask (s.get Reg.GPIO_DIR) = 0) (fits : mask < 2 ^ 24) : s.gpioDrive mask high = (.ok, s.updTwb fun b =>
      { b with gpioOut := if high then b.gpioOut ||| mask else clrMask b.gpioOut mask }) := by
  unfold State.gpioDrive
  refine checks_pass ?_
  simpa [free, outputs] using fits

section
variable {s : State} {l : Link}

/-- A served row of GPIO_SET or GPIO_CLEAR is answered OK, and beside the levels of the outputs nothing changes. -/
theorem completes_gpioDrive {c : Instr} {mask : BitVec 32} {high : Bool} (serves : Serves s l false)
    (row : exec c s = .next (s.request l false fun t => t.gpioDrive mask.toNat high)) (free : mask.toNat &&& s.gpioOwned = 0)
    (outputs : clrMask mask.toNat (s.get Reg.GPIO_DIR) = 0) (fits : mask.toNat < 2 ^ 24) :
    Completes c s fun t => Answered t l .ok ∧
      t.brd.gpioOut = (if high then s.brd.gpioOut ||| mask.toNat else clrMask s.brd.gpioOut mask.toNat) ∧
      SameButAnswer l [] s { t with brd := { t.brd with gpioOut := s.brd.gpioOut } } := by
  have work := State.gpioDrive_drives high free outputs fits
  exact ⟨_, row.trans (congrArg _ (State.request_quiet serves work ((Quiet.refl s).updTwb _))), State.answered_answer .., rfl,
    (SameBut.refl [] s).answer l .ok⟩

end

/-- Settles O42, by the ends of a transfer, the entry to an unusable bus and the levels of the outputs. -/
theorem twoWirePortAndPins : Obligations.TwoWirePortAndPins := by
  refine ⟨fun l s serves idle usable least most something => ?_, fun l s serves idle => ?_, fun nackByte rdata s runs => ?_,
    fun nackByte rdata s runs => ?_, fun s runs => ?_, fun s held usable => ?_, fun s runs unseen => ?_,
    fun s conflict none => ?_, fun s conflict left => ?_, fun s again => ?_,
    fun l mask s serves free outputs fits => ?_, fun l mask s serves free outputs fits => ?_⟩
  · have work := State.twbGo_goes idle usable least most something
    have quiet : Quiet s s.twbGoes :=
      Quiet.record (t := { s with brd := s.twbLoaded }) ((Quiet.refl s).congr rfl rfl rfl) ..
    have same : SameBut [Reg.TWB_STATE, Reg.TWB_SEQ] s { s.twbGoes with brd := s.brd } :=
      SameBut.record (l := [(Reg.TWB_STATE, 1)]) (by simp) (by simp)
    refine ⟨_, congrArg Host.Outcome.next (State.request_quiet serves work quiet), State.answered_answer .., ?_, rfl, rfl, rfl,
      rfl, rfl, same.answer l .ok⟩
    rw [State.get_answer_apart _ _ _ (by decide)]
    exact State.get_record_one _ _ (by decide)
  · let t1 := (s.updTwb fun b => { b with sclHeld := false }).record Reg.TWB_SEQ
      [(Reg.TWB_RECOVERIES, (s.get Reg.TWB_RECOVERIES + 1) % 2 ^ 32)]
    have work : s.twbRecover 1 true = (.ok, t1.record Reg.TWB_SEQ [(Reg.TWB_STATE, 0)]) := by
      unfold State.twbRecover
      exact checks_pass (by simp [idle])
    have quiet : Quiet s (t1.record Reg.TWB_SEQ [(Reg.TWB_STATE, 0)]) := (((Quiet.refl s).updTwb _).record ..).record ..
    have same : SameBut [Reg.TWB_STATE, Reg.TWB_RECOVERIES, Reg.TWB_SEQ] s
        { t1.record Reg.TWB_SEQ [(Reg.TWB_STATE, 0)] with brd := s.brd } :=
      (SameBut.record (l := [(Reg.TWB_RECOVERIES, (s.get Reg.TWB_RECOVERIES + 1) % 2 ^ 32)]) (by simp) (by simp)).trans
        (SameBut.record (q := Reg.TWB_SEQ) (l := [(Reg.TWB_STATE, 0)]) (by simp) (by simp))
    refine ⟨_, congrArg Host.Outcome.next (State.request_quiet serves work quiet), State.answered_answer .., ?_, ?_,
      same.answer l .ok⟩
    all_goals rw [State.get_answer_apart _ _ _ (by decide)]
    · exact State.get_record_one _ _ (by decide)
    · rw [State.get_record_ne _ (by decide) (by decide)]
      exact State.get_record_one _ _ (by decide)
  · obtain ⟨status, state, -, data, idle⟩ := s.twbEnd_shows 0 2 0 (rdata.take s.brd.twbLen)
    exact ⟨_, if_neg (by simp [runs]), status, state, data, idle⟩
  · obtain ⟨status, state, nack, data, -⟩ := s.twbEnd_shows 2 2 nackByte.toNat []
    exact ⟨_, if_neg (by simp [runs]), status, nack, state, data⟩
  · obtain ⟨status, state, -⟩ := s.twbEnd_shows 5 2 0 []
    exact ⟨_, if_neg (by simp [runs]), status, state, rfl⟩
  · have row : exec .twbSclStuck s = .next (((s.updTwb fun b => { b with sclHeld := false }).record Reg.TWB_SEQ
        [(Reg.TWB_STATUS, 4)]).twbStuck (s.get Reg.TWB_STATE)) := if_neg (by simp [held])
    obtain ⟨state, stucks, status, latched, brd⟩ := State.twbStuck_shows _ usable
    refine ⟨_, row, status.trans ?_, state, stucks.trans ?_, latched, congrArg Brd.sclHeld brd⟩
    · exact State.get_record_one _ _ (by decide)
    · rw [State.get_record_ne _ (by decide) (by decide)]
      rfl
  · have row : exec .twbConflict s = .next (((s.updTwb fun b => { b with twb := .conflict, twbSeen := true }).record Reg.TWB_SEQ
        [(Reg.TWB_CONFLICTS, (s.get Reg.TWB_CONFLICTS + 1) % 2 ^ 32)]).latch 53 Reg.TWB_CONFLICTS
        ((s.get Reg.TWB_CONFLICTS + 1) % 2 ^ 32)) := by
      show execTwbConflict s = _
      simp [execTwbConflict, runs, unseen]
    refine ⟨_, row, ?_, ?_, State.latched_latch ..⟩
    · rw [State.latch_brd]
      rfl
    · rw [State.get_latch_ne _ _ _ _ (by decide)]
      exact State.get_record_one _ _ (by decide)
  · have row : exec .twbBusReleased s = .next ((s.updTwb fun b => { b with sclHeld := false }).twbEnd 3 2 0 []) :=
      (if_neg (by simp [conflict])).trans (if_pos none)
    obtain ⟨status, state, -, -, idle⟩ := State.twbEnd_shows (s.updTwb fun b => { b with sclHeld := false }) 3 2 0 []
    exact ⟨_, row, status, state, idle⟩
  · have row : exec .twbBusReleased s = .next ((s.updTwb fun b => { b with sclHeld := false }).updTwb fun b =>
        { b with twb := .again }) := (if_neg (by simp [conflict])).trans (if_neg left)
    exact ⟨_, row, rfl, rfl⟩
  · exact ⟨_, if_neg (by simp [again]), rfl, rfl, rfl⟩
  · obtain ⟨t, row, answered, out, same⟩ := completes_gpioDrive (c := .gpioSet l mask) (high := true) serves rfl free outputs fits
    refine ⟨t, row, answered, fun p => ?_, same⟩
    rw [out, if_pos rfl, Nat.testBit_or, Bool.or_comm]
  · obtain ⟨t, row, answered, out, same⟩ := completes_gpioDrive (c := .gpioClear l mask) (high := false) serves rfl free outputs fits
    refine ⟨t, row, answered, fun p => ?_, same⟩
    rw [out, if_neg Bool.false_ne_true, testBit_clrMask, Bool.and_comm]

end Sys2Proof.Machine
end

section
/-! SUPPORT. What the timer channels, device time's discipline and the GATE inputs come to (R489 to R507), and the statements
settled with it. -/

namespace Sys2Proof.Machine

/-! ### Objects apart from the answers and from the events' history -/

/-- The objects from those of the timers upward lie apart from the links' last results. -/
theorem State.get_answer_above (s : State) (l : Link) (r : Result) {k : Nat} (above : 0x210000 ≤ k) :
    (s.answer l r).get k = s.get k := by
  refine State.get_answer_apart _ _ _ ?_
  simp only [List.mem_cons, List.not_mem_nil, or_false, Reg.SPT_LAST_RESULT, Reg.TWA_LAST_RESULT, Reg.CAN_LAST_RESULT]
  omega

theorem State.get_latch_apart (s : State) (e a b : Nat) {k : Nat}
    (apart : k < 0x240000 ∨ 0x250000 ≤ k ∧ k < 0x255000 ∨ 0x260300 ≤ k) : (s.latch e a b).get k = s.get k := by
  refine State.get_latch_ne _ _ _ _ ?_
  simp only [eventKeys, List.mem_cons, List.not_mem_nil, or_false, Reg.EVT_LATCHED, Reg.EVTH_SEQ, Reg.LOG_DROPPED,
    Reg.LOGS_SEQ, Reg.EMCY_DROPPED, Reg.CANSTATE_SEQ, Reg.IRQ_ASSERTIONS]
  omega

theorem Quiet.puts {s t : State} (h : Quiet s t) (l : List (Nat × Nat)) : Quiet s (t.puts l) :=
  h.congr (State.puts_hubs ..) (State.puts_mode ..) (State.puts_sys ..)

/-- Objects written one after the other, all different, have their values. -/
theorem State.get_puts_two (s : State) {j k : Nat} (v w : Nat) (ne : j ≠ k) :
    (s.puts [(j, v), (k, w)]).get j = v ∧ (s.puts [(j, v), (k, w)]).get k = w :=
  ⟨(State.get_put_ne _ _ ne).trans (State.get_put_self ..), State.get_put_self ..⟩

/-! ### TMR_RESTART and TMR_FLAG_CLEAR (R495, R498) -/

/-- The objects of a channel that its ticks write, and the flags of all channels, are different objects. -/
theorem tmr_keys (n m : Nat) : Reg.TMR_COUNT n ≠ Reg.TMR_WRAPS m ∧ Reg.TMR_COUNT n ≠ Reg.TMR_FLAGS m ∧
    Reg.TMR_WRAPS n ≠ Reg.TMR_FLAGS m ∧ Reg.TMR_COUNT n ≠ Reg.TMR_FLAGS_ALL ∧ Reg.TMR_WRAPS n ≠ Reg.TMR_FLAGS_ALL ∧
    Reg.TMR_FLAGS n ≠ Reg.TMR_FLAGS_ALL := by
  simp only [Reg.TMR_COUNT, Reg.TMR_WRAPS, Reg.TMR_FLAGS, Reg.TMR_FLAGS_ALL]
  omega

theorem tmr_above (n : Nat) : 0x210000 ≤ Reg.TMR_COUNT n ∧ 0x210000 ≤ Reg.TMR_WRAPS n ∧ 0x210000 ≤ Reg.TMR_FLAGS n := by
  simp only [Reg.TMR_COUNT, Reg.TMR_WRAPS, Reg.TMR_FLAGS]
  omega

/-- A served request that writes two objects is answered OK, and they have their values. -/
theorem State.putsTwo_answered (s : State) (l : Link) {j k : Nat} (v w : Nat) (ne : j ≠ k) (aboveJ : 0x210000 ≤ j)
    (aboveK : 0x210000 ≤ k) : Answered ((s.puts [(j, v), (k, w)]).answer l .ok) l .ok ∧
      ((s.puts [(j, v), (k, w)]).answer l .ok).get j = v ∧ ((s.puts [(j, v), (k, w)]).answer l .ok).get k = w ∧
      SameButAnswer l [j, k] s ((s.puts [(j, v), (k, w)]).answer l .ok) := by
  obtain ⟨first, second⟩ := s.get_puts_two v w ne
  refine ⟨State.answered_answer .., ?_, ?_, (SameBut.puts (by simp)).answer l .ok⟩
  · rw [State.get_answer_above _ _ _ aboveJ, first]
  · rw [State.get_answer_above _ _ _ aboveK, second]

/-- A refused restart changes nothing but the answer. -/
theorem completes_tmrRestart_refused {s : State} {l : Link} {n : Fin 16} {v : BitVec 8} {r : Result} (serves : Serves s l false)
    (refused : s.tmrRestart n v.toNat = (r, s)) :
    Completes (.tmrRestart l n v) s fun t => Answered t l r ∧ SameButAnswer l [] s t :=
  ⟨_, congrArg Host.Outcome.next (State.request_quiet serves refused (Quiet.refl s)), s.answered_only l r⟩

/-- Settles O43, by the two checks of R498 in their order. -/
theorem timerRestartIsR498 : Obligations.TimerRestartIsR498 := by
  refine ⟨fun l n s serves free => ?_, fun l n v s serves claimed => ?_, fun l n v s serves free other => ?_⟩
  · have work : s.tmrRestart n (1#8).toNat = (.ok, s.puts [(Reg.TMR_COUNT n, 0), (Reg.TMR_WRAPS n, 0)]) :=
      checks_pass (by simp [free])
    obtain ⟨count, wraps, -⟩ := tmr_above n
    obtain ⟨ne, -⟩ := tmr_keys n n
    exact ⟨_, congrArg Host.Outcome.next (State.request_quiet serves work ((Quiet.refl s).puts _)),
      s.putsTwo_answered l 0 0 ne count wraps⟩
  · exact completes_tmrRestart_refused serves (checks_fail (p := (true, .denied)) (by simp [claimed]))
  · have value : v.toNat ≠ 1 := fun one => other (BitVec.eq_of_toNat_eq one)
    exact completes_tmrRestart_refused serves (checks_fail (p := (true, .range)) (by simp [free, value]))

/-! ### Ticks of a channel (R493, R495) -/

/-- The counts and the wrap counts of the channels. -/
def TmrCounter (k : Nat) : Prop := 0x221000 ≤ k ∧ (k % 256 = 7 ∨ k % 256 = 8)

theorem tmrCounter_count (n : Nat) : TmrCounter (Reg.TMR_COUNT n) := by
  simp only [TmrCounter, Reg.TMR_COUNT]
  omega

theorem tmrCounter_wraps (n : Nat) : TmrCounter (Reg.TMR_WRAPS n) := by
  simp only [TmrCounter, Reg.TMR_WRAPS]
  omega

/-- What governs a channel does not rest on the counts. -/
theorem State.tmr_counted {s t : State} (w : Writes TmrCounter s t) (n : Nat) : t.tmr n = s.tmr n := by
  have owner : ¬ TmrCounter (Reg.TMR_OWNER n) := by simp only [TmrCounter, Reg.TMR_OWNER]; omega
  have stagger : ¬ TmrCounter Reg.STAGGER_PERIOD_US := by unfold TmrCounter; decide
  have clock : ¬ TmrCounter (Reg.TMR_CLOCK n) := by simp only [TmrCounter, Reg.TMR_CLOCK]; omega
  have reload : ¬ TmrCounter (Reg.TMR_RELOAD n) := by simp only [TmrCounter, Reg.TMR_RELOAD]; omega
  have match_ : ¬ TmrCounter (Reg.TMR_MATCH n) := by simp only [TmrCounter, Reg.TMR_MATCH]; omega
  have source : ¬ TmrCounter (Reg.TMR_GATE_SRC n) := by simp only [TmrCounter, Reg.TMR_GATE_SRC]; omega
  have level : ¬ TmrCounter (Reg.TMR_GATE_LEVEL n) := by simp only [TmrCounter, Reg.TMR_GATE_LEVEL]; omega
  have mask : ¬ TmrCounter (Reg.TMR_EVENT_MASK n) := by simp only [TmrCounter, Reg.TMR_EVENT_MASK]; omega
  simp only [State.tmr, w.get _ owner, w.get _ stagger, w.get _ clock, w.get _ reload, w.get _ match_, w.get _ source,
    w.get _ level, w.get _ mask]

/-- The state after a channel has wrapped, before its flags (R493). -/
def State.wrapped (s : State) (n : Nat) : State := (s.put (Reg.TMR_COUNT n) 0).bump (Reg.TMR_WRAPS n)

theorem Writes.wrapped (s : State) (n : Nat) : Writes TmrCounter s (s.wrapped n) :=
  ((Writes.refl _ s).put (tmrCounter_count n) _).bump (tmrCounter_wraps n)

theorem State.wrapped_shows (s : State) (n : Nat) : (s.wrapped n).get (Reg.TMR_COUNT n) = 0 ∧
    (s.wrapped n).get (Reg.TMR_WRAPS n) = (s.get (Reg.TMR_WRAPS n) + 1) % 2 ^ 32 := by
  obtain ⟨ne, -⟩ := tmr_keys n n
  refine ⟨(State.get_bump_ne _ ne).trans (State.get_put_self ..), ?_⟩
  rw [State.wrapped, State.get_bump_self, State.get_put_ne _ _ (Ne.symm ne)]

/-- The flags that are set, in the channel's object and in that of all channels (R495). -/
def State.flagged (s : State) (n flags : Nat) : State :=
  s.puts [(Reg.TMR_FLAGS n, s.get (Reg.TMR_FLAGS n) ||| flags),
    (Reg.TMR_FLAGS_ALL, s.get Reg.TMR_FLAGS_ALL ||| flags * 4 ^ n)]

theorem State.flagged_shows (s : State) (n flags : Nat) :
    (s.flagged n flags).get (Reg.TMR_FLAGS n) = s.get (Reg.TMR_FLAGS n) ||| flags ∧
    (s.flagged n flags).get Reg.TMR_FLAGS_ALL = s.get Reg.TMR_FLAGS_ALL ||| flags * 4 ^ n := by
  obtain ⟨-, -, -, -, -, ne⟩ := tmr_keys n n
  exact s.get_puts_two _ _ ne

theorem State.get_flagged_ne (s : State) {n k : Nat} (flags : Nat) (flag : k ≠ Reg.TMR_FLAGS n) (all : k ≠ Reg.TMR_FLAGS_ALL) :
    (s.flagged n flags).get k = s.get k :=
  State.get_puts_ne _ _ (by simpa using ⟨Ne.symm flag, Ne.symm all⟩)

/-- Flags that enable no event are set and shown, and nothing else (R495). -/
theorem State.tmrFlags_silent {s : State} {n flags : Nat} (some : flags ≠ 0) (silent : (s.tmr n).mask = 0) :
    s.tmrFlags n flags = s.flagged n flags := by
  unfold State.tmrFlags
  rw [if_neg some]
  exact if_neg (by simp [silent])

/-- Flags of which one is enabled latch event 23 (R495). -/
theorem State.tmrFlags_latches {s : State} {n flags : Nat} (some : flags ≠ 0) (told : (s.tmr n).mask &&& flags ≠ 0) :
    s.tmrFlags n flags = (s.flagged n flags).latch 23 (Reg.TMR_FLAGS n) (s.get (Reg.TMR_FLAGS n) ||| flags) := by
  unfold State.tmrFlags
  rw [if_neg some]
  exact if_pos (by simpa using told)

/-- A tick at or above TMR_RELOAD wraps the channel and sets the wrap flag (R493). -/
theorem State.tmrTick_wraps {s : State} {n : Nat} (asleep : s.get Reg.WAKE_TIMER ≠ n)
    (wrap : (s.tmr n).reload ≤ s.get (Reg.TMR_COUNT n)) :
    s.tmrTick n = (s.wrapped n).tmrFlags n (ofBool (decide (0 = (s.tmr n).match_)) + 2) := by
  simp only [State.tmrTick, wrap, if_true, decide_true, asleep, decide_false, Bool.and_false, Bool.false_eq_true, if_false]
  rfl

/-- A tick that brings the count to TMR_MATCH sets the match flag (R495). -/
theorem State.tmrTick_matches {s : State} {n : Nat} (below : s.get (Reg.TMR_COUNT n) < (s.tmr n).reload)
    (meets : s.get (Reg.TMR_COUNT n) + 1 = (s.tmr n).match_) :
    s.tmrTick n = (s.put (Reg.TMR_COUNT n) (s.tmr n).match_).tmrFlags n 1 := by
  have counts : ¬ (s.tmr n).reload ≤ s.get (Reg.TMR_COUNT n) := Nat.not_le.2 below
  simp only [State.tmrTick, counts, meets, if_false, decide_false, Bool.false_and, Bool.false_eq_true, decide_true]
  rfl

theorem exec_timerWrap {s : State} {n : Fin 16} (counts : s.counts n = true) (wrap : (s.tmr n).reload ≤ s.get (Reg.TMR_COUNT n)) :
    exec (.timerWrap n) s = .next (s.tmrTick n) :=
  congrArg Host.Outcome.next (if_pos (by simp [counts, wrap]))

theorem exec_timerMatch {s : State} {n : Fin 16} (counts : s.counts n = true)
    (below : s.get (Reg.TMR_COUNT n) < (s.tmr n).reload) (meets : s.get (Reg.TMR_COUNT n) + 1 = (s.tmr n).match_) :
    exec (.timerMatch n) s = .next (s.tmrTick n) :=
  congrArg Host.Outcome.next (if_pos (by simp [counts, Nat.not_le.2 below, meets]))

/-! ### TMR_GROUP_LOAD (R500) -/

/-- Channel `base + k` of a group takes its share of the period, and beside the counts no object changes. -/
theorem State.loadGroup_counts (s : State) (base n : Nat) : Writes TmrCounter s (s.loadGroup base n) ∧
    (∀ k, k < n → (s.loadGroup base n).get (Reg.TMR_COUNT (base + k)) = k * ((s.tmr base).reload + 1) / n) ∧
    (∀ c, (s.loadGroup base n).get (Reg.TMR_WRAPS c) = s.get (Reg.TMR_WRAPS c)) := by
  have loaded : ∀ m, Writes TmrCounter s ((List.range m).foldl (fun t k => t.put (Reg.TMR_COUNT (base + k))
        (k * ((t.tmr base).reload + 1) / n)) s) ∧
      (∀ k, k < m → ((List.range m).foldl (fun t k => t.put (Reg.TMR_COUNT (base + k))
        (k * ((t.tmr base).reload + 1) / n)) s).get (Reg.TMR_COUNT (base + k)) = k * ((s.tmr base).reload + 1) / n) ∧
      (∀ c, ((List.range m).foldl (fun t k => t.put (Reg.TMR_COUNT (base + k))
        (k * ((t.tmr base).reload + 1) / n)) s).get (Reg.TMR_WRAPS c) = s.get (Reg.TMR_WRAPS c)) := by
    intro m
    induction m with
    | zero => exact ⟨Writes.refl _ s, nofun, fun _ => rfl⟩
    | succ m ih =>
      obtain ⟨writes, counts, wraps⟩ := ih
      simp only [List.range_succ, List.foldl_append, List.foldl_cons, List.foldl_nil]
      refine ⟨writes.put (tmrCounter_count _) _, fun k lt => ?_, fun c => ?_⟩
      · by_cases last : k = m
        · rw [last, State.get_put_self, State.tmr_counted writes]
        · rw [State.get_put_ne _ _ (by simp only [Reg.TMR_COUNT]; omega), counts k (by omega)]
      · obtain ⟨ne, -⟩ := tmr_keys (base + m) c
        rw [State.get_put_ne _ _ (Ne.symm ne), wraps]
  exact loaded n

/-- No check of R500 stands against a group of free channels that run alike. -/
theorem State.groupLoad_loads {s : State} (fits : s.get Reg.TMR_GROUP_BASE + s.get Reg.TMR_GROUP_N ≤ 16)
    (alike : ∀ k, k < s.get Reg.TMR_GROUP_N → s.get (Reg.TMR_OWNER (s.get Reg.TMR_GROUP_BASE + k)) ≠ 1 ∧
      s.tmr (s.get Reg.TMR_GROUP_BASE + k) = s.tmr (s.get Reg.TMR_GROUP_BASE)) :
    s.groupLoad 1 = (.ok, s.loadGroup (s.get Reg.TMR_GROUP_BASE) (s.get Reg.TMR_GROUP_N)) := by
  unfold State.groupLoad
  refine checks_pass ?_
  simp only [List.mem_cons, List.not_mem_nil, or_false]
  rintro p (rfl | rfl | rfl)
  · simp only [List.any_eq_false, List.mem_map, List.mem_range, Bool.and_eq_true, decide_eq_true_eq, not_and]
    rintro _ ⟨k, lt, rfl⟩ -
    obtain ⟨free, -⟩ := alike k lt
    exact free
  · simpa using fits
  · simp only [List.any_eq_false, List.mem_map, List.mem_range]
    rintro _ ⟨k, lt, rfl⟩
    obtain ⟨-, same⟩ := alike k lt
    simp [same]

/-! ### GATE edges (R489, R490) -/

/-- The objects of a gate that an edge writes are all different. -/
theorem nodup_gateKeys (g : Nat) : [Reg.GATE_SEQ g, Reg.GATE_LEVEL g, Reg.GATE_RISES g, Reg.GATE_EDGE_TIME g].Nodup ∧
    [Reg.GATE_SEQ g, Reg.GATE_LEVEL g, Reg.GATE_FALLS g, Reg.GATE_EDGE_TIME g].Nodup := by
  simp only [List.nodup_cons, List.mem_cons, List.not_mem_nil, or_false, not_or, List.nodup_nil, not_false_eq_true, and_true,
    Reg.GATE_SEQ, Reg.GATE_LEVEL, Reg.GATE_RISES, Reg.GATE_FALLS, Reg.GATE_EDGE_TIME]
  omega

/-- The state that shows an edge: the gate's level, the count of its edges and the edge's time. -/
def State.edgeShown (s : State) (g level count : Nat) : State :=
  s.record (Reg.GATE_SEQ g) [(Reg.GATE_LEVEL g, level), (count, (s.get count + 1) % 2 ^ 32), (Reg.GATE_EDGE_TIME g, s.edgeTime g)]

theorem State.edgeTime_on {s : State} {g : Nat} (on : s.sys.timeOn = true) :
    s.edgeTime g = s.tim.now - max 1 (40 * s.get (Reg.GATE_FILTER_US g)) := if_pos on

/-- An edge that none of the gate's events enables is only shown (R490). -/
theorem State.gateEdge_silent {s : State} {g : Nat} (pps : s.get Reg.DISC_PPS_GATE ≠ g)
    (silent : s.get (Reg.GATE_EDGE_EVENT g) = 0) : s.gateEdge g true = s.edgeShown g 1 (Reg.GATE_RISES g) := by
  simp [State.gateEdge, State.edgeShown, pps, silent, ofBool]

/-- A falling edge that is enabled latches event 55, if it is not latched (R490). -/
theorem State.gateEdge_latches {s : State} {g : Nat} (pps : s.get Reg.DISC_PPS_GATE ≠ g)
    (enabled : (s.get (Reg.GATE_EDGE_EVENT g)).testBit 1 = true) (awake : s.mode ≠ .watch) (idle : s.sys.trans = none) :
    (s.gateEdge g false).latched 55 = true ∧
    ∀ k, 0x250000 ≤ k → k < 0x255000 → (s.gateEdge g false).get k = (s.edgeShown g 0 (Reg.GATE_FALLS g)).get k := by
  let s1 := s.edgeShown g 0 (Reg.GATE_FALLS g)
  let s2 := if !s1.latched 55 then s1.latch 55 (Reg.GATE_FALLS g) (s1.get (Reg.GATE_FALLS g)) else s1
  have quiet : Quiet s s2 := (((Quiet.refl s).record ..).latch ..).ite ((Quiet.refl s).record ..)
  have edge : s.gateEdge g false = s2 := by
    have stays : s2.wakeSource 2 = s2 :=
      State.wakeSource_awake 2 (by rw [quiet.mode_eq]; exact awake) (by rw [quiet.trans_eq]; exact idle)
    have same : s.gateEdge g false = s2.wakeSource 2 := by
      simp only [State.gateEdge, Bool.false_eq_true, if_false, enabled, if_true, Bool.true_and, pps, decide_false,
        Bool.false_and]
      rfl
    rw [same, stays]
  rw [edge]
  unfold s2
  cases told : s1.latched 55 with
  | true => exact ⟨told, fun _ _ _ => rfl⟩
  | false => exact ⟨State.latched_latch .., fun k least most => State.get_latch_apart _ _ _ _ (.inr (.inl ⟨least, most⟩))⟩

/-- Settles O44, by what a tick, a group load, a change of the rate and an accepted edge write. -/
theorem timersDisciplineAndGates : Obligations.TimersDisciplineAndGates := by
  refine ⟨fun n s counts asleep silent wrap nonzero => ?_, fun n s counts asleep silent below meets => ?_,
    fun n s counts asleep told wrap => ?_, fun l n mask s serves flags => ?_, fun l s serves fits alike => ?_, fun s => ?_,
    fun s held => ?_, fun g s released on pps low silent => ?_, fun g s released on pps high told awake idle => ?_⟩
  · have tick : s.tmrTick n = (s.wrapped n).flagged n 2 := by
      rw [State.tmrTick_wraps asleep wrap, decide_eq_false (Ne.symm nonzero)]
      exact State.tmrFlags_silent (by decide) (by rw [State.tmr_counted (Writes.wrapped s n), silent])
    obtain ⟨-, countFlags, wrapsFlags, countAll, wrapsAll, -⟩ := tmr_keys n n
    obtain ⟨count, wraps⟩ := s.wrapped_shows n
    obtain ⟨flag, all⟩ := (s.wrapped n).flagged_shows n 2
    refine ⟨_, (exec_timerWrap counts wrap).trans (congrArg _ tick), ?_, ?_, ?_, ?_, ?_⟩
    · rw [State.get_flagged_ne _ _ countFlags countAll, count]
    · rw [State.get_flagged_ne _ _ wrapsFlags wrapsAll, wraps]
    · rw [flag, (Writes.wrapped s n).get _ (by simp only [TmrCounter, Reg.TMR_FLAGS]; omega)]
    · rw [all, (Writes.wrapped s n).get _ (by unfold TmrCounter; decide)]
    · exact ((SameBut.put 0 (by simp)).trans (SameBut.put _ (by simp))).trans (SameBut.puts (by simp))
  · have counted : Writes TmrCounter s (s.put (Reg.TMR_COUNT n) (s.tmr n).match_) :=
      (Writes.refl _ s).put (tmrCounter_count n) _
    have tick : s.tmrTick n = (s.put (Reg.TMR_COUNT n) (s.tmr n).match_).flagged n 1 := by
      rw [State.tmrTick_matches below meets]
      exact State.tmrFlags_silent (by decide) (by rw [State.tmr_counted counted, silent])
    obtain ⟨-, countFlags, -, countAll, -⟩ := tmr_keys n n
    obtain ⟨flag, -⟩ := (s.put (Reg.TMR_COUNT n) (s.tmr n).match_).flagged_shows n 1
    refine ⟨_, (exec_timerMatch counts below meets).trans (congrArg _ tick), ?_, ?_, ?_⟩
    · rw [State.get_flagged_ne _ _ countFlags countAll, State.get_put_self]
    · rw [flag, State.get_put_ne _ _ (Ne.symm countFlags)]
    · exact (SameBut.put _ (by simp)).trans (SameBut.puts (by simp))
  · have enabled : ((s.wrapped n).tmr n).mask &&& (ofBool (decide (0 = (s.tmr n).match_)) + 2) ≠ 0 := by
      rw [State.tmr_counted (Writes.wrapped s n)]
      intro none
      have bit := congrArg (Nat.testBit · 1) none
      have second : ∀ b, (ofBool b + 2).testBit 1 = true := by decide
      simp [told, second] at bit
    have tick := (State.tmrTick_wraps asleep wrap).trans (State.tmrFlags_latches (by omega) enabled)
    obtain ⟨-, countFlags, -, countAll, -⟩ := tmr_keys n n
    obtain ⟨count, -⟩ := s.wrapped_shows n
    refine ⟨_, (exec_timerWrap counts wrap).trans (congrArg _ tick), ?_, State.latched_latch ..⟩
    rw [State.get_latch_apart _ _ _ _ (.inl (by simp only [Reg.TMR_COUNT]; omega)),
      State.get_flagged_ne _ _ countFlags countAll, count]
  · have work : s.tmrFlagClear n mask.toNat = (.ok, s.puts [(Reg.TMR_FLAGS n, clrMask (s.get (Reg.TMR_FLAGS n)) mask.toNat),
        (Reg.TMR_FLAGS_ALL, clrMask (s.get Reg.TMR_FLAGS_ALL) (mask.toNat * 4 ^ n.val))]) :=
      checks_pass (by simpa using flags)
    obtain ⟨-, -, -, -, -, ne⟩ := tmr_keys n n
    obtain ⟨-, -, above⟩ := tmr_above n
    exact ⟨_, congrArg Host.Outcome.next (State.request_quiet serves work ((Quiet.refl s).puts _)),
      s.putsTwo_answered l _ _ ne above (by decide)⟩
  · have work : s.groupLoad (1#8).toNat = _ := State.groupLoad_loads fits alike
    have quiet : Quiet s (s.loadGroup (s.get Reg.TMR_GROUP_BASE) (s.get Reg.TMR_GROUP_N)) :=
      (Quiet.refl s).foldl _ fun _ _ hu => hu.put ..
    obtain ⟨writes, counts, wraps⟩ := s.loadGroup_counts (s.get Reg.TMR_GROUP_BASE) (s.get Reg.TMR_GROUP_N)
    refine ⟨_, congrArg Host.Outcome.next (State.request_quiet serves work quiet), State.answered_answer .., fun k lt => ?_,
      fun c lt => ?_⟩
    · obtain ⟨above, -⟩ := tmr_above (s.get Reg.TMR_GROUP_BASE + k)
      rw [State.get_answer_above _ _ _ above, counts k lt]
    · obtain ⟨-, above, above'⟩ := tmr_above c
      rw [State.get_answer_above _ _ _ above, State.get_answer_above _ _ _ above', wraps,
        writes.get _ (by simp only [TmrCounter, Reg.TMR_FLAGS]; omega)]
      exact ⟨rfl, rfl⟩
  · have rate : s.tim.freq + 0 = s.tim.freq := by omega
    refine ⟨_, rfl, rfl, rfl, rfl, (State.get_put_self ..).trans ?_, SameBut.put _ (by simp)⟩
    rw [Tim.rate, rate]
  · have row : exec .discHoldover s =
        .next (((s.setRate s.tim.freq 0).record Reg.DSTATE_SEQ [(Reg.DISC_STATE, 4)]).latch 6 Reg.DISC_STATE 4) :=
      congrArg Host.Outcome.next (if_pos (by simpa using held))
    refine ⟨_, row, ?_, ?_, ?_, State.latched_latch ..⟩
    · rw [State.get_latch_apart _ _ _ _ (.inl (by decide))]
      exact State.get_record_one _ _ (by decide)
    · rw [State.latch_tim]
      rfl
    · rw [State.latch_tim]
      rfl
  · have row : exec (.gateEdge g true) s = .next (s.edgeShown g 1 (Reg.GATE_RISES g)) := by
      rw [← State.gateEdge_silent pps silent]
      exact congrArg Host.Outcome.next (if_neg (by simp [released, low, ofBool]))
    obtain ⟨nodup, -⟩ := nodup_gateKeys g
    refine ⟨_, row, State.get_record_of_mem _ nodup (by simp), State.get_record_of_mem _ nodup (by simp),
      State.get_record_of_mem _ nodup ?_, SameBut.record (by simp) (by simp)⟩
    rw [← State.edgeTime_on on]
    simp
  · have row : exec (.gateEdge g false) s = .next (s.gateEdge g false) :=
      congrArg Host.Outcome.next (if_neg (by simp [released, high, ofBool]))
    obtain ⟨latched, shown⟩ := State.gateEdge_latches pps told awake idle
    obtain ⟨-, nodup⟩ := nodup_gateKeys g
    refine ⟨_, row, (shown _ ?_ ?_).trans (State.get_record_of_mem _ nodup (by simp)),
      (shown _ ?_ ?_).trans (State.get_record_of_mem _ nodup (by simp)),
      (shown _ ?_ ?_).trans (State.get_record_of_mem _ nodup ?_), latched⟩
    case refine_7 =>
      rw [← State.edgeTime_on on]
      simp
    all_goals
      simp only [Reg.GATE_LEVEL, Reg.GATE_FALLS, Reg.GATE_EDGE_TIME]
      omega

end Sys2Proof.Machine
end

section
/-! SUPPORT. How a host scan starts and ends (R513), what a failed self-test leaves (R514), and the statement settled with it. -/

namespace Sys2Proof.Machine

/-! ### Host scans (R513) -/

/-- The objects that the end of a scan writes. -/
def scanKeys : List Nat := [Reg.SCAN_VALUE, Reg.SCAN_STATUS, Reg.SCAN_DURATION, Reg.SCAN_STATE, Reg.SCAN_SEQ]

theorem State.scanEnd_shows (s : State) (status value : Nat) : (s.scanEnd status value).get Reg.SCAN_VALUE = value ∧
    (s.scanEnd status value).get Reg.SCAN_STATUS = status ∧ (s.scanEnd status value).get Reg.SCAN_STATE = 2 := by
  have nodup : [Reg.SCAN_SEQ, Reg.SCAN_VALUE, Reg.SCAN_STATUS, Reg.SCAN_DURATION, Reg.SCAN_STATE].Nodup := by decide
  exact ⟨State.get_record_of_mem _ nodup (by simp), State.get_record_of_mem _ nodup (by simp),
    State.get_record_of_mem _ nodup (by simp)⟩

theorem SameBut.scanEnd (s : State) (status value : Nat) : SameBut scanKeys s (s.scanEnd status value) :=
  SameBut.record (by decide) (by simp [scanKeys])

/-- The end of a scan without its result leaves all but the scan's objects. -/
theorem State.scanCut_keeps (s : State) (status : Nat) :
    (∀ k, k ∉ scanKeys → (s.scanCut status).get k = s.get k) ∧ (s.scanCut status).chk = s.chk := by
  unfold State.scanCut
  split
  · obtain ⟨get, -⟩ := SameBut.scanEnd s.draw.2 status (s.draw.1 % 2 ^ 32)
    exact ⟨get, State.record_chk ..⟩
  · exact ⟨fun _ _ => rfl, rfl⟩

theorem State.scanCut_runs {s : State} (runs : s.get Reg.SCAN_STATE = 1) (status : Nat) :
    s.scanCut status = s.draw.2.scanEnd status (s.draw.1 % 2 ^ 32) := if_pos runs

/-- The state with a scan under way. -/
def State.scanStarted (s : State) : State :=
  ({ s with chk := { s.chk with scanAt := s.tim.now } } : State).record Reg.SCAN_SEQ [(Reg.SCAN_STATE, 1)]

/-- No check of R513 stands against a scan of data by a known polynomial. -/
theorem State.scanGo_starts {s : State} (idle : s.get Reg.SCAN_STATE ≠ 1) (free : s.scanRefused = false)
    (known : s.get Reg.SCAN_POLY ≤ 5) (data : s.get Reg.SCAN_SOURCE = 0) (some : s.dom Reg.SCAN_DATA ≠ []) :
    s.scanGo 1 = (.ok, s.scanStarted) := by
  have range : s.scanRange = false := by
    simpa [State.scanRange, data] using ⟨known, some⟩
  unfold State.scanGo
  rw [if_neg (by decide)]
  refine checks_pass (f := State.scanStarted) ?_
  simp [idle, free, range, data]

section
variable {s : State} (runs : s.get Reg.SCAN_STATE = 1) (data : s.get Reg.SCAN_SOURCE = 0)
include runs data

/-- A scan of data that ends compares its value where it is asked to (R513). -/
theorem exec_scanDone_data : exec (.scanDone false) s = .next
    (if s.get Reg.SCAN_COMPARE = 1 && s.scanValue != s.get Reg.SCAN_EXPECT then
      (s.scanEnd 1 s.scanValue).latch 47 Reg.SCAN_VALUE s.scanValue
    else s.scanEnd 0 s.scanValue) := by
  show execScanDone false s = _
  cases bad : decide (s.get Reg.SCAN_COMPARE = 1) && s.scanValue != s.get Reg.SCAN_EXPECT <;>
    simp_all [execScanDone, ofBool]

end

/-! ### Self-tests (R514) -/

theorem exec_checkSelftest_first {u : Fin 4} {s : State} (serves : s.get (Reg.CHK_UNIT_STATE u) ≠ 1)
    (first : Tab.get s.chk.streak u = 0) :
    exec (.checkSelftest u false) s = .next { s with chk := { s.chk with streak := Tab.put s.chk.streak u 1 } } := by
  show execCheckSelftest u false s = _
  simp [execCheckSelftest, serves, first]

theorem exec_checkSelftest_second {u : Fin 4} {s : State} (serves : s.get (Reg.CHK_UNIT_STATE u) ≠ 1)
    (second : Tab.get s.chk.streak u = 1) : exec (.checkSelftest u false) s =
      .next (State.unitFails { s with chk := { s.chk with streak := Tab.put s.chk.streak u 2 } } u) := by
  show execCheckSelftest u false s = _
  simp [execCheckSelftest, serves, second]

/-- The state in which a unit has failed and event 47 has told it. -/
def State.unitFailed (s : State) (u : Nat) : State :=
  (s.record (Reg.CHK_SEQ u) [(Reg.CHK_UNIT_STATE u, 1),
    (Reg.CHK_SELFTEST_FAILS u, (s.get (Reg.CHK_SELFTEST_FAILS u) + 1) % 2 ^ 32)]).latch 47 (Reg.CHK_UNIT_STATE u) 1

/-- The state in which unit 3 has taken the streams of unit `u`. -/
def State.unitCovered (s : State) (u : Fin 4) : State :=
  ({ s with chk := { s.chk with covers := some u } } : State).record (Reg.CHK_SEQ 3) [(Reg.CHK_COVERING 3, 2 ^ u.val)]

/-- The objects of one check unit lie apart from those of another, from the scan's and from the events' history. -/
theorem chkUnit_apart (u : Nat) : Reg.CHK_UNIT_STATE u ≠ Reg.CHK_SEQ u ∧ Reg.CHK_UNIT_STATE u ≠ Reg.CHK_SELFTEST_FAILS u ∧
    Reg.CHK_UNIT_STATE u ≠ Reg.CHK_SEQ 3 ∧ Reg.CHK_UNIT_STATE u ≠ Reg.CHK_COVERING 3 := by
  simp only [Reg.CHK_UNIT_STATE, Reg.CHK_SEQ, Reg.CHK_SELFTEST_FAILS, Reg.CHK_COVERING]
  omega

/-- A unit other than unit 3 that fails while unit 3 is free is covered by it (R514). -/
theorem State.unitFails_covered {s : State} {u : Fin 4} (other : u ≠ 3) (free : s.chk.covers = none)
    (serves : s.get (Reg.CHK_UNIT_STATE 3) ≠ 1) : s.unitFails u = ((s.unitFailed u).unitCovered u).scanCut 2 := by
  have apart : u.val ≠ 3 := fun e => other (Fin.ext e)
  unfold State.unitFails
  simp only [free, serves, apart, Option.isSome_none, decide_false, Bool.and_false, Bool.or_self, Bool.false_eq_true,
    if_false, Fin.ofNat_eq_cast, Fin.cast_val_eq_self]
  rfl

theorem State.unitCovered_shows (s : State) (u : Fin 4) :
    (((s.unitFailed u).unitCovered u).scanCut 2).get (Reg.CHK_UNIT_STATE u) = 1 ∧
    (((s.unitFailed u).unitCovered u).scanCut 2).get (Reg.CHK_COVERING 3) = 2 ^ u.val ∧
    (((s.unitFailed u).unitCovered u).scanCut 2).chk.covers = some u ∧
    (((s.unitFailed u).unitCovered u).scanCut 2).latched 47 = true := by
  obtain ⟨seq, fails, seq3, covering⟩ := chkUnit_apart u
  obtain ⟨cut, chk⟩ := ((s.unitFailed u).unitCovered u).scanCut_keeps 2
  have unit : Reg.CHK_UNIT_STATE u ∉ scanKeys := by
    simp only [scanKeys, List.mem_cons, List.not_mem_nil, or_false, Reg.CHK_UNIT_STATE, Reg.SCAN_VALUE, Reg.SCAN_STATUS,
      Reg.SCAN_DURATION, Reg.SCAN_STATE, Reg.SCAN_SEQ]
    omega
  refine ⟨(cut _ unit).trans ?_, (cut _ (by decide)).trans ?_, ?_, ?_⟩
  · rw [State.unitCovered, State.get_record_ne _ seq3 (by simpa using Ne.symm covering)]
    refine (State.get_latch_apart _ _ _ _ (.inl ?_)).trans (State.get_record_of_mem _ ?_ (by simp))
    · simp only [Reg.CHK_UNIT_STATE]
      omega
    · simp only [List.map_cons, List.map_nil, List.nodup_cons, List.mem_cons, List.not_mem_nil, or_false, not_or, List.nodup_nil,
        not_false_eq_true, and_true, Reg.CHK_SEQ, Reg.CHK_UNIT_STATE, Reg.CHK_SELFTEST_FAILS]
      omega
  · exact State.get_record_one _ _ (by decide)
  · exact congrArg Chk.covers (chk.trans (State.record_chk ..))
  · unfold State.latched
    rw [cut _ (by decide), State.unitCovered, State.get_record_ne _ (by decide) (by simp; decide)]
    exact State.latched_latch ..

/-- Settles O45, by the value that a scan ends with and the second self-test that fails in a row. -/
theorem scansAndSelfTests : Obligations.ScansAndSelfTests := by
  refine ⟨fun l s serves idle free known data some => ?_, fun l s serves runs => ?_,
    fun p s runs data uncompared poly whole => ?_, fun s runs data compared differs => ?_, fun u s serves first => ?_,
    fun u s serves second other free third => ?_⟩
  · have quiet : Quiet s s.scanStarted :=
      Quiet.record (t := { s with chk := { s.chk with scanAt := s.tim.now } }) ((Quiet.refl s).congr rfl rfl rfl) ..
    have same : SameBut [Reg.SCAN_STATE, Reg.SCAN_SEQ] s { s.scanStarted with chk := s.chk } :=
      SameBut.record (l := [(Reg.SCAN_STATE, 1)]) (by simp) (by simp)
    refine ⟨_, congrArg Host.Outcome.next (State.request_quiet serves (State.scanGo_starts idle free known data some) quiet),
      State.answered_answer .., ?_, rfl, same.answer l .ok⟩
    rw [State.get_answer_above _ _ _ (by decide)]
    exact State.get_record_one _ _ (by decide)
  · have work : s.scanGo 2 = (.ok, s.draw.2.scanEnd 2 (s.draw.1 % 2 ^ 32)) := by
      rw [← State.scanCut_runs runs]
      rfl
    have quiet : Quiet s (s.draw.2.scanEnd 2 (s.draw.1 % 2 ^ 32)) :=
      Quiet.record (t := s.draw.2) ((Quiet.refl s).congr rfl rfl rfl) ..
    have same : SameBut scanKeys s { s.draw.2.scanEnd 2 (s.draw.1 % 2 ^ 32) with free := s.free } := SameBut.scanEnd ..
    obtain ⟨-, status, state⟩ := s.draw.2.scanEnd_shows 2 (s.draw.1 % 2 ^ 32)
    refine ⟨_, congrArg Host.Outcome.next (State.request_quiet serves work quiet), State.answered_answer .., ?_, ?_,
      same.answer l .ok⟩
    · rw [State.get_answer_above _ _ _ (by decide), state]
    · rw [State.get_answer_above _ _ _ (by decide), status]
  · have value : s.scanValue = crcBits p (inputBits p (s.dom Reg.SCAN_DATA) 0) := by
      simp [State.scanValue, poly, State.scanInput, data, whole]
    obtain ⟨shown, status, state⟩ := s.scanEnd_shows 0 s.scanValue
    exact ⟨_, (exec_scanDone_data runs data).trans (congrArg _ (if_neg (by simp [uncompared]))), state, status,
      shown.trans value, SameBut.scanEnd ..⟩
  · obtain ⟨shown, status, -⟩ := s.scanEnd_shows 1 s.scanValue
    refine ⟨_, (exec_scanDone_data runs data).trans (congrArg _ (if_pos (by simp [compared, differs]))), ?_, ?_,
      State.latched_latch ..⟩
    · rw [State.get_latch_apart _ _ _ _ (.inl (by decide)), status]
    · rw [State.get_latch_apart _ _ _ _ (.inl (by decide)), shown]
  · exact ⟨_, exec_checkSelftest_first serves first, Tab.get_put_self .., rfl⟩
  · exact ⟨_, (exec_checkSelftest_second serves second).trans (congrArg _ (State.unitFails_covered other free third)),
      State.unitCovered_shows _ u⟩

end Sys2Proof.Machine
end

section
/-! SUPPORT. What the scrub makes of a line (R381 to R394), the repair of rows (R392), and the statement settled with it. -/

namespace Sys2Proof.Machine

/-! ### An occurrence with a class of its own -/

theorem State.get_latchAs_apart (s : State) (crit : Bool) (cls e a b : Nat) {k : Nat} (apart : k < 0x240000 ∨ 0x260300 ≤ k) :
    (s.latchAs crit cls e a b).get k = s.get k := by
  have history : k ∉ historyKeys := by
    simp only [historyKeys, List.mem_cons, List.not_mem_nil, or_false, Reg.LOG_DROPPED, Reg.LOGS_SEQ, Reg.EMCY_DROPPED,
      Reg.CANSTATE_SEQ, Reg.IRQ_ASSERTIONS]
    omega
  have own : k ≠ Reg.EVTH_SEQ ∧ k ≠ Reg.EVT_LATCHED := by
    simp only [Reg.EVTH_SEQ, Reg.EVT_LATCHED]
    omega
  rw [(Writes.latchAs s crit cls e a b).get k history, State.noteEvent, State.get_seq_ne _ own.1, State.get_put_ne _ _ own.2]
  rfl

theorem State.latched_latchAs (s : State) (crit : Bool) (cls e a b : Nat) : (s.latchAs crit cls e a b).latched e = true := by
  rw [State.latched, (Writes.latchAs s crit cls e a b).get _ (by decide), State.noteEvent, State.get_seq_ne _ (by decide),
    State.get_put_self]
  exact bit_setBit_self ..

theorem State.latchAs_mem (s : State) (crit : Bool) (cls e a b : Nat) : (s.latchAs crit cls e a b).mem = s.mem := by
  obtain ⟨_, _, _, only⟩ := s.latchAs_only crit cls e a b
  rw [only]

/-! ### The read of a line (R382, R393, R394) -/

theorem lineLeft_nil : lineLeft [] [] = [] := by decide +kernel

/-- A line with no wrong byte is read and left as it is. -/
theorem State.lineRead_good (s : State) (r line : Nat) : s.lineRead r line (.wrong []) = s := by
  have decoded : lineDecode [] = some [] := rfl
  unfold State.lineRead
  split
  · rfl
  · split
    · rfl
    · simp only [decoded, lineLeft_nil]
      split <;> rfl

section
variable (s : State) (kind r line : Nat)

/-- The last error's members, with a counter, are shown (R394). -/
theorem State.memErr_shows {key : Nat} (nodup : [Reg.MERR_SEQ, key, Reg.LAST_ERR_KIND, Reg.LAST_ERR_REGION, Reg.LAST_ERR_OFFSET,
      Reg.LAST_ERR_TIME].Nodup) :
    (s.memErr kind r line key).get key = (s.get key + 1) % 2 ^ 32 ∧ (s.memErr kind r line key).get Reg.LAST_ERR_KIND = kind ∧
    (s.memErr kind r line key).get Reg.LAST_ERR_REGION = r ∧ (s.memErr kind r line key).get Reg.LAST_ERR_OFFSET = line ∧
    (s.memErr kind r line key).get Reg.LAST_ERR_TIME = s.tim.now :=
  ⟨State.get_record_of_mem _ nodup (by simp), State.get_record_of_mem _ nodup (by simp),
    State.get_record_of_mem _ nodup (by simp), State.get_record_of_mem _ nodup (by simp),
    State.get_record_of_mem _ nodup (by simp)⟩

/-- The last error's members leave the spare rows. -/
theorem State.sparesLeft_memErr {key : Nat} (apart : key ≠ Reg.SPARE_ROWS_TOTAL ∧ key ≠ Reg.SPARE_ROWS_USED) :
    (s.memErr kind r line key).sparesLeft = s.sparesLeft := by
  unfold State.sparesLeft State.memErr
  rw [State.record_mem, State.get_record_ne _ (by decide) (by simpa using ⟨apart.1, by decide⟩),
    State.get_record_ne _ (by decide) (by simpa using ⟨apart.2, by decide⟩)]

/-- An uncorrectable line whose row has a spare latches event 61, loses what it held and waits for the repair of its row. -/
theorem State.uncorrectable_spare (base : Nat) (spare : (s.memErr 4 r line Reg.UNCORRECTABLE).sparesLeft ≠ 0) :
    s.uncorrectable true base r line =
      (((s.memErr 4 r line Reg.UNCORRECTABLE).latchAs false 2 61 Reg.LAST_ERR_OFFSET line).lineLost r line).rowDue (rowOf base line) := by
  have left : (true && ((s.memErr 4 r line Reg.UNCORRECTABLE).mem.due.contains (rowOf base line) ||
      (s.memErr 4 r line Reg.UNCORRECTABLE).sparesLeft != 0)) = true := by
    simp [spare]
  unfold State.uncorrectable
  extract_lets s1 can full s2 s3
  have filled : full = false := congrArg (fun b => !b && decide (4096 ≤ s1.mem.retired.length)) left
  have latched : s2 = s1.latchAs false 2 61 Reg.LAST_ERR_OFFSET line := if_neg (by simp [filled])
  refine (if_pos left).trans ?_
  simp only [s3, latched]
  rfl

end

theorem State.rowDue_only (s : State) (row : Nat) : ∃ x, s.rowDue row = { s with mem := x } := by
  unfold State.rowDue
  split
  · exact ⟨s.mem, rfl⟩
  · exact ⟨_, rfl⟩

theorem State.rowCorrected_only (s : State) (row : Nat) : ∃ x, s.rowCorrected row = { s with mem := x } := by
  unfold State.rowCorrected
  extract_lets l _ s1
  obtain ⟨x, due⟩ := s1.rowDue_only row
  split
  · exact ⟨x, due⟩
  · exact ⟨_, rfl⟩

theorem State.lineSpoiled_dict_only (s : State) (line : Nat) (left : List (Nat × Byte)) :
    ∃ x, s.lineSpoiled 2 line left = { s with rep := x } := by
  unfold State.lineSpoiled
  split
  · exact ⟨s.rep, rfl⟩
  · exact ⟨_, rfl⟩

/-- While a spare row remains the row of a line is due for repair (R392). -/
theorem State.mem_rowDue {s : State} (row : Nat) (spare : s.sparesLeft ≠ 0) : row ∈ (s.rowDue row).mem.due := by
  unfold State.rowDue
  split
  · next waits =>
    simpa [spare] using waits
  · simp

section
variable {s : State} {line : Nat} (big : Variant.big s.variant = true) (lt : line < 8 * 1048576) (held : s.lineHeld 2 line = true)
include big lt held

/-- The line lies in the dictionary region of MX, and is initialised. -/
theorem State.dictLine_inside : s.regionAt 2 = some (true, 131072, 1048576) ∧
    (2 = 5 || 1048576 * 8 ≤ line || !s.lineHeld 2 line) = false := by
  refine ⟨by simp [State.regionAt, big], ?_⟩
  simp [held]
  omega

/-- A line whose syndromes fit a pattern is corrected (R382). -/
theorem State.lineRead_dict_fits {bytes : List (Fin 132 × Byte)} {fixed : List (Nat × Nat)} (fits : lineDecode bytes = some fixed) :
    s.lineRead 2 line (.wrong bytes) =
      (s.lineCorrected 131072 2 line fixed.length).lineSpoiled 2 line (lineLeft bytes fixed) := by
  obtain ⟨region, inside⟩ := State.dictLine_inside big lt held
  simp only [State.lineRead, region, inside, fits, Bool.false_eq_true, if_false, Bool.not_true]

/-- A line whose syndromes fit none is uncorrectable (R382). -/
theorem State.lineRead_dict_lost {bytes : List (Fin 132 × Byte)} (lost : lineDecode bytes = none) :
    s.lineRead 2 line (.wrong bytes) = s.uncorrectable true 131072 2 line := by
  obtain ⟨region, inside⟩ := State.dictLine_inside big lt held
  simp only [State.lineRead, region, inside, lost, Bool.false_eq_true, if_false, Bool.not_true]

end

/-- The dictionary loses a line, and neither the error's members nor the repairs are touched. -/
theorem State.dictLine_keeps (s : State) (line : Nat) :
    (∀ k, k ∉ [Reg.DICT_SEQ, Reg.DICT_USED, Reg.MERR_SEQ, Reg.DICT_LOST] → (s.dictLine line).get k = s.get k) ∧
    (s.dictLine line).mem = s.mem := by
  unfold State.dictLine
  extract_lets keep n _ s1
  have first : s1.mem = s.mem := State.record_mem ..
  refine ⟨fun k apart => ?_, (State.record_mem ..).trans first⟩
  simp only [List.mem_cons, List.not_mem_nil, or_false, not_or] at apart
  obtain ⟨seq, used, merr, lost⟩ := apart
  rw [State.get_record_ne _ merr (by simpa using Ne.symm lost), State.get_record_ne _ seq (by simpa using Ne.symm used)]
  rfl

/-- Settles O29, by what the read of a line and the repair of a row write. -/
theorem storeScrubAndRepair : Obligations.StoreScrubAndRepair := by
  refine ⟨fun r line s boot watch => ?_, fun line bytes one s boot watch big lt held decoded unlatched => ?_,
    fun line bytes s boot watch big lt held decoded spares => ?_, fun row rest s due => ?_, fun s waits => ?_, fun n s big => ?_⟩
  · have row : exec (.scrubStep r line (.wrong []) true) s = .next (s.record Reg.MSTATE_SEQ
        [(Reg.SCRUB_PASSES, (s.get Reg.SCRUB_PASSES + 1) % 2 ^ 32), (Reg.SCRUB_LAST_END, s.tim.now)]) := by
      refine (if_neg (by simp [boot, watch])).trans ?_
      rw [State.lineRead_good]
      rfl
    have nodup : [Reg.MSTATE_SEQ, Reg.SCRUB_PASSES, Reg.SCRUB_LAST_END].Nodup := by decide
    exact ⟨_, row, State.get_record_of_mem _ nodup (by simp), State.get_record_of_mem _ nodup (by simp),
      SameBut.record (by simp) (by simp)⟩
  · let shown := s.memErr 1 2 line.toNat Reg.OUTER_CORR_1
    let told := shown.latch 60 Reg.OUTER_CORR_1 (shown.get Reg.OUTER_CORR_1)
    have fresh : shown.latched 60 = false := by
      rw [← unlatched]
      exact congrArg (Nat.testBit · 60) (State.get_record_ne _ (by decide) (by simp; decide))
    obtain ⟨x, corrected⟩ := told.rowCorrected_only (rowOf 131072 line.toNat)
    obtain ⟨y, spoiled⟩ := (told.rowCorrected (rowOf 131072 line.toNat)).lineSpoiled_dict_only line.toNat (lineLeft bytes [one])
    have row : exec (.scrubStep 2 line (.wrong bytes) false) s = .next { told with mem := x, rep := y } := by
      refine (if_neg (by simp [boot, watch])).trans (congrArg Host.Outcome.next ((if_neg nofun).trans ?_))
      show s.lineRead 2 line.toNat (.wrong bytes) = _
      rw [State.lineRead_dict_fits big lt held decoded]
      show (((shown.memCorrected Reg.OUTER_CORR_1).rowCorrected (rowOf 131072 line.toNat)).lineSpoiled 2 line.toNat
        (lineLeft bytes [one])) = _
      rw [State.memCorrected, if_neg (by simp [fresh]), spoiled, corrected]
    obtain ⟨count, kind, region, offset, time⟩ := s.memErr_shows 1 2 line.toNat (key := Reg.OUTER_CORR_1) (by decide)
    have get : ∀ k, 0x260300 ≤ k → told.get k = shown.get k := fun k above => State.get_latch_apart _ _ _ _ (.inr (.inr above))
    exact ⟨_, row, (get _ (by decide)).trans count, (get _ (by decide)).trans kind, (get _ (by decide)).trans region,
      (get _ (by decide)).trans offset, (get _ (by decide)).trans time, State.latched_latch ..⟩
  · let shown := s.memErr 4 2 line.toNat Reg.UNCORRECTABLE
    let told := shown.latchAs false 2 61 Reg.LAST_ERR_OFFSET line.toNat
    let lost := told.dictLine line.toNat
    have shownMem : shown.mem = s.mem := State.record_mem ..
    have shownSpares : shown.sparesLeft = s.sparesLeft := s.sparesLeft_memErr 4 2 line.toNat (by decide)
    obtain ⟨kept, keptMem⟩ := told.dictLine_keeps line.toNat
    have get : ∀ k, 0x260300 ≤ k → told.get k = shown.get k := fun k above => State.get_latchAs_apart _ _ _ _ _ _ (.inr above)
    have lostSpares : lost.sparesLeft ≠ 0 := by
      rw [← shownSpares] at spares
      unfold State.sparesLeft at spares ⊢
      rwa [keptMem, State.latchAs_mem, kept _ (by decide), kept _ (by decide), get _ (by decide), get _ (by decide)]
    obtain ⟨x, due⟩ := lost.rowDue_only (rowOf 131072 line.toNat)
    have row : exec (.scrubStep 2 line (.wrong bytes) false) s = .next (lost.rowDue (rowOf 131072 line.toNat)) := by
      refine (if_neg (by simp [boot, watch])).trans (congrArg Host.Outcome.next ((if_neg nofun).trans ?_))
      show s.lineRead 2 line.toNat (.wrong bytes) = _
      rw [State.lineRead_dict_lost big lt held decoded]
      exact s.uncorrectable_spare 2 line.toNat 131072 (shownSpares.trans_ne spares)
    obtain ⟨count, kind, -⟩ := s.memErr_shows 4 2 line.toNat (key := Reg.UNCORRECTABLE) (by decide)
    have shows : ∀ k, (lost.rowDue (rowOf 131072 line.toNat)).get k = lost.get k := fun k => by rw [due]; rfl
    refine ⟨_, row, ?_, ?_, ?_, State.mem_rowDue _ lostSpares⟩
    · rw [shows, kept _ (by decide), get _ (by decide), count]
    · rw [shows, kept _ (by decide), get _ (by decide), kind]
    · rw [State.latched, shows, kept _ (by decide)]
      exact State.latched_latchAs ..
  · have nodup : [Reg.MREP_SEQ, Reg.SPARE_ROWS_USED, Reg.REPAIRS, Reg.REPAIR_MAP_STATE].Nodup := by decide
    have run : exec .rowRepairDone s = .next (({ s with mem := { s.mem with
        due := rest, corrected := Tab.del s.mem.corrected row, rows := s.mem.rows ++ [row] } } : State).record Reg.MREP_SEQ
        [(Reg.SPARE_ROWS_USED, s.get Reg.SPARE_ROWS_USED + 1), (Reg.REPAIRS, (s.get Reg.REPAIRS + 1) % 2 ^ 32),
         (Reg.REPAIR_MAP_STATE, 1)]) := by
      show execRowRepairDone s = _
      unfold execRowRepairDone
      rw [due]
    exact ⟨_, run, rfl, State.get_record_of_mem _ nodup (by simp), State.get_record_of_mem _ nodup (by simp),
      SameBut.record (l := [(Reg.SPARE_ROWS_USED, s.get Reg.SPARE_ROWS_USED + 1), (Reg.REPAIRS, (s.get Reg.REPAIRS + 1) % 2 ^ 32),
        (Reg.REPAIR_MAP_STATE, 1)]) (by simp) (by simp)⟩
  · exact ⟨_, if_neg (by simp [waits]), State.get_record_one (k := Reg.REPAIR_MAP_STATE) _ _ (by decide),
      rfl, SameBut.record (l := [(Reg.REPAIR_MAP_STATE, 0)]) (by simp) (by simp)⟩
  · exact ⟨_, congrArg Host.Outcome.next (if_pos big), State.get_record_one _ _ (by decide),
      SameBut.record (by simp) (by simp)⟩

end Sys2Proof.Machine
end

section
/-! SUPPORT. What the HF reader's shared operations (chapter 12) make of HX's own part and which objects they write. -/

namespace Sys2Proof.Machine

/-- The objects of the HF field and its state. -/
def fieldKeys : List Nat :=
  [Reg.HSTATE_SEQ, Reg.HF_STATE, Reg.HF_TX_POWER_NOW, Reg.HF_DRIVER_CURRENT, Reg.HF_FIELD_ON_US, Reg.SLIDE_SEQ, Reg.SLIDE_PHASE,
    Reg.SLIDE_Z]

/-! ### HX's own part -/

theorem Hf.eq_down {h : Hf} (down : h.fieldAt = none) :
    h = { h with fieldAt := none, guarding := h.fieldAt.isNone && h.guarding } := by
  cases h
  cases down
  rfl

section
variable (s : State)

@[simp] theorem State.updHf_hf (f : Hf → Hf) : (s.updHf f).hf = f s.hf := rfl
@[simp] theorem State.get_updHf (f : Hf → Hf) (k : Nat) : (s.updHf f).get k = s.get k := rfl
@[simp] theorem State.dom_updHf (f : Hf → Hf) (k : Nat) : (s.updHf f).dom k = s.dom k := rfl
@[simp] theorem State.latched_updHf (f : Hf → Hf) (e : Nat) : (s.updHf f).latched e = s.latched e := rfl

@[simp] theorem State.showHf_hf : s.showHf.hf = s.hf := by
  unfold State.showHf
  split
  · rfl
  · exact State.recordIf_hf ..

@[simp] theorem State.raiseField_hf (mw : Nat) :
    (s.raiseField mw).hf = { s.hf with fieldAt := some (s.hf.fieldAt.getD s.tim.now) } := State.record_hf ..

@[simp] theorem State.dom_showHf (k : Nat) : s.showHf.dom k = s.dom k := by
  unfold State.showHf
  split
  · rfl
  · exact State.dom_congr (State.recordIf_doms ..) (State.recordIf_variant ..) k

theorem State.startSlide_hf : s.startSlide.hf =
    { s.hf with fieldAt := some (s.hf.fieldAt.getD s.tim.now), calRuns := true, calDue := false } := by
  simp [State.startSlide]

/-- A field that drops, up or not, is down. -/
theorem State.dropField_hf : s.dropField.hf =
    { s.hf with fieldAt := none, guarding := s.hf.fieldAt.isNone && s.hf.guarding } := by
  unfold State.dropField
  split
  · next down => exact Hf.eq_down down
  · next up => simp [up]

theorem State.hfEnd_hf {p : Nat × Nat} (runs : s.hf.op = some p) (status : Nat) (rsp : Bytes) :
    (s.hfEnd status rsp).hf = { s.hf with op := none, guarding := false, resent := 0 } := by
  unfold State.hfEnd
  simp only [runs]
  simp

/-- An operation's end leaves none running. -/
theorem State.hfEnd_op (status : Nat) (rsp : Bytes) : (s.hfEnd status rsp).hf.op = none := by
  rcases runs : s.hf.op with - | p
  · simp [State.hfEnd, runs]
  · rw [s.hfEnd_hf runs]

theorem State.hfEnd_session (status : Nat) (rsp : Bytes) : (s.hfEnd status rsp).hf.session = s.hf.session := by
  rcases runs : s.hf.op with - | p
  · simp [State.hfEnd, runs]
  · rw [s.hfEnd_hf runs]

theorem State.hfEnd_calRuns (status : Nat) (rsp : Bytes) : (s.hfEnd status rsp).hf.calRuns = s.hf.calRuns := by
  rcases runs : s.hf.op with - | p
  · simp [State.hfEnd, runs]
  · rw [s.hfEnd_hf runs]

theorem State.closeSession_hf (opened : s.hf.session = true) : s.closeSession.hf =
    { s.dropField.hf with session := false, active := none, warned := false, excess := 0 } := by
  simp [State.closeSession, opened]

/-- A session that closes, or was not open, leaves none, and the operation as it is. -/
theorem State.closeSession_closed : s.closeSession.hf.session = false ∧ s.closeSession.hf.op = s.hf.op ∧
    s.closeSession.hf.calRuns = s.hf.calRuns := by
  by_cases opened : s.hf.session = true
  · simp [s.closeSession_hf opened, s.dropField_hf]
  · simp [State.closeSession, opened]

/-- The stop of an operation and its session leaves neither, with the field down. -/
theorem State.hfStop_stopped (status : Nat) : (s.hfStop status).hf.op = none ∧ (s.hfStop status).hf.session = false ∧
    (s.hfStop status).hf.fieldAt = none ∧ (s.hfStop status).hf.calRuns = false := by
  unfold State.hfStop
  extract_lets _ _ s1
  obtain ⟨session, op, cal⟩ := (s1.hfEnd status []).closeSession_closed
  rw [State.dropField_hf]
  exact ⟨op.trans (s1.hfEnd_op ..), session, rfl, cal.trans (s1.hfEnd_calRuns ..)⟩

theorem State.hfFieldFault_calRuns : s.hfFieldFault.hf.calRuns = false := by
  unfold State.hfFieldFault State.endTestField
  split
  · rfl
  · exact (s.hfStop_stopped 8).2.2.2

end

/-! ### The objects written -/

section
variable {K : Nat → Prop} {s t : State} (h : Writes K s t)
include h

theorem Writes.updHf (f : Hf → Hf) : Writes K s (t.updHf f) := h.congr rfl rfl rfl
theorem Writes.putDom (k : Nat) (b : Bytes) : Writes K s (t.putDom k b) := h.congr rfl rfl rfl

theorem Writes.mono {J : Nat → Prop} (sub : ∀ k, K k → J k) : Writes J s t := ⟨fun k hk => h.get k fun m => hk (sub k m)⟩

end

section
variable {K : Nat → Prop} {s t : State} (h : Writes K s t) (field : ∀ k ∈ fieldKeys, K k)
include h field

theorem Writes.showHf : Writes K s t.showHf :=
  h.ite (h.recordIf (field _ (by decide)) fun p mem => by
    rw [List.mem_singleton.1 mem]
    exact field _ (by decide : Reg.HF_STATE ∈ fieldKeys))

theorem Writes.raiseField (mw : Nat) : Writes K s (t.raiseField mw) :=
  (h.updHf _).record (field _ (by decide)) fun p mem => by
    rw [List.mem_singleton.1 mem]
    exact field _ (by decide : Reg.HF_TX_POWER_NOW ∈ fieldKeys)

theorem Writes.startSlide : Writes K s t.startSlide := (h.raiseField field 20).updHf _

theorem Writes.dropField : Writes K s t.dropField := by
  unfold State.dropField
  split
  · exact h
  · refine ((h.record (field _ (by decide)) ?_).record (field _ (by decide)) ?_).updHf _ <;>
      · simp only [List.forall_mem_cons, List.not_mem_nil, false_implies, implies_true, and_true]
        simp only [field _ (by decide : Reg.HF_TX_POWER_NOW ∈ fieldKeys), field _ (by decide : Reg.HF_DRIVER_CURRENT ∈ fieldKeys),
          field _ (by decide : Reg.HF_FIELD_ON_US ∈ fieldKeys), field _ (by decide : Reg.SLIDE_PHASE ∈ fieldKeys),
          field _ (by decide : Reg.SLIDE_Z ∈ fieldKeys), and_self]

theorem Writes.sessionField : Writes K s t.sessionField :=
  (h.startSlide field).ite ((h.raiseField field _).updHf _)

theorem Writes.closeSession (seq : K Reg.HOP_SEQ) (count : K Reg.HF_CARD_COUNT) : Writes K s t.closeSession :=
  (((((h.dropField field).updHf _).putDom ..).record seq (by simpa using count)).showHf field).ite h

end

/-- HF_STATE as shown is OUT only where it was. -/
theorem State.showHf_in (s : State) (inService : s.get Reg.HF_STATE ≠ 5) : s.showHf.get Reg.HF_STATE ≠ 5 := by
  unfold State.showHf
  rw [if_neg inService]
  extract_lets v
  have range : v ≠ 5 := by
    simp only [v]
    split_ifs <;> decide
  rw [State.get_recordIf_one _ _ (by decide)]
  exact range

/-- The results of an operation that ends, as one group update (R403). -/
def State.opResults (s : State) (code since status : Nat) (rsp : Bytes) : State :=
  ((s.updHf fun h => { h with op := none, guarding := false, resent := 0 }).putDom Reg.HF_RSP_DATA (rsp.take 1024)).record Reg.HOP_SEQ
    [(Reg.HF_OP_STATUS, status), (Reg.HF_OP_LAST, code), (Reg.HF_OP_DURATION, (s.tim.now - since) / 40 % 2 ^ 32),
     (Reg.HF_OP_STATE, 2)]

section
variable {s : State} {code since : Nat} (runs : s.hf.op = some (code, since)) (status : Nat) (rsp : Bytes)
include runs

theorem State.hfEnd_eq : s.hfEnd status rsp = (((s.opResults code since status rsp).record Reg.HSTATE_SEQ
    [(Reg.HF_OPS, ((s.opResults code since status rsp).get Reg.HF_OPS + 1) % 2 ^ 32)]).latch 57 Reg.HF_OP_STATUS status).showHf := by
  unfold State.hfEnd
  rw [runs]
  rfl

/-- Beside its results an operation's end writes the field's state, the count of operations and the event. -/
theorem State.get_hfEnd {k : Nat} (above : 0x260300 ≤ k) (notField : k ∉ Reg.HF_OPS :: fieldKeys) :
    (s.hfEnd status rsp).get k = (s.opResults code since status rsp).get k := by
  obtain ⟨notOps, notField⟩ := not_or.1 (mt List.mem_cons.2 notField)
  rw [State.hfEnd_eq runs, ((Writes.refl (· ∈ fieldKeys) _).showHf fun _ m => m).get k notField,
    State.get_latch_apart _ _ _ _ (.inr (.inr above))]
  refine State.get_record_ne _ ?_ (by simpa using Ne.symm notOps)
  rintro rfl
  exact notField (by decide)

/-- An operation that ends shows its status, its code and its response, and latches event 57 (R403). -/
theorem State.hfEnd_shows : (s.hfEnd status rsp).get Reg.HF_OP_STATUS = status ∧ (s.hfEnd status rsp).get Reg.HF_OP_LAST = code ∧
    (s.hfEnd status rsp).dom Reg.HF_RSP_DATA = rsp.take 1024 ∧ (s.hfEnd status rsp).latched 57 = true := by
  have nodup : [Reg.HOP_SEQ, Reg.HF_OP_STATUS, Reg.HF_OP_LAST, Reg.HF_OP_DURATION, Reg.HF_OP_STATE].Nodup := by decide
  refine ⟨?_, ?_, ?_, ?_⟩
  · exact (State.get_hfEnd runs _ _ (by decide) (by decide)).trans (State.get_record_of_mem _ nodup (by simp))
  · exact (State.get_hfEnd runs _ _ (by decide) (by decide)).trans (State.get_record_of_mem _ nodup (by simp))
  · rw [State.hfEnd_eq runs, State.dom_showHf]
    refine (State.dom_congr (State.latch_doms ..) (State.latch_variant ..) _).trans
      ((State.dom_congr (State.record_doms ..) (State.record_variant ..) _).trans ?_)
    exact (State.dom_congr (State.record_doms ..) (State.record_variant ..) _).trans (State.dom_putDom_self ..)
  · rw [State.hfEnd_eq runs]
    exact (Upholds.refl _).showHf.latched 57 (State.latched_latch ..)

end

end Sys2Proof.Machine
end

section
/-! SUPPORT. HF operations, frames and ends (R398 to R410), and the statements settled with them. -/

namespace Sys2Proof.Machine

/-! ### A new plan and HX's part (R326) -/

/-- HX's part, and the transaction that waits for room in the plan, stand. -/
structure HfKept (s t : State) : Prop where
  hf : t.hf = s.hf
  waits : t.val.hfWaits = s.val.hfWaits

section
variable {s t : State} (h : HfKept s t)
include h

theorem HfKept.record (q : Nat) (l : List (Nat × Nat)) : HfKept s (t.record q l) :=
  ⟨(State.record_hf ..).trans h.hf, (congrArg Val.hfWaits (State.record_val ..)).trans h.waits⟩

theorem HfKept.recordIf (q : Nat) (l : List (Nat × Nat)) : HfKept s (t.recordIf q l) :=
  ⟨(State.recordIf_hf ..).trans h.hf, (congrArg Val.hfWaits (State.recordIf_val ..)).trans h.waits⟩

theorem HfKept.latch (e a b : Nat) : HfKept s (t.latch e a b) :=
  ⟨(State.latch_hf ..).trans h.hf, (congrArg Val.hfWaits (State.latch_val ..)).trans h.waits⟩

theorem HfKept.ite {c : Prop} [Decidable c] {u : State} (g : HfKept s u) : HfKept s (if c then t else u) := by
  split
  · exact h
  · exact g

theorem HfKept.showZones (served : List Nat) : HfKept s (t.showZones served) :=
  List.foldlRecOn _ _ h fun _ hu _ _ => hu.recordIf ..

theorem HfKept.budgetEvents (step : Nat) : HfKept s (t.budgetEvents step) := by
  unfold State.budgetEvents
  extract_lets b ps act s1 _ s2
  have shown : HfKept s s1 := (h.recordIf ..).ite (h.recordIf ..)
  have lit : HfKept s { s1 with val := { s1.val with derHeld := true } } := ⟨shown.hf, shown.waits⟩
  have unlit : HfKept s { s1 with val := { s1.val with derHeld := false } } := ⟨shown.hf, shown.waits⟩
  have derated : HfKept s s2 := ((lit.record ..).latch ..).ite (unlit.ite shown)
  have capped : HfKept s { s2 with val := { s2.val with capHeld := true } } := ⟨derated.hf, derated.waits⟩
  have uncapped : HfKept s { s2 with val := { s2.val with capHeld := false } } := ⟨derated.hf, derated.waits⟩
  exact (capped.latch ..).ite (uncapped.ite derated)

theorem HfKept.usePlan (p : Plan) : HfKept s (t.usePlan p) := by
  unfold State.usePlan
  extract_lets crcIn tab s1 _ s2
  have put : HfKept s (t.putDom Reg.DWELL_TABLE tab) := ⟨h.hf, h.waits⟩
  have shown : HfKept s s1 := put.record ..
  have held : HfKept s s2 := ⟨shown.hf, shown.waits⟩
  exact (held.budgetEvents _).showZones _

theorem HfKept.replan : HfKept s t.replan := (h.usePlan _).ite h

theorem HfKept.replanNow (lost : Option Nat) (fallback : Bool) : HfKept s (t.replanNow lost fallback) := by
  unfold State.replanNow
  extract_lets _ p u on
  have planned : HfKept s u := h.usePlan p
  clear_value u
  exact ⟨planned.hf, planned.waits⟩

end

/-! ### Operations start (R403, R404) -/

section
variable (s : State)

theorem State.opBegins_hf (code : Nat) : (s.opBegins code).hf =
    { s.hf with op := some (code, s.tim.now), arg := s.get Reg.HF_OP_ARG, cmd := s.dom Reg.HF_CMD_DATA, sent := [], resent := 0,
                badCrc := false } := by
  simp [State.opBegins]

@[simp] theorem State.setActive_hf (a : Option Nat) : (s.setActive a).hf = { s.hf with active := a } := rfl

theorem State.sessionField_hf_op : s.sessionField.hf.op = s.hf.op ∧ s.sessionField.hf.session = s.hf.session ∧
    s.sessionField.hf.fieldAt = some (s.hf.fieldAt.getD s.tim.now) := by
  unfold State.sessionField
  split
  · simp [State.startSlide_hf]
  · simp

/-- A session that opens leaves the operation it opens for. -/
theorem State.openSession_opens : s.openSession.hf.op = s.hf.op ∧ s.openSession.hf.session = true := by
  unfold State.openSession
  extract_lets s1
  split
  · have kept := (HfKept.mk (s := { s1 with val := { s1.val with hfWaits := true } }) rfl rfl).replanNow none false
    rw [kept.hf]
    exact ⟨rfl, rfl⟩
  · obtain ⟨op, session, -⟩ := s1.sessionField_hf_op
    rw [op, session]
    exact ⟨rfl, rfl⟩

end

section
variable {s t : State} (h : Quiet s t)
include h

theorem Quiet.setActive (a : Option Nat) : Quiet s (t.setActive a) := (h.updHf _).putDom ..

theorem Quiet.sessionField : Quiet s t.sessionField := h.startSlide.ite ((h.raiseField _).updHf _)

theorem Quiet.openSession : Quiet s t.openSession := (((h.updHf _).val _).replanNow ..).ite (h.updHf _).sessionField

theorem Quiet.opBegins (code : Nat) : Quiet s (t.opBegins code) := ((h.updHf _).record ..).showHf

theorem Quiet.hfRun (code : Nat) : Quiet s (t.hfRun code) := by
  have begun := h.opBegins code
  unfold State.hfRun
  extract_lets arg u
  split
  · exact (begun.setActive none).ite begun.openSession
  · exact (begun.setActive none).ite (begun.hfEnd ..)
  · split
    · exact begun.hfEnd ..
    · exact (begun.updHf _).ite (begun.ite (begun.hfEnd ..))
  · exact begun.ite (begun.hfEnd ..).closeSession
  · exact (h.hfStop 7).ite (begun.hfEnd ..).closeSession

end

section
variable {l : Link} {s : State} (serves : Serves s l false) (hx : Variant.hx s.variant = true)
  (mode : s.mode = Mode.ready ∨ s.mode = Mode.run) (commit : s.get Reg.COMMIT_STATE = 0) (enabled : s.get Reg.HF_ENABLE = 1)
  (inService : s.get Reg.HF_STATE ≠ 5)
include serves hx mode commit enabled inService

/-- A write of HF_OP that no check refuses is carried out and answered (R403). -/
theorem State.hfOp_request {code : Nat} (free : s.hf.op = none ∨ code = 5) (sound : s.hfArgBad code = false) :
    s.request l false (fun t => t.hfOp code) = (s.hfRun code).answer l .ok := by
  refine State.request_quiet serves (checks_pass (f := fun t => t.hfRun code) ?_) ((Quiet.refl s).hfRun code)
  have open_mode : (s.mode != .ready && s.mode != .run) = false := by
    rcases mode with e | e <;> simp [e]
  have idle : (s.hf.op.isSome && code != 5) = false := by
    rcases free with e | e <;> simp [e]
  simp [hx, sound, open_mode, idle, commit, enabled, inService]

end

/-- The active card changes beside the operation's start (Table 12.3). -/
theorem State.opBegins_session (s : State) (code : Nat) : (s.opBegins code).hf.session = s.hf.session := by
  rw [s.opBegins_hf]

theorem State.get_opBegins (s : State) (code : Nat) {k : Nat} (apart : k ∉ Reg.HOP_SEQ :: Reg.HF_OP_STATE :: fieldKeys) :
    (s.opBegins code).get k = s.get k := by
  have K : Writes (· ∈ Reg.HOP_SEQ :: Reg.HF_OP_STATE :: fieldKeys) s (s.opBegins code) :=
    (((Writes.refl _ s).updHf _).record (by simp) (by simp)).showHf fun k mem => by simp [mem]
  exact K.get k apart

theorem State.dom_opBegins (s : State) (code k : Nat) : (s.opBegins code).dom k = s.dom k := by
  unfold State.opBegins
  rw [State.dom_showHf]
  exact State.dom_congr (State.record_doms ..) (State.record_variant ..) k

theorem State.isoDep_opBegins (s : State) (code n : Nat) : (s.opBegins code).isoDep n = s.isoDep n := by
  unfold State.isoDep State.cardFlags
  rw [State.dom_opBegins]

/-- A session that closes without an operation shows no cards (R405). -/
theorem State.closeSession_shows {s : State} (opened : s.hf.session = true) : s.closeSession.get Reg.HF_CARD_COUNT = 0 ∧
    s.closeSession.hf.fieldAt = none ∧
    ∀ k, k ∉ Reg.HOP_SEQ :: Reg.HF_CARD_COUNT :: fieldKeys → s.closeSession.get k = s.get k := by
  have K := (Writes.refl (· ∈ Reg.HOP_SEQ :: Reg.HF_CARD_COUNT :: fieldKeys) s).closeSession (fun k mem => by simp [mem])
    (by simp) (by simp)
  refine ⟨?_, ?_, K.get⟩
  · rw [State.closeSession, if_pos opened, ((Writes.refl (· ∈ fieldKeys) _).showHf fun _ m => m).get _ (by decide)]
    exact State.get_record_one _ _ (by decide)
  · rw [s.closeSession_hf opened, s.dropField_hf]

/-- Settles O30, by what each operation's start makes of HX's part. -/
theorem hfOperationsStart : Obligations.HfOperationsStart := by
  refine ⟨fun l s serves hx mode commit enabled inService idle => ?_, fun l s serves hx mode commit enabled inService idle arg lt => ?_,
    fun l n s serves hx mode commit enabled inService idle arg cmd active iso => ?_,
    fun l s serves hx mode commit enabled inService idle opened noCard => ?_, fun l c s serves hx mode commit enabled inService runs => ?_⟩
  · refine ⟨_, congrArg Host.Outcome.next (State.hfOp_request serves hx mode commit enabled inService (.inl idle) rfl),
      State.answered_answer .., ?_⟩
    show (s.hfRun 1).hf.op = _ ∧ (s.hfRun 1).hf.session = true
    by_cases opened : s.hf.session = true
    · simp [State.hfRun, s.opBegins_hf, opened]
    · have run : s.hfRun 1 = (s.opBegins 1).openSession := if_neg (by rw [s.opBegins_session]; exact opened)
      obtain ⟨op, session⟩ := (s.opBegins 1).openSession_opens
      rw [run, op, session, s.opBegins_hf]
      exact ⟨rfl, rfl⟩
  · refine ⟨_, congrArg Host.Outcome.next (State.hfOp_request serves hx mode commit enabled inService (.inl idle)
      (by simpa [State.hfArgBad] using arg)), State.answered_answer .., ?_⟩
    have run : s.hfRun 2 = (s.opBegins 2).setActive none := if_pos (by rw [s.get_opBegins _ (by decide)]; exact lt)
    rw [run]
    simp [s.opBegins_hf]
  · refine ⟨_, congrArg Host.Outcome.next (State.hfOp_request serves hx mode commit enabled inService (.inl idle)
      (by simpa [State.hfArgBad, cmd] using arg)), State.answered_answer .., ?_⟩
    show (s.hfRun 3).hf.op = _ ∧ (s.hfRun 3).hf.cmd = _
    have begun : (s.opBegins 3).hf.active = some n := by rw [s.opBegins_hf]; exact active
    have same : (s.hfRun 3).hf.op = (s.opBegins 3).hf.op ∧ (s.hfRun 3).hf.cmd = (s.opBegins 3).hf.cmd := by
      simp only [State.hfRun, begun]
      split
      · exact ⟨rfl, rfl⟩
      · next raw =>
        rw [if_pos ((s.isoDep_opBegins 3 n).trans (iso.resolve_left raw))]
        exact ⟨rfl, rfl⟩
    rw [same.1, same.2, s.opBegins_hf]
    exact ⟨rfl, rfl⟩
  · refine ⟨_, congrArg Host.Outcome.next (State.hfOp_request serves hx mode commit enabled inService (.inl idle) rfl),
      State.answered_answer .., ?_⟩
    have run : s.hfRun 4 = ((s.opBegins 4).hfEnd 0 []).closeSession :=
      if_neg (by rw [s.opBegins_hf]; simp [noCard])
    have begun : (s.opBegins 4).hf.op = some (4, s.tim.now) := by rw [s.opBegins_hf]
    obtain ⟨status, last, -, -⟩ := State.hfEnd_shows begun 0 []
    have held : ((s.opBegins 4).hfEnd 0 []).hf.session = true := by rw [State.hfEnd_session, s.opBegins_session, opened]
    obtain ⟨closed, op, -⟩ := ((s.opBegins 4).hfEnd 0 []).closeSession_closed
    obtain ⟨cards, field, kept⟩ := State.closeSession_shows held
    rw [run]
    exact ⟨op.trans (State.hfEnd_op ..), closed, field,
      (State.get_answer_above _ _ _ (by decide)).trans ((kept _ (by decide)).trans status),
      (State.get_answer_above _ _ _ (by decide)).trans ((kept _ (by decide)).trans last),
      (State.get_answer_above _ _ _ (by decide)).trans cards⟩
  · refine ⟨_, congrArg Host.Outcome.next (State.hfOp_request serves hx mode commit enabled inService (.inr rfl) rfl),
      State.answered_answer .., ?_⟩
    have run : s.hfRun 5 = s.hfStop 7 := if_pos (by simp [runs])
    obtain ⟨op, session, field, -⟩ := s.hfStop_stopped 7
    rw [run]
    exact ⟨op, session, field⟩

end Sys2Proof.Machine
end

section
/-! SUPPORT. The frames and ends of an HF operation (R398 to R409), and the statement settled with them. -/

namespace Sys2Proof.Machine

theorem State.op_of_hfBusy {s : State} {code : Nat} (busy : s.hfBusy = some code) : ∃ since, s.hf.op = some (code, since) := by
  unfold State.hfBusy at busy
  split at busy
  · exact absurd busy nofun
  · obtain ⟨p, runs, rfl⟩ := Option.map_eq_some_iff.1 busy
    exact ⟨p.2, runs⟩

/-- The rise of a session's field leaves the plan and the time. -/
theorem State.sessionField_keeps (s : State) : s.sessionField.val = s.val ∧ s.sessionField.tim = s.tim := by
  unfold State.sessionField State.startSlide State.raiseField
  split
  · exact ⟨State.record_val (s.updHf _) Reg.HSTATE_SEQ _, State.record_tim (s.updHf _) Reg.HSTATE_SEQ _⟩
  · exact ⟨State.record_val (s.updHf _) Reg.HSTATE_SEQ _, State.record_tim (s.updHf _) Reg.HSTATE_SEQ _⟩

/-- The end of a running operation, whichever it is, shows its status and code and latches event 57 (Table 12.3). -/
theorem State.hfEnds_shows {s : State} {code since : Nat} (runs : s.hf.op = some (code, since)) (status : Nat) (rsp : Bytes) :
    (s.hfEnds code status rsp).hf.op = none ∧ (s.hfEnds code status rsp).get Reg.HF_OP_STATUS = status ∧
    (s.hfEnds code status rsp).get Reg.HF_OP_LAST = code ∧ (s.hfEnds code status rsp).latched 57 = true := by
  unfold State.hfEnds
  split
  · obtain ⟨shows, last, -, told⟩ := State.hfEnd_shows runs status []
    have K := (Writes.refl (· ∈ Reg.HOP_SEQ :: Reg.HF_CARD_COUNT :: fieldKeys) (s.hfEnd status [])).closeSession
      (fun k mem => by simp [mem]) (by simp) (by simp)
    obtain ⟨-, op, -⟩ := (s.hfEnd status []).closeSession_closed
    exact ⟨op.trans (s.hfEnd_op ..), (K.get _ (by decide)).trans shows, (K.get _ (by decide)).trans last,
      (Upholds.refl _).closeSession.latched 57 told⟩
  · obtain ⟨shows, last, -, told⟩ := State.hfEnd_shows runs status rsp
    exact ⟨s.hfEnd_op .., shows, last, told⟩

/-- The duration of an operation that was never written is a free value (R405). -/
def State.freeDuration (s : State) : State := s.draw.2.put Reg.HF_OP_DURATION (s.draw.1 % 2 ^ 32)

theorem State.freeDuration_hf (s : State) : s.freeDuration.hf = s.hf := rfl

theorem State.get_freeDuration (s : State) {k : Nat} (apart : k ≠ Reg.HF_OP_DURATION) : s.freeDuration.get k = s.get k :=
  State.get_put_ne _ _ apart

/-- Settles O31, by what each frame and each end makes of the running operation. -/
theorem hfFramesAndEnds : Obligations.HfFramesAndEnds := by
  refine ⟨fun frame code s busy notRaw => ?_, fun frame code s busy => ?_, fun code s busy left => ?_,
    fun rsp cards more s busy fits => ?_, fun rsp cards more s busy found => ?_, fun s opened idle => ?_,
    fun s guards notBurst => ?_, fun s waits run => ?_⟩
  · have row : exec (.hfFrameReceived frame .good) s =
        .next ((s.checked 1 1 0).updHf fun h => { h with resent := 0 }) := by
      show execHfFrameReceived frame .good s = _
      simp [execHfFrameReceived, busy, notRaw]
    exact ⟨_, row, rfl, show (s.checked 1 1 0).hf.op = s.hf.op from congrArg Hf.op (State.record_hf ..),
      show (s.checked 1 1 0).mode = s.mode from State.record_mode ..⟩
  · obtain ⟨since, runs⟩ := State.op_of_hfBusy busy
    have row : exec (.hfFrameReceived frame .protocol) s = .next (s.hfEnds code 4 []) := by
      show execHfFrameReceived frame .protocol s = _
      simp [execHfFrameReceived, busy]
    exact ⟨_, row, State.hfEnds_shows runs 4 []⟩
  · have row : exec .hfReplyTimeout s = .next (s.updHf fun h => { h with resent := h.resent + 1, badCrc := false }) := by
      show Host.Outcome.next (s.frameFailed false) = _
      simp [State.frameFailed, busy, left]
    exact ⟨_, row, rfl, rfl⟩
  · obtain ⟨since, runs⟩ := State.op_of_hfBusy busy
    have row : exec (.hfOpEnd 0 rsp cards more) s = .next (s.hfEnd 0 rsp) := by
      show execHfOpEnd 0 rsp cards more s = _
      simp [execHfOpEnd, busy, State.hfEnds, Nat.not_lt.2 fits]
    obtain ⟨status, last, response, told⟩ := State.hfEnd_shows runs 0 rsp
    exact ⟨_, row, s.hfEnd_op .., status, last, response.trans (List.take_of_length_le fits), told⟩
  · obtain ⟨since, runs⟩ := State.op_of_hfBusy busy
    let shown := (s.putDom Reg.HF_CARD_LIST (cardList cards more)).put Reg.HF_CARD_COUNT (min 8 cards.length)
    have some_found : min 8 cards.length ≠ 0 := by
      have := List.length_pos_iff.2 found
      omega
    have row : exec (.hfOpEnd 0 rsp cards more) s = .next (shown.hfEnd 0 []) := by
      show execHfOpEnd 0 rsp cards more s = _
      simp only [execHfOpEnd, busy, State.discovered]
      simp [some_found, shown]
    have begun : shown.hf.op = some (1, since) := runs
    obtain ⟨status, -, -, told⟩ := State.hfEnd_shows begun 0 []
    refine ⟨_, row, shown.hfEnd_op .., status, ?_, told⟩
    rw [State.get_hfEnd begun _ _ (by decide) (by decide)]
    exact (State.get_record_ne _ (by decide) (by simp; decide)).trans (State.get_put_self ..)
  · let released := s.updHf fun h => { h with op := some (4, s.tim.now) }
    have row : exec .hfSessionIdle s = .next (released.hfEnd 11 []).freeDuration.closeSession :=
      if_neg (by simp [opened, idle])
    have begun : released.hf.op = some (4, s.tim.now) := rfl
    obtain ⟨status, last, -, -⟩ := State.hfEnd_shows begun 11 []
    have held : (released.hfEnd 11 []).freeDuration.hf.session = true := by
      rw [State.freeDuration_hf, State.hfEnd_session]
      exact opened
    obtain ⟨closed, op, -⟩ := (released.hfEnd 11 []).freeDuration.closeSession_closed
    obtain ⟨-, field, kept⟩ := State.closeSession_shows held
    refine ⟨_, row, closed, ?_, field, ?_, ?_⟩
    · rw [op, State.freeDuration_hf, State.hfEnd_op]
    · rw [kept _ (by decide), State.get_freeDuration _ (by decide), status]
    · rw [kept _ (by decide), State.get_freeDuration _ (by decide), last]
  · exact ⟨_, congrArg Host.Outcome.next ((if_neg notBurst).trans (if_pos guards)), rfl⟩
  · let room : State := { s with val := { s.val with hfWaits := false } }
    have row : exec .hfStartDeferred s = .next room.sessionField.replan := if_pos waits
    have kept := (HfKept.mk (s := room.sessionField) rfl rfl).replan
    have stillRun : room.sessionField.mode = .run := ((Quiet.refl room).sessionField).mode_eq.trans run
    obtain ⟨val, tim⟩ := room.sessionField_keeps
    obtain ⟨-, -, up⟩ := room.sessionField_hf_op
    refine ⟨_, row, kept.waits.trans (congrArg Val.hfWaits val), by rw [kept.hf, up]; exact nofun, ?_⟩
    rw [State.replan_run stillRun, (State.usePlan_shows _ _).1, tim]

end Sys2Proof.Machine
end

section
/-! SUPPORT. Breath (R415, R418 to R422), and the statement settled with it. -/

namespace Sys2Proof.Machine

section
variable (s : State) (n : Nat)

/-- Sense pulses are counted with their field time, and nothing else changes. -/
theorem State.pulses_only : (s.pulses n).get Reg.BREATH_PULSES = (s.get Reg.BREATH_PULSES + n) % 2 ^ 32 ∧
    SameBut [Reg.BREATH_PULSES, Reg.BREATH_SEQ, Reg.HF_FIELD_ON_US, Reg.HSTATE_SEQ] s (s.pulses n) :=
  ⟨(State.get_record_ne _ (by decide) (by simp; decide)).trans (State.get_record_one _ _ (by decide)),
    (SameBut.record (by simp) (by simp)).trans (SameBut.record (by simp) (by simp))⟩

theorem State.pulses_hf : (s.pulses n).hf = s.hf := (State.record_hf ..).trans (State.record_hf ..)

theorem State.triggers_pulses (amp phase : Int) : (s.pulses n).triggers amp phase = s.triggers amp phase := by
  obtain ⟨-, same⟩ := s.pulses_only n
  unfold State.triggers State.i16
  rw [s.pulses_hf, same.get_eq (by decide), same.get_eq (by decide)]

end

/-! ### The wake of a detection (R79) -/

/-- The objects that a wake source writes. -/
def wakeKeys : List Nat := Reg.BREATH_SEQ :: Reg.BREATH_STATE :: Reg.WAKE_CAUSE :: fieldKeys

theorem Writes.linksTrain {K : Nat → Prop} {s t : State} (h : Writes K s t) : Writes K s t.linksTrain :=
  h.foldl _ fun _ _ hu => Writes.ite (u := _) (t := State.updHub ..) (hu.congr rfl rfl rfl) hu

section
variable {K : Nat → Prop} {s t : State} (h : Writes K s t) (wakes : ∀ k ∈ wakeKeys, K k)
include h wakes

theorem Writes.stopBreath : Writes K s t.stopBreath := by
  have field : ∀ k ∈ fieldKeys, K k := fun k mem => wakes k (by simp [wakeKeys, mem])
  exact h.ite ((((h.dropField field).updHf _).record (wakes _ (by decide)) (by
    simpa using wakes Reg.BREATH_STATE (by decide))).showHf field)

theorem Writes.wake (bits : Nat) (run : Bool) (l : Option Link) : Writes K s (t.wake bits run l) := by
  have cause := wakes Reg.WAKE_CAUSE (by decide)
  unfold State.wake
  split
  · extract_lets s1
    have woken : Writes K s s1 := ((h.stopBreath wakes).linksTrain).put cause _
    exact woken.congr rfl rfl rfl
  · exact h.ite ((h.put cause _).congr rfl rfl rfl)

theorem Writes.wakeSource (b : Nat) : Writes K s (t.wakeSource b) := by
  unfold State.wakeSource
  refine h.ite ((h.wake wakes ..).ite (Writes.ite ?_ h))
  exact h.congr rfl rfl rfl

end

theorem State.stopBreath_idle {s : State} (idle : s.hf.step = .idle) : s.stopBreath.hf.step = .idle := by
  unfold State.stopBreath
  split
  · exact idle
  · simp

theorem State.linksTrain_hf (s : State) : s.linksTrain.hf = s.hf :=
  List.foldlRecOn (motive := fun t : State => t.hf = s.hf) _ _ rfl fun t ht _ _ => by
    split
    · exact ht
    · exact ht

theorem State.wake_idle {s : State} (idle : s.hf.step = .idle) (bits : Nat) (run : Bool) (l : Option Link) :
    (s.wake bits run l).hf.step = .idle := by
  unfold State.wake
  split
  · exact (congrArg Hf.step s.stopBreath.linksTrain_hf).trans (State.stopBreath_idle idle)
  · split
    · exact idle
    · exact idle

/-- No wake source starts a step of Breath. -/
theorem State.wakeSource_idle {s : State} (idle : s.hf.step = .idle) (b : Nat) : (s.wakeSource b).hf.step = .idle := by
  unfold State.wakeSource
  extract_lets run
  split_ifs
  · exact idle
  · exact State.wake_idle idle ..
  · exact idle
  · exact idle

/-! ### The confirmation (R419, R420) -/

/-- A confirmed detection counts as a trigger, latches event 56 and ends the step. -/
theorem State.cardDetected_shows (s : State) : s.cardDetected.latched 56 = true ∧
    s.cardDetected.get Reg.BREATH_TRIGGERS = (s.get Reg.BREATH_TRIGGERS + 1) % 2 ^ 32 ∧ s.cardDetected.hf.step = .idle := by
  unfold State.cardDetected
  extract_lets s1 n
  let told := (s1.record Reg.BREATH_SEQ [(Reg.BREATH_TRIGGERS, n)]).latch 56 Reg.BREATH_TRIGGERS n
  have K := (Writes.refl (· ∈ wakeKeys) told).wakeSource (fun _ m => m) 0
  have count : s1.get Reg.BREATH_TRIGGERS = s.get Reg.BREATH_TRIGGERS :=
    ((Writes.refl (· ∈ fieldKeys) s).dropField fun _ m => m).get _ (by decide)
  have idle : told.hf.step = .idle := congrArg Hf.step ((State.latch_hf ..).trans (State.record_hf ..))
  refine ⟨?_, ?_, State.wakeSource_idle idle 0⟩
  · rw [State.latched, K.get _ (by decide)]
    exact State.latched_latch ..
  · rw [K.get _ (by decide), State.get_latch_apart _ _ _ _ (by decide), State.get_record_one _ _ (by decide)]
    simp only [n, count]

/-- Settles O33, by what each pulse and each end of a confirmation makes of Breath's step. -/
theorem breathDetection : Obligations.BreathDetection := by
  refine ⟨fun amp phase s watch detecting idle => ?_, fun amp phase s watch second hit tech => ?_, fun s burst => ?_,
    fun b s burst => ?_, fun b s burst => ?_, fun amp phase s watch acquiring => ?_⟩
  · obtain ⟨count, same⟩ := s.pulses_only 1
    have row : exec (.breathPulse amp phase) s = .next (if (s.pulses 1).triggers amp phase then
        (s.pulses 1).updHf fun h => { h with step := .second } else (s.pulses 1).follow amp phase) :=
      if_neg (by simp [watch, detecting, idle])
    have ends (f : Hf → Hf) (first : (f s.hf).step = if s.triggers amp phase then .second else .idle) :
        ((s.pulses 1).updHf f).get Reg.BREATH_PULSES = (s.get Reg.BREATH_PULSES + 1) % 2 ^ 32 ∧
        ((s.pulses 1).updHf f).hf.step = (if s.triggers amp phase then .second else .idle) ∧
        SameBut [Reg.BREATH_PULSES, Reg.BREATH_SEQ, Reg.HF_FIELD_ON_US, Reg.HSTATE_SEQ] s
          { (s.pulses 1).updHf f with hf := s.hf } := by
      have back : ({ (s.pulses 1).updHf f with hf := s.hf } : State) = s.pulses 1 := by
        rw [← s.pulses_hf 1]
        rfl
      rw [back, State.updHf_hf, s.pulses_hf]
      exact ⟨count, first, same⟩
    rw [s.triggers_pulses] at row
    by_cases hit : s.triggers amp phase = true
    · rw [if_pos hit] at row
      exact ⟨_, row, ends _ (if_pos hit).symm⟩
    · rw [if_neg hit] at row
      exact ⟨_, row, ends _ (if_neg hit).symm⟩
  · obtain ⟨count, same⟩ := s.pulses_only 1
    have row : exec (.breathSecondPulse amp phase) s = .next (((s.pulses 1).raiseField ((s.pulses 1).get Reg.HF_TX_POWER_MW)).updHf
        fun h => { h with step := .confirming false }) := by
      refine (if_neg (by simp [watch, second])).trans (congrArg Host.Outcome.next ((if_neg ?_).trans (if_neg ?_)))
      · simp [s.triggers_pulses, hit]
      · rw [same.get_eq (by decide)]
        exact tech
    refine ⟨_, row, rfl, ?_, ?_, ?_⟩
    · simp
    · exact (((Writes.refl (· ∈ fieldKeys) _).raiseField (fun _ m => m) _).get _ (by decide)).trans count
    · rw [State.get_updHf, State.raiseField, State.get_record_one _ _ (by decide), same.get_eq (by decide)]
  · exact ⟨_, congrArg Host.Outcome.next (if_pos burst), rfl⟩
  · have row : exec (.breathConfirmEnd true) s = .next s.cardDetected := by
      show execBreathConfirmEnd true s = _
      simp [execBreathConfirmEnd, burst]
    exact ⟨_, row, s.cardDetected_shows⟩
  · have row : exec (.breathConfirmEnd false) s = .next s.falseDetection := by
      show execBreathConfirmEnd false s = _
      simp [execBreathConfirmEnd, burst]
    refine ⟨_, row, ?_⟩
    unfold State.falseDetection
    extract_lets l back hit s1
    have nodup : [Reg.BREATH_SEQ, Reg.BREATH_FALSE, Reg.BREATH_STATE, Reg.BREATH_PERIOD_NOW].Nodup := by decide
    have count : s1.get Reg.BREATH_FALSE = s.get Reg.BREATH_FALSE :=
      ((Writes.refl (· ∈ fieldKeys) s).dropField fun _ m => m).get _ (by decide)
    refine ⟨?_, State.get_record_of_mem _ nodup (by simp), ?_, ?_⟩
    · rw [← count]
      exact State.get_record_of_mem _ nodup (by simp)
    · exact congrArg Hf.step (State.record_hf s1 ..)
    · rw [State.record_hf, State.updHf_hf, State.dropField_hf]
  · have row : exec (.breathBaselineDone amp phase true) s = .next (((s.pulses 8).updHf fun h =>
        { h with amp := 64 * amp, phase := 64 * phase, again := false, step := .idle }).record Reg.BREATH_SEQ
          [(Reg.BREATH_STATE, 2)]) := if_neg (by simp [watch, acquiring])
    refine ⟨_, row, State.get_record_one _ _ (by decide), ?_⟩
    rw [State.record_hf]
    exact ⟨rfl, rfl, rfl⟩

end Sys2Proof.Machine
end

section
/-! SUPPORT. Slide and the faults of HX (R411 to R417), and the statement settled with them. -/

namespace Sys2Proof.Machine

/-! ### Out of service and back (R413, R414, R417) -/

/-- HX that goes OUT shows the state and the cause, with no Slide calibration left. -/
theorem State.hfOut_shows (s : State) (cause : Nat) : (s.hfOut cause).get Reg.HF_STATE = 5 ∧
    (s.hfOut cause).get Reg.HF_OUT_CAUSE = cause ∧ (s.hfOut cause).hf.calRuns = false := by
  have nodup : [Reg.HSTATE_SEQ, Reg.HF_STATE, Reg.HF_OUT_CAUSE].Nodup := by decide
  exact ⟨State.get_record_of_mem _ nodup (by simp), State.get_record_of_mem _ nodup (by simp),
    (congrArg Hf.calRuns (State.record_hf ..)).trans s.hfFieldFault_calRuns⟩

theorem State.hfFault_shows (s : State) (cause : Nat) : (s.hfFault cause).get Reg.HF_STATE = 5 ∧
    (s.hfFault cause).get Reg.HF_OUT_CAUSE = cause ∧ (s.hfFault cause).latched 59 = true := by
  obtain ⟨state, why, -⟩ := s.hfOut_shows cause
  refine ⟨?_, ?_, State.latched_latch ..⟩
  · rw [State.hfFault, State.get_latch_apart _ _ _ _ (by decide), State.get_record_ne _ (by decide) (by simp; decide), state]
  · rw [State.hfFault, State.get_latch_apart _ _ _ _ (by decide), State.get_record_ne _ (by decide) (by simp; decide), why]

/-- HX that comes back shows no cause, a state in service, and nothing else. -/
theorem State.hfBack_shows (s : State) : s.hfBack.get Reg.HF_OUT_CAUSE = 0 ∧ s.hfBack.get Reg.HF_STATE ≠ 5 ∧
    SameBut [Reg.HF_OUT_CAUSE, Reg.HF_STATE, Reg.HSTATE_SEQ] s s.hfBack := by
  let back := s.record Reg.HSTATE_SEQ [(Reg.HF_STATE, 1), (Reg.HF_OUT_CAUSE, 0)]
  have nodup : [Reg.HSTATE_SEQ, Reg.HF_STATE, Reg.HF_OUT_CAUSE].Nodup := by decide
  have state : back.get Reg.HF_STATE = 1 := State.get_record_of_mem _ nodup (by simp)
  have shown : SameBut [Reg.HF_STATE, Reg.HSTATE_SEQ] back back.showHf := by
    unfold State.showHf
    rw [if_neg (by simp [state])]
    exact SameBut.recordIf (by simp) (by simp)
  have recorded : SameBut [Reg.HF_OUT_CAUSE, Reg.HF_STATE, Reg.HSTATE_SEQ] s back := SameBut.record (by simp) (by simp)
  refine ⟨?_, State.showHf_in _ (by rw [state]; decide), recorded.trans (shown.mono (by simp))⟩
  exact (shown.get_eq (by decide)).trans (State.get_record_of_mem _ nodup (by simp))

/-- Event 58 counts a mismatch, and leaves HX's state (R412, R413). -/
theorem State.slideMismatch_always (s : State) : (s.slideMismatch true).latched 58 = true ∧
    (s.slideMismatch true).hf.calRuns = s.hf.calRuns ∧
    ∀ k, 0x260300 ≤ k → k ∉ [Reg.SLIDE_MISMATCH_COUNT, Reg.SLIDE_SEQ] → (s.slideMismatch true).get k = s.get k := by
  unfold State.slideMismatch
  rw [if_neg (by simp)]
  refine ⟨State.latched_latch .., ?_, fun k above apart => ?_⟩
  · rw [State.latch_hf, State.record_hf]
    rfl
  · simp only [List.mem_cons, List.not_mem_nil, or_false, not_or] at apart
    rw [State.get_latch_apart _ _ _ _ (.inr (.inr above)), State.get_record_ne _ apart.2 (by simpa using Ne.symm apart.1)]
    rfl

/-! ### The impedance (R411 to R413) -/

/-- An impedance between the cut limits is shown (R413). -/
theorem State.slideSeen_within {s : State} {phase z : Nat} (low : s.get Reg.SLIDE_Z_CUT_LOW ≤ z)
    (high : z ≤ s.get Reg.SLIDE_Z_CUT_HIGH) :
    s.slideSeen phase z = s.record Reg.SLIDE_SEQ [(Reg.SLIDE_PHASE, phase), (Reg.SLIDE_Z, z)] := by
  have same : SameBut [Reg.SLIDE_PHASE, Reg.SLIDE_Z, Reg.SLIDE_SEQ] s
      (s.record Reg.SLIDE_SEQ [(Reg.SLIDE_PHASE, phase), (Reg.SLIDE_Z, z)]) := SameBut.record (by simp) (by simp)
  refine if_neg ?_
  rw [same.get_eq (by decide), same.get_eq (by decide)]
  simp
  omega

/-- The code that a tracking tick steps (R411). -/
def State.trackedCode (s : State) (dcs dcp : Int) : Nat × Nat :=
  if dcs ≠ 0 then (Reg.SLIDE_CS, stepCode (s.get Reg.SLIDE_CS) dcs) else (Reg.SLIDE_CP, stepCode (s.get Reg.SLIDE_CP) dcp)

theorem State.track_keeps (s : State) (dcs dcp : Int) : SameBut [Reg.SLIDE_CS, Reg.SLIDE_CP, Reg.SLIDE_PHASE, Reg.SLIDE_Z,
    Reg.SLIDE_SEQ] s (s.recordIf Reg.SLIDE_SEQ [s.trackedCode dcs dcp]) := by
  refine SameBut.recordIf (by simp) ?_
  unfold State.trackedCode
  split <;> simp

/-- At most one code takes one step (R411). -/
theorem State.track_steps (s : State) (dcs dcp : Int) :
    (s.recordIf Reg.SLIDE_SEQ [s.trackedCode dcs dcp]).get Reg.SLIDE_CS =
      (if dcs ≠ 0 then stepCode (s.get Reg.SLIDE_CS) dcs else s.get Reg.SLIDE_CS) ∧
    (s.recordIf Reg.SLIDE_SEQ [s.trackedCode dcs dcp]).get Reg.SLIDE_CP =
      (if dcs ≠ 0 then s.get Reg.SLIDE_CP else stepCode (s.get Reg.SLIDE_CP) dcp) := by
  unfold State.trackedCode
  split
  · exact ⟨State.get_recordIf_one _ _ (by decide), State.get_recordIf_ne _ (by decide) (by simp; decide)⟩
  · exact ⟨State.get_recordIf_ne _ (by decide) (by simp; decide), State.get_recordIf_one _ _ (by decide)⟩

/-- A tracking tick within the limits steps a code, ends the excess and shows the impedance (R411 to R413). -/
theorem exec_slideTrackTick {s : State} {dcs dcp phase : Int} {z : BitVec 16} (up : s.hf.fieldAt ≠ none)
    (free : s.hf.calRuns = false) (awake : s.mode ≠ .watch) (inService : s.get Reg.HF_STATE ≠ 5)
    (low : s.get Reg.SLIDE_Z_CUT_LOW ≤ z.toNat) (high : z.toNat ≤ s.get Reg.SLIDE_Z_CUT_HIGH)
    (warn : (phase.natAbs : Int) ≤ s.i16 Reg.SLIDE_PHASE_WARN) : exec (.slideTrackTick dcs dcp phase z) s =
      .next (((s.recordIf Reg.SLIDE_SEQ [s.trackedCode dcs dcp]).updHf fun h => { h with excess := 0 }).record Reg.SLIDE_SEQ
        [(Reg.SLIDE_PHASE, ofInt 16 phase), (Reg.SLIDE_Z, z.toNat)]) := by
  have same := s.track_keeps dcs dcp
  have within : ¬ (s.recordIf Reg.SLIDE_SEQ [s.trackedCode dcs dcp]).i16 Reg.SLIDE_PHASE_WARN < phase.natAbs := by
    rw [State.i16, same.get_eq (by decide)]
    exact not_lt.2 warn
  have code : (if (dcs != 0) = true then [(Reg.SLIDE_CS, stepCode (s.get Reg.SLIDE_CS) dcs)]
      else [(Reg.SLIDE_CP, stepCode (s.get Reg.SLIDE_CP) dcp)]) = [s.trackedCode dcs dcp] := by
    unfold State.trackedCode
    by_cases e : dcs = 0 <;> simp [e]
  have up' : s.hf.fieldAt.isNone = false := by simpa using Option.ne_none_iff_isSome.1 up
  refine (if_neg (by simp [up', free, awake, inService])).trans (congrArg Host.Outcome.next ?_)
  simp only [code, if_neg within]
  rw [State.slideSeen_within]
  · exact if_neg (by simp)
  · rw [State.get_updHf, same.get_eq (by decide)]
    exact low
  · rw [State.get_updHf, same.get_eq (by decide)]
    exact high

/-! ### The full calibration (R415 to R417) -/

/-- A full calibration that the driver's limits let pass sets both codes and drops the field it raised (R412, R415). -/
theorem State.slideCalPasses_drops {s : State} {cs cp phase z temp : Nat} (idle : s.hf.op = none) (noTest : s.hf.test = false)
    (inService : s.get Reg.HF_STATE ≠ 5) (low : s.get Reg.SLIDE_Z_CUT_LOW ≤ z) (high : z ≤ s.get Reg.SLIDE_Z_CUT_HIGH)
    (warn : ((toInt 16 phase).natAbs : Int) ≤ s.i16 Reg.SLIDE_PHASE_WARN) : s.slideCalPasses cs cp phase z temp =
      ((((s.updHf fun h => { h with calRuns := false }).record Reg.SLIDE_SEQ [(Reg.SLIDE_CS, cs), (Reg.SLIDE_CP, cp),
        (Reg.SLIDE_CAL_TEMP, temp), (Reg.SLIDE_CAL_TIME, s.tim.now)]).record Reg.SLIDE_SEQ
          [(Reg.SLIDE_PHASE, phase), (Reg.SLIDE_Z, z)])).dropField := by
  let codes := (s.updHf fun h => { h with calRuns := false }).record Reg.SLIDE_SEQ [(Reg.SLIDE_CS, cs), (Reg.SLIDE_CP, cp),
    (Reg.SLIDE_CAL_TEMP, temp), (Reg.SLIDE_CAL_TIME, s.tim.now)]
  let seen := codes.record Reg.SLIDE_SEQ [(Reg.SLIDE_PHASE, phase), (Reg.SLIDE_Z, z)]
  let K : List Nat := [Reg.SLIDE_SEQ, Reg.SLIDE_CS, Reg.SLIDE_CP, Reg.SLIDE_CAL_TEMP, Reg.SLIDE_CAL_TIME, Reg.SLIDE_PHASE, Reg.SLIDE_Z]
  have first : Writes (· ∈ K) s codes := ((Writes.refl _ s).updHf _).record (by simp [K]) (by simp [K])
  have second : Writes (· ∈ K) s seen := first.record (by simp [K]) (by simp [K])
  have shown : codes.slideSeen phase z = seen := State.slideSeen_within (by rw [first.get _ (by decide)]; exact low)
    (by rw [first.get _ (by decide)]; exact high)
  have within : ¬ seen.i16 Reg.SLIDE_PHASE_WARN < (toInt 16 phase).natAbs := by
    rw [State.i16, second.get _ (by decide)]
    exact not_lt.2 warn
  have hf : seen.hf = { s.hf with calRuns := false } := (State.record_hf ..).trans (State.record_hf ..)
  have state : seen.get Reg.HF_STATE ≠ 5 := by rwa [second.get _ (by decide)]
  show _ = seen.dropField
  unfold State.slideCalPasses
  extract_lets s2 s3 s4
  have s2_eq : s2 = seen := shown
  have s3_eq : s3 = seen := by simp only [s3, s2_eq]; exact if_neg fun h => within (of_decide_eq_true (Bool.and_eq_true_iff.1 h).1)
  have s4_eq : s4 = seen := by simp only [s4, s3_eq]; exact if_neg (by simp [state])
  rw [s4_eq, if_neg (by simp [hf, idle]), if_neg (by simp [hf, noTest])]

section
variable {s : State} {cs cp : Nat} {phase z temp : Nat} (idle : s.hf.op = none) (noTest : s.hf.test = false)
  (inService : s.get Reg.HF_STATE ≠ 5) (low : s.get Reg.SLIDE_Z_CUT_LOW ≤ z) (high : z ≤ s.get Reg.SLIDE_Z_CUT_HIGH)
  (warn : ((toInt 16 phase).natAbs : Int) ≤ s.i16 Reg.SLIDE_PHASE_WARN)
include idle noTest inService low high warn

theorem State.slideCalPasses_shows : (s.slideCalPasses cs cp phase z temp).hf.calRuns = false ∧
    (s.slideCalPasses cs cp phase z temp).get Reg.SLIDE_CS = cs ∧ (s.slideCalPasses cs cp phase z temp).get Reg.SLIDE_CP = cp ∧
    (s.slideCalPasses cs cp phase z temp).get Reg.SLIDE_CAL_TEMP = temp ∧
    (s.slideCalPasses cs cp phase z temp).get Reg.SLIDE_CAL_TIME = s.tim.now ∧
    (s.slideCalPasses cs cp phase z temp).hf.fieldAt = none := by
  have codes : [Reg.SLIDE_SEQ, Reg.SLIDE_CS, Reg.SLIDE_CP, Reg.SLIDE_CAL_TEMP, Reg.SLIDE_CAL_TIME].Nodup := by decide
  have seen (t : State) : Writes (· ∈ fieldKeys) t (t.record Reg.SLIDE_SEQ [(Reg.SLIDE_PHASE, phase), (Reg.SLIDE_Z, z)]).dropField :=
    ((Writes.refl _ t).record (by decide) (by simp; decide)).dropField fun _ m => m
  rw [State.slideCalPasses_drops idle noTest inService low high warn]
  refine ⟨?_, ?_, ?_, ?_, ?_, ?_⟩
  · rw [State.dropField_hf, State.record_hf, State.record_hf]
    rfl
  · exact ((seen _).get _ (by decide)).trans (State.get_record_of_mem _ codes (by simp))
  · exact ((seen _).get _ (by decide)).trans (State.get_record_of_mem _ codes (by simp))
  · exact ((seen _).get _ (by decide)).trans (State.get_record_of_mem _ codes (by simp))
  · exact ((seen _).get _ (by decide)).trans (State.get_record_of_mem _ codes (by simp))
  · rw [State.dropField_hf]

end

/-- A frame holds beside HX's own part and the free values drawn. -/
theorem SameBut.withHf {ks : List Nat} {s t : State} (h : SameBut ks s t) (x : Hf) (n : Nat) :
    SameBut ks { s with hf := x, free := n } { t with hf := x, free := n } :=
  ⟨h.1, congrArg (fun u : State => { u with hf := x, free := n }) h.2⟩

/-- A full calibration repeated after a failure: its codes are free values (R417). -/
def State.recalibrated (s : State) : State :=
  (s.draw.2.updHf fun h => { h with calDue := false }).record Reg.SLIDE_SEQ
    [(Reg.SLIDE_CS, s.draw.1 % 64), (Reg.SLIDE_CP, s.draw.1 / 64 % 64), (Reg.SLIDE_CAL_TEMP, s.get Reg.HF_DIE_TEMP),
     (Reg.SLIDE_CAL_TIME, s.tim.now)]

theorem State.recalibrated_shows (s : State) : s.recalibrated.get Reg.SLIDE_CAL_TIME = s.tim.now ∧
    s.recalibrated.get Reg.SLIDE_CAL_TEMP = s.get Reg.HF_DIE_TEMP ∧
    SameBut [Reg.HF_OUT_CAUSE, Reg.HF_STATE, Reg.HSTATE_SEQ, Reg.SLIDE_CS, Reg.SLIDE_CP, Reg.SLIDE_CAL_TEMP, Reg.SLIDE_CAL_TIME,
      Reg.SLIDE_SEQ] s { s.recalibrated with hf := s.hf, free := s.free } := by
  have nodup : [Reg.SLIDE_SEQ, Reg.SLIDE_CS, Reg.SLIDE_CP, Reg.SLIDE_CAL_TEMP, Reg.SLIDE_CAL_TIME].Nodup := by decide
  have shown : SameBut [Reg.HF_OUT_CAUSE, Reg.HF_STATE, Reg.HSTATE_SEQ, Reg.SLIDE_CS, Reg.SLIDE_CP, Reg.SLIDE_CAL_TEMP,
      Reg.SLIDE_CAL_TIME, Reg.SLIDE_SEQ] (s.draw.2.updHf fun h => { h with calDue := false }) s.recalibrated :=
    SameBut.record (by simp) (by simp)
  exact ⟨State.get_record_of_mem _ nodup (by simp), State.get_record_of_mem _ nodup (by simp), shown.withHf s.hf s.free⟩

/-- Settles O32, by what each step of Slide and each fault of HX makes of its objects. -/
theorem slideAndHfFaults : Obligations.SlideAndHfFaults := by
  refine ⟨fun dcs dcp phase z s up free awake inService low high warn => ?_, fun why s hx inService => ?_,
    fun l s serves hx out cause => ?_, fun s hx inService unlocks => ?_, fun s out cause => ?_,
    fun s out cause enabled mode => ?_, fun l s serves hx mode noSession free inService enabled => ?_,
    fun cs cp phase temp z s runs idle noTest inService low high warn => ?_, fun cs cp phase temp z s runs => ?_⟩
  · let stepped := s.recordIf Reg.SLIDE_SEQ [s.trackedCode dcs dcp]
    let quiet := stepped.updHf fun h => { h with excess := 0 }
    obtain ⟨cs, cp⟩ := s.track_steps dcs dcp
    have nodup : [Reg.SLIDE_SEQ, Reg.SLIDE_PHASE, Reg.SLIDE_Z].Nodup := by decide
    have seen (t : State) : SameBut [Reg.SLIDE_CS, Reg.SLIDE_CP, Reg.SLIDE_PHASE, Reg.SLIDE_Z, Reg.SLIDE_SEQ] t
        (t.record Reg.SLIDE_SEQ [(Reg.SLIDE_PHASE, ofInt 16 phase), (Reg.SLIDE_Z, z.toNat)]) := SameBut.record (by simp) (by simp)
    refine ⟨_, exec_slideTrackTick up free awake inService low high warn, ?_, ?_, State.get_record_of_mem _ nodup (by simp),
      State.get_record_of_mem _ nodup (by simp), ?_, ?_⟩
    · exact (State.get_record_ne _ (by decide) (by simp; decide)).trans cs
    · exact (State.get_record_ne _ (by decide) (by simp; decide)).trans cp
    · rw [State.record_hf, State.updHf_hf]
    · have back : ({ quiet.record Reg.SLIDE_SEQ [(Reg.SLIDE_PHASE, ofInt 16 phase), (Reg.SLIDE_Z, z.toNat)] with hf := s.hf } : State) =
          stepped.record Reg.SLIDE_SEQ [(Reg.SLIDE_PHASE, ofInt 16 phase), (Reg.SLIDE_Z, z.toNat)] := by
        rw [← (State.recordIf_hf s Reg.SLIDE_SEQ [s.trackedCode dcs dcp])]
        rfl
      rw [back]
      exact (s.track_keeps dcs dcp).trans (seen _)
  · let cause := if why = DriverFault.supply then 5 else 3
    have row : exec (.hfDriverFault why) s = .next (s.hfFault cause) := by
      show execHfDriverFault why s = _
      unfold execHfDriverFault
      simp only [hx, inService]
      cases why <;> rfl
    exact ⟨_, row, s.hfFault_shows _⟩
  · obtain ⟨none_, state, same⟩ := s.hfBack_shows
    have work : s.hfFaultClear 1 = (.ok, s.hfBack) := by
      refine (checks_pass (by simp [hx])).trans (congrArg (Prod.mk _) ?_)
      simp [out, cause]
    refine ⟨_, congrArg Host.Outcome.next (State.request_quiet serves work ((Quiet.refl s).record ..).showHf),
      State.answered_answer .., ?_, ?_, same.answer l .ok⟩
    · rw [State.get_answer_above _ _ _ (by decide), none_]
    · rwa [State.get_answer_above _ _ _ (by decide)]
  · have row : exec .hfPllUnlock s =
        .next (((s.hfFieldFault).updHf fun h => { h with unlocks := [s.tim.now] }).latch 22 Reg.HF_OUT_CAUSE 1) := by
      show execHfPllUnlock s = _
      simp [execHfPllUnlock, hx, inService, unlocks]
    refine ⟨_, row, State.latched_latch .., ?_⟩
    rw [State.latch_hf, State.updHf_hf]
  · have row : exec (.hfRecoveryRetry true) s = .next s.hfBack := by
      show execHfRecoveryRetry true s = _
      simp [execHfRecoveryRetry, out, cause]
    exact ⟨_, row, s.hfBack_shows⟩
  · have mode' : (s.mode = .ready || s.mode = .run) = true := by rcases mode with e | e <;> simp [e]
    have row : exec (.hfRecoveryRetry true) s = .next s.recalibrated.hfBack := by
      show execHfRecoveryRetry true s = _
      simp [execHfRecoveryRetry, out, cause, enabled, mode', State.slideRetry, State.recalibrated]
    obtain ⟨none_, state, same⟩ := s.recalibrated.hfBack_shows
    obtain ⟨time, temp, shown⟩ := s.recalibrated_shows
    exact ⟨_, row, none_, state, (same.get_eq (by decide)).trans time, (same.get_eq (by decide)).trans temp,
      shown.trans ((same.withHf s.hf s.free).mono (by simp))⟩
  · have open_mode : (s.mode != .ready && s.mode != .run) = false := by
      rcases mode with e | e <;> simp [e]
    have work : s.slideRetune 1 = (.ok, s.startSlide) := by
      refine (checks_pass (by simp [hx, open_mode, noSession, free])).trans (congrArg (Prod.mk _) ?_)
      exact if_neg (by simp [inService, enabled])
    refine ⟨_, congrArg Host.Outcome.next (State.request_quiet serves work (Quiet.refl s).startSlide), State.answered_answer .., ?_,
      ?_, ?_, ?_⟩
    · rw [State.answer_hf, State.startSlide_hf]
    · rw [State.answer_hf, State.startSlide_hf]
      exact nofun
    · rw [State.get_answer_above _ _ _ (by decide)]
      exact State.get_record_one _ _ (by decide)
    · have same : SameBut [Reg.HF_TX_POWER_NOW, Reg.HSTATE_SEQ] s { s.startSlide with hf := s.hf } :=
        SameBut.record (l := [(Reg.HF_TX_POWER_NOW, 20)]) (by simp) (by simp)
      exact same.answer l .ok
  · have row : exec (.slideCalDone true cs cp phase z temp) s =
        .next (s.slideCalPasses cs cp (ofInt 16 phase) z.toNat (ofInt 16 temp)) :=
      (if_neg (by simp [runs])).trans (congrArg Host.Outcome.next (if_pos rfl))
    exact ⟨_, row, State.slideCalPasses_shows idle noTest inService low high warn⟩
  · let ended := s.updHf fun h => { h with calRuns := false }
    have row : exec (.slideCalDone false cs cp phase z temp) s = .next (((ended.hfOut 4).latch 21 Reg.HF_OUT_CAUSE 4).slideMismatch true) :=
      (if_neg (by simp [runs])).trans (congrArg Host.Outcome.next (if_neg nofun))
    obtain ⟨state, cause, cal⟩ := ended.hfOut_shows 4
    obtain ⟨told, kept, get⟩ := ((ended.hfOut 4).latch 21 Reg.HF_OUT_CAUSE 4).slideMismatch_always
    refine ⟨_, row, ?_, ?_, ?_, told⟩
    · rw [kept, State.latch_hf, cal]
    · rw [get _ (by decide) (by decide), State.get_latch_apart _ _ _ _ (by decide), cause]
    · rw [get _ (by decide) (by decide), State.get_latch_apart _ _ _ _ (by decide), state]

end Sys2Proof.Machine
end

section
/-! SUPPORT. What a read of MODE_CURRENT gives in each way of reading (R131 to R133, R432), the SPI target port (R430 to R438), and
the statement settled with them. -/

namespace Sys2Proof.Machine

/-! ### The checking units' counts (R512) -/

/-- A check counts in a group of its own unit's. -/
theorem State.get_checked_apart (s : State) {u n bad k : Nat} (unit : u ≤ 3) (apart : k < 0x230000 ∨ 0x230400 ≤ k) :
    (s.checked u n bad).get k = s.get k := by
  unfold State.checked
  extract_lets w
  have small : w ≤ 3 := by
    simp only [w]
    split
    · exact le_refl 3
    · exact unit
  refine State.get_record_ne _ ?_ ?_
  · simp only [Reg.CHK_SEQ]
    omega
  · simp only [List.forall_mem_cons, List.not_mem_nil, false_implies, implies_true, and_true, Reg.CHK_CHECKED, Reg.CHK_FAILED]
    omega

/-! ### MODE_CURRENT read whole, by entry and by count -/

theorem modeCurrent_plain : Reg.MODE_CURRENT ≠ Reg.HOT_READ ∧
    ((List.range 3).any fun i => decide (Reg.MODE_CURRENT = Reg.REPORT_NEXT i)) = false := by
  decide

/-- MODE_CURRENT is a U8 that every variant has in every mode, and its value comes from the snapshot of the request. -/
theorem State.object_modeCurrent (s : State) : ∃ f, s.object Reg.MODE_CURRENT = some f ∧ f.row.ty = .u8 ∧
    ∀ (l : Link) (t : State), t.variant = s.variant → s.readFrom t l Reg.MODE_CURRENT f = (.ok, [BitVec.ofNat 8 (Mode.code t.mode)], s) := by
  obtain ⟨f, found, shape⟩ := (Option.any_eq_true ..).1 find_modeCurrent
  simp only [Bool.and_eq_true, decide_eq_true_eq, bne_iff_ne] at shape
  obtain ⟨⟨⟨group, row⟩, -⟩, type⟩ := shape
  have object (t : State) : t.object Reg.MODE_CURRENT = some f := by
    simp [State.object, found, Found.present, group, row, Pres.holds]
  have read (t : State) (l : Link) : t.readFound l Reg.MODE_CURRENT f = (.ok, [BitVec.ofNat 8 (Mode.code t.mode)], t) := by
    have whole := t.readObj_modeCurrent l
    rwa [State.readObj, object t] at whole
  obtain ⟨notHot, notNext⟩ := modeCurrent_plain
  refine ⟨f, object s, type, fun l t _ => ?_⟩
  unfold State.readFrom
  rw [read, read, if_neg (by simp [notHot, notNext])]

/-- An entry of a READ that asks for MODE_CURRENT (R432). -/
theorem State.readEntry_modeCurrent (s : State) (l : Link) {n : Nat} (asks : n ≠ 0) :
    s.readEntry s l Reg.MODE_CURRENT 0 n = (.ok, [BitVec.ofNat 8 (Mode.code s.mode)], s) := by
  obtain ⟨f, object, type, read⟩ := s.object_modeCurrent
  have fits : ¬ n < 1 := by omega
  simp only [State.readEntry, object, type, ObjTy.size, Option.getD_some, bne_self_eq_false, Bool.false_or, decide_eq_true_eq, fits,
    if_false, read l s rfl]

/-- A counted read of one byte from MODE_CURRENT (R133). -/
theorem State.readCount_modeCurrent (s : State) (l : Link) :
    s.readCount l Reg.MODE_CURRENT 1 = (.ok, [BitVec.ofNat 8 (Mode.code s.mode)], s) := by
  obtain ⟨f, object, type, read⟩ := s.object_modeCurrent
  have members : ∃ ks, (List.range (255 - Reg.MODE_CURRENT % 256)).map (Reg.MODE_CURRENT + ·) =
      Reg.MODE_CURRENT :: (Reg.MODE_CURRENT + 1) :: ks := ⟨_, rfl⟩
  obtain ⟨ks, list⟩ := members
  simp [State.readCount, list, State.packFrom, object, read l s rfl, packed, type, Result.first]

/-! ### Transactions (R430, R436) -/

theorem padTo_length (b : Bytes) : padTo b.length b = b := by simp [padTo]

/-- A request that executes is of its operation and stands. -/
theorem State.spt_of_sptOp {s : State} {opc : Nat} {q : SptReq} (op : s.sptOp opc = some q) : s.io.spt = some q ∧ q.opc = opc := by
  unfold State.sptOp at op
  simpa [Option.filter_eq_some_iff] using op

/-- A request that is answered whole leaves its response held and none executing, beside the link's last result (R436). -/
theorem State.sptEnd_shows {s : State} (released : s.sys.phase = .released) (q : SptReq) (r : Result) (body : Bytes) :
    (s.sptEnd q r body).io.spt = none ∧ (s.sptEnd q r body).io.rsp = some ⟨q.opc, q.tag, Result.code r, body⟩ ∧
    (s.sptEnd q r body).get Reg.SPT_LAST_RESULT = Result.code r ∧ (s.sptEnd q r body).mode = s.mode ∧
    ∀ k, k ≠ Reg.SPT_LAST_RESULT → (s.sptEnd q r body).get k = s.get k := by
  have ends : s.sptEnd q r body =
      { s.answer .spt r with io := { s.io with spt := none, rsp := some ⟨q.opc, q.tag, Result.code r, body⟩ } } := by
    unfold State.sptEnd
    rw [if_neg (by simp [released])]
    exact if_neg (by simp [State.answer, State.put, released])
  rw [ends]
  exact ⟨rfl, rfl, s.get_answer_self .spt r, rfl, fun k ne => s.get_answer_ne (l := .spt) r ne⟩

/-- A frame that is accepted outside WATCH executes; SPT_FRAMES counts, and the alive field is kept (R435, R515). -/
theorem State.sptAccept_shows {s : State} {b : Bytes} (awake : s.mode ≠ .watch) (idle : s.sys.trans = none) (known : field b 0 1 ≤ 3) :
    (s.sptAccept b).io.spt = some ⟨field b 0 1, field b 1 1, slice b 6 (field b 4 2), s.tim.now, 0⟩ ∧
    (s.sptAccept b).get Reg.SPT_FRAMES = (s.get Reg.SPT_FRAMES + 1) % 2 ^ 32 ∧
    (s.sptAccept b).get Reg.SPT_ALIVE_LAST = field b 2 1 ∧ (s.sptAccept b).mode = s.mode := by
  unfold State.sptAccept
  extract_lets s1 q s2
  have s1_mode : s1.mode = s.mode := (State.record_mode ..).trans (State.puts_mode ..)
  have s1_sys : s1.sys = s.sys := (State.record_sys ..).trans (State.puts_sys ..)
  have s2_eq : s2 = s1 := State.wakeSource_awake 5 (by rwa [s1_mode]) (by rwa [s1_sys])
  rw [if_neg (not_lt.2 known), s2_eq]
  refine ⟨rfl, ?_, ?_, s1_mode⟩
  · exact State.get_record_one (k := Reg.SPT_FRAMES) _ _ (by decide)
  · exact (State.get_record_ne _ (by decide) (by simp; decide)).trans (s.get_puts_two _ _ (by decide)).1

/-- A frame whose CRC fails is counted, with event 50, and a CHECK response held (R437). -/
theorem State.sptReject_shows {s : State} (released : s.sys.phase = .released) (b : Bytes) :
    (s.sptReject 1 b).io.spt = none ∧ (s.sptReject 1 b).get Reg.SPT_FRAME_ERRORS = (s.get Reg.SPT_FRAME_ERRORS + 1) % 2 ^ 32 ∧
    (s.sptReject 1 b).get Reg.SPT_LAST_ERROR = 1 ∧ (s.sptReject 1 b).latched 50 = true ∧
    (s.sptReject 1 b).io.rsp = some ⟨received b 0, received b 1, Result.code Result.check, []⟩ := by
  have nodup : [Reg.SPT_SEQ, Reg.SPT_FRAME_ERRORS, Reg.SPT_LAST_ERROR].Nodup := by decide
  let held := s.sptAnswer ⟨received b 0, received b 1, [], 0, 0⟩ .check []
  have held_eq : held = { s with io := { s.io with spt := none, rsp := some ⟨received b 0, received b 1, Result.code .check, []⟩ } } :=
    if_neg (by simp [released])
  have run : s.sptReject 1 b = (held.record Reg.SPT_SEQ [(Reg.SPT_FRAME_ERRORS, (s.get Reg.SPT_FRAME_ERRORS + 1) % 2 ^ 32),
      (Reg.SPT_LAST_ERROR, 1)]).latch 50 Reg.SPT_FRAME_ERRORS ((s.get Reg.SPT_FRAME_ERRORS + 1) % 2 ^ 32) := rfl
  rw [run]
  refine ⟨?_, ?_, ?_, State.latched_latch .., ?_⟩
  · rw [State.latch_io, State.record_io, held_eq]
  · rw [State.get_latch_ne _ _ _ _ (by decide)]
    exact State.get_record_of_mem _ nodup (by simp)
  · rw [State.get_latch_ne _ _ _ _ (by decide)]
    exact State.get_record_of_mem _ nodup (by simp)
  · rw [State.latch_io, State.record_io, held_eq]

/-- Settles O35, by the frame that a release takes and the answer that each operation ends with. -/
theorem sptFramesAndOperations : Obligations.SptFramesAndOperations := by
  refine ⟨fun mosi s up ready bytes op free sound known idle noReset => ?_, fun mosi s up ready bytes op free bad noReset released => ?_,
    fun mosi s up ready bytes op busy => ?_, fun s up noReset => ?_, fun q s released op entries => ?_,
    fun q s released op awake body => ?_, fun q v s released op awake booted free entries => ?_⟩
  · let seen := (s.shiftOut mosi.length).checked 2 1 0
    have row : exec (.sptSelectRelease mosi) s = .next (seen.sptAccept mosi) := by
      refine (if_neg (by simp [up])).trans (congrArg Host.Outcome.next ((if_neg (by simp [noReset])).trans
        ((if_neg (by simp [bytes, op, ready])).trans ((if_neg (by simp [free])).trans ?_))))
      have whole : (s.shiftOut mosi.length).sptError mosi = 0 := sound
      simp [State.sptFrame, whole, seen, ofBool]
    have same : seen.mode = s.mode ∧ seen.sys = s.sys ∧ seen.tim = s.tim :=
      ⟨State.record_mode .., State.record_sys .., State.record_tim ..⟩
    obtain ⟨mode, sys, tim⟩ := same
    obtain ⟨spt, frames, alive, kept⟩ := State.sptAccept_shows (s := seen) (b := mosi) (by rw [mode, ready]; decide)
      (by rw [sys]; exact idle) known
    refine ⟨_, row, spt.trans ?_, frames.trans ?_, alive, kept.trans mode⟩
    · rw [tim]
      rfl
    · rw [State.get_checked_apart _ (by decide) (by decide)]
      rfl
  · let seen := (s.shiftOut mosi.length).checked 2 1 1
    have row : exec (.sptSelectRelease mosi) s = .next (seen.sptReject 1 mosi) := by
      refine (if_neg (by simp [up])).trans (congrArg Host.Outcome.next ((if_neg (by simp [noReset])).trans
        ((if_neg (by simp [bytes, op, ready])).trans ((if_neg (by simp [free])).trans ?_))))
      have fails : (s.shiftOut mosi.length).sptError mosi = 1 := bad
      simp [State.sptFrame, fails, seen, ofBool]
    have sys : seen.sys = s.sys := State.record_sys ..
    obtain ⟨spt, errors, last, told, rsp⟩ := State.sptReject_shows (s := seen) (by rw [sys, released]) mosi
    refine ⟨_, row, spt, errors.trans ?_, last, told, rsp⟩
    rw [State.get_checked_apart _ (by decide) (by decide)]
    rfl
  · have notAnswered : s.sptAnswered mosi.length = false := by simp [State.sptAnswered, busy]
    have row : exec (.sptSelectRelease mosi) s = .next (s.shiftOut mosi.length).sptDiscard :=
      (if_neg (by simp [up])).trans (congrArg Host.Outcome.next ((if_neg (by simp [notAnswered])).trans
        ((if_neg (by simp [bytes, op, ready])).trans (if_pos busy))))
    have counted : SameBut [Reg.SPT_BUSY_DISCARDS, Reg.SPT_SEQ] s
        { (s.shiftOut mosi.length).sptDiscard with io := s.io, sys := s.sys } :=
      SameBut.record (l := [(Reg.SPT_BUSY_DISCARDS, (s.get Reg.SPT_BUSY_DISCARDS + 1) % 2 ^ 32)]) (by simp) (by simp)
    refine ⟨_, row, ?_, ?_, State.get_record_one _ _ (by decide), counted⟩
    · rw [State.sptDiscard, State.record_io]
      rfl
    · rw [State.sptDiscard, State.record_sys]
      exact bit_setBit_self ..
  · have row : exec .sptFetch s = .next (s.shiftOut s.sptOut.length) := by
      refine congrArg Host.Outcome.next ((if_neg (by simp [up])).trans ?_)
      rw [State.resetsFor_none (by simp [State.shiftOut, noReset]), ite_self]
    exact ⟨_, row, padTo_length _, rfl⟩
  · obtain ⟨-, opc⟩ := State.spt_of_sptOp op
    have row : exec .sptRead s =
        .next (s.sptEnd q .ok [0#8, 0#8, 1#8, 0#8, BitVec.ofNat 8 (Mode.code s.mode)]) := by
      show execSptRead s = _
      have watch : watchKey Reg.MODE_CURRENT = true := by decide
      simp [execSptRead, op, entries, State.readList, watch, s.readEntry_modeCurrent .spt (n := 1) (by decide), Result.first,
        Result.code, leBytes]
    obtain ⟨spt, rsp, last, mode, -⟩ := State.sptEnd_shows released q .ok [0#8, 0#8, 1#8, 0#8, BitVec.ofNat 8 (Mode.code s.mode)]
    exact ⟨_, row, spt, opc ▸ rsp, last, mode⟩
  · obtain ⟨-, opc⟩ := State.spt_of_sptOp op
    have row : exec .sptBlockRead s =
        .next (s.sptEnd q .ok [0#8, 0#8, 1#8, 0#8, BitVec.ofNat 8 (Mode.code s.mode)]) := by
      have len : q.body.length = 6 := by rw [body]; rfl
      have reserved : field q.body 3 1 = 0 := by rw [body]; rfl
      have count : field q.body 4 2 = 1 := by rw [body]; rfl
      have key : field q.body 0 2 * 256 + field q.body 2 1 = Reg.MODE_CURRENT := by rw [body]; rfl
      show execSptBlockRead s = _
      simp [execSptBlockRead, op, len, reserved, count, key, awake, s.readCount_modeCurrent, Result.code, leBytes]
    obtain ⟨spt, rsp, -⟩ := State.sptEnd_shows released q .ok [0#8, 0#8, 1#8, 0#8, BitVec.ofNat 8 (Mode.code s.mode)]
    exact ⟨_, row, spt, opc ▸ rsp⟩
  · obtain ⟨-, opc⟩ := State.spt_of_sptOp op
    have row : exec .sptWrite s = .next ((s.put Reg.HOT_CURSOR v.toNat).sptEnd q .ok (failEntry 0xFF)) := by
      show execSptWrite s = _
      simp [execSptWrite, op, entries, awake, State.writeList, s.write_hotCursor, Result.first, free]
    obtain ⟨spt, rsp, -, -, kept⟩ := State.sptEnd_shows (s := s.put Reg.HOT_CURSOR v.toNat) released q .ok (failEntry 0xFF)
    exact ⟨_, row, spt, opc ▸ rsp, (kept _ (by decide)).trans (State.get_put_self ..)⟩

end Sys2Proof.Machine
end

section
/-! SUPPORT. The two-wire management target (R440 to R449), and the statement settled with it. -/

namespace Sys2Proof.Machine

/-! ### Requests and their replies (R441) -/

/-- A write transaction that the part has taken while it wakes nothing. -/
def State.twaHeard (s : State) : State := (s.twaCount Reg.TWA_REQUESTS).checked 1 1 0

/-- The reply held after a request that its link does not hold as executing. -/
def State.twaReplied (s : State) (r : Result) (more : Bytes) : State :=
  { s.answer .twa r with io := { s.io with twaReply := some (BitVec.ofNat 8 (Result.code r) :: more), twaWindow := false } }

section
variable (s : State)

theorem State.twaHeard_keeps : s.twaHeard.mode = s.mode ∧ s.twaHeard.sys = s.sys ∧ s.twaHeard.io = s.io ∧
    s.twaHeard.variant = s.variant := by
  simp [State.twaHeard, State.checked, State.twaCount]

/-- A request counts, and its PEC is checked; no other object changes. -/
theorem State.get_twaHeard {k : Nat} (apart : k < 0x230000 ∨ 0x230400 ≤ k)
    (other : k ≠ Reg.TWA_SEQ ∧ k ≠ Reg.TWA_REQUESTS) : s.twaHeard.get k = s.get k := by
  rw [State.twaHeard, State.get_checked_apart _ (by decide) apart, State.twaCount,
    State.get_record_ne _ other.1 (by simpa using Ne.symm other.2)]

theorem State.twaHeard_counts : s.twaHeard.get Reg.TWA_REQUESTS = (s.get Reg.TWA_REQUESTS + 1) % 2 ^ 32 := by
  rw [State.twaHeard, State.get_checked_apart _ (by decide) (by decide)]
  exact State.get_record_one _ _ (by decide)

theorem State.get_twaReplied (r : Result) (more : Bytes) {k : Nat} (apart : k ≠ Reg.TWA_LAST_RESULT) :
    (s.twaReplied r more).get k = s.get k := State.get_answer_ne (l := .twa) _ _ apart

theorem State.twaReplied_last (r : Result) (more : Bytes) : (s.twaReplied r more).get Reg.TWA_LAST_RESULT = Result.code r :=
  State.get_answer_self s .twa r

/-- The stream bound to a link stands while its configuration does. -/
theorem State.streamOf_twaHeard (l : Link) : s.twaHeard.streamOf l = s.streamOf l := by
  have same (i : Nat) : s.twaHeard.get (Reg.STREAM_ENABLE i) = s.get (Reg.STREAM_ENABLE i) ∧
      s.twaHeard.get (Reg.STREAM_LINK i) = s.get (Reg.STREAM_LINK i) := by
    refine ⟨s.get_twaHeard ?_ ?_, s.get_twaHeard ?_ ?_⟩ <;>
      · simp only [Reg.STREAM_ENABLE, Reg.STREAM_LINK, Reg.TWA_SEQ, Reg.TWA_REQUESTS]
        omega
  simp only [State.streamOf, same]

end

/-- The part acknowledges its address, in READY or RUN, with no transition under way. -/
structure Hears (s : State) : Prop where
  released : s.sys.phase = .released
  hears : s.twaDeaf true = false
  mode : s.mode = .ready ∨ s.mode = .run
  idle : s.sys.trans = none

section
variable {s : State} (h : Hears s)
include h

theorem Hears.awake : s.mode ≠ .watch := by
  obtain ready | run := h.mode
  · simp [ready]
  · simp [run]

theorem Hears.booted : s.mode ≠ .boot := by
  obtain ready | run := h.mode
  · simp [ready]
  · simp [run]

theorem Hears.firing : s.sys.firing ≠ some .twa := by
  have hears := h.hears
  simp only [State.twaDeaf, Bool.or_eq_false_iff, decide_eq_false_iff_not] at hears
  exact hears.1.2

/-- A request that the part takes is carried out and its reply held (R441). -/
theorem Hears.request {f : State → Result × Bytes × State} {r : Result} {more : Bytes} {u : State} (inBoot inWatch : Bool)
    (work : f s.twaHeard = (r, more, u)) (firing : u.sys.firing = s.sys.firing) (phase : u.sys.phase = s.sys.phase) :
    s.twaRequest inBoot inWatch f = u.twaReplied r more := by
  obtain ⟨mode, sys, -, -⟩ := s.twaHeard_keeps
  have accepted : s.twaAccept = s.twaHeard :=
    State.wakeSource_awake 4 (mode.trans_ne h.awake) ((congrArg Sys.trans sys).trans h.idle)
  have asleep : ¬ (s.twaHeard.mode = .watch && !inWatch) = true := by simp [mode, h.awake]
  unfold State.twaRequest
  rw [if_neg (by simp [h.released]), if_neg (by simp [h.hears]), if_neg (by simp [h.booted])]
  simp only [accepted, if_neg asleep, work]
  unfold State.twaEnd
  rw [if_neg (by rw [firing]; exact h.firing), if_neg (by simp [phase, h.released])]
  exact if_neg (by simp [State.answer, State.put, phase, h.released])

/-- MODE_SET of HOLD starts the transition (R55, R59). -/
theorem Hears.holds (commit : s.get Reg.COMMIT_STATE = 0) : ∃ u : State, s.twaHeard.modeRequest .twa 1 = (.ok, u) ∧
    u.sys.firing = s.sys.firing ∧ u.sys.phase = s.sys.phase ∧ u.sys.trans = some ⟨.hold, false, some .twa, 8⟩ ∧
    u.get Reg.MODE_REQUEST = 1 := by
  obtain ⟨mode, sys, -, -⟩ := s.twaHeard_keeps
  have stays : s.twaHeard.mode = .ready ∨ s.twaHeard.mode = .run := by rw [mode]; exact h.mode
  have other : Mode.hold ≠ s.twaHeard.mode := by rcases stays with e | e <;> simp [e]
  have passes : ∀ p ∈ s.twaHeard.modeRefusal .twa .hold, p.1 = false := by
    refine State.modeRefusal_passes nofun ?_ (fun _ => .inl rfl) (by rw [sys]; exact h.idle) ?_ nofun nofun
    · rcases stays with e | e <;> rw [e] <;> rfl
    · rw [s.get_twaHeard (by decide) (by decide), commit]
  have easy : s.twaHeard.mode = .run ∨ s.twaHeard.mode = .ready ∧ Mode.hold ≠ .run ∨ s.twaHeard.mode = .hold ∧ Mode.hold ≠ .ready := by
    rcases stays with e | e <;> simp [e]
  have goes := State.modeRequest_goes (v := 1) rfl other passes
  rw [if_neg (by simp)] at goes
  obtain ⟨quiet, writes⟩ := State.startTrans_moving (s := s.twaHeard.put Reg.MODE_REQUEST 1) (some .twa) 8 easy
  refine ⟨_, goes, ?_, ?_,
    quiet.trans_eq, ?_⟩
  · exact quiet.steady.firing.trans (show s.twaHeard.sys.firing = _ by rw [sys])
  · exact quiet.steady.phase.trans (show s.twaHeard.sys.phase = _ by rw [sys])
  · exact (writes.get _ (by unfold QuadsUp; decide)).trans (State.get_put_self ..)

end

/-! ### Events acknowledged (R560) -/

theorem State.attnFell_only (s : State) (before : Bool) : ∃ x y, s.attnFell before = { s with regs := x, ev := y } := by
  unfold State.attnFell
  split
  · exact s.queueEmcy_only _
  · exact ⟨s.regs, s.ev, rfl⟩

theorem State.get_attnFell (s : State) (before : Bool) {k : Nat} (apart : k ∉ historyKeys) :
    (s.attnFell before).get k = s.get k :=
  (((Writes.refl _ s).queueEmcy _).ite (Writes.refl _ s)).get k apart

/-- What an acknowledge does before the fall of ATTN is told. -/
def State.acked (s : State) (mask : Nat) : State :=
  let t := s.put Reg.EVT_LATCHED (clrMask (s.get Reg.EVT_LATCHED) mask)
  { t with hlt := { t.hlt with procHeld := if mask.testBit 14 then 0 else t.hlt.procHeld }
           sys := { t.sys with unacked := maskOf ((bitsOf 9 t.sys.unacked).filter t.sourceEvent) } }

theorem State.ackEvents_eq (s : State) (mask : Nat) : s.ackEvents mask = (s.acked mask).attnFell s.attn := rfl

/-- An acknowledge clears the latched bits of its mask. -/
theorem State.ackEvents_latched (s : State) (mask : Nat) :
    (s.ackEvents mask).get Reg.EVT_LATCHED = clrMask (s.get Reg.EVT_LATCHED) mask := by
  rw [State.ackEvents_eq, State.get_attnFell _ _ (by decide)]
  exact s.get_put_self Reg.EVT_LATCHED _

/-- Of the part's own registers an acknowledge changes only what waits for one. -/
theorem State.ackEvents_steady (s : State) (mask : Nat) : Steady s (s.ackEvents mask) := by
  obtain ⟨x, y, only⟩ := (s.acked mask).attnFell_only s.attn
  rw [State.ackEvents_eq, only]
  exact ⟨rfl, rfl, rfl⟩

/-! ### Segments and the window (R446, R447) -/

/-- The first segment of a transfer to HOT_CURSOR that fits it is held, and nothing is written yet. -/
theorem State.domSegment_first (s : State) {data : Bytes} (fits : data.length ≤ 8) :
    s.domSegment Reg.HOT_CURSOR 1 data = (.ok, s.setDom (some (Reg.HOT_CURSOR, data))) := by
  have size : s.domMax Reg.HOT_CURSOR = 8 := by simp [State.domMax, s.object_hotCursor, hotCursorRow, ObjTy.size]
  have first : bit 1 0 = true := by decide
  have notLast : bit 1 1 = false := by decide
  simp [State.domSegment, first, notLast, size, fits]

theorem hitsCommand_data {ptr : Nat} (low : 128 ≤ ptr) (high : ptr < 256) : hitsCommand ptr 1 = false := by
  unfold hitsCommand
  simp only [decide_eq_false_iff_not, not_lt]
  omega

/-- A byte written at the mailbox's data is taken there, and the pointer advances (Table 13.7). -/
theorem State.windowWrites_data {s : State} {ptr : Nat} (at_ : s.io.twaPtr = ptr) (low : 128 ≤ ptr) (b : Byte) :
    s.windowWrites [b] = s.updIo fun i =>
      { i with mbxData := (padTo 128 i.mbxData).set (ptr - 128) b, twaPtr := (ptr + 1) % 256 } := by
  have write : s.windowWrite ptr b = s.updIo fun i => { i with mbxData := (padTo 128 i.mbxData).set (ptr - 128) b } := by
    unfold State.windowWrite
    rw [if_neg (by omega), if_neg (by simp; omega), if_neg (by simp; omega), if_pos (by omega)]
  simp only [State.windowWrites, at_, write]
  rfl

theorem address_modeCurrent :
    address (BitVec.ofNat 16 (Reg.MODE_CURRENT / 256)) (BitVec.ofNat 8 (Reg.MODE_CURRENT % 256)) = Reg.MODE_CURRENT := by decide

theorem address_hotCursor :
    address (BitVec.ofNat 16 (Reg.HOT_CURSOR / 256)) (BitVec.ofNat 8 (Reg.HOT_CURSOR % 256)) = Reg.HOT_CURSOR := by decide

theorem watchKey_modeCurrent : watchKey Reg.MODE_CURRENT = true := by decide

theorem hotCursor_notMode : decide (Reg.HOT_CURSOR = Reg.MODE_REQUEST) = false := by decide

/-- Settles O36, by the reply that each request of the two-wire target is answered with. -/
theorem twaRequestsAnswer : Obligations.TwaRequestsAnswer := by
  refine ⟨fun s released hears mode idle => ?_, fun s released hears mode idle commit => ?_, fun s released hears mode idle => ?_,
    fun mask s released hears mode idle => ?_, fun n i s released hears mode idle bound room => ?_,
    fun s released hears mode idle => ?_, fun n s released hears mode idle asks => ?_, fun v s released hears mode idle => ?_,
    fun data s released hears mode idle fits => ?_, fun ptr b s released hears test low idle => ?_,
    fun n s released hears reply awake idle noReset => ?_, fun s released hears awake idle => ?_,
    fun s released hears awake idle => ?_, fun s released => ?_, fun s low => ?_, fun s low => ?_, fun s => ⟨_, rfl, rfl⟩,
    fun s up => ?_⟩
  · have h : Hears s := ⟨released, hears, mode, idle⟩
    obtain ⟨kept, sys, -, -⟩ := s.twaHeard_keeps
    have reply : s.twaHeard.twaStatusBytes = [BitVec.ofNat 8 (Mode.code s.mode), BitVec.ofNat 8 (s.get Reg.HOLD_REASON)] := by
      rw [State.twaStatusBytes, kept, s.get_twaHeard (by decide) (by decide)]
      rfl
    refine ⟨_, congrArg Host.Outcome.next (h.request true true rfl (congrArg Sys.firing sys) (congrArg Sys.phase sys)), ?_,
      State.twaReplied_last .., ?_, kept⟩
    · rw [reply]
      rfl
    · rw [State.get_twaReplied _ _ _ (by decide), s.twaHeard_counts]
  · have h : Hears s := ⟨released, hears, mode, idle⟩
    obtain ⟨u, work, firing, phase, trans, asked⟩ := h.holds commit
    have plainly : plain (fun t => t.modeRequest .twa (1#8).toNat) s.twaHeard = (.ok, [], u) := by
      show ((s.twaHeard.modeRequest .twa 1).1, _, (s.twaHeard.modeRequest .twa 1).2) = _
      rw [work]
    refine ⟨_, congrArg Host.Outcome.next (h.request false true plainly firing phase), rfl, trans, ?_⟩
    rw [State.get_twaReplied _ _ _ (by decide), asked]
  · have h : Hears s := ⟨released, hears, mode, idle⟩
    obtain ⟨-, sys, -, -⟩ := s.twaHeard_keeps
    have pending : s.twaHeard.pendingEvents = s.pendingEvents := by
      simp only [State.pendingEvents]
      rw [s.get_twaHeard (by decide) (by decide), s.get_twaHeard (by decide) (by decide), s.get_twaHeard (by decide) (by decide),
        s.get_twaHeard (by decide) (by decide), s.get_twaHeard (by decide) (by decide)]
    refine ⟨_, congrArg Host.Outcome.next (h.request false false rfl (congrArg Sys.firing sys) (congrArg Sys.phase sys)), ?_,
      State.twaReplied_last ..⟩
    rw [pending]
    rfl
  · have h : Hears s := ⟨released, hears, mode, idle⟩
    obtain ⟨-, sys, -, -⟩ := s.twaHeard_keeps
    have steady := s.twaHeard.ackEvents_steady mask.toNat
    have work : plain (fun t => t.evtAck mask.toNat) s.twaHeard = (.ok, [], s.twaHeard.ackEvents mask.toNat) := by
      have passes : s.twaHeard.evtAck mask.toNat = (.ok, s.twaHeard.ackEvents mask.toNat) :=
        checks_pass (by simpa using mask.isLt)
      rw [plain, passes]
    refine ⟨_, congrArg Host.Outcome.next (h.request false false work (steady.firing.trans (congrArg Sys.firing sys))
      (steady.phase.trans (congrArg Sys.phase sys))), rfl, ?_⟩
    rw [State.get_twaReplied _ _ _ (by decide), State.ackEvents_latched, s.get_twaHeard (by decide) (by decide)]
  · have h : Hears s := ⟨released, hears, mode, idle⟩
    obtain ⟨-, sys, -, -⟩ := s.twaHeard_keeps
    have credits : s.twaHeard.get (Reg.CREDITS i) = s.get (Reg.CREDITS i) := by
      refine s.get_twaHeard ?_ ?_ <;>
        · simp only [Reg.CREDITS, Reg.TWA_SEQ, Reg.TWA_REQUESTS]
          omega
    have work := State.linkGrant_adds (s := s.twaHeard) (target := .twa) (i := i) (n := n.toNat)
      ((s.streamOf_twaHeard .twa).trans bound) (by rw [credits]; exact room)
    have plainly : plain (fun t => t.linkGrant .twa n.toNat) s.twaHeard = (.ok, [], s.twaHeard.record (Reg.SSTATE_SEQ i)
        [(Reg.CREDITS i, s.twaHeard.get (Reg.CREDITS i) + n.toNat)]) := by rw [plain, work]
    refine ⟨_, congrArg Host.Outcome.next (h.request false false plainly ((congrArg Sys.firing (State.record_sys ..)).trans
      (congrArg Sys.firing sys)) ((congrArg Sys.phase (State.record_sys ..)).trans (congrArg Sys.phase sys))), rfl, ?_⟩
    rw [State.get_twaReplied _ _ _ (by simp only [Reg.CREDITS, Reg.TWA_LAST_RESULT]; omega),
      State.get_record_one _ _ (by simp only [Reg.CREDITS, Reg.SSTATE_SEQ]; omega), credits]
  · have h : Hears s := ⟨released, hears, mode, idle⟩
    obtain ⟨kept, sys, -, -⟩ := s.twaHeard_keeps
    have work : counted (s.twaHeard.readCount .twa Reg.MODE_CURRENT 1) =
        (.ok, [1#8, BitVec.ofNat 8 (Mode.code s.mode)], s.twaHeard) := by
      rw [s.twaHeard.readCount_modeCurrent, kept]
      rfl
    have row : exec (.twaObjRead (BitVec.ofNat 16 (Reg.MODE_CURRENT / 256)) (BitVec.ofNat 8 (Reg.MODE_CURRENT % 256)) 1#8) s =
        .next (s.twaRequest false true fun t => counted (t.readCount .twa Reg.MODE_CURRENT 1)) := by
      show execTwaObjRead _ _ _ s = _
      simp [execTwaObjRead, address_modeCurrent, watchKey_modeCurrent]
    exact ⟨_, row.trans (congrArg Host.Outcome.next (h.request false true work (congrArg Sys.firing sys) (congrArg Sys.phase sys))),
      rfl⟩
  · have h : Hears s := ⟨released, hears, mode, idle⟩
    obtain ⟨kept, sys, -, -⟩ := s.twaHeard_keeps
    have count : n.toNat ≠ 0 := fun e => asks (BitVec.eq_of_toNat_eq e)
    have work : counted (s.twaHeard.readEntry s.twaHeard .twa Reg.MODE_CURRENT 0 n.toNat) =
        (.ok, [1#8, BitVec.ofNat 8 (Mode.code s.mode)], s.twaHeard) := by
      rw [s.twaHeard.readEntry_modeCurrent .twa count, kept]
      rfl
    have row : exec (.twaDomRead (BitVec.ofNat 16 (Reg.MODE_CURRENT / 256)) (BitVec.ofNat 8 (Reg.MODE_CURRENT % 256)) 0#16 n) s =
        .next (s.twaRequest false true fun t => counted (t.readEntry t .twa Reg.MODE_CURRENT 0 n.toNat)) := by
      show execTwaDomRead _ _ _ _ s = _
      simp [execTwaDomRead, address_modeCurrent, watchKey_modeCurrent, asks]
    exact ⟨_, row.trans (congrArg Host.Outcome.next (h.request false true work (congrArg Sys.firing sys) (congrArg Sys.phase sys))),
      rfl⟩
  · have h : Hears s := ⟨released, hears, mode, idle⟩
    obtain ⟨-, sys, -, -⟩ := s.twaHeard_keeps
    have work : plain (fun t => t.write .twa Reg.HOT_CURSOR (leBytes 8 v.toNat)) s.twaHeard =
        (.ok, [], s.twaHeard.put Reg.HOT_CURSOR v.toNat) := by
      rw [plain, State.write_hotCursor]
    have row : exec (.twaObjWrite (BitVec.ofNat 16 (Reg.HOT_CURSOR / 256)) (BitVec.ofNat 8 (Reg.HOT_CURSOR % 256))
        (leBytes 8 v.toNat)) s = .next (s.twaRequest false false (plain fun t => t.write .twa Reg.HOT_CURSOR (leBytes 8 v.toNat))) := by
      have empty : (leBytes 8 v.toNat).isEmpty = false := rfl
      show execTwaObjWrite _ _ _ s = _
      simp only [execTwaObjWrite, address_hotCursor, hotCursor_notMode, empty]
      rfl
    refine ⟨_, row.trans (congrArg Host.Outcome.next (h.request false false work (congrArg Sys.firing sys) (congrArg Sys.phase sys))),
      rfl, ?_⟩
    rw [State.get_twaReplied _ _ _ (by decide), State.get_put_self]
  · have h : Hears s := ⟨released, hears, mode, idle⟩
    obtain ⟨-, sys, -, -⟩ := s.twaHeard_keeps
    have work : plain (fun t => t.domSegment Reg.HOT_CURSOR 1 data) s.twaHeard =
        (.ok, [], s.twaHeard.setDom (some (Reg.HOT_CURSOR, data))) := by
      rw [plain, s.twaHeard.domSegment_first fits]
    have row : exec (.twaDomWrite (BitVec.ofNat 16 (Reg.HOT_CURSOR / 256)) (BitVec.ofNat 8 (Reg.HOT_CURSOR % 256)) 1#8 data) s =
        .next (s.twaRequest false false (plain fun t => t.domSegment Reg.HOT_CURSOR 1 data)) := by
      have small : ¬ 255 < data.length := by omega
      show execTwaDomWrite _ _ _ _ s = _
      simp [execTwaDomWrite, address_hotCursor, small]
    refine ⟨_, row.trans (congrArg Host.Outcome.next (h.request false false work (congrArg Sys.firing sys) (congrArg Sys.phase sys))),
      rfl, rfl, ?_⟩
    exact (State.get_twaReplied _ _ _ (by decide)).trans (s.get_twaHeard (by decide) (by decide))
  · obtain ⟨mode, sys, io, -⟩ := s.twaHeard_keeps
    have accepted : s.twaAccept = s.twaHeard :=
      State.wakeSource_awake 4 (mode.trans_ne (by simp [test])) ((congrArg Sys.trans sys).trans idle)
    let opened := (s.twaHeard.answer .twa .ok).updIo fun i => { i with twaPtr := ptr.toNat, twaWindow := true, twaReply := none }
    have row : exec (.twaWindow ptr [b]) s = .next (opened.windowWrites [b]) := by
      have served : s.windowServed = true := by simp [State.windowServed, test]
      refine (if_neg (by simp [released])).trans ((if_neg (by simp [hears])).trans ((if_neg (by simp [served])).trans
        (congrArg Host.Outcome.next ?_)))
      rw [accepted]
      exact if_neg (by simp [hitsCommand_data low ptr.isLt])
    rw [State.windowWrites_data (ptr := ptr.toNat) rfl low] at row
    refine ⟨_, row, ?_, rfl, rfl, State.get_answer_self s.twaHeard .twa .ok⟩
    show (padTo 128 s.twaHeard.io.mbxData).set _ _ = _
    rw [io]
  · have row : exec (.twaReplyRead n) s = .next (s.updIo fun i =>
        { i with twaOut := (s.twaReplyBytes ++ List.replicate (n + 1) 0xFF#8).take (n + 1) }) := by
      refine (if_neg (by simp [released])).trans ((if_neg (by simp [hears])).trans ((if_neg (by simp [reply])).trans
        (congrArg Host.Outcome.next ?_)))
      rw [State.wakeSource_awake 4 (s := s.updIo _) awake idle, State.resetsFor_none (by simp [State.updIo, noReset])]
    exact ⟨_, row, rfl, rfl, rfl⟩
  · have row : exec (.twaWriteReject true) s = .next (s.twaAnswer .range []) := by
      refine (if_neg (by simp [released])).trans ((if_neg (by simp [hears])).trans ((if_pos rfl).trans
        (congrArg Host.Outcome.next ?_)))
      rw [State.wakeSource_awake 4 awake idle]
    rw [State.twaAnswer, if_neg (by simp [released])] at row
    exact ⟨_, row, rfl, rfl⟩
  · let held := s.twaAnswer .check []
    have held_eq : held = { s with io := { s.io with twaReply := some [BitVec.ofNat 8 (Result.code .check)], twaWindow := false } } :=
      if_neg (by simp [released])
    let failed := (held.twaCount Reg.TWA_PEC_ERRORS).checked 1 1 1
    have row : exec (.twaWriteReject false) s = .next (failed.latch 51 Reg.TWA_PEC_ERRORS (failed.get Reg.TWA_PEC_ERRORS)) := by
      refine (if_neg (by simp [released])).trans ((if_neg (by simp [hears])).trans ((if_neg nofun).trans
        (congrArg Host.Outcome.next ?_)))
      rw [State.wakeSource_awake 4 awake idle]
    refine ⟨_, row, ?_, ?_, State.latched_latch ..⟩
    · have io : failed.io = held.io := (State.record_io ..).trans (State.record_io ..)
      rw [State.latch_io, io, held_eq]
    · rw [State.get_latch_ne _ _ _ _ (by decide), State.get_checked_apart _ (by decide) (by decide), State.twaCount,
        State.get_record_one _ _ (by decide), held_eq]
      rfl
  · have row : exec .twaAddressNack s = .next s.twaNack := congrArg Host.Outcome.next (if_neg (by simp [released]))
    have counted : SameBut [Reg.TWA_BUSY_NACKS, Reg.TWA_SEQ] s { s.twaNack with sys := s.sys } :=
      SameBut.record (l := [(Reg.TWA_BUSY_NACKS, (s.get Reg.TWA_BUSY_NACKS + 1) % 2 ^ 32)]) (by simp) (by simp)
    refine ⟨_, row, ?_, State.get_record_one _ _ (by decide), counted⟩
    rw [State.twaNack, State.twaCount, State.record_sys]
    exact bit_setBit_self ..
  · have row : exec (.twaAra true) s = .next ((({ s with sys := { s.sys with alertOff := true } } : State).updIo fun i =>
        { i with twaOut := s.araBytes }).twaCount Reg.TWA_ARA_ANSWERS) := (if_neg (by simp [low])).trans (if_pos rfl)
    refine ⟨_, row, ?_, ?_, State.get_record_one _ _ (by decide)⟩
    · rw [State.twaCount, State.record_sys]
      rfl
    · rw [State.alertLow, State.twaCount, State.record_sys]
      simp [State.updIo]
  · have row : exec (.twaAra false) s = .next (s.twaCount Reg.TWA_ARA_LOST) := (if_neg (by simp [low])).trans (if_neg nofun)
    have same : SameBut [Reg.TWA_ARA_LOST, Reg.TWA_SEQ] s (s.twaCount Reg.TWA_ARA_LOST) := SameBut.record (by simp) (by simp)
    refine ⟨_, row, ?_, State.get_record_one _ _ (by decide), same⟩
    rw [← low, State.alertLow, State.alertLow, same.get_eq (by decide), same.get_eq (by decide), State.twaCount, State.record_sys,
      State.record_mode]
  · exact ⟨_, congrArg Host.Outcome.next (if_pos up), State.get_record_one _ _ (by decide), SameBut.record (by simp) (by simp)⟩

end Sys2Proof.Machine
end

section
/-! SUPPORT. A critical fault is signalled whatever goes off with it (R547, R550). -/

namespace Sys2Proof.Machine

/-- The objects that going to HOLD may write. -/
def HoldKey (k : Nat) : Prop := k = Reg.MODE_RESULT ∨ k = Reg.HOLD_REASON ∨ QuadsUp k

theorem State.abandon_writes (s : State) : Writes HoldKey s s.abandon := by
  unfold State.abandon
  split
  · exact Writes.refl _ s
  · refine Writes.ite (Writes.put ?_ (.inl rfl) _) ?_
    · exact (Writes.refl HoldKey s).congr rfl rfl rfl
    · exact (Writes.refl HoldKey s).congr rfl rfl rfl

/-- A forced HOLD writes its own objects and those of the quads only. -/
theorem State.forceHold_writes (s : State) (reason : Nat) : Writes HoldKey s (s.forceHold reason) := by
  have abandoned := s.abandon_writes
  unfold State.forceHold
  split
  · exact (Writes.refl HoldKey s).congr rfl rfl rfl
  · exact Writes.refl _ s
  · extract_lets s1
    have off : Writes HoldKey s s1 := by
      refine Writes.ite ?_ (Writes.refl _ s)
      have dark := (Writes.refl QuadsUp s.abandon).cutSweep.quadsOff
      exact ⟨fun k other => (dark.get k fun up => other (.inr (.inr up))).trans (abandoned.get k other)⟩
    exact off.ite (off.put (.inr (.inl rfl)) _)
  · exact abandoned.congr rfl rfl rfl

/-- A forced HOLD leaves the record of a lost PLL. -/
theorem State.forceHold_pllLost (s : State) (reason : Nat) : (s.forceHold reason).sys.pllLost = s.sys.pllLost := by
  have abandoned : s.abandon.sys.pllLost = s.sys.pllLost := by
    unfold State.abandon
    split
    · rfl
    · split <;> rfl
  unfold State.forceHold
  split
  · rfl
  · rfl
  · extract_lets s1
    have off : s1.sys.pllLost = s.sys.pllLost := by
      by_cases moving : s.sys.trans.isSome = true
      · obtain ⟨-, -, alert, sys⟩ := (Quiet.refl s.abandon).cutSweep.quadsOff
        simp only [s1, if_pos moving, sys]
        exact abandoned
      · simp only [s1, if_neg moving]
    split
    · exact off
    · exact off
  · exact abandoned

/-- A critical fault with an event of its own shows its source and latches the event (R547). -/
theorem State.criticalFault_shows (s : State) (b e x y : Nat) :
    bit ((s.criticalFault b (some (e, x, y))).get Reg.FAULT_ACTIVE) b = true ∧
    (s.criticalFault b (some (e, x, y))).get Reg.FAULT_LAST = b ∧ (s.criticalFault b (some (e, x, y))).latched e = true := by
  let shown := (s.carriersOff false).faultBits b
  have writes := (shown.latchAs true 4 e x y).forceHold_writes 2
  have run : s.criticalFault b (some (e, x, y)) = (shown.latchAs true 4 e x y).forceHold 2 := rfl
  have nodup : [Reg.FAULT_SEQ, Reg.FAULT_ACTIVE, Reg.FAULT_SEEN, Reg.FAULT_LAST, Reg.CRITICAL_COUNT].Nodup := by decide
  rw [run]
  refine ⟨?_, ?_, ?_⟩
  · rw [writes.get _ (by unfold HoldKey QuadsUp; decide), State.get_latchAs_apart _ _ _ _ _ _ (by decide)]
    rw [show shown.get Reg.FAULT_ACTIVE = setBit ((s.carriersOff false).get Reg.FAULT_ACTIVE) b from
      State.get_record_of_mem _ nodup (by simp)]
    exact bit_setBit_self ..
  · rw [writes.get _ (by unfold HoldKey QuadsUp; decide), State.get_latchAs_apart _ _ _ _ _ _ (by decide)]
    exact State.get_record_of_mem _ nodup (by simp)
  · rw [State.latched, writes.get _ (by unfold HoldKey QuadsUp; decide)]
    exact State.latched_latchAs ..

end Sys2Proof.Machine
end

section
/-! SUPPORT. Steady facts for the rows of chapter 16: the security part's frame and the size of a padded block. -/

namespace Sys2Proof.Machine

theorem Quiet.sec {s t : State} (h : Quiet s t) (x : Sec) : Quiet s { t with sec := x } := h.congr rfl rfl rfl

theorem Quiet.updFlash {s t : State} (h : Quiet s t) (n : Nat) (f : Memory → Memory) : Quiet s (t.updFlash n f) :=
  h.congr rfl rfl rfl

theorem length_padTo (n : Nat) (b : Bytes) : (padTo n b).length = n := by
  unfold padTo
  rw [List.length_take, List.length_append, List.length_replicate]
  omega

end Sys2Proof.Machine
end

section
/-! SUPPORT. Quotes and debug access (R539 to R541), and the statement settled with them. -/

namespace Sys2Proof.Machine

/-- Settles O49, by what each command of quotes and debug access writes. -/
theorem quotesAndDebugAccess : Obligations.QuotesAndDebugAccess := by
  refine ⟨fun l s serves idle => ?_, fun b s quote => ?_, fun l s serves hold => ?_, fun core s opened => ?_,
    fun i s offered => ?_, fun i s refused => ?_⟩
  · let taken : State := { s with sec := { s.sec with quote := some s.quoteBody } }
    have work : s.quoteGo 1 = (.ok, taken.record Reg.QUOTE_SEQ [(Reg.QUOTE_STATE, 1)]) := checks_pass (by simp [idle])
    have same : SameBut [Reg.QUOTE_STATE, Reg.QUOTE_SEQ] s
        { taken.record Reg.QUOTE_SEQ [(Reg.QUOTE_STATE, 1)] with sec := s.sec } :=
      SameBut.record (l := [(Reg.QUOTE_STATE, 1)]) (by simp) (by simp)
    refine ⟨_, congrArg Host.Outcome.next (State.request_quiet serves work (((Quiet.refl s).sec _).record ..)),
      State.answered_answer .., ?_, ?_, same.answer l .ok⟩
    · show (taken.record Reg.QUOTE_SEQ [(Reg.QUOTE_STATE, 1)]).sec.quote = _
      rw [State.record_sec]
    · rw [State.get_answer_above _ _ _ (by decide)]
      exact State.get_record_one _ _ (by decide)
  · let sig := padTo 3312 (Config.mldsaSign ctxQuote b s.sec.draws)
    have sig_length : sig.length = 3312 := length_padTo ..
    let signed := ({ s with sec := { s.sec with quote := none, draws := s.sec.draws + 1 } } : State).putDom Reg.QUOTE (b ++ sig)
    have row : exec .quoteDone s = .next (signed.record Reg.QUOTE_SEQ [(Reg.QUOTE_STATE, 2)]) := by
      show execQuoteDone s = _
      unfold execQuoteDone
      rw [quote]
    have shown : (signed.record Reg.QUOTE_SEQ [(Reg.QUOTE_STATE, 2)]).dom Reg.QUOTE = b ++ sig :=
      (State.dom_congr (State.record_doms ..) (State.record_variant ..) _).trans (State.dom_putDom_self ..)
    refine ⟨_, row, ?_, State.get_record_one _ _ (by decide), ?_, ?_⟩
    · rw [State.record_sec]
      rfl
    · rw [shown, List.take_left]
    · rw [shown, List.length_append, sig_length]
  · let blown : State := { s with sec := { s.sec with debugFuse := true, attached := 0 } }
    have work : s.debugDisable 0xD5 = (.ok, blown.record Reg.DBG_SEQ [(Reg.DEBUG_STATE, 2)]) := checks_pass (by simp [hold])
    have same : SameBut [Reg.DEBUG_STATE, Reg.DBG_SEQ] s { blown.record Reg.DBG_SEQ [(Reg.DEBUG_STATE, 2)] with sec := s.sec } :=
      SameBut.record (l := [(Reg.DEBUG_STATE, 2)]) (by simp) (by simp)
    have sec : (blown.record Reg.DBG_SEQ [(Reg.DEBUG_STATE, 2)]).sec = blown.sec := State.record_sec ..
    refine ⟨_, congrArg Host.Outcome.next (State.request_quiet serves work (((Quiet.refl s).sec _).record ..)),
      State.answered_answer .., ?_, ?_, ?_, same.answer l .ok⟩
    · exact congrArg Sec.debugFuse sec
    · exact congrArg Sec.attached sec
    · rw [State.get_answer_above _ _ _ (by decide)]
      exact State.get_record_one _ _ (by decide)
  · let attached : State := { s with sec := { s.sec with attached := setBit s.sec.attached core } }
    have row : exec (.debugAttach core) s = .next ((attached.record Reg.DBG_SEQ
        [(Reg.DEBUG_ATTACHES, (s.get Reg.DEBUG_ATTACHES + 1) % 2 ^ 32)]).latch 63 Reg.DEBUG_ATTACHES
          ((s.get Reg.DEBUG_ATTACHES + 1) % 2 ^ 32)) := if_neg (by simp [opened])
    refine ⟨_, row, ?_, ?_, State.latched_latch ..⟩
    · rw [State.latch_sec, State.record_sec]
      exact bit_setBit_self ..
    · rw [State.get_latch_apart _ _ _ _ (by decide), State.get_record_one _ _ (by decide)]
  · refine ⟨_, rfl, ?_⟩
    rw [if_pos offered]
  · refine ⟨_, rfl, ?_⟩
    rw [if_neg (by simp [refused])]

end Sys2Proof.Machine
end

section
/-! SUPPORT. The commands of the window's mailbox (R537), and the statement settled with them. -/

namespace Sys2Proof.Machine

/-- A command that the mailbox runs ends with the result of what it does. -/
theorem State.mbxServe_runs {s t : State} {c : Nat} {f : State → Result × State} {r : Result} (runs : s.mbxRuns c = true)
    (work : f s = (r, t)) : s.mbxServe c f = t.mbxEnd r := by
  unfold State.mbxServe
  rw [if_neg (by simp [runs]), work]

/-- The end of a mailbox command that passes or fails is the mailbox's own. -/
theorem State.mbxDone_only (s : State) (c : Nat) (r : Result) : ∃ x, s.mbxDone c r = { s with io := x } := by
  unfold State.mbxDone
  split
  · exact ⟨_, rfl⟩
  · exact ⟨s.io, rfl⟩

/-- What a slot holds, as the secure core knows it anew. -/
def State.knownSlot (s : State) (b : Bool) (v : Option (Nat × Nat)) : State :=
  { s with sec := if b then { s.sec with slotB := v } else { s.sec with slotA := v } }

/-- What a slot holds shows in the other slot's objects, where it is the other slot (Table 16.11). -/
theorem State.setSlot_cases (s : State) (b : Bool) (v : Option (Nat × Nat)) : s.setSlot b v = s.knownSlot b v ∨
    s.setSlot b v = (s.knownSlot b v).record Reg.FWU_SEQ
      [(Reg.FW_OTHER_VERSION, (v.map (·.1)).getD 0), (Reg.FW_OTHER_SVN, (v.map (·.2)).getD 0)] := by
  unfold State.setSlot
  by_cases runs : (b = s.runsB && !s.sys.noFirmware) = true
  · exact .inl (if_pos runs)
  · exact .inr (if_neg runs)

theorem State.setSlot_only (s : State) (b : Bool) (v : Option (Nat × Nat)) :
    ∃ x, s.setSlot b v = { s.knownSlot b v with regs := x } := by
  obtain same | shown := s.setSlot_cases b v
  · exact ⟨s.regs, same⟩
  · obtain ⟨x, only⟩ := (s.knownSlot b v).record_only Reg.FWU_SEQ
      [(Reg.FW_OTHER_VERSION, (v.map (·.1)).getD 0), (Reg.FW_OTHER_SVN, (v.map (·.2)).getD 0)]
    exact ⟨x, shown.trans only⟩

theorem State.setSlot_keeps (s : State) (b : Bool) (v : Option (Nat × Nat)) :
    SameBut [Reg.FW_OTHER_VERSION, Reg.FW_OTHER_SVN, Reg.FWU_SEQ] (s.knownSlot b v) (s.setSlot b v) := by
  obtain same | shown := s.setSlot_cases b v
  · rw [same]
    exact SameBut.refl _ _
  · rw [shown]
    exact SameBut.record (by simp) (by simp)

/-- The slot named loses its image, and its erase begins (R527). -/
theorem State.fwErase_begins (s : State) (b : Bool) : (s.fwErase b).sec.updating = some b ∧
    (s.fwErase b).get Reg.FW_UPDATE_STATE = 1 ∧ (s.fwErase b).io = s.io := by
  obtain ⟨x, only⟩ := s.setSlot_only b none
  refine ⟨?_, State.get_record_one _ _ (by decide), ?_⟩
  · rw [State.fwErase, State.record_sec]
  · rw [State.fwErase, State.record_io, State.spoilSlot, only]
    rfl

/-- A transfer that fits is stored after what is loaded (R527). -/
theorem State.fwAppend_loads {s : State} {d : Bytes} (fits : s.get Reg.FW_LOADED_BYTES + d.length ≤ slotSize)
    (loading : s.get Reg.FW_UPDATE_STATE = 2) : s.fwAppend d =
      (.ok, (s.updFlash 0 fun m => m.writeAll (slotBase (s.sec.updating.getD false) + s.get Reg.FW_LOADED_BYTES) d).record Reg.FWU_SEQ
        [(Reg.FW_LOADED_BYTES, s.get Reg.FW_LOADED_BYTES + d.length)]) := by
  unfold State.fwAppend
  extract_lets n
  exact checks_pass (by simp [n, fits, loading])

/-- FINISH of a loaded slot begins its verification (R527). -/
theorem State.fwUpdate_finish {s : State} (loading : s.get Reg.FW_UPDATE_STATE = 2) :
    s.fwUpdate 2 = (.ok, s.record Reg.FWU_SEQ [(Reg.FW_UPDATE_STATE, 3)]) := by
  unfold State.fwUpdate
  exact checks_pass (by simp [loading])

/-- A fresh nonce is 32 bytes of the entropy source, shown and valid (R533). -/
theorem State.freshNonce_shows (s : State) :
    s.freshNonce.sec.nonce = some ((List.range 32).map (Config.entropy s.sec.draws)) ∧
    s.freshNonce.dom Reg.NONCE = (List.range 32).map (Config.entropy s.sec.draws) ∧ s.freshNonce.sec.draws = s.sec.draws + 1 ∧
    SameBut [Reg.TOK_SEQ] s { s.freshNonce with sec := s.sec, doms := s.doms } :=
  ⟨rfl, State.dom_putDom_self .., rfl, SameBut.put (k := Reg.TOK_SEQ) _ (by simp)⟩

theorem State.nonceRequest_fresh {s : State} (free : s.authHolds = false) : s.nonceRequest 1 = (.ok, s.freshNonce) :=
  checks_pass (by simp [free])

/-- The nonce is placed at the head of MBX_DATA. -/
def State.nonceToMailbox (s : State) : State :=
  s.updIo fun i => { i with mbxData := splice i.mbxData 0 (s.dom Reg.NONCE), mbxLen := 32 }

/-- Settles O46, by the end or the start that each command of the mailbox comes to. -/
theorem mailboxCommandsEnd : Obligations.MailboxCommandsEnd := by
  refine ⟨fun s runs free => ?_, fun s runs short within => ?_, fun s runs short within => ?_, fun s runs idle state => ?_,
    fun s runs barred boot named => ?_, fun s runs barred short next loading fits => ?_, fun s runs barred loading => ?_,
    fun s runs => ?_⟩
  · obtain ⟨valid, -, draws, same⟩ := s.freshNonce_shows
    have row : exec .mbxNonce s = .next (s.freshNonce.nonceToMailbox.mbxEnd .ok) := by
      refine congrArg Host.Outcome.next (State.mbxServe_runs runs ?_)
      simp only [State.nonceRequest_fresh free, if_true]
      rfl
    exact ⟨_, row, rfl, rfl, valid, draws, same⟩
  · have row : exec .mbxReadCert s = .next ((s.updIo fun i => { i with
        mbxData := splice i.mbxData 0 (slice (s.dom Reg.DEVICE_CERT) i.mbxOffset i.mbxLen) }).mbxEnd .ok) :=
      congrArg Host.Outcome.next (State.mbxServe_runs runs (checks_pass (by simp [short, within])))
    exact ⟨_, row, rfl, rfl, rfl⟩
  · have row : exec .mbxTokenWrite s = .next ((s.putDom Reg.TOKEN (splice (s.dom Reg.TOKEN) s.io.mbxOffset
        (s.io.mbxData.take s.io.mbxLen))).mbxEnd .ok) :=
      congrArg Host.Outcome.next (State.mbxServe_runs runs (checks_pass (by simp [short, within])))
    exact ⟨_, row, rfl, State.dom_putDom_self .., rfl⟩
  · have row : exec .mbxTokenSubmit s = .next (s.submit .twa) :=
      congrArg Host.Outcome.next ((if_neg (by simp [runs, idle])).trans (if_neg state))
    refine ⟨_, row, ?_, State.get_record_one _ _ (by decide), State.record_io ..⟩
    rw [State.submit, State.record_sec]
  · have row : exec .mbxFwBegin s = .next (s.fwErase (field s.io.mbxData 0 1 = 1)) := by
      refine congrArg Host.Outcome.next ((if_neg (by simp [runs])).trans ((if_neg (by simp [barred])).trans
        ((if_neg (by simp [boot])).trans ((if_neg ?_).trans (if_neg (by simp [boot]))))))
      simpa [boot] using named
    exact ⟨_, row, s.fwErase_begins _⟩
  · let stored := s.updFlash 0 fun m => m.writeAll (slotBase (s.sec.updating.getD false) + s.get Reg.FW_LOADED_BYTES)
      (s.io.mbxData.take s.io.mbxLen)
    have row : exec .mbxFwWrite s = .next ((stored.record Reg.FWU_SEQ
        [(Reg.FW_LOADED_BYTES, s.get Reg.FW_LOADED_BYTES + (s.io.mbxData.take s.io.mbxLen).length)]).mbxEnd .ok) := by
      refine congrArg Host.Outcome.next (State.mbxServe_runs runs ?_)
      rw [if_neg (by simp [barred]), if_neg (by simp [short, next])]
      exact State.fwAppend_loads fits loading
    refine ⟨_, row, rfl, State.get_record_one stored _ (by decide), ?_⟩
    exact SameBut.record (s := s) (q := Reg.FWU_SEQ)
      (l := [(Reg.FW_LOADED_BYTES, s.get Reg.FW_LOADED_BYTES + (s.io.mbxData.take s.io.mbxLen).length)]) (by simp) (by simp)
  · have row : exec .mbxFwFinish s = .next (s.record Reg.FWU_SEQ [(Reg.FW_UPDATE_STATE, 3)]) := by
      refine congrArg Host.Outcome.next ((if_neg (by simp [runs])).trans ((if_neg (by simp [barred])).trans ?_))
      simp only [State.fwUpdate_finish loading, if_true]
    exact ⟨_, row, State.get_record_one _ _ (by decide), SameBut.record (by simp) (by simp)⟩
  · obtain ⟨cause, -⟩ := s.get_resetPart 7 0 .resetHeld
    exact ⟨_, congrArg Host.Outcome.next (if_pos runs), rfl, s.phase_resetPart .., cause, rfl⟩

end Sys2Proof.Machine
end

section
/-! SUPPORT. A firmware slot's update, its verification and its confirmation (R523 to R529), and the statement settled with
them. -/

namespace Sys2Proof.Machine

theorem State.get_mbxDone (s : State) (c : Nat) (r : Result) (k : Nat) : (s.mbxDone c r).get k = s.get k := by
  obtain ⟨x, only⟩ := s.mbxDone_only c r
  rw [only]
  rfl

theorem State.brd_mbxDone (s : State) (c : Nat) (r : Result) : (s.mbxDone c r).brd = s.brd := by
  obtain ⟨x, only⟩ := s.mbxDone_only c r
  rw [only]

theorem State.sec_mbxDone (s : State) (c : Nat) (r : Result) : (s.mbxDone c r).sec = s.sec := by
  obtain ⟨x, only⟩ := s.mbxDone_only c r
  rw [only]

theorem State.ev_mbxDone (s : State) (c : Nat) (r : Result) : (s.mbxDone c r).ev = s.ev := by
  obtain ⟨x, only⟩ := s.mbxDone_only c r
  rw [only]

/-! ### Slots (R527, Table 16.11) -/

theorem State.sec_setSlot (s : State) (b : Bool) (v : Option (Nat × Nat)) : (s.setSlot b v).sec = (s.knownSlot b v).sec := by
  obtain ⟨x, only⟩ := s.setSlot_only b v
  rw [only]

theorem State.brd_setSlot (s : State) (b : Bool) (v : Option (Nat × Nat)) : (s.setSlot b v).brd = s.brd := by
  obtain ⟨x, only⟩ := s.setSlot_only b v
  rw [only]
  rfl

theorem State.slotInfo_of_slots {s t : State} (slotA : t.sec.slotA = s.sec.slotA) (slotB : t.sec.slotB = s.sec.slotB) (b : Bool) :
    t.slotInfo b = s.slotInfo b := by
  rw [State.slotInfo, State.slotInfo, slotA, slotB]

theorem State.slotInfo_setSlot_self (s : State) (b : Bool) (v : Option (Nat × Nat)) : (s.setSlot b v).slotInfo b = v := by
  rw [State.slotInfo, State.sec_setSlot, State.knownSlot]
  cases b <;> rfl

theorem State.slotInfo_setSlot_other (s : State) (b : Bool) (v : Option (Nat × Nat)) : (s.setSlot (!b) v).slotInfo b = s.slotInfo b := by
  rw [State.slotInfo, State.sec_setSlot, State.knownSlot]
  cases b <;> rfl

/-- A slot whose erase begins holds nothing that verifies; the other holds what it held (R527). -/
theorem State.slotInfo_fwErase (s : State) (b : Bool) :
    (s.fwErase (!b)).slotInfo (!b) = none ∧ (s.fwErase (!b)).slotInfo b = s.slotInfo b := by
  have slots : ∀ c, (s.fwErase (!b)).slotInfo c = (s.setSlot (!b) none).slotInfo c := by
    refine State.slotInfo_of_slots ?_ ?_ <;> rw [State.fwErase, State.record_sec] <;> rfl
  exact ⟨(slots _).trans (State.slotInfo_setSlot_self ..), (slots _).trans (State.slotInfo_setSlot_other ..)⟩

/-- What the start of an update changes, its own record of the slots aside. -/
def eraseKeys : List Nat := [Reg.FW_OTHER_VERSION, Reg.FW_OTHER_SVN, Reg.FWU_SEQ, Reg.FW_UPDATE_STATE]

theorem State.fwErase_keeps (s : State) (b : Bool) : SameBut eraseKeys s { s.fwErase b with sec := s.sec } := by
  have known : SameBut eraseKeys s { s.setSlot b none with sec := s.sec } := by
    obtain ⟨x, only⟩ := s.setSlot_only b none
    have kept := s.setSlot_keeps b none
    refine ⟨fun k apart => kept.get_eq (s := s.knownSlot b none) (k := k) fun listed => apart ?_, ?_⟩
    · simp only [eraseKeys, List.mem_cons, List.not_mem_nil, or_false] at listed ⊢
      omega
    · rw [only]
      rfl
  have erasing : SameBut eraseKeys { s.setSlot b none with sec := s.sec } { s.fwErase b with sec := s.sec } :=
    SameBut.record (s := { s.setSlot b none with sec := s.sec }) (q := Reg.FWU_SEQ) (l := [(Reg.FW_UPDATE_STATE, 1)])
      (by decide) (by decide)
  exact known.trans erasing

theorem State.fwErase_quiet (s : State) (b : Bool) : Quiet s (s.fwErase b) := by
  have known : Quiet s (s.setSlot b none) := by
    obtain ⟨x, only⟩ := s.setSlot_only b none
    rw [only]
    exact (Quiet.refl s).congr rfl rfl rfl
  exact ((known.sec _).sec _).record ..

/-! ### The verification (R523, R528) -/

theorem State.fwFails_shows (s : State) (r : Result) : (s.fwFails r).get Reg.FW_UPDATE_STATE = 5 ∧
    (s.fwFails r).get Reg.FW_UPDATE_RESULT = Result.code r ∧ (s.fwFails r).brd = s.brd ∧ (s.fwFails r).ev = s.ev := by
  have nodup : [Reg.FWU_SEQ, Reg.FW_UPDATE_STATE, Reg.FW_UPDATE_RESULT].Nodup := by decide
  unfold State.fwFails
  refine ⟨?_, ?_, ?_, ?_⟩
  · rw [State.get_mbxDone]
    exact State.get_record_of_mem _ nodup (by simp)
  · rw [State.get_mbxDone]
    exact State.get_record_of_mem _ nodup (by simp)
  · rw [State.brd_mbxDone, State.record_brd]
  · rw [State.ev_mbxDone, State.record_ev]

theorem State.fwVerdict_badHead {s : State} {b : Bool} (digests sig : Bool)
    (bad : fwHeadOk ((s.flash 0).readAll (slotBase b) 64) = false) : s.fwVerdict b digests sig = .check := by
  simp [State.fwVerdict, bad]

/-- A well-formed image whose signature fails, or whose SVN is below the fused one, is refused (R523). -/
theorem State.fwVerdict_denied {s : State} {b sig : Bool} (digests : Bool)
    (head : fwHeadOk ((s.flash 0).readAll (slotBase b) 64) = true)
    (barred : sig = false ∨ field ((s.flash 0).readAll (slotBase b) 64) 12 2 < s.get Reg.FW_SVN_FUSED) :
    s.fwVerdict b digests sig = .denied := by
  unfold State.fwVerdict
  extract_lets m h svn k
  rw [if_neg (by simp [h, m, head])]
  split
  · rfl
  · next signed =>
    have low : svn < s.get Reg.FW_SVN_FUSED := barred.resolve_left fun bad => signed (by simp [bad])
    exact if_pos low

theorem State.fwVerdict_secureRead (s : State) (b digests sig : Bool) :
    s.secureRead.fwVerdict b digests sig = s.fwVerdict b digests sig := rfl

/-- A slot that verifies: it is on trial at the next reset, and what it holds is known (R528). -/
def State.slotVerified (s : State) (b : Bool) (ver svn : Nat) : State :=
  let s0 := (s.writeHdr { s.bootHdr.1 with trial := ofBool b, count := 0 }).setSlot b (some (ver, svn))
  { s0 with sec := { s0.sec with spoiled := clrBit s0.sec.spoiled (ofBool b) } }

theorem State.slotInfo_slotVerified (s : State) (b : Bool) (ver svn : Nat) : (s.slotVerified b ver svn).slotInfo b = some (ver, svn) := by
  unfold State.slotVerified
  extract_lets _ s0
  exact (State.slotInfo_of_slots (s := s0) rfl rfl b).trans (State.slotInfo_setSlot_self ..)

/-- What FW_VERIFY_DONE shows of a slot that verifies. -/
def State.verifyShown (s : State) : State :=
  ((s.record Reg.FWU_SEQ [(Reg.FW_UPDATE_STATE, 4), (Reg.FW_UPDATE_RESULT, 0)]).latch 5 Reg.FW_UPDATE_STATE 4).mbxDone 7 .ok

theorem State.verifyShown_shows (s : State) : s.verifyShown.get Reg.FW_UPDATE_STATE = 4 ∧
    s.verifyShown.get Reg.FW_UPDATE_RESULT = 0 ∧ s.verifyShown.sec = s.sec ∧ s.verifyShown.latched 5 = true := by
  have nodup : [Reg.FWU_SEQ, Reg.FW_UPDATE_STATE, Reg.FW_UPDATE_RESULT].Nodup := by decide
  unfold State.verifyShown
  refine ⟨?_, ?_, ?_, ?_⟩
  · rw [State.get_mbxDone, State.get_latch_apart _ _ _ _ (by decide)]
    exact State.get_record_of_mem _ nodup (by simp)
  · rw [State.get_mbxDone, State.get_latch_apart _ _ _ _ (by decide)]
    exact State.get_record_of_mem _ nodup (by simp)
  · rw [State.sec_mbxDone, State.latch_sec, State.record_sec]
  · rw [State.latched, State.get_mbxDone]
    exact State.latched_latch ..

section Verify

variable {s : State} {b digests sig : Bool} (slot : s.sec.updating = some b) (verifies : s.get Reg.FW_UPDATE_STATE = 3)
include slot verifies

theorem exec_fwVerifyDone_good {ver : BitVec 32} {svn : Fin 65} (good : s.fwVerdict b digests sig = .good ver svn) :
    exec (.fwVerifyDone digests sig) s = .next (s.secureRead.slotVerified b ver.toNat svn.val).verifyShown := by
  refine (if_neg (by simp [verifies])).trans ?_
  rw [slot, Option.getD_some, State.fwVerdict_secureRead, good]
  rfl

theorem exec_fwVerifyDone_check (bad : s.fwVerdict b digests sig = .check) :
    exec (.fwVerifyDone digests sig) s = .next (s.secureRead.fwFails .check) := by
  refine (if_neg (by simp [verifies])).trans ?_
  rw [slot, Option.getD_some, State.fwVerdict_secureRead, bad]

theorem exec_fwVerifyDone_denied (barred : s.fwVerdict b digests sig = .denied) : exec (.fwVerifyDone digests sig) s =
    .next ((s.secureRead.fwFails .denied).latch 62 Reg.FW_UPDATE_RESULT (Result.code .denied)) := by
  refine (if_neg (by simp [verifies])).trans ?_
  rw [slot, Option.getD_some, State.fwVerdict_secureRead, barred]

end Verify

/-! ### The confirmation (R529) -/

/-- The running slot is active, and no slot is on trial. -/
def State.confirmed (s : State) : State :=
  (s.writeHdr { s.bootHdr.1 with active := s.get Reg.FW_SLOT, trial := 0xFF, count := 0 }).raise Reg.FW_SVN_FUSED
    (((s.slotInfo s.runsB).map (·.2)).getD 0)

theorem State.writeHdr_only (s : State) (h : BootHdr) : ∃ x, s.writeHdr h = { s with brd := x } := ⟨_, rfl⟩

theorem State.confirmed_only (s : State) : ∃ x, s.confirmed = ({ s with brd := x } : State).put Reg.FW_SVN_FUSED
    (max (s.get Reg.FW_SVN_FUSED) (((s.slotInfo s.runsB).map (·.2)).getD 0)) := by
  unfold State.confirmed State.raise
  obtain ⟨x, only⟩ := s.writeHdr_only { s.bootHdr.1 with active := s.get Reg.FW_SLOT, trial := 0xFF, count := 0 }
  rw [only]
  exact ⟨x, rfl⟩

theorem State.fwConfirm_trial {s : State} (mode : s.mode = .ready ∨ s.mode = .run) (trial : s.onTrial = true) :
    s.fwConfirm 1 = (.ok, s.confirmed) := by
  have open_ : (s.mode != .ready && s.mode != .run) = false := by obtain mode | mode := mode <;> simp [mode]
  refine (checks_pass (by simp [open_])).trans ?_
  rw [if_neg (by simp [trial])]
  rfl

theorem State.fwConfirm_noTrial {s : State} (mode : s.mode = .ready ∨ s.mode = .run) (trial : s.onTrial = false) :
    s.fwConfirm 1 = (.ok, s) := by
  have open_ : (s.mode != .ready && s.mode != .run) = false := by obtain mode | mode := mode <;> simp [mode]
  refine (checks_pass (by simp [open_])).trans ?_
  rw [if_pos (by simp [trial])]

/-! ### Reads of flash 0 (R474, R524) -/

theorem Brd.modeExit_leaves (b : Brd) : b.modeExit.flash = b.flash ∧ b.modeExit.continuous = false := by
  unfold Brd.modeExit
  split
  · exact ⟨rfl, rfl⟩
  · next off => exact ⟨rfl, by simpa using off⟩

/-! ### The statement -/

/-- A BEGIN off trial outside TEST starts the erase of the slot that does not run. -/
theorem State.fwUpdate_begin {s : State} (trial : s.onTrial = false) (test : s.mode ≠ .test) :
    s.fwUpdate 1 = (.ok, s.fwErase (!s.runsB)) := by
  unfold State.fwUpdate
  exact checks_pass (by simp [trial, test])

/-- ABANDON of an update leaves none (R527). -/
def State.abandoned (s : State) (b : Bool) : State :=
  ({ s.spoilSlot b with sec := { (s.spoilSlot b).sec with updating := none } }).record Reg.FWU_SEQ [(Reg.FW_UPDATE_STATE, 0)]

theorem State.fwUpdate_abandon {s : State} {b : Bool} (slot : s.sec.updating = some b) : s.fwUpdate 3 = (.ok, s.abandoned b) := by
  unfold State.fwUpdate
  rw [slot]
  rfl

theorem State.abandoned_quiet (s : State) (b : Bool) : Quiet s (s.abandoned b) := by
  have known : Quiet s (s.setSlot b none) := by
    obtain ⟨x, only⟩ := s.setSlot_only b none
    rw [only]
    exact (Quiet.refl s).congr rfl rfl rfl
  exact ((known.sec _).sec _).record ..

theorem fwUpdateBegin_erases {s : State} {l : Link} (serves : Serves s l false) (trial : s.onTrial = false) (test : s.mode ≠ .test) :
    Completes (.fwUpdateBegin l) s fun t => Answered t l .ok ∧ t.sec.updating = some (!s.runsB) ∧ t.slotInfo (!s.runsB) = none ∧
      t.slotInfo s.runsB = s.slotInfo s.runsB ∧ t.get Reg.FW_UPDATE_STATE = 1 ∧ SameButAnswer l eraseKeys s { t with sec := s.sec } := by
  obtain ⟨slot, state, -⟩ := s.fwErase_begins (!s.runsB)
  obtain ⟨spoiled, kept⟩ := s.slotInfo_fwErase s.runsB
  refine ⟨_, congrArg Host.Outcome.next (State.request_quiet serves (State.fwUpdate_begin trial test) (s.fwErase_quiet _)),
    State.answered_answer .., slot, spoiled, kept, ?_, (s.fwErase_keeps _).answer l .ok⟩
  rw [State.get_answer_above _ _ _ (by decide)]
  exact state

theorem fwEraseDone_erases {s : State} {b : Bool} (slot : s.sec.updating = some b) (erases : s.get Reg.FW_UPDATE_STATE = 1) :
    Completes .fwEraseDone s fun t =>
      (∀ a, (t.flash 0).read a = if slotBase b ≤ a ∧ a < slotBase b + slotSize then 0xFF#8 else (s.flash 0).read a) ∧
      t.get Reg.FW_UPDATE_STATE = 2 ∧ t.get Reg.FW_LOADED_BYTES = 0 := by
  let erased := s.updFlash 0 fun m => m.erase (slotBase b) slotSize
  have row : exec .fwEraseDone s = .next ((erased.record Reg.FWU_SEQ
      [(Reg.FW_UPDATE_STATE, 2), (Reg.FW_LOADED_BYTES, 0)]).mbxDone 5 .ok) := by
    show execFwEraseDone s = _
    unfold execFwEraseDone
    rw [slot]
    exact if_neg (by simp [erases])
  have nodup : [Reg.FWU_SEQ, Reg.FW_UPDATE_STATE, Reg.FW_LOADED_BYTES].Nodup := by decide
  refine ⟨_, row, fun a => ?_, ?_, ?_⟩
  · have flash : ((erased.record Reg.FWU_SEQ [(Reg.FW_UPDATE_STATE, 2), (Reg.FW_LOADED_BYTES, 0)]).mbxDone 5 .ok).flash 0 =
        erased.flash 0 := by
      rw [State.flash, State.brd_mbxDone, State.record_brd, State.flash]
    rw [flash, State.flash_updFlash_self]
    exact Memory.read_erase ..
  · rw [State.get_mbxDone]
    exact State.get_record_of_mem _ nodup (by simp)
  · rw [State.get_mbxDone]
    exact State.get_record_of_mem _ nodup (by simp)

theorem fwImageAppend_stores {s : State} {l : Link} {b : Bool} {d : Bytes} (serves : Serves s l false)
    (slot : s.sec.updating = some b) (loading : s.get Reg.FW_UPDATE_STATE = 2)
    (fits : s.get Reg.FW_LOADED_BYTES + d.length ≤ slotSize) (wf : Memory.wf (s.flash 0) = true) :
    Completes (.fwImageAppend l d) s fun t => Answered t l .ok ∧
      (t.flash 0).readAll (slotBase b + s.get Reg.FW_LOADED_BYTES) d.length = d ∧
      t.get Reg.FW_LOADED_BYTES = s.get Reg.FW_LOADED_BYTES + d.length ∧
      (∀ a, (a < slotBase b + s.get Reg.FW_LOADED_BYTES ∨ slotBase b + s.get Reg.FW_LOADED_BYTES + d.length ≤ a) →
        (t.flash 0).read a = (s.flash 0).read a) ∧
      SameButAnswer l [Reg.FW_LOADED_BYTES, Reg.FWU_SEQ] s { t with brd := s.brd } := by
  let loaded := [(Reg.FW_LOADED_BYTES, s.get Reg.FW_LOADED_BYTES + d.length)]
  have work := State.fwAppend_loads fits loading
  rw [slot, Option.getD_some] at work
  let stored := s.updFlash 0 fun m => m.writeAll (slotBase b + s.get Reg.FW_LOADED_BYTES) d
  have same : SameBut [Reg.FW_LOADED_BYTES, Reg.FWU_SEQ] s { stored.record Reg.FWU_SEQ loaded with brd := s.brd } :=
    SameBut.record (s := s) (q := Reg.FWU_SEQ) (l := loaded) (by simp) (by simp [loaded])
  have flash : ((stored.record Reg.FWU_SEQ loaded).answer l .ok).flash 0 =
      (s.flash 0).writeAll (slotBase b + s.get Reg.FW_LOADED_BYTES) d := by
    show (stored.record Reg.FWU_SEQ loaded).flash 0 = _
    rw [State.flash, State.record_brd]
    exact State.flash_updFlash_self ..
  refine ⟨_, congrArg Host.Outcome.next (State.request_quiet serves work (((Quiet.refl s).updFlash ..).record ..)),
    State.answered_answer .., ?_, ?_, fun a out => ?_, same.answer l .ok⟩
  · rw [flash]
    exact Memory.readAll_writeAll _ d wf
  · rw [State.get_answer_above _ _ _ (by decide)]
    exact State.get_record_one _ _ (by decide)
  · rw [flash]
    exact Memory.read_writeAll_outside _ out

theorem fwUpdateAbandon_leaves {s : State} {l : Link} {b : Bool} (serves : Serves s l false) (slot : s.sec.updating = some b) :
    Completes (.fwUpdateAbandon l) s fun t => Answered t l .ok ∧ t.sec.updating = none ∧ t.get Reg.FW_UPDATE_STATE = 0 ∧
      t.brd = s.brd := by
  refine ⟨_, congrArg Host.Outcome.next (State.request_quiet serves (State.fwUpdate_abandon slot) (s.abandoned_quiet b)),
    State.answered_answer .., ?_, ?_, ?_⟩
  · show (s.abandoned b).sec.updating = none
    rw [State.abandoned, State.record_sec]
  · rw [State.get_answer_above _ _ _ (by decide)]
    exact State.get_record_one _ _ (by decide)
  · show (s.abandoned b).brd = s.brd
    rw [State.abandoned, State.record_brd]
    exact State.brd_setSlot ..

theorem fwConfirm_raises {s : State} {l : Link} (serves : Serves s l false) (mode : s.mode = .ready ∨ s.mode = .run)
    (trial : s.onTrial = true) : Completes (.fwConfirm l 1#8) s fun t => Answered t l .ok ∧
      t.get Reg.FW_SVN_FUSED = max (s.get Reg.FW_SVN_FUSED) (((s.slotInfo s.runsB).map (·.2)).getD 0) ∧
      SameButAnswer l [Reg.FW_SVN_FUSED] s { t with brd := s.brd } := by
  obtain ⟨x, only⟩ := s.confirmed_only
  have work := State.fwConfirm_trial mode trial
  rw [only] at work
  let svn := max (s.get Reg.FW_SVN_FUSED) (((s.slotInfo s.runsB).map (·.2)).getD 0)
  have quiet : Quiet s ({ s with brd := x } : State) := (Quiet.refl s).congr rfl rfl rfl
  have same : SameBut [Reg.FW_SVN_FUSED] s { ({ s with brd := x } : State).put Reg.FW_SVN_FUSED svn with brd := s.brd } :=
    SameBut.put (s := s) (k := Reg.FW_SVN_FUSED) svn (by simp)
  refine ⟨_, congrArg Host.Outcome.next (State.request_quiet serves work (quiet.put ..)),
    State.answered_answer .., ?_, same.answer l .ok⟩
  rw [State.get_answer_above _ _ _ (by decide)]
  exact State.get_put_self ..

/-- Settles O47, by the step of R523 to R529 that each command of an update comes to. -/
theorem firmwareUpdatesRun : Obligations.FirmwareUpdatesRun := by
  refine ⟨fun l s serves trial test => fwUpdateBegin_erases serves trial test, fun b s slot erases => fwEraseDone_erases slot erases,
    fun l b d s serves slot loading fits wf => fwImageAppend_stores serves slot loading fits wf, fun l s serves loading => ?_,
    fun l b s serves slot => fwUpdateAbandon_leaves serves slot, fun digests sig ver svn b s slot verifies good => ?_,
    fun digests sig b s slot verifies bad => ?_, fun digests sig b s slot verifies head barred => ?_,
    fun l s serves mode trial => ?_, fun l s serves mode trial => fwConfirm_raises serves mode trial,
    fun first second s read => ?_, fun s up => ?_⟩
  · have same : SameBut [Reg.FW_UPDATE_STATE, Reg.FWU_SEQ] s (s.record Reg.FWU_SEQ [(Reg.FW_UPDATE_STATE, 3)]) :=
      SameBut.record (by simp) (by simp)
    refine ⟨_, congrArg Host.Outcome.next (State.request_quiet serves (State.fwUpdate_finish loading) ((Quiet.refl s).record ..)),
      State.answered_answer .., ?_, same.answer l .ok⟩
    rw [State.get_answer_above _ _ _ (by decide)]
    exact State.get_record_one _ _ (by decide)
  · obtain ⟨state, result, sec, told⟩ := (s.secureRead.slotVerified b ver.toNat svn.val).verifyShown_shows
    refine ⟨_, exec_fwVerifyDone_good slot verifies good, state, result, ?_, told⟩
    exact (State.slotInfo_of_slots (congrArg Sec.slotA sec) (congrArg Sec.slotB sec) b).trans (State.slotInfo_slotVerified ..)
  · have verdict : s.fwVerdict b digests sig = .check := bad.elim (State.fwVerdict_badHead digests sig) id
    obtain ⟨state, result, brd, ev⟩ := s.secureRead.fwFails_shows .check
    exact ⟨_, exec_fwVerifyDone_check slot verifies verdict, state, result, (congrArg Brd.flash brd).trans rfl, ev⟩
  · obtain ⟨state, result, brd, -⟩ := s.secureRead.fwFails_shows .denied
    refine ⟨_, exec_fwVerifyDone_denied slot verifies (State.fwVerdict_denied digests head barred), ?_, ?_, ?_,
      State.latched_latch ..⟩
    · rw [State.get_latch_apart _ _ _ _ (by decide), state]
    · rw [State.get_latch_apart _ _ _ _ (by decide), result]
      rfl
    · rw [State.latch_brd, brd]
      rfl
  · exact ⟨_, congrArg Host.Outcome.next (State.request_quiet serves (State.fwConfirm_noTrial mode trial) (Quiet.refl s)),
      s.answered_only l .ok⟩
  · obtain ⟨flash, left⟩ := s.brd.modeExit_leaves
    by_cases held : s.sys.phase = .released
    · have row : exec (.demandPageLoad first second) s = .next (s.flashOther 0) := by
        refine congrArg Host.Outcome.next ((if_neg (by simp [held])).trans (if_pos ?_))
        obtain rfl | rfl := read <;> simp
      exact ⟨_, row, flash, fun _ => left, rfl⟩
    · exact ⟨s, congrArg Host.Outcome.next (if_pos (by simp [held])), rfl, fun up => absurd up held, rfl⟩
  · exact ⟨_, congrArg Host.Outcome.next ((if_neg (by simp [up])).trans (if_neg (by decide))),
      (s.flashOther 0).criticalFault_shows 4 47 0 0⟩

end Sys2Proof.Machine
end

section
/-! SUPPORT. Nonces, the end of a token's verification (R533, R534), and the end of a session (R535); and the statement settled
with them. -/

namespace Sys2Proof.Machine

/-! ### The end of a verification (R533, R534) -/

/-- What a verification that ends writes. -/
def verdictRows (r : Result) (more : List (Nat × Nat)) : List (Nat × Nat) :=
  [(Reg.TOKEN_RESULT, Result.code r), (Reg.TOKEN_STATE, 2)] ++ more

/-- A verification ends: its token and its nonce are spent, and its result shows with what else it writes. -/
structure Verified (s t : State) (r : Result) (more : List (Nat × Nat)) : Prop where
  spent : t.sec.verifying = none ∧ t.sec.nonce = none
  shown : ∀ k v, (k, v) ∈ verdictRows r more → t.get k = v
  other : ∀ k, k ≠ Reg.TOK_SEQ → (∀ p ∈ verdictRows r more, p.1 ≠ k) → t.get k = s.get k
  mode : t.mode = s.mode
  sys : t.sys = s.sys
  tim : t.tim = s.tim
  doms : ∀ k, t.dom k = s.dom k

theorem State.tokenEnds_only (s : State) (r : Result) (more : List (Nat × Nat)) : ∃ x,
    s.tokenEnds r more = { ({ s with sec := { s.sec with verifying := none, nonce := none } } : State).record Reg.TOK_SEQ
      (verdictRows r more) with io := x } :=
  State.mbxDone_only ..

theorem State.tokenEnds_verified (s : State) {r : Result} {more : List (Nat × Nat)}
    (nodup : (Reg.TOK_SEQ :: (verdictRows r more).map Prod.fst).Nodup) : Verified s (s.tokenEnds r more) r more := by
  let spent : State := { s with sec := { s.sec with verifying := none, nonce := none } }
  obtain ⟨x, only⟩ := s.tokenEnds_only r more
  have sec : (spent.record Reg.TOK_SEQ (verdictRows r more)).sec = spent.sec := State.record_sec ..
  rw [only]
  constructor
  case spent => exact ⟨congrArg Sec.verifying sec, congrArg Sec.nonce sec⟩
  case shown => exact fun k v listed => State.get_record_of_mem spent nodup listed
  case other => exact fun k seq apart => State.get_record_ne spent seq apart
  case mode => exact spent.record_mode Reg.TOK_SEQ _
  case sys => exact spent.record_sys Reg.TOK_SEQ _
  case tim => exact spent.record_tim Reg.TOK_SEQ _
  case doms => exact State.dom_congr (spent.record_doms Reg.TOK_SEQ _) (spent.record_variant Reg.TOK_SEQ _)

/-- The rows of a verification that passes and opens no session are all different. -/
theorem verdictRows_nil_nodup (r : Result) : (Reg.TOK_SEQ :: (verdictRows r []).map Prod.fst).Nodup := by
  simp [verdictRows]
  decide

theorem verdictRows_session_nodup (s : State) (l : Link) (tok : Bytes) (kind : Nat) :
    (Reg.TOK_SEQ :: (verdictRows .ok (s.session l tok kind)).map Prod.fst).Nodup := by
  simp [verdictRows, State.session]
  decide

theorem Verified.result {s t : State} {r : Result} {more : List (Nat × Nat)} (ended : Verified s t r more) :
    t.get Reg.TOKEN_RESULT = Result.code r ∧ t.get Reg.TOKEN_STATE = 2 :=
  ⟨ended.shown _ _ (by simp [verdictRows]), ended.shown _ _ (by simp [verdictRows])⟩

/-- A session is open with its kind, its link and its expiry (R535). -/
def Opened (s t : State) (l : Link) (tok : Bytes) (kind : Nat) : Prop :=
  t.get Reg.SESSION_KIND = kind ∧ t.get Reg.SESSION_LINK = Link.code l ∧
    t.get Reg.SESSION_EXPIRY = (s.tim.now + field tok 52 4 * 40000000) % 2 ^ 64

theorem Verified.opened {s t : State} {l : Link} {tok : Bytes} {kind : Nat} (ended : Verified s t .ok (s.session l tok kind)) :
    Opened s t l tok kind :=
  ⟨ended.shown _ _ (by simp [verdictRows, State.session]), ended.shown _ _ (by simp [verdictRows, State.session]),
    ended.shown _ _ (by simp [verdictRows, State.session])⟩

/-! ### A token that passes (Table 16.7) -/

section Passes

variable {s : State} {l : Link} {tok : Bytes} {kind : Nat} (held : s.sec.verifying = some (l, tok)) (of : field tok 6 1 = kind)
  (good : s.tokenCheck tok false = .ok)
include held of good

theorem State.passes_good (f : Link → Bytes → State) : s.passes kind f = f l tok := by
  unfold State.passes
  rw [held]
  exact if_pos (by simp [of, good])

end Passes

theorem State.session_verified (s : State) (l : Link) (tok : Bytes) (kind : Nat) :
    Verified s (s.tokenEnds .ok (s.session l tok kind)) .ok (s.session l tok kind) :=
  s.tokenEnds_verified (verdictRows_session_nodup s l tok kind)

theorem State.bare_verified (s : State) (r : Result) : Verified s (s.tokenEnds r []) r [] :=
  s.tokenEnds_verified (verdictRows_nil_nodup r)

theorem tokenRecovery_holds {s : State} {l : Link} {tok : Bytes} (held : s.sec.verifying = some (l, tok)) (of : field tok 6 1 = 2)
    (good : s.tokenCheck tok false = .ok) (hold : s.mode = .hold) : Completes .tokenRecovery s fun t =>
      t.sec.verifying = none ∧ t.sec.nonce = none ∧ t.get Reg.TOKEN_RESULT = 0 ∧ t.get Reg.TOKEN_STATE = 2 ∧
      t.get Reg.SESSION_KIND = 2 ∧ t.get Reg.SESSION_LINK = Link.code l ∧
      t.get Reg.SESSION_EXPIRY = (s.tim.now + field tok 52 4 * 40000000) % 2 ^ 64 ∧ t.get Reg.HOLD_REASON = 7 ∧ t.mode = .hold := by
  have ended := s.session_verified l tok 2
  obtain ⟨verifying, nonce⟩ := ended.spent
  obtain ⟨result, state⟩ := ended.result
  obtain ⟨kind, link, expiry⟩ := ended.opened
  have row : exec .tokenRecovery s = .next ((s.tokenEnds .ok (s.session l tok 2)).put Reg.HOLD_REASON 7) :=
    congrArg Host.Outcome.next ((State.passes_good held of good _).trans (if_pos (ended.mode.trans hold)))
  have kept : ∀ {k : Nat}, k ≠ Reg.HOLD_REASON → ((s.tokenEnds .ok (s.session l tok 2)).put Reg.HOLD_REASON 7).get k =
      (s.tokenEnds .ok (s.session l tok 2)).get k := fun ne => State.get_put_ne _ _ ne
  exact ⟨_, row, verifying, nonce, (kept (by decide)).trans result, (kept (by decide)).trans state, (kept (by decide)).trans kind,
    (kept (by decide)).trans link, (kept (by decide)).trans expiry, State.get_put_self .., ended.mode.trans hold⟩

/-- From READY, a recovery session starts the transition to HOLD with reason RECOVERY (R64). -/
theorem tokenRecovery_leaves {s : State} {l : Link} {tok : Bytes} (held : s.sec.verifying = some (l, tok)) (of : field tok 6 1 = 2)
    (good : s.tokenCheck tok false = .ok) (ready : s.mode = .ready) (idle : s.sys.trans = none) :
    Completes .tokenRecovery s fun t => t.get Reg.SESSION_KIND = 2 ∧ ∃ x, t.sys.trans = some x ∧ x.target = .hold ∧ x.reason = 7 := by
  have ended := s.session_verified l tok 2
  obtain ⟨kind, -, -⟩ := ended.opened
  have inReady : (s.tokenEnds .ok (s.session l tok 2)).mode = .ready := ended.mode.trans ready
  have still : (s.tokenEnds .ok (s.session l tok 2)).sys.trans = none := by rw [ended.sys, idle]
  generalize ends : s.tokenEnds .ok (s.session l tok 2) = u at ended kind inReady still
  obtain ⟨quiet, writes⟩ := State.startTrans_moving (m := .hold) none 7 (.inr (.inl ⟨inReady, by decide⟩))
  have recovers : u.recover = u.startTrans .hold none 7 := by
    unfold State.recover
    rw [if_neg (by simp [inReady]), still]
  have row : exec .tokenRecovery s = .next (u.startTrans .hold none 7) := by
    rw [← recovers, ← ends]
    exact congrArg Host.Outcome.next (State.passes_good held of good _)
  refine ⟨_, row, ?_, ⟨.hold, false, none, 7⟩, quiet.trans_eq, rfl, rfl⟩
  rw [writes.get _ (by unfold QuadsUp; decide)]
  exact kind

/-! ### The owner's key (R530, R532) -/

/-- A token that passed is spent with its nonce, and its result is OK. -/
def TokenSpent (t : State) : Prop :=
  t.sec.verifying = none ∧ t.sec.nonce = none ∧ t.get Reg.TOKEN_RESULT = 0 ∧ t.get Reg.TOKEN_STATE = 2

theorem Verified.tokenSpent {s t : State} {more : List (Nat × Nat)} (ended : Verified s t .ok more) : TokenSpent t :=
  ⟨ended.spent.1, ended.spent.2, ended.result⟩

theorem TokenSpent.record {t : State} (spent : TokenSpent t) {q : Nat} {l : List (Nat × Nat)}
    (apart : ∀ k ∈ [Reg.TOKEN_RESULT, Reg.TOKEN_STATE], k ≠ q ∧ ∀ p ∈ l, p.1 ≠ k) : TokenSpent (t.record q l) := by
  obtain ⟨verifying, nonce, result, state⟩ := spent
  have kept : ∀ k ∈ [Reg.TOKEN_RESULT, Reg.TOKEN_STATE], (t.record q l).get k = t.get k := fun k listed =>
    State.get_record_ne t (apart k listed).1 (apart k listed).2
  refine ⟨?_, ?_, (kept _ (by simp)).trans result, (kept _ (by simp)).trans state⟩
  · rw [State.record_sec, verifying]
  · rw [State.record_sec, nonce]

theorem TokenSpent.putDom {t : State} (spent : TokenSpent t) (k : Nat) (b : Bytes) : TokenSpent (t.putDom k b) := spent

theorem TokenSpent.takeOwner {t : State} (spent : TokenSpent t) : TokenSpent t.takeOwner := (spent.putDom ..).putDom ..

/-- The owner key becomes the candidate, and no numeric object changes. -/
theorem State.takeOwner_takes (s : State) : s.takeOwner.dom Reg.OWNER_KEY = s.dom Reg.OWNER_KEY_CANDIDATE ∧
    ∀ k, s.takeOwner.get k = s.get k :=
  ⟨(State.dom_putDom_ne _ _ (by decide)).trans (State.dom_putDom_self ..), fun _ => rfl⟩

/-- What the release of an owner writes, and what an enrolment writes with the CRC of the configuration in force. -/
def releaseRows : List (Nat × Nat) := [(Reg.OWNER_LOCK, 0), (Reg.OWNER_BASE_CRC, 0), (Reg.CONFIG_EPOCH_MIN, 0)]
def enrolRows (crc : Nat) : List (Nat × Nat) := [(Reg.OWNER_LOCK, 1), (Reg.OWNER_BASE_CRC, crc), (Reg.CONFIG_EPOCH_MIN, 0)]

theorem ownerRows_nodup (crc : Nat) : (Reg.OWN_SEQ :: releaseRows.map Prod.fst).Nodup ∧
    (Reg.OWN_SEQ :: (enrolRows crc).map Prod.fst).Nodup := by
  simp [releaseRows, enrolRows]
  decide

theorem ownerRelease_releases {s : State} {l : Link} {tok : Bytes} (held : s.sec.verifying = some (l, tok)) (of : field tok 6 1 = 4)
    (good : s.tokenCheck tok false = .ok) : Completes .ownerRelease s fun t => TokenSpent t ∧ t.get Reg.OWNER_LOCK = 0 ∧
      t.get Reg.CONFIG_EPOCH_MIN = 0 ∧ t.dom Reg.OWNER_KEY = [] ∧ t.get Reg.CONFIG_CRC = s.get Reg.CONFIG_CRC := by
  have ended := s.bare_verified .ok
  let freed := ((s.tokenEnds .ok []).putDom Reg.OWNER_KEY []).putDom Reg.OWNER_KEY_ID (padTo 8 [])
  have row : exec .ownerRelease s = .next (freed.record Reg.OWN_SEQ releaseRows) :=
    congrArg Host.Outcome.next (State.passes_good held of good _)
  have nodup := (ownerRows_nodup 0).1
  refine ⟨_, row, TokenSpent.record ((ended.tokenSpent.putDom ..).putDom ..) (by decide),
    State.get_record_of_mem _ nodup (by simp [releaseRows]), State.get_record_of_mem _ nodup (by simp [releaseRows]), ?_, ?_⟩
  · have doms : (freed.record Reg.OWN_SEQ releaseRows).dom Reg.OWNER_KEY = freed.dom Reg.OWNER_KEY :=
      State.dom_congr (State.record_doms ..) (State.record_variant ..) _
    exact doms.trans ((State.dom_putDom_ne _ _ (by decide)).trans (State.dom_putDom_self ..))
  · rw [State.get_record_ne _ (by decide) (by decide)]
    exact ended.other _ (by decide) (by simp [verdictRows]; decide)

theorem ownerEnrol_enrols {s : State} {l : Link} {tok : Bytes} (held : s.sec.verifying = some (l, tok)) (of : field tok 6 1 = 5)
    (good : s.tokenCheck tok false = .ok) : Completes .ownerEnrol s fun t => TokenSpent t ∧ t.get Reg.OWNER_LOCK = 1 ∧
      t.dom Reg.OWNER_KEY = s.dom Reg.OWNER_KEY_CANDIDATE ∧ t.get Reg.OWNER_BASE_CRC = s.get Reg.CONFIG_CRC ∧
      t.get Reg.CONFIG_EPOCH_MIN = 0 := by
  have ended := s.bare_verified .ok
  let taken := (s.tokenEnds .ok []).takeOwner
  obtain ⟨key, -⟩ := (s.tokenEnds .ok []).takeOwner_takes
  have row : exec .ownerEnrol s = .next (taken.record Reg.OWN_SEQ (enrolRows (s.get Reg.CONFIG_CRC))) :=
    congrArg Host.Outcome.next (State.passes_good held of good _)
  have nodup := (ownerRows_nodup (s.get Reg.CONFIG_CRC)).2
  refine ⟨_, row, TokenSpent.record ended.tokenSpent.takeOwner (by simp [enrolRows]; decide),
    State.get_record_of_mem _ nodup (by simp [enrolRows]), ?_, State.get_record_of_mem _ nodup (by simp [enrolRows]),
    State.get_record_of_mem _ nodup (by simp [enrolRows])⟩
  have doms : (taken.record Reg.OWN_SEQ (enrolRows (s.get Reg.CONFIG_CRC))).dom Reg.OWNER_KEY = taken.dom Reg.OWNER_KEY :=
    State.dom_congr (State.record_doms ..) (State.record_variant ..) _
  exact doms.trans (key.trans (ended.doms _))

theorem ownerRotate_rotates {s : State} {l : Link} {tok : Bytes} (held : s.sec.verifying = some (l, tok)) (of : field tok 6 1 = 6)
    (good : s.tokenCheck tok false = .ok) : Completes .ownerRotate s fun t => TokenSpent t ∧
      t.dom Reg.OWNER_KEY = s.dom Reg.OWNER_KEY_CANDIDATE ∧ t.get Reg.OWNER_LOCK = s.get Reg.OWNER_LOCK := by
  have ended := s.bare_verified .ok
  obtain ⟨key, -⟩ := (s.tokenEnds .ok []).takeOwner_takes
  have row : exec .ownerRotate s = .next ((s.tokenEnds .ok []).takeOwner.record Reg.OWN_SEQ []) :=
    congrArg Host.Outcome.next (State.passes_good held of good _)
  refine ⟨_, row, TokenSpent.record ended.tokenSpent.takeOwner (by decide), ?_, ?_⟩
  · exact key.trans (ended.doms _)
  · rw [State.get_record_ne _ (by decide) (by decide)]
    exact ended.other _ (by decide) (by simp [verdictRows]; decide)

/-! ### A token that fails (R534, R536) -/

theorem State.authFails_denied {s : State} {tok : Bytes} {badSig : Bool} (fails : s.authFails tok badSig = true) :
    s.tokenCheck tok badSig = .denied := by
  simp only [State.authFails, Bool.and_eq_true, decide_eq_true_eq] at fails
  obtain ⟨⟨⟨⟨denied, -⟩, -⟩, -⟩, -⟩ := fails
  exact denied

/-- A failure is counted and timed, with event 62 (R536). -/
theorem State.authFailed_counts (s : State) : s.authFailed.sec = { s.sec with failAt := some s.tim.now } ∧
    s.authFailed.latched 62 = true ∧ s.authFailed.get Reg.AUTH_FAILS = (s.get Reg.AUTH_FAILS + 1) % 2 ^ 32 ∧
    s.authFailed.get Reg.TOKEN_RESULT = s.get Reg.TOKEN_RESULT := by
  unfold State.authFailed
  extract_lets n t
  have sec : t.sec = s.sec := State.record_sec ..
  have tim : t.tim = s.tim := State.record_tim ..
  refine ⟨?_, State.latched_latch .., ?_, ?_⟩
  · rw [State.latch_sec]
    show ({ t.sec with failAt := some t.tim.now } : Sec) = _
    rw [sec, tim]
  · rw [State.get_latch_apart _ _ _ _ (by decide)]
    exact State.get_record_one _ _ (by decide)
  · rw [State.get_latch_apart _ _ _ _ (by decide)]
    exact State.get_record_ne _ (by decide) (by simp; decide)

section Rejected

variable {s : State} {l : Link} {tok : Bytes} {badSig : Bool} (held : s.sec.verifying = some (l, tok))
include held

theorem tokenRejected_ends (bad : s.tokenCheck tok badSig ≠ .ok) (other : s.authFails tok badSig = false) :
    Completes (.tokenRejected badSig) s fun t => t.sec.verifying = none ∧ t.sec.nonce = none ∧
      t.get Reg.TOKEN_RESULT = Result.code (s.tokenCheck tok badSig) ∧ t.get Reg.TOKEN_STATE = 2 ∧
      SameBut [Reg.TOKEN_RESULT, Reg.TOKEN_STATE, Reg.TOK_SEQ] s { t with sec := s.sec, io := s.io } := by
  have ended := s.bare_verified (s.tokenCheck tok badSig)
  have row : exec (.tokenRejected badSig) s = .next (s.tokenEnds (s.tokenCheck tok badSig) []) := by
    show execTokenRejected badSig s = _
    unfold execTokenRejected
    rw [held]
    exact congrArg Host.Outcome.next ((if_neg bad).trans (if_neg (by simp [other])))
  obtain ⟨x, only⟩ := s.tokenEnds_only (s.tokenCheck tok badSig) []
  refine ⟨_, row, ended.spent.1, ended.spent.2, ended.result.1, ended.result.2, ?_⟩
  rw [only]
  exact SameBut.record (s := s) (q := Reg.TOK_SEQ) (l := verdictRows (s.tokenCheck tok badSig) []) (by simp) (by simp [verdictRows])

theorem tokenRejected_counts (fails : s.authFails tok badSig = true) :
    Completes (.tokenRejected badSig) s fun t => t.sec.nonce = none ∧ t.get Reg.TOKEN_RESULT = Result.code .denied ∧
      t.get Reg.AUTH_FAILS = (s.get Reg.AUTH_FAILS + 1) % 2 ^ 32 ∧ t.sec.failAt = some s.tim.now ∧ t.latched 62 = true := by
  have ended := s.bare_verified .denied
  have denied := State.authFails_denied fails
  have row : exec (.tokenRejected badSig) s = .next (s.tokenEnds .denied []).authFailed := by
    show execTokenRejected badSig s = _
    unfold execTokenRejected
    rw [held]
    refine congrArg Host.Outcome.next ((if_neg (by simp [denied])).trans ((if_pos fails).trans ?_))
    rw [denied]
  obtain ⟨sec, told, fails, result⟩ := (s.tokenEnds .denied []).authFailed_counts
  refine ⟨_, row, ?_, result.trans ended.result.1, fails.trans ?_, ?_, told⟩
  · rw [sec]
    exact ended.spent.2
  · rw [ended.other _ (by decide) (by simp [verdictRows]; decide)]
  · rw [sec, ended.tim]

end Rejected

/-! ### The end of a session (R535) -/

/-- What the end of a session writes. -/
def sessionRows : List (Nat × Nat) := [(Reg.SESSION_KIND, 0), (Reg.SESSION_LINK, 0), (Reg.SESSION_EXPIRY, 0)]

theorem sessionRows_nodup : (Reg.TOK_SEQ :: sessionRows.map Prod.fst).Nodup := by decide

/-- A recovery session ends with its record alone. -/
theorem State.sessionEnds_recovery {s : State} (l : Option Link) (recovery : s.get Reg.SESSION_KIND = 2) :
    s.sessionEnds l = s.record Reg.TOK_SEQ sessionRows := by
  unfold State.sessionEnds
  extract_lets kind s1
  rw [if_neg (by simp [kind, recovery]), if_neg (by simp [kind, recovery])]
  rfl

theorem sessionClose_ends {s : State} {l : Link} (serves : Serves s l false) (recovery : s.get Reg.SESSION_KIND = 2)
    (own : s.get Reg.SESSION_LINK = Link.code l) : Completes (.sessionClose l 1#8) s fun t => Answered t l .ok ∧
      t.get Reg.SESSION_KIND = 0 ∧ t.get Reg.SESSION_LINK = 0 ∧ t.get Reg.SESSION_EXPIRY = 0 ∧
      SameButAnswer l [Reg.SESSION_KIND, Reg.SESSION_LINK, Reg.SESSION_EXPIRY, Reg.TOK_SEQ] s t := by
  have work : s.sessionClose l 1 = (.ok, s.record Reg.TOK_SEQ sessionRows) := by
    refine (checks_pass (by simp [own])).trans ?_
    rw [if_neg (by simp [recovery]), State.sessionEnds_recovery _ recovery]
  have same : SameBut [Reg.SESSION_KIND, Reg.SESSION_LINK, Reg.SESSION_EXPIRY, Reg.TOK_SEQ] s (s.record Reg.TOK_SEQ sessionRows) :=
    SameBut.record (by decide) (by decide)
  have shown : ∀ {k : Nat}, (k, 0) ∈ sessionRows → 0x210000 ≤ k →
      ((s.record Reg.TOK_SEQ sessionRows).answer l .ok).get k = 0 := fun listed above =>
    (State.get_answer_above _ _ _ above).trans (State.get_record_of_mem _ sessionRows_nodup listed)
  exact ⟨_, congrArg Host.Outcome.next (State.request_quiet serves work ((Quiet.refl s).record ..)), State.answered_answer ..,
    shown (by decide) (by decide), shown (by decide) (by decide), shown (by decide) (by decide), same.answer l .ok⟩

theorem sessionExpire_resets {s : State} (test : s.get Reg.SESSION_KIND = 1) (mode : s.mode = .test) :
    Completes .sessionExpire s fun t => t.mode = .boot ∧ t.get Reg.RESET_CAUSE = 6 ∧ t.get Reg.RESET_DETAIL = 1 := by
  have row : exec .sessionExpire s = .next ((s.record Reg.TOK_SEQ sessionRows).resetPart 6 1 .resetHeld) := by
    refine congrArg Host.Outcome.next ((if_neg (by simp [test])).trans ?_)
    unfold State.sessionEnds
    extract_lets kind s1
    rw [if_pos (by simp [kind, test, mode])]
    show s1.resetPart 6 (s.get Reg.SESSION_KIND) .resetHeld = _
    rw [test]
    rfl
  exact ⟨_, row, rfl, State.get_resetPart ..⟩

theorem sessionExpire_detaches {s : State} (debug : s.get Reg.SESSION_KIND = 3) (open_ : s.sec.debugFuse = false) :
    Completes .sessionExpire s fun t => t.get Reg.SESSION_KIND = 0 ∧ t.get Reg.DEBUG_STATE = 0 ∧ t.sec.attached = 0 ∧
      t.mode = s.mode := by
  let ended := s.record Reg.TOK_SEQ sessionRows
  let alone : State := { ended with sec := { ended.sec with attached := 0 } }
  have fuse : ended.sec.debugFuse = false := by rw [State.record_sec, open_]
  have row : exec .sessionExpire s = .next (alone.record Reg.DBG_SEQ [(Reg.DEBUG_STATE, 0)]) := by
    refine congrArg Host.Outcome.next ((if_neg (by simp [debug])).trans ?_)
    unfold State.sessionEnds
    extract_lets kind s1
    have code : (if s1.sec.debugFuse = true then 2 else 0) = 0 := if_neg (show ¬ ended.sec.debugFuse = true by simp [fuse])
    rw [if_neg (by simp [kind, debug]), if_pos (by simp [kind, debug]), code]
    rfl
  refine ⟨_, row, ?_, State.get_record_one _ _ (by decide), ?_, ?_⟩
  · rw [State.get_record_ne _ (by decide) (by decide)]
    exact State.get_record_of_mem s sessionRows_nodup (by decide)
  · rw [State.record_sec]
  · rw [State.record_mode]
    exact s.record_mode Reg.TOK_SEQ _

/-- Settles O48, by the end that each verification, session and request of chapter 16 comes to. -/
theorem tokensOpenSessionsAndMoveOwnership : Obligations.TokensOpenSessionsAndMoveOwnership := by
  refine ⟨fun l s serves free => ?_, fun l s serves holds => ?_, fun s => ⟨_, rfl, rfl⟩, fun l s serves state => ?_,
    fun l tok s held of good => ?_, fun l tok s held of good hold => tokenRecovery_holds held of good hold,
    fun l tok s held of good ready idle => tokenRecovery_leaves held of good ready idle, fun l tok s held of good => ?_,
    fun l tok s held of good => ?_, fun l tok s held of good => ?_, fun l tok s held of good => ?_,
    fun l tok badSig r s held is bad other => ?_, fun l tok badSig r s held _ fails => tokenRejected_counts held fails,
    fun l s serves recovery own => sessionClose_ends serves recovery own, fun s test mode => sessionExpire_resets test mode,
    fun s debug open_ => sessionExpire_detaches debug open_⟩
  · obtain ⟨valid, placed, draws, same⟩ := s.freshNonce_shows
    exact ⟨_, congrArg Host.Outcome.next (State.request_quiet serves (State.nonceRequest_fresh free)
      ((((Quiet.refl s).sec _).putDom ..).seq _)), State.answered_answer .., valid, placed, draws, same.answer l .ok⟩
  · have work : s.nonceRequest 1 = (.busy, s) := checks_fail (p := (s.authHolds, .busy)) (by simp [holds])
    exact ⟨_, congrArg Host.Outcome.next (State.request_quiet serves work (Quiet.refl s)), s.answered_only l .busy⟩
  · have work : s.tokenSubmit l 1 = (.ok, s.submit l) := checks_pass (by simp [state])
    have same : SameBut [Reg.TOKEN_STATE, Reg.TOK_SEQ] s { s.submit l with sec := s.sec } :=
      SameBut.record (s := s) (q := Reg.TOK_SEQ) (l := [(Reg.TOKEN_STATE, 1)]) (by simp) (by simp)
    refine ⟨_, congrArg Host.Outcome.next (State.request_quiet serves work (((Quiet.refl s).sec _).record ..)),
      State.answered_answer .., ?_, ?_, same.answer l .ok⟩
    · show (s.submit l).sec.verifying = _
      rw [State.submit, State.record_sec]
    · rw [State.get_answer_above _ _ _ (by decide)]
      exact State.get_record_one _ _ (by decide)
  · have ended := s.session_verified l tok 1
    obtain ⟨kind, link, expiry⟩ := ended.opened
    obtain ⟨verifying, nonce, result, state⟩ := ended.tokenSpent
    exact ⟨_, congrArg Host.Outcome.next (State.passes_good held of good _), verifying, nonce, result, state, kind, link, expiry,
      ended.mode⟩
  · have ended := s.session_verified l tok 3
    obtain ⟨kind, link, expiry⟩ := ended.opened
    obtain ⟨verifying, nonce, result, state⟩ := TokenSpent.record ended.tokenSpent (q := Reg.DBG_SEQ) (l := [(Reg.DEBUG_STATE, 1)])
      (by decide)
    have kept : ∀ {k : Nat}, k ≠ Reg.DBG_SEQ → Reg.DEBUG_STATE ≠ k →
        ((s.tokenEnds .ok (s.session l tok 3)).record Reg.DBG_SEQ [(Reg.DEBUG_STATE, 1)]).get k =
          (s.tokenEnds .ok (s.session l tok 3)).get k := fun seq other => State.get_record_ne _ seq (by simpa using other)
    exact ⟨_, congrArg Host.Outcome.next (State.passes_good held of good _), verifying, nonce, result, state,
      (kept (by decide) (by decide)).trans kind, (kept (by decide) (by decide)).trans link,
      (kept (by decide) (by decide)).trans expiry, State.get_record_one _ _ (by decide)⟩
  · obtain ⟨t, row, ⟨verifying, nonce, result, state⟩, rest⟩ := ownerRelease_releases held of good
    exact ⟨t, row, verifying, nonce, result, state, rest⟩
  · obtain ⟨t, row, ⟨verifying, nonce, result, state⟩, rest⟩ := ownerEnrol_enrols held of good
    exact ⟨t, row, verifying, nonce, result, state, rest⟩
  · obtain ⟨t, row, ⟨verifying, nonce, result, state⟩, rest⟩ := ownerRotate_rotates held of good
    exact ⟨t, row, verifying, nonce, result, state, rest⟩
  · subst is
    exact tokenRejected_ends held bad other

end Sys2Proof.Machine
end

section
/-! SUPPORT. The loss of the CX PLL, barks, acknowledged events and the event log (R548 to R563), and the statement settled with
them. -/

namespace Sys2Proof.Machine

/-! ### The CX PLL (R548) -/

theorem Quiet.pllLost {s t : State} (quiet : Quiet s t) : t.sys.pllLost = s.sys.pllLost := by
  obtain ⟨-, -, off, sys⟩ := quiet
  rw [sys]

/-- The loss of a link leaves the record of a lost PLL. -/
theorem State.linkLost_pllLost (s : State) (h : Nat) : (s.linkLost h).sys.pllLost = s.sys.pllLost := by
  by_cases down : (s.hub h).width = 0
  · rw [State.linkLost, if_pos down]
  · exact (Quiet.linkLost down).pllLost

theorem State.linksLost_pllLost (s : State) (l : List Nat) : (l.foldl State.linkLost s).sys.pllLost = s.sys.pllLost := by
  induction l generalizing s with
  | nil => rfl
  | cons h r ih => exact (ih _).trans (s.linkLost_pllLost h)

theorem State.faultBits_pllLost (s : State) (b : Nat) : (s.faultBits b).sys.pllLost = s.sys.pllLost := by
  rw [State.faultBits, State.record_sys]

theorem State.criticalFault_pllLost (s : State) (b e x y : Nat) :
    (s.criticalFault b (some (e, x, y))).sys.pllLost = s.sys.pllLost := by
  have dark := ((Quiet.refl s).carriersOff false).pllLost
  have told := ((Quiet.refl ((s.carriersOff false).faultBits b)).latchAs true 4 e x y).pllLost
  have run : s.criticalFault b (some (e, x, y)) = (((s.carriersOff false).faultBits b).latchAs true 4 e x y).forceHold 2 := rfl
  rw [run, State.forceHold_pllLost, told, State.faultBits_pllLost, dark]

theorem cxPllUnlock_faults {s : State} (up : s.sys.phase = .released) (locked : s.sys.pllLost = false) :
    Completes .cxPllUnlock s fun t => t.sys.pllLost = true ∧ bit (t.get Reg.FAULT_ACTIVE) 2 = true ∧ t.get Reg.FAULT_LAST = 2 ∧
      t.latched 17 = true := by
  let lost : State := { s with sys := { s.sys with pllLost := true } }
  let stopped := (lost.quadList ++ (if Variant.hx lost.variant then [4] else [])).foldl State.linkLost lost
  have row : exec .cxPllUnlock s = .next (stopped.criticalFault 2 (some (17, 0, 0))) := if_neg (by simp [up, locked])
  have kept : stopped.sys.pllLost = true := lost.linksLost_pllLost _
  exact ⟨_, row, (stopped.criticalFault_pllLost 2 17 0 0).trans kept, stopped.criticalFault_shows 2 17 0 0⟩

/-! ### Watchdogs (R555) -/

/-- A bark's own EMCY changes what waits to be sent, and nothing else. -/
theorem State.barkEmcy_only (s : State) : ∃ x y, s.barkEmcy = { s with regs := x, ev := y } := by
  unfold State.barkEmcy
  split
  · exact s.queueEmcy_only _
  · exact ⟨s.regs, s.ev, rfl⟩

theorem State.get_barkEmcy (s : State) {k : Nat} (apart : k ∉ historyKeys) : s.barkEmcy.get k = s.get k :=
  (((Writes.refl _ s).queueEmcy _).ite (Writes.refl _ s)).get k apart

/-- What a bark shows and latches. -/
def State.barked (s : State) (core : Fin 5) : State :=
  let counted := s.record Reg.WDOG_SEQ [(Reg.WDT_BARKS, (s.get Reg.WDT_BARKS + 1) % 2 ^ 32)]
  ({ counted with hlt := { counted.hlt with barking := setBit counted.hlt.barking core } }).latch 4 core 0

theorem State.barked_shows (s : State) (core : Fin 5) : (s.barked core).get Reg.WDT_BARKS = (s.get Reg.WDT_BARKS + 1) % 2 ^ 32 ∧
    (s.barked core).hlt.barking.testBit core.val = true ∧ (s.barked core).latched 4 = true := by
  refine ⟨?_, ?_, State.latched_latch ..⟩
  · rw [State.barked, State.get_latch_apart _ _ _ _ (by decide)]
    exact State.get_record_one s _ (by decide)
  · rw [State.barked, State.latch_hlt]
    exact (testBit_setBit ..).2 (.inr rfl)

theorem watchdogBark_counts {s : State} (core : Fin 5) (up : s.sys.phase = .released) :
    Completes (.watchdogBark core) s fun t => t.get Reg.WDT_BARKS = (s.get Reg.WDT_BARKS + 1) % 2 ^ 32 ∧
      t.hlt.barking.testBit core.val = true ∧ t.latched 4 = true := by
  have row : exec (.watchdogBark core) s = .next (if s.latched 4 then s.barked core else (s.barked core).barkEmcy) :=
    if_neg (by simp [up])
  have shows := s.barked_shows core
  refine ⟨_, row, ?_⟩
  split
  · exact shows
  · obtain ⟨count, barks, told⟩ := shows
    obtain ⟨x, y, only⟩ := (s.barked core).barkEmcy_only
    refine ⟨(State.get_barkEmcy _ (by decide)).trans count, ?_, ?_⟩
    · rw [only]
      exact barks
    · rw [State.latched, State.get_barkEmcy _ (by decide)]
      exact told

/-! ### Acknowledging events (R560) -/

/-- An acknowledge leaves every object but the latched events and their history. -/
theorem State.get_ackEvents (s : State) (mask : Nat) {k : Nat} (apart : k ∉ historyKeys) (other : k ≠ Reg.EVT_LATCHED) :
    (s.ackEvents mask).get k = s.get k := by
  rw [State.ackEvents_eq, State.get_attnFell _ _ apart]
  exact State.get_put_ne s _ other

theorem tmrFlags_apart (n : Nat) (lt : n < 16) : Reg.TMR_FLAGS n ∉ historyKeys ∧ Reg.TMR_FLAGS n ≠ Reg.EVT_LATCHED ∧
    0x210000 ≤ Reg.TMR_FLAGS n := by
  refine ⟨?_, ?_, ?_⟩
  · simp only [historyKeys, List.mem_cons, List.not_mem_nil, or_false, Reg.TMR_FLAGS, Reg.LOG_DROPPED, Reg.LOGS_SEQ,
      Reg.EMCY_DROPPED, Reg.CANSTATE_SEQ, Reg.IRQ_ASSERTIONS]
    omega
  · simp only [Reg.TMR_FLAGS, Reg.EVT_LATCHED]
    omega
  · simp only [Reg.TMR_FLAGS]
    omega

theorem evtAck_clears {s : State} {l : Link} (mask : BitVec 64) (serves : Serves s l false) :
    Completes (.evtAck l mask) s fun t => Answered t l .ok ∧
      (∀ e, e < 64 → t.latched e = (s.latched e && !mask.toNat.testBit e)) ∧ t.get Reg.FAULT_ACTIVE = s.get Reg.FAULT_ACTIVE ∧
      (∀ n, n < 16 → t.get (Reg.TMR_FLAGS n) = s.get (Reg.TMR_FLAGS n)) ∧ t.get Reg.TMR_FLAGS_ALL = s.get Reg.TMR_FLAGS_ALL := by
  have kept : ∀ k, k ∉ historyKeys → k ≠ Reg.EVT_LATCHED → 0x210000 ≤ k →
      ((s.ackEvents mask.toNat).answer l .ok).get k = s.get k := fun k apart other above =>
    (State.get_answer_above _ _ _ above).trans (State.get_ackEvents s _ apart other)
  refine ⟨_, congrArg Host.Outcome.next (State.request_steady serves (s.ackEvents_steady mask.toNat)), State.answered_answer ..,
    fun e _ => ?_, kept _ (by decide) (by decide) (by decide), fun n lt => ?_, kept _ (by decide) (by decide) (by decide)⟩
  · rw [State.latched_answer, State.latched, State.ackEvents_latched]
    exact testBit_clrMask ..
  · obtain ⟨apart, other, above⟩ := tmrFlags_apart n lt
    exact kept _ apart other above

/-! ### The event log (R562) -/

/-- What an entry written changes of the objects. -/
def State.logRows (s : State) : List (Nat × Nat) :=
  [(Reg.LOG_HEAD, (s.get Reg.LOG_HEAD + 32) % logSize), (Reg.LOG_SEQ_NEXT, (s.get Reg.LOG_SEQ_NEXT + 1) % 2 ^ 32)]

/-- An entry written goes to flash 0, and moves the head and the next number. -/
theorem State.logOne_only (s : State) (e : LogEntry) : ∃ x,
    s.logOne e = ({ s with brd := x } : State).record Reg.LOGS_SEQ s.logRows := by
  unfold State.logOne
  extract_lets head seq b s1
  have erased : ∃ y, s1 = { s with brd := y } := by
    by_cases first : head % 4096 = 0
    · exact ⟨_, if_pos first⟩
    · exact ⟨s.brd, if_neg first⟩
  obtain ⟨y, only⟩ := erased
  rw [only]
  exact ⟨_, rfl⟩

theorem eventLogWrite_writes {s : State} {e : LogEntry} (held : s.ev.log = [e]) (free : s.flashTaken 0 = false) :
    Completes .eventLogWrite s fun t => t.ev.log = [] ∧ t.get Reg.LOG_HEAD = (s.get Reg.LOG_HEAD + 32) % logSize ∧
      t.get Reg.LOG_SEQ_NEXT = (s.get Reg.LOG_SEQ_NEXT + 1) % 2 ^ 32 ∧
      SameBut [Reg.LOG_HEAD, Reg.LOG_SEQ_NEXT, Reg.LOGS_SEQ] s { t with ev := s.ev, brd := s.brd } := by
  let emptied : State := { s with ev := { s.ev with log := [] } }
  obtain ⟨x, only⟩ := emptied.logOne_only e
  let stored : State := { emptied with brd := x }
  have row : exec .eventLogWrite s = .next (stored.record Reg.LOGS_SEQ s.logRows) := by
    refine congrArg Host.Outcome.next ((if_neg (by simp [free])).trans ?_)
    rw [held]
    exact only
  have nodup : (Reg.LOGS_SEQ :: s.logRows.map Prod.fst).Nodup := by
    simp [State.logRows]
    decide
  refine ⟨_, row, ?_, State.get_record_of_mem _ nodup (by simp [State.logRows]),
    State.get_record_of_mem _ nodup (by simp [State.logRows]), ?_⟩
  · rw [State.record_ev]
  · exact SameBut.record (s := s) (q := Reg.LOGS_SEQ) (l := s.logRows) (by simp) (by simp [State.logRows])

/-- Settles O51, by what each row of chapter 17 shows, latches or resets. -/
theorem faultsWatchdogsAndTheLog : Obligations.FaultsWatchdogsAndTheLog := by
  refine ⟨fun s up locked => cxPllUnlock_faults up locked, fun s => ⟨_, rfl, rfl⟩, fun l s serves => ?_,
    fun core s up => watchdogBark_counts core up, fun core s barks => ?_, fun l mask s serves => evtAck_clears mask serves,
    fun e s held free => eventLogWrite_writes held free, fun s up => ?_, fun s up => ?_, fun s up => ?_⟩
  · let cleared := clrMask (s.get Reg.FAULT_ACTIVE) s.endedFaults
    have work : s.faultClear 1 = (.ok, s.record Reg.FAULT_SEQ [(Reg.FAULT_ACTIVE, cleared)]) := checks_pass (by simp)
    have same : SameBut [Reg.FAULT_ACTIVE, Reg.FAULT_SEQ] s (s.record Reg.FAULT_SEQ [(Reg.FAULT_ACTIVE, cleared)]) :=
      SameBut.record (by simp) (by simp)
    refine ⟨_, congrArg Host.Outcome.next (State.request_quiet serves work ((Quiet.refl s).record ..)), State.answered_answer ..,
      ?_, same.answer l .ok⟩
    rw [State.get_answer_above _ _ _ (by decide)]
    exact State.get_record_one _ _ (by decide)
  · exact ⟨_, congrArg Host.Outcome.next (if_pos barks), rfl, State.get_resetPart ..⟩
  · refine ⟨_, if_neg (by simp [up]), ?_, State.latched_latch ..⟩
    rw [State.get_latch_apart _ _ _ _ (by decide)]
    exact State.get_record_one _ _ (by decide)
  · obtain ⟨cause, -⟩ := (s.latch 61 0 0).get_resetPart 8 0 .resetHeld
    exact ⟨_, if_neg (by simp [up]), rfl, cause, State.phase_resetPart ..⟩
  · exact ⟨_, if_neg (by simp [up]), State.latched_latch .., State.latch_rep .., State.latch_mode ..⟩

end Sys2Proof.Machine
end

section
/-! SUPPORT. What the load of a configuration changes is quiet: neither the links, nor the mode, nor the part's own registers
(R117, R119). -/

namespace Sys2Proof.Machine

section
variable {s t : State} (h : Quiet s t)
include h

theorem Quiet.flashOther (n : Nat) : Quiet s (t.flashOther n) := by
  unfold State.flashOther
  split
  · exact h.congr rfl rfl rfl
  · exact h

theorem Quiet.endSurvey (r : Result) : Quiet s (t.endSurvey r) := ((h.arr _).record ..).ite h

theorem Quiet.closeForApply (d : Delta) : Quiet s (t.closeForApply d) :=
  h.foldl _ fun _ _ hu => (((hu.placeT2 ..).ite hu).closeAll ..).updStream ..

theorem Quiet.trk (x : Trk) : Quiet s { t with trk := x } := h.congr rfl rfl rfl

theorem Quiet.offer (i : Nat) (tiers : List Nat) (kind size : Nat) (tags : List Nat) : Quiet s (t.offer i tiers kind size
    tags) :=
  h.updStream ..

theorem Quiet.reportPassage (body : Bytes) (tag reads : Nat) : Quiet s (t.reportPassage body tag reads) :=
  h.foldl _ fun _ _ hu => (hu.offer ..).place ..

theorem Quiet.closeTrack (k : Track) (flag : Nat) : Quiet s (t.closeTrack k flag) :=
  ((((h.trk _).record ..).record ..).latch ..).reportPassage ..

theorem Quiet.closeTracks (flag : Nat) : Quiet s (t.closeTracks flag) := h.foldl _ fun _ _ hu => hu.closeTrack ..

theorem Quiet.publish (i : Ival) : Quiet s (t.publish i) :=
  ((h.foldl _ fun _ _ hu => hu.record ..).record ..).latch ..

theorem Quiet.cutIvals : Quiet s t.cutIvals := (h.trk _).foldl _ fun _ _ hu => hu.publish ..

theorem Quiet.stopTracking (flag : Nat) : Quiet s (t.stopTracking flag) := (h.closeTracks ..).cutIvals

theorem Quiet.setBytes (k : Nat) (b : Bytes) : Quiet s (t.setBytes k b) := by
  unfold State.setBytes
  split
  · exact h
  · exact (h.putDom ..).ite (h.put ..)

theorem Quiet.overlay (es : DomStore) : Quiet s (t.overlay es) := h.foldl _ fun _ _ hu => hu.setBytes ..

theorem Quiet.seqGroups (ks : List Nat) : Quiet s (t.seqGroups ks) := h.foldl _ fun _ _ hu => hu.seq ..

theorem Quiet.rep (x : Rep) : Quiet s { t with rep := x } := h.congr rfl rfl rfl

theorem Quiet.goneBy (p : Pkt) : Quiet s (t.goneBy p) := h.rep _

theorem Quiet.emptyRings : Quiet s t.emptyRings := by
  unfold State.emptyRings
  extract_lets _ _ _ s2 s3
  have hs2 : Quiet s s2 :=
    ((h.rep _).foldl _ fun _ _ hu => hu.goneBy ..).foldl _ fun _ _ hu => hu.foldl _ fun _ _ hu =>
      ((hu.record ..).latch ..).ite hu
  have hs3 : Quiet s s3 := by
    unfold s3
    refine hs2.foldl _ fun u a hu => ?_
    extract_lets _ v
    have hv : Quiet s v := hu.updStream ..
    exact hv.ite (((hv.addWide ..).seq ..).recordsLost ..)
  exact hs3.record ..

theorem Quiet.unqueue (i : Nat) : Quiet s (t.unqueue i) :=
  ((((h.foldl _ fun _ _ hu => hu.ite (hu.toArchive ..)).rep _).updStream ..).record ..).fillChanged ..

theorem Quiet.restream (d : Delta) (i : Nat) : Quiet s (t.restream d i) := by
  unfold State.restream
  extract_lets _ s2
  have hs2 : Quiet s s2 := (((h.put ..).ite (h.changeTier ..)).record ..).updStream ..
  exact (hs2.unqueue ..).ite hs2

theorem Quiet.applyStreams (d : Delta) : Quiet s (t.applyStreams d) := h.foldl _ fun _ _ hu => (hu.restream ..).ite hu

theorem Quiet.settle (p : Nat) : Quiet s (t.settle p) := h.recordIf ..

theorem Quiet.coldZone (warm : Bool) (z : Nat) : Quiet s (t.coldZone warm z) := by
  unfold State.coldZone
  extract_lets _ _ u
  have hu : Quiet s u := h.congr rfl rfl rfl
  exact hu.recordIf ..

theorem Quiet.applyAir (d : Delta) : Quiet s (t.applyAir d) := by
  unfold State.applyAir
  extract_lets s1
  have hs1 : Quiet s s1 := h.foldl _ fun _ _ hu => hu.settle ..
  exact hs1.ite (hs1.foldl _ fun _ _ hu => hu.coldZone ..)

theorem Quiet.autoArm : Quiet s t.autoArm := h.foldl _ fun _ _ hu => (hu.armOp ..).ite hu

theorem Quiet.applySlots (d : Delta) : Quiet s (t.applySlots d) :=
  (h.foldl _ fun _ _ hu => (hu.armOp ..).ite hu).autoArm

theorem Quiet.toHot (r : Read) (l : Loc) (first : Bool) : Quiet s (t.toHot r l first) := (h.rep _).record ..

theorem Quiet.carry (i : Nat) (r : Read) (l : Loc) (first : Bool) : Quiet s (t.carry i r l first) := by
  unfold State.carry
  extract_lets _ _ _ s1 _ s3
  have hs1 : Quiet s s1 := h.offer ..
  have hs3 : Quiet s s3 := (hs1.ite (hs1.offer ..)).updStream ..
  exact (hs3.place ..).ite ((((hs3.addWide ..).seq ..).recordsLost ..).ite
    ((((hs3.lost ..).ite hs3).place ..).ite ((hs3.lost ..).ite hs3)))

theorem Quiet.report (r : Read) (l : Loc) : Quiet s (t.report r l) :=
  (((h.toHot ..).rep _).ite (h.toHot ..)).foldl _ fun _ _ hu => hu.carry ..

theorem Quiet.locateNone : Quiet s t.locateNone := ((h.rep _).foldl _ fun _ _ hu => hu.report ..).rep _

theorem Quiet.startTracking : Quiet s t.startTracking := h.trk _

theorem Quiet.applyTracking (d : Delta) : Quiet s (t.applyTracking d) := by
  unfold State.applyTracking
  extract_lets s1
  have hs1 : Quiet s s1 := h.ite h.locateNone
  exact hs1.startTracking.ite hs1

theorem Quiet.io (x : Io) : Quiet s { t with io := x } := h.congr rfl rfl rfl

theorem Quiet.updIo (f : Io → Io) : Quiet s (t.updIo f) := h.io _

theorem Quiet.loadGroup (base n : Nat) : Quiet s (t.loadGroup base n) := h.foldl _ fun _ _ hu => hu.put ..

theorem Quiet.claimTimers (base : Option Nat) : Quiet s (t.claimTimers base) := by
  unfold State.claimTimers
  split
  · exact h
  · extract_lets own s1 _ s2
    have owned : Quiet s s1 := h.foldl _ fun _ _ hu => hu.put ..
    have claimed : Quiet s s2 := (owned.val _).put ..
    clear_value s2
    cases base with
    | none => exact claimed
    | some b => exact claimed.loadGroup b 4

theorem Quiet.tim (x : Tim) : Quiet s { t with tim := x } := h.congr rfl rfl rfl

theorem Quiet.startDiscipline : Quiet s t.startDiscipline := (h.tim _).record ..

theorem Quiet.applyBoard (d : Delta) : Quiet s (t.applyBoard d) := by
  unfold State.applyBoard
  extract_lets _ _ _ _ s3 s4
  have hs3 : Quiet s s3 := ((h.updTwb _).updIo ..).claimTimers ..
  have hs4 : Quiet s s4 := hs3.startDiscipline.ite hs3
  exact (hs4.put ..).ite hs4

theorem Quiet.applyPins : Quiet s t.applyPins := h.foldl _ fun _ _ hu => (hu.rampQuad ..).quadOut ..

theorem Quiet.showPhases (cs : List Nat) : Quiet s (t.showPhases cs) := (h.recordIf ..).recordIf ..

theorem Quiet.applyChains (d : Delta) : Quiet s (t.applyChains d) :=
  (h.foldl _ fun _ _ hu => hu.rampDown ..).showPhases ..

theorem Quiet.ilk (x : Ilk) : Quiet s { t with ilk := x } := h.congr rfl rfl rfl

theorem Quiet.ilkLoad : Quiet s t.ilkLoad := h.ilk _

theorem Quiet.applyInterlock (old : Region) (boot : Bool) : Quiet s (t.applyInterlock old boot) :=
  h.ite (h.ilkLoad.ite (h.ite (h.ilk _)))

theorem Quiet.rebuildSeeds : Quiet s t.rebuildSeeds := h.foldl _ fun _ _ hu => (hu.updChain ..).seq ..

theorem Quiet.applyRange : Quiet s t.applyRange := by
  unfold State.applyRange
  split
  · exact h.recordIf ..
  · exact h.recordIf ..

theorem Quiet.loadSeed (khz c : Nat) : Quiet s (t.loadSeed khz c) := by
  unfold State.loadSeed
  extract_lets s1
  have hs1 : Quiet s s1 := h.updChain ..
  split
  · exact hs1.record ..
  · exact hs1

theorem Quiet.sweepOn (khz : Nat) (only : Option Nat) : Quiet s (t.sweepOn khz only) :=
  (h.foldl _ fun _ _ hu => ((hu.phaseless ..).updQuad ..).record ..).foldl _ fun _ _ hu =>
    ((hu.loadSeed ..).raiseChain ..).record ..

theorem Quiet.sweepNext (w : Sweep) (l : List Nat) : Quiet s (t.sweepNext w l) := by
  induction l generalizing t with
  | nil => exact h.sweep _
  | cons k r ih => exact (h.sweep _).ite (((h.sweep _).sweepOn ..).ite (ih h.refuse))

theorem Quiet.startSweep (khzs : List Nat) (only : Option Nat) (iso : Bool) : Quiet s (t.startSweep khzs only iso) :=
  (h.foldl _ fun _ _ hu => hu.record ..).sweepNext ..

theorem Quiet.sweepNew (old : List Nat) (region : Bool) : Quiet s (t.sweepNew old region) :=
  h.ite ((h.cutSweep.startSweep ..).sweep _)

theorem Quiet.applyChannels (old : State) (d : Delta) : Quiet s (t.applyChannels old d) := by
  unfold State.applyChannels
  extract_lets _ _ s1 s2 s3
  have hs1 : Quiet s s1 := h.applyInterlock ..
  have hs2 : Quiet s s2 := (hs1.record ..).ite hs1
  have hs3 : Quiet s s3 := (hs2.rebuildSeeds.ite hs2).applyRange
  exact hs3.ite (hs3.sweepNew ..)

theorem Quiet.endDwells : Quiet s t.endDwells := h.foldl _ fun _ _ hu => hu.closeDwell ..

theorem Quiet.applyPlan (old : State) : Quiet s (t.applyPlan old) :=
  h.ite (h.endDwells.replan.foldl _ fun _ _ hu => hu.ite ((hu.rampQuad ..).updQuad ..)).showBeams

theorem Quiet.queueEmcy (e : Emcy) : Quiet s (t.queueEmcy e) := by
  obtain ⟨_, _, only⟩ := t.queueEmcy_only e
  rw [only]
  exact h.congr rfl rfl rfl

theorem Quiet.attnFell (before : Bool) : Quiet s (t.attnFell before) := (h.queueEmcy ..).ite h

theorem Quiet.applyConfig (es : DomStore) (boot : Bool) : Quiet s (t.applyConfig es boot) := by
  unfold State.applyConfig
  extract_lets _ _ _ s1 s2 _ s4 _ s6 s7 s8
  have hs1 : Quiet s s1 := (h.endSurvey ..).closeForApply ..
  have hs2 : Quiet s s2 := (hs1.stopTracking ..).ite hs1
  have hs4 : Quiet s s4 := (((hs2.hfStop ..).ite hs2).overlay ..).seqGroups ..
  have hs6 : Quiet s s6 := ((((hs4.emptyRings.ite hs4).applyStreams ..).applyAir ..).applySlots ..).applyTracking ..
  have hs7 : Quiet s s7 := (((hs6.applyBoard ..).applyPins.applyChains ..).applyChannels ..).applyPlan ..
  have hs8 : Quiet s s8 := (hs7.put ..).attnFell ..
  exact (hs8.bump ..).ite hs8

end

end Sys2Proof.Machine
end

section
/-! SUPPORT. Power, the release of reset and BOOT (Sequence 2.1), and the statement settled with them. -/

namespace Sys2Proof.Machine

/-! ### What the release of reset finds stays through BOOT (R67, R574, R576) -/

/-- The phase of reset, the straps that fix the part's address and its test pin, and the drive of LX0 and LX1. -/
def Sys.power (y : Sys) : ResetPhase × Bool × Nat × LxDrive × Nat := (y.phase, y.testen, y.twaAs, y.lx01, y.softStart)

theorem Quiet.power_eq {s t : State} (quiet : Quiet s t) : t.sys.power = s.sys.power := by
  obtain ⟨-, -, off, sys⟩ := quiet
  rw [sys]
  rfl

theorem State.abandon_power (s : State) : s.abandon.sys.power = s.sys.power := by
  unfold State.abandon
  split
  · rfl
  · split <;> rfl

theorem State.forceHold_power (s : State) (reason : Nat) : (s.forceHold reason).sys.power = s.sys.power := by
  have abandoned := s.abandon_power
  unfold State.forceHold
  split
  · rfl
  · rfl
  · extract_lets s1
    have off : s1.sys.power = s.sys.power := by
      by_cases moving : s.sys.trans.isSome = true
      · have dark := (Quiet.refl s.abandon).cutSweep.quadsOff.power_eq
        simp only [s1, if_pos moving]
        exact dark.trans abandoned
      · simp only [s1, if_neg moving]
    split
    · exact off
    · exact off
  · exact abandoned

theorem State.faultBits_power (s : State) (b : Nat) : (s.faultBits b).sys.power = s.sys.power := by
  rw [State.faultBits, State.record_sys]
  rfl

theorem State.criticalFault_power (s : State) (b e x y : Nat) : (s.criticalFault b (some (e, x, y))).sys.power = s.sys.power := by
  have dark := ((Quiet.refl s).carriersOff false).power_eq
  have told := ((Quiet.refl ((s.carriersOff false).faultBits b)).latchAs true 4 e x y).power_eq
  have run : s.criticalFault b (some (e, x, y)) = (((s.carriersOff false).faultBits b).latchAs true 4 e x y).forceHold 2 := rfl
  rw [run, State.forceHold_power, told, State.faultBits_power, dark]

theorem State.loadConfig_power (s : State) : s.loadConfig.sys.power = s.sys.power := by
  have read : Quiet s (s.flashOther 0) := (Quiet.refl s).flashOther 0
  unfold State.loadConfig
  extract_lets t order
  split
  · next b img c _ =>
    have applied := Quiet.power_eq ((read.applyConfig (t.changesTo c) true).put Reg.CONFIG_GENERATION (t.slotGen b))
    exact applied
  · have applied := Quiet.power_eq ((read.applyConfig [] true).put Reg.CONFIG_GENERATION (max (t.slotGen false) (t.slotGen true)))
    exact applied

theorem State.bootLinksTrain_power (s : State) : s.bootLinksTrain.sys.power = s.sys.power := by
  obtain ⟨x, only⟩ := s.linksTrain_only
  unfold State.bootLinksTrain
  rw [only]
  extract_lets t
  split <;> rfl

/-- What the firmware does first leaves what the release of reset found. -/
theorem State.bootFirmware_power (s : State) : s.bootFirmware.sys.power = s.sys.power := by
  unfold State.bootFirmware
  extract_lets s1
  have locked : s1.sys.power = s.sys.power := by
    by_cases bad : (s.regLocked && s.lockedCrc != s.get Reg.LOCKED_CRC) = true
    · simp only [s1, if_pos bad]
      exact s.criticalFault_power ..
    · simp only [s1, if_neg bad]
  rw [State.bootLinksTrain_power, State.loadConfig_power, locked]

/-! ### The release of reset (R67, R472, R526) -/

theorem State.foldl_put_only {α : Type} (s : State) (l : List α) (k v : α → Nat) :
    ∃ x, l.foldl (fun t a => t.put (k a) (v a)) s = { s with regs := x } := by
  refine List.foldlRecOn l _ (motive := fun t => ∃ x : Store, t = { s with regs := x }) ⟨s.regs, rfl⟩ ?_
  rintro _ ⟨x, rfl⟩ a -
  exact ⟨_, rfl⟩

/-- The straps sampled, beside the objects that show them (R67). -/
def State.strapped (s : State) (testen : Bool) (as canId : Nat) : State :=
  { s with
    sys := { s.sys with phase := .released, testen := testen, twaAs := as, canId := canId, node := s.bootLinks.base + canId,
                        bootReason := if testen then 6 else 0 }
    io := { s.io with inForce := s.bootLinks }
    brd := { s.brd with inForce := s.brd.stored.getD ⟨1, [1, 2, 3], 0⟩ } }

theorem State.sampled_only (s : State) (testen : Bool) (as canId gates : Nat) :
    ∃ x, s.sampled testen as canId gates = { s.strapped testen as canId with regs := x } := by
  unfold State.sampled
  extract_lets r _ _ _ s1
  obtain ⟨x, shown⟩ := s1.puts_only [(Reg.CAN_NODE_ID, r.base + canId), (Reg.TWA_ADDRESS, 0x58 + as)]
  obtain ⟨y, levels⟩ := State.foldl_put_only (s1.puts [(Reg.CAN_NODE_ID, r.base + canId), (Reg.TWA_ADDRESS, 0x58 + as)])
    (List.range 8) Reg.GATE_LEVEL fun g => ofBool (gates.testBit g)
  rw [levels, shown]
  exact ⟨y, rfl⟩

theorem State.discover_only (s : State) (n : Nat) (f : FlashInfo) : ∃ x, s.discover n f = { s with regs := x } := by
  unfold State.discover
  split
  · exact ⟨s.regs, rfl⟩
  · split
    · exact s.puts_only _
    · exact ⟨_, rfl⟩

theorem State.discoverAll_only (s : State) (n : Nat) (l : List FlashInfo) : ∃ x, s.discoverAll n l = { s with regs := x } := by
  induction l generalizing s n with
  | nil =>
    refine List.foldlRecOn (List.range 4) _ (motive := fun t => ∃ x : Store, t = { s with regs := x }) ⟨s.regs, rfl⟩ ?_
    rintro _ ⟨x, rfl⟩ k -
    split
    · exact ⟨_, rfl⟩
    · exact ⟨x, rfl⟩
  | cons f r ih =>
    obtain ⟨x, found⟩ := s.discover_only n f
    obtain ⟨y, rest⟩ := ih (s.discover n f) (n + 1)
    rw [State.discoverAll, rest, found]
    exact ⟨y, rfl⟩

/-- With no flash that answers, flash 0 has no valid header (R472). -/
theorem State.discoverAll_none (s : State) : (s.discoverAll 0 []).get (Reg.FLASH_STATE 0) = 2 := by
  have kept : ∀ (t : State) (k : Nat), k ≠ 0 → t.get (Reg.FLASH_STATE 0) = 2 →
      (if 0 ≤ k && (k = 0 || k < t.brd.inForce.count) then t.put (Reg.FLASH_STATE k) 2 else t).get (Reg.FLASH_STATE 0) = 2 := by
    intro t k other held
    split
    · rw [State.get_put_ne _ _ (by simp only [Reg.FLASH_STATE]; omega), held]
    · exact held
  have first : (s.put (Reg.FLASH_STATE 0) 2).get (Reg.FLASH_STATE 0) = 2 := State.get_put_self ..
  exact kept _ 3 (by decide) (kept _ 2 (by decide) (kept _ 1 (by decide) first))

theorem State.chooseSlot_power (s : State) (a b : Option (Nat × Nat)) : (s.chooseSlot a b).sys.power = s.sys.power := by
  have runs : ∀ (u : State) (c : Bool), (u.runSlot c).sys = u.sys := fun u c => by
    unfold State.runSlot
    extract_lets h own other
    rw [State.record_sys, State.puts_sys]
  unfold State.chooseSlot
  extract_lets first s1 _ _ s2
  split
  · rw [runs]
    rfl
  · split
    · rw [runs]
      rfl
    · rfl

/-- Where neither slot verifies, the part stays in BOOT without firmware (R71). -/
theorem State.chooseSlot_none (s : State) : (s.chooseSlot none none).sys.noFirmware = true ∧ (s.chooseSlot none none).mode = s.mode := by
  unfold State.chooseSlot
  extract_lets first s1 _ _ s2
  have empty : ∀ b, s2.slotInfo b = none := fun b => by cases b <;> rfl
  rw [if_neg (by simp [empty]), if_neg (by simp [empty])]
  exact ⟨rfl, rfl⟩

/-- What the boot ROM knows before it chooses a slot: the straps, the flashes, and whether debug access is fused off. -/
def State.romReady (s : State) (testen : Bool) (as canId gates : Nat) (flashes : List FlashInfo) : State :=
  let found := ((s.sampled testen as canId gates).flashOther 0).discoverAll 0 flashes
  found.put Reg.DEBUG_STATE (if found.sec.debugFuse then 2 else 0)

theorem State.romReady_only (s : State) (testen : Bool) (as canId gates : Nat) (flashes : List FlashInfo) :
    ∃ x y, s.romReady testen as canId gates flashes = { s.strapped testen as canId with regs := x, brd := y } := by
  obtain ⟨x, straps⟩ := s.sampled_only testen as canId gates
  obtain ⟨y, found⟩ := ((s.sampled testen as canId gates).flashOther 0).discoverAll_only 0 flashes
  unfold State.romReady
  rw [found, straps]
  exact ⟨_, _, rfl⟩

/-- The slot chosen from what flash 0 holds (R526). -/
def State.romChoice (s : State) (fwA fwB : FwVerdict) : State :=
  (if s.get (Reg.FLASH_STATE 0) = 1 then s.secureRead else s).chooseSlot
    (if s.get (Reg.FLASH_STATE 0) = 1 then s.fwInfo 0 fwA else none) (if s.get (Reg.FLASH_STATE 0) = 1 then s.fwInfo 1 fwB else none)

theorem State.romChoice_power (s : State) (fwA fwB : FwVerdict) : (s.romChoice fwA fwB).sys.power = s.sys.power := by
  unfold State.romChoice
  rw [State.chooseSlot_power]
  split <;> rfl

section Release

variable {s : State} (testen : Bool) (twaAs canId : Fin 8) (gates : BitVec 8) (fwA fwB : FwVerdict) (flashes : List FlashInfo)

theorem exec_resetRelease (held : s.resets.sys.phase = .resetHeld) :
    exec (.resetRelease testen twaAs canId gates fwA fwB flashes) s =
      .next (if ((s.resets.romReady testen twaAs canId gates.toNat flashes).romChoice fwA fwB).sys.noFirmware then
          (s.resets.romReady testen twaAs canId gates.toNat flashes).romChoice fwA fwB
        else ((s.resets.romReady testen twaAs canId gates.toNat flashes).romChoice fwA fwB).pxHandover.bootFirmware) := by
  show execResetRelease testen twaAs canId gates fwA fwB flashes s = _
  unfold execResetRelease
  extract_lets u s1 s2 ok s3
  rw [if_neg (by simp [u, held])]
  have chosen : s3 = (s.resets.romReady testen twaAs canId gates.toNat flashes).romChoice fwA fwB := rfl
  rw [chosen]

/-- After the release the straps are in force, and with firmware on a part with PX so is the handover (R67, R576). -/
theorem State.romChoice_released (s : State) :
    ((s.romReady testen twaAs canId gates.toNat flashes).romChoice fwA fwB).sys.power =
      (.released, testen, twaAs.val, s.sys.lx01, s.sys.softStart) := by
  obtain ⟨x, y, only⟩ := s.romReady_only testen twaAs canId gates.toNat flashes
  rw [State.romChoice_power, only]
  rfl

theorem State.romChoice_variant (s : State) :
    ((s.romReady testen twaAs canId gates.toNat flashes).romChoice fwA fwB).variant = s.variant := by
  have ready : (s.romReady testen twaAs canId gates.toNat flashes).Follows s :=
    ((((State.Follows.refl s).sampled ..).flashOther ..).discoverAll ..).put ..
  exact ((ready.secureRead.ite ready).chooseSlot ..).1

end Release

theorem State.phase_resets {s : State} (held : s.sys.phase = .resetHeld) : s.resets.sys.phase = .resetHeld := by
  unfold State.resets
  split
  · exact held
  · next l cause detail _ => exact s.phase_resetPart cause detail _

theorem State.pxHandover_px {s : State} (big : Variant.big s.variant = true) :
    s.pxHandover = { s with sys := { s.sys with lx01 := .px, softStart := 20000 } } := if_pos big

theorem State.pxHandover_straps (s : State) : s.pxHandover.sys.phase = s.sys.phase ∧ s.pxHandover.sys.testen = s.sys.testen := by
  unfold State.pxHandover
  split <;> exact ⟨rfl, rfl⟩

theorem resetRelease_samples {s : State} (testen : Bool) (twaAs canId : Fin 8) (gates : BitVec 8) (fwA fwB : FwVerdict)
    (flashes : List FlashInfo) (held : s.sys.phase = .resetHeld) :
    Completes (.resetRelease testen twaAs canId gates fwA fwB flashes) s fun t => t.sys.phase = .released ∧ t.sys.testen = testen ∧
      (t.sys.noFirmware = false → Variant.big s.variant = true → t.sys.lx01 = .px ∧ t.sys.softStart = 20000) := by
  have released := State.romChoice_released testen twaAs canId gates fwA fwB flashes s.resets
  have variant := State.romChoice_variant testen twaAs canId gates fwA fwB flashes s.resets
  have row := exec_resetRelease testen twaAs canId gates fwA fwB flashes (State.phase_resets held)
  generalize (s.resets.romReady testen twaAs canId gates.toNat flashes).romChoice fwA fwB = u at row released variant
  simp only [Sys.power, Prod.mk.injEq] at released
  obtain ⟨phase, strap, -⟩ := released
  refine ⟨_, row, ?_⟩
  by_cases bare : u.sys.noFirmware = true
  · rw [if_pos bare]
    exact ⟨phase, strap, fun runs => absurd bare (by simp [runs])⟩
  · rw [if_neg bare]
    have power := u.pxHandover.bootFirmware_power
    simp only [Sys.power, Prod.mk.injEq] at power
    obtain ⟨phase', strap', -, drive, soft⟩ := power
    obtain ⟨keptPhase, keptStrap⟩ := u.pxHandover_straps
    refine ⟨phase'.trans (keptPhase.trans phase), strap'.trans (keptStrap.trans strap), fun _ big => ?_⟩
    have isBig : Variant.big u.variant = true := by
      have kept : s.resets.variant = s.variant := ((State.Follows.refl s).resets).1
      rw [variant, kept, big]
    rw [drive, soft, State.pxHandover_px isBig]
    exact ⟨rfl, rfl⟩

theorem resetRelease_bare {s : State} (testen : Bool) (twaAs canId : Fin 8) (gates : BitVec 8) (fwA fwB : FwVerdict)
    (held : s.sys.phase = .resetHeld) (undue : s.sys.resetDue = none) :
    Completes (.resetRelease testen twaAs canId gates fwA fwB []) s fun t => t.sys.phase = .released ∧ t.sys.testen = testen ∧
      t.sys.twaAs = twaAs.val ∧ t.sys.noFirmware = true ∧ t.mode = s.mode := by
  have still : s.resets = s := by rw [State.resets, undue]
  have row := exec_resetRelease testen twaAs canId gates fwA fwB [] (State.phase_resets held)
  have released := State.romChoice_released testen twaAs canId gates fwA fwB [] s
  rw [still] at row
  have silent : (s.romReady testen twaAs canId gates.toNat []).get (Reg.FLASH_STATE 0) = 2 :=
    (State.get_put_ne _ _ (by decide)).trans (State.discoverAll_none _)
  have choice : (s.romReady testen twaAs canId gates.toNat []).romChoice fwA fwB =
      (s.romReady testen twaAs canId gates.toNat []).chooseSlot none none := by
    simp [State.romChoice, silent]
  obtain ⟨x, y, only⟩ := s.romReady_only testen twaAs canId gates.toNat []
  obtain ⟨bare, mode⟩ := (s.romReady testen twaAs canId gates.toNat []).chooseSlot_none
  have kept : (s.romReady testen twaAs canId gates.toNat []).mode = s.mode := by
    rw [only]
    rfl
  rw [choice] at row released
  simp only [Sys.power, Prod.mk.injEq] at released
  obtain ⟨phase, strap, address, -⟩ := released
  rw [if_pos bare] at row
  exact ⟨_, row, phase, strap, address, bare, mode.trans kept⟩

/-! ### POR (R569, R574) -/

/-- The banks have detected their levels, and reset is held. -/
def State.porLevels (s : State) (vioA vioB : BitVec 16) : State :=
  { s with sys := { s.sys with
      phase := .resetHeld, vioA33 := decide (2400 ≤ vioA.toNat), vioB33 := decide (2400 ≤ vioB.toNat) } }

/-- What a power-on writes. -/
def powerOnRows : List (Nat × Nat) :=
  [(Reg.RESET_CAUSE, 0), (Reg.RESET_DETAIL, 0), (Reg.DWELL_LIMIT_COUNT, 0), (Reg.DUTY_LIMIT_COUNT, 0), (Reg.PERMIT_REFUSALS, 0),
   (Reg.PERMIT_WITHDRAWALS, 0), (Reg.REGCNT_SEQ, 0)]

/-- A power-on starts the interlock afresh, and what counts since power-on with it. -/
def State.powerOn (s : State) : State := ({ s with ilk := { (default : Ilk) with fresh := true } }).puts powerOnRows

theorem State.powerOn_starts (s : State) : s.powerOn.get Reg.RESET_CAUSE = 0 ∧ s.powerOn.ilk.fresh = true ∧ s.powerOn.sys = s.sys ∧
    s.powerOn.mode = s.mode := by
  have nodup : (powerOnRows.map Prod.fst).Nodup := by decide
  obtain ⟨x, only⟩ := ({ s with ilk := { (default : Ilk) with fresh := true } } : State).puts_only powerOnRows
  refine ⟨State.get_puts_of_mem _ nodup (by decide), ?_⟩
  rw [State.powerOn, only]
  exact ⟨rfl, rfl, rfl⟩

/-! ### The end of BOOT (R69, R70) -/

theorem State.foldl_queueEmcy_only {α : Type} (s : State) (l : List α) (f : State → α → Emcy) :
    (∃ x y, l.foldl (fun t a => t.queueEmcy (f t a)) s = { s with regs := x, ev := y }) ∧
      Writes (· ∈ historyKeys) s (l.foldl (fun t a => t.queueEmcy (f t a)) s) := by
  refine ⟨?_, (Writes.refl _ s).foldl l fun u a hu => hu.queueEmcy _⟩
  refine List.foldlRecOn l _ (motive := fun t => ∃ (x : Store) (y : Ev), t = { s with regs := x, ev := y }) ⟨s.regs, s.ev, rfl⟩ ?_
  rintro _ ⟨x, y, rfl⟩ a -
  obtain ⟨u, v, only⟩ := ({ s with regs := x, ev := y } : State).queueEmcy_only (f { s with regs := x, ev := y } a)
  exact ⟨u, v, only⟩

/-- The events held from BOOT go out: nothing else changes but their history. -/
theorem State.deliverBoot_leaves (s : State) : s.deliverBoot.mode = s.mode ∧ Writes (· ∈ historyKeys) s s.deliverBoot := by
  unfold State.deliverBoot
  extract_lets held s1 _ s2
  obtain ⟨⟨x, y, only⟩, sent⟩ := s.foldl_queueEmcy_only held fun t p => ⟨0xFF00 + p.1, t.errorRegister, t.status .can, p.1, p.2⟩
  have mode : s2.mode = s.mode := by
    show s1.mode = s.mode
    simp only [s1, only]
  have writes : Writes (· ∈ historyKeys) s s2 := Writes.ev sent _
  split
  · exact ⟨mode, writes.bump (by decide)⟩
  · exact ⟨mode, writes⟩

/-- Events 0, 1 and 7, with which BOOT ends. -/
def State.bootTold (s : State) : State :=
  let t := (s.latch 0 0 0).latch 1 Reg.MODE_CURRENT (Mode.code s.mode)
  t.latch 7 (t.get Reg.RESET_CAUSE + 256 * t.get Reg.RESET_DETAIL) 0

theorem State.bootTold_shows (s : State) : s.bootTold.latched 0 = true ∧ s.bootTold.latched 1 = true ∧ s.bootTold.latched 7 = true ∧
    s.bootTold.mode = s.mode ∧ Writes (· ∈ eventKeys) s s.bootTold := by
  unfold State.bootTold
  extract_lets t
  refine ⟨?_, ?_, State.latched_latch .., ?_, ⟨fun k apart => ?_⟩⟩
  · rw [State.latched_latch_ne _ _ _ (by decide), State.latched_latch_ne _ _ _ (by decide), State.latched_latch]
  · rw [State.latched_latch_ne _ _ _ (by decide), State.latched_latch]
  · rw [State.latch_mode, State.latch_mode, State.latch_mode]
  · rw [State.get_latch_ne _ _ _ _ apart, State.get_latch_ne _ _ _ _ apart, State.get_latch_ne _ _ _ _ apart]

theorem bootEnd_ends {s : State} (durUs : BitVec 32) (up : s.sys.phase = .released) (boot : s.mode = .boot)
    (time : s.sys.timeOn = true) (runs : s.sys.noFirmware = false) (done : s.stepsDone = true) :
    Completes (.bootEnd durUs) s fun t => t.mode = (if s.bootEndReason = 0 then .ready else .hold) ∧
      t.get Reg.HOLD_REASON = s.bootEndReason ∧ t.get Reg.BOOT_DURATION = durUs.toNat ∧ t.latched 0 = true ∧ t.latched 1 = true ∧
      t.latched 7 = true := by
  let dark := if s.bootEndReason = 0 then s.flashEvents else ((s.flashEvents.hfStop 7).cutSweep).quadsOff
  let entered := ({ dark with mode := if s.bootEndReason = 0 then .ready else .hold } : State).puts
    [(Reg.HOLD_REASON, s.bootEndReason), (Reg.BOOT_DURATION, durUs.toNat)]
  have row : exec (.bootEnd durUs) s = .next entered.deliverBoot.bootTold.showHf := by
    show execBootEnd durUs s = _
    unfold execBootEnd
    rw [if_neg (by simp [up, boot, time, runs]), if_pos done]
    rfl
  have mode : entered.mode = if s.bootEndReason = 0 then .ready else .hold := State.puts_mode ..
  obtain ⟨reason, duration⟩ := State.get_puts_two
    ({ dark with mode := if s.bootEndReason = 0 then .ready else .hold } : State) s.bootEndReason durUs.toNat
    (by decide : Reg.HOLD_REASON ≠ Reg.BOOT_DURATION)
  obtain ⟨keptMode, delivered⟩ := entered.deliverBoot_leaves
  obtain ⟨first, second, last, toldMode, told⟩ := entered.deliverBoot.bootTold_shows
  have shown := (Writes.refl (· ∈ fieldKeys) entered.deliverBoot.bootTold).showHf fun _ mem => mem
  have latched : ∀ e, entered.deliverBoot.bootTold.showHf.latched e = entered.deliverBoot.bootTold.latched e := fun e => by
    rw [State.latched, shown.get _ (by decide), State.latched]
  refine ⟨_, row, ?_, ?_, ?_, (latched 0).trans first, (latched 1).trans second, (latched 7).trans last⟩
  · exact (Quiet.refl _).showHf.mode_eq.trans (toldMode.trans (keptMode.trans mode))
  · rw [shown.get _ (by decide), told.get _ (by decide), delivered.get _ (by decide)]
    exact reason
  · rw [shown.get _ (by decide), told.get _ (by decide), delivered.get _ (by decide)]
    exact duration

/-! ### The statement -/

theorem canStarted_shows (s : State) : s.canStarted.get Reg.CAN_NMT_STATE = 0x7F ∧
    s.canStarted.get Reg.CAN0_STATE = ofBool (bit s.io.inForce.lines 0) ∧
    s.canStarted.get Reg.CAN1_STATE = ofBool (bit s.io.inForce.lines 1) := by
  have nodup : [Reg.CANSTATE_SEQ, Reg.CAN0_STATE, Reg.CAN1_STATE, Reg.CAN_ACTIVE_LINE, Reg.CAN_NMT_STATE].Nodup := by decide
  exact ⟨State.get_record_of_mem s nodup (by simp), State.get_record_of_mem s nodup (by simp),
    State.get_record_of_mem s nodup (by simp)⟩

/-- Settles O10, by the row of Sequence 2.1 that each clause is about. -/
theorem powerAndResetRelease : Obligations.PowerAndResetRelease := by
  refine ⟨fun vioA vioB unpowered s held => ?_,
    fun testen twaAs canId gates fwA fwB s held undue => resetRelease_bare testen twaAs canId gates fwA fwB held undue,
    fun testen twaAs canId gates fwA fwB flashes s held => resetRelease_samples testen twaAs canId gates fwA fwB flashes held,
    fun s up boot off => ?_, fun s up boot => ?_, fun s up boot => ?_, fun s up boot runs down => ?_,
    fun durUs s up boot time runs done => bootEnd_ends durUs up boot time runs done⟩
  · have row : exec (.porRelease vioA vioB unpowered) s =
        .next (if unpowered then (s.porLevels vioA vioB).powerOn else s.porLevels vioA vioB) := if_neg (by simp [held])
    refine ⟨_, row, ?_⟩
    cases unpowered with
    | false => exact ⟨rfl, rfl, rfl, nofun, fun _ => ⟨rfl, rfl⟩, rfl⟩
    | true =>
      obtain ⟨cause, fresh, sys, mode⟩ := (s.porLevels vioA vioB).powerOn_starts
      exact ⟨congrArg Sys.phase sys, congrArg Sys.vioA33 sys, congrArg Sys.vioB33 sys, fun _ => ⟨cause, fresh⟩, nofun, mode⟩
  · exact ⟨_, if_neg (by simp [up, boot, off]), rfl, rfl, rfl, rfl⟩
  · exact ⟨_, if_neg (by simp [up, boot]), rfl⟩
  · exact ⟨_, if_neg (by simp [up, boot]), rfl⟩
  · let opened : State := { s with sys := { s.sys with canUp := true } }
    have row : exec (.bootLinkStart .can) s = .next opened.startCan := by
      show execBootLinkStart .can s = _
      unfold execBootLinkStart
      rw [if_neg (by simp [up, boot])]
      exact congrArg Host.Outcome.next (if_neg (by simp [runs, down]))
    obtain ⟨i, only, -⟩ := opened.startCan_only
    obtain ⟨nmt, line0, line1⟩ := canStarted_shows opened
    refine ⟨_, row, ?_⟩
    rw [only]
    exact ⟨rfl, nmt, line0, line1, rfl⟩

end Sys2Proof.Machine
end

section
/-! SUPPORT. What the operations on carriers, rounds, plans, events and the HF field leave of the monitors: what they hold, and
which PA rails are bad. -/

namespace Sys2Proof.Machine

/-- The monitors hold what they held, and the same PA rails are bad. -/
structure Monitors (s t : State) : Prop where
  hlt : t.hlt = s.hlt
  rails : ∀ q, (t.quad q).railBad = (s.quad q).railBad

theorem Monitors.refl (s : State) : Monitors s s := ⟨rfl, fun _ => rfl⟩

section
variable {s t : State} (h : Monitors s t)
include h

theorem Monitors.congr {u : State} (hlt : u.hlt = t.hlt) (quads : u.quads = t.quads) : Monitors s u :=
  ⟨hlt.trans h.hlt, fun q => (congrArg (fun x => (Tab.get x q).railBad) quads).trans (h.rails q)⟩

theorem Monitors.ite {c : Prop} [Decidable c] {u : State} (g : Monitors s u) : Monitors s (if c then t else u) := by
  split
  · exact h
  · exact g

theorem Monitors.foldl {α : Type} (l : List α) {f : State → α → State} (step : ∀ u a, Monitors s u → Monitors s (f u a)) :
    Monitors s (l.foldl f t) :=
  List.foldlRecOn l f h fun u hu a _ => step u a hu

/-- A change of a quad that leaves its rail. -/
theorem Monitors.updQuad (q : Nat) (f : Quad → Quad) (keeps : ∀ x, (f x).railBad = x.railBad) : Monitors s (t.updQuad q f) := by
  refine ⟨h.hlt, fun k => ?_⟩
  by_cases own : k = q
  · rw [own, State.quad_updQuad_self, keeps]
    exact h.rails q
  · rw [State.quad_updQuad_ne _ _ own]
    exact h.rails k

theorem Monitors.chains (x : Tab Chain) : Monitors s { t with chains := x } := h.congr rfl rfl

theorem Monitors.updChain (c : Nat) (f : Chain → Chain) : Monitors s (t.updChain c f) := h.chains _

theorem Monitors.keepFwd (c : Nat) : Monitors s (t.keepFwd c) := h.ite (h.updChain ..)

theorem Monitors.puts (l : List (Nat × Nat)) : Monitors s (t.puts l) := by
  obtain ⟨_, only⟩ := t.puts_only l
  rw [only]
  exact h.congr rfl rfl

theorem Monitors.put (k v : Nat) : Monitors s (t.put k v) := h.congr rfl rfl

theorem Monitors.seq (q : Nat) : Monitors s (t.seq q) := h.put ..

theorem Monitors.record (q : Nat) (l : List (Nat × Nat)) : Monitors s (t.record q l) := (h.puts l).seq q

theorem Monitors.showQuad (q : Nat) : Monitors s (t.showQuad q) := (h.record ..).ite ((h.record ..).ite h)

theorem Monitors.stopChain (c st : Nat) (mute : Bool) : Monitors s (t.stopChain c st mute) := by
  unfold State.stopChain
  extract_lets _ _ s2
  have hs2 : Monitors s s2 := ((h.keepFwd ..).record ..).updChain ..
  exact ((hs2.updQuad _ _ (by intro; rfl)).ite hs2).showQuad ..

theorem Monitors.muteChain (c : Nat) : Monitors s (t.muteChain c) := (h.stopChain ..).ite h

theorem Monitors.muteQuad (q : Nat) : Monitors s (t.muteQuad q) := h.foldl _ fun _ _ hu => hu.muteChain ..

theorem Monitors.rampDown (c : Nat) : Monitors s (t.rampDown c) := (((h.keepFwd ..).record ..).updChain ..).ite h

theorem Monitors.rampAll : Monitors s t.rampAll := h.foldl _ fun _ _ hu => hu.rampDown ..

theorem Monitors.testC (x : Option TestC) : Monitors s { t with testC := x } := h.congr rfl rfl

theorem Monitors.endTest (r : Result) : Monitors s (t.endTest r) := by
  unfold State.endTest
  split
  · exact h
  · exact (h.testC _).record ..

theorem Monitors.recordIf (q : Nat) (l : List (Nat × Nat)) : Monitors s (t.recordIf q l) := h.ite (h.record ..)

theorem Monitors.arr (x : Arr) : Monitors s { t with arr := x } := h.congr rfl rfl

theorem Monitors.phaseless (q : Nat) : Monitors s (t.phaseless q) :=
  (((h.recordIf ..).recordIf ..).foldl _ fun _ _ hu => hu.updChain ..).arr _

theorem Monitors.latchAs (crit : Bool) (cls e a b : Nat) : Monitors s (t.latchAs crit cls e a b) := by
  obtain ⟨_, _, _, only⟩ := t.latchAs_only crit cls e a b
  rw [only]
  exact h.congr rfl rfl

theorem Monitors.latch (e a b : Nat) : Monitors s (t.latch e a b) := h.latchAs ..

theorem Monitors.quadOut (q cause : Nat) : Monitors s (t.quadOut q cause) := by
  unfold State.quadOut
  extract_lets _ s2
  have hs2 : Monitors s s2 := ((h.phaseless ..).record ..).updQuad _ _ (by intro; rfl)
  exact hs2.ite (hs2.latch ..)

theorem Monitors.replyOver (b : Nat) : Monitors s (t.replyOver b) := by
  unfold State.replyOver
  split
  · exact h
  · refine h.foldl _ fun u a hu => ?_
    split
    · exact (hu.updChain ..).recordIf ..
    · exact hu

theorem Monitors.setWeights (b : Nat) (w : List Weight) : Monitors s (t.setWeights b w) := h.arr _

theorem Monitors.weigh (b : Nat) : Monitors s (t.weigh b) := h.setWeights ..

theorem Monitors.showRx (b : Nat) : Monitors s (t.showRx b) := by
  unfold State.showRx
  extract_lets
  split
  · exact (h.recordIf ..).ite (h.recordIf ..)
  · exact h.recordIf ..

theorem Monitors.beamsOut (b : Nat) : Monitors s (t.beamsOut b) := (h.arr _).foldl _ fun _ _ hu => (hu.weigh ..).showRx ..

theorem Monitors.showActive : Monitors s t.showActive := h.recordIf ..

theorem Monitors.beamsDue (b : Nat) : Monitors s (t.beamsDue b) := (h.beamsOut ..).showActive.ite h

theorem Monitors.rounds (x : Tab Round) : Monitors s { t with eng := { t.eng with rounds := x } } :=
  h.congr rfl rfl

theorem Monitors.putDom (k : Nat) (b : Bytes) : Monitors s (t.putDom k b) := h.congr rfl rfl

theorem Monitors.resultsChanged : Monitors s t.resultsChanged := (h.putDom ..).record ..

theorem Monitors.pushResult (b slot op code tagErr : Nat) (r : Round) (data : Bytes) :
    Monitors s (t.pushResult b slot op code tagErr r data) := by
  unfold State.pushResult
  split
  · exact h
  · extract_lets id e
    exact Monitors.resultsChanged (h.congr rfl rfl)

theorem Monitors.armed (x : Nat) : Monitors s { t with eng := { t.eng with armed := x } } := h.congr rfl rfl

theorem Monitors.opState (n : Nat) : Monitors s (t.opState n) := h.ite (h.record ..)

theorem Monitors.armOp (n : Nat) (on : Bool) : Monitors s (t.armOp n on) := (h.armed _).opState ..

theorem Monitors.watchOne (w : Nat) (data : Bytes) : Monitors s (t.watchOne w data) := by
  unfold State.watchOne
  extract_lets _ _ _ _ _ s1
  have hs1 : Monitors s s1 := h.record ..
  exact (h.recordIf ..).ite ((hs1.latch ..).ite hs1)

theorem Monitors.watch (slot : Nat) (epc data : Bytes) : Monitors s (t.watch slot epc data) :=
  h.foldl _ fun _ _ hu => (hu.watchOne ..).ite hu

theorem Monitors.opEnds (b slot code tagErr : Nat) (r : Round) (data : Bytes) :
    Monitors s (t.opEnds b slot code tagErr r data) := by
  unfold State.opEnds
  extract_lets _ _ s2 s3 s4
  have hs2 : Monitors s s2 := (h.pushResult ..).record ..
  have hs3 : Monitors s s3 := (hs2.latch ..).ite (hs2.latch ..)
  have hs4 : Monitors s s4 := (hs3.armOp ..).ite (hs3.opState ..)
  exact (hs4.watch ..).ite hs4

theorem Monitors.zones (x : Tab ZoneMem) : Monitors s { t with eng := { t.eng with zones := x } } :=
  h.congr rfl rfl

theorem Monitors.keepZone (r : Round) : Monitors s (t.keepZone r) := h.zones _

theorem Monitors.roundStats (b cause : Nat) (aborted : Bool) (r : Round) : Monitors s (t.roundStats b cause aborted r) :=
  (h.record ..).latch ..

theorem Monitors.endRound (b cause : Nat) (aborted : Bool) : Monitors s (t.endRound b cause aborted) := by
  unfold State.endRound
  split
  · exact h
  · extract_lets _ _ s1 s2
    have hs1 : Monitors s s1 := ((h.replyOver ..).beamsDue ..).rounds _
    have hs2 : Monitors s s2 := by
      unfold s2
      split
      · exact hs1.opEnds ..
      · exact hs1
    exact (hs2.keepZone ..).roundStats ..

theorem Monitors.dropTone (leader : Nat) : Monitors s (t.dropTone leader) := h.arr _

theorem Monitors.updSeed (c khz : Nat) (f : Seed → Seed) : Monitors s (t.updSeed c khz f) := (h.updChain ..).seq ..

theorem Monitors.writeBack (d : Dwell) : Monitors s (t.writeBack d) := h.foldl _ fun _ _ hu => hu.updSeed ..

theorem Monitors.val (x : Val) : Monitors s { t with val := x } := h.congr rfl rfl

theorem Monitors.closeDwell (l : Nat) : Monitors s (t.closeDwell l) := by
  unfold State.closeDwell
  split
  · exact h.dropTone ..
  · exact ((h.writeBack ..).val _).dropTone ..

theorem Monitors.dissolve (leader : Nat) : Monitors s (t.dissolve leader) := (h.closeDwell ..).val _

theorem Monitors.showTx (q : Nat) : Monitors s (t.showTx q) := by
  unfold State.showTx
  extract_lets
  split
  · exact h.recordIf ..
  · exact h.recordIf ..

theorem Monitors.showBeams : Monitors s t.showBeams :=
  (h.foldl _ fun _ _ hu => ((hu.showTx ..).arr _).ite ((hu.showTx ..).beamsOut ..)).showActive

theorem Monitors.rampQuad (q : Nat) : Monitors s (t.rampQuad q) := h.foldl _ fun _ _ hu => hu.rampDown ..

theorem Monitors.budgetEvents (step : Nat) : Monitors s (t.budgetEvents step) :=
  ((((((((h.recordIf ..).ite (h.recordIf ..)).val _).record ..).latch ..).ite ((((h.recordIf ..).ite
    (h.recordIf ..)).val _).ite ((h.recordIf ..).ite (h.recordIf ..)))).val _).latch ..).ite ((((((((h.recordIf ..).ite
    (h.recordIf ..)).val _).record ..).latch ..).ite ((((h.recordIf ..).ite (h.recordIf ..)).val _).ite ((h.recordIf ..).ite
    (h.recordIf ..)))).val _).ite ((((((h.recordIf ..).ite (h.recordIf ..)).val _).record ..).latch ..).ite
    ((((h.recordIf ..).ite (h.recordIf ..)).val _).ite ((h.recordIf ..).ite (h.recordIf ..)))))

theorem Monitors.showZones (served : List Nat) : Monitors s (t.showZones served) := h.foldl _ fun _ _ hu => hu.recordIf ..

theorem Monitors.usePlan (p : Plan) : Monitors s (t.usePlan p) :=
  ((((h.putDom ..).record ..).val _).budgetEvents ..).showZones ..

theorem Monitors.replanNow (lost : Option Nat) (fallback : Bool) : Monitors s (t.replanNow lost fallback) :=
  (h.usePlan ..).val _

theorem Monitors.fallback (q gang : Nat) : Monitors s (t.fallback q gang) :=
  ((h.foldl _ fun _ _ hu => hu.rampQuad ..).replanNow ..).record ..

theorem Monitors.putRunning (q : Nat) (r : Running) : Monitors s (t.putRunning q r) := h.val _

theorem Monitors.reedReady (l : Nat) : Monitors s (t.reedReady l) := by
  unfold State.reedReady
  split
  · exact h
  · exact (h.putRunning ..).ite h

theorem Monitors.beamsLost : Monitors s t.beamsLost := h.showBeams.foldl _ fun _ _ hu => hu.reedReady ..

theorem Monitors.steerGang (d : Dwell) : Monitors s (t.steerGang d) := h.foldl _ fun _ _ hu => hu.updChain ..

theorem Monitors.setLevel (c : Nat) (level : Int) : Monitors s (t.setLevel c level) := (h.record ..).updChain ..

theorem Monitors.raiseChain (c : Nat) (level : Int) : Monitors s (t.raiseChain c level) :=
  ((h.record ..).updChain ..).showQuad ..

theorem Monitors.bump (k : Nat) : Monitors s (t.bump k) := h.put ..

theorem Monitors.refuse : Monitors s t.refuse := (h.bump ..).seq ..

theorem Monitors.replan : Monitors s t.replan := (h.usePlan ..).ite h

theorem Monitors.raiseGang (l : Nat) : Monitors s (t.raiseGang l) := by
  unfold State.raiseGang
  split
  · exact h
  · exact h.ite ((((((((h.steerGang ..).foldl _ fun _ _ hu => (hu.setLevel ..).ite
        (hu.raiseChain ..)).foldl _ fun _ _ hu => hu.updChain ..).foldl _ fun _ _ hu => hu.updQuad _ _ (by intro; rfl)).val
        _).putRunning ..).foldl _ fun _ _ hu => hu.weigh ..).ite
      ((h.refuse.foldl _ fun _ _ hu => hu.rampQuad ..).dissolve ..).showBeams.replan)

theorem Monitors.askTone (leader : Nat) : Monitors s (t.askTone leader) :=
  (h.foldl _ fun _ _ hu => hu.rampQuad ..).ite ((h.foldl _ fun _ _ hu => hu.rampQuad ..).arr _)

theorem Monitors.gangLocked (l : Nat) : Monitors s (t.gangLocked l) := by
  unfold State.gangLocked
  split
  · exact h
  · split
    · exact h
    · split
      · exact (h.raiseGang ..).ite (h.askTone ..)
      · exact h.askTone ..

theorem Monitors.leaveGang (q : Nat) : Monitors s (t.leaveGang q) := by
  unfold State.leaveGang
  split
  · exact h
  · split
    · exact h
    · extract_lets _ _ t
      have ht : Monitors s t := (h.putRunning ..).beamsLost
      exact (ht.gangLocked ..).ite ht

theorem Monitors.loseQuad (q cause : Nat) : Monitors s (t.loseQuad q cause) := by
  unfold State.loseQuad
  split
  · extract_lets s1
    have hs1 : Monitors s s1 := ((h.endRound ..).dissolve ..).showBeams
    exact (hs1.fallback ..).ite hs1
  · exact h.leaveGang ..

theorem Monitors.hf (x : Hf) : Monitors s { t with hf := x } := h.congr rfl rfl

theorem Monitors.updHf (f : Hf → Hf) : Monitors s (t.updHf f) := h.hf _

theorem Monitors.showHf : Monitors s t.showHf := h.ite (h.recordIf ..)

theorem Monitors.hfEnd (status : Nat) (rsp : Bytes) : Monitors s (t.hfEnd status rsp) := by
  unfold State.hfEnd
  split
  · exact h
  · exact (((((h.updHf ..).putDom ..).record ..).record ..).latch ..).showHf

theorem Monitors.dropField : Monitors s t.dropField := by
  unfold State.dropField
  split
  · exact h
  · exact ((h.record ..).record ..).updHf ..

theorem Monitors.closeSession : Monitors s t.closeSession := (((h.dropField.updHf ..).putDom ..).record ..).showHf.ite h

theorem Monitors.hfStop (status : Nat) : Monitors s (t.hfStop status) := by
  unfold State.hfStop
  extract_lets _ _ s1
  have hs1 : Monitors s s1 := h.congr rfl rfl
  exact (hs1.hfEnd ..).closeSession.dropField

theorem Monitors.endTestField (fault : Bool) : Monitors s (t.endTestField fault) := ((h.dropField.updHf ..).put ..).ite h

theorem Monitors.hfFieldFault : Monitors s t.hfFieldFault := (h.hfStop ..).endTestField ..

theorem Monitors.hfOut (cause : Nat) : Monitors s (t.hfOut cause) := h.hfFieldFault.record ..

theorem Monitors.hfFault (cause : Nat) : Monitors s (t.hfFault cause) := ((h.hfOut ..).record ..).latch ..

theorem Monitors.startCal (q : Nat) : Monitors s (t.startCal q) :=
  (((h.rampQuad ..).phaseless ..).updQuad _ _ (by intro; rfl)).record ..

theorem Monitors.calNow (q : Nat) : Monitors s (t.calNow q) := by
  unfold State.calNow
  extract_lets s1
  have hs1 : Monitors s s1 := by
    unfold s1
    split
    · exact (h.testC _).ite h
    · exact h
  exact hs1.ite (hs1.startCal ..)

theorem Monitors.putRound (b : Nat) (r : Round) : Monitors s (t.putRound b r) := h.rounds _

theorem Monitors.dueRound (b cause : Nat) : Monitors s (t.dueRound b cause) := by
  unfold State.dueRound
  split
  · exact h
  · exact (h.putRound ..).ite (h.putRound ..)

theorem Monitors.derateRearm : Monitors s t.derateRearm := (h.val _).ite h

theorem Monitors.showTemps (b : Temps) : Monitors s (t.showTemps b) := by
  unfold State.showTemps
  extract_lets _ _ _ _ s2 s3
  have hs2 : Monitors s s2 := (h.record ..).foldl _ fun _ _ hu => hu.recordIf ..
  have hs3 : Monitors s s3 := (hs2.recordIf ..).ite hs2
  exact (hs3.recordIf ..).ite hs3

end

end Sys2Proof.Machine
end

section
/-! SUPPORT. The monitors of temperature, supplies and process (R543 to R547), and the statement settled with them. -/

namespace Sys2Proof.Machine

/-! ### What a temperature sample leaves of the fault sources and the limits -/

/-- The objects outside those of the monitors' limits and of the faults. -/
def OffFaults (k : Nat) : Prop := k < 0x210100 ∨ 0x210600 ≤ k

theorem offFaults_eventKeys : ∀ k ∈ eventKeys, OffFaults k := by
  unfold OffFaults
  decide

theorem offFaults_fieldKeys : ∀ k ∈ fieldKeys, OffFaults k := by
  unfold OffFaults
  decide

section
variable {s t : State} (h : Writes OffFaults s t)
include h

theorem Writes.latch_offFaults (e a b : Nat) : Writes OffFaults s (t.latch e a b) :=
  ⟨fun k other => (State.get_latch_ne _ _ _ _ fun mem => other (offFaults_eventKeys k mem)).trans (h.get k other)⟩

theorem Writes.hfEnd_offFaults (status : Nat) (rsp : Bytes) : Writes OffFaults s (t.hfEnd status rsp) := by
  unfold State.hfEnd
  split
  · exact h
  · extract_lets s1 s2
    have shown : Writes OffFaults s s2 := ((h.updHf _).putDom ..).record (by unfold OffFaults; decide)
      (by simp [OffFaults]; decide)
    exact ((shown.record (by unfold OffFaults; decide) (by simp [OffFaults]; decide)).latch_offFaults ..).showHf
      offFaults_fieldKeys

theorem Writes.hfStop_offFaults (status : Nat) : Writes OffFaults s (t.hfStop status) := by
  unfold State.hfStop
  extract_lets _ _ s1
  have kept : Writes OffFaults s s1 := h.congr rfl rfl rfl
  exact ((kept.hfEnd_offFaults status []).closeSession offFaults_fieldKeys (by unfold OffFaults; decide)
    (by unfold OffFaults; decide)).dropField offFaults_fieldKeys

theorem Writes.hfFault_offFaults (cause : Nat) : Writes OffFaults s (t.hfFault cause) := by
  have stopped : Writes OffFaults s t.hfFieldFault :=
    (((h.hfStop_offFaults 8).dropField offFaults_fieldKeys).updHf _ |>.put (by unfold OffFaults; decide) _).ite (h.hfStop_offFaults 8)
  have out : Writes OffFaults s (t.hfOut cause) := stopped.record (by unfold OffFaults; decide) (by simp [OffFaults]; decide)
  exact (out.record (by unfold OffFaults; decide) (by simp [OffFaults]; decide)).latch_offFaults ..

end

/-- The temperature objects of the dies lie below the limits. -/
theorem State.dieTemps_below {s : State} {t : Temps} {d : Nat × Nat × Int} (mem : d ∈ s.dieTemps t) : d.2.1 < 0x210009 := by
  simp only [State.dieTemps, List.mem_filter, List.mem_cons, List.not_mem_nil, or_false] at mem
  obtain ⟨rfl | rfl | rfl | rfl | rfl | rfl | rfl | rfl, -⟩ := mem <;> exact of_decide_eq_true rfl

theorem State.showTemps_writes (s : State) (t : Temps) : Writes OffFaults s (s.showTemps t) := by
  unfold State.showTemps
  extract_lets ds h top s1 s2 s3
  have shown : Writes OffFaults s s1 := by
    refine (Writes.refl _ s).record (by unfold OffFaults; decide) fun p mem => ?_
    obtain mem | mem := List.mem_append.1 mem
    · obtain ⟨d, die, rfl⟩ := List.mem_map.1 mem
      have := State.dieTemps_below die
      exact .inl (by omega)
    · simp only [List.mem_cons, List.not_mem_nil, or_false] at mem
      obtain rfl | rfl | rfl := mem <;> exact .inl (by simp only [Reg.T_HOT, Reg.T_HOT_DIE, Reg.T_HOT_MAX]; omega)
  have quads : Writes OffFaults s s2 := shown.foldl _ fun u q hu =>
    hu.recordIf (.inr (by simp only [Reg.QSTATE_SEQ]; omega)) fun p mem => by
      rw [List.mem_singleton.1 mem]
      exact .inr (by simp only [Reg.QUAD_DIE_TEMP]; omega)
  have hx : Writes OffFaults s s3 :=
    (quads.recordIf (by unfold OffFaults; decide) (by simp [OffFaults]; decide)).ite quads
  exact (hx.recordIf (by unfold OffFaults; decide) (by simp [OffFaults]; decide)).ite hx

/-! ### What follows the judgement (R171, R216, R324) -/

theorem Monitors.calByTemp {s t : State} (h : Monitors s t) (q : Nat) : Monitors s (t.calByTemp q) := by
  unfold State.calByTemp
  extract_lets moved s1
  have due : Monitors s s1 := (h.updQuad _ _ (by intro; rfl)).latch ..
  exact h.ite ((due.calNow _).ite due)

theorem Monitors.toneDue {s t : State} (h : Monitors s t) (l : Nat) : Monitors s (t.toneDue l) := by
  unfold State.toneDue
  split
  · exact (h.dueRound ..).ite h
  · exact h

/-- A calibration that starts writes objects of its quad only. -/
theorem State.calNow_writes (s : State) (q : Nat) : Writes QuadsUp s (s.calNow q) := by
  obtain ⟨state, seq, freq⟩ := quadsUp_quad q
  unfold State.calNow
  extract_lets s1
  have noted : Writes QuadsUp s s1 := by
    unfold s1
    split
    · split
      · exact (Writes.refl QuadsUp s).congr rfl rfl rfl
      · exact Writes.refl _ s
    · exact Writes.refl _ s
  exact noted.ite ((((noted.rampQuad q).phaseless q).updQuad ..).record seq (by simpa using ⟨state, freq⟩))

/-- The events latched before are latched still. -/
def StillLatched (s t : State) : Prop := ∀ e, s.latched e = true → t.latched e = true

theorem StillLatched.of_get {s t : State} (same : t.get Reg.EVT_LATCHED = s.get Reg.EVT_LATCHED) : StillLatched s t := fun e told => by
  rw [State.latched, same]
  exact told

theorem StillLatched.latch (s : State) (e a b : Nat) : StillLatched s (s.latch e a b) :=
  ((Upholds.refl s).latch e a b).latched

theorem StillLatched.trans {s t u : State} (h : StillLatched s t) (g : StillLatched t u) : StillLatched s u :=
  fun e told => g e (h e told)

theorem StillLatched.foldl {s : State} {α : Type} (l : List α) {f : State → α → State} (step : ∀ u a, StillLatched u (f u a)) :
    StillLatched s (l.foldl f s) :=
  List.foldlRecOn l f (motive := StillLatched s) (fun _ told => told) fun u hu a _ => hu.trans (step u a)

theorem State.calByTemp_told (s : State) (q : Nat) : StillLatched s (s.calByTemp q) := by
  unfold State.calByTemp
  extract_lets moved s1
  have due : StillLatched s s1 :=
    StillLatched.trans (t := s.updQuad q fun x => { x with dueShown := true, calDue := true }) (StillLatched.of_get rfl)
      (StillLatched.latch _ _ _ _)
  have runs : StillLatched s1 (s1.calNow q) := StillLatched.of_get ((s1.calNow_writes q).get _ (by unfold QuadsUp; decide))
  split
  · exact fun _ told => told
  · split
    · exact due.trans runs
    · exact due

theorem State.toneDue_told (s : State) (l : Nat) : StillLatched s (s.toneDue l) := by
  unfold State.toneDue
  split
  · split
    · refine StillLatched.of_get ?_
      unfold State.dueRound
      split
      · rfl
      · extract_lets c r1
        split <;> rfl
    · exact fun _ told => told
  · exact fun _ told => told

/-- What follows the judgement of a temperature sample. -/
def State.afterTemps (s : State) : State :=
  let s2 := (s.quadList.foldl State.calByTemp s).derateRearm
  s2.quadList.foldl State.toneDue s2

theorem State.afterTemps_monitors (s : State) : Monitors s s.afterTemps :=
  ((Monitors.refl s).foldl _ fun _ q hu => hu.calByTemp q).derateRearm.foldl _ fun _ l hu => hu.toneDue l

theorem State.afterTemps_told (s : State) : StillLatched s s.afterTemps := by
  have due : StillLatched s (s.quadList.foldl State.calByTemp s) := StillLatched.foldl _ State.calByTemp_told
  have rearmed : ∀ u : State, StillLatched u u.derateRearm := fun u => by
    refine StillLatched.of_get ?_
    unfold State.derateRearm
    split <;> rfl
  exact due.trans ((rearmed _).trans (StillLatched.foldl _ State.toneDue_told))

/-! ### The judgement of a temperature sample (R544, Table 17.2) -/

/-- HX's own limit has been judged, and the temperatures are shown (R414). -/
def State.tempsShown (s : State) (t : Temps) : State :=
  if Variant.hx s.variant && 1500 ≤ t.hx && (s.showTemps t).get Reg.HF_STATE != 5 then (s.showTemps t).hfFault 3 else s.showTemps t

theorem exec_tempSample {s : State} (t : Temps) (up : s.sys.phase = .released) :
    exec (.tempSample t) s = .next ((s.tempsShown t).judgeTemp (hottest (s.dieTemps t))).afterTemps :=
  if_neg (by simp [up])

theorem State.tempsShown_monitors (s : State) (t : Temps) : Monitors s (s.tempsShown t) := by
  have shown := (Monitors.refl s).showTemps t
  exact (shown.hfFault 3).ite shown

theorem State.tempsShown_writes (s : State) (t : Temps) : Writes OffFaults s (s.tempsShown t) :=
  ((s.showTemps_writes t).hfFault_offFaults 3).ite (s.showTemps_writes t)

/-- A die at 150.0 degrees or above is the critical fault OVERTEMP, signalled once. -/
theorem State.judgeTemp_hot {s : State} {h : Nat × Nat × Int} (hot : 1500 ≤ h.2.2) (free : bit (s.get Reg.FAULT_ACTIVE) 0 = false) :
    (s.judgeTemp h).latched 9 = true := by
  unfold State.judgeTemp
  extract_lets v warn _ s1
  have active : s1.get Reg.FAULT_ACTIVE = s.get Reg.FAULT_ACTIVE := by
    unfold s1
    split
    · exact State.get_latch_apart _ _ _ _ (by decide)
    · split <;> rfl
  rw [if_pos (by simp [v, hot, active, free])]
  exact (s1.criticalFault_shows 0 9 _ _).2.2

/-- A die at the warning limit latches event 8 and disarms it. -/
theorem State.judgeTemp_warm {s : State} {h : Nat × Nat × Int} (armed : s.hlt.warnArmed = true)
    (warm : s.i16 Reg.TEMP_WARN ≤ h.2.2) (cool : h.2.2 < 1500) :
    s.judgeTemp h = ({ s with hlt := { s.hlt with warnArmed := false } } : State).latch 8 h.2.1 (tempRaw h.2.2) := by
  unfold State.judgeTemp
  extract_lets v warn _ s1
  rw [if_neg (by simp [v, cool])]
  exact if_pos (by simp [warn, v, armed, warm])

/-- The hottest die is one of those present, and none is hotter (R544). -/
theorem hottest_spec (d : Nat × Nat × Int) (ds : List (Nat × Nat × Int)) :
    hottest (d :: ds) ∈ d :: ds ∧ ∀ x ∈ d :: ds, x.2.2 ≤ (hottest (d :: ds)).2.2 := by
  induction ds generalizing d with
  | nil => exact ⟨List.mem_singleton_self d, fun x mem => by rw [List.mem_singleton.1 mem]; exact le_refl _⟩
  | cons e r ih =>
    have step : hottest (d :: e :: r) = hottest ((if d.2.2 < e.2.2 then e else d) :: r) := rfl
    obtain ⟨mem, most⟩ := ih (if d.2.2 < e.2.2 then e else d)
    rw [← step] at mem most
    have winner := most _ List.mem_cons_self
    refine ⟨?_, fun x listed => ?_⟩
    · obtain first | rest := List.mem_cons.1 mem
      · rw [first]
        split
        · exact List.mem_cons_of_mem _ List.mem_cons_self
        · exact List.mem_cons_self
      · exact List.mem_cons_of_mem _ (List.mem_cons_of_mem _ rest)
    · obtain rfl | listed := List.mem_cons.1 listed
      · refine le_trans ?_ winner
        split <;> omega
      · obtain rfl | listed := List.mem_cons.1 listed
        · refine le_trans ?_ winner
          split <;> omega
        · exact most x (List.mem_cons_of_mem _ listed)

/-! ### Supplies (R545, R147) -/

/-- A PA rail that faults is bad, and event 11 is latched, whatever goes off with it (R147, R545). -/
theorem State.railLost_shows {s : State} {q : Nat} (present : q < Variant.quads s.variant) (good : (s.quad q).railBad = false) :
    (s.railLost q).latched 11 = true ∧ ((s.railLost q).quad q).railBad = true := by
  unfold State.railLost
  rw [if_neg (by simp [good, present])]
  extract_lets s1 s2 test s3 s4
  have bad : ((s1.updQuad q fun x => { x with railBad := true }).quad q).railBad = true := by
    rw [State.quad_updQuad_self]
  have faulted : Monitors (s1.updQuad q fun x => { x with railBad := true }) s2 :=
    (Monitors.refl _).foldl _ fun _ _ hu => hu.record ..
  have dark : Monitors (s1.updQuad q fun x => { x with railBad := true }) s3 := (faulted.rampAll.endTest .fault).ite faulted
  have out : Monitors (s1.updQuad q fun x => { x with railBad := true }) s4 := dark.ite ((dark.quadOut q 4).loseQuad q 5)
  exact ⟨State.latched_latchAs .., ((out.latchAs ..).rails q).trans bad⟩

theorem State.railLost_again {s : State} {q : Nat} (bad : (s.quad q).railBad = true) : s.railLost q = s := if_pos (by simp [bad])

/-- The rails' critical source, once until it has been cleared (Table 17.2). -/
theorem State.railCritical_shows {s : State} (key : Nat) (free : bit (s.get Reg.FAULT_ACTIVE) 1 = false) :
    bit ((s.railCritical key).get Reg.FAULT_ACTIVE) 1 = true ∧ (s.railCritical key).get Reg.FAULT_LAST = 1 ∧
    (s.railCritical key).latched 11 = true := by
  unfold State.railCritical
  extract_lets _ s1
  have off : ¬ bit (s1.get Reg.FAULT_ACTIVE) 1 = true := show ¬ bit (s.get Reg.FAULT_ACTIVE) 1 = true by simp [free]
  rw [if_neg off]
  exact s1.criticalFault_shows 1 11 key (s1.get key)

/-- What a supply sample shows of a part with four quads. -/
def State.voltRows (s : State) (v : Volts) : List (Nat × Nat) :=
  [(Reg.VIN_MV, v.vin.toNat), (Reg.VIO_A_MV, v.vioA.toNat), (Reg.VIO_B_MV, v.vioB.toNat), (Reg.V_CORE_MV, v.core.toNat),
    (Reg.V_AUX_MV, v.aux.toNat),
    (Reg.VIN_MIN_MV, if s.get Reg.VOLT_SEQ = 0 then v.vin.toNat else min v.vin.toNat (s.get Reg.VIN_MIN_MV)),
    (Reg.VIN_RIPPLE_MV, v.ripple.toNat), (Reg.V_PA_MV 0, v.pa0.toNat), (Reg.V_PA_MV 1, v.pa1.toNat), (Reg.V_PA_MV 2, v.pa2.toNat),
    (Reg.V_PA_MV 3, v.pa3.toNat)] ++ if Variant.big s.variant then [(Reg.V_PXMAIN_MV, v.pxMain.toNat)] else []

theorem State.showVolts_four {s : State} (v : Volts) (four : Variant.quads s.variant = 4) :
    s.showVolts v = s.record Reg.VOLT_SEQ (s.voltRows v) := by
  unfold State.showVolts State.quadList
  rw [four]
  rfl

theorem State.voltRows_nodup (s : State) (v : Volts) : (Reg.VOLT_SEQ :: (s.voltRows v).map Prod.fst).Nodup := by
  unfold State.voltRows
  by_cases big : Variant.big s.variant = true
  · rw [if_pos big]
    simp only [List.cons_append, List.nil_append, List.map_cons, List.map_nil]
    decide
  · rw [if_neg big]
    simp only [List.append_nil, List.map_cons, List.map_nil]
    decide

theorem State.get_judgeRipple (s : State) (v : Nat) {k : Nat} (apart : k < 0x240000) : (s.judgeRipple v).get k = s.get k := by
  unfold State.judgeRipple
  extract_lets lim hi lo armed fires _ s1
  split
  · exact State.get_latch_apart _ _ _ _ (.inl apart)
  · rfl

/-! ### Process (R545) -/

/-- A die's deviation is judged: its event 14 waits for an acknowledge. -/
def State.judgeProc (lim : Nat) (t : State) (d : Nat × Nat × Int) : State :=
  if lim < d.2.2.natAbs && !t.hlt.procHeld.testBit d.1 then
    ({ t with hlt := { t.hlt with procHeld := setBit t.hlt.procHeld d.1 } }).latch 14 d.2.1 (tempRaw d.2.2)
  else t

/-- Event 14 is latched, and held for die `i` until it is acknowledged. -/
def State.ProcHeld (s : State) (i : Nat) : Prop := s.latched 14 = true ∧ s.hlt.procHeld.testBit i = true

theorem State.ProcHeld.judgeProc {s : State} {i : Nat} (h : s.ProcHeld i) (lim : Nat) (d : Nat × Nat × Int) :
    (s.judgeProc lim d).ProcHeld i := by
  unfold State.judgeProc
  split
  · refine ⟨State.latched_latch .., ?_⟩
    rw [State.latch_hlt]
    exact (testBit_setBit ..).2 (.inl h.2)
  · exact h

theorem State.judgeProc_beyond {s : State} {lim : Nat} {d : Nat × Nat × Int} (beyond : lim < d.2.2.natAbs)
    (free : s.hlt.procHeld.testBit d.1 = false) : (s.judgeProc lim d).ProcHeld d.1 := by
  unfold State.judgeProc
  rw [if_pos (by simp [beyond, free])]
  refine ⟨State.latched_latch .., ?_⟩
  rw [State.latch_hlt]
  exact (testBit_setBit ..).2 (.inr rfl)

/-- CX is the first die measured. -/
theorem State.dieProcs_cx {s : State} (p : Procs) (cx : bit (Variant.dieMask s.variant) 0 = true) :
    ∃ r, s.dieProcs p = (0, Reg.PROC_CX, p.cx) :: r :=
  ⟨_, List.filter_cons_of_pos cx⟩

theorem processMeasure_holds {s : State} (p : Procs) (up : s.sys.phase = .released)
    (cx : bit (Variant.dieMask s.variant) 0 = true) (beyond : s.get Reg.PROC_DRIFT_LIMIT < p.cx.natAbs)
    (free : s.hlt.procHeld.testBit 0 = false) :
    Completes (.processMeasure p) s fun t => t.latched 14 = true ∧ t.hlt.procHeld.testBit 0 = true := by
  let shown := s.record Reg.PROC_SEQ ((s.dieProcs p).map fun d => (d.2.1, tempRaw d.2.2))
  have row : exec (.processMeasure p) s = .next ((s.dieProcs p).foldl (State.judgeProc (s.get Reg.PROC_DRIFT_LIMIT)) shown) :=
    if_neg (by simp [up])
  obtain ⟨r, dies⟩ := State.dieProcs_cx p cx
  have first : (shown.judgeProc (s.get Reg.PROC_DRIFT_LIMIT) (0, Reg.PROC_CX, p.cx)).ProcHeld 0 := by
    refine State.judgeProc_beyond beyond ?_
    rw [State.record_hlt]
    exact free
  refine ⟨_, row, ?_⟩
  rw [dies, List.foldl_cons]
  exact List.foldlRecOn r _ (motive := fun t : State => t.ProcHeld 0) first fun u hu d _ => hu.judgeProc _ d

theorem voltageSample_shows {s : State} (v : Volts) (up : s.sys.phase = .released) (four : Variant.quads s.variant = 4) :
    Completes (.voltageSample v) s fun t => t.get Reg.VIN_MV = v.vin.toNat ∧ t.get Reg.V_CORE_MV = v.core.toNat ∧
      t.get Reg.VIO_B_MV = v.vioB.toNat ∧ t.get Reg.VIN_RIPPLE_MV = v.ripple.toNat ∧ t.get (Reg.V_PA_MV 3) = v.pa3.toNat ∧
      t.hlt.railGood = (if s.railsGood v then min 10 (s.hlt.railGood + 1) else 0) := by
  let judged := (s.showVolts v).judgeRipple v.ripple.toNat
  have row : exec (.voltageSample v) s = .next { judged with hlt := { judged.hlt with
      railGood := if s.railsGood v then min 10 (s.hlt.railGood + 1) else 0,
      vinArmed := s.hlt.vinArmed || s.get Reg.VIN_LOW_MV + 100 ≤ v.vin.toNat } } := if_neg (by simp [up])
  have shown : ∀ {k x : Nat}, (k, x) ∈ s.voltRows v → k < 0x240000 → judged.get k = x := fun mem below => by
    rw [State.get_judgeRipple _ _ below, State.showVolts_four v four]
    exact State.get_record_of_mem s (s.voltRows_nodup v) mem
  exact ⟨_, row, shown (by simp [State.voltRows]) (by decide), shown (by simp [State.voltRows]) (by decide),
    shown (by simp [State.voltRows]) (by decide), shown (by simp [State.voltRows]) (by decide),
    shown (by simp [State.voltRows]) (by decide), rfl⟩

theorem tempSample_hot {s : State} (t : Temps) (up : s.sys.phase = .released) (hot : 1500 ≤ (hottest (s.dieTemps t)).2.2)
    (free : bit (s.get Reg.FAULT_ACTIVE) 0 = false) : Completes (.tempSample t) s fun u => u.latched 9 = true := by
  refine ⟨_, exec_tempSample t up, State.afterTemps_told _ _ (State.judgeTemp_hot hot ?_)⟩
  rw [(s.tempsShown_writes t).get _ (by unfold OffFaults; decide)]
  exact free

theorem tempSample_warm {s : State} (t : Temps) (up : s.sys.phase = .released) (armed : s.hlt.warnArmed = true)
    (warm : s.i16 Reg.TEMP_WARN ≤ (hottest (s.dieTemps t)).2.2) (cool : (hottest (s.dieTemps t)).2.2 < 1500) :
    Completes (.tempSample t) s fun u => u.hlt.warnArmed = false ∧ u.latched 8 = true := by
  have limit : (s.tempsShown t).i16 Reg.TEMP_WARN = s.i16 Reg.TEMP_WARN := by
    rw [State.i16, (s.tempsShown_writes t).get _ (by unfold OffFaults; decide), State.i16]
  have judged := State.judgeTemp_warm (s := s.tempsShown t) (by rw [(s.tempsShown_monitors t).hlt, armed])
    (by rw [limit]; exact warm) cool
  have row := exec_tempSample t up
  rw [judged] at row
  refine ⟨_, row, ?_, State.afterTemps_told _ _ (State.latched_latch ..)⟩
  rw [(State.afterTemps_monitors _).hlt, State.latch_hlt]

/-- Settles O50, by what each monitor's row shows and latches, whatever else goes off with it. -/
theorem monitorsShowAndLatch : Obligations.MonitorsShowAndLatch := by
  refine ⟨fun t s up hot free => tempSample_hot t up hot free, fun t s up armed warm cool => tempSample_warm t up armed warm cool,
    hottest_spec, fun v s up four => voltageSample_shows v up four, fun s up armed => ?_, fun s up off => ?_, fun s up free => ?_,
    fun q s up four good => ?_, fun r q s up held => ?_, fun p s up cx beyond free => processMeasure_holds p up cx beyond free,
    fun q s px present good => ?_, fun quad s other => ⟨s, if_pos (by simp [other]), rfl⟩, fun s px up free => ?_,
    fun q s present good => ⟨_, rfl, State.railLost_shows present good⟩⟩
  · have row : exec (.railComparatorTrip .vinLow) s =
        .next (({ s with hlt := { s.hlt with vinArmed := false } } : State).latch 10 Reg.VIN_MV (s.get Reg.VIN_MV)) :=
      (if_neg (by simp [up])).trans (congrArg Host.Outcome.next (if_pos armed))
    refine ⟨_, row, ?_, State.latched_latch .., State.get_latch_apart _ _ _ _ (by decide)⟩
    rw [State.latch_hlt]
  · exact ⟨s, (if_neg (by simp [up])).trans (congrArg Host.Outcome.next (if_neg (by simp [off]))), rfl⟩
  · exact ⟨_, if_neg (by simp [up]), s.railCritical_shows Reg.V_CORE_MV free⟩
  · exact ⟨_, if_neg (by simp [up]), State.railLost_shows (by rw [four]; exact q.isLt) good⟩
  · obtain ⟨rfl, bad⟩ | ⟨rfl, off⟩ := held
    · exact ⟨s, (if_neg (by simp [up])).trans (congrArg Host.Outcome.next (State.railLost_again bad)), rfl⟩
    · exact ⟨s, (if_neg (by simp [up])).trans (congrArg Host.Outcome.next (if_neg (by simp [off]))), rfl⟩
  · exact ⟨_, if_neg (by simp [px]), State.railLost_shows present good⟩
  · have row : exec (.pxRailFault none) s = .next (s.railCritical Reg.V_PXMAIN_MV) :=
      (if_neg (by simp [px])).trans (congrArg Host.Outcome.next (if_neg (by simp [up])))
    obtain ⟨active, last, told⟩ := s.railCritical_shows Reg.V_PXMAIN_MV free
    exact ⟨_, row, told, active, last⟩

end Sys2Proof.Machine
end
